-- ==== Sys2Proof/Word.lean ====
section
/-!
DEFINITION. The words of the Reliability Manager: bytes, 32-bit unit addresses (R5), 64-bit streamer
and seed words (R162, R132), 128-bit Tether flits (R44), and their plainest arithmetic.
-/
namespace Sys2Proof

/-- One byte of a record, a frame or a block. -/
abbrev Byte := BitVec 8
/-- A Physical Unit Address (R5). -/
abbrev Pua := BitVec 32
/-- A streamer word, a signature, a seed or a 64-bit object value. -/
abbrev Word64 := BitVec 64
/-- A 128-bit Tether flit (R44). -/
abbrev Flit := BitVec 128

/-- The lowest `n` bytes of `v`, least significant byte first (R470). -/
def leBytes : Nat → Nat → List Byte
  | 0, _ => []
  | n + 1, v => BitVec.ofNat 8 v :: leBytes n (v / 256)

/-- The number that bytes spell, least significant byte first (R470). -/
def leNat : List Byte → Nat
  | [] => 0
  | b :: bs => b.toNat + 256 * leNat bs

/-- `n` zero bytes. -/
def zeros (n : Nat) : List Byte := List.replicate n 0

/-- Cut or fill with zero bytes to exactly `n` bytes. -/
def fitBytes (n : Nat) (bs : List Byte) : List Byte := (bs ++ zeros n).take n

/-- Addition that stops at the greatest value of `w` bits (a saturating count). -/
def satAdd (w a b : Nat) : Nat := min (a + b) (2 ^ w - 1)

end Sys2Proof
end

