-- ==== Sys2Proof/Syntax.lean ====
section
/-!
DEFINITION. The commands of the block: one constructor for each row of spec/opcode_table.json, with
the row's operands. The first operand `dt` of every command is the package time in ns that has passed
since the command before it (notes/assumptions/1.md).
-/
namespace Sys2Proof

/-- An access path (R430): a field-bus port of a node (`b` is port B), or a mirror-channel mailbox
numbered die × 256 + m (R450). -/
inductive Path where
  | port (die : Nat) (b : Bool)
  | mailbox (n : Nat)
  deriving DecidableEq, Repr

/-- A mirror-channel request (R451). `check` is the CRC-32C of bytes 56 onward left out; `host` is the
bulk data that the host-I/O chiplet moves for op 0x06 (R452). -/
structure MailReq where
  op : Nat
  index : Nat
  sub : Nat
  length : Nat
  tag : Nat
  hostAddr : Nat
  data : List Byte
  check : BitVec 32
  deriving DecidableEq, Repr

/-- What a user tile is (R105, R127): a pure contraction tile, a fused tile, another compute tile that
is eligible, an ineligible compute tile, or a tile that only moves data. -/
inductive TileKind where
  | contraction | fused | eligible | ineligible | move
  deriving DecidableEq, Repr

/-- An input block of a tile: where it lies (R147), its local SRAM block when it has one, and its
streamer word as read. -/
structure InBlock where
  source : Nat
  localBlock : Option Nat
  word : Word64
  deriving DecidableEq, Repr

/-- An output block of a tile: its destination, its local SRAM block, and the format code the tile
program declares for it (R166, R183). -/
structure OutBlock where
  dest : Nat
  localBlock : Option Nat
  format : Nat
  deriving DecidableEq, Repr

/-- A tile as the control core issues it (R146, R154): `magnitude` is none for 0xFF. -/
structure Tile where
  kind : TileKind
  program : Nat
  params : Nat
  command : Nat
  orderFree : Bool
  reduction : Nat
  magnitude : Option Int
  outFormat : Nat
  inputs : List InBlock
  outputs : List OutBlock
  deriving DecidableEq, Repr

/-- What the Core Port taps of one execution of a contraction tile (R127, R128, R130): operand formats
as 0x2502 subs 1 to 6, bit patterns row by row, the position codes of a 2:4 sparse A, the loaded C0,
the drain before conversion, and the two converted outputs (R129). -/
structure Taps where
  fmtA : Nat
  fmtB : Nat
  m : Nat
  n : Nat
  k : Nat
  a : List Nat
  codes : Option (List Nat)
  b : List Nat
  c0 : Option (List Nat)
  drain : List Nat
  convCore : List Nat
  convPort : List Nat
  deriving DecidableEq, Repr

/-- The result of one execution as the Core Port reports it: signature (R153), the streamer words of
its output blocks, and for an order-free tile its output elements as bit patterns (R154). -/
structure RunResult where
  signature : Word64
  words : List Word64
  elements : List Nat
  deriving DecidableEq, Repr

/-- A transfer of one block (R169): its number, source and receiving unit, the slices it names, the
destination block, and the request epoch in its tag (R282). -/
structure Transfer where
  id : Nat
  source : Pua
  sourceSlice : Nat
  receiver : Pua
  destSlice : Nat
  block : Nat
  epoch : Nat
  lcn : Option Nat
  toHost : Bool
  deriving DecidableEq, Repr

/-- A block of DRAM: die × 16 + stack, pseudo-channel slot and block within it. -/
structure DramAddr where
  stack : Nat
  slot : Nat
  block : Nat
  deriving DecidableEq, Repr

/-- An event as its unit detects it: cause code of R228 (0 for none), Reel code of R386 (0 for none),
the unit it names, the slice it concerns and its record payload. -/
structure EventReport where
  cause : Nat
  code : Nat
  pua : Pua
  slice : Nat
  payload : List Byte
  deriving DecidableEq, Repr

/-- An idle notice (R197). -/
structure IdleNotice where
  slice : Nat
  flags : Nat
  id : Nat
  start : Nat
  length : Nat
  period : Nat
  firstLcn : Nat
  count : Nat
  deriving DecidableEq, Repr

/-- A load notice (R315): amount in A, lead in ns. -/
structure LoadNotice where
  slice : Nat
  mask : Nat
  direction : Nat
  amount : Nat
  lead : Nat
  deriving DecidableEq, Repr

/-- What the job runtime asks of a new slice (R10, R33, R255): its id, role code, box, whether it
accepts a reduced count of logical cores, and the memory blocks it is granted per stack. -/
structure SliceRequest where
  id : Nat
  role : Nat
  origin : Nat × Nat × Nat
  extent : Nat × Nat × Nat
  acceptReduced : Bool
  memory : List (Nat × Nat)
  deriving DecidableEq, Repr

/-- A command of the job runtime for a cluster's control core (R265). -/
structure Command where
  id : Nat
  timeout : Nat
  checkpointable : Bool
  externalWait : Bool
  meetsR274 : Bool
  deriving DecidableEq, Repr

/-- A test tile (R202, R213): what kind of test it is and on which core. `kind` is 0 random-operand,
1 known-answer, 2 checker, 3 margin, 4 March C−; `entry` is the seed or the entry. -/
structure TestTile where
  kind : Nat
  entry : Nat
  core : Pua
  partner : Option Pua
  deriving DecidableEq, Repr

/-- One reading of the 1 ms energy interval (R341): voltage in mV and current in A of a rail. -/
structure RailReading where
  millivolt : Nat
  ampere : Nat
  deriving DecidableEq, Repr

/-- The activity that a slice shows in one interval: field index die × 6 + field, contraction,
non-contraction and movement core-cycles (R342). -/
structure Activity where
  slice : Nat
  field : Nat
  contraction : Nat
  nonContraction : Nat
  movement : Nat
  deriving DecidableEq, Repr

/-- One trace packet as R417 and R419 lay it out: its type, the body without slot, coarse flag and
delta, and its extension words. -/
structure Packet where
  type : Nat
  body : Nat
  extension : List Nat
  deriving DecidableEq, Repr

/-- What discovery finds in one stage on one die (R347, R359, R364): the units that did not answer or
train, the units whose saved training fell back, responders that the plan does not hold, units whose
screen failed, and the detail code of R355. -/
structure StageFindings where
  missing : List Pua
  fallbacks : List Pua
  anomalies : List Pua
  failed : List Pua
  detail : Nat
  deriving DecidableEq, Repr

/-- The commands of the block, in the order of spec/opcode_table.json. -/
inductive Instr where
  | objectWrite (dt : Nat) (path : Path) (index sub : Nat) (data : List Byte)
  | sdoInitiate (dt : Nat) (path : Path) (download : Bool) (index sub size : Nat) (expedited : Option (List Byte))
  | sdoSegment (dt : Nat) (path : Path) (data : List Byte) (last : Bool)
  | sdoTimeout (dt : Nat) (path : Path)
  | mailboxRead (dt : Nat) (mailbox : Nat) (req : MailReq)
  | mailboxWrite (dt : Nat) (mailbox : Nat) (req : MailReq)
  | mailboxBulkRead (dt : Nat) (mailbox : Nat) (req : MailReq)
  | mailboxBulkWrite (dt : Nat) (mailbox : Nat) (req : MailReq) (host : List Byte)
  | unitCursorByLcn (dt : Nat) (path : Path) (lcn : Nat)
  | unitCursorByPua (dt : Nat) (path : Path) (pua : Pua)
  | sliceCreate (dt : Nat) (req : SliceRequest)
  | sliceTeardown (dt : Nat) (slice : Nat)
  | generationLoadAck (dt : Nat) (slice table : Nat)
  | quiesceMarkSend (dt : Nat) (slice : Nat) (point : Pua) (injected ejected : Nat)
  | quiesceMarkArrival (dt : Nat) (slice : Nat) (point : Pua)
  | quiesceTimeout (dt : Nat) (slice : Nat)
  | zeroFillComplete (dt : Nat) (slice stack : Nat)
  | eventReport (dt : Nat) (reporter : Pua) (event : EventReport)
  | arbiterForward (dt : Nat) (die : Nat)
  | eventSequence (dt : Nat)
  | checkpointWriteComplete (dt : Nat)
  | sequenceReturn (dt : Nat) (die : Nat)
  | eventHandling (dt : Nat) (die : Nat)
  | shadowLoadAck (dt : Nat) (commit : Nat) (bridle : Pua)
  | commitAckDeadline (dt : Nat) (commit : Nat)
  | commitLand (dt : Nat) (commit : Nat)
  | storeRecordWrite (dt : Nat) (die : Nat)
  | lockstepFaultNotice (dt : Nat)
  | lockstepDisagreement (dt : Nat) (die : Nat)
  | gondolaWatchdogTimeout (dt : Nat) (die : Nat)
  | crossingSlip (dt : Nat) (tether : Bool) (unit : Pua) (separation : Nat)
  | correctionSend (dt : Nat)
  | correctionArrival (dt : Nat) (keeper : Nat) (flit : Flit)
  | correctionMissed (dt : Nat) (keeper : Nat)
  | referenceLoss (dt : Nat)
  | referenceRestored (dt : Nat)
  | ripcordArrival (dt : Nat) (die : Nat) (byWire : Bool)
  | frequencyChangeRequest (dt : Nat) (slice mask code : Nat)
  | changeAcknowledge (dt : Nat) (change field : Nat)
  | changeAckDeadline (dt : Nat) (change : Nat)
  | changeHoldSample (dt : Nat) (change : Nat)
  | changeCountSwitch (dt : Nat) (change : Nat)
  | changeVerdict (dt : Nat) (change field : Nat)
  | modeFloorWrite (dt : Nat) (path : Path) (value : List Byte)
  | roleDefaultModeWrite (dt : Nat) (path : Path) (sub : Nat) (value : List Byte)
  | modeOverrideWrite (dt : Nat) (path : Path) (value : List Byte)
  | modeSwitch (dt : Nat) (slice cluster : Nat)
  | clearModelFlag (dt : Nat) (path : Path) (value : List Byte)
  | modelBucketRoll (dt : Nat)
  | ineligibleQuietTimeout (dt : Nat) (slice : Nat)
  | tileIssue (dt : Nat) (lcn : Nat) (tile : Tile)
  | contractionTileEnd (dt : Nat) (lcn : Nat) (taps : Taps) (result : RunResult)
  | recomputeAttemptEnd (dt : Nat) (lcn : Nat) (fetched : List Word64) (taps : Taps) (result : RunResult)
  | sampleStreamTileEnd (dt : Nat) (lcn : Nat) (result : RunResult)
  | pinnedBlockFetch (dt : Nat) (core : Pua) (block : Nat)
  | replayComplete (dt : Nat) (lcn : Nat) (fetched : List Word64) (result : RunResult)
  | tieBreakComplete (dt : Nat) (lcn : Nat) (result : RunResult) (current : List Word64)
  | replayGroupEnd (dt : Nat) (lcn group : Nat)
  | fullPairTileEnd (dt : Nat) (lcn : Nat) (leader follower : RunResult)
  | thirdExecutionComplete (dt : Nat) (lcn : Nat) (result : RunResult) (current : List Word64)
  | epochStart (dt : Nat) (slice : Nat)
  | seedDelivery (dt : Nat) (slice : Nat)
  | seedModeWrite (dt : Nat) (path : Path) (value : List Byte)
  | blockArrival (dt : Nat) (transfer : Transfer) (word : Word64) (payload : List Byte)
  | blockArrivalTimeout (dt : Nat) (transfer : Transfer) (addr : Option DramAddr)
  | repairWaitExpiry (dt : Nat) (transfer : Nat)
  | outboundBlockSend (dt : Nat) (core : Pua) (block : Nat) (payload : List Byte)
  | sramParityError (dt : Nat) (core : Pua) (block : Nat)
  | dramRead (dt : Nat) (addr : DramAddr) (first second : List Byte) (uncorrectable corrected : Bool)
  | dramWrite (dt : Nat) (addr : DramAddr) (transfer : Transfer) (word : Word64) (payload : List Byte)
  | seamBlockCheck (dt : Nat) (point : Pua) (transfer : Nat) (word : Word64) (payload : List Byte)
  | hostPartialWrite (dt : Nat) (addr : DramAddr) (slice offset : Nat) (bytes : List Byte)
  | hostIngress (dt : Nat) (addr : DramAddr) (slice format : Nat) (payload : List Byte)
  | lostStackRequest (dt : Nat) (addr : DramAddr) (write : Bool) (slice generation : Nat)
  | streamerCheckingWrite (dt : Nat) (path : Path) (value : List Byte)
  | idleNoticeOneShot (dt : Nat) (path : Path) (notice : IdleNotice)
  | idleNoticePeriodic (dt : Nat) (path : Path) (notice : IdleNotice)
  | idleNoticeRevoke (dt : Nat) (path : Path) (slice id : Nat)
  | idleNoticeRevokeAll (dt : Nat) (path : Path) (slice : Nat)
  | idleSlotStart (dt : Nat) (slice id : Nat)
  | idleSlotEnd (dt : Nat) (slice id : Nat)
  | testTileStart (dt : Nat) (test : TestTile)
  | testTileEnd (dt : Nat) (core : Pua) (expected signature : Word64) (clean injected : List Bool)
  | testThirdRunEnd (dt : Nat) (core : Pua) (signature : Word64)
  | forcedCheckerSlot (dt : Nat) (bridle : Pua)
  | testOverdue (dt : Nat) (core : Pua)
  | fmaxChangeRequest (dt : Nat) (die : Nat)
  | fmaxRecordWrite (dt : Nat) (path : Path) (data : List Byte)
  | shortBucketRoll (dt : Nat)
  | serviceDayRoll (dt : Nat) (die : Nat)
  | serviceSecondsSave (dt : Nat) (die : Nat)
  | watchRelease (dt : Nat) (unit : Pua)
  | quarantineHoldEnd (dt : Nat) (unit : Pua)
  | screenComplete (dt : Nat) (unit : Pua) (pass : Bool)
  | pseudoChannelCopyEnd (dt : Nat) (unit : Pua)
  | forcedRetire (dt : Nat) (path : Path)
  | forcedReadmit (dt : Nat) (path : Path)
  | forcedReadmitClear (dt : Nat) (path : Path)
  | unitExchange (dt : Nat) (path : Path) (spare : Pua)
  | withholdRepeat (dt : Nat) (core : Pua)
  | routerProbeTimeout (dt : Nat) (router : Pua)
  | commandAccept (dt : Nat) (cluster : Pua) (command : Command)
  | commandComplete (dt : Nat) (cluster : Pua) (id : Nat)
  | progressWindowExpiry (dt : Nat) (cluster : Pua)
  | commandTimeout (dt : Nat) (cluster : Pua) (id : Nat) (core : Option Nat)
  | hangReportRepeat (dt : Nat) (cluster : Pua)
  | hangHandling (dt : Nat) (die : Nat)
  | captureComplete (dt : Nat) (die : Nat)
  | resetComplete (dt : Nat) (domain : Pua) (code : Nat)
  | resetTimeout (dt : Nat) (domain : Pua) (code : Nat)
  | transitDrainEnd (dt : Nat) (die : Nat)
  | resetRequest (dt : Nat) (path : Path) (value : List Byte)
  | bridleProbe (dt : Nat) (bridle : Pua)
  | bridleProbeTimeout (dt : Nat) (bridle : Pua)
  | fieldAgentHeartbeatTimeout (dt : Nat) (agent : Pua)
  | orderlyRipcordRequest (dt : Nat) (path : Path) (value : List Byte)
  | stopCountCut (dt : Nat) (landed : Nat)
  | requestedFrequencyWrite (dt : Nat) (path : Path) (value : List Byte)
  | operatorStepCapWrite (dt : Nat) (path : Path) (value : List Byte)
  | regulatorSettled (dt : Nat) (field : Nat)
  | settleTimeout (dt : Nat) (field : Nat)
  | powerSumTick (dt : Nat)
  | droopTrip (dt : Nat) (field : Nat)
  | stretchEnd (dt : Nat) (field : Nat)
  | stretchDutyWindow (dt : Nat) (field : Nat)
  | droopCodeRelease (dt : Nat) (field : Nat)
  | loadNotice (dt : Nat) (mailbox : Nat) (notice : LoadNotice)
  | lnLoadNotice (dt : Nat) (die : Nat) (frame : BitVec 32)
  | lnReservoirArm (dt : Nat) (die : Nat) (frame : BitVec 32)
  | lnReservoirDisarm (dt : Nat) (die : Nat) (frame : BitVec 32)
  | loadStep (dt : Nat) (field rise within : Nat)
  | reservoirDischarge (dt : Nat) (field below : Nat)
  | reservoirRechargeEnd (dt : Nat) (field : Nat)
  | reservoirArmingWrite (dt : Nat) (path : Path) (value : List Byte)
  | phaseFailure (dt : Nat) (field phase : Nat)
  | lnAlert (dt : Nat) (die : Nat) (vin : Nat)
  | undervoltageTimeout (dt : Nat) (field : Nat)
  | releaseGroup (dt : Nat) (field headroom : Nat)
  | rampHeadroomTimeout (dt : Nat) (field : Nat)
  | idleHoldExpiry (dt : Nat) (field : Nat)
  | diodeReading (dt : Nat) (die : Nat) (raw : Int) (flagged : Bool)
  | sensorFaultTimeout (dt : Nat) (die : Nat)
  | thermalCapRise (dt : Nat) (die : Nat)
  | trayInputChange (dt : Nat) (die input : Nat) (level : Bool)
  | trayInputAccept (dt : Nat) (die input : Nat)
  | chatterEnd (dt : Nat) (die input : Nat)
  | trayLatchClear (dt : Nat) (path : Path) (sub : Nat) (value : List Byte)
  | inputMismatchTimeout (dt : Nat) (die input : Nat)
  | vinPoll (dt : Nat) (die millivolt : Nat)
  | supplyStateRelease (dt : Nat) (die : Nat)
  | writeSuspendRelease (dt : Nat) (die : Nat)
  | aonSupplyFall (dt : Nat) (die : Nat)
  | vfastFall (dt : Nat) (die : Nat)
  | fastDomainResetRelease (dt : Nat) (die : Nat)
  | energyIntegration (dt : Nat) (die : Nat) (fields : List RailReading) (dram : List RailReading)
      (work : List Activity) (total : List (Nat × Nat)) (moved : List (Nat × Nat))
  | stageRun (dt : Nat) (die stage : Nat) (findings : StageFindings)
  | stageComplete (dt : Nat) (die stage : Nat) (findings : StageFindings)
  | stageAdvance (dt : Nat)
  | anchorReadyTimeout (dt : Nat)
  | fieldAgentRegistration (dt : Nat) (agent : Pua)
  | bridleRegistration (dt : Nat) (bridle : Pua) (ports : Nat) (controlCore : Nat)
  | bridleMissingDeadline (dt : Nat) (bridle : Pua)
  | imageWrite (dt : Nat) (path : Path) (version : Nat) (image : List Byte)
  | commitTrialImage (dt : Nat) (path : Path) (value : List Byte)
  | trialCommitTimeout (dt : Nat)
  | selfTestStart (dt : Nat) (die : Nat)
  | testSliceEnd (dt : Nat) (die slice : Nat) (failures : List (Pua × Nat × Nat)) (pinFailures : Nat) (lanes : List (Nat × Nat))
  | testSliceBudgetExpiry (dt : Nat) (die slice : Nat)
  | reelRecordWrite (dt : Nat) (die : Nat)
  | reelEraseComplete (dt : Nat) (die : Nat)
  | storeOperationFailure (dt : Nat) (die chipSelect address : Nat)
  | storeSilentTimeout (dt : Nat) (die chipSelect : Nat)
  | reelClear (dt : Nat) (path : Path) (value : List Byte)
  | nextReadableRecord (dt : Nat) (path : Path)
  | returnStateSet (dt : Nat) (path : Path)
  | returnStateClear (dt : Nat) (path : Path)
  | counterRead (dt : Nat) (path : Path)
  | snapshotRequest (dt : Nat) (path : Path) (value : List Byte)
  | snapshotLatch (dt : Nat)
  | snapshotGatherComplete (dt : Nat)
  | traceArmByLcn (dt : Nat) (path : Path) (lcn : Nat)
  | traceArmByPua (dt : Nat) (path : Path) (pua : Pua)
  | slotStart (dt : Nat) (path : Path)
  | slotStop (dt : Nat) (path : Path)
  | slotFree (dt : Nat) (path : Path)
  | slotSwitch (dt : Nat) (die slot : Nat)
  | tracePacket (dt : Nat) (die slot : Nat) (packet : Packet)
  | traceFlushTimeout (dt : Nat) (die slot : Nat)
  | chunkDrain (dt : Nat) (die slot : Nat)
  | chunkIdleTimeout (dt : Nat) (die slot : Nat)
  | nextReadableChunk (dt : Nat) (path : Path)
  | nmtStart (dt : Nat) (die : Nat) (b : Bool) (node : Nat)
  | nmtStop (dt : Nat) (die : Nat) (b : Bool) (node : Nat)
  | nmtEnterPreOperational (dt : Nat) (die : Nat) (b : Bool) (node : Nat)
  | nmtResetApplication (dt : Nat) (die : Nat) (b : Bool) (node : Nat)
  | nmtResetCommunication (dt : Nat) (die : Nat) (b : Bool) (node : Nat)
  | heartbeatSend (dt : Nat) (die : Nat) (b : Bool)
  | tpdoSend (dt : Nat) (die : Nat) (b : Bool) (pdo : Nat)
  | emcyInhibitEnd (dt : Nat) (die : Nat) (b : Bool)
  | errorFieldClear (dt : Nat) (path : Path) (value : List Byte)
  | canBusError (dt : Nat) (die : Nat) (b : Bool) (busOff : Bool)
  | busOffRecovery (dt : Nat) (die : Nat) (b : Bool) (occurrences : Nat)
  | mailboxBind (dt : Nat) (path : Path) (slice : Nat)
  | mailboxUnbind (dt : Nat) (path : Path)
  | nonceRead (dt : Nat) (path : Path)
  | responseWrite (dt : Nat) (path : Path) (data : List Byte)
  | endSession (dt : Nat) (path : Path) (value : List Byte)
  | leaseExpiry (dt : Nat) (path : Path)
  | nonceExpiry (dt : Nat) (path : Path)
  | grantExpiry (dt : Nat) (path : Path)
  | backoffEnd (dt : Nat) (path : Path)
  | keyWrite (dt : Nat) (path : Path) (sub : Nat) (key : List Byte)
  | rawStoreWrite (dt : Nat) (path : Path) (data : List Byte)
  | tapBypass (dt : Nat) (die : Nat)
  | tapIdcode (dt : Nat) (die : Nat)
  | tapSamplePreload (dt : Nat) (die : Nat)
  | tapExtest (dt : Nat) (die : Nat)
  | tapAcExtest (dt : Nat) (die : Nat)
  | tapIntest (dt : Nat) (die : Nat)
  | tapPrivate (dt : Nat) (die : Nat) (code : Nat)
  | ineligibleComputeTileEnd (dt : Nat) (lcn : Nat)
  | syncObjectSignal (dt : Nat) (cluster : Pua) (object : Nat)
  | stageLimitExpiry (dt : Nat) (die stage : Nat)
  | alwaysOnSupplyRise (dt : Nat) (die : Nat)
  | errorActiveReturn (dt : Nat) (die : Nat) (b : Bool)
  deriving DecidableEq, Repr

end Sys2Proof
end

