-- ==== Sys2Proof/Decode.lean ====
section
/-!
DEFINITION. The decoder of the command table. spec/opcode_table.json gives no bits to any row: commands
arrive as frames, mailbox requests and events of the block, never as instruction words.
-/
namespace Sys2Proof

/-- The command that a word spells by the table's bits: no row gives bits, so no word spells one. -/
def decodeTableWord (_nbits _w : Nat) : Option Instr := none

end Sys2Proof
end

