-- ==== Sys2Proof/Config.lean ====
section
/-!
DEFINITION. What the specification leaves open: free values. Each constant has no body, so no proof can see
its value. Those with a first argument `n` are applied to `State.free`, a counter that each use advances.
-/
namespace Sys2Proof

/-- One entry of the known-answer set (R206): its tile program and descriptor by number, its seed, the signature that it
expects, for a checker entry the checker that it exercises (R209: 0 projection unit on a floating format, 1 on INT8, 2 replay
comparator, 3 order-free comparator) and its injection value. -/
structure KnownAnswer where
  program : Nat
  descriptor : Nat
  seed : Word64
  signature : Word64
  checker : Nat
  injection : Nat
  deriving DecidableEq, Repr, Inhabited

namespace Config

/-- A fresh 64-bit value: slice seeds (R133), test seeds (R203), nonces (R456). -/
opaque freeWord : Nat → Word64
/-- A fresh yes or no where a result lies within the spec's rounding margin or is undefined (R135, R506). -/
opaque freeBit : Nat → Bool
/-- A fresh number where the spec gives an effect but no value. -/
opaque freeNat : Nat → Nat
/-- What a counter that no command of the table advances has counted since it was last read (R405, R406), by what it counts and a
moment. -/
opaque counted : Nat → Nat → Nat
/-- What an object shows that the spec gives no value for, by key index × 256 + sub: serials, dates and
version numbers of this part (R476, R464). -/
opaque identity : Nat → Nat
/-- The IDCODE revision [31:28] and manufacturer code [11:1] of R503. -/
opaque idcodeRevision : BitVec 4
opaque manufacturerCode : BitVec 11
/-- The identity that a stack reports (R477), by die × 16 + stack. -/
opaque stackIdentity : Nat → Nat
/-- The known-answer set (R206: the specification gives no entry), by the number of rewrites that have changed it and entry. -/
opaque knownAnswer : Nat → Nat → KnownAnswer
/-- What a byte of the store belongs to (R485 gives no layout; notes/assumptions/189.md), by die and address: the kind of record,
its key and the byte's place in it. -/
opaque storeRecord : Nat → Nat → Nat × Nat × Nat
/-- A count that has passed the greatest value of its object's type reads as this (no rule states it), by
object key and count. -/
opaque overflowed : Nat → Nat → Nat
/-- The contents of a section of a capture (R276: the spec gives no layout), by die, capture and block. -/
opaque captureBlock : Nat → Nat → Nat → List Byte
/-- The grant of a slice and step where an entry is unusable (R305 gives no F there). -/
opaque grantWithoutEntry : Nat → Nat → Nat
/-- The program counter of a traced control core (R419), by slot and time: no command carries it. -/
opaque programCounter : Nat → Nat → Nat
/-- The version text of a firmware image (R464, R370), by its image version. -/
opaque imageName : Nat → List Byte
/-- The privilege keys at manufacture (R16, R461), by class code. -/
opaque key : Nat → List Byte
/-- A byte of the store that no raw write has set: the layout of its records is not given (R485), by die and address. -/
opaque storeByte : Nat → Nat → Byte
/-- The capacity in bytes of a service device as its SFDP tables report it (R485, R499), by die and chip select. -/
opaque storeSize : Nat → Nat → Nat
/-- The version that a firmware image carries (R369: the image's layout is not given). -/
opaque imageVersion : List Byte → Nat
/-- The mode that a role or override asks for while the stored screening policy is undefined (R117), by role. -/
opaque undefinedMode : Nat → Nat
/-- The bytes that a record write leaves while recording is undefined (R403), by die and index. -/
opaque undefinedRecord : Nat → Nat → List Byte
/-- Bytes 12 to 43 of the control core's entry in a parameter block (R373 gives them for cores), by cluster key. -/
opaque controlParameters : Nat → List Byte

end Config

end Sys2Proof
end

