-- ==== Sys2Proof/Machine/Crc.lean ====
section
/-!
DEFINITION. The checks and hashes of the block: CRC-32C (R163), CRC-64 (R153), CRC-8 (R316), SHA-256 and
HMAC-SHA-256 (R456; SHA-256 itself is that of FIPS 180-4, PRESUMED, notes/assumptions/9.md).
-/
namespace Sys2Proof.Machine

/-- One bit of a reflected CRC of `w` bits with reflected polynomial `poly`. -/
def crcBitR {w : Nat} (poly reg : BitVec w) : BitVec w :=
  if reg.getLsbD 0 then (reg >>> 1) ^^^ poly else reg >>> 1

/-- One byte of a reflected CRC. -/
def crcByteR {w : Nat} (poly reg : BitVec w) (b : Byte) : BitVec w :=
  (List.range 8).foldl (fun r _ => crcBitR poly r) (reg ^^^ b.setWidth w)

/-- CRC-32C (Castagnoli, 0x1EDC6F41 reflected; initial value and final XOR of all ones) (R163). -/
def crc32c (bs : List Byte) : BitVec 32 :=
  ~~~ (bs.foldl (crcByteR 0x82F63B78#32) 0xFFFFFFFF#32)

/-- One bit of a CRC sent most significant bit first. -/
def crcBitL {w : Nat} (poly reg : BitVec w) : BitVec w :=
  if reg.getMsbD 0 then (reg <<< 1) ^^^ poly else reg <<< 1

/-- CRC-8 with polynomial 0x07 and initial value 0x00 (R316, R501). -/
def crc8 (bs : List Byte) : BitVec 8 :=
  bs.foldl (fun r b => (List.range 8).foldl (fun q _ => crcBitL 0x07#8 q) (r ^^^ b)) 0

/-- The last `n` bytes of a record with a CRC-32C over the bytes before: `body` then its check (R239, R384). -/
def withCheck (body : List Byte) : List Byte := body ++ leBytes 4 (crc32c body).toNat

/-- Whether the check that follows `n` bytes holds (R239, R383, R384). -/
def checkHolds (n : Nat) (bs : List Byte) : Bool :=
  (bs.drop n).take 4 == leBytes 4 (crc32c (bs.take n)).toNat

/-! ### SHA-256

R456 names HMAC-SHA-256 and gives no more of it. The standard takes its constants from the primes: the first 32 bits of the
fraction of their square roots (the initial value) and cube roots (the rounds); they are computed here. -/

/-- The largest `r` below `2 ^ bits` with `r ^ e ≤ n`, bit by bit from the top. -/
def rootBelow (e n : Nat) : Nat → Nat → Nat
  | 0, r => r
  | bits + 1, r => rootBelow e n bits (if (r + 2 ^ bits) ^ e ≤ n then r + 2 ^ bits else r)
/-- The first 32 bits after the point of the e-th root of `p`. -/
def rootFraction (e p : Nat) : BitVec 32 := BitVec.ofNat 32 (rootBelow e (p * 2 ^ (32 * e)) 40 0)
/-- The primes below 312, of which there are 64. -/
def smallPrimes : List Nat :=
  (List.range 312).filter fun n => 2 ≤ n && (List.range 18).all fun d => d < 2 || n ≤ d || n % d ≠ 0
/-- The XOR of a word rotated right by each of the amounts. -/
def rotXor (x : BitVec 32) (by_ : List Nat) : BitVec 32 := by_.foldl (fun acc n => acc ^^^ x.rotateRight n) 0
/-- A 32-bit word from four bytes, most significant first. -/
def wordOfBytes (bs : List Byte) : BitVec 32 := bs.foldl (fun w b => (w <<< 8) ||| b.setWidth 32) 0
/-- The bytes of a 32-bit word, most significant first. -/
def bytesOfWord (w : BitVec 32) : List Byte := (leBytes 4 w.toNat).reverse
/-- The message words of a 64-byte block, newest first: its sixteen words, then those that `n` steps add. -/
def messageWords (block : List Byte) : Nat → List (BitVec 32)
  | 0 => ((List.range 16).map fun i => wordOfBytes ((block.drop (4 * i)).take 4)).reverse
  | n + 1 =>
    let past := messageWords block n
    let back := fun i => past.getD (i - 1) 0
    (back 16 + back 7 + (rotXor (back 15) [7, 18] ^^^ back 15 >>> 3) + (rotXor (back 2) [17, 19] ^^^ back 2 >>> 10)) :: past
/-- The eight working words move on by one round: `x` is the sum of the round's constant and message word. -/
def mixRound (h : List (BitVec 32)) (x : BitVec 32) : List (BitVec 32) :=
  let at_ := fun i => h.getD i 0
  let choice := at_ 6 ^^^ (at_ 4 &&& (at_ 5 ^^^ at_ 6))
  let majority := (at_ 0 &&& (at_ 1 ||| at_ 2)) ||| (at_ 1 &&& at_ 2)
  let into := x + at_ 7 + choice + rotXor (at_ 4) [6, 11, 25]
  (into + majority + rotXor (at_ 0) [2, 13, 22]) :: (h.take 3 ++ [at_ 3 + into] ++ (h.drop 4).take 3)
/-- The hash value after one more 64-byte block. -/
def absorb (hash : List (BitVec 32)) (block : List Byte) : List (BitVec 32) :=
  let sums := ((smallPrimes.map (rootFraction 3)).zip (messageWords block 48).reverse).map fun e => e.1 + e.2
  (hash.zip (sums.foldl mixRound hash)).map fun e => e.1 + e.2
/-- SHA-256 of a byte string: padded with a one bit, zeros and its length in bits to whole blocks. -/
def sha256 (m : List Byte) : List Byte :=
  let padded := m ++ [0x80] ++ zeros ((119 - m.length % 64) % 64) ++ (leBytes 8 (8 * m.length)).reverse
  let blocks := (List.range (padded.length / 64)).map fun i => (padded.drop (64 * i)).take 64
  (blocks.foldl absorb ((smallPrimes.take 8).map (rootFraction 2))).flatMap bytesOfWord

/-- HMAC-SHA-256 under a key of at most 64 bytes (R456). -/
def hmac (key m : List Byte) : List Byte :=
  let k := fitBytes 64 key
  sha256 (k.map (· ^^^ 0x5C#8) ++ sha256 (k.map (· ^^^ 0x36#8) ++ m))

end Sys2Proof.Machine
end

