-- ==== Sys2Proof/Machine/State.lean ====
section
/-!
DEFINITION. The state of the Reliability Manager as plain data, its reset value, and the reasons for
which a command can stop. A `Tab` is a list of (key, entry) pairs with rising keys; what an unlisted key
reads as is said at the field (the operations stand in Machine/Ops.lean).
-/
namespace Sys2Proof.Machine

/-- Reasons to stop. No command of the table stops: the type is kept for the host's interface. -/
inductive Fault where
  /-- Raised by no command (safe). -/
  | none
  deriving DecidableEq, Repr

/-- Reasons to refuse a command. -/
inductive Refusal where
  /-- Raised by an arm of exec that has no meaning yet (safe). -/
  | notModelled (mnemonic : String)
  deriving DecidableEq, Repr

/-- A table: entries by rising key. -/
abbrev Tab (α : Type) := List (Nat × α)

/-- The product variant (R1). -/
inductive Variant where
  | dh100 | dh25
  deriving DecidableEq, Repr

/-- The unit states of R236, in the order of their codes 0 to 7. -/
inductive UnitState where
  | healthy | watched | quarantined | retired | spareReady | spareBusy | screening | absent
  deriving DecidableEq, Repr

/-- The screening modes of R119, in the order of their codes. -/
inductive Mode where
  | observe | standard | strict | full
  deriving DecidableEq, Repr

/-- Privilege classes (R15), 0x3F00 order: none, Observer, Operator, Service, Maker. -/
inductive Class where
  | none | observer | operator | service | maker
  deriving DecidableEq, Repr

/-- Start kinds (R349), in the order of their codes. -/
inductive StartKind where
  | cold | warm | retention | mixed
  deriving DecidableEq, Repr

/-- NMT states (R436). -/
inductive Nmt where
  | initialisation | preOperational | operational | stopped
  deriving DecidableEq, Repr

/-- What the Gondola does with a handling-queue entry: charge it to a unit (R228), decide a hang (R273),
lower fmax entries (R218), or only record it. -/
inductive EventKind where
  | charge | hang | fmax | record
  deriving DecidableEq, Repr

/-- An event on its way to the Anchor (R87, R384). `scope` is 0 for the unit's die, 1 for the Anchor's
die, 2 for every die (R385). `seqKeys` are the (slice, object) pairs that take its number, `emcy` the EMCY that announces it
(code, detail, node; R448), `detected` the qualifying hour in which a detected corruption event was detected (R115), `noteCode` and `note` the notification that it places (R454; 0 for none),
`arose` the moment and the command at which it arose (R89), `commit` the commit that the Anchor schedules as it numbers the event (R249), `ends` the slice whose end follows it (R186), `registers` the Core Port mask and control-core state of a registration, which ends at the discovery table (R358). -/
structure Event where
  kind : EventKind
  cause : Nat
  code : Nat
  pua : Nat
  slice : Nat
  pt : Nat
  coarse : Bool
  scope : Nat
  die : Nat
  payload : List Byte
  seqKeys : List (Nat × Nat)
  emcy : Option (Nat × Nat × Nat)
  detected : Option Nat
  noteCode : Nat
  note : List Byte
  arose : Nat × Nat
  commit : Option Nat
  ends : Option Nat
  registers : Option (Nat × Nat)
  deriving DecidableEq, Repr

/-- An event that the Anchor has numbered: the die that forwarded it and its position (R94). -/
structure Numbered where
  event : Event
  source : Nat
  position : Nat
  deriving DecidableEq, Repr

/-- A Reel record waiting to be written (R387, R388). -/
structure ReelEntry where
  event : Event
  position : Nat
  run : Nat
  held : Bool
  deriving DecidableEq, Repr

/-- One time keeper (R66): its count `base` at the moment `since` of the block's own clock, whether its
1,000 MHz clock runs, the ns still to absorb (R74), its start-up delay, flags and misses, the moment of the last eighth
miss (R57), the rate in parts per million of its die's always-on clock (R63, R79) and the ns of that clock past the last
step of the coarse count. -/
structure Keeper where
  base : Nat
  since : Nat
  running : Bool
  slew : Nat
  applied : Bool
  offsetFault : Bool
  coarse : Bool
  delay : Nat
  missed : Nat
  restarted : Bool
  stoppedAt : Nat
  stoppedFor : Nat
  lossAt : Nat
  rate : Nat
  rest : Nat
  deriving DecidableEq, Repr

/-- A count of ns that advances while `since` is set (service seconds R232, qualifying time R115). -/
structure Stopwatch where
  total : Nat
  since : Option Nat
  deriving DecidableEq, Repr

/-- A unit record (R239) with the volatile scores beside it (R232, R234, R237, R258). `short` holds the
points of each bucket by the PT at which the bucket began, `served` the die's service seconds when the unit last left service
(R215). -/
structure UnitRec where
  state : UnitState
  flags : Nat
  cause : Nat
  lifetime : Nat
  bound : Nat
  run : Nat
  seq : Nat
  era : Nat
  day : Nat
  long : List Nat
  decisive : Nat
  short : List (Nat × Nat)
  lastPoints : Option Nat
  holdFrom : Option Nat
  holdPaused : Bool
  open_ : Bool
  nextState : Option (Nat × Nat)
  lastSeq : Option Nat
  served : Nat
  dirty : Bool
  deriving DecidableEq, Repr

/-- An fmax record (R222): codes 0 to 28, 0xFF unusable. -/
structure FmaxRec where
  current : List Nat
  characterised : List Nat
  run : Nat
  step : Nat
  outcome : Nat
  lowerings : Nat
  slow : Bool
  tests : Nat
  flushed : Nat
  dirty : Bool
  deriving DecidableEq, Repr

/-- What a Bridle keeps for one LCN (R132, R143, R156, R145): the counts, the last matching replay, the last released
tile and the first tile since its binding (count and PT), the counts that a cut skipped (R144), whether its next
sample-stream or contraction tile is an extra sample (R148, R204), the groups with a verdict, by their first count,
whether it waits for a group with a verdict (R114), the group in progress (first count, length, drawn count), the end PT of
its last tile, the deadlines of the groups that ended. -/
structure LcnRec where
  progress : Nat
  contraction : Nat
  lastMatch : Option (Nat × Nat)
  lastReleased : Option (Nat × Nat)
  first : Option (Nat × Nat)
  gaps : List (Nat × Nat)
  makeUp : Bool
  extraSample : Bool
  extraContraction : Bool
  verdicts : List Nat
  short : Bool
  draw : Option (Nat × Nat × Nat)
  lastEnd : Nat
  groupEnds : Tab Nat
  deriving DecidableEq, Repr

/-- A block in a core's local SRAM (R168, R181): its streamer word, whether that is released (R101), the open record of the
tile that produced it, and the transfer that brought it from outside the core (R180). -/
structure SramBlock where
  word : Word64
  released : Bool
  producer : Option Tile
  source : Option Transfer
  deriving DecidableEq, Repr

/-- A replay descriptor (R146): `group` is the first count of the group that its verdict serves, none for the replay of an
unchecked execution (R139), `attempt` which recompute attempt that was, 0 for a first execution. -/
structure Descriptor where
  lcn : Nat
  progress : Nat
  group : Option Nat
  original : Nat
  tile : Tile
  epoch : Nat
  result : RunResult
  endPt : Nat
  unchecked : Bool
  attempt : Nat
  stale : Bool
  deriving DecidableEq, Repr

/-- A recompute in progress (R140): the attempt that runs, on which core, and what it recomputes, with the progress count and
end PT of its first execution where that belonged to the sample stream. -/
structure Recompute where
  tile : Tile
  original : Nat
  attempt : Nat
  core : Nat
  first : Nat
  contraction : Nat
  epoch : Nat
  stream : Option (Nat × Nat)
  outbound : Bool
  deriving DecidableEq, Repr

/-- A tie-break (R155) or third execution (R159) in progress, with the borrowed pair that it holds. -/
structure Arbitration where
  desc : Descriptor
  replay : RunResult
  replayCore : Nat
  core : Nat
  released : Option (Nat × Nat)
  borrowed : List Nat
  deriving DecidableEq, Repr

/-- A test tile in progress (R202, R204): the runs so far. It belongs to slice 0xFFF, with `generation` as its tag (R170, R196).
`position` is the place that a checker test draws for its injection (R209). -/
structure TestRun where
  test : TestTile
  started : Nat
  reruns : Nat
  offset : Nat
  base : Nat
  generation : Nat
  position : Nat
  core : Option Word64
  partner : Option Word64
  third : Option Nat
  forced : Bool
  deriving DecidableEq, Repr

/-- A reset in progress (R279): domain code, start, whether it was requested (R287), and whether a die-full reset
still waits for the transit channels to empty (R284). -/
structure ResetRun where
  code : Nat
  started : Nat
  requested : Bool
  draining : Bool
  deriving DecidableEq, Repr

/-- What a Core Port holds (R39, R147, R201, R282). `stalls` says why its issue waits: 1 a pinned block or the pin
limit (R147), 2 full replay queues (R152), 3 a pair borrowed
for a third execution (R159), 12 poison (R186). `finishing` is the LCN whose tile a swapped-out core still runs (R225). `taken` is the progress count that its tile took at its start
and the mode then in force (R122, R143), `arrivals` the blocks whose write to a pinned block waits (R147). `pass` is the next known-answer
entry of the full pass in progress and whether its March C− has run (R207), `rerun` the kind and entry of a rerun that waits (R206).
`counters` are 0x0001 to 0x0009 of R406. -/
structure Core where
  tile : Option (Nat × Tile)
  heldTile : Option (Nat × Tile)
  interrupted : Option (Nat × Tile)
  finishing : Option Nat
  taken : Nat × Mode
  withheld : Bool
  withheldAt : Option Nat
  epoch : Nat
  sram : Tab SramBlock
  pins : List Nat
  arrivals : List (Transfer × Word64)
  stalls : List Nat
  queue : List Descriptor
  test : Option TestRun
  resetRun : Option ResetRun
  randoms : Nat
  pass : Nat × Bool
  rerun : Option (Nat × Nat)
  lastTests : Tab Nat
  overdue : Bool
  counters : Tab Nat
  deriving DecidableEq, Repr

/-- A command that a control core accepted (R265, R269): the Bridle's timer until the first tile, the timers
of the Core Ports that took a tile of it, the hang mode at its acceptance (R270), and whether it still waits for
an external signal (R267). -/
structure OpenCommand where
  command : Command
  timer : Stopwatch
  started : Bool
  cores : Tab Stopwatch
  timeoutMode : Bool
  waiting : Bool
  deriving DecidableEq, Repr

/-- What a cluster's Bridle and control core hold. `holds` names why the RM holds the cluster's issue
(R267): 0 Tether queue, 1 pin stall, 2 replay queues, 3 test tile, 4 forced slot, 5 withheld core,
6 Gondola recovery, 7 hang, 8 reset, 9 Ripcord, 10 slice end, 11 field dark, 12 poison. `boundary` is the time of its last tile
boundary (R122), `traceQueue` the words in the Bridle's trace queue and when they were counted (R420). -/
structure Cluster where
  holds : List Nat
  queue : List Event
  descriptors : List Descriptor
  adoptive : Option Nat
  commands : List OpenCommand
  sync : Tab Nat
  boundary : Nat
  lastProgress : Nat
  window : Stopwatch
  hang : Option (Nat × Nat)
  hangReported : Nat
  resetRun : Option ResetRun
  restart : Bool
  shadow : Option Nat
  registered : Bool
  ports : Nat
  controlCore : Nat
  lastChecker : Nat
  checkerNext : Nat
  forcedNext : Nat
  swapped : Bool
  counters : Tab Nat
  probed : Option Nat
  traceQueue : Nat × Nat
  deriving DecidableEq, Repr

/-- A standing idle notice (R197, R199). `running` gives the end of the slot that runs now, by the field whose Field Agent has
begun it. -/
structure Notice where
  notice : IdleNotice
  periodic : Bool
  running : Tab Nat
  revoked : Option Nat
  deriving DecidableEq, Repr

/-- The progress of a screen (R215, R238): its start, the full passes and the random tiles completed, the step of the margin test
passed, whether a second step is asked and which step the rail has moved to, whether that test is passed, the checker entries run. -/
structure Screen where
  since : Nat
  passes : Nat
  randoms : Nat
  margin : Option Nat
  again : Bool
  moved : Option Nat
  second : Bool
  checkers : List Nat
  deriving DecidableEq, Repr

/-- A teardown in progress (R288 to R291): the step, who acknowledged the new generation, the marks that
have been sent and those that arrived, and the points that must send one. -/
structure Teardown where
  step : Nat
  abandon : Bool
  started : Nat
  loaded : List Nat
  sent : Tab (Nat × Nat)
  marks : Tab (Nat × Nat)
  points : List Nat
  quiesceFrom : Nat
  timedOut : Bool
  quiesceTime : Nat
  spanning : Bool
  deriving DecidableEq, Repr

/-- Where a slice is in its life. -/
inductive SliceLife where
  | creating | running | ending | ended
  deriving DecidableEq, Repr

/-- A mode change of a running slice (R122): the mode, the change count C, and the clusters that have not switched yet. -/
structure ModeChange where
  mode : Mode
  after : Nat
  waiting : List Nat
  deriving DecidableEq, Repr
/-- A slice (R10, R33): its box and role, the mode machinery (R119 to R123: the floor and the override or role default that
apply, the changes on their way, oldest first, and the code that only waits), the bound state's conditions
(R114), the lowest frequency of its clusters in MHz and whether they run at several, the frequency change it waits for (R305, R306; true where the RM requires it), its seeds and epochs (R133), notices, reductions (R305), teardown, energy remainders in
microjoules (R342), the attach points that carried its traffic (R289), whether its end abandons tiles (R288), the PT of its clusters' hangs (R271) and its per-slice objects by key index × 256 + sub. -/
structure Slice where
  life : SliceLife
  role : Nat
  origin : Nat × Nat × Nat
  extent : Nat × Nat × Nat
  memory : List (Nat × Nat)
  created : Nat
  issued : Bool
  mode : Mode
  codes : Nat × Nat
  switches : List ModeChange
  pending : Option Mode
  short : List Nat
  ineligibleAt : Option Nat
  boundState : Nat
  boundSince : Nat
  seed : Word64
  lastSeed : Word64
  nextSeed : Option Word64
  epochStart : Nat
  epochPeriod : Nat
  notices : List Notice
  freq : Nat
  mixed : Bool
  want : Option (Nat × Bool)
  powerCodes : Nat
  droopCodes : Nat
  teardown : Option Teardown
  zeroFill : List (Nat × Nat)
  recent : List Nat
  coreMicro : Nat
  dramMicro : Nat
  carried : List Nat
  consumed : Bool
  abandon : Bool
  hangs : Tab Nat
  objs : Tab Nat
  deriving DecidableEq, Repr

/-- What a Field Agent and its field hold. `power` is 0x3015: 0 off, 1 ramping, 2 up, 3 dark. `amperes` are the
last ten 1 ms means (R320), `phases` the working phases, `failed` those shed that the Gondola has not read,
`rampCap` the cap that a ramp without headroom sets (R323), `reservoir` 0 disarmed, 1 armed, 2 recharging
(R318), `positioned` the step that the controller awaits (R316). `raising` is the step that a voltage write moves to, `back` the step from which the group's
move began (R307), `targetStep` the step to
fall to once every lowering has switched (R306), `freq` the frequency of the clusters that `State.freqs` does not list, `stretchStart` and `stretchEnd` the last
stretch that ended. `holds` as for clusters, for the whole field; `awake` says that the Field Agent's control core runs (R49), `leafDelays` are the bus delays
measured at S2 (R67, R71), `answers` names the known-answer set that it has loaded (R206, R208). -/
structure Field where
  holds : List Nat
  power : Nat
  step : Nat
  targetStep : Option Nat
  raising : Option Nat
  back : Option Nat
  raisedAt : Nat
  freq : Nat
  millivolt : Nat
  ampere : Nat
  amperes : List Nat
  filtered : Int
  phases : List Nat
  failed : List Nat
  phaseCap : Nat
  rampCap : Nat
  group : Nat
  releases : List Nat
  lastRelease : Nat
  rampWait : Nat
  idleSince : Option Nat
  stretch : Option Nat
  stretchStart : Nat
  stretchEnd : Nat
  stretchTotal : Nat
  windowStart : Nat
  duty : Nat
  lowSince : Option Nat
  reservoir : Nat
  reservoirAt : Nat
  positioned : Option (Bool × Nat × Nat)
  lastNotice : Option Nat
  announced : Option Nat
  queue : List Event
  resetRun : Option ResetRun
  epoch : Nat
  registered : Bool
  fenced : Bool
  testSeed : Word64
  answers : Nat
  awake : Bool
  leafDelays : List Nat
  counters : Tab Nat
  deriving DecidableEq, Repr

/-- One tray input of one Gondola (R332 to R335). `raw` and `level` are true for the good level. -/
structure TrayInput where
  raw : Bool
  level : Bool
  changed : Nat
  transitions : List Nat
  chattering : Bool
  latched : Bool
  differs : Option Nat
  deriving DecidableEq, Repr

/-- The diode and thermal state of a die (R325 to R331): the 16 newest readings in 1/16 °C, the last 101 sums of 16 readings
(T16 in 1/256 °C), `tBase` in 1/1600 °C, the runs of samples above 2 and 8 °C/s, `lowering` while a rate throttle has
not landed. -/
structure Thermal where
  readings : List Int
  means : List Int
  same : Nat
  cleanRun : Nat
  tBase : Int
  baseAt : Nat
  faulty : Option Nat
  above2 : Nat
  above8 : Nat
  backstopAt : Option Nat
  lowering : Bool
  calmFrom : Option Nat
  cap : Nat
  stopping : Bool
  state : Nat
  alertHeld : Bool
  alert : Bool
  deriving DecidableEq, Repr

/-- A die's Reel (R382 to R396): the records on each chip select by index, the descriptor's fields (`clearOpen` is
run, position and access path of an open clear, `discarded` the records it discards), the record whose first program has been started, the write
queue, the always-on hold, the loss counts and the present run of losses (count, first and last PT; `losingFull`
where it arose from a full Reel), the torn record found (index, mark, check failed). -/
structure Reel where
  cs0 : Tab (List Byte)
  cs1 : Tab (List Byte)
  next : Nat
  active : Nat
  clearCount : Nat
  returned : Bool
  erasedThrough : Option Nat
  clearOpen : Option (Nat × Nat × Nat)
  discarded : Nat
  unusable : List Nat
  current : Option ReelEntry
  queue : List ReelEntry
  hold : List ReelEntry
  lost : Nat
  lastLost : Nat
  losing : Option (Nat × Nat × Nat)
  losingFull : Bool
  torn : Option (Nat × Nat × Bool)
  relocating : Bool
  deriving DecidableEq, Repr

/-- A capture in the ring (R277, R278): `event` is the event whose number it takes. -/
structure Capture where
  number : Nat
  code : Nat
  reason : Nat
  consistency : Nat
  domain : Nat
  cut : Nat
  position : Nat
  blocks : Nat
  header : Nat
  units : List Nat
  interrupted : Bool
  valid : Bool
  event : Option Event
  deriving DecidableEq, Repr

/-- A trace slot (R413 to R423) with its chunk in the field SRAM: `state` is 0x3B09:01, `logical` the logical
cluster that it follows, `target` else the cluster key, `scheduled` a start (true) or stop and its C, `outcomes` the
branch outcomes that the Bridle still holds, `chunk` the words of the open chunk, `full` the chunks to drain with
the time of their first packet, `lost` and `dropped` count, first and last time. -/
structure TraceSlot where
  state : Nat
  owner : Nat
  logical : Option Nat
  target : Nat
  content : Nat
  stopMask : Nat
  scheduled : Option (Nat × Bool)
  startPt : Nat
  stopCause : Nat
  lastTime : Nat
  outcomes : List Bool
  outcomeAt : Nat
  chunk : List Word64
  chunkFirst : Nat
  chunkTarget : Nat
  chunkNumber : Nat
  lastPacket : Nat
  lost : Option (Nat × Nat × Nat)
  dropped : Option (Nat × Nat × Nat)
  full : List (Nat × List Byte)
  deriving DecidableEq, Repr

/-- A stage report (R355). -/
structure StageReport where
  result : Nat
  kind : Nat
  detail : Nat
  start : Nat
  duration : Nat
  expected : Nat
  usable : Nat
  absent : Nat
  anomalies : Nat
  first : Nat
  deriving DecidableEq, Repr

/-- A report in which nothing has been found yet. -/
def StageReport.empty : StageReport where
  result := 0
  kind := 0
  detail := 0
  start := 0
  duration := 0
  expected := 0
  usable := 0
  absent := 0
  anomalies := 0
  first := 0xFFFFFFFF

/-- A firmware slot (R369): `state` is 0 empty, 1 trial, 2 committed, 3 failed, 4 previous. -/
structure ImageSlot where
  state : Nat
  version : Nat
  image : List Byte
  deriving DecidableEq, Repr

/-- A die's copy of the package-scoped records (R54): its 64-bit write count, whether its check holds, the stored objects, the
firmware slots, the privilege keys, the sequence checkpoint, the package part of the topology map (the Z-port map) and how often the
known-answer set has been rewritten (R206, R208). -/
structure PackageCopy where
  writes : Nat
  valid : Bool
  objs : Tab Nat
  images : List ImageSlot
  keys : Tab (List Byte)
  checkpoint : Nat
  zports : Tab Nat
  answers : Nat
  deriving DecidableEq, Repr

/-- What one chip select of the dies' stores holds of the values that the Gondolas work on (R9, R55, R222, R239, R240, R472):
unit and fmax records, maps, each die's node objects and training, the units whose record fails its check (R223, R240), and the
target of the last run that ended with its record complete or not (R349, R375). The package-scoped records stand in each die's
copy (R54). -/
structure Stored where
  units : Tab UnitRec
  fmax : Tab FmaxRec
  lcnMap : Tab (Option Nat)
  clusterMap : Tab (Option Nat)
  lanes : Tab Nat
  channels : Tab Nat
  lostSlots : Tab Nat
  nodes : Tab (Tab Nat)
  training : Tab (Tab Nat)
  broken : List Nat
  lastRun : Option (Nat × Bool)
  deriving DecidableEq, Repr

/-- What a Gondola and its die hold. `status` is 0x2002: 0 not present, 1 running, 2 fenced, 3 stopped. `draft` is the
report of the stage in progress, `waiting` the report events that wait for numbers (R355), `toBind` the units that a start has found unusable, each with the stage in whose report it
counts and its cause, `retrained` the units that fell back to cold training, `noImage` the clusters without image (R372).
`training` gives, for a unit whose training record is valid, 1 + T16 + 65,536 at its save, 0 for an invalid one; the key
0xFFFFFFFF stands for every unit not listed (R362). `aligned` is 1 once the Tether crossings are aligned at S2, 2 once the fabric
crossings are at S4 (R64). `testStart` and `testTime` are the start and length of the self-test, `testGeneration` the generation of its test slice (R170, R375). `rawBase` is what the Gondola worked on at the first raw
store write of the run or at its last own write after one (R462). `regions` gives the place (stack and slot) of the firmware, trace and capture regions 0 to 2, none while one
waits for space (R366). -/
structure Die where
  status : Nat
  stage : Nat
  stageStart : Nat
  stageDone : Bool
  stageRan : Bool
  leftS0 : Nat
  reports : Tab StageReport
  draft : StageReport
  waiting : List Event
  toBind : List (Nat × Nat × Nat)
  retrained : List Nat
  noImage : List Nat
  absentAtStart : Nat
  anomaliesAtStart : Nat
  fallbacks : Nat
  dictionary : Bool
  aligned : Nat
  arbiterLast : Nat
  local_ : List Event
  toAnchor : List Event
  unacked : List Event
  returns : List Numbered
  handling : List Event
  peak : Nat
  losing : Option (Nat × Nat × Nat)
  lossRuns : Nat
  lost : Nat
  lastLoss : Nat
  recovering : Option Nat
  coresAwake : Bool
  service : Stopwatch
  serviceSaved : Nat
  resets : Tab (List Nat)
  tray : List TrayInput
  thermal : Thermal
  vin : Nat
  supply : Nat
  supplySince : Option Nat
  resumeSince : Option Nat
  suspended : Bool
  alertLatched : Bool
  dramPower : Nat
  vaon : Bool
  vaonAt : Nat
  vfast : Bool
  fastReset : Bool
  aonLost : Bool
  endMark : Nat
  markRead : Nat
  reel : Reel
  store : List Host.Cell
  copy : PackageCopy
  rawBase : Option (PackageCopy × Stored)
  captures : List Capture
  capturing : List Capture
  resetRun : Option ResetRun
  captureNext : Nat
  captureCount : Nat
  pinned : Nat
  traceMode : Nat
  traceRegion : Tab (List Byte)
  traceNext : Nat
  traceKept : List Word64
  regions : Tab (Option (Nat × Nat))
  training : Tab Nat
  testSlice : Option (Nat × Nat)
  testGeneration : Nat
  testDone : List Nat
  testExpired : Bool
  testFull : Bool
  testStart : Nat
  testTime : Nat
  testResults : List (List Byte)
  error : Nat
  errors : List Nat
  counters : Tab Nat
  node : Tab Nat
  nid : Nat
  anchorSel : Bool
  tap : Nat
  notifyIrq : List Nat
  deriving DecidableEq, Repr

/-- A frequency change (R81 to R86). `required` is a change the RM itself needs (R308). -/
structure Change where
  id : Nat
  slice : Nat
  mask : Nat
  code : Nat
  count : Nat
  postponed : Nat
  acked : List Nat
  held : List Nat
  sampled : Option Bool
  switched : Bool
  verdicts : List Nat
  required : Bool
  lowering : Bool
  deriving DecidableEq, Repr

/-- One binding of a commit: bind an LCN to another core (R242), swap a weak core or exchange a unit for a
spare (R225, R256), bind a logical cluster elsewhere or nowhere (R243, R254), move a link slot to another lane
group or lose it (R245), move a quarter's Z traffic to another port (R246, 8 for none), move a pseudo-channel
slot (R247), lose one (R248), answer for an unreachable stack (R185), or route around a unit (R244). -/
inductive Binding where
  | core (lcn old new : Nat)
  | swap (lcn old new : Nat)
  | cluster (logical : Nat) (old : Nat) (new : Option Nat) (toBallast : Bool)
  | lane (seam slot old : Nat) (new : Option Nat)
  | zport (die port carrier : Nat)
  | channel (stack slot old new : Nat)
  | slotLost (stack slot : Nat)
  | stackLost (stack : Nat)
  | around (unit : Nat)
  deriving DecidableEq, Repr

/-- A commit (R249, R250): its change count, the dies whose routing slot it takes, its bindings, the
units that become Quarantined with it and their causes (R247), the units whose handling it closes, the cause that
it records, and the Bridles still to acknowledge. One that the Anchor schedules is not `scheduled` until the Anchor has sequenced
its request. -/
structure Commit where
  id : Nat
  count : Nat
  dies : List Nat
  bindings : List Binding
  quarantines : List (Nat × Nat)
  units : List Nat
  cause : Nat
  waiting : List Nat
  scheduled : Bool
  deriving DecidableEq, Repr

/-- The Ripcord (R293 to R296): `state` is 0x2C13:02, `acted` the dies that have acted on it, `request` what asked
for an orderly one: 0 an Operator, 1 TRAY_STOP_N, 2 the supply, 3 a thermal condition. -/
structure Ripcord where
  state : Nat
  reason : Nat
  stop : Nat
  target : Nat
  cause : Nat
  reached : Bool
  wire : Bool
  message : Bool
  acted : List Nat
  request : Nat
  deriving DecidableEq, Repr

/-- A one-write grant (R458): action code, target, class and end. -/
structure Grant where
  action : Nat
  target : Nat
  cls : Class
  until_ : Nat
  deriving DecidableEq, Repr

/-- An open SDO transfer (R439): direction, object, announced size, bytes so far, and the session class and grants held
when it was initiated (R440). -/
structure Sdo where
  download : Bool
  index : Nat
  sub : Nat
  size : Nat
  bytes : List Byte
  lastSegment : Nat
  cls : Class
  grants : List Grant
  deriving DecidableEq, Repr

/-- An answer on a path: the abort code (0 done), the data, and the position of a write (R440, R451). -/
structure Response where
  index : Nat
  sub : Nat
  status : Nat
  data : List Byte
  position : Nat
  deriving DecidableEq, Repr

/-- A forced action or exchange that waits behind the open handling of its unit (R257): the path, the object, the
value and the unit. -/
structure Forced where
  path : Path
  index : Nat
  value : Nat
  unit : Nat
  deriving DecidableEq, Repr

/-- An access path (R430, R431, R456 to R460): session class and lease end, grants, the outstanding
nonce with the values it is bound to, refusals of the last 60 s, cursor, and selectors by key. `snapshot` is 0x3A04:02 to 04 with C before the latch PT, `latched` its results and `latchedSlice` the slice whose scope they are, 0 where the scope was another (R409),
`gathered` those of the gathering in progress,
`asked` the selectors and cursor of the request and whether an Observer made it (R411). -/
structure PathState where
  session : Class
  lease : Nat
  grants : List Grant
  nonce : Option (Nat × Nat × Nat × Nat × Nat)
  refusals : List Nat
  backoff : Option Nat
  cursorLcn : Option Nat
  cursorPua : Option Nat
  objs : Tab Nat
  sdo : Option Sdo
  response : Option Response
  snapshot : Option (Nat × Nat × Nat × Nat)
  latched : Tab Nat
  latchedSlice : Nat
  gathered : Tab Nat
  waitingSnapshot : Bool
  asked : Tab Nat × Option Nat × Option Nat × Bool
  deriving DecidableEq, Repr

/-- A field-bus port (R436 to R449). `fault` is 0 error active, 1 error passive, 2 bus-off, `fd` says that it runs CAN FD since its
last stage S2 (R435). -/
structure Port where
  nmt : Nmt
  wantOperational : Bool
  fault : Nat
  busOff : Nat
  heldEmcy : List (List Byte)
  lastEmcy : Option Nat
  lastHeartbeat : Nat
  lastTpdo : Tab Nat
  fd : Bool
  deriving DecidableEq, Repr

/-- A notification (R454). -/
structure Notification where
  code : Nat
  slice : Nat
  position : Nat
  pt : Nat
  payload : List Byte
  deriving DecidableEq, Repr

/-- A mirror-channel mailbox (R450, R453, R454); `op` and `tag` are those of the request in its slot (R451). -/
structure Mailbox where
  bound : Nat
  queue : List Notification
  lost : Nat
  lostNow : Nat
  op : Nat
  tag : Nat
  deriving DecidableEq, Repr

/-- A block stored in DRAM with its side word (R173). -/
structure DramBlock where
  word : Word64
  payload : List Byte
  irregular : Bool
  deriving DecidableEq, Repr

/-- What the checkers on its way have seen of a transfer (R172, R175, R178): the first failing point, the last good one
and the first one after that which passed it unchecked; 0xFFFFFFFF for none. -/
structure Followed where
  firstFail : Nat
  lastGood : Nat
  unseen : Nat
  deriving DecidableEq, Repr

/-- An open transfer at a receiver (R177, R178): `addr` for a DRAM attach write, the refetches made and when the last
began, since when it waits for a routing commit and for which unit, and whether its repair refetch runs. -/
structure OpenTransfer where
  transfer : Transfer
  addr : Option DramAddr
  refetches : Nat
  started : Nat
  repairFrom : Option Nat
  unit : Nat
  repairing : Bool
  deriving DecidableEq, Repr

/-- A copy of a failing pseudo-channel to its stack's spare (R247). -/
structure Copy where
  stack : Nat
  failing : Nat
  spare : Nat
  cause : Nat
  deriving DecidableEq, Repr

/-- The sequencer (R87 to R94): the next position, the last completed checkpoint K, a checkpoint write
in progress, whether it holds, the die that comes first, and the standby's mirror: the last position sent to it and the
sequenced events whose numbers have not reached every die yet (R56). -/
structure Sequencer where
  next : Nat
  checkpoint : Nat
  writing : Option Nat
  held : Bool
  first : Nat
  mirrored : Nat
  mirror : List Numbered
  deriving DecidableEq, Repr

/-- A snapshot (R411): its change count, the joined paths, and whether it has latched. -/
structure Snapshot where
  count : Nat
  paths : List Nat
  latched : Bool
  deriving DecidableEq, Repr

/-- A frame or a pin level that the block has sent to the outside: CAN frames, LOAD_NOTICE frames,
regulator writes, host interrupts and host completions. -/
inductive Output where
  | can (die : Nat) (b : Bool) (cobId : Nat) (data : List Byte)
  | loadNotice (die : Nat) (frame : BitVec 32)
  | voltage (field millivolt : Nat)
  | rail (field : Nat) (on : Bool)
  | hostError (transfer : Nat)
  | hostData (mailbox : Nat) (data : List Byte)
  | refetch (transfer : Nat)
  | seed (slice : Nat) (epoch : Nat)
  | correction (flit : Flit)
  | dieCorrection (die : Nat) (flit : Flit)
  | announce (flit : Flit)
  | idcode (die : Nat) (value : BitVec 32)
  | laneMask (chiplet : Nat) (mask : Nat)
  deriving DecidableEq, Repr

/-- The package. `requests` holds the mailbox requests that wait for their Gondola, in order of arrival, with the bulk data of
each (R450); `retained` says that the start began as a retention start (R349), `imageFallback` that it could not use the image it
selected first (R370), `kept` and `keptB` the stores on chip select 0 and 1 (R55), `freqs` the frequencies of the clusters
that do not run at their field's, by cluster key (R80), `crossings` the separation of each crossing that is not 4, by its unit (R65), `turn` counts the commands, `trialReached` that no start uses a trial image
without having reached S8 (R370), `privateMode` says that a private test mode has acted in this run (R192); `views` holds the slice views of counters (R407) and what the counters that no command
advances last read as, `inFlight` the (point, transfer)
pairs that seam and Z-port checkers follow (R175), `screens` the screens in progress, by unit (R215, R238). `State` is everything the specification gives the machine, and the waiting commands. -/
structure State where
  variant : Variant
  now : Nat
  ptStarted : Bool
  anchorDie : Nat
  standby : Bool
  takenOver : Bool
  anchorReady : Bool
  reference : Bool
  referenceLostAt : Nat
  keepers : Tab Keeper
  seqr : Sequencer
  dies : List Die
  fields : List Field
  units : Tab UnitRec
  fmax : Tab FmaxRec
  lcnMap : Tab (Option Nat)
  clusterMap : Tab (Option Nat)
  lanes : Tab Nat
  channels : Tab Nat
  zports : Tab Nat
  lostSlots : Tab Nat
  unreachable : List Nat
  lcns : Tab LcnRec
  cores : Tab Core
  clusters : Tab Cluster
  slices : Tab Slice
  generations : Tab Nat
  recomputes : Tab Recompute
  tieBreaks : Tab Arbitration
  thirds : Tab Arbitration
  transfers : Tab OpenTransfer
  follows : Tab Followed
  inFlight : List (Nat × Nat)
  dram : Tab DramBlock
  copies : List Copy
  changes : List Change
  changeHold : List Nat
  nextChange : Nat
  commits : List Commit
  nextCommit : Nat
  ripcord : Ripcord
  model : List Nat
  modelIndex : Nat
  modelFlag : Bool
  qualifying : Stopwatch
  powerHistory : List Nat
  powerLowFrom : Option Nat
  powerOverFrom : Option Nat
  powerStack : List Nat
  packageReset : Option ResetRun
  paths : Tab PathState
  forced : List Forced
  ports : Tab Port
  mailboxes : Tab Mailbox
  requests : List (Nat × MailReq × List Byte)
  snapshot : Option Snapshot
  snapshots : Nat
  traces : Tab TraceSlot
  views : Tab Nat
  images : List ImageSlot
  imageInUse : Nat
  imageFallback : Bool
  trialReached : Bool
  privateMode : Bool
  retained : Bool
  startKind : StartKind
  keys : Tab (List Byte)
  kept : Stored
  keptB : Stored
  freqs : Tab Nat
  crossings : Tab Nat
  turn : Nat
  screens : Tab Screen
  undefinedCases : List Nat
  objs : Tab Nat
  output : List Output
  free : Nat
  pending : List Instr
  deriving DecidableEq, Repr

/-- A keeper before its reset-release: it counts freely from 0 with the coarse flag (R71). -/
def Keeper.reset : Keeper where
  base := 0
  since := 0
  running := false
  slew := 0
  applied := false
  offsetFault := false
  coarse := true
  delay := 0
  missed := 0
  restarted := false
  stoppedAt := 0
  stoppedFor := 0
  lossAt := 0
  rate := 1000000
  rest := 0

/-- A field before S3: rail off (R322), every phase working (R319), envelope step E0. -/
def Field.reset : Field where
  holds := []
  power := 0
  step := 0
  targetStep := none
  raising := none
  back := none
  raisedAt := 0
  freq := 400
  millivolt := 0
  ampere := 0
  amperes := []
  filtered := 0
  phases := List.range 24
  failed := []
  phaseCap := 0xFF
  rampCap := 15
  group := 0
  releases := []
  lastRelease := 0
  rampWait := 0
  idleSince := none
  stretch := none
  stretchStart := 0
  stretchEnd := 0
  stretchTotal := 0
  windowStart := 0
  duty := 0
  lowSince := none
  reservoir := 0
  reservoirAt := 0
  positioned := none
  lastNotice := none
  announced := none
  queue := []
  resetRun := none
  epoch := 0
  registered := false
  fenced := false
  testSeed := 0
  answers := 0
  awake := false
  leafDelays := []
  counters := []

/-- A tray input at power-up: no level accepted yet, nothing latched (R332, R334; notes/assumptions/4.md). -/
def TrayInput.reset : TrayInput where
  raw := false
  level := false
  changed := 0
  transitions := []
  chattering := false
  latched := false
  differs := none

/-- The thermal state of a die at the start of a run: cap E15 (R328), no reading yet. -/
def Thermal.reset : Thermal where
  readings := []
  means := []
  same := 0
  cleanRun := 0
  tBase := 16000
  baseAt := 0
  faulty := none
  above2 := 0
  above8 := 0
  backstopAt := none
  lowering := false
  calmFrom := none
  cap := 15
  stopping := false
  state := 0
  alertHeld := false
  alert := false

/-- The Reel at manufacture (R383): empty, chip select 0 active, erased through 1,048,575. -/
def Reel.reset : Reel where
  cs0 := []
  cs1 := []
  next := 0
  active := 0
  clearCount := 0
  returned := false
  erasedThrough := some 1048575
  clearOpen := none
  discarded := 0
  unusable := []
  current := none
  queue := []
  hold := []
  lost := 0
  lastLost := 0
  losing := none
  losingFull := false
  torn := none
  relocating := false

/-- A die at power-up: stage S0, no supply within limits yet. -/
def Die.reset : Die where
  status := 1
  stage := 0
  stageStart := 0
  stageDone := false
  stageRan := false
  leftS0 := 0
  reports := []
  draft := StageReport.empty
  waiting := []
  toBind := []
  retrained := []
  noImage := []
  absentAtStart := 0
  anomaliesAtStart := 0
  fallbacks := 0
  dictionary := false
  aligned := 0
  arbiterLast := 6
  local_ := []
  toAnchor := []
  unacked := []
  returns := []
  handling := []
  peak := 0
  losing := none
  lossRuns := 0
  lost := 0
  lastLoss := 0
  recovering := none
  coresAwake := false
  service := ⟨0, none⟩
  serviceSaved := 0
  resets := []
  tray := [TrayInput.reset, TrayInput.reset, TrayInput.reset]
  thermal := Thermal.reset
  vin := 0
  supply := 0
  supplySince := none
  resumeSince := none
  suspended := false
  alertLatched := false
  dramPower := 0
  vaon := false
  vaonAt := 0
  vfast := false
  fastReset := true
  aonLost := true
  endMark := 0
  markRead := 0
  reel := Reel.reset
  store := []
  copy := ⟨0, true, [], [⟨2, 0, []⟩, ⟨0, 0, []⟩], [], 0, [], 0⟩
  rawBase := none
  captures := []
  capturing := []
  resetRun := none
  captureNext := 0
  captureCount := 0
  pinned := 0
  traceMode := 0
  traceRegion := []
  traceNext := 0
  traceKept := []
  regions := []
  training := []
  testSlice := none
  testGeneration := 0
  testDone := []
  testExpired := false
  testFull := false
  testStart := 0
  testTime := 0
  testResults := []
  error := 0
  errors := []
  counters := []
  node := []
  nid := 0
  anchorSel := false
  tap := 0
  notifyIrq := []

/-- The store at manufacture: every record at its default (R20, R239), slot 0 committed. -/
def Stored.manufacture : Stored where
  units := []
  fmax := []
  lcnMap := []
  clusterMap := []
  lanes := []
  channels := []
  lostSlots := []
  nodes := []
  training := []
  broken := []
  lastRun := none

/-- The package right after reset: power-up before S0 (R347, R490), the store as at manufacture
(R20, R239), no slice, no command waiting. The variant is the DH-100 (notes/assumptions/2.md). -/
def State.reset : State where
  variant := .dh100
  now := 0
  ptStarted := false
  anchorDie := 0
  standby := true
  takenOver := false
  anchorReady := false
  reference := false
  referenceLostAt := 0
  keepers := []
  seqr := ⟨0, 0, none, false, 0, 0, []⟩
  dies := [{ Die.reset with anchorSel := true }, Die.reset, Die.reset, Die.reset]
  fields := List.replicate 24 Field.reset
  units := []
  fmax := []
  lcnMap := []
  clusterMap := []
  lanes := []
  channels := []
  zports := []
  lostSlots := []
  unreachable := []
  lcns := []
  cores := []
  clusters := []
  slices := []
  generations := []
  recomputes := []
  tieBreaks := []
  thirds := []
  transfers := []
  follows := []
  inFlight := []
  dram := []
  copies := []
  changes := []
  changeHold := []
  nextChange := 0
  commits := []
  nextCommit := 0
  ripcord := ⟨0, 0, 0, 0, 0, false, false, false, [], 0⟩
  model := List.replicate 24 0
  modelIndex := 0
  modelFlag := false
  qualifying := ⟨0, none⟩
  powerHistory := []
  powerLowFrom := none
  powerOverFrom := none
  powerStack := []
  packageReset := none
  paths := []
  forced := []
  ports := []
  mailboxes := []
  requests := []
  snapshot := none
  snapshots := 0
  traces := []
  views := []
  images := [⟨2, 0, []⟩, ⟨0, 0, []⟩]
  imageInUse := 0
  imageFallback := false
  trialReached := false
  privateMode := false
  retained := false
  startKind := .cold
  keys := []
  kept := Stored.manufacture
  keptB := Stored.manufacture
  freqs := []
  crossings := []
  turn := 0
  screens := []
  undefinedCases := []
  objs := []
  output := []
  free := 0
  pending := []

end Sys2Proof.Machine
end

