-- ==== Sys2Proof/Machine/Topology.lean ====
section
/-!
DEFINITION. The geometry and numbering of the package: unit addresses (R5, R6), fields, sites and clusters
(R18 to R22), seams (R23), Z ports (R24, R25), DRAM attach sites (R30, R511), boxes (R33) and what each unit
is at manufacture (R20, R239).
-/
namespace Sys2Proof.Machine

/-- Compute dies of the variant (R1). -/
def Variant.dies : Variant → Nat
  | .dh100 => 4
  | .dh25 => 1

/-- Number of logical cores (R7). -/
def Variant.lcns (v : Variant) : Nat := v.dies * 76800

/-! The fields of a Physical Unit Address (R5). -/

/-- Bits [31:30]. -/
def puaDie (p : Nat) : Nat := p / 2 ^ 30 % 4
/-- Bits [29:27]. -/
def puaField (p : Nat) : Nat := p / 2 ^ 27 % 8
/-- Bits [26:17]. -/
def puaCluster (p : Nat) : Nat := p / 2 ^ 17 % 1024
/-- Bits [16:12]. -/
def puaCore (p : Nat) : Nat := p / 2 ^ 12 % 32
/-- Bits [11:8]. -/
def puaKind (p : Nat) : Nat := p / 2 ^ 8 % 16
/-- Bits [7:0]. -/
def puaSub (p : Nat) : Nat := p % 256

/-- A Physical Unit Address from its fields (R5). -/
def mkPua (die field cluster core kind sub : Nat) : Nat :=
  die * 2 ^ 30 + field * 2 ^ 27 + cluster * 2 ^ 17 + core * 2 ^ 12 + kind * 2 ^ 8 + sub

/-- The address that package-scoped events carry (R384). -/
def packagePua : Nat := 0xFFFFFFFF

/-- die × 6 + field of an address. -/
def puaFieldIdx (p : Nat) : Nat := puaDie p * 6 + puaField p

/-- The key of a cluster: (die × 6 + field) × 832 + physical cluster. -/
def clusterKey (fieldIdx c : Nat) : Nat := fieldIdx * 832 + c
/-- The cluster key of an address that lies in a cluster. -/
def puaClusterKey (p : Nat) : Nat := clusterKey (puaFieldIdx p) (puaCluster p)
/-- The field index of a cluster key. -/
def ckField (ck : Nat) : Nat := ck / 832
/-- The physical cluster of a cluster key. -/
def ckCluster (ck : Nat) : Nat := ck % 832
/-- The die of a cluster key. -/
def ckDie (ck : Nat) : Nat := ck / 832 / 6

/-- The address of unit `kind` of a cluster, with core 31 (R6). -/
def clusterPua (kind ck : Nat) : Nat :=
  mkPua (ckDie ck) (ckField ck % 6) (ckCluster ck) 31 kind 0
/-- The Bridles of the clusters of some fields. -/
def domainBridles (fs : List Nat) : List Nat := fs.flatMap fun f => (List.range 832).map fun c => clusterPua 7 (clusterKey f c)
/-- The address of a physical core. -/
def corePua (ck core : Nat) : Nat := mkPua (ckDie ck) (ckField ck % 6) (ckCluster ck) core 0 0
/-- The address of a Field Agent. -/
def agentPua (fieldIdx : Nat) : Nat := mkPua (fieldIdx / 6) (fieldIdx % 6) 0x3FF 31 8 0
/-- The address of a die in records and captures that name no unit of R6 (R277, R280, R458). -/
def diePua (die : Nat) : Nat := mkPua die 7 0x3FF 31 15 0

/-! Sites and clusters (R18, R19). -/

/-- A site hosts a bay cluster when s = 25k + 18. -/
def siteHasBay (s : Nat) : Bool := s % 25 = 18
/-- The physical number of a site's home cluster. -/
def homeOfSite (s : Nat) : Nat := s + (s + 6) / 25
/-- A physical cluster is a bay when it is 26k + 19. -/
def isBay (c : Nat) : Bool := c % 26 = 19
/-- The site that hosts a physical cluster. -/
def siteOfCluster (c : Nat) : Nat := if isBay c then 25 * (c / 26) + 18 else c - (c + 6) / 26
/-- The torus coordinates of a site of a field (R18). -/
def siteCoord (fieldIdx s : Nat) : Nat × Nat × Nat :=
  (40 * (fieldIdx % 6 % 2) + s % 40, 20 * (fieldIdx % 6 / 2) + s / 40, fieldIdx / 6)
/-- The field index and site of a torus coordinate. -/
def coordSite (x y z : Nat) : Nat × Nat := (z * 6 + (y / 20) * 2 + x / 40, (y % 20) * 40 + x % 40)
/-- The torus coordinates of a physical cluster's host site. -/
def clusterCoord (ck : Nat) : Nat × Nat × Nat := siteCoord (ckField ck) (siteOfCluster (ckCluster ck))

/-! Logical numbers (R7). A logical cluster is named by (die × 6 + field) × 800 + logical cluster. -/

/-- The logical cluster of an LCN. -/
def lcnCluster (lcn : Nat) : Nat := lcn / 16
/-- The cluster key that serves a logical cluster at manufacture (R20). -/
def manufactureCluster (l : Nat) : Nat := clusterKey (l / 800) (homeOfSite (l % 800))
/-- The core that serves an LCN at manufacture (R20). -/
def manufactureCore (lcn : Nat) : Nat := corePua (manufactureCluster (lcn / 16)) (lcn % 16)
/-- The torus coordinates that a logical cluster keeps (R21). -/
def logicalCoord (l : Nat) : Nat × Nat × Nat := siteCoord (l / 800) (l % 800)

/-- Whether a coordinate lies in a box (R33). -/
def inBox (origin extent c : Nat × Nat × Nat) : Bool :=
  (c.1 + 80 - origin.1) % 80 < extent.1 && (c.2.1 + 60 - origin.2.1) % 60 < extent.2.1 &&
    (c.2.2 + 4 - origin.2.2) % 4 < extent.2.2

/-- Whether a field owns an east seam (0) or a south seam (1) (R23). -/
def ownsSeam (field direction : Nat) : Bool := if direction = 0 then field % 2 = 0 else field < 4
/-- The seam number 0 to 6 of a field's seam (R23). -/
def seamNumber (field direction : Nat) : Nat := if direction = 0 then field / 2 else 3 + field
/-- The field that owns a seam, and its direction bit. -/
def seamOwner (seam : Nat) : Nat × Nat := if seam < 3 then (seam * 2, 0) else (seam - 3, 1)
/-- The address of a lane group: seam key die × 7 + seam (R6). -/
def lanePua (seamKey group : Nat) : Nat :=
  let o := seamOwner (seamKey % 7)
  mkPua (seamKey / 7) o.1 0x3FF 31 2 (o.2 * 128 + group)
/-- The address of a pseudo-channel: stack key die × 16 + stack (R6). -/
def channelPua (stackKey pc : Nat) : Nat := mkPua (stackKey / 16) 0 (stackKey % 16) 31 4 pc
/-- The address of a Z port (R24). -/
def portPua (die port : Nat) : Nat := mkPua die 0 0x3FF 31 3 port
/-- The other end of a bridge link (R25): port q joins port 4 + q of the next die. -/
def bridgePeer (p : Nat) : Nat :=
  if puaSub p < 4 then portPua ((puaDie p + 1) % 4) (puaSub p + 4)
  else portPua ((puaDie p + 3) % 4) (puaSub p - 4)
/-- The field that a stack sits on, and its two attach sites (R30). -/
def stackSites (stack : Nat) : Nat × Nat × Nat :=
  let field := if stack / 4 < 2 then stack / 4 else stack / 4 + 2
  let row := if stack / 4 < 2 then 0 else 19
  (field, row * 40 + 10 * (stack % 4) + 4, row * 40 + 10 * (stack % 4) + 5)
/-- The field in which a unit sits, whose Field Agent takes its events (R172): a DRAM attach sits in its stack's field. A Z
port's collector runs through the three fields of a die column, and no rule says in which its checker sits: the middle one
(DESIGN CHOICE, notes/assumptions/188.md). -/
def unitField (p : Nat) : Nat :=
  match puaKind p with
  | 3 => puaDie p * 6 + 2 + puaSub p % 4 / 2
  | 4 => puaDie p * 6 + (stackSites (puaCluster p % 16)).1
  | _ => puaFieldIdx p
/-- The two attach routers of a stack (R30). -/
def attachRouters (stackKey : Nat) : List Nat :=
  let t := stackSites (stackKey % 16)
  [t.2.1, t.2.2].map fun s => clusterPua 1 (clusterKey (stackKey / 16 * 6 + t.1) (homeOfSite s))
/-- The router that a host-I/O chiplet attaches to (R511, R479); none where the variant has no chiplet. -/
def hostRouter (v : Variant) (k : Nat) : Option Nat :=
  match v with
  | .dh100 => if k < 8 then some (clusterPua 1 (clusterKey (k / 2 * 6 + 2 + k % 2)
      (homeOfSite (if k % 2 = 0 then 400 else 439)))) else none
  | .dh25 => if k < 4 then some (clusterPua 1 (clusterKey (2 + k / 2)
      (homeOfSite ([200, 560, 239, 599].getD k 0)))) else none
/-- The router whose +X or +Y link a slot carries (R23, R478): X, Y, Z and direction code. -/
def slotEndpoint (seamKey slot : Nat) : Option (Nat × Nat × Nat × Nat) :=
  let die := seamKey / 7
  let o := seamOwner (seamKey % 7)
  if o.2 = 0 then
    let y0 := 20 * (o.1 / 2)
    if slot < 20 then some (39, y0 + slot, die, 0)
    else if slot < 40 then some (79, y0 + slot - 20, die, 0) else none
  else
    let x0 := 40 * (o.1 % 2)
    if slot < 40 then some (x0 + slot, 20 * (o.1 / 2) + 19, die, 2)
    else if slot < 80 then some (x0 + slot - 40, 59, die, 2) else none

/-- The combinations of R6 for a variant (R2: no die above 0 in the DH-25). -/
def puaValid (v : Variant) (p : Nat) : Bool :=
  let c := puaCluster p
  let core := puaCore p
  let sub := puaSub p
  p < 2 ^ 32 && puaDie p < v.dies && puaField p < 6 &&
  match puaKind p with
  | 0 => c < 832 && core ≤ 16 && sub = 0
  | 1 | 6 | 7 => c < 832 && core = 31 && sub = 0
  | 2 => c = 0x3FF && core = 31 && ownsSeam (puaField p) (sub / 128)
  | 3 => puaField p = 0 && c = 0x3FF && core = 31 && sub < 8
  | 4 => puaField p = 0 && c < 16 && core = 31 && sub < 32
  | 5 => c = 0x3FF && core = 31 && sub < 24
  | 8 => c = 0x3FF && core = 31 && sub = 0
  | _ => false

/-- The bound place of an unbound unit (R239). -/
def unbound : Nat := 0xFFFFFFFF

/-- The state of a unit at manufacture (R20, R23, R31, R239). -/
def manufactureState (p : Nat) : UnitState :=
  match puaKind p with
  | 0 => if isBay (puaCluster p) || puaCore p = 16 then .spareReady else .healthy
  | 1 | 6 | 7 => if isBay (puaCluster p) then .spareReady else .healthy
  | 2 => if puaSub p % 128 < 120 then .healthy else .spareReady
  | 4 => if puaSub p < 31 then .healthy else .spareReady
  | _ => .healthy

/-- The bound place of a unit at manufacture (R239, bytes 4 to 7). -/
def manufactureBound (p : Nat) : Nat :=
  if manufactureState p = .spareReady then unbound
  else match puaKind p with
    | 0 => (puaFieldIdx p * 800 + siteOfCluster (puaCluster p)) * 16 + puaCore p
    | 1 | 6 | 7 => siteOfCluster (puaCluster p)
    | 2 => puaSub p % 128
    | 8 => puaField p
    | _ => puaSub p

/-- A unit record at manufacture (R239) with the scores of a new run (R232). -/
def UnitRec.manufacture (p : Nat) : UnitRec where
  state := manufactureState p
  flags := 0
  cause := 0
  lifetime := 0
  bound := manufactureBound p
  run := 0
  seq := 0
  era := 0
  day := 0
  long := [0, 0, 0, 0, 0, 0, 0]
  decisive := 0
  short := []
  lastPoints := none
  holdFrom := none
  holdPaused := false
  open_ := false
  nextState := none
  lastSeq := none
  served := 0
  dirty := false

end Sys2Proof.Machine
end

