-- ==== Sys2Proof/Machine/Ops.lean ====
section
/-!
DEFINITION. The named operations over the state that the commands share: tables, the records of units, dies,
fields, clusters, cores and slices, dictionary values, the store's bytes, time keepers and stamps, events,
EMCY frames and notifications, issue holds.
-/
namespace Sys2Proof.Machine
open Sys2Proof

/-- The outcome of a command that goes on. -/
abbrev Result := Host.Outcome State Fault Refusal

/-! ### Tables -/

/-- The entry of a key. -/
def tget {α : Type} : Tab α → Nat → Option α
  | [], _ => none
  | (k', v) :: r, k => if k' = k then some v else tget r k

/-- The entry of a key, or what an unlisted key reads as. -/
def tgetD {α : Type} (t : Tab α) (k : Nat) (d : α) : α := (tget t k).getD d

/-- Set the entry of a key, keeping the keys rising. -/
def tset {α : Type} : Tab α → Nat → α → Tab α
  | [], k, v => [(k, v)]
  | (k', v') :: r, k, v =>
    if k < k' then (k, v) :: (k', v') :: r
    else if k = k' then (k, v) :: r
    else (k', v') :: tset r k v

/-- Take the entry of a key out. -/
def tdel {α : Type} (t : Tab α) (k : Nat) : Tab α := t.filter fun e => e.1 ≠ k

/-- Change the entry of a key, which reads as `d` when unlisted. -/
def tmod {α : Type} (t : Tab α) (k : Nat) (d : α) (f : α → α) : Tab α := tset t k (f (tgetD t k d))

/-- Change an entry only when it is listed. -/
def tupd {α : Type} (t : Tab α) (k : Nat) (f : α → α) : Tab α :=
  t.map fun e => if e.1 = k then (e.1, f e.2) else e

/-! ### Time -/

/-- Package time passes: the block's own clock advances by `dt` ns (notes/assumptions/1.md). -/
def elapse (dt : Nat) (s : State) : State := { s with now := s.now + dt, turn := s.turn + 1 }

/-- The ns that the always-on clock of a stopped keeper's die has counted since the last step of its coarse count (R66). The
phase of that clock is not given: the first step falls 250 ns after the keeper stops (notes/assumptions/176.md). -/
def Keeper.coarseNs (k : Keeper) (now : Nat) : Nat := k.rest + (now - k.since) * k.rate / 1000000

/-- The reading of a keeper at moment `now` of the block's clock: the fine count, slowed to 1 ns per 2 ns
while a negative error is absorbed (R74), or the coarse count in 250 ns steps (R66, R77). -/
def Keeper.read (k : Keeper) (now : Nat) : Nat :=
  let t := now - k.since
  if k.running then k.base + t - min k.slew ((t + 1) / 2) else k.base + k.coarseNs now / 250 * 250

/-- The same keeper with its count brought to moment `now`; a step of the coarse count in progress goes on. -/
def Keeper.sync (k : Keeper) (now : Nat) : Keeper :=
  let t := now - k.since
  if k.running then { k with base := k.read now, since := now, slew := k.slew - min k.slew ((t + 1) / 2) }
  else { k with base := k.read now, since := now, rest := k.coarseNs now % 250 }

/-- The keeper of a Gondola (0 to 3) or of field f (4 + f), in the order of 0x2102 (R95). -/
def keeper (s : State) (k : Nat) : Keeper := tgetD s.keepers k Keeper.reset
/-- The index of a field's keeper. -/
def fieldKeeper (f : Nat) : Nat := 4 + f
/-- Change a keeper. -/
def modKeeper (k : Nat) (f : Keeper → Keeper) (s : State) : State :=
  { s with keepers := tmod s.keepers k Keeper.reset f }
/-- The count of a keeper now. -/
def keeperRead (s : State) (k : Nat) : Nat := (keeper s k).read s.now
/-- The time copy of a cluster's Bridle: its field's keeper (R67). -/
def bridleTime (s : State) (ck : Nat) : Nat := keeperRead s (fieldKeeper (ck / 832))
/-- Package Time: the count of the Anchor's keeper (R66, R69). -/
def pt (s : State) : Nat := keeperRead s s.anchorDie
/-- Whether a keeper's stamps carry the coarse flag (R71, R75, R77, R78). -/
def keeperCoarse (s : State) (k : Nat) : Bool :=
  let x := keeper s k
  x.coarse || !x.running || decide (1000 ≤ x.missed)
/-- The keeper that stamps what a unit detects: its field's, or its Gondola's for dies (R67, R172). -/
def stampKeeper (p : Nat) : Nat :=
  if p = packagePua then 0 else
  if puaKind p = 15 then puaDie p else fieldKeeper (unitField p)
/-- Stop a keeper's 1,000 MHz clock: it goes on with its coarse count (R77). -/
def stopKeeper (k : Nat) (s : State) : State :=
  modKeeper k (fun x => if x.running then
    { x.sync s.now with running := false, coarse := true, slew := 0, stoppedAt := s.now, rest := 0 } else x) s
/-- Restart a keeper's clock from its coarse count; the coarse flag stays until a correction (R78). -/
def startKeeper (k : Nat) (s : State) : State :=
  modKeeper k (fun x => if x.running then x else
    { x.sync s.now with running := true, since := s.now, coarse := true, restarted := true, rate := 1000000,
                        rest := 0, stoppedFor := s.now - x.stoppedAt }) s
/-- A change count for a request sequenced at q: (q div 102,400 + 2) × 102,400 (R82, R249). -/
def changeCountAfter (q : Nat) : Nat := (q / 102400 + 2) * 102400
/-- The reading of a stopwatch at moment `now`. -/
def Stopwatch.read (w : Stopwatch) (now : Nat) : Nat :=
  match w.since with
  | none => w.total
  | some t => w.total + (now - t)
/-- Start a stopwatch. -/
def Stopwatch.start (w : Stopwatch) (now : Nat) : Stopwatch :=
  match w.since with
  | none => { w with since := some now }
  | some _ => w
/-- Pause a stopwatch. -/
def Stopwatch.pause (w : Stopwatch) (now : Nat) : Stopwatch := ⟨w.read now, none⟩

/-! ### Free values -/

/-- Take a fresh free word, nat or bit; each use advances the counter. -/
def takeWord (s : State) : Word64 × State := (Config.freeWord s.free, { s with free := s.free + 1 })
/-- A fresh free number. -/
def takeNat (s : State) : Nat × State := (Config.freeNat s.free, { s with free := s.free + 1 })
/-- A fresh free bit. -/
def takeBit (s : State) : Bool × State := (Config.freeBit s.free, { s with free := s.free + 1 })
/-- Whether an undefined case of R506 (named by its rule) is in force. -/
def undefinedCase (s : State) (rule : Nat) : Bool := s.undefinedCases.contains rule
/-- Enter an undefined case (R506). -/
def enterCase (rule : Nat) (s : State) : State :=
  if s.undefinedCases.contains rule then s else { s with undefinedCases := s.undefinedCases ++ [rule] }
/-- Leave an undefined case (R506, column "Until"). -/
def leaveCase (rule : Nat) (s : State) : State :=
  { s with undefinedCases := s.undefinedCases.filter (· ≠ rule) }

/-! ### Records -/

/-- A die. -/
def die (s : State) (d : Nat) : Die := s.dies.getD d Die.reset
/-- Change a die. -/
def modDie (d : Nat) (f : Die → Die) (s : State) : State := { s with dies := s.dies.modify d f }
/-- A die is at stage S8 (R347). -/
def atS8 (x : Die) : Bool := x.stage = 8 && x.stageRan
/-- A field by die × 6 + field. -/
def field (s : State) (f : Nat) : Field := s.fields.getD f Field.reset
/-- Change a field. -/
def modField (i : Nat) (f : Field → Field) (s : State) : State := { s with fields := s.fields.modify i f }
/-- A unit record; an unlisted one is as at manufacture (R239). -/
def unitRec (s : State) (p : Nat) : UnitRec := tgetD s.units p (UnitRec.manufacture p)
/-- Change a unit record. -/
def modUnit (p : Nat) (f : UnitRec → UnitRec) (s : State) : State :=
  { s with units := tmod s.units p (UnitRec.manufacture p) f }
/-- An empty core: nothing held. -/
def Core.empty : Core where
  tile := none
  heldTile := none
  interrupted := none
  finishing := none
  taken := (0, .observe)
  withheld := false
  withheldAt := none
  epoch := 0
  sram := []
  pins := []
  arrivals := []
  stalls := []
  queue := []
  test := none
  resetRun := none
  randoms := 0
  pass := (0, false)
  rerun := none
  lastTests := []
  overdue := false
  counters := []
/-- A Core Port by the PUA of its core. -/
def core (s : State) (p : Nat) : Core := tgetD s.cores p Core.empty
/-- Change a Core Port. -/
def modCore (p : Nat) (f : Core → Core) (s : State) : State :=
  { s with cores := tmod s.cores p Core.empty f }
/-- An empty cluster: no hold, no command. -/
def Cluster.empty : Cluster where
  holds := []
  queue := []
  descriptors := []
  adoptive := none
  commands := []
  sync := []
  boundary := 0
  lastProgress := 0
  window := ⟨0, none⟩
  hang := none
  hangReported := 0
  resetRun := none
  restart := false
  shadow := none
  registered := false
  ports := 0
  controlCore := 0
  lastChecker := 0
  checkerNext := 0
  forcedNext := 0
  swapped := false
  counters := []
  probed := none
  traceQueue := (0, 0)
/-- A cluster by its key. -/
def cluster (s : State) (ck : Nat) : Cluster := tgetD s.clusters ck Cluster.empty
/-- Change a cluster. -/
def modCluster (ck : Nat) (f : Cluster → Cluster) (s : State) : State :=
  { s with clusters := tmod s.clusters ck Cluster.empty f }
/-- What a Bridle keeps for an LCN that has run no tile. -/
def LcnRec.empty : LcnRec where
  progress := 0
  contraction := 0
  lastMatch := none
  lastReleased := none
  first := none
  gaps := []
  makeUp := false
  extraSample := false
  extraContraction := false
  verdicts := []
  short := false
  draw := none
  lastEnd := 0
  groupEnds := []
/-- What a Bridle keeps for an LCN. -/
def lcnRec (s : State) (l : Nat) : LcnRec := tgetD s.lcns l LcnRec.empty
/-- Groups of the sample stream hold 32 tiles in Standard and 4 in Strict; the replay deadline after their last tile is
18 ms or 6 ms (R106, R148). -/
def groupDeadline (length : Nat) : Nat := if length = 4 then 6000000 else 18000000
/-- A cut of an LCN's progress count (R144): it goes on at the next multiple of 32. The group that this shortens ends with
its last tile (R148), and counts as replayed if its drawn count lay beyond the cut. -/
def LcnRec.cut (r : LcnRec) : LcnRec :=
  let up := (r.progress + 31) / 32 * 32
  if up = r.progress then r else
  let r := match r.draw with
    | some d => if d.1 < r.progress && r.progress < d.1 + d.2.1 then
        { r with groupEnds := tset r.groupEnds d.1 (r.lastEnd + groupDeadline d.2.1),
                 verdicts := if r.progress ≤ d.2.2 then d.1 :: r.verdicts else r.verdicts } else r
    | none => r
  { r with progress := up, gaps := r.gaps ++ [(r.progress, up)], draw := none }
/-- Change it. -/
def modLcn (l : Nat) (f : LcnRec → LcnRec) (s : State) : State :=
  { s with lcns := tmod s.lcns l LcnRec.empty f }
/-- A slice that exists or has ended in this run. -/
def slice (s : State) (k : Nat) : Option Slice := tget s.slices k
/-- Change a slice that is listed. -/
def modSlice (k : Nat) (f : Slice → Slice) (s : State) : State := { s with slices := tupd s.slices k f }

/-! ### Maps -/

/-- The cluster key that serves a logical cluster, if one does (R8, R20, R254); none does in a dark field (R321). -/
def clusterOf (s : State) (l : Nat) : Option Nat :=
  if (field s (l / 800)).power = 3 then none else
  match tget s.clusterMap l with
  | some b => b
  | none => some (manufactureCluster l)
/-- The core that serves an LCN, if one does (R7, R20, R254, R321). -/
def coreOf (s : State) (lcn : Nat) : Option Nat :=
  if (field s (lcn / 12800)).power = 3 then none else
  match tget s.lcnMap lcn with
  | some b => b
  | none => some (manufactureCore lcn)
/-- The logical cluster that a cluster key serves, if it serves one. -/
def logicalOf (s : State) (ck : Nat) : Option Nat :=
  match s.clusterMap.find? (fun e => e.2 = some ck) with
  | some e => some e.1
  | none =>
    let l := ckField ck * 800 + siteOfCluster (ckCluster ck)
    if !isBay (ckCluster ck) && (tget s.clusterMap l).isNone then some l else none
/-- The LCN that a core serves, if it serves one. -/
def lcnOfCore (s : State) (p : Nat) : Option Nat :=
  match logicalOf s (puaClusterKey p) with
  | none => none
  | some l => ((List.range 16).map (l * 16 + ·)).find? fun n => coreOf s n == some p
/-- The slice that owns a torus coordinate; 0x000 when none does (R34). -/
def sliceAt (s : State) (c : Nat × Nat × Nat) : Nat :=
  match s.slices.find? (fun e => e.2.life != .ended && inBox e.2.origin e.2.extent c) with
  | some e => e.1
  | none => 0
/-- The slice that a logical cluster belongs to (R21). -/
def sliceOfLogical (s : State) (l : Nat) : Nat := sliceAt s (logicalCoord l)
/-- The slice that an LCN belongs to. -/
def sliceOfLcn (s : State) (lcn : Nat) : Nat := sliceOfLogical s (lcn / 16)
/-- The slice that a cluster serves; Ballast serves 0x000 (R10). -/
def sliceOfCluster (s : State) (ck : Nat) : Nat :=
  match logicalOf s ck with
  | some l => sliceOfLogical s l
  | none => 0
/-- The slice whose LCN or router a unit serves (R482). -/
def sliceOfUnit (s : State) (p : Nat) : Nat :=
  match puaKind p with
  | 0 => match lcnOfCore s p with
    | some l => sliceOfLcn s l
    | none => 0
  | 1 => if isBay (puaCluster p) then sliceOfCluster s (puaClusterKey p)
         else sliceAt s (clusterCoord (puaClusterKey p))
  | 6 | 7 => sliceOfCluster s (puaClusterKey p)
  | _ => 0
/-- Every field index of the variant. -/
def fieldIdxs (s : State) : List Nat := List.range (s.variant.dies * 6)
/-- Every die of the variant. -/
def dieIdxs (s : State) : List Nat := List.range s.variant.dies
/-- The logical clusters of a box (R33). -/
def boxLogicals (v : Variant) (x : Slice) : List Nat :=
  (List.range (v.dies * 4800)).filter fun l => inBox x.origin x.extent (logicalCoord l)
/-- The logical clusters of a slice. -/
def sliceLogicals (s : State) (k : Nat) : List Nat :=
  match slice s k with
  | some x => boxLogicals s.variant x
  | none => []
/-- The clusters that serve a slice. -/
def sliceClusters (s : State) (k : Nat) : List Nat := (sliceLogicals s k).filterMap (clusterOf s)
/-- The frequency of a cluster in MHz (R80): its own, else that of its field. -/
def clusterFreq (s : State) (ck : Nat) : Nat := tgetD s.freqs ck (field s (ckField ck)).freq
/-- Clusters run at a frequency from now on. -/
def setFreqs (cks : List Nat) (mhz : Nat) (s : State) : State :=
  { s with freqs := cks.foldl (fun t ck => tset t ck mhz) s.freqs }
/-- Every cluster of a field runs at a frequency from now on. -/
def setFieldFreq (mhz f : Nat) (s : State) : State :=
  modField f (fun x => { x with freq := mhz }) { s with freqs := s.freqs.filter fun e => ckField e.1 ≠ f }
/-- A slice's frequency is the lowest of its clusters (R81). -/
def refreshFreq (k : Nat) (s : State) : State :=
  let all := (sliceClusters s k).map (clusterFreq s)
  modSlice k (fun x => { x with freq := all.foldl min (all.headD 400), mixed := all.any fun m => m ≠ all.headD 400 }) s
/-- The field indices of a slice's box. -/
def sliceFields (s : State) (k : Nat) : List Nat :=
  ((sliceLogicals s k).map (· / 800)).eraseDups
/-- The die of a slice's owner: the die of its origin (R10, R33; notes/assumptions/10.md). -/
def ownerDie (s : State) (k : Nat) : Nat :=
  match slice s k with
  | some x => x.origin.2.2
  | none => 0
/-- Logical cores of a slice now (0x2404:05): those whose LCN is bound. -/
def sliceCores (s : State) (k : Nat) : Nat :=
  ((sliceLogicals s k).flatMap fun l => (List.range 16).map (l * 16 + ·)).countP fun n => (coreOf s n).isSome

/-! ### Dictionary values -/

/-- The key of index:sub. -/
def key (index sub : Nat) : Nat := index * 256 + sub
/-- A package-scoped value; an unlisted key reads as its default `d`. -/
def obj (s : State) (k d : Nat) : Nat := tgetD s.objs k d
/-- Set a package-scoped value. -/
def setObj (k v : Nat) (s : State) : State := { s with objs := tset s.objs k v }
/-- Count at a package-scoped counter that starts at 0. -/
def addObj (k n : Nat) (s : State) : State := { s with objs := tmod s.objs k 0 (· + n) }
/-- Keep the greatest value at a package-scoped object. -/
def maxObj (k n : Nat) (s : State) : State := { s with objs := tmod s.objs k 0 (max n) }
/-- A per-slice value. -/
def sobj (s : State) (sl k d : Nat) : Nat :=
  match slice s sl with
  | some x => tgetD x.objs k d
  | none => d
/-- Set a per-slice value. -/
def setSobj (sl k v : Nat) (s : State) : State := modSlice sl (fun x => { x with objs := tset x.objs k v }) s
/-- Count at a per-slice counter. -/
def addSobj (sl k n : Nat) (s : State) : State :=
  modSlice sl (fun x => { x with objs := tmod x.objs k 0 (· + n) }) s
/-- Set several package-scoped values. -/
def setObjs (l : List (Nat × Nat)) (s : State) : State := l.foldl (fun s e => setObj e.1 e.2 s) s
/-- Set several per-slice values. -/
def setSobjs (sl : Nat) (l : List (Nat × Nat)) (s : State) : State :=
  l.foldl (fun s e => setSobj sl e.1 e.2 s) s
/-- A value of a path's selector. -/
def pathKey : Path → Nat
  | .port d b => d * 2 + (if b then 1 else 0)
  | .mailbox n => 8 + n
/-- The die whose node serves a path (R430, R450). -/
def pathDie : Path → Nat
  | .port d _ => d
  | .mailbox n => n / 256
/-- The access-path code of R386: 0 port A, 1 port B, 2 mirror channel. -/
def pathCode : Path → Nat
  | .port _ b => if b then 1 else 0
  | .mailbox _ => 2
/-- A path with no session and every selector at its default (R431). -/
def PathState.empty : PathState where
  session := .none
  lease := 0
  grants := []
  nonce := none
  refusals := []
  backoff := none
  cursorLcn := none
  cursorPua := none
  objs := []
  sdo := none
  response := none
  snapshot := none
  latched := []
  latchedSlice := 0
  gathered := []
  waitingSnapshot := false
  asked := ([], none, none, false)
/-- The state of a path. -/
def path (s : State) (p : Path) : PathState := tgetD s.paths (pathKey p) PathState.empty
/-- Change the state of a path. -/
def modPath (p : Path) (f : PathState → PathState) (s : State) : State :=
  { s with paths := tmod s.paths (pathKey p) PathState.empty f }
/-- The session class of a path; a session ends when its lease runs out (R460). -/
def sessionOf (s : State) (p : Path) : Class := if s.now < (path s p).lease then (path s p).session else .none
/-- The path of a mailbox that is bound or unbound: its grants end, its selectors and cursor return to their defaults
(R431, R453, R458). -/
def PathState.unbound (x : PathState) : PathState :=
  { x with session := .none, lease := 0, grants := [], objs := [], cursorLcn := none, cursorPua := none,
           snapshot := none, latched := [], latchedSlice := 0, gathered := [], waitingSnapshot := false }
/-- Set the answer on a path: an abort code (0 done), data and the position of a write (R440, R451). -/
def respond (p : Path) (index sub status : Nat) (data : List Byte) (position : Nat) (s : State) : State :=
  modPath p (fun x => { x with response := some ⟨index, sub, status, data, position⟩ }) s
/-- The grants of a path that still stand (R458). -/
def liveGrants (s : State) (p : Path) : List Grant := (path s p).grants.filter fun g => decide (s.now ≤ g.until_)
/-- A one-write grant is consumed by the write that succeeds (R458). -/
def consumeGrant (p : Path) (action target : Nat) (s : State) : State :=
  let spent := fun (g : Grant) => g.action = action && g.target = target && decide (s.now ≤ g.until_)
  modPath p (fun x => { x with grants := match x.grants.findIdx? spent with
    | some i => x.grants.eraseIdx i
    | none => x.grants }) s
/-- A selector of a path. -/
def selector (s : State) (p : Path) (k d : Nat) : Nat := tgetD (path s p).objs k d
/-- A node object of a die (R471). -/
def nodeObj (s : State) (d k dflt : Nat) : Nat := tgetD (die s d).node k dflt
/-- The node-ID b + die, with b = 4 × NID + 1 (R433). -/
def nodeId (s : State) (d : Nat) : Nat := 4 * (die s d).nid + 1 + d
/-- A port that has sent no boot-up message (R436). -/
def Port.empty : Port where
  nmt := .initialisation
  wantOperational := false
  fault := 0
  busOff := 0
  heldEmcy := []
  lastEmcy := none
  lastHeartbeat := 0
  lastTpdo := []
  fd := false
/-- A port by die × 2 + (0 A, 1 B). -/
def port (s : State) (k : Nat) : Port := tgetD s.ports k Port.empty
/-- Change a port. -/
def modPort (k : Nat) (f : Port → Port) (s : State) : State :=
  { s with ports := tmod s.ports k Port.empty f }
/-- A mailbox that is not bound. -/
def Mailbox.empty : Mailbox := ⟨0, [], 0, 0, 0, 0⟩
/-- A mailbox by die × 256 + m (R450). -/
def mailbox (s : State) (n : Nat) : Mailbox := tgetD s.mailboxes n Mailbox.empty
/-- Change a mailbox. -/
def modMailbox (n : Nat) (f : Mailbox → Mailbox) (s : State) : State :=
  { s with mailboxes := tmod s.mailboxes n Mailbox.empty f }
/-- Send something to the outside. -/
def emit (o : Output) (s : State) : State := { s with output := s.output ++ [o] }

/-! ### The bytes of the non-volatile store -/

/-- An erased byte of the store (R387, R389, R485). -/
def erasedByte : Byte := 0xFF
/-- The byte that a raw write has put at an address. An unlisted address holds none: what lies there is not given (R485). -/
def memGet : List Host.Cell → Nat → Option Byte
  | [], _ => none
  | (a', b) :: r, a => if a' = a then some b else memGet r a
/-- Write one byte, keeping the addresses rising. -/
def memPut : List Host.Cell → Nat → Byte → List Host.Cell
  | [], a, b => [(a, b)]
  | (a', b') :: r, a, b =>
    if a < a' then (a, b) :: (a', b') :: r
    else if a = a' then (a, b) :: r
    else (a', b') :: memPut r a b
/-- Write bytes at rising addresses. -/
def memPutAll : List Host.Cell → Nat → List Byte → List Host.Cell
  | m, _, [] => m
  | m, a, b :: bs => memPutAll (memPut m a b) (a + 1) bs
/-- Read `n` bytes. -/
def memRead (m : List Host.Cell) : Nat → Nat → List (Option Byte)
  | _, 0 => []
  | a, n + 1 => memGet m a :: memRead m (a + 1) n
/-- The canonical form: addresses strictly rising from `lo`. -/
def memWfFrom : Nat → List Host.Cell → Bool
  | _, [] => true
  | lo, (a, _) :: r => decide (lo ≤ a) && memWfFrom (a + 1) r
/-- The canonical form of a store. -/
def Memory.wf (m : List Host.Cell) : Bool := memWfFrom 0 m

/-! ### Streamer words (R162, R164, R166, R183) -/

/-- The generation of a slice, as its owner holds it (R11). -/
def generation (s : State) (k : Nat) : Nat := tgetD s.generations k 0
/-- A streamer word from its fields. -/
def streamerWord (check gen fmt sl derived poison : Nat) : Word64 :=
  BitVec.ofNat 64 (check % 2 ^ 32 * 2 ^ 32 + gen % 256 * 2 ^ 24 + fmt % 16 * 2 ^ 20 + sl % 4096 * 2 ^ 8 +
    derived % 2 * 2 + poison % 2)
/-- The format code of a streamer word. -/
def wordFormat (w : Word64) : Nat := w.toNat / 2 ^ 20 % 16
/-- Its poison bit. -/
def wordPoison (w : Word64) : Bool := w.toNat % 2 = 1
/-- The CRC-32C of 4,096 zero bytes. -/
def zeroCheck : Nat := 0x98F94189
/-- The word of 4,096 zero bytes in the poisoned form of R164. -/
def poisonWord (gen fmt sl derived : Nat) : Word64 := streamerWord (2 ^ 32 - 1 - zeroCheck) gen fmt sl derived 1
/-- The fields of a streamer word (R162). -/
def wordCheck (w : Word64) : Nat := w.toNat / 2 ^ 32
/-- Bits [31:24]. -/
def wordGeneration (w : Word64) : Nat := w.toNat / 2 ^ 24 % 256
/-- Bits [19:8]. -/
def wordSlice (w : Word64) : Nat := w.toNat / 2 ^ 8 % 4096
/-- Bits [7:2], which are 0. -/
def wordReserved (w : Word64) : Nat := w.toNat / 4 % 64
/-- Bit 1. -/
def wordDerived (w : Word64) : Nat := w.toNat / 2 % 2
/-- The word that a Core Port generates as a tile writes a block (R162, R166, R172): the declared format code, the slice and its
generation, derived 1. The check is that of the payload, which `w` carries. -/
def resultWord (s : State) (k fmt : Nat) (w : Word64) : Word64 := streamerWord (wordCheck w) (generation s k) fmt k 1 0
/-- The result of an execution as the Core Port forms it: one word for each output block of the tile. -/
def formedResult (s : State) (k : Nat) (t : Tile) (r : RunResult) : RunResult :=
  { r with words := t.outputs.zipIdx.map fun e => resultWord s k e.1.format (r.words.getD e.2 0) }
/-- What a block of local SRAM holds that nothing has written: a word of zeros (notes/assumptions/190.md). -/
def SramBlock.empty : SramBlock := ⟨0, true, none, none⟩
/-- The word that the Core Port keeps for a block of its 12 (R168). -/
def sramWord (c : Core) (n : Nat) : Word64 := (tgetD c.sram n SramBlock.empty).word
/-- Set a block of local SRAM; the Core Port keeps 12 (R168). -/
def setSram (p n : Nat) (b : SramBlock) (s : State) : State :=
  if n < 12 then modCore p (fun c => { c with sram := tset c.sram n b }) s else s
/-- The word of an input block as the Core Port reads it: its own for a block of local SRAM, else that of the fetch (R167). -/
def inputWord (c : Core) (b : InBlock) : Word64 :=
  match b.localBlock with
  | some n => if (tget c.sram n).isSome then sramWord c n else b.word
  | none => b.word

/-! ### Issue holds (R46, R267) -/

/-- Add a hold reason. -/
def addHold (r : Nat) (l : List Nat) : List Nat := if l.contains r then l else l ++ [r]
/-- Take a hold reason away. -/
def dropHold (r : Nat) (l : List Nat) : List Nat := l.filter (· ≠ r)
/-- Whether the RM holds issue in a cluster. -/
def issueHeld (s : State) (ck : Nat) : Bool :=
  !(cluster s ck).holds.isEmpty || !(field s (ckField ck)).holds.isEmpty
/-- Run or pause a stopwatch. -/
def Stopwatch.run (b : Bool) (w : Stopwatch) (now : Nat) : Stopwatch := if b then w.start now else w.pause now
/-- Run the timers of an accepted command: the Bridle's until the first tile, then the Core Ports' (R269). -/
def OpenCommand.run (b : Bool) (now : Nat) (o : OpenCommand) : OpenCommand :=
  { o with timer := o.timer.run (b && !o.started) now,
           cores := o.cores.map fun e => (e.1, e.2.run b now) }
/-- Run the stopwatches of a cluster's progress window and command timers only while the RM does not hold its
issue and some command does not wait for an external signal (R267 to R269). A declared hang stops them (R273). -/
def syncWindow (ck : Nat) (s : State) : State :=
  let b := !issueHeld s ck
  modCluster ck (fun c =>
    let b := b && c.commands.any (fun o => !o.waiting) && c.hang.isNone
    { c with window := c.window.run b s.now, commands := c.commands.map (OpenCommand.run b s.now) }) s
/-- The same for every cluster that has commands. -/
def syncWindows (s : State) : State :=
  (s.clusters.map (·.1)).foldl (fun s ck => syncWindow ck s) s

/-- Hold issue in a cluster; its timers pause. -/
def holdCluster (r ck : Nat) (s : State) : State :=
  syncWindow ck (modCluster ck (fun c => { c with holds := addHold r c.holds }) s)
/-- Release issue in a cluster. -/
def freeCluster (r ck : Nat) (s : State) : State :=
  syncWindow ck (modCluster ck (fun c => { c with holds := dropHold r c.holds }) s)
/-- Hold issue in every cluster of a field. -/
def holdField (r f : Nat) (s : State) : State :=
  syncWindows (modField f (fun x => { x with holds := addHold r x.holds }) s)
/-- Release it. -/
def freeField (r f : Nat) (s : State) : State :=
  syncWindows (modField f (fun x => { x with holds := dropHold r x.holds }) s)

/-! ### Events (R87, R384 to R386) -/

/-- Where a record goes: 2 every die, 1 the Anchor's die, 0 the die of the event (R385, R386). -/
def codeScope (code : Nat) : Nat :=
  if [0x2102, 0x2201, 0x2C03, 0x3501, 0x3801, 0x3802, 0x3809].contains code then 2
  else if [0x2111, 0x2112, 0x2403].contains code then 1 else 0

/-- The EMCY that announces a record, by its code: EMCY code, detail and sending node (R446, R448). -/
def emcyOfCode (s : State) (code sl die : Nat) (payload : List Byte) : Option (Nat × Nat × Nat) :=
  let b := fun i => (payload.getD i 0).toNat
  match code with
  | 0x2C03 => if b 0 = 0 then some (0xFF01, b 1, s.anchorDie)
      else some (0xFF02, b 11, if (s.dies.getD s.anchorDie Die.reset).status = 1 then s.anchorDie else 255)
  | 0x3001 => some (0xFF10, b 1, die)
  | 0x3004 => some (0xFF20, b 1, s.anchorDie)
  | 0x3002 => some (0xFF30, b 0, die)
  | 0x290B => some (0xFF32, b 0, die)
  | 0x2703 => some (0xFF40, 0, ownerDie s sl)
  | 0x2C07 => some (0xFF41, 0, die)
  | 0x3807 => some (0xFF51, 0, die)
  | 0x3804 => some (0xFF52, 0, die)
  | 0x2201 => some (0xFF60, b 6, s.anchorDie)
  | 0x2403 => if b 0 = 1 then some (0xFF70, 0, s.anchorDie) else none
  | 0x3F02 => some (0xFF80, b 16, die)
  | _ => none
/-- The notification payload of a record, by its code (R454); the codes that need more set their own. -/
def noteOfCode (code : Nat) (payload : List Byte) : Option (List Byte) :=
  match code with
  | 0x2401 => some (payload.take 2)
  | 0x2703 => some (payload.take 4)
  | 0x290B => some (payload.take 5)
  | 0x2C11 => some (payload.take 8)
  | 0x2C05 => some (payload.take 2)
  | _ => none

/-- An event stamped by keeper `k` (R67, R68). -/
def stamped (s : State) (k : Nat) (kind : EventKind) (cause code pua sl die : Nat) (payload : List Byte) : Event :=
  { kind := kind, cause := cause, code := code, pua := pua, slice := sl, pt := keeperRead s k,
    coarse := keeperCoarse s k, scope := codeScope code, die := die, payload := payload, seqKeys := [],
    emcy := emcyOfCode s code sl die payload, detected := none,
    noteCode := (noteOfCode code payload).elim 0 fun _ => code, note := (noteOfCode code payload).getD [],
    arose := (s.now, s.turn), commit := none, ends := none, registers := none }

/-- An event of unit `p` that only records (R385). -/
def recordEvent (s : State) (code p sl : Nat) (payload : List Byte) : Event :=
  stamped s (if p = packagePua then s.anchorDie else stampKeeper p) .record 0 code p sl
    (if p = packagePua then s.anchorDie else puaDie p) payload

/-- The place of an event's source in the order of R89; what no code names comes from the timers or the control cores. -/
def sourceRank (e : Event) : Nat :=
  match e.code with
  | 0x2C03 => 1
  | 0x3003 | 0x3006 => 2
  | 0x3004 | 0x3808 => 3
  | 0x3001 => 4
  | 0x3002 => 5
  | 0x3F01 | 0x3F02 => 6 + (e.payload.getD 7 0).toNat
  | 0 => if e.emcy.map (·.1) = some 0xFF21 then 2 else if e.kind = .charge && puaKind e.pua = 5 then 5 else 10
  | _ => 10
/-- The control cores of a Gondola, or of a Field Agent, wake (R49). -/
def wakeGondola (d : Nat) (s : State) : State := modDie d (fun x => { x with coresAwake := true }) s
/-- Wake the Field Agents of some fields. -/
def wakeAgents (fs : List Nat) (s : State) : State :=
  fs.foldl (fun s f => modField f (fun x => { x with awake := true }) s) s
/-- The control cores of a unit's Gondola act: they do not recover (R62). -/
def gondolaActs (s : State) (p : Nat) : Bool := (die s (puaDie p)).recovering.isNone
/-- Enter an event at input 6 of a die's arbiter: the Gondola's own sources (R88), in the order in which their events arise.
Events that arise at the same moment enter by their source (R89); what one command raises after another event of its own is a
response, which comes later (R91). -/
def raiseLocal (d : Nat) (e : Event) (s : State) : State :=
  let later := fun (x : Event) => x.arose.1 = e.arose.1 && x.arose.2 ≠ e.arose.2 && decide (sourceRank e < sourceRank x)
  modDie d (fun x => { x with local_ := x.local_.filter (!later ·) ++ [e] ++ x.local_.filter later }) s

/-- Move events from a field's Bridles to its Field Agent while the 1,024-entry queue has room, in
cluster order (R46; notes/assumptions/8.md). -/
def drainBridles : Nat → Nat → State → State
  | 0, _, s => s
  | n + 1, f, s =>
    if 1024 ≤ (field s f).queue.length then s else
    match s.clusters.find? (fun e => ckField e.1 = f && !e.2.queue.isEmpty) with
    | none => s
    | some (ck, c) =>
      match c.queue with
      | [] => s
      | e :: r =>
        let s := modField f (fun x => { x with queue := x.queue ++ [e], awake := true }) s
        let s := modCluster ck (fun c => { c with queue := r }) s
        let s := if r.length ≤ 32 then freeCluster 0 ck s else s
        drainBridles n f s

/-- An event enters the queue of a Field Agent; a full queue holds issue in the field (R46). -/
def enterField (f : Nat) (e : Event) (s : State) : State :=
  let s := modField f (fun x => { x with queue := x.queue ++ [e], awake := true }) s
  if 1024 ≤ (field s f).queue.length then holdField 0 f s else s
/-- A Bridle, a Field Agent or a unit below them enters an event into its queue; a queue that is full holds
issue in every cluster that feeds it (R46). An event that arrives while its queue is full waits in it beyond the depth, so that
none is lost (notes/assumptions/177.md). Every check point reports to the Field Agent of its field (R172). -/
def raise (reporter : Nat) (e : Event) (s : State) : State :=
  match puaKind reporter with
  | 0 | 1 | 6 | 7 =>
    let ck := puaClusterKey reporter
    let s := modCluster ck (fun c => { c with queue := c.queue ++ [e] }) s
    let s := drainBridles 1 (puaFieldIdx reporter) s
    let s := if 64 ≤ (cluster s ck).queue.length then holdCluster 0 ck s else s
    if 1024 ≤ (field s (puaFieldIdx reporter)).queue.length then holdField 0 (puaFieldIdx reporter) s else s
  | 2 | 3 | 4 | 5 | 8 => enterField (unitField reporter) e s
  | _ => raiseLocal (if reporter = packagePua then s.anchorDie else puaDie reporter) e s

/-- The Gondola of unit `p`'s die raises a record of unit `p`. -/
def record (code p sl : Nat) (payload : List Byte) (s : State) : State :=
  let e := recordEvent s code p sl payload
  raiseLocal e.die e s

/-- As `record`, and the event's number sets the listed objects when it returns. -/
def recordSeq (code p sl : Nat) (payload : List Byte) (keys : List (Nat × Nat)) (s : State) : State :=
  let e := { recordEvent s code p sl payload with seqKeys := keys }
  raiseLocal e.die e s

/-- Raise a record in a die that is not that of its address (R386: owner's die, serving die). -/
def recordAt (d code p sl : Nat) (payload : List Byte) (s : State) : State :=
  raiseLocal d { stamped s d .record 0 code p sl d payload with die := d } s

/-- As `recordAt`, raised by the Gondola of die `via`. -/
def recordVia (via d code p sl : Nat) (payload : List Byte) (s : State) : State :=
  raiseLocal via { stamped s via .record 0 code p sl d payload with die := d } s

/-- As `recordAt`, with objects that take the number. -/
def recordAtSeq (d code p sl : Nat) (payload : List Byte) (keys : List (Nat × Nat)) (s : State) : State :=
  raiseLocal d { stamped s d .record 0 code p sl d payload with die := d, seqKeys := keys } s

/-- An event with no record that only places a notification (R454). -/
def noteEvent (d code sl : Nat) (note : List Byte) (s : State) : State :=
  raiseLocal d { stamped s d .record 0 0 packagePua sl d [] with noteCode := code, note := note } s

/-- An event with no record that only sends an EMCY (R448). -/
def emcyEvent (d code detail : Nat) (s : State) : State :=
  raiseLocal d { stamped s d .record 0 0 packagePua 0 d [] with emcy := some (code, detail, d) } s

/-- A package-scoped record, raised by the Anchor (R384, R385). -/
def recordPkg (code : Nat) (payload : List Byte) (s : State) : State := record code packagePua 0 payload s

/-- The die-scoped store that a Gondola reads: chip select 0, or 1 where 0 is not usable (R55). -/
def storedOf (s : State) (d : Nat) : Stored := if (die s d).reel.unusable.contains 0 then s.keptB else s.kept
/-- Change the die-scoped store of a die on each chip select that is usable (R55, R393). -/
def editStores (d : Nat) (f : Stored → Stored) (s : State) : State :=
  let bad := (die s d).reel.unusable
  { s with kept := if bad.contains 0 then s.kept else f s.kept, keptB := if bad.contains 1 then s.keptB else f s.keptB }
/-- After the cut of an orderly Ripcord and after an emergency one every running tile and every link stands still (R293, R295). -/
def frozen (s : State) : Bool := decide (2 ≤ s.ripcord.state)
/-- The next position is free to be issued: below K + 16,777,216 (R94). -/
def sequencerFree (s : State) : Bool := decide (s.seqr.next < s.seqr.checkpoint + 16777216)

/-- Write package-scoped records in the copy of every die that is not fenced and whose writes are not suspended; the copy's
write count goes up by one (R54, R94, R472). -/
def editCopies (f : PackageCopy → PackageCopy) (s : State) : State :=
  let edit := fun (x : Die) => if x.status = 2 || x.suspended then x else
    { x with copy := { f x.copy with writes := (x.copy.writes + 1) % 2 ^ 64 } }
  { s with dies := s.dies.map edit }

/-- The Anchor sends a sequenced event to the standby (R56). -/
def mirrorEvent (n : Numbered) (s : State) : State :=
  if s.standby then { s with seqr := { s.seqr with mirror := s.seqr.mirror ++ [n] } } else s
/-- A numbered event of the mirror has reached every die that waits for it. -/
def settleMirror (n : Numbered) (s : State) : State :=
  if s.dies.any fun x => x.returns.contains n then s
  else { s with seqr := { s.seqr with mirror := s.seqr.mirror.erase n } }
/-- Take the next position; at K + 8,388,608 the Anchor starts a checkpoint write (R94). -/
def takePosition (s : State) : State :=
  let p := s.seqr.next
  let w := if s.seqr.checkpoint + 8388608 ≤ p && s.seqr.writing.isNone then some p else s.seqr.writing
  let q := { s.seqr with next := p + 1, writing := w, held := decide (s.seqr.checkpoint + 16777216 ≤ p + 1) }
  { s with seqr := { q with mirrored := if s.standby then p else s.seqr.mirrored } }

/-- Every die that is not fenced gets a numbered event back (R47, R385). -/
def returnEverywhere (n : Numbered) (s : State) : State :=
  (dieIdxs s).foldl (fun s d => if (die s d).status = 2 then s else
    modDie d (fun x => { x with returns := x.returns ++ [n] }) s) (mirrorEvent n s)

/-- When the number wraps, the Anchor raises an era event at once, which takes number 0 of the new era (R93); while the sequencer
holds (R94) it waits. -/
def eraEvent (s : State) : State :=
  if s.seqr.next % 2 ^ 48 = 0 && s.seqr.next ≠ 0 && sequencerFree s then
    let e := recordEvent s 0x3802 packagePua 0 (leBytes 2 (s.seqr.next / 2 ^ 48 - 1))
    takePosition (returnEverywhere ⟨e, s.anchorDie, s.seqr.next⟩ s)
  else s

/-- Issue one position to an event that takes effect at once; it leaves no record (R53, R87). -/
def issuePosition (s : State) : State := eraEvent (takePosition (eraEvent s))

/-! ### The error register, EMCY frames and notifications -/

/-- The package's supply state: the highest of its dies (0x3071, R336). -/
def supplyState (s : State) : Nat := (s.dies.map (·.supply)).foldl max 0
/-- The Reel state of a die (0x3802:09, R404): the highest code that applies. -/
def reelState (x : Die) : Nat :=
  if x.reel.clearOpen.isSome then 4 else if x.reel.unusable.length = 2 then 3
  else if x.suspended || !x.reel.hold.isEmpty then 2
  else if 1048576 ≤ x.reel.next then 1 else 0
/-- The error register of a node (R447). -/
def errorRegister (s : State) (d : Nat) : Nat :=
  let x := die s d
  let fs := (List.range 6).map fun f => field s (d * 6 + f)
  let b2 := if 0 < supplyState s || fs.any (fun f => f.phaseCap ≠ 0xFF || f.power = 3) then 4 else 0
  let b3 := if 0 < x.thermal.state then 8 else 0
  let b4 := if 0 < (port s (d * 2)).fault || 0 < (port s (d * 2 + 1)).fault then 16 else 0
  let b7 := if x.losing.isSome || reelState x = 1 || reelState x = 3 || s.modelFlag || x.status = 2
    then 128 else 0
  let r := b2 + b3 + b4 + b7
  if r = 0 then 0 else r + 1
/-- The 8 bytes of an EMCY frame (R445). -/
def emcyBytes (s : State) (d code detail seq : Nat) : List Byte :=
  leBytes 2 code ++ [BitVec.ofNat 8 (errorRegister s d), BitVec.ofNat 8 detail] ++ leBytes 4 seq
/-- The COB-ID of a die's EMCY (0x1014). -/
def emcyCob (s : State) (d : Nat) : Nat := nodeObj s d (key 0x1014 0) (0x80 + nodeId s d)
/-- Send an EMCY on one port, or hold it for the inhibit time (R445, R446). -/
def emcyPort (d : Nat) (b : Bool) (data : List Byte) (s : State) : State :=
  let k := d * 2 + (if b then 1 else 0)
  let p := port s k
  if p.nmt = .stopped || p.nmt = .initialisation || p.fault = 2 then s
  else
    let wait := nodeObj s d (key 0x1015 0) 100 * 100000
    let free := match p.lastEmcy with
      | none => true
      | some t => decide (t + wait ≤ s.now)
    -- the controllers run on the reference (R48): without it a frame waits
    if free && s.reference && p.heldEmcy.isEmpty then
      emit (.can d b (emcyCob s d) data) (modPort k (fun x => { x with lastEmcy := some s.now }) s)
    else modPort k (fun x => { x with heldEmcy := x.heldEmcy ++ [data] }) s
/-- A node sends an EMCY on both ports and enters it in 0x1003 (R445, R446). -/
def emcy (d code detail seq : Nat) (s : State) : State :=
  let data := emcyBytes s d code detail seq
  let s := modDie d (fun x =>
    { x with errors := ((code + detail % 256 * 65536 + d * 2 ^ 24) :: x.errors).take 16 }) s
  emcyPort d true data (emcyPort d false data s)
/-- Keep the last error register of a node; when it returns to 0 the node sends code 0x0000 (R447). -/
def refreshError (d : Nat) (s : State) : State :=
  let old := (die s d).error
  let new := errorRegister s d
  let s := modDie d (fun x => { x with error := new }) s
  if old ≠ 0 && new = 0 then emcy d 0 0 0 s else s
/-- The same for every node. -/
def refreshErrors (s : State) : State := (dieIdxs s).foldl (fun s d => refreshError d s) s
/-- Place a notification entry, or count it as lost (R454). -/
def placeNotification (x : Notification) (m : Mailbox) : Mailbox :=
  let lostEntry : Notification := ⟨0xFFFF, x.slice, x.position, x.pt, leBytes 4 m.lostNow⟩
  if 256 ≤ m.queue.length then { m with lost := m.lost + 1, lostNow := m.lostNow + 1 }
  else if m.lostNow = 0 then { m with queue := m.queue ++ [x] }
  else if 256 ≤ m.queue.length + 1 then
    { m with queue := m.queue ++ [lostEntry], lost := m.lost + 1, lostNow := 1 }
  else { m with queue := m.queue ++ [lostEntry, x], lostNow := 0 }
/-- Place a notification in every mailbox bound to its slice and raise its host interrupt (R454). -/
def notify (x : Notification) (s : State) : State :=
  (s.mailboxes.filter (fun e => e.2.bound = x.slice && x.slice ≠ 0)).foldl (fun s e =>
    modDie (e.1 / 256) (fun d => { d with notifyIrq := addHold e.1 d.notifyIrq })
      (modMailbox e.1 (placeNotification x) s)) s
/-- A result at the end of a command: the machine goes on. -/
def done (s : State) : Result := .next s

end Sys2Proof.Machine
end

