-- ==== Sys2Proof/Machine/Trace.lean ====
section
/-!
DEFINITION. Counting (R405 to R407) and the Spool (R412 to R423): trace slots, packets and chunks, and the commands
that write packets and drain chunks.
-/
namespace Sys2Proof.Machine
open Sys2Proof

/-! ### Counters (R406, R407) -/

/-- The key of a slice view of a counter: a slice's share at one unit. Units are LCNs, logical clusters, fields or
dies, by the counter's level. -/
def viewKey (sl unit id : Nat) : Nat := (sl * 2 ^ 20 + unit) * 65536 + id
/-- Count for a slice (R407). -/
def countView (sl unit id n : Nat) (s : State) : State :=
  if sl = 0 then s else { s with views := tmod s.views (viewKey sl unit id) 0 (· + n) }
/-- The slice view of a counter: the sum of the slice's shares (R407). -/
def sliceView (s : State) (sl id : Nat) : Nat :=
  ((s.views.filter fun e => e.1 / 65536 / 2 ^ 20 = sl && e.1 % 65536 = id).map (·.2)).sum
/-- The views of a slice id start again when the id is used again (R407). -/
def clearViews (sl : Nat) (s : State) : State :=
  { s with views := s.views.filter fun e => e.1 / 65536 / 2 ^ 20 ≠ sl && e.1 / 65536 / 2 ^ 20 ≠ 4096 + sl }
/-- A Core Port counts (ids 0x0001 to 0x0009). -/
def countCore (p id n : Nat) (s : State) : State :=
  let s := modCore p (fun c => { c with counters := tmod c.counters id 0 (· + n) }) s
  match lcnOfCore s p with
  | some l => countView (sliceOfLcn s l) l id n s
  | none => s
/-- A Bridle counts (ids 0x0101 to 0x0108). -/
def countCluster (ck id n : Nat) (s : State) : State :=
  let s := modCluster ck (fun c => { c with counters := tmod c.counters id 0 (· + n) }) s
  match logicalOf s ck with
  | some l => countView (sliceOfLogical s l) l id n s
  | none => s
/-- A Field Agent counts for a slice (ids 0x0201 to 0x0203). -/
def countField (f sl id n : Nat) (s : State) : State :=
  countView sl f id n (modField f (fun x => { x with counters := tmod x.counters id 0 (· + n) }) s)
/-- A Gondola counts for a slice (ids 0x0301 to 0x0308). -/
def countDie (d sl id n : Nat) (s : State) : State :=
  countView sl d id n (modDie d (fun x => { x with counters := tmod x.counters id 0 (· + n) }) s)

/-! ### Slots -/

/-- Change a trace slot, by die × 256 + slot. -/
def modTrace (k : Nat) (f : TraceSlot → TraceSlot) (s : State) : State := { s with traces := tupd s.traces k f }
/-- The cluster that a slot traces now (R413). -/
def traceCluster (s : State) (t : TraceSlot) : Option Nat :=
  match t.logical with
  | some l => clusterOf s l
  | none => some t.target
/-- The field whose SRAM takes a slot's chunks. -/
def traceField (s : State) (t : TraceSlot) : Nat :=
  match traceCluster s t with
  | some ck => ckField ck
  | none => match t.logical with
    | some l => l / 800
    | none => ckField t.target
/-- The running slots of a field. -/
def runningSlots (s : State) (f : Nat) : List Nat :=
  (s.traces.filter fun e => e.2.state = 2 && traceField s e.2 = f).map (·.1)
/-- Chunks of the field SRAM for each running slot (R421). -/
def chunkShare (s : State) (f : Nat) : Nat := max 2 (512 / max 1 (runningSlots s f).length)

/-! ### Packets and chunks (R417 to R423) -/

/-- The words of a packet: header and extension (R417). -/
def packetWords (slot type body : Nat) (coarse : Bool) (ext : List Nat) : List Word64 :=
  BitVec.ofNat 64 (type * 2 ^ 60 + ext.length % 4 * 2 ^ 58 + slot % 256 * 2 ^ 50 +
    (if coarse then 2 ^ 49 else 0) + body % 2 ^ 49) :: ext.map (BitVec.ofNat 64)
/-- The keeper state code of 0x2103: 0 fine, 1 coarse, 2 offset fault, 3 stopped. Where several apply, an offset fault is shown before
a stop and a stop before coarse (DESIGN CHOICE, notes/assumptions/183.md). -/
def keeperState (k : Keeper) : Nat :=
  if k.offsetFault then 2 else if !k.running then 3 else if k.coarse || 1000 ≤ k.missed then 1 else 0
/-- The words of a sync packet at time `now` (R418, R419). The program counter of the control core is a free value:
no command carries it. -/
def syncWords (s : State) (slot : Nat) (t : TraceSlot) (now : Nat) : List Word64 :=
  let f := traceField s t
  let ck := (traceCluster s t).getD t.target
  let sl := sliceOfCluster s ck
  packetWords slot 1 (sl * 2 ^ 37 + tgetD s.generations sl 0 * 2 ^ 29 +
    keeperState (keeper s (fieldKeeper f)) * 2 ^ 20 + Config.programCounter slot now % 2 ^ 20)
    (keeperCoarse s (fieldKeeper f)) [now]
/-- The 4,096 bytes of a chunk (R423); pad words fill its rest. -/
def chunkBytes (s : State) (slot : Nat) (t : TraceSlot) : List Byte :=
  let head := [0x01, BitVec.ofNat 8 slot, BitVec.ofNat 8 (traceField s t), 0] ++ leBytes 4 t.chunkNumber ++
    leBytes 8 t.chunkFirst ++ leBytes 4 t.chunkTarget ++ leBytes 2 t.chunk.length ++ [0, 0] ++
    leBytes 4 (obj s (key 0x2101 0) 0)
  let words := (t.chunk ++ List.replicate (508 - t.chunk.length) 0).flatMap fun (w : Word64) => leBytes 8 w.toNat
  head ++ leBytes 4 (crc32c (head ++ words)).toNat ++ words
/-- Close the open chunk of a slot: it waits to be drained. -/
def closeChunk (k : Nat) (s : State) : State :=
  modTrace k (fun t => if t.chunk.isEmpty then t else
    { t with full := t.full ++ [(t.chunkFirst, chunkBytes s (k % 256) t)], chunk := [],
             chunkNumber := t.chunkNumber + 1 }) s
/-- Lose a packet (R420). -/
def losePacket (k now : Nat) (s : State) : State :=
  match tget s.traces k with
  | none => s
  | some t => countField (traceField s t) t.owner 0x0203 1 (modTrace k (fun t => { t with
      lost := some (match t.lost with
        | some l => (l.1 + 1, l.2.1, now)
        | none => (1, now, now)) }) s)
/-- Append words to the slot's chunk, with a sync packet first in a new chunk (R421). -/
def appendWords (k now : Nat) (ws : List Word64) (s : State) : State :=
  modTrace k (fun t =>
    if t.chunk.isEmpty then
      let ck := (traceCluster s t).getD t.target
      { t with chunk := syncWords s (k % 256) t now ++ ws, chunkFirst := now, chunkTarget := clusterPua 6 ck,
               lastPacket := s.now, lastTime := now }
    else { t with chunk := t.chunk ++ ws, lastPacket := s.now, lastTime := now }) s
/-- The words in a Bridle's trace queue now: its budget of one flit, two words, per µs takes them to the Field Agent, after its
events (R45, R420; notes/assumptions/198.md). -/
def traceBacklog (s : State) (ck : Nat) : Nat :=
  let c := cluster s ck
  if c.queue.isEmpty then c.traceQueue.1 - (s.now - c.traceQueue.2) / 1000 * 2 else c.traceQueue.1
/-- Words enter a Bridle's trace queue (R420). -/
def queueTrace (ck n : Nat) (s : State) : State :=
  let left := traceBacklog s ck
  let since := if left = 0 then s.now else s.now - (s.now - (cluster s ck).traceQueue.2) % 1000
  modCluster ck (fun c => { c with traceQueue := (left + n, since) }) s
/-- Put the words of a packet into a slot's chunk, or lose it when the Bridle's 64-word queue is full or no chunk is free (R420,
R421); after a loss a loss packet and a sync packet come first. -/
def putWords (k now : Nat) (ws : List Word64) (s : State) : State :=
  match tget s.traces k with
  | none => s
  | some t =>
    let f := traceField s t
    let loss := match t.lost with
      | some l => packetWords (k % 256) 0xE (min l.1 (2 ^ 32 - 1)) false [l.2.1, l.2.2] ++
          syncWords s (k % 256) t now
      | none => []
    let n := loss.length + ws.length
    let ck := (traceCluster s t).getD t.target
    if 64 < traceBacklog s ck + ws.length then losePacket k now s else
    let s := queueTrace ck ws.length s
    let s := if !t.chunk.isEmpty && 508 < t.chunk.length + n then closeChunk k s else s
    match tget s.traces k with
    | none => s
    | some u =>
      if u.chunk.isEmpty && chunkShare s f ≤ u.full.length then losePacket k now s
      else
        let s := appendWords k now (loss ++ ws) (modTrace k (fun t => { t with lost := none }) s)
        let s := countField f t.owner 0x0202 1 s
        match tget s.traces k with
        | some u => if 508 ≤ u.chunk.length then closeChunk k s else s
        | none => s
/-- Put a packet that carries delta, after a time packet when delta exceeds 4,095 ns (R418). Where a sync packet comes
first, at the start of a chunk or after a loss, delta is 0. -/
def putPacket (k type body : Nat) (ext : List Nat) (s : State) : State :=
  match tget s.traces k with
  | none => s
  | some t =>
    let kf := fieldKeeper (traceField s t)
    let now := keeperRead s kf
    let co := keeperCoarse s kf
    let delta := now - t.lastTime
    let late := decide (4095 < delta)
    let full := decide (508 < t.chunk.length + (if late then 2 else 1) + ext.length)
    let words := fun d => packetWords (k % 256) type (d * 2 ^ 37 + body % 2 ^ 37) co ext
    if t.chunk.isEmpty || full || t.lost.isSome then
      putWords k now (words 0) (if full then closeChunk k s else s)
    else
      let s := if late then putWords k now (packetWords (k % 256) 4 (delta - 4095) co []) s else s
      putWords k now (words (min delta 4095)) s
/-- Write the outcomes that the Bridle holds (R419). -/
def flushOutcomes (k : Nat) (s : State) : State :=
  match tget s.traces k with
  | none => s
  | some t => if t.outcomes.isEmpty then s else
    let bits := (t.outcomes.zipIdx.filter (·.1)).foldl (fun m e => m + 2 ^ e.2) 0
    putPacket k 2 ((t.outcomes.length - 1) * 2 ^ 32 + bits) []
      (modTrace k (fun t => { t with outcomes := [] }) s)
/-- Put a sync packet. -/
def putSync (k : Nat) (s : State) : State :=
  match tget s.traces k with
  | none => s
  | some t =>
    let now := keeperRead s (fieldKeeper (traceField s t))
    if t.chunk.isEmpty then s else putWords k now (syncWords s (k % 256) t now) s
/-- A cluster packet in every running slot that traces a cluster, then a sync packet (R419, R427): 0 reset begins,
1 reset ends, 2 clock stopped, 3 clock restarted, 4 rebound. -/
def traceClusterEvent (ck event : Nat) (s : State) : State :=
  (s.traces.filter fun e => e.2.state = 2 && traceCluster s e.2 = some ck).foldl (fun s e =>
    let s := putPacket e.1 7 (event * 2 ^ 34 + clusterPua 6 ck) [] (flushOutcomes e.1 s)
    if event = 0 || event = 2 then s else putSync e.1 s) s
/-- A packet in every running slot that traces a cluster and takes its content: bit 1 commands and synchronisation
objects (R415). -/
def traceEvent (ck type body bit : Nat) (s : State) : State :=
  (s.traces.filter fun e => e.2.state = 2 && traceCluster s e.2 = some ck && e.2.content.testBit bit).foldl
    (fun s e => putPacket e.1 type body [] (flushOutcomes e.1 s)) s
/-- The slots that follow a binding and trace another cluster than before write a cluster packet (R427). -/
def traceRebound (before : State) (s : State) : State :=
  (s.traces.filter fun e => e.2.state = 2 && traceCluster s e.2 ≠ traceCluster before e.2).foldl (fun s e =>
    match traceCluster s e.2 with
    | some ck => putSync e.1 (putPacket e.1 7 (4 * 2 ^ 34 + clusterPua 6 ck) [] (flushOutcomes e.1 s))
    | none => s) s

/-! ### The trace region (R412, R422) -/

/-- The drop packet of a slot in the region's last chunk, in stop mode (R422). -/
def writeDrop (k : Nat) (s : State) : State :=
  match tget s.traces k with
  | none => s
  | some t => match t.dropped with
    | none => s
    | some x =>
      -- a drop packet that finds the kept chunk full has no place
      if (die s (k / 256)).traceMode = 0 || 505 < (die s (k / 256)).traceKept.length then s else
      let ws := (die s (k / 256)).traceKept ++
        packetWords (k % 256) 0xF (min x.1 (2 ^ 32 - 1)) false [x.2.1, x.2.2]
      let bytes := chunkBytes s (k % 256) { t with chunk := ws, chunkNumber := 0, chunkFirst := x.2.1 }
      let s := modDie (k / 256) (fun y => { y with
        traceKept := ws, traceRegion := tset y.traceRegion 16383 bytes }) s
      modTrace k (fun t => { t with dropped := none }) s
/-- Drop a chunk (R422, R366). -/
def dropChunk (k first : Nat) (s : State) : State :=
  match tget s.traces k with
  | none => s
  | some t => countDie (k / 256) t.owner 0x0308 1 (modTrace k (fun t => { t with
      dropped := some (match t.dropped with
        | some x => (x.1 + 1, x.2.1, first)
        | none => (1, first, first)) }) s)
/-- The Gondola takes one chunk into its trace region (R421, R422); it drops it while the region has no place (R366).
Region 1 of a die is its trace region. -/
def storeChunk (k first : Nat) (bytes : List Byte) (s : State) : State :=
  let d := k / 256
  let x := die s d
  match tget s.traces k with
  | none => s
  | some t =>
    if (tgetD x.regions 1 none).isNone then dropChunk k first s
    else if x.traceMode ≠ 0 && 16383 ≤ x.traceNext then dropChunk k first s
    else countDie d t.owner 0x0307 1 (modDie d (fun x => { x with
      traceRegion := tset x.traceRegion x.traceNext bytes,
      traceNext := if x.traceMode = 0 then (x.traceNext + 1) % 16384 else x.traceNext + 1 }) s)
/-- Stop a slot (R415, R416, R427): `cause` is 0x3B09:05. Its chunk then drains. -/
def stopSlot (k cause : Nat) (s : State) : State :=
  match tget s.traces k with
  | none => s
  | some t => if t.state ≠ 2 then s else
    let s := closeChunk k (flushOutcomes k s)
    let s := modTrace k (fun t => { t with state := 3, stopCause := cause, scheduled := none }) s
    match tget s.traces k with
    | some u => if u.full.isEmpty then writeDrop k s else s
    | none => s
/-- Stop the running slots that a test picks. -/
def stopSlots (pick : Nat → TraceSlot → Bool) (cause : Nat) (s : State) : State :=
  (s.traces.filter fun e => e.2.state = 2 && pick e.1 e.2).foldl (fun s e => stopSlot e.1 cause s) s
/-- The slots that trace a cluster and have a stop bit set stop (R415). -/
def stopTraced (ck bit cause : Nat) (s : State) : State :=
  stopSlots (fun _ t => traceCluster s t = some ck && t.stopMask.testBit bit) cause s
/-- An emergency Ripcord stops every slot without draining (R427). -/
def cutTraces (s : State) : State :=
  { s with traces := s.traces.map fun e => if e.2.state = 2 then
      (e.1, { e.2 with state := 3, stopCause := 3, chunk := [], full := [], outcomes := [], scheduled := none })
    else (e.1, { e.2 with chunk := [], full := [] }) }

/-! ### Commands -/

/-- The content bit that a packet type needs (R415). -/
def contentBit (type : Nat) : Option Nat :=
  if type = 2 || type = 3 then some 0 else if type = 5 || type = 6 then some 1 else if type = 8 then some 2 else none

/-- SLOT_SWITCH (R416): a scheduled start or stop takes effect at C + 32. -/
def execSlotSwitch (dt d slot : Nat) (s : State) : Result :=
  let s := elapse dt s
  let k := d * 256 + slot
  done <| match tget s.traces k with
  | none => s
  | some t => match t.scheduled with
    | none => s
    | some c =>
      -- the time copy of the traced cluster's Bridle
      let now := keeperRead s (fieldKeeper (traceField s t))
      if now < c.1 + 32 then s
      else if c.2 then
        modTrace k (fun t => if t.state = 1 then
          { t with state := 2, scheduled := none, startPt := c.1 + 32, chunkNumber := 0, chunk := [], full := [],
                   lastTime := now, lost := none, dropped := none, outcomes := [] }
        else { t with scheduled := none }) s
      else stopSlot k 0 (modTrace k (fun t => { t with scheduled := none }) s)

/-- TRACE_PACKET (R417 to R420): a running slot takes a packet of its content. Branch outcomes wait until 32 are held
or another packet is due. -/
def execTracePacket (dt d slot : Nat) (packet : Packet) (s : State) : Result :=
  let s := elapse dt s
  let k := d * 256 + slot
  done <| match tget s.traces k with
  | none => s
  | some t =>
    let wanted := match contentBit packet.type with
      | some b => t.content.testBit b
      | none => true
    if t.state ≠ 2 || !wanted then s
    else if packet.type = 2 then
      let n := packet.body / 2 ^ 32 % 32 + 1
      let new := (List.range n).map fun i => packet.body.testBit i
      let s := modTrace k (fun t => { t with
        outcomes := t.outcomes ++ new, outcomeAt := if t.outcomes.isEmpty then s.now else t.outcomeAt }) s
      if t.outcomes.length + n < 32 then s
      else
        let rest := (t.outcomes ++ new).drop 32
        let s := flushOutcomes k (modTrace k (fun t => { t with outcomes := t.outcomes.take 32 }) s)
        modTrace k (fun t => { t with outcomes := rest, outcomeAt := s.now }) s
    else putPacket k packet.type packet.body packet.extension (flushOutcomes k s)

/-- TRACE_FLUSH_TIMEOUT (R419): 1 µs after the oldest outcome that the Bridle holds. -/
def execTraceFlushTimeout (dt d slot : Nat) (s : State) : Result :=
  let s := elapse dt s
  let k := d * 256 + slot
  done <| match tget s.traces k with
  | none => s
  | some t => if t.state = 2 && t.outcomeAt + 1000 ≤ s.now then flushOutcomes k s else s

/-- CHUNK_IDLE_TIMEOUT (R421): 1 ms passes without a new packet for the slot, and its chunk is closed to drain. -/
def execChunkIdleTimeout (dt d slot : Nat) (s : State) : Result :=
  let s := elapse dt s
  let k := d * 256 + slot
  done <| match tget s.traces k with
  | none => s
  | some t => if t.lastPacket + 1000000 ≤ s.now then closeChunk k s else s

end Sys2Proof.Machine
end

