-- ==== Sys2Proof/Machine/Steps.lean ====
section
/-!
DEFINITION. Envelope steps, step groups and frequency changes, shared by the families: the fmax entries of a
slice (R222), its group's step and granted frequency (R301 to R306), voltage writes (R302) and the Anchor's
schedule of change counts (R80 to R86).
-/
namespace Sys2Proof.Machine
open Sys2Proof

/-- The voltage code of each step by default (R301). -/
def defaultCodes : List Nat := [0, 2, 4, 6, 8, 11, 14, 17, 20, 23, 26, 29, 32, 35, 38, 40]
/-- The characterised need of each step, in units of 10 µV (R301). -/
def characterisedNeed : List Nat :=
  [56000, 57250, 58500, 59750, 61000, 62875, 64750, 66625] ++
  [68500, 70375, 72250, 74125, 76000, 77875, 79750, 81000]
/-- The guaranteed frequency of each step in MHz (R301). -/
def guaranteedMhz : List Nat :=
  [400, 450, 500, 550, 600, 650, 700, 750, 800, 850, 900, 950, 1000, 1050, 1075, 1100]
/-- The frequency code of R82. -/
def freqCode (mhz : Nat) : Nat := (mhz - 400) / 25
/-- The frequency of a code (R82). -/
def freqOfCode (c : Nat) : Nat := 400 + 25 * c
/-- The voltage code of a step in force (0x3000). -/
def stepCode (s : State) (e : Nat) : Nat := obj s (key 0x3000 (e + 1)) (defaultCodes.getD e 0)
/-- The voltage of a code in whole millivolts, rounded up (R302). -/
def codeMillivolt (n : Nat) : Nat := (60000 + 625 * n + 99) / 100

/-- An fmax record at manufacture: both tables at the guaranteed frequencies (R222; notes/assumptions/3.md). -/
def FmaxRec.manufacture : FmaxRec where
  current := guaranteedMhz.map freqCode
  characterised := guaranteedMhz.map freqCode
  run := 0
  step := 0
  outcome := 0xFF
  lowerings := 0
  slow := false
  tests := 0
  flushed := 0
  dirty := false
/-- The fmax record of a core. -/
def fmaxRec (s : State) (p : Nat) : FmaxRec := tgetD s.fmax p FmaxRec.manufacture
/-- Change it. -/
def modFmax (p : Nat) (f : FmaxRec → FmaxRec) (s : State) : State :=
  { s with fmax := tmod s.fmax p FmaxRec.manufacture f }
/-- The current entry of a core at a step: a frequency code, 0xFF unusable (R222). -/
def fmaxEntry (s : State) (p e : Nat) : Nat := (fmaxRec s p).current.getD e 0xFF

/-- The current entries at step `e` of the cores that serve a slice: those with a record of their own, and
one entry as at manufacture for each of the others. -/
def sliceEntries (s : State) (k e : Nat) : List Nat :=
  let own := s.fmax.filterMap fun x =>
    match lcnOfCore s x.1 with
    | some l => if sliceOfLcn s l = k then some (x.2.current.getD e 0xFF) else none
    | none => none
  own ++ List.replicate (sliceCores s k - own.length) (FmaxRec.manufacture.current.getD e 0xFF)
/-- F(s, e) of R305: the lowest entry, none where an entry is unusable. -/
def sliceF (s : State) (k e : Nat) : Option Nat :=
  let l := sliceEntries s k e
  if l.contains 0xFF then none else some (freqOfCode (l.foldl min 28))

/-- Whether a slice exists and holds routers (R34). -/
def sliceLive (x : Slice) : Bool := x.life != .ended

/-- The slices that hold a router in one of the fields. -/
def groupSlices (s : State) (fs : List Nat) : List Nat :=
  (s.slices.filter fun e => sliceLive e.2 && (sliceFields s e.1).any fs.contains).map (·.1)
/-- One round of R304: the fields of every slice that has a field among `fs`. -/
def growGroup (s : State) (fs : List Nat) : List Nat :=
  (fs ++ (groupSlices s fs).flatMap (sliceFields s)).eraseDups
/-- The step group of a field (R304). -/
def stepGroup (s : State) (f : Nat) : List Nat := (List.range 24).foldl (fun g _ => growGroup s g) [f]

/-- The requested frequency of a slice (0x3010). -/
def requestedMhz (s : State) (k : Nat) : Nat := sobj s k (key 0x3010 0) 1100
/-- The lowest thermal cap of the dies of a group (R330). -/
def thermalCap (s : State) (fs : List Nat) : Nat :=
  (fs.map fun f => (die s (f / 6)).thermal.cap).foldl min 15
/-- The lowest phase cap of a group (R320); that of a field applies once its ramp has ended (R344). -/
def phaseCapOf (s : State) (fs : List Nat) : Nat :=
  (fs.map fun f => if (field s f).power = 1 then 15 else (field s f).phaseCap).foldl min 15
/-- The cap that a ramp without headroom sets on its group (R323). -/
def rampCapOf (s : State) (fs : List Nat) : Nat := (fs.map fun f => (field s f).rampCap).foldl min 15
/-- The group's cap (R305, R323). -/
def groupCap (s : State) (fs : List Nat) : Nat :=
  min (rampCapOf s fs) (min (thermalCap s fs) (min (phaseCapOf s fs) (obj s (key 0x3003 0) 15)))
/-- The group's step: the lowest step at or below the cap that gives every slice its requested frequency, else
the cap (R305); the idle step when no slice holds a router (R304). -/
def groupStep (s : State) (fs : List Nat) : Nat :=
  let cap := groupCap s fs
  match groupSlices s fs with
  | [] => min cap (obj s (key 0x3006 0) 8)
  | ks => ((List.range (cap + 1)).find? fun e => ks.all fun k =>
      match sliceF s k e with
      | some m => decide (requestedMhz s k ≤ m)
      | none => false).getD cap
/-- The granted frequency of a slice at its group's step (R305). Where no usable entry gives F, the
frequency before the reductions is a free value between 400 MHz and the request. -/
def grantedMhz (s : State) (k e : Nat) : Nat :=
  let fr := requestedMhz s k
  let top := match sliceF s k e with
    | some m => min fr m
    | none => min fr (400 + 25 * (Config.grantWithoutEntry k e % 29))
  let codes := match slice s k with
    | some x => x.powerCodes + x.droopCodes
    | none => 0
  max 400 (top - 25 * codes)
/-- The limiting cause of 0x3011:03. Where several apply, a reduction comes before a cap and the lowest cap
names the cause (notes/assumptions/12.md). -/
def limitingCause (s : State) (fs : List Nat) (k e : Nat) : Nat :=
  let g := grantedMhz s k e
  let fr := requestedMhz s k
  let codes := match slice s k with
    | some x => (x.powerCodes, x.droopCodes)
    | none => (0, 0)
  if g = fr then 0 else if 0 < codes.1 then 5 else if 0 < codes.2 then 6
  else if groupCap s fs < 15 && e = groupCap s fs then
    (if groupCap s fs = thermalCap s fs then 2 else if groupCap s fs = phaseCapOf s fs then 3 else 4)
  else 1

/-- The field mask of a list of field indices (R82). -/
def fieldMask (fs : List Nat) : Nat := fs.foldl (fun m f => m ||| 2 ^ f) 0
/-- The field indices of a mask. -/
def maskFields (m : Nat) : List Nat := (List.range 24).filter fun f => m.testBit f

/-- Discard the margin tests on the cores that `pick` names (R217). -/
def discardMargins (pick : Nat → Bool) (s : State) : State :=
  let keep := fun (c : Core) => { c with test := c.test.filter fun t => t.test.kind != 3 }
  { s with cores := s.cores.map fun c => if pick c.1 then (c.1, keep c.2) else c }
/-- Discard the margin tests in a field (R217). -/
def discardMargin (f : Nat) (s : State) : State := discardMargins (fun p => puaFieldIdx p = f) s
/-- Write a field's voltage target for a step (R302): a margin test in the field is discarded (R217). After an emergency
Ripcord voltage writes stop (R344). -/
def writeVoltage (f e : Nat) (s : State) : State :=
  if s.ripcord.state = 3 then s else
  let s := discardMargin f (emit (.voltage f (codeMillivolt (stepCode s e))) s)
  modField f (fun x => { x with
    raising := some e, back := some (x.back.getD x.step), raisedAt := s.now, targetStep := none }) s

/-- Grant a slice its frequency: 0x3011, its notification when the grant changes (R454), and the change that
it waits for (R306). `required` is a lowering that the RM itself needs (R308). -/
def grantSlice (fs : List Nat) (e : Nat) (required : Bool) (k : Nat) (s : State) : State :=
  match slice s k with
  | none => s
  | some x =>
    let g := grantedMhz s k e
    let cause := limitingCause s fs k e
    let old := sobj s k (key 0x3011 1) 0
    let s := setSobjs k [(key 0x3011 1, g), (key 0x3011 2, e), (key 0x3011 3, cause)] s
    let s := if old ≠ g && old ≠ 0 then
      noteEvent (ownerDie s k) 0x3011 k (leBytes 2 g ++ leBytes 1 cause) s else s
    if g = x.freq && !x.mixed then modSlice k (fun x => { x with want := none }) s
    else modSlice k (fun x => { x with want := some (g, required && decide (g < x.freq)) }) s

/-- Whether a slice of the group still waits to go to a lower frequency. -/
def loweringWaits (s : State) (fs : List Nat) : Bool :=
  (groupSlices s fs).any fun k => match slice s k with
    | some x => (match x.want with
        | some w => decide (w.1 < x.freq)
        | none => false) ||
      s.changes.any (fun c => c.slice = k && c.lowering)
    | none => false

/-- Lower the voltage of every field of a group whose step falls (R306.3). -/
def lowerVoltages (fs : List Nat) (s : State) : State :=
  if loweringWaits s fs then s else
  fs.foldl (fun s f => match (field s f).targetStep with
    | some e => writeVoltage f e s
    | none => s) s

/-- Recompute R305 for the group of a field and start what follows in the order of R306: voltages that rise
are written at once, a voltage that falls waits for every lowering. -/
def recomputeGroup (required : Bool) (f : Nat) (s : State) : State :=
  let fs := stepGroup s f
  let e := groupStep s fs
  let s := (groupSlices s fs).foldl (fun s k => grantSlice fs e required k s) s
  let s := fs.foldl (fun s g =>
    let x := field s g
    if x.power ≠ 2 then s
    else if x.raising = some e then modField g (fun x => { x with targetStep := none }) s
    else if x.step < e then writeVoltage g e s
    else
      -- a raise that waits is dropped, a fall that is no longer wanted is taken back (R344)
      let s := if x.raising.any fun r => decide (x.step < r) || decide (e = x.step) then writeVoltage g x.step s else s
      modField g (fun y => { y with targetStep := if e < x.step then some e else none }) s) s
  lowerVoltages fs s

/-- Recompute the groups of a list of fields, each group once. -/
def recomputeGroups (required : Bool) (fs : List Nat) (s : State) : State :=
  (fs.foldl (fun (a : State × List Nat) f =>
    if a.2.contains f then a else (recomputeGroup required f a.1, a.2 ++ stepGroup a.1 f)) (s, [])).1

/-! ### Change counts -/

/-- Some change takes this change count already (R80). -/
def changeAt (s : State) (c : Nat) : Bool := s.changes.any (fun x => x.count = c)
/-- The first change count at or after `c` that no change takes. -/
def freeChangeCount (s : State) : Nat → Nat → Nat
  | 0, c => c
  | n + 1, c => if changeAt s c then freeChangeCount s n (c + 102400) else c

/-- The announcement flit of R82. -/
def announceFlit (c : Change) : Flit :=
  BitVec.ofNat 128 (c.count * 2 ^ 64 + 2 * 2 ^ 60 + c.slice % 4096 * 2 ^ 48 + c.mask % 2 ^ 24 * 2 ^ 24 +
    c.code % 32 * 2 ^ 19 + c.postponed % 4 * 2 ^ 17 + c.id % 65536)

/-- Announce a change: the flit goes down to every Field Agent (R47), and 0x2111 shows it. `st` is
0x2111:02. -/
def announceChange (c : Change) (st : Nat) (s : State) : State :=
  setObjs [(key 0x2111 1, c.id), (key 0x2111 2, st), (key 0x2111 3, c.count), (key 0x2111 4, c.postponed)]
    (emit (.announce (announceFlit c)) s)

/-- The Anchor sequences a request and schedules its change (R80, R82). -/
def scheduleChange (sl mask code : Nat) (required : Bool) (s : State) : State :=
  let count := freeChangeCount s (s.changes.length + 1) (changeCountAfter (pt s))
  let old := match slice s sl with
    | some x => if x.mixed then ((sliceClusters s sl).map (clusterFreq s)).foldl max 0 else x.freq
    | none => (maskFields mask).foldl (fun m f => max m (field s f).freq) 0
  let c : Change := {
    id := s.nextChange % 65536, slice := sl, mask := mask, code := code, count := count,
    postponed := 0, acked := [], held := [], sampled := none, switched := false, verdicts := [],
    required := required, lowering := decide (freqOfCode code < old) }
  announceChange c 0 { issuePosition s with changes := s.changes ++ [c], nextChange := s.nextChange + 1 }

/-- Show a new state of a change in 0x2111, where the Anchor has announced no other one since (R95). -/
def showChange (id : Nat) (vals : List (Nat × Nat)) (s : State) : State :=
  if obj s (key 0x2111 1) id = id then setObjs vals s else s
/-- Move a change, and every change scheduled at its new count or later, one change count on (R85): only the
held one counts a postponement. The held change takes the next count and is announced first, then the others in their order
(notes/assumptions/180.md); 0x2111 shows the last of them (R95). -/
def moveChange (id : Nat) (s : State) : State :=
  match s.changes.find? (fun x => x.id = id) with
  | none => s
  | some c =>
    let next := c.count + 102400
    let moved := s.changes.map fun x =>
      if x.id = id then { x with count := next, postponed := x.postponed + 1, acked := [], held := [],
                                 sampled := none, switched := false, verdicts := [] }
      else if next ≤ x.count then { x with count := x.count + 102400, acked := [] } else x
    let s := { s with changes := moved }
    moved.foldl (fun s x => if x.id = id then s else
      if next < x.count then announceChange x 0 s else s)
      (match moved.find? (fun x => x.id = id) with
        | some x => announceChange x 2 s
        | none => s)

/-- Postpone a change that `fields` held, or abandon it after its third hold (R83, R85, R86). A change that
the RM itself requires is asked for again (R308). -/
def postponeChange (id : Nat) (fields : List Nat) (s : State) : State :=
  match s.changes.find? (fun x => x.id = id) with
  | none => s
  | some c =>
    if 2 ≤ c.postponed then
      let s := { s with changes := s.changes.filter (fun x => x.id ≠ id) }
      let s := showChange c.id [(key 0x2111 1, c.id), (key 0x2111 2, 3), (key 0x2111 3, c.count), (key 0x2111 4, 3)] s
      let s := recordPkg 0x2112 (leBytes 2 c.id ++ leBytes 3 c.mask) s
      if c.required then modSlice c.slice (fun x => { x with want := some (freqOfCode c.code, true) }) s else s
    else
      let s := moveChange id s
      recordPkg 0x2111 (leBytes 2 c.id ++ leBytes 1 (c.postponed + 1) ++ leBytes 3 c.mask ++
        leBytes 3 (fieldMask fields)) s

end Sys2Proof.Machine
end

