-- ==== Sys2Proof/Machine/Classify.lean ====
section
/-!
DEFINITION. Counting faults, quarantine and Ballast (R228 to R263), shared by the families: points and scores,
unit states, choosing spares, validation of tables, commits and what they bind, handover, capacity events.
-/
namespace Sys2Proof.Machine
open Sys2Proof

/-- The code of a unit state (R236). -/
def UnitState.code : UnitState → Nat
  | .healthy => 0
  | .watched => 1
  | .quarantined => 2
  | .retired => 3
  | .spareReady => 4
  | .spareBusy => 5
  | .screening => 6
  | .absent => 7
/-- The unit state of a code; codes above 7 do not exist. -/
def UnitState.ofCode : Nat → Option UnitState
  | 0 => some .healthy
  | 1 => some .watched
  | 2 => some .quarantined
  | 3 => some .retired
  | 4 => some .spareReady
  | 5 => some .spareBusy
  | 6 => some .screening
  | 7 => some .absent
  | _ => none
/-- Healthy or Watched: the unit serves user work. -/
def inService : UnitState → Bool
  | .healthy | .watched => true
  | _ => false
/-- Spare-Ready or Spare-Busy. -/
def isSpare : UnitState → Bool
  | .spareReady | .spareBusy => true
  | _ => false
/-- A state in which a core counts as usable: not Quarantined, Retired, Absent or Screening (R243). -/
def usable (u : UnitState) : Bool := inService u || isSpare u
/-- The state of a unit. -/
def stateOf (s : State) (p : Nat) : UnitState := (unitRec s p).state

/-- The points of a cause in sixteenths; none for a decisive one (R228). -/
def pointsOf (cause : Nat) : Option Nat :=
  if 0x10 ≤ cause then none
  else some (match cause with
    | 1 | 2 | 3 | 4 | 5 => 64
    | 6 => 48
    | 7 | 8 => 16
    | 9 => 1
    | 0x0A => 128
    | _ => 0)

/-- One tenth of the short window in ns (0x2900:01, R232). -/
def bucketNs (s : State) : Nat := obj s (key 0x2900 1) 600 * 100000000
/-- The short score: the current bucket and the nine before it (R232). -/
def shortScore (s : State) (r : UnitRec) : Nat :=
  let cur := pt s - pt s % bucketNs s
  ((r.short.filter fun b => decide (cur < b.1 + 10 * bucketNs s)).map (·.2)).sum
/-- The service day of a die (R232). -/
def serviceDay (s : State) (d : Nat) : Nat := (die s d).service.read s.now / 1000000000 / 86400
/-- Long buckets moved on to service day `day`, newest first (R232, R239). -/
def rollLong (r : UnitRec) (day : Nat) : UnitRec :=
  if day ≤ r.day then r
  else { r with day := day, long := (List.replicate (min 7 (day - r.day)) 0 ++ r.long).take 7 }
/-- The long score (R232). -/
def longScore (s : State) (p : Nat) : Nat := ((rollLong (unitRec s p) (serviceDay s (puaDie p))).long).sum

/-- Add points to a unit's scores (R228, R232, R234). -/
def addPoints (p n : Nat) (s : State) : State :=
  let start := pt s - pt s % bucketNs s
  let day := serviceDay s (puaDie p)
  modUnit p (fun r =>
    let r := rollLong r day
    let short := match r.short with
      | b :: rest => if b.1 = start then (start, b.2 + n) :: rest else (start, n) :: b :: rest
      | [] => [(start, n)]
    let long := match r.long with
      | b :: rest => satAdd 16 b n :: rest
      | [] => [n]
    { r with short := short.take 10, long := long, lastPoints := some (pt s) }) s

/-- A screen begins (R215, R238). `again`: the unit did not serve the rail's last 24 hours of operation. -/
def Screen.start (since : Nat) (again : Bool) : Screen := ⟨since, 0, 0, none, again, none, false, []⟩
/-- The screen of a unit. -/
def screenOf (s : State) (p : Nat) : Screen := tgetD s.screens p (Screen.start s.now false)
/-- A screen or test in a field begins the idle hold of that field anew (R324). -/
def restartIdle (p : Nat) (s : State) : State :=
  if 6 ≤ puaField p then s else
  modField (puaFieldIdx p) (fun x => { x with idleSince := x.idleSince.map fun _ => s.now }) s
/-- A unit that enters Screening begins a screen; one that leaves it ends it. -/
def openScreen (p : Nat) (new : UnitState) (s : State) : State :=
  let s := if new = .screening || (tget s.screens p).isSome then restartIdle p s else s
  let again := decide ((unitRec s p).served + 86400 ≤ (die s (puaDie p)).service.read s.now / 1000000000)
  { s with screens := if new = .screening then tset s.screens p (Screen.start s.now again) else tdel s.screens p }
/-- Move a unit to a state and record the move (R236): 0x290C, the state-change record, the fields of the
unit record. An entry to Quarantined counts in the lifetime count (R237). -/
def changeState (p : Nat) (new : UnitState) (cause : Nat) (s : State) : State :=
  let r := unitRec s p
  let life := if new = .quarantined then satAdd 8 r.lifetime 1 else r.lifetime
  let left := inService r.state && !inService new
  let served := if left then (die s (puaDie p)).service.read s.now / 1000000000 else r.served
  let s := setObjs [(key 0x290C 1, p), (key 0x290C 2, r.state.code), (key 0x290C 3, new.code),
    (key 0x290C 4, cause)] s
  let s := modUnit p (fun r => { r with
    state := new, cause := cause, lifetime := life, run := obj s (key 0x2101 0) 0, dirty := true,
    lastPoints := if new = .watched then some (pt s) else r.lastPoints,
    holdFrom := if new = .quarantined then some (pt s) else none, holdPaused := false, served := served }) (openScreen p new s)
  recordSeq 0x2901 p (sliceOfUnit s p)
    ([BitVec.ofNat 8 r.state.code, BitVec.ofNat 8 new.code, BitVec.ofNat 8 cause] ++ leBytes 4 r.bound ++
      leBytes 1 life) [(0, key 0x290C 5)] s

/-- Set the bound place of a unit (R239). -/
def bindPlace (p place : Nat) (s : State) : State := modUnit p (fun r => { r with bound := place, dirty := true }) s
/-- Open or close the handling of a unit (R258). -/
def setOpen (p : Nat) (b : Bool) (s : State) : State := modUnit p (fun r => { r with open_ := b }) s

/-! ### Capacity (R29, R32, R244, R248, R254) -/

/-- Raise a capacity event for a slice: field index (0xFF for no single field), logical cores now, cause. The Gondola `via` that
found the loss raises it, so that its number follows that of its cause (R91); the record goes to the owner's die (R386). -/
def capacityEvent (via k fieldIdx cause : Nat) (s : State) : State :=
  let s := addObj (key 0x290B 0) 1 s
  recordVia via (ownerDie s k) 0x290B packagePua k
    (leBytes 1 fieldIdx ++ leBytes 4 (sliceCores s k) ++ leBytes 1 cause) s

/-- Every cluster of a slice stops issuing (R186, R288). -/
def stopSlice (k : Nat) (s : State) : State :=
  (sliceClusters s k).foldl (fun s ck => holdCluster 10 ck s)
    (modSlice k (fun x => { x with life := .ending }) s)
/-- The slice-end event: the Gondola `via` raises it, or the Anchor does at the request of `via` where the slice's box spans
dies (R186). -/
def raiseEnd (via k : Nat) (s : State) : State := raiseLocal via (recordEvent s 0 packagePua k []) s
/-- Begin the end of a slice: every cluster stops issuing, and a slice-end event is raised (R186, R244, R271). The teardown
follows as SLICE_TEARDOWN. -/
def endSlice (via k : Nat) (s : State) : State :=
  match slice s k with
  | none => s
  | some x => if x.life = .ending || x.life = .ended then s else raiseEnd via k (stopSlice k s)

/-! ### What is joined to what (R251) -/

/-- A field whose rail gives power: ramping or up (R28). -/
def railUp (x : Field) : Bool := x.power = 1 || x.power = 2
/-- A router in service: its unit serves and its field's rail is up (R28). -/
def routerUp (s : State) (fieldIdx site : Nat) : Bool :=
  inService (stateOf s (clusterPua 1 (clusterKey fieldIdx (homeOfSite site)))) && railUp (field s fieldIdx)
/-- The lane group that carries a link slot; 0xFF when the link is lost (0x2023, R245). -/
def laneOf (s : State) (seam slot : Nat) : Nat := tgetD s.lanes (seam * 128 + slot) slot
/-- The port that carries a Z port's quarter; 8 when none does (0x2030, R246). -/
def zportOf (s : State) (d port : Nat) : Nat := tgetD s.zports (d * 8 + port) port
/-- Whether the quarter whose port carries the Z traffic of (x, y, z) can be reached inside `ok`: traffic moved to another
quarter's port crosses there, on both dies (R35, R38, R246). -/
def carrierInside (ok : Nat × Nat × Nat → Bool) (carrier : Nat) (c : Nat × Nat × Nat) : Bool :=
  (List.range 20).any fun i => ok (carrier % 4 * 20 + i, c.2.1, c.2.2) && ok (carrier % 4 * 20 + i, c.2.1, (c.2.2 + 1) % 4)
/-- Whether the link of a router in a direction is in service, for traffic that stays inside `ok`: 0 +X, 2 +Y, 4 +Z from
(x, y, z). -/
def linkUp (s : State) (ok : Nat × Nat × Nat → Bool) (dir : Nat) (c : Nat × Nat × Nat) : Bool :=
  let (x, y, z) := c
  match dir with
  | 0 => if x = 39 then laneOf s (z * 7 + y / 20) (y % 20) != 0xFF
         else if x = 79 then laneOf s (z * 7 + y / 20) (20 + y % 20) != 0xFF else true
  | 2 => if y = 19 then laneOf s (z * 7 + 3 + x / 40) (x % 40) != 0xFF
         else if y = 39 then laneOf s (z * 7 + 5 + x / 40) (x % 40) != 0xFF
         else if y = 59 then laneOf s (z * 7 + 3 + x / 40) (40 + x % 40) != 0xFF &&
           laneOf s (z * 7 + 5 + x / 40) (40 + x % 40) != 0xFF else true
  | _ => s.variant == .dh100 && zportOf s z (x / 20) != 8 &&
    (zportOf s z (x / 20) == x / 20 || carrierInside ok (zportOf s z (x / 20)) c)
/-- The neighbours of a router over links in service, for traffic that stays inside `ok`. -/
def neighbours (s : State) (ok : Nat × Nat × Nat → Bool) (c : Nat × Nat × Nat) : List (Nat × Nat × Nat) :=
  let (x, y, z) := c
  let xm := ((x + 79) % 80, y, z)
  let ym := (x, (y + 59) % 60, z)
  let zm := (x, y, (z + 3) % 4)
  (if linkUp s ok 0 c then [((x + 1) % 80, y, z)] else []) ++ (if linkUp s ok 0 xm then [xm] else []) ++
  (if linkUp s ok 2 c then [(x, (y + 1) % 60, z)] else []) ++ (if linkUp s ok 2 ym then [ym] else []) ++
  (if linkUp s ok 4 c then [(x, y, (z + 1) % 4)] else []) ++ (if linkUp s ok 4 zm then [zm] else [])
/-- Whether the router at a coordinate is in service. -/
def coordUp (s : State) (c : Nat × Nat × Nat) : Bool :=
  let t := coordSite c.1 c.2.1 c.2.2
  routerUp s t.1 t.2
/-- The routers reached from `seen` in at most `n` rounds inside `ok`. -/
def flood (s : State) (ok : Nat × Nat × Nat → Bool) : Nat → List (Nat × Nat × Nat) →
    List (Nat × Nat × Nat) → List (Nat × Nat × Nat)
  | 0, _, seen => seen
  | n + 1, front, seen =>
    let new := ((front.flatMap (neighbours s ok)).eraseDups).filter fun c =>
      ok c && coordUp s c && !seen.contains c
    if new.isEmpty then seen else flood s ok n new (seen ++ new)
/-- The routers joined to one router inside `ok`. -/
def joined (s : State) (ok : Nat × Nat × Nat → Bool) (c : Nat × Nat × Nat) : List (Nat × Nat × Nat) :=
  if coordUp s c then flood s ok 19200 [c] [c] else []
/-- The torus coordinate of a router's address. -/
def routerCoord (p : Nat) : Nat × Nat × Nat := clusterCoord (puaClusterKey p)
/-- The field that a stack sits on (R30), by die × 16 + stack. -/
def stackField (j : Nat) : Nat := j / 16 * 6 + (stackSites (j % 16)).1
/-- Every stack of the package, by die × 16 + stack. -/
def stackKeys (s : State) : List Nat := List.range (s.variant.dies * 16)
/-- Whether a slice passes the validation of R38 and R251 on the maps of `s`. A stack whose field is powered down (R324) is not
reachable. A cluster at a router out of service serves nothing until it is rebound (R244). -/
def sliceValid (s : State) (k : Nat) : Bool :=
  match slice s k with
  | none => true
  | some x =>
    let hosts := (((sliceClusters s k).map clusterCoord).eraseDups).filter (coordUp s)
    match hosts with
    | [] => true
    | h :: _ =>
      let inside := joined s (inBox x.origin x.extent) h
      let all := joined s (fun _ => true) h
      hosts.all (fun c => inBox x.origin x.extent c && inside.contains c) &&
      (stackKeys s).all (fun j => s.unreachable.contains j || (field s (stackField j)).power = 0 ||
        (attachRouters j).any fun r => all.contains (routerCoord r)) &&
      (List.range 8).all (fun j => match hostRouter s.variant j with
        | some r => all.contains (routerCoord r)
        | none => true)

/-! ### Spares (R242, R243) -/

/-- Whether a scheduled commit binds this spare already (R262). -/
def pendingSpare (s : State) (p : Nat) : Bool :=
  s.commits.any fun c => c.bindings.any fun b => match b with
    | .core _ _ n | .swap _ _ n => n = p
    | .lane seam _ _ (some g) => lanePua seam g = p
    | .channel st _ _ n => channelPua st n = p
    | .cluster _ _ (some ck) _ => clusterPua 7 ck = p
    | _ => false
/-- The 17 cores of a cluster. -/
def coresOf (ck : Nat) : List Nat := (List.range 17).map (corePua ck)
/-- The first of a list by a rank: lexicographic order on `rank`. -/
def firstBy (rank : Nat → List Nat) (l : List Nat) : Option Nat :=
  l.foldl (fun best p => match best with
    | none => some p
    | some b => if rank p < rank b then some p else some b) none
/-- The step of the group of a cluster's field. -/
def clusterStep (s : State) (ck : Nat) : Nat := (field s (ckField ck)).step
/-- The order of R242: not slow, highest entry at the step, lowest short score, lowest number. -/
def coreRank (s : State) (e p : Nat) : List Nat :=
  let f := fmaxRec s p
  [if f.slow then 1 else 0, 256 - (if f.current.getD e 0xFF = 0xFF then 0 else f.current.getD e 0 + 1),
    shortScore s (unitRec s p), puaCore p]
/-- The spare that R242 chooses in a cluster. -/
def chooseCore (s : State) (ck : Nat) : Option Nat :=
  firstBy (coreRank s (clusterStep s ck))
    ((coresOf ck).filter fun p => isSpare (stateOf s p) && !(unitRec s p).open_ && !pendingSpare s p)
/-- The usable cores of a cluster (R243). -/
def usableCores (s : State) (ck : Nat) : List Nat := (coresOf ck).filter fun p => usable (stateOf s p)
/-- Hops between two offsets on a ring of `n`. -/
def ringHops (n a b : Nat) : Nat := min ((a + n - b) % n) ((b + n - a) % n)
/-- Hops in X and Y between two torus coordinates. -/
def hopsXY (a b : Nat × Nat × Nat) : Nat := ringHops 80 a.1 b.1 + ringHops 60 a.2.1 b.2.1
/-- Whether a cluster may take a logical cluster (R243): it serves none, its Bridle and control core are
usable, at least 16 cores are usable, its attachment is in service, it is not flagged unreachable (R244) and it has its
image (R372). -/
def clusterFree (s : State) (ck : Nat) : Bool :=
  (logicalOf s ck).isNone && !pendingSpare s (clusterPua 7 ck) && usable (stateOf s (clusterPua 6 ck)) && usable (stateOf s (clusterPua 7 ck)) &&
  usable (stateOf s (clusterPua 1 ck)) && decide (16 ≤ (usableCores s ck).length) &&
  routerUp s (ckField ck) (siteOfCluster (ckCluster ck)) &&
  decide ((unitRec s (clusterPua 7 ck)).flags / 2 % 2 = 0) && !(die s (ckDie ck)).noImage.contains ck
/-- The candidates for a logical cluster, in the order of R243. -/
def clusterCandidates (s : State) (l : Nat) : List Nat :=
  let f := l / 800
  let sl := sliceOfLogical s l
  let rank := fun ck =>
    [17 - (usableCores s ck).length, if sl ≠ 0 && sliceAt s (clusterCoord ck) ≠ sl then 1 else 0,
      hopsXY (clusterCoord ck) (logicalCoord l), ckCluster ck]
  ((List.range 832).map (clusterKey f)).filter (clusterFree s) |>.mergeSort fun a b => rank a ≤ rank b

/-- The cluster's spare in its replay role (R149, R226): Spare-Ready or Spare-Busy, and not a slow spare whose
entry at the step lies below the cluster's frequency. -/
def replaySpare (s : State) (ck : Nat) : Option Nat :=
  let mhz := clusterFreq s ck
  let below := fun (e : Nat) => e = 0xFF || decide (freqOfCode e < mhz)
  (coresOf ck).find? fun p => isSpare (stateOf s p) && !((fmaxRec s p).slow && below (fmaxEntry s p (clusterStep s ck)))
/-- The adoptive replay core for a cluster: the nearest spare of another cluster of the die in the same box,
within the hop limit, that adopts fewer than 2 clusters (R150). -/
def chooseAdoptive (s : State) (ck : Nat) : Option Nat :=
  let sl := sliceOfCluster s ck
  let limit := obj s (key 0x2602 0) 4
  let near := ((List.range 6).flatMap fun f => (List.range 832).map fun c => clusterKey (ckDie ck * 6 + f) c).filter
    fun c => c ≠ ck && sliceAt s (clusterCoord c) = sl && decide (hopsXY (clusterCoord c) (clusterCoord ck) ≤ limit)
  let free := near.filter fun c => match replaySpare s c with
    | some p => (s.clusters.countP fun e => e.1 ≠ ck && e.2.adoptive = some p) < 2
    | none => false
  (firstBy (fun c => [hopsXY (clusterCoord c) (clusterCoord ck), ckCluster c, c]) free).bind (replaySpare s)
/-- Assign or end the adoptive core of a cluster (R150). -/
def assignAdoptive (ck : Nat) (s : State) : State :=
  if sliceOfCluster s ck = 0 then modCluster ck (fun c => { c with adoptive := none }) s
  else if (replaySpare s ck).isSome then
    (if (cluster s ck).adoptive.isSome then modCluster ck (fun c => { c with adoptive := none }) s else s)
  else modCluster ck (fun c => { c with adoptive := chooseAdoptive s ck }) s
/-- The clusters whose adoptive core has left its replay role get another one (R150). -/
def refreshAdoptive (s : State) : State :=
  (s.clusters.filter fun e => match e.2.adoptive with
    | some a => replaySpare s (puaClusterKey a) ≠ some a
    | none => false).foldl (fun s e => assignAdoptive e.1 s) s
/-- A spare holds replays: its Bridle moves it between Spare-Ready and Spare-Busy; no event records it (R41, R149). -/
def spareMove (p : Nat) (s : State) : State :=
  let want := if (core s p).queue.isEmpty then UnitState.spareReady else .spareBusy
  if isSpare (stateOf s p) && stateOf s p != want then modUnit p (fun r => { r with state := want }) s else s
/-- Move the replays queued on a core that leaves its replay role to the adoptive core of their cluster (R225, R236), or back to
its Bridle where that has none with room (R152). -/
def moveReplays (p : Nat) (s : State) : State :=
  let q := (core s p).queue
  q.foldl (fun s d =>
    let ck := puaClusterKey d.original
    match (cluster s ck).adoptive.filter fun a => a ≠ p && (core s a).queue.length < 4 with
    | some a => spareMove a (modCore a (fun c => { c with queue := c.queue ++ [d] }) s)
    | none => modCluster ck (fun c => { c with descriptors := c.descriptors ++ [d] }) s)
    (modCore p (fun c => { c with queue := [] }) s)
/-- A spare has left its replay role (R150): its cluster and those that adopted it get an adoptive core, which takes its
replays. -/
def leaveReplayRole (p : Nat) (s : State) : State :=
  moveReplays p (refreshAdoptive (assignAdoptive (puaClusterKey p) s))
/-- After frequencies have changed, the slow spares that replay again or no longer (R226). -/
def refreshSlow (s : State) : State :=
  (s.fmax.filter fun e => e.2.slow && isSpare (stateOf s e.1)).foldl (fun s e =>
    let ck := puaClusterKey e.1
    let back := (replaySpare s ck).isSome
    if back == (cluster s ck).adoptive.isNone && (back || (core s e.1).queue.isEmpty) then s else leaveReplayRole e.1 s) s

/-! ### Commits (R249, R250) -/

/-- The dies that a binding touches. -/
def bindingDies : Binding → List Nat
  | .core _ _ new | .swap _ _ new => [puaDie new]
  | .cluster l _ _ _ => [l / 4800]
  | .lane seam _ _ _ => [seam / 7]
  | .zport d port _ => [d, if port < 4 then (d + 1) % 4 else (d + 3) % 4]
  | .channel st _ _ _ | .slotLost st _ | .stackLost st => [st / 16]
  | .around u => [puaDie u]
/-- The live slices that pick a test. -/
def slicesWhere (s : State) (f : Slice → Bool) : List Nat :=
  (s.slices.filter fun e => e.2.life != .ended && f e.2).map (·.1)
/-- The slices that hold memory in a stack. -/
def slicesWithMemory (s : State) (stackKey : Nat) : List Nat := slicesWhere s fun x => x.memory.any fun m => m.1 = stackKey
/-- The slices that a binding touches: the owner of the LCN, of the routers at the two ends of a link slot, those with a router in
the quarter of a Z port on either of its dies, those with memory in the stack. -/
def bindingSlices (s : State) : Binding → List Nat
  | .core l _ _ | .swap l _ _ => [sliceOfLcn s l]
  | .cluster l _ _ _ => [sliceOfLogical s l]
  | .around u => [sliceOfUnit s u]
  | .lane seam slot _ _ => match slotEndpoint seam slot with
    | some (x, y, z, dir) => [sliceAt s (x, y, z),
        sliceAt s (if dir = 0 then ((x + 1) % 80, y, z) else (x, (y + 1) % 60, z))]
    | none => []
  | .zport d port _ => slicesWhere s fun x => (List.range 20).any fun i => (List.range 60).any fun y =>
      inBox x.origin x.extent (port % 4 * 20 + i, y, d)
  | .channel st _ _ _ | .slotLost st _ | .stackLost st => slicesWithMemory s st
/-- The Bridles whose map or router a binding changes (R250). -/
def bindingBridles : Binding → List Nat
  | .core _ _ new | .swap _ _ new => [puaClusterKey new]
  | .cluster _ old new _ => old :: (match new with
    | some n => [n]
    | none => [])
  | .around u => if puaKind u = 1 then [puaClusterKey u] else []
  | _ => []
/-- The units whose bound place a binding changes (code 0x2A01). -/
def bindingUnits : Binding → List Nat
  | .core _ old new | .swap _ old new => [old, new]
  | .cluster _ old new _ => (old :: (match new with
      | some n => [n]
      | none => [])).flatMap fun ck => clusterPua 6 ck :: clusterPua 7 ck :: coresOf ck
  | .lane seam _ old new => lanePua seam old :: (match new with
      | some n => [lanePua seam n]
      | none => [])
  | .zport d port carrier => if carrier < 8 then [portPua d carrier] else [portPua d port]
  | .channel st _ old new => [channelPua st old, channelPua st new]
  | .slotLost _ _ | .stackLost _ | .around _ => []
/-- The first change count at or after `c` at which no commit takes the slot of one of these dies (R249). -/
def freeSlot (s : State) (dies : List Nat) : Nat → Nat → Nat
  | 0, c => c
  | n + 1, c => if s.commits.any fun m => m.count = c && m.dies.any dies.contains
      then freeSlot s dies n (c + 102400) else c
/-- The dies whose routing slot a list of bindings takes: the dies they touch and those of the slices. -/
def commitDies (s : State) (bs : List Binding) : List Nat :=
  (bs.flatMap fun b => bindingDies b ++ (bindingSlices s b).flatMap fun k => match slice s k with
    | some x => if 1 < x.extent.2.2 then (List.range x.extent.2.2).map fun i => (x.origin.2.2 + i) % 4 else []
    | none => []).eraseDups
/-- Change a commit that waits. -/
def modCommit (id : Nat) (f : Commit → Commit) (s : State) : State :=
  { s with commits := s.commits.map fun c => if c.id = id then f c else c }
/-- Schedule a commit that has been decided: its change count, its slot on every die, its shadow entries to every Bridle that can
answer (R249, R250). -/
def scheduleCommit (id : Nat) (s : State) : State :=
  match s.commits.find? fun c => c.id = id with
  | none => s
  | some c =>
    let others := { s with commits := s.commits.filter fun x => x.id ≠ id && x.scheduled }
    let count := freeSlot others c.dies (s.commits.length + 1) (changeCountAfter (pt s))
    let bridles := ((c.bindings.flatMap bindingBridles).eraseDups).filter fun ck => usable (stateOf s (clusterPua 7 ck))
    bridles.foldl (fun s ck => modCluster ck (fun x => { x with shadow := some count }) s)
      (modCommit id (fun c => { c with count := count, waiting := bridles, scheduled := true }) s)
/-- Request a commit (R249). The Gondola of the die that it touches schedules it. One that touches more dies, or a slice whose box
spans dies, is an event, and the Anchor schedules it as it sequences the event (R41, R91). -/
def requestCommit (bs : List Binding) (quarantines : List (Nat × Nat)) (units : List Nat) (cause : Nat)
    (s : State) : State :=
  if bs.isEmpty && quarantines.isEmpty then s else
  let dies := commitDies s bs
  let c : Commit := {
    id := s.nextCommit, count := 0, dies := dies, bindings := bs, quarantines := quarantines, units := units, cause := cause,
    waiting := [], scheduled := false }
  let s := { s with commits := s.commits ++ [c], nextCommit := s.nextCommit + 1 }
  if dies.length ≤ 1 then scheduleCommit c.id s
  else raiseLocal (dies.headD s.anchorDie) { recordEvent s 0 packagePua 0 [] with commit := some c.id } s

/-- The maps after a binding, before anything else that it does. -/
def applyMap (b : Binding) (s : State) : State :=
  match b with
  | .core lcn _ new | .swap lcn _ new => { s with lcnMap := tset s.lcnMap lcn (some new) }
  | .cluster l _ new _ =>
    let cores := match new with
      | some ck => ((usableCores s ck).take 16).map some
      | none => List.replicate 16 none
    let lcnMap := (List.range 16).foldl (fun m i => tset m (l * 16 + i) (cores.getD i none)) s.lcnMap
    { s with clusterMap := tset s.clusterMap l new, lcnMap := lcnMap }
  | .lane seam slot _ new => { s with lanes := tset s.lanes (seam * 128 + slot) (new.getD 0xFF) }
  | .zport d port carrier => { s with zports := tset s.zports (d * 8 + port) carrier }
  | .channel st slot _ new => { s with channels := tset s.channels (st * 32 + slot) new }
  | .slotLost st slot => { s with lostSlots := tmod s.lostSlots st 0 (· ||| 2 ^ slot) }
  | .stackLost _ | .around _ => s
/-- The maps once every commit that waits has landed. -/
def pendingMaps (s : State) : State := (s.commits.flatMap (·.bindings)).foldl (fun s b => applyMap b s) s
/-- Whether every slice passes validation once these bindings stand (R251). -/
def bindingsValid (s : State) (bs : List Binding) : Bool :=
  let t := bs.foldl (fun s b => applyMap b s) (pendingMaps s)
  t.slices.all fun e => !sliceLive e.2 || sliceValid t e.1

/-! ### Handover (R252) -/

/-- The mode that a cluster of a slice runs now (R122). -/
def clusterMode (x : Slice) (ck : Nat) : Mode :=
  match (x.switches.filter fun c => !c.waiting.contains ck).getLast? with
  | some c => c.mode
  | none => x.mode
/-- The mode of the cluster, Observe where it serves no slice. -/
def modeOfCluster (s : State) (ck : Nat) : Mode :=
  match slice s (sliceOfCluster s ck) with
  | some x => clusterMode x ck
  | none => .observe
/-- Whether an ended tile belongs to the sample stream (R143). -/
def inStream (m : Mode) : TileKind → Bool
  | .contraction => m != .standard
  | .fused | .eligible => true
  | .ineligible | .move => false
/-- Whether a core runs a tile of the sample stream: it has taken a count that has not advanced yet (R143). -/
def runsStream (s : State) (p : Nat) : Bool :=
  match (core s p).tile with
  | some t => inStream (core s p).taken.2 t.2.kind
  | none => false
/-- The stall of an LCN ends as its core issues a tile (R253). -/
def endStall (p : Nat) (s : State) : State :=
  match (core s p).withheldAt with
  | none => s
  | some t =>
    let stall := s.now - t
    let s := modCore p (fun c => { c with withheldAt := none }) (maxObj (key 0x2909 2) stall s)
    if 2000000 < stall then addObj (key 0x2909 3) 1 s else s
/-- A tile starts on a core: it takes the progress count and the mode that stand (R122, R143, R156, R253). -/
def startTile (lcn p : Nat) (t : Tile) (s : State) : State :=
  let now := keeperRead s (fieldKeeper (puaFieldIdx p))
  let m := modeOfCluster s (puaClusterKey p)
  let taken := ((lcnRec s lcn).progress, m)
  let s := endStall p (modCore p (fun c => { c with tile := some (now, t), taken := taken }) s)
  modLcn lcn (fun r => if inStream m t.kind && r.first.isNone then { r with first := some (r.progress, now) } else r) s
/-- A cut of an LCN's count (R144) while its tile in progress, if any, goes on: that tile keeps the count that it took. -/
def LcnRec.cutBehind (running : Bool) (r : LcnRec) : LcnRec :=
  (if running then { r with progress := (r.progress + 1) % 2 ^ 64 } else r).cut

/-- What the Bridle keeps for an LCN that another core now serves: the progress count goes on at the next
multiple of 32 (R144), and the records of R156 start again. -/
def rebindLcn (lcn : Nat) (running : Bool) (s : State) : State :=
  modLcn lcn (fun r => { r.cutBehind running with gaps := [], lastMatch := none, lastReleased := none, first := none }) s
/-- The blocks under open records, each produced again on the new core (R252.4): the Core Port generates its word, whose check
is a free value, since the recomputation has no command of its own. -/
def recomputed (s : State) (k : Nat) : List (Nat × SramBlock) → List (Nat × SramBlock)
  | [] => []
  | (b, x) :: r => match x.producer with
    | some t =>
      let fmt := ((t.outputs.find? fun o => o.localBlock = some b).map (·.format)).getD 0
      (b, ⟨resultWord s k fmt (Config.freeWord (s.free + b)), x.released, some t, none⟩) :: recomputed s k r
    | none => recomputed s k r
/-- The cluster's holds for what its cores wait for (R267): 1 a pin stall, 2 full replay queues, 3 a tile behind a test
tile, 5 a withheld core. -/
def syncCoreHolds (ck : Nat) (s : State) : State :=
  let cs := (coresOf ck).map (core s)
  let set := fun (r : Nat) (b : Bool) (s : State) =>
    if b = (cluster s ck).holds.contains r then s else if b then holdCluster r ck s else freeCluster r ck s
  set 1 (cs.any fun c => c.stalls.contains 1) (set 2 (cs.any fun c => c.stalls.contains 2)
    (set 3 (cs.any fun c => c.test.isSome && c.heldTile.isSome) (set 5 (cs.any (·.withheld)) s)))
/-- The old core's blocks are discarded; the new core recomputes those under open records (R252 steps 2 and 4). -/
def handBlocks (old new : Nat) (s : State) : State :=
  let blocks := recomputed s (sliceOfUnit s new) (core s old).sram
  let s := modCore old (fun c => { c with sram := [], pins := [], arrivals := [], stalls := [] }) { s with free := s.free + 16 }
  modCore new (fun c => { c with sram := blocks }) s
/-- The handover of an LCN (R252): the blocks, then the interrupted tile, which the new core starts. The time that the
recomputations take is left out (notes/assumptions/15.md). -/
def handover (lcn old new : Nat) (s : State) : State :=
  let o := core s old
  let s := modCore old (fun c => { c with
    tile := none, heldTile := none, interrupted := none, withheld := false, withheldAt := none }) (handBlocks old new s)
  let s := modCore new (fun c => { c with withheldAt := o.withheldAt }) s
  let s := syncCoreHolds (puaClusterKey old) (addObj (key 0x2909 1) 1 (rebindLcn lcn false s))
  match o.interrupted.or (o.tile.or o.heldTile) with
  | none => s
  | some t => startTile lcn new t.2 s
/-- Withhold a core at its next tile boundary (R252.1). -/
def withholdCore (p : Nat) (s : State) : State :=
  let hold := fun (c : Core) => if c.withheld then c else { c with withheld := true, withheldAt := some s.now }
  syncCoreHolds (puaClusterKey p) (modCore p hold s)

/-! ### Taking a unit out of service -/

/-- Bind the logical cluster `l` of cluster `ck` to the first candidate that passes, or leave it unbound
(R243, R251, R254). -/
def rebindCluster (l ck : Nat) (toBallast : Bool) (units : List Nat) (cause : Nat) (s : State) : State :=
  let cands := clusterCandidates s l
  let ok := cands.find? fun c => bindingsValid s [.cluster l ck (some c) toBallast]
  let refused := match ok with
    | some c => (cands.takeWhile (fun x => x ≠ c)).length
    | none => cands.length
  let s := addObj (key 0x2909 5) refused s
  let s := requestCommit [.cluster l ck ok toBallast] [] units cause s
  match ok with
  | some _ => s
  | none => if sliceOfLogical s l = 0 then s else capacityEvent (l / 4800) (sliceOfLogical s l) (l / 800) 1 s

/-- Publish a weak-core swap (outcome 0) or its recommendation (1): 0x2808, its record and its count (R224, R225). -/
def publishSwap (lcn w sp outcome : Nat) (s : State) : State :=
  let s := addObj (key 0x2806 (13 + outcome)) 1 s
  let s := setObjs [(key 0x2808 1, lcn), (key 0x2808 2, w), (key 0x2808 3, sp), (key 0x2808 4, outcome)] s
  recordSeq 0x2803 w (sliceOfLcn s lcn) (leBytes 4 w ++ leBytes 4 sp ++ leBytes 1 outcome) [(0, key 0x2808 5)] s
/-- Take a binding out of the commits that wait; a commit that carries nothing more is gone. -/
def dropBinding (b : Binding) (s : State) : State :=
  let left := s.commits.map fun c => { c with bindings := c.bindings.filter fun x => x ≠ b }
  { s with commits := left.filter fun c => !(c.bindings.isEmpty && c.quarantines.isEmpty) }
/-- A weak-core swap that waits in a cluster becomes a recommendation: a quarantine takes the spare (R262). -/
def dropSwap (ck : Nat) (s : State) : State :=
  let waits := s.commits.flatMap fun c => c.bindings.filter fun b => match b with
    | .swap _ _ n => puaClusterKey n = ck && c.cause = 0x1D
    | _ => false
  waits.foldl (fun s b => match b with
    | .swap lcn w sp => publishSwap lcn w sp 1 (setOpen sp false (setOpen w false (dropBinding b s)))
    | _ => s) s
/-- A core in service fails: its LCN goes to the cluster's spare, else its logical cluster moves (R241 to R243). -/
def rebindCore (p lcn cause : Nat) (s : State) : State :=
  let ck := puaClusterKey p
  let s := setOpen p true (withholdCore p (dropSwap ck s))
  match chooseCore s ck with
  | some sp =>
    if bindingsValid s [.core lcn p sp] then
      requestCommit [.core lcn p sp] [] [p, sp] cause s
    else rebindCluster (lcn / 16) ck true [p] cause (addObj (key 0x2909 5) 1 s)
  | none => rebindCluster (lcn / 16) ck true [p] cause s

/-- A cluster leaves service: its logical cluster, if it serves one, is rebound (R231, R243). -/
def clusterOut (ck : Nat) (units : List Nat) (cause : Nat) (s : State) : State :=
  match logicalOf s ck with
  | some l => rebindCluster l ck false units cause
      (units.foldl (fun s u => setOpen u true s) ((coresOf ck).foldl (fun s p => withholdCore p s) s))
  | none => s

/-- Move a unit out to Quarantined where its state allows it (R236). -/
def toQuarantined (p cause : Nat) (s : State) : State :=
  if usable (stateOf s p) then changeState p .quarantined cause s else s

/-- The clusters attached to a site's router: the home cluster, and the bay where there is one. -/
def siteClusters (fieldIdx site : Nat) : List Nat :=
  clusterKey fieldIdx (homeOfSite site) ::
    (if siteHasBay site then [clusterKey fieldIdx (homeOfSite site + 1)] else [])

/-- End every slice that fails validation once the commits that wait have landed, with a capacity event (R244, R246). -/
def endInvalid (fieldIdx cause : Nat) (s : State) : State :=
  let t := pendingMaps s
  (s.slices.filter fun e => sliceLive e.2 && e.2.life != .ending && !sliceValid t e.1).foldl (fun s e =>
    endSlice (fieldIdx / 6) e.1 (capacityEvent (fieldIdx / 6) e.1 fieldIdx cause s)) s

/-- A router leaves service (R244): routes go around it, its clusters are rebound, clusters attached only
to it are unreachable, and a slice that then has no route ends. -/
def routerOut (p cause : Nat) (s : State) : State :=
  let f := puaFieldIdx p
  let cks := siteClusters f (siteOfCluster (puaCluster p))
  let s := cks.foldl (fun s ck => modUnit (clusterPua 7 ck) (fun r => { r with
    flags := r.flags / 4 * 4 + 2 + r.flags % 2, dirty := true }) s) s
  let s := requestCommit [.around p] [] [p] cause (setOpen p true s)
  endInvalid f 0 (cks.foldl (fun s ck => clusterOut ck [] cause s) s)

/-- A lane group leaves service (R245). -/
def laneOut (p cause : Nat) (s : State) : State :=
  let seam := puaDie p * 7 + seamNumber (puaField p) (puaSub p / 128)
  let g := puaSub p % 128
  match (List.range 120).find? fun slot => laneOf s seam slot = g with
  | none => s
  | some slot =>
    let spare := (List.range 128).find? fun h =>
      isSpare (stateOf s (lanePua seam h)) && !(unitRec s (lanePua seam h)).open_ && !pendingSpare s (lanePua seam h)
    let s := setOpen p true s
    let s := requestCommit [.lane seam slot g spare] [] (p :: (spare.map (lanePua seam)).toList) cause s
    match spare with
    | some _ => s
    | none =>
      let bad := s.slices.filter fun e => sliceLive e.2 && e.2.life != .ending &&
        !sliceValid (applyMap (.lane seam slot g none) s) e.1
      bad.foldl (fun s e => endSlice (puaDie p) e.1 (capacityEvent (puaDie p) e.1 (puaFieldIdx p) 0 s)) s

/-- The bridge link of a port and of its peer are both in service. -/
def bridgeUp (s : State) (d port : Nat) : Bool :=
  inService (stateOf s (portPua d port)) && inService (stateOf s (bridgePeer (portPua d port)))
/-- The ends of a unit that a fault concerns: both ends of a bridge link (R25), else the unit. -/
def faultEnds (s : State) (p : Nat) : List Nat :=
  if puaKind p = 3 && s.variant = .dh100 then [p, bridgePeer p] else [p]
/-- A bridge link leaves service (R25, R246): its quarter goes to the nearest other quarter's port. -/
def bridgeOut (p cause : Nat) (s : State) : State :=
  if s.variant = .dh25 then s else
  let d := puaDie p
  let base := if puaSub p < 4 then 0 else 4
  let q := puaSub p % 4
  let dist := fun o => if q ≤ o then o - q else q - o
  let others := (List.range 4).filter fun o => o ≠ q && bridgeUp s d (base + o)
  let best := firstBy (fun o => [dist o, o]) others
  let carrier := best.elim 8 (base + ·)
  let peer := bridgePeer p
  let peerCarrier := best.elim 8 fun o => puaSub (bridgePeer (portPua d (base + o)))
  let bs := [.zport d (puaSub p) carrier, .zport (puaDie peer) (puaSub peer) peerCarrier]
  let s := setOpen peer true (setOpen p true s)
  let bad := s.slices.filter fun e => sliceLive e.2 && e.2.life != .ending &&
    !sliceValid (bs.foldl (fun s b => applyMap b s) s) e.1
  let s := bad.foldl (fun s e => endSlice d e.1 (capacityEvent d e.1 0xFF 3 s)) s
  requestCommit bs [] [p, peer] cause s

/-- The slot that a pseudo-channel serves, if any. -/
def slotOfChannel (s : State) (stackKey pc : Nat) : Option Nat :=
  (List.range 31).find? fun slot => tgetD s.channels (stackKey * 32 + slot) slot = pc &&
    !(tgetD s.lostSlots stackKey 0).testBit slot
/-- The stack's spare pseudo-channel, if it has one (R247). -/
def spareChannel (s : State) (stackKey : Nat) : Option Nat :=
  (List.range 32).find? fun pc => isSpare (stateOf s (channelPua stackKey pc)) &&
    !(s.copies.any fun c => c.stack = stackKey && c.spare = pc)
/-- A pseudo-channel slot loses its range at the next change count (R248). Where no slice holds memory there, the capacity event
names slice 0 (notes/assumptions/175.md). The quarantine hold of its unit runs from the commit (R237). -/
def loseSlot (stackKey slot cause unit : Nat) (s : State) : State :=
  let s := requestCommit [.slotLost stackKey slot] [] [unit] cause s
  let ks := slicesWithMemory s stackKey
  (if ks.isEmpty then [0] else ks).foldl (fun s k => capacityEvent (stackKey / 16) k 0xFF 2 s) s
/-- The state that a pseudo-channel takes once its copy has ended (R247, R256). -/
def nextOf (r : UnitRec) : UnitState := (r.nextState.bind fun x => UnitState.ofCode x.1).getD .quarantined
/-- A pseudo-channel in service leaves: a copy to the spare starts and it keeps its state (R247), or its slot
is lost (R248). -/
def channelOut (t : UnitState) (p cause : Nat) (s : State) : State :=
  let st := puaDie p * 16 + puaCluster p
  match slotOfChannel s st (puaSub p), spareChannel s st with
  | some _, some sp =>
    modUnit p (fun r => { r with open_ := true, nextState := some (t.code, cause) })
      { s with copies := s.copies ++ [⟨st, puaSub p, sp, cause⟩] }
  | some slot, none => loseSlot st slot cause p (changeState p t cause s)
  | none, _ => changeState p t cause s

/-- A chosen spare leaves Ballast before its commit lands: the next candidate is chosen (R262). -/
def rechoose (p : Nat) (s : State) : State :=
  let waits := s.commits.flatMap fun c => (c.bindings.filter fun b => match b with
    | .core _ _ n | .swap _ _ n => n = p
    | .lane seam _ _ (some g) => lanePua seam g = p
    | .cluster _ _ (some ck) _ => clusterPua 7 ck = p || clusterPua 6 ck = p || clusterPua 1 ck = p
    | _ => false).map fun b => (b, c.cause)
  waits.foldl (fun s w =>
    let s := dropBinding w.1 s
    match w.1 with
    | .core lcn old _ => rebindCore old lcn w.2 s
    | .swap lcn old new => setOpen new false <| setOpen old false (if w.2 = 0x1D then publishSwap lcn old new 1 s else s)
    | .lane seam _ old _ => laneOut (lanePua seam old) w.2 s
    | .cluster l old _ ballast => rebindCluster l old ballast [clusterPua 6 old, clusterPua 7 old] w.2 s
    | _ => s) s

/-- A unit leaves service or Ballast for state `t`, Quarantined or Retired, and what it served is rebound (R231, R236,
R241 to R248, R256). A unit of no use only moves. -/
def leaveService (t : UnitState) (p cause : Nat) (s : State) : State :=
  let r := unitRec s p
  if !usable r.state then changeState p t cause s
  else match puaKind p with
    | 0 =>
      let serving := lcnOfCore s p
      let s := changeState p t cause s
      match serving with
      | some lcn => rebindCore p lcn cause s
      | none => rechoose p (leaveReplayRole p s)
    | 1 =>
      let s := rechoose p (changeState p t cause s)
      if isBay (puaCluster p) then
        -- the bay leaves as a cluster, with its Bridle and control core (R231, R244)
        let ck := puaClusterKey p
        let us := [clusterPua 6 ck, clusterPua 7 ck]
        clusterOut ck (p :: us) cause (if t = .quarantined then us.foldl (fun s u => toQuarantined u cause s) s else s)
      else routerOut p cause s
    | 2 => laneOut p cause (rechoose p (changeState p t cause s))
    | 3 => bridgeOut p cause ((faultEnds s p).foldl (fun s u => changeState u t cause s) s)
    | 4 =>
      if isSpare r.state then
        -- a spare that fails during a copy loses the slot that it was to serve (R248)
        let st := puaDie p * 16 + puaCluster p
        let s := changeState p t cause s
        match s.copies.find? fun c => c.stack = st && c.spare = puaSub p with
        | some c =>
          let s := { s with copies := s.copies.filter fun x => x ≠ c }
          match slotOfChannel s st c.failing with
          | some slot => loseSlot st slot c.cause (channelPua st c.failing)
              (changeState (channelPua st c.failing) (nextOf (unitRec s (channelPua st c.failing))) c.cause
                (modUnit (channelPua st c.failing) (fun r => { r with open_ := false, nextState := none }) s))
          | none => s
        | none => s
      else channelOut t p cause s
    | 6 | 7 =>
      let ck := puaClusterKey p
      let us := [clusterPua 6 ck, clusterPua 7 ck]
      let serving := (logicalOf s ck).isSome
      let s := if t = .quarantined then us.foldl (fun s u => toQuarantined u cause s) s else changeState p t cause s
      let s := rechoose (clusterPua 7 ck) s
      if serving then clusterOut ck us cause s else s
    | 5 => bindPlace p unbound (changeState p t cause s)
    | _ => changeState p t cause s

/-- A decisive event or a quarantine threshold takes a unit out: Quarantined, or Retired from Screening (R236). A failed test of its
screen is a failed screen. -/
def takeOut (p cause : Nat) (s : State) : State :=
  let u := stateOf s p
  if u = .screening then changeState p .retired (if cause = 0x12 || cause = 0x13 then 0x1A else cause) s
  else if usable u then leaveService .quarantined p cause s else s

/-- The event of a pseudo-channel that leaves in an exchange takes it to Quarantined once its copy has ended (R259). -/
def overtake (p : Nat) (s : State) : State :=
  let st := puaDie p * 16 + puaCluster p
  modUnit p (fun r => { r with nextState := some (UnitState.quarantined.code, 0x18) })
    { s with
      copies := s.copies.map fun c => if c.stack = st && c.failing = puaSub p then { c with cause := 0x18 } else c
      commits := s.commits.map fun c => { c with
        quarantines := c.quarantines.map fun q => if q.1 = p then (p, 0x18) else q } }
/-- Count an event on a unit: a decisive one, or its points (R228). -/
def countCause (cause p : Nat) (s : State) : State :=
  match pointsOf cause with
  | none => modUnit p (fun r => { r with decisive := satAdd 16 r.decisive 1, dirty := true }) s
  | some n => addPoints p n s
/-- Charge an event to its unit (R228 to R233, R236, R259); one of a bridge link is charged at both ends (R25). -/
def chargeUnit (e : Event) (s : State) : State :=
  let p := e.pua
  let r := unitRec s p
  match r.state with
  | .quarantined | .retired | .absent => s
  | _ =>
    let ends := faultEnds s p
    let out := fun cause (s : State) => ends.foldl (fun s u => takeOut u cause s) s
    let s := ends.foldl (fun s u => countCause e.cause u s) s
    if r.open_ then (match r.nextState with
      | none => out 0x18 s
      | some n => if n.1 = UnitState.spareReady.code then overtake p s else s)
    else if (pointsOf e.cause).isNone then out e.cause s
    else
      let r := unitRec s p
      let short := shortScore s r
      if obj s (key 0x2901 2) 192 ≤ short || obj s (key 0x2901 3) 512 ≤ longScore s p then out e.cause s
      else if r.state = .healthy && obj s (key 0x2901 1) 64 ≤ short then
        ends.foldl (fun s u => changeState u .watched e.cause s) s
      else s

/-! ### Landing (R250, R252) -/

/-- Move a unit into service, in a place, with cause 0x21 (R236). -/
def bindUnit (p place : Nat) (s : State) : State :=
  let s := bindPlace p place s
  if isSpare (stateOf s p) then changeState p .healthy 0x21 s else s
/-- A unit leaves its place and enters Ballast as Spare-Ready (R225, R243, R256). -/
def toBallast (p cause : Nat) (s : State) : State :=
  let s := bindPlace p unbound s
  if inService (stateOf s p) then changeState p .spareReady cause s else s
/-- A newly bound core may lower the least entry of its slice: R305 is computed again for its group (R221, R226). -/
def recomputeLcn (lcn : Nat) (s : State) : State := recomputeGroup true (lcn / 12800) s
/-- The effects of one binding when its commit lands. -/
def landBinding (cause : Nat) (b : Binding) (s : State) : State :=
  match b with
  | .core lcn old new =>
    let s := applyMap b s
    let s := leaveReplayRole new (bindUnit new lcn (bindPlace old unbound s))
    recomputeLcn lcn (handover lcn old new s)
  | .swap lcn old new =>
    let s := applyMap b s
    let s := leaveReplayRole new (bindUnit new lcn (toBallast old cause s))
    -- a tile that the old core holds has not started: it is the LCN's next tile (R225)
    let held := (core s old).heldTile
    let s := rebindLcn lcn (runsStream s old) (handBlocks old new s)
    let s := modCore old (fun c => { c with
      heldTile := none, finishing := if c.tile.isSome then some lcn else none }) s
    let s := match held with
      | some t => if (core s new).test.isSome then modCore new (fun c => { c with heldTile := held }) s
          else startTile lcn new t.2 s
      | none => s
    let s := recomputeLcn lcn (syncCoreHolds (puaClusterKey old) s)
    if cause ≠ 0x1D then s else
    -- the weak core is marked slow (R226)
    let s := modUnit old (fun r => { r with flags := r.flags ||| 8 })
      (modFmax old (fun r => { r with slow := true, dirty := true }) s)
    publishSwap lcn old new 0 (modCluster (puaClusterKey new) (fun c => { c with swapped := true }) s)
  | .cluster l old new ballast =>
    let before := (List.range 16).map fun i => coreOf s (l * 16 + i)
    let s := applyMap b s
    let units := fun ck => [clusterPua 6 ck, clusterPua 7 ck] ++
      (if isBay (ckCluster ck) then [clusterPua 1 ck] else [])
    let s := (units old).foldl (fun s u => if ballast then toBallast u cause s else bindPlace u unbound s) s
    let s := (coresOf old).foldl (fun s p => if ballast then toBallast p cause s else bindPlace p unbound s) s
    match new with
    | none => s
    | some ck =>
      -- it runs at the frequency of its slice (R81)
      let s := match slice s (sliceOfLogical s l) with
        | some x => setFreqs [ck] x.freq s
        | none => s
      let s := (units ck).foldl (fun s u => bindUnit u (l % 800) s) s
      let s := (List.range 16).foldl (fun s i =>
        match coreOf s (l * 16 + i), before.getD i none with
        | some p, some o => handover (l * 16 + i) o p (bindUnit p (l * 16 + i) s)
        | some p, none => rebindLcn (l * 16 + i) false (bindUnit p (l * 16 + i) s)
        | none, _ => s) s
      recomputeLcn (l * 16) (refreshAdoptive (assignAdoptive ck (modCluster old (fun c => { c with adoptive := none }) s)))
  | .lane seam slot old new =>
    -- an exchange of R256 leaves the old group as a spare
    let s := toBallast (lanePua seam old) cause (applyMap b s)
    match new with
    | some g => bindUnit (lanePua seam g) slot s
    | none => s
  | .channel st slot old new =>
    bindUnit (channelPua st new) slot (bindPlace (channelPua st old) unbound (applyMap b s))
  | .around u =>
    -- a router whose screen has passed serves its own site again, and its clusters are reachable (R244)
    if puaKind u = 1 && isSpare (stateOf s u) then
      let reach := fun (s : State) ck => modUnit (clusterPua 7 ck) (fun r => { r with
        flags := r.flags / 4 * 4 + r.flags % 2, dirty := true }) s
      (siteClusters (puaFieldIdx u) (siteOfCluster (puaCluster u))).foldl reach
        (bindUnit u (siteOfCluster (puaCluster u)) s)
    else s
  | .zport .. | .slotLost .. | .stackLost .. => applyMap b s

/-- A stack becomes unreachable when both its attach routers are out of service or its field is dark (R32):
its capacity is lost, a capacity event is raised and a routing entry answers for it (R185). A router is out of service once the
commit that takes it out has landed or its field is fenced. Where no slice holds memory in the stack, the capacity event names
slice 0 (DESIGN CHOICE, notes/assumptions/175.md). -/
def checkStack (j : Nat) (s : State) : State :=
  let f := stackField j
  let out := fun r => !inService (stateOf s r) && !s.commits.any fun c => c.units.contains r
  if s.unreachable.contains j then s
  else if (attachRouters j).all out || (field s f).power = 3 then
    let s := { s with unreachable := s.unreachable ++ [j] }
    let ks := slicesWithMemory s j
    let s := (if ks.isEmpty then [0] else ks).foldl (fun s k => capacityEvent (j / 16) k f 2 s) s
    requestCommit [.stackLost j] [] [] 0 s
  else s
/-- Check every stack. -/
def checkStacks (s : State) : State := (stackKeys s).foldl (fun s j => checkStack j s) s

/-- Land a commit (R249, R250): its bindings, its quarantines, one record on each die, the end of the
handling that it closes. The quarantine hold runs from here (R237). -/
def landCommit (c : Commit) (s : State) : State :=
  let s := { s with commits := s.commits.filter fun x => x.id ≠ c.id }
  let s := c.bindings.foldl (fun s b => landBinding c.cause b s) s
  let s := c.quarantines.foldl (fun s q =>
    changeState q.1 (nextOf (unitRec s q.1)) q.2 (modUnit q.1 (fun r => { r with nextState := none }) s)) s
  let s := (c.units ++ c.quarantines.map (·.1)).foldl (fun s u => modUnit u (fun r => { r with
    open_ := false, holdFrom := if r.state = .quarantined then some (pt s) else r.holdFrom }) s) s
  let units := c.bindings.flatMap bindingUnits
  let s := c.dies.foldl (fun s d =>
    recordAt d 0x2A01 (diePua d) 0
      (leBytes 8 c.count ++ leBytes 2 (units.countP fun u => puaDie u = d)) s) s
  let s := if units.isEmpty then s else addObj (key 0x2A16 0) 1 s
  checkStacks s

end Sys2Proof.Machine
end

