-- ==== Sys2Proof/Machine/Forced.lean ====
section
/-!
DEFINITION. Service actions on units (R256, R257): forced retirement, forced re-admission, exchange, and those that
wait behind the open handling of their unit.
-/
namespace Sys2Proof.Machine
open Sys2Proof

/-- The abort code of a request that the present state refuses (R441). -/
def abState : Nat := 0x08000022

/-- Set the forced flag of a unit (R239). -/
def markForced (p : Nat) (s : State) : State :=
  modUnit p (fun r => { r with flags := r.flags ||| 4, dirty := true }) s
/-- The binding by which an in-service unit changes places with a Spare-Ready unit of its level's Ballast, where there
is one (R241, R256). A pseudo-channel takes a copy first and is not among these. -/
def exchangeBinding (s : State) (w sp : Nat) : Option Binding :=
  if stateOf s sp ≠ .spareReady || (unitRec s sp).open_ || pendingSpare s sp || !inService (stateOf s w) then none
  else match puaKind w, puaKind sp with
    | 0, 0 => if puaClusterKey w = puaClusterKey sp then (lcnOfCore s w).map fun l => .swap l w sp else none
    | 2, 2 =>
      let seam := fun p => puaDie p * 7 + seamNumber (puaField p) (puaSub p / 128)
      if seam w = seam sp then
        ((List.range 120).find? fun slot => laneOf s (seam w) slot = puaSub w % 128).map fun slot =>
          .lane (seam w) slot (puaSub w % 128) (some (puaSub sp % 128))
      else none
    | 6, 6 | 7, 7 =>
      let a := puaClusterKey w
      let b := puaClusterKey sp
      if ckField a = ckField b && clusterFree s b then (logicalOf s a).map fun l => .cluster l a (some b) true else none
    | _, _ => none
/-- Whether a pseudo-channel in service may change places with the spare of its stack (R247, R256). -/
def channelExchange (s : State) (w sp : Nat) : Bool :=
  puaKind w = 4 && puaKind sp = 4 && puaDie w = puaDie sp && puaCluster w = puaCluster sp &&
    inService (stateOf s w) && stateOf s sp == .spareReady &&
    (slotOfChannel s (puaDie w * 16 + puaCluster w) (puaSub w)).isSome &&
    spareChannel s (puaDie w * 16 + puaCluster w) == some (puaSub sp)
/-- Exchange a unit for a spare: the result, or none where R256 refuses it. -/
def exchangeUnits (w sp : Nat) (s : State) : Option State :=
  if channelExchange s w sp then some (channelOut .spareReady w 0x1B s) else
  match exchangeBinding s w sp with
  | none => none
  | some b => if bindingsValid s [b] then
      some (requestCommit [b] [] [w, sp] 0x1B (setOpen sp true (setOpen w true s)))
    else none
/-- A forced action on a unit: the result, or none where R256 refuses it. `v` is 1 retire, 2 re-admit, 3 re-admit and
clear. -/
def forceUnit (p v : Nat) (s : State) : Option State :=
  match stateOf s p, v with
  | .retired, 1 => none
  | _, 1 => some (leaveService .retired p 0x1B (markForced p s))
  | .quarantined, _ | .retired, _ | .absent, _ =>
    let s := markForced p s
    let s := if v = 3 then modUnit p (fun r => { r with lifetime := 0 }) s else s
    some (changeState p .screening 0x1B s)
  | _, _ => none

/-- Judge a forced action or an exchange and answer it (R256, R257, R440); the grant is spent where it succeeds. -/
def actForced (x : Forced) (s : State) : State :=
  match (if x.index = 0x2A09 then forceUnit x.unit x.value s else exchangeUnits x.unit x.value s) with
  | some s => respond x.path x.index 0 0 [] 0 (consumeGrant x.path x.index x.unit s)
  | none => respond x.path x.index 0 abState [] 0 s
/-- A forced action waits while the handling of its unit is open (R257). -/
def requestForced (x : Forced) (s : State) : State :=
  if (unitRec s x.unit).open_ then { s with forced := s.forced ++ [x] } else actForced x s
/-- Forced actions whose unit's handling has closed are judged, in their order (R257). -/
def serveForced (s : State) : State :=
  let ready := s.forced.filter fun x => !(unitRec s x.unit).open_
  ready.foldl (fun s x => actForced x s) { s with forced := s.forced.filter fun x => (unitRec s x.unit).open_ }

end Sys2Proof.Machine
end

