-- ==== Sys2Proof/Machine/Operands.lean ====
section
/-!
DEFINITION. The arithmetic of the checks: random words and weight vectors (R131, R132), operand formats, the
projection of a tile (R135 to R137) and the window test of order-free tiles (R154). Float values are exact
integers in units of 2⁻¹⁴⁹, products in units of 2⁻²⁹⁸ (notes/assumptions/7.md).
-/
namespace Sys2Proof.Machine
open Sys2Proof

/-! ### Random words (R131, R132) -/

/-- The finalising mix of SplitMix64 (R132). -/
def mix64 (z : Word64) : Word64 :=
  let z := (z ^^^ (z >>> 30)) * 0xBF58476D1CE4E5B9
  let z := (z ^^^ (z >>> 27)) * 0x94D049BB133111EB
  z ^^^ (z >>> 31)
/-- word(seed, lcn, count, q) (R132). -/
def randomWord (seed : Word64) (lcn count q : Nat) : Word64 :=
  mix64 (seed + 0x9E3779B97F4A7C15 * BitVec.ofNat 64 (lcn * 2 ^ 45 + count % 2 ^ 38 * 128 + q))
/-- The weight that two bits draw: bit 0 the sign, bit 1 the magnitude 3 (R131). -/
def weightOf (b : Nat) : Int :=
  match b % 4 with
  | 0 => 1
  | 1 => -1
  | 2 => 3
  | _ => -3
/-- The first `n` entries of the weight vector that starts at word `q` of a draw (R131). -/
def weights (seed : Word64) (lcn count q n : Nat) : List Int :=
  (List.range n).map fun i => weightOf ((randomWord seed lcn count (q + i / 32)).toNat / 2 ^ (2 * (i % 32)))

/-! ### Formats: 1 FP8 E4M3, 2 FP8 E5M2, 3 FP16, 4 BF16, 5 FP32, 6 an integer (0x2502, 0x2605) -/

/-- Exponent bits, fraction bits and bias of a float format. -/
def floatShape : Nat → Nat × Nat × Nat
  | 1 => (4, 3, 7)
  | 2 => (5, 2, 15)
  | 3 => (5, 10, 15)
  | 4 => (8, 7, 127)
  | _ => (8, 23, 127)
/-- The value of a float bit pattern in units of 2⁻¹⁴⁹; none for an infinity or a NaN. FP8 E4M3 has no infinity and
one NaN magnitude (PRESUMED, notes/assumptions/7.md). -/
def floatValue (fmt v : Nat) : Option Int :=
  let (eb, fb, bias) := floatShape fmt
  let f := v % 2 ^ fb
  let e := v / 2 ^ fb % 2 ^ eb
  let special := if fmt = 1 then e = 15 && f = 7 else e = 2 ^ eb - 1
  if special then none else
  let mag : Nat := if e = 0 then f * 2 ^ (150 - bias - fb) else (2 ^ fb + f) * 2 ^ (e + 149 - bias - fb)
  some (if v / 2 ^ (eb + fb) % 2 = 1 then -(mag : Int) else mag)
/-- A bit pattern of `w` bits as a signed integer. -/
def signedOf (w v : Nat) : Int := (BitVec.ofNat w v).toInt
/-- An operand of a contraction tile; an integer stands for itself. -/
def operandValue (fmt v : Nat) : Option Int := if fmt = 6 then some (signedOf 8 v) else floatValue fmt v
/-- The tolerance constant of a format in 1/64 (R136). -/
def tolerance (fmt : Nat) : Nat := if fmt = 6 then 0 else if fmt = 5 then 288 else 144
/-- The format of a tile: the wider of its operands' (R127; formats 1 to 5 rise in width). -/
def tileFormat (t : Taps) : Nat := max t.fmtA t.fmtB

/-! ### The projection (R130, R135 to R137) -/

/-- Every value of a list, when each one exists. -/
def allSome {α : Type} : List (Option α) → Option (List α)
  | [] => some []
  | none :: _ => none
  | some a :: r => (allSome r).map (a :: ·)
/-- Cut a list into rows of `n`. -/
def rowsOf {α : Type} (n : Nat) : Nat → List α → List (List α)
  | 0, _ => []
  | m + 1, l => l.take n :: rowsOf n m (l.drop n)
/-- A 2:4 sparse row in its columns: stored value t goes to column 4·(t div 2) + its code (R130). -/
def denseRow (k : Nat) (stored : List Int) (codes : List Nat) : List Int :=
  (stored.zip codes).zipIdx.foldl
    (fun row e => row.modify (4 * (e.2 / 2) + e.1.2 % 4) (· + e.1.1)) (List.replicate k 0)
/-- The rows of A in their columns. -/
def denseA (t : Taps) (a : List Int) : List (List Int) :=
  match t.codes with
  | none => rowsOf t.k t.m a
  | some codes =>
    (rowsOf (t.k / 2) t.m a).zipWith (denseRow t.k) (rowsOf (t.k / 2) t.m codes)
/-- The sum of the rows of a matrix of `n` columns, each times its weight. -/
def weighRows (n : Nat) (rows : List (List Int)) (l : List Int) : List Int :=
  (rows.zip l).foldl (fun acc e => acc.zipWith (· + ·) (e.1.map (e.2 * ·))) (List.replicate n 0)
/-- The weighted sum of each row of a matrix. -/
def weighCols (rows : List (List Int)) (r : List Int) : List Int :=
  rows.map fun row => (row.zipWith (· * ·) r).sum
/-- The dot product of two vectors. -/
def dot (a b : List Int) : Int := (a.zipWith (· * ·) b).sum
/-- lᵀ M r of a matrix of `n` columns. -/
def bilinear (n : Nat) (rows : List (List Int)) (l r : List Int) : Int := dot (weighRows n rows l) r
/-- Magnitudes. -/
def absAll (l : List Int) : List Int := l.map fun x => (x.natAbs : Int)

/-- What a projection yields for one pair: |delta| and τ / 2 with their common unit 2⁻ˢᶜᵃˡᵉ, and the verdict: some for
one that binds, none where the unit's own rounding decides (R136). -/
structure PairVerdict where
  delta : Nat
  half : Nat
  scale : Nat
  fails : Option Bool
  deriving DecidableEq, Repr

/-- The operands of a tile as values; none where an infinity or a NaN was tapped (R139). -/
structure Operands where
  a : List (List Int)
  b : List (List Int)
  c0 : Option (List (List Int))
  deriving DecidableEq, Repr
/-- The operands of a floating tile. -/
def floatOperands (t : Taps) : Option Operands :=
  match allSome (t.a.map (operandValue t.fmtA)), allSome (t.b.map (operandValue t.fmtB)),
      allSome ((t.c0.getD []).map (floatValue 5)) with
  | some a, some b, some c => some ⟨denseA t a, rowsOf t.n t.k b, t.c0.map fun _ => rowsOf t.n t.m c⟩
  | _, _, _ => none
/-- A drained element as a value; a drain that is an infinity or a NaN lies beyond every tolerance. -/
def drainValue (v : Nat) : Int := (floatValue 5 v).getD (2 ^ 300)

/-- The projection of a floating tile for one pair (R135, R136): none where s exceeds 2¹²⁷ (R139). -/
def projectFloat (t : Taps) (o : Operands) (l r : List Int) : Option PairVerdict :=
  let w := weighRows t.k o.a l
  let x := weighCols o.b r
  let sa := weighRows t.k (o.a.map absAll) (absAll l)
  let sb := weighCols (o.b.map absAll) (absAll r)
  let p := bilinear t.n (o.c0.getD []) l r
  let s0 := bilinear t.n ((o.c0.getD []).map absAll) (absAll l) (absAll r)
  let ySum := bilinear t.n (rowsOf t.n t.m (t.drain.map drainValue)) l r
  let delta := ((ySum - p) * 2 ^ 149 - dot w x).natAbs
  let s := (dot sa sb + s0 * 2 ^ 149).toNat
  let kk := if o.c0.isSome then t.k + 1 else t.k
  if 2 ^ (127 + 298) < s then none else
  -- in units of 2⁻³²⁹
  let half := max (tolerance (tileFormat t) * kk * s) (kk * 2 ^ 202)
  let d := delta * 2 ^ 31
  let near := 4 * (d - half + (half - d)) < s
  some ⟨d, half, 329, if near then none else some (decide (half < d))⟩

/-- The projection of an INT8 tile for one pair, in 64-bit arithmetic (R137). -/
def projectInt (t : Taps) (l r : List Int) : PairVerdict :=
  let a := denseA t (t.a.map (signedOf 8))
  let b := rowsOf t.n t.k (t.b.map (signedOf 8))
  let c0 := t.c0.getD (List.replicate (t.m * t.n) 0)
  let d := rowsOf t.n t.m ((t.drain.zipWith (fun (y z : Nat) => signedOf 32 (y + 2 ^ 32 - z % 2 ^ 32)) c0))
  let delta := BitVec.ofInt 64 (bilinear t.n d l r - dot (weighRows t.k a l) (weighCols b r))
  ⟨delta.toInt.natAbs, 0, 0, some (delta ≠ 0)⟩

/-- The projection of a tile for pair `p`, with its weights from word `base` on (R131, R138). -/
def projectPair (seed : Word64) (lcn count base p : Nat) (t : Taps) : Option PairVerdict :=
  let l := weights seed lcn count (base + 8 * p) t.m
  let r := weights seed lcn count (base + 8 * p + 4) t.n
  if tileFormat t = 6 then some (projectInt t l r)
  else (floatOperands t).bind fun o => projectFloat t o l r
/-- The projections of pairs 0 to `n` − 1; none where the execution is unchecked (R139). -/
def projectAll (seed : Word64) (lcn count base n : Nat) (t : Taps) : Option (List PairVerdict) :=
  allSome ((List.range n).map fun p => projectPair seed lcn count base p t)

/-! ### REAL32 (0x2507:04, :05) -/

/-- v · 2⁻ˢʰ rounded to the nearest integer, ties to even. -/
def roundShift (v sh : Nat) : Nat :=
  let q := v / 2 ^ sh
  let rem := 2 * (v % 2 ^ sh)
  if 2 ^ sh < rem || (rem = 2 ^ sh && q % 2 = 1) then q + 1 else q
/-- The REAL32 pattern nearest to v · 2⁻ˢᶜᵃˡᵉ. -/
def real32 (v scale : Nat) : Nat :=
  let base := scale - 149
  if scale < 149 then
    (if v = 0 then 0 else
      let w := v * 2 ^ (298 - scale)
      let sh := max (w.log2 - 23) 149
      min 0x7F800000 ((sh - 149) * 2 ^ 23 + roundShift w sh))
  else
    let sh := max (v.log2 - 23) base
    min 0x7F800000 ((sh - base) * 2 ^ 23 + roundShift v sh)
/-- A published float: its low 11 bits may differ between executions and are free (R136). -/
def blurReal (free v : Nat) : Nat := v / 2 ^ 11 * 2 ^ 11 + free % 2 ^ 11

/-! ### Order-free tiles (R154) -/

/-- The bits of an element of a format. -/
def elementBits (fmt : Nat) : Nat := [0, 8, 8, 16, 16, 32, 32].getD fmt 32
/-- The ordered encoding of an element: neighbouring values lie one apart, −0 and +0 together. -/
def orderedCode (fmt v : Nat) : Int :=
  let w := elementBits fmt
  if fmt = 6 then signedOf 32 v
  else if v / 2 ^ (w - 1) % 2 = 1 then -((v % 2 ^ (w - 1) : Nat) : Int) else (v % 2 ^ (w - 1) : Nat)
/-- ulp(2^M) of a format in units of 2⁻¹⁴⁹, 1 for the integer format. -/
def ulpAt (fmt : Nat) (m : Int) : Nat :=
  if fmt = 6 then 1 else
  let (_, fb, bias) := floatShape fmt
  2 ^ (max m (1 - (bias : Int)) - fb + 149).toNat
/-- The value of an element for the magnitude test. -/
def elementValue (fmt v : Nat) : Option Int := if fmt = 6 then some (signedOf 32 v) else floatValue fmt v
/-- Whether two elements match within the window `w` of their format (R154). -/
def elementsMatch (fmt w reduction : Nat) (magnitude : Option Int) (a b : Nat) : Bool :=
  let width := w * 2 ^ reduction
  decide ((orderedCode fmt a - orderedCode fmt b).natAbs ≤ width) ||
  match magnitude, elementValue fmt a, elementValue fmt b with
  | some m, some x, some y => decide ((x - y).natAbs ≤ width * ulpAt fmt m)
  | _, _, _ => false
/-- Whether the results of two executions of a tile match: bit for bit, or within the window (R153, R154). -/
def resultsMatch (s : State) (t : Tile) (a b : RunResult) : Bool :=
  if t.orderFree then
    let w := obj s (key 0x2605 t.outFormat) ([1, 1, 4, 2, 64, 0].getD (t.outFormat - 1) 0)
    a.elements.length == b.elements.length &&
      (a.elements.zip b.elements).all fun e => elementsMatch t.outFormat w t.reduction t.magnitude e.1 e.2
  else a.signature == b.signature

/-- The signature of output blocks: CRC-64/WE over the blocks and the count of their bytes (R153). -/
def tileSignature (blocks : List (List Byte)) : Word64 :=
  let bytes := blocks.flatten
  let all := bytes ++ leBytes 4 bytes.length
  ~~~ (all.foldl (fun (r : Word64) (b : Byte) =>
    (List.range 8).foldl (fun q _ => crcBitL 0x42F0E1EBA9EA3693#64 q) (r ^^^ (b.setWidth 64 <<< 56))) (~~~ 0))

end Sys2Proof.Machine
end

