-- ==== Sys2Proof/Machine/Screening.lean ====
section
/-!
DEFINITION. Screening modes and the bound (R110 to R123), shared by the families, and the commands that switch a
mode and roll the model's buckets.
-/
namespace Sys2Proof.Machine
open Sys2Proof

/-- The six codes of the screening policy (R106, R107). -/
def policyKeys : List Nat := key 0x2400 0 :: (List.range 5).map fun i => key 0x2401 (i + 1)
/-- The screening policy in force holds only mode codes (R117). -/
def policyValid (s : State) : Bool := policyKeys.all fun k => decide (obj s k 0 ≤ 3)
/-- The code of a mode (R119). -/
def Mode.code : Mode → Nat
  | .observe => 0
  | .standard => 1
  | .strict => 2
  | .full => 3
/-- The mode of a code. A stored code outside 0 to 3 leaves screening undefined (R117): the mode is then a
free value. -/
def Mode.ofCode (c : Nat) : Mode :=
  match c with
  | 0 => .observe
  | 1 => .standard
  | 2 => .strict
  | 3 => .full
  | n => match Config.freeNat n % 4 with
    | 0 => .observe
    | 1 => .standard
    | 2 => .strict
    | _ => .full
/-- The default mode of a role: vision, prompt, generation, cache, general (R120). -/
def roleDefault (s : State) (role : Nat) : Nat :=
  obj s (key 0x2401 (role + 1)) (if role = 0 then 2 else 1)
/-- The mode that the floor, the override and the role ask for (R119); a free value while the stored policy is undefined
(R117, R506). -/
def wantedMode (s : State) (x : Slice) : Mode :=
  let o := tgetD x.objs (key 0x2404 1) 0xFF
  let own := if o = 0xFF then roleDefault s x.role else o
  if undefinedCase s 117 then Mode.ofCode (Config.undefinedMode x.role) else Mode.ofCode (max (obj s (key 0x2400 0) 0) own)
/-- The mode in force: the weakest while the clusters switch (R122). -/
def modeInForce (x : Slice) : Mode :=
  x.switches.foldl (fun m c => if c.mode.code < m.code then c.mode else m) x.mode

/-- The bound state: the highest-numbered condition that applies (R114). -/
def boundStateOf (s : State) (x : Slice) : Nat :=
  if s.modelFlag then 5
  else if x.ineligibleAt.isSome then 4
  else if tgetD x.objs (key 0x2702 0) 1 = 0 then 3
  else if !x.short.isEmpty then 2
  else if modeInForce x = .observe then 1 else 0
/-- Change a slice's bound state where its conditions ask for it, and record the change (R114). -/
def refreshBound (k : Nat) (s : State) : State :=
  match slice s k with
  | none => s
  | some x =>
    let b := boundStateOf s x
    if b = x.boundState || !sliceLive x then s else
    let s := modSlice k (fun x => { x with boundState := b, boundSince := pt s }) s
    recordAt (ownerDie s k) 0x2401 packagePua k
      ([BitVec.ofNat 8 x.boundState, BitVec.ofNat 8 b, BitVec.ofNat 8 (modeInForce x).code]) s
/-- The same for every slice. -/
def refreshBounds (s : State) : State := (s.slices.map (·.1)).foldl (fun s k => refreshBound k s) s
/-- Seconds qualify while some slice has a mode in force other than Observe (R115). They are counted as time that runs on, so of a
second that such a slice covers only in part that part counts (DESIGN CHOICE, notes/assumptions/184.md). -/
def syncQualifying (s : State) : State :=
  let q := s.slices.any fun e => sliceLive e.2 && modeInForce e.2 != .observe
  { s with qualifying := if q then s.qualifying.start s.now else s.qualifying.pause s.now }
/-- The constant of a mode in 10⁻¹² per hour (R110). -/
def modeConstant : Mode → Nat
  | .observe => 0
  | .standard => 20000000
  | .strict => 1000000
  | .full => 10000
/-- The bound of a slice, 0 unless its state is 0 (R111). -/
def sliceBound (s : State) (k : Nat) (x : Slice) : Nat :=
  if x.boundState = 0 then (sliceCores s k * modeConstant (modeInForce x) + 307199) / 307200 else 0

/-! ### The model check (R115) -/

/-- The model's buckets moved on to the present qualifying hour. -/
def rollModel (s : State) : State :=
  let i := s.qualifying.read s.now / 3600000000000
  if i ≤ s.modelIndex then s
  else { s with modelIndex := i,
                model := (List.replicate (min 24 (i - s.modelIndex)) 0 ++ s.model).take 24 }
/-- Detected corruption events of the last 24 qualifying hours. -/
def modelCount (s : State) : Nat := (rollModel s).model.sum
/-- The threshold of the variant (R115). -/
def modelThreshold : Variant → Nat
  | .dh100 => 72
  | .dh25 => 18
/-- Set the model-exceeded flag when the count exceeds the threshold (R115). -/
def checkModel (s : State) : State :=
  if modelThreshold s.variant < modelCount s && !s.modelFlag then
    let s := { s with modelFlag := true }
    refreshErrors (refreshBounds (recordPkg 0x2403 ([1] ++ leBytes 4 (modelCount s) ++ [0]) s))
  else s
/-- The qualifying hour of a detection made now; none while no slice has a mode in force other than Observe (R115). -/
def detectionHour (s : State) : Option Nat :=
  if s.qualifying.since.isNone then none else some (s.qualifying.read s.now / 3600000000000)
/-- Count one detected corruption event in the bucket of its qualifying hour (R115). -/
def countDetection (hour : Nat) (s : State) : State :=
  let s := rollModel s
  checkModel { s with model := s.model.modify (s.modelIndex - hour) (· + 1) }

/-! ### Mode changes (R121 to R123) -/

/-- The progress counts of a cluster's LCNs go on at the next multiple of 32 (R144). -/
def cutProgress (ck : Nat) (s : State) : State :=
  match logicalOf s ck with
  | none => s
  | some l =>
    let runs := fun lcn => match coreOf s lcn with
      | some p => runsStream s p
      | none => false
    { s with lcns := s.lcns.map fun e => if e.1 / 16 = l then (e.1, e.2.cutBehind (runs e.1)) else e }
/-- The floor, and the override or role default, that a slice has now (R119). -/
def wantedCodes (s : State) (x : Slice) : Nat × Nat :=
  let o := tgetD x.objs (key 0x2404 1) 0xFF
  if undefinedCase s 117 then (Config.undefinedMode x.role, 0)
  else (obj s (key 0x2400 0) 0, if o = 0xFF then roleDefault s x.role else o)
/-- Apply what the floor, the override and the role now ask of a slice (R122, R123). A code of Full that only waits leaves
the code before it in force beside the other one (R119; notes/assumptions/171.md). -/
def applyMode (k : Nat) (s : State) : State :=
  match slice s k with
  | none => s
  | some x =>
    if !sliceLive x then s else
    let m := wantedMode s x
    let c := wantedCodes s x
    if !x.issued then refreshBound k (syncQualifying (modSlice k (fun x => { x with
      mode := m, codes := c, switches := [], pending := none }) s))
    else if x.mode = .full then modSlice k (fun x => { x with pending := if m = .full then none else some m }) s
    else
      let codes := (if 3 ≤ c.1 then x.codes.1 else c.1, if 3 ≤ c.2 then x.codes.2 else c.2)
      let new := Mode.ofCode (max codes.1 codes.2)
      let now := (x.switches.getLast?.map (·.mode)).getD x.mode
      let s := modSlice k (fun x => { x with codes := codes, pending := if m = .full then some m else none }) s
      if new = now then s
      else refreshBound k (syncQualifying (modSlice k (fun x => { x with
        switches := x.switches ++ [⟨new, changeCountAfter (pt s), sliceClusters s k⟩] }) s))
/-- Apply it to every slice. -/
def applyModes (s : State) : State := (s.slices.map (·.1)).foldl (fun s k => applyMode k s) s
/-- The mode of a slice and its changes on their way once those have ended that no cluster of it waits for. -/
def switchesLeft (now : Nat) (cks : List Nat) : Mode → List ModeChange → Mode × List ModeChange
  | m, [] => (m, [])
  | m, c :: r =>
    if c.after ≤ now && !(c.waiting.any fun ck => cks.contains ck) then switchesLeft now cks c.mode r else (m, c :: r)
/-- End the mode changes for which every cluster has switched. -/
def endSwitch (k : Nat) (s : State) : State :=
  match slice s k with
  | none => s
  | some x =>
    let r := switchesLeft (pt s) (sliceClusters s k) x.mode x.switches
    refreshBound k (syncQualifying (modSlice k (fun x => { x with mode := r.1, switches := r.2 }) s))

/-- MODE_SWITCH (R122): a cluster of the slice takes the new mode at its first tile boundary after its time copy reads C, or at
once then while it has no tile in progress. Before that it does not happen. -/
def execModeSwitch (dt slice_ ck : Nat) (s : State) : Result :=
  let s := elapse dt s
  done <| match slice s slice_ with
  | none => s
  | some x =>
    let now := bridleTime s ck
    let idle := (coresOf ck).all fun p => (core s p).tile.isNone
    let due := fun (c : ModeChange) => c.after ≤ now && (idle || c.after ≤ (cluster s ck).boundary)
    let take := fun (c : ModeChange) => if due c then { c with waiting := c.waiting.filter (· ≠ ck) } else c
    if x.switches.any fun c => due c && c.waiting.contains ck then
      endSwitch slice_ (cutProgress ck (modSlice slice_ (fun x => { x with switches := x.switches.map take }) s))
    else s

/-- MODEL_BUCKET_ROLL (R115): a qualifying hour passes; the oldest bucket leaves the count. -/
def execModelBucketRoll (dt : Nat) (s : State) : Result := done (checkModel (rollModel (elapse dt s)))

/-- INELIGIBLE_QUIET_TIMEOUT (R114): 1 s has passed without growth of the count of R105. -/
def execIneligibleQuietTimeout (dt k : Nat) (s : State) : Result :=
  let s := elapse dt s
  done <| match slice s k with
  | none => s
  | some x => match x.ineligibleAt with
    | some t => if t + 1000000000 ≤ pt s then
        refreshBound k (modSlice k (fun x => { x with ineligibleAt := none }) s) else s
    | none => s

end Sys2Proof.Machine
end

