-- ==== Sys2Proof/Machine/Reel.lean ====
section
/-!
DEFINITION. The Reel (R382 to R403): the bytes of a record, the write queue and the always-on hold, losses,
relocation, clearing, and the commands that complete its operations.
-/
namespace Sys2Proof.Machine
open Sys2Proof

/-- Change a die's Reel. -/
def modReel (d : Nat) (f : Reel → Reel) (s : State) : State := modDie d (fun x => { x with reel := f x.reel }) s
/-- The index kept for the Reel-full record (R390). -/
def fullIndex : Nat := 1048575
/-- Whether the Reel is full: its last index is written (R390). -/
def reelFull (r : Reel) : Bool := fullIndex < r.next
/-- Whether some chip select is usable (R394). -/
def reelUsable (r : Reel) : Bool := !r.unusable.contains r.active

/-- The 64 bytes of a record (R384). -/
def recordBytes (r : Reel) (x : ReelEntry) : List Byte :=
  let e := x.event
  let flags := (if e.coarse then 1 else 0) + (if x.held then 2 else 0) + (if r.active = 1 then 4 else 0)
  let body := [0x01, BitVec.ofNat 8 flags] ++ leBytes 2 r.clearCount ++ leBytes 4 x.run ++
    leBytes 2 (x.position / 2 ^ 48) ++ leBytes 6 (x.position % 2 ^ 48) ++ leBytes 8 e.pt ++ leBytes 4 e.pua ++
    leBytes 2 e.code ++ leBytes 2 (e.slice % 4096) ++ fitBytes 27 e.payload
  withCheck body ++ [0xA5]

/-- The stored bytes of an index; an erased or unwritten one reads 0xFF (R387). -/
def storedRecord (t : Tab (List Byte)) (i : Nat) : List Byte := tgetD t i (List.replicate 64 erasedByte)
/-- Whether a stored record is valid: mark 0xA5 and a check that holds (R389). -/
def recordValid (b : List Byte) : Bool := b.getD 63 0 == 0xA5 && checkHolds 59 b
/-- The position that a stored record carries (R384). -/
def recordPosition (b : List Byte) : Nat := leNat ((b.drop 8).take 2) * 2 ^ 48 + leNat ((b.drop 10).take 6)

/-- Write bytes at an index of the active chip select. -/
def writeIndex (i : Nat) (b : List Byte) (r : Reel) : Reel :=
  if r.active = 0 then { r with cs0 := tset r.cs0 i b } else { r with cs1 := tset r.cs1 i b }
/-- Erase a unit of 1,024 records of the active chip select (R382). -/
def eraseUnit (u : Nat) (r : Reel) : Reel :=
  let keep := fun (t : Tab (List Byte)) => t.filter fun e => e.1 / 1024 ≠ u
  if r.active = 0 then { r with cs0 := keep r.cs0 } else { r with cs1 := keep r.cs1 }

/-- Lose one record (R391). -/
def loseRecord (now : Nat) (full : Bool) (r : Reel) : Reel :=
  let run := match r.losing with
    | some l => (l.1 + 1, l.2.1, now)
    | none => (1, now, now)
  { r with lost := r.lost + 1, lastLost := now, losing := some run, losingFull := r.losingFull || full }
/-- Lose the record that finds no room; with a relocated record the wait for it ends. -/
def loseEntry (now : Nat) (full : Bool) (x : ReelEntry) (r : Reel) : Reel :=
  loseRecord now full { r with relocating := r.relocating && x.event.code != 0x3806 }

/-- Start the record of one code, from the always-on hold or the write queue, when it is there. -/
def startCode (code : Nat) (r : Reel) : Reel :=
  let mine := fun (x : ReelEntry) => x.event.code = code
  match r.hold.find? (mine ·), r.queue.find? (mine ·) with
  | some x, _ => { r with current := some { x with held := true }, hold := r.hold.erase x }
  | none, some x => { r with current := some x, queue := r.queue.erase x }
  | none, none => r
/-- The next record starts its first program when nothing is in progress, writes are not suspended, no clear is
open and the index is erased; held records come before any other (R387, R392, R396). The relocated record is
the first on a new chip select (R394), the full record the last (R390). -/
def startRecord (suspended : Bool) (r : Reel) : Reel :=
  let erased := match r.erasedThrough with
    | some h => decide (r.next ≤ h)
    | none => false
  if r.current.isSome || suspended || r.clearOpen.isSome || !reelUsable r || reelFull r || !erased then r
  else if r.relocating then startCode 0x3806 r
  else if r.next = fullIndex then startCode 0x3807 r
  else match r.hold, r.queue with
    | x :: rest, _ => { r with current := some { x with held := true }, hold := rest }
    | [], x :: rest => { r with current := some x, queue := rest }
    | [], [] => r

/-- Place a record in the write queue or the always-on hold, or lose it (R388, R390 to R392). -/
def placeRecord (now : Nat) (suspended : Bool) (x : ReelEntry) (r : Reel) : Reel :=
  if !reelUsable r then loseEntry now false x r
  else if fullIndex ≤ r.next && !(r.next = fullIndex && x.event.code = 0x3807) then loseEntry now true x r
  else if suspended then
    (if 256 ≤ r.hold.length then loseEntry now false x r else { r with hold := r.hold ++ [x] })
  else if 1024 ≤ r.queue.length then loseEntry now false x r
  else startRecord suspended { r with queue := r.queue ++ [x] }

/-- A run of losses ends when the write queue has room and writes are not suspended; one that did not arise from
a full Reel raises a records-lost event (R391). -/
def endLosses (d : Nat) (s : State) : State :=
  let x := die s d
  let r := x.reel
  match r.losing with
  | none => s
  | some l =>
    if x.suspended || 1024 ≤ r.queue.length || !reelUsable r || fullIndex ≤ r.next then s
    else
      let s := modReel d (fun r => { r with losing := none, losingFull := false }) s
      if r.losingFull then s
      else record 0x3804 (diePua d) 0 (leBytes 4 l.1 ++ leBytes 8 l.2.1 ++ leBytes 8 l.2.2) s

/-- A numbered event's record goes to a die's Reel (R385). -/
def reelPlace (d : Nat) (n : Numbered) (s : State) : State :=
  let x : ReelEntry := ⟨n.event, n.position, obj s (key 0x2101 0) 0, false⟩
  let sus := (die s d).suspended
  endLosses d (refreshError d (modReel d (placeRecord (keeperRead s d) sus x) s))

/-- Move the write queue into the always-on hold when writes are suspended (R392); a record whose first program
has started completes (R387). -/
def queueToHold (now : Nat) (r : Reel) : Reel :=
  let all := r.hold ++ r.queue
  (all.drop 256).foldl (fun r x => loseEntry now false x r) { r with hold := all.take 256, queue := [] }

/-- REEL_RECORD_WRITE (R387, R390, R402): the record in progress completes both program operations and the next one
starts. After index 1,048,574 only the full record follows, and what waits is lost. -/
def execReelRecordWrite (dt d : Nat) (s : State) : Result :=
  let s := elapse dt s
  let x := die s d
  done <| match x.reel.current with
  | none => s
  | some e =>
    let bytes := fun (r : Reel) => if undefinedCase s 403 then fitBytes 64 (Config.undefinedRecord d r.next) else recordBytes r e
    let s := modReel d (fun r =>
      { writeIndex r.next (bytes r) r with
        current := none, next := r.next + 1,
        relocating := r.relocating && e.event.code != 0x3806 }) s
    let s := if x.reel.next + 1 = fullIndex then
        let now := keeperRead s d
        let s := modReel d (fun r =>
          (r.hold ++ r.queue).foldl (fun r _ => loseRecord now true r) { r with hold := [], queue := [] }) s
        record 0x3807 (diePua d) 0 (leBytes 8 e.event.pt) s
      else s
    endLosses d (refreshError d (modReel d (startRecord x.suspended) s))

/-- The cleared record of a clear, at index 0, with the numbers of its request (R395, R396). -/
def clearedRecord (s : State) (r : Reel) (d : Nat) (run position path discarded restart : Nat) : List Byte :=
  let e := { recordEvent s 0x3803 (diePua d) 0
    (leBytes 2 ((r.clearCount + 65535) % 65536) ++ leBytes 4 discarded ++ leBytes 8 r.lost ++ leBytes 1 path ++
      leBytes 1 restart) with die := d }
  recordBytes r ⟨e, position, run, false⟩

/-- Steps 2 to 4 of a clear once erase unit 0 is erased (R395): `restart` is 1 when a start completes it. -/
def finishClear (d restart : Nat) (s : State) : State :=
  let r := (die s d).reel
  match r.clearOpen with
  | none => s
  | some c =>
    let r := eraseUnit 0 r
    let rec_ := clearedRecord s r d c.1 c.2.1 c.2.2 r.discarded restart
    let r := { writeIndex 0 rec_ r with
      clearOpen := none, erasedThrough := some 1023, next := 1, lost := 0, lastLost := 0, losing := none,
      losingFull := false }
    let s := modDie d (fun x => { x with reel := startRecord x.suspended r }) s
    refreshError d (leaveCase 403 s)

/-- REEL_ERASE_COMPLETE (R395, R396): erase unit 0 of an open clear, or the next unit in the background, which
stays at least 4 units ahead of the next free index. Erasing does not go on while writes are suspended. -/
def execReelEraseComplete (dt d : Nat) (s : State) : Result :=
  let s := elapse dt s
  let x := die s d
  done <| if x.suspended then s
  else if x.reel.clearOpen.isSome then finishClear d 0 s
  else match x.reel.erasedThrough with
    | none => s
    | some h =>
      if h < 1048575 && h < x.reel.next + 4096 then
        modReel d (fun r => startRecord false
          { eraseUnit ((h + 1) / 1024) r with erasedThrough := some (h + 1024) }) s
      else s

/-- A chip select becomes unusable for the Reel: the Reel moves from chip select 0 to 1, or is unavailable
(R393, R394, R402). `cause` is 0 for a failed operation, 1 for a silent device (notes/assumptions/13.md). -/
def reelFail (d cs cause : Nat) (s : State) : State :=
  let r := (die s d).reel
  if r.unusable.contains cs || 1 < cs then s else
  let s := modReel d (fun r => { r with unusable := r.unusable ++ [cs] }) s
  if cs ≠ r.active then refreshError d s
  else if r.unusable.contains 1 || cs = 1 then
    -- no chip select is usable: what waits is lost
    let now := keeperRead s d
    let s := modReel d (fun r => (r.hold ++ r.queue ++ r.current.toList).foldl
      (fun r _ => loseRecord now false r) { r with hold := [], queue := [], current := none }) s
    refreshError d (emcyEvent d 0xFF53 0 s)
  else
    let s := modReel d (fun r => { r with
      active := 1, next := 0, erasedThrough := some 1048575, relocating := true, current := none,
      queue := r.current.toList ++ r.queue }) s
    let s := record 0x3806 (diePua d) 0 (leBytes 4 (r.next - 1) ++ leBytes 1 cause) s
    refreshError d s

/-- STORE_OPERATION_FAILURE (R393, R394): a program or erase fails twice at one address. -/
def execStoreOperationFailure (dt d cs _address : Nat) (s : State) : Result := done (reelFail d cs 0 (elapse dt s))

/-- STORE_SILENT_TIMEOUT (R393, R394): the device does not answer for 10 ms. -/
def execStoreSilentTimeout (dt d cs : Nat) (s : State) : Result := done (reelFail d cs 1 (elapse dt s))

end Sys2Proof.Machine
end

