-- ==== Sys2Proof/Machine/Events.lean ====
section
/-!
DEFINITION. The way of an event (R46, R87 to R94, R258 to R260): report, arbitration, numbering, handling and the
return of its number, and the commands around commits.
-/
namespace Sys2Proof.Machine
open Sys2Proof

/-- An event as its unit reports it (R67): one with a cause of R228 is charged to its unit. -/
def reportedEvent (s : State) (r : EventReport) : Event :=
  stamped s (stampKeeper r.pua.toNat) (if r.cause = 0 then .record else .charge) r.cause r.code r.pua.toNat
    r.slice (if r.pua.toNat = packagePua then s.anchorDie else puaDie r.pua.toNat) r.payload

/-- EVENT_REPORT (R46, R49): a Core Port, Bridle or Field Agent enters an event into its queue. -/
def execEventReport (dt : Nat) (reporter : Pua) (event : EventReport) (s : State) : Result :=
  let s := elapse dt s
  done (raise reporter.toNat (reportedEvent s event) s)

/-- Add an event to a die's handling queue, or lose it when 4,096 entries wait (R258, R260). -/
def enterHandling (d : Nat) (e : Event) (s : State) : State :=
  let x := die s d
  let n := x.handling.length
  if 4096 ≤ n then
    let now := keeperRead s d
    let s := modDie d (fun x => { x with
      lost := x.lost + 1, lastLoss := now,
      losing := some (match x.losing with
        | some l => (l.1 + 1, l.2.1, now)
        | none => (1, now, now)) }) s
    if x.losing.isNone then refreshError d (emcy d 0xFF50 0 0 (modDie d (fun x => { x with error := 129 }) s))
    else s
  else modDie d (fun x => { x with
    handling := x.handling ++ [e], peak := max x.peak (n + 1), coresAwake := true }) s

/-- The event that an arbiter input holds first: inputs 0 to 5 are the Field Agents, 6 the Gondola (R88). -/
def inputHead (s : State) (d i : Nat) : Option Event :=
  if i < 6 then (field s (d * 6 + i)).queue.head? else (die s d).local_.head?
/-- Take the head of an input; a field queue at half its depth releases the issue it held (R46). -/
def takeInput (d i : Nat) (s : State) : State :=
  if i < 6 then
    let f := d * 6 + i
    let s := drainBridles 64 f (modField f (fun x => { x with queue := x.queue.drop 1, awake := decide (1 < x.queue.length) }) s)
    if (field s f).queue.length ≤ 512 then freeField 0 f s else s
  else modDie d (fun x => { x with local_ := x.local_.drop 1 }) s

/-- The dies whose Reel takes a record, and the die that forwarded it (R385). -/
def returnDies (s : State) (e : Event) (source : Nat) : List Nat :=
  (source :: (match e.scope with
    | 0 => [e.die]
    | 1 => [s.anchorDie]
    | _ => (dieIdxs s).filter fun d => (die s d).status ≠ 2)).eraseDups

/-- Give an event that die `d` forwarded the next number; it goes back to the dies that wait for it. -/
def giveNumber (d : Nat) (e : Event) (s : State) : State :=
  let n : Numbered := ⟨e, d, s.seqr.next⟩
  let t := (returnDies s e d).foldl (fun s t => modDie t (fun x => { x with returns := x.returns ++ [n] }) s)
    (mirrorEvent n (takePosition s))
  let t := match e.ends with
    | some k => if (slice t k).any fun x => 1 < x.extent.2.2 then raiseEnd t.anchorDie k t else t
    | none => t
  match e.commit with
  | some id => scheduleCommit id t
  | none => t
/-- As `giveNumber`; where the number has wrapped an era event comes first or follows at once (R93). -/
def issueNumber (d : Nat) (e : Event) (s : State) : State := eraEvent (giveNumber d e (eraEvent s))
/-- The Anchor numbers an event of die `d` that never passed its arbiter; the die keeps it until its number returns (R58). -/
def numberDirect (d : Nat) (e : Event) (s : State) : State :=
  issueNumber d e (modDie d (fun x => { x with unacked := x.unacked ++ [e] }) s)
/-- Numbers have returned in this run: every die that is not fenced has ended S2 (R92, R94, R510). -/
def numbersReturned (s : State) : Bool :=
  (dieIdxs s).all fun d => (die s d).status == 2 || 2 < (die s d).stage || ((die s d).stage == 2 && (die s d).stageDone)
/-- The sequencer accepts the event at the head of a die's input and numbers it (R87, R90). -/
def numberFrom (d : Nat) (s : State) : State :=
  match (die s d).toAnchor with
  | [] => s
  | e :: rest =>
    let s := eraEvent s
    if !sequencerFree s then s
    else
      let s := issueNumber d e (modDie d (fun x => { x with toAnchor := rest }) s)
      match e.detected with
      | some h => countDetection h s
      | none => s

/-- EVENT_SEQUENCE (R90): one fast cycle of the sequencer: at most one event from each die input, in ascending die
order from the die after the one that came first in the last cycle that numbered any. Before the end of S2 nothing is
numbered (R94). -/
def execEventSequence (dt : Nat) (s : State) : Result :=
  let s := elapse dt s
  let n := s.variant.dies
  let order := (List.range n).map fun i => (s.seqr.first + i) % n
  done <| if numbersReturned s && order.any (fun d => !(die s d).toAnchor.isEmpty) && sequencerFree s then
    let t := order.foldl (fun s d => numberFrom d s) s
    { t with seqr := { t.seqr with first := (s.seqr.first + 1) % n } }
  else s

/-- CHECKPOINT_WRITE_COMPLETE (R94): the checkpoint write ends: K is the position written. -/
def execCheckpointWriteComplete (dt : Nat) (s : State) : Result :=
  let s := elapse dt s
  done <| match s.seqr.writing with
  | none => s
  | some k => if s.dies.any (·.suspended) then s else
    eraEvent <| editCopies (fun c => { c with checkpoint := k }) { s with seqr := { s.seqr with
        checkpoint := k, writing := none, held := decide (k + 16777216 ≤ s.seqr.next) } }

/-- The bindings of an ended slice's mailboxes end with its teardown's notification (R453, R454); the grants of the
mailbox end with them. -/
def unbindSlice (k : Nat) (s : State) : State :=
  { s with
    mailboxes := s.mailboxes.map fun e => (e.1, if e.2.bound = k then { e.2 with bound := 0 } else e.2),
    paths := s.paths.map fun e =>
      if (s.mailboxes.any fun m => m.2.bound = k && pathKey (.mailbox m.1) = e.1) then
        (e.1, e.2.unbound) else e }
/-- The captures that an event caused take its number (R277). -/
def setCapturePosition (e : Event) (position : Nat) (s : State) : State :=
  let f := fun (c : Capture) =>
    if c.event = some e || (e.code = 0x2C03 && c.code = 0xFF && c.position = 0)
    then { c with position := position } else c
  { s with dies := s.dies.map fun x => { x with captures := x.captures.map f, capturing := x.capturing.map f } }

/-- The units that an event is charged to (R228): with cause 0x17 the Bridle of each cluster in the domain that it names. -/
def chargedUnits (e : Event) : List Nat :=
  if e.cause = 0x17 then
    (match puaKind e.pua with
      | 8 => domainBridles [puaFieldIdx e.pua]
      | 15 => domainBridles ((List.range 6).map (puaDie e.pua * 6 + ·))
      | _ => [e.pua])
  else if e.kind = .charge then [e.pua] else []
/-- What the return of a number sets at the die that forwarded the event: the objects that show it, the fields of
the unit record (R239), 0x2A08, the EMCY and the notification. -/
def applyReturn (d : Nat) (n : Numbered) (s : State) : State :=
  let e := n.event
  let seq := n.position % 2 ^ 48
  let s := e.seqKeys.foldl (fun s k => if k.1 = 0 then setObj k.2 seq s else setSobj k.1 k.2 seq s) s
  let s := (chargedUnits e).foldl (fun s u => modUnit u (fun r => { r with lastSeq := some seq }) s) s
  let s := if e.code = 0x2901 then
    modUnit e.pua (fun r => { r with seq := seq, era := n.position / 2 ^ 48, dirty := true }) s else s
  let s := match e.emcy with
    | some x =>
      -- node 255: each node that runs (R448, code 0xFF02)
      if x.2.2 = 255 then (dieIdxs s).foldl (fun s d =>
        if (die s d).status = 1 then emcy d x.1 x.2.1 (seq % 2 ^ 32) s else s) s
      else emcy x.2.2 x.1 x.2.1 (seq % 2 ^ 32) s
    | none => s
  let s := setCapturePosition e n.position s
  let s := if e.noteCode = 0 then s else notify ⟨e.noteCode, e.slice, n.position, e.pt, e.note⟩ s
  let s := if e.code = 0x2C05 then unbindSlice e.slice s else s
  modDie d (fun x => { x with unacked := x.unacked.erase e }) s

/-- SEQUENCE_RETURN (R92, R385): a number returns to a die, in the order in which the Anchor numbered. The event's
record is written only now. -/
def execSequenceReturn (dt d : Nat) (s : State) : Result :=
  let s := elapse dt s
  done <| match (die s d).returns with
  | [] => s
  | n :: rest =>
    let s := settleMirror n (modDie d (fun x => { x with returns := rest }) s)
    let s := if n.source = d then applyReturn d n s else s
    let e := n.event
    let mine := match e.scope with
      | 0 => e.die = d
      | 1 => s.anchorDie = d
      | _ => true
    if e.code ≠ 0 && mine then reelPlace d n s else s

/-- A run of handling-queue losses ends below 2,048 entries, with one overflow record (R260). -/
def endOverflow (d : Nat) (s : State) : State :=
  let x := die s d
  match x.losing with
  | none => s
  | some l =>
    if 2048 ≤ x.handling.length then s else
    let s := modDie d (fun x => { x with losing := none, lossRuns := x.lossRuns + 1 }) s
    refreshError d (record 0x2908 (diePua d) 0 (leBytes 4 l.1 ++ leBytes 8 l.2.1 ++ leBytes 8 l.2.2) s)

/-- Take the head of a die's handling queue (R258). -/
def popHandling (d : Nat) (s : State) : State :=
  endOverflow d (modDie d (fun x => { x with
    handling := x.handling.drop 1, coresAwake := decide (1 < x.handling.length) }) s)

/-- EVENT_HANDLING (R228, R258): the Gondola takes the entry at the head of its handling queue. A hang or an fmax
change request at the head waits for its own command. A recovering Gondola takes nothing (R62). Only the Gondola of a unit's own die
changes its state (R41): another one hands the event over to that Gondola's handling queue (notes/assumptions/187.md). -/
def execEventHandling (dt d : Nat) (s : State) : Result :=
  let s := elapse dt s
  done <| if (die s d).recovering.isSome then s else
  match (die s d).handling with
  | [] => s
  | e :: _ => match e.kind with
    | .charge =>
      if puaDie e.pua = d || (die s (puaDie e.pua)).status ≠ 1 then chargeUnit e (popHandling d s)
      else enterHandling (puaDie e.pua) e (popHandling d s)
    | .record => popHandling d s
    | .hang | .fmax => s

/-! ### Anchor takeover (R57 to R60) -/

/-- A scheduled commit is requested and scheduled afresh (R262). -/
def rescheduleCommits (s : State) : State :=
  s.commits.foldl (fun s c =>
    let others := { s with commits := s.commits.filter fun x => x.id ≠ c.id }
    let count := freeSlot others c.dies (s.commits.length + 1) (changeCountAfter (pt s))
    let waiting := (c.bindings.flatMap bindingBridles).eraseDups
    if !c.scheduled then s else
    { s with commits := s.commits.map fun x =>
              if x.id = c.id then { x with count := count, waiting := waiting } else x }) s

/-- The new Anchor goes on with step 3 of the teardowns of slices that span dies; it makes no second increment
(R299). -/
def restartSpanning (s : State) : State :=
  { s with slices := s.slices.map fun e => (e.1, { e.2 with teardown := e.2.teardown.map fun t =>
      if t.spanning then { t with step := 3, sent := [], marks := [], quiesceFrom := pt s } else t }) }
/-- Scheduled starts and stops of trace slots and a scheduled snapshot take a change count afresh (R427). -/
def rescheduleRequests (s : State) : State :=
  let c := changeCountAfter (pt s)
  { s with
    traces := s.traces.map fun e => (e.1, { e.2 with scheduled := e.2.scheduled.map fun x => (c, x.2) }),
    snapshot := s.snapshot.map fun x => { x with count := c, latched := false } }
/-- CD1 takes the Anchor role before numbers have returned (R352, R354): the takeover event waits at its arbiter, with no
mirrored event. -/
def anchorAtStart (cause : Nat) (s : State) : State :=
  let s := { s with anchorDie := 1, standby := false, takenOver := true }
  raiseLocal 1 (recordEvent s 0x2201 packagePua 0 (leBytes 6 0 ++ leBytes 1 cause)) s
/-- What a Gondola sends and awaits after a takeover: the numbers that the new Anchor mirrored still return; every other
unacknowledged event is sent again (R58; notes/assumptions/178.md). -/
def resendEvents (mirror : List Numbered) (x : Die) : Die :=
  let returns := x.returns.filter mirror.contains
  { x with returns := returns, toAnchor := x.unacked.filter fun e => !returns.any fun n => n.event == e }
/-- The standby takes the Anchor role (R58): the takeover event takes the number after the last one mirrored,
and every Gondola sends its unacknowledged events again. `cause` is that of code 0x2201. Corrections of the new Anchor reach every
keeper, so the counts of missed ones begin again (R60). -/
def anchorTakeover (cause : Nat) (s : State) : State :=
  let last := s.seqr.mirrored
  let s := { s with
    anchorDie := 1, standby := false, takenOver := true,
    seqr := { s.seqr with next := last + 1, mirror := [] },
    keepers := s.keepers.map fun e => (e.1, { e.2 with missed := 0, lossAt := 0 }),
    dies := s.dies.map (resendEvents s.seqr.mirror) }
  let s := eraEvent s
  let e := recordEvent s 0x2201 packagePua 0 (leBytes 6 (last % 2 ^ 48) ++ leBytes 1 cause)
  let s := restartSpanning (rescheduleRequests s)
  eraEvent (rescheduleCommits (takePosition (returnEverywhere ⟨e, 1, s.seqr.next⟩ s)))
/-- A keeper starts PT at 0 on the first reference edge (R69): while the reference is absent it stands at 0. -/
def startPt (k : Nat) (s : State) : State :=
  let s := modKeeper k (fun _ => { Keeper.reset with
    since := s.now, running := s.reference, rate := if s.reference then 1000000 else 0, coarse := !s.reference,
    applied := true }) s
  { s with ptStarted := true }
/-- CD1's Gondola takes the Anchor role (R57, R58, R354): before numbers have returned with no mirrored events. A keeper that has
not applied its start-up offset starts PT afresh. -/
def takeRole (cause : Nat) (s : State) : State :=
  let s := if numbersReturned s then anchorTakeover cause s else anchorAtStart cause s
  if (keeper s 1).applied then s else startPt 1 s

end Sys2Proof.Machine
end

