-- ==== Sys2Proof/Machine/Teardown.lean ====
section
/-!
DEFINITION. Captures, reserved regions, the end of a shutdown, and the end of a slice (R276 to R278, R288 to R292,
R294, R365, R366, R374, R375), with the commands of a teardown.
-/
namespace Sys2Proof.Machine
open Sys2Proof

/-! ### Captures (R276 to R278) -/

/-- Blocks of a die's capture region (0x2C0B:01). -/
def captureRegion : Nat := 32768
/-- The pinned capture of a die's ring as first block and number of blocks, its header included (R278). -/
def pinnedSpan (x : Die) : Option (Nat × Nat) :=
  match x.captures.find? fun c => c.number = x.pinned && x.pinned ≠ 0 with
  | some c => some ((c.header + captureRegion - c.blocks) % captureRegion, c.blocks + 1)
  | none => none
/-- The ring index that is `i` unpinned blocks on from `start`. -/
def ringIndex (x : Die) (start i : Nat) : Nat :=
  match pinnedSpan x with
  | none => (start + i) % captureRegion
  | some p =>
    let o := (p.1 + captureRegion - start) % captureRegion
    if i < o then (start + i) % captureRegion else (start + i + p.2) % captureRegion
/-- Whether ring index `b` lies among the `n` unpinned blocks from `start` on. -/
def ringHas (x : Die) (start n b : Nat) : Bool :=
  let o := (b + captureRegion - start) % captureRegion
  match pinnedSpan x with
  | none => decide (o < n)
  | some p =>
    let q := (p.1 + captureRegion - start) % captureRegion
    if o < q then decide (o < n) else decide (q + p.2 ≤ o) && decide (o - p.2 < n)
/-- The record of a capture (code 0x2C01). -/
def captureRecord (d : Nat) (c : Capture) (s : State) : State :=
  recordAt d 0x2C01 c.domain 0
    (leBytes 4 c.number ++ [BitVec.ofNat 8 c.code, BitVec.ofNat 8 c.reason, BitVec.ofNat 8 c.consistency] ++
      leBytes 8 c.cut ++ leBytes 2 c.header ++ [if c.interrupted then 1 else 0]) s
/-- Start a capture in a die's region (R276, R278): the oldest captures whose blocks it takes are lost; what does
not fit beside a pinned capture is cut off, with consistency 3. While the region waits for space nothing is written
(R366). -/
def startCapture (d code reason consistency domain sections : Nat) (units : List Nat) (cut : Nat)
    (event : Option Event) (s : State) : State :=
  if (tgetD (die s d).regions 2 none).isNone then
    captureRecord d ⟨(die s d).captureCount, code, reason, 3, domain, cut, 0, 0, 0, units, false, false, event⟩ s
  else modDie d (fun x =>
    let room := captureRegion - 1 - (pinnedSpan x).elim 0 (·.2)
    let n := min sections room
    let start := x.captureNext
    let c : Capture := {
      number := x.captureCount + 1, code := code, reason := reason,
      consistency := if n < sections then 3 else consistency, domain := domain, cut := cut, position := 0,
      blocks := n, header := ringIndex x start n, units := units, interrupted := false, valid := false,
      event := event }
    let keep := x.captures.filter fun o =>
      (o.number = x.pinned && x.pinned ≠ 0) ||
        !((List.range (o.blocks + 1)).any fun i =>
          ringHas x start (n + 1) ((o.header + captureRegion - i) % captureRegion))
    { x with captures := keep, capturing := x.capturing ++ [c], captureCount := x.captureCount + 1,
             captureNext := ringIndex x start (n + 1) }) s
/-- The blocks after the header: 4 for each cluster, 2 for each Field Agent, 1 for every 4 routers when links are
captured (R276). -/
def captureBlocks (clusters agents routers : Nat) : Nat := 4 * clusters + 2 * agents + (routers + 3) / 4
/-- Captures in progress that an emergency Ripcord cuts off stay void (R296). -/
def voidCaptures (s : State) : State :=
  (dieIdxs s).foldl (fun s d =>
    let cut := (die s d).capturing
    let s := modDie d (fun x => { x with
      capturing := [],
      captures := x.captures ++ cut.map fun c => { c with interrupted := true } }) s
    cut.foldl (fun s c => captureRecord d { c with interrupted := true } s) s) s

/-! ### Stacks and reserved regions (R173, R366, R477) -/

/-- The raw capacity of a stack in GB, as its identity reports it (R31, R477): 8 to 64. -/
def stackGb (j : Nat) : Nat :=
  let v := Config.stackIdentity j / 2 ^ 36 % 256
  if 8 ≤ v && v ≤ 64 then v else 8 + v % 57
/-- Whether a pseudo-channel slot of a stack serves: it is not lost and its pseudo-channel is in service (R247, R248). -/
def slotServes (s : State) (j slot : Nat) : Bool :=
  !(tgetD s.lostSlots j 0).testBit slot &&
    inService (stateOf s (channelPua j (tgetD s.channels (j * 32 + slot) slot)))
/-- Whether a stack is trained and reachable (R32, R366). -/
def stackUsable (s : State) (j : Nat) : Bool :=
  !s.unreachable.contains j && (List.range 31).any (slotServes s j)
/-- The size of a reserved region in KiB: firmware, trace, capture (R366). -/
def regionKiB (r : Nat) : Nat := [16384, 65536, 131072].getD r 0
/-- The space that reserved regions hold in a stack, in KiB (0x2011:05). -/
def reservedKiB (s : State) (j : Nat) : Nat :=
  ((List.range 3).map fun r => match tgetD (die s (j / 16)).regions r none with
    | some p => if p.1 = j then regionKiB r else 0
    | none => 0).sum
/-- The usable capacity of a stack in KiB (0x2011:03): serving slots less side rows and reserved regions. -/
def usableKiB (s : State) (j : Nat) : Nat :=
  if s.unreachable.contains j || (unitRec s (channelPua j 0)).flags % 2 = 1 then 0 else
  let n := (List.range 31).countP (slotServes s j)
  let raw := n * (stackGb j * 32768)
  raw - raw / 512 - reservedKiB s j
/-- The blocks of a stack that slices hold or that wait for their zero-fill (R291). -/
def heldBlocks (s : State) (j : Nat) : Nat :=
  (s.slices.map fun e =>
    ((e.2.memory ++ e.2.zeroFill).filter (fun m => m.1 = j)).map (·.2) |>.sum).sum
/-- The blocks of a stack that nothing holds. -/
def freeBlocks (s : State) (j : Nat) : Nat := usableKiB s j / 4 - heldBlocks s j
/-- The preference list of stacks of a region (R366). -/
def regionStacks (r : Nat) : List Nat :=
  let first := [0, 8, 12].getD r 0
  (List.range 16).map fun i => if r = 0 then i
    else if i < 16 - first then first + i else i - (16 - first)
/-- The first stack of a region's list with room for it, and its lowest serving slot (R366). -/
def regionPlace (s : State) (d r : Nat) : Option (Nat × Nat) :=
  ((regionStacks r).map (d * 16 + ·)).findSome? fun j =>
    if stackUsable s j && decide (regionKiB r / 4 ≤ freeBlocks s j)
    then ((List.range 31).find? (slotServes s j)).map fun slot => (j, slot) else none
/-- What a region loses with its place (R366): captures are void and the ring starts empty, chunks count as dropped. -/
def loseRegion (d r : Nat) (s : State) : State :=
  let s := modDie d (fun x => { x with regions := tset x.regions r none }) s
  match r with
  | 1 =>
    let n := (die s d).traceRegion.length
    modDie d (fun x => { x with
      traceRegion := [], traceNext := 0, traceKept := [],
      counters := tmod x.counters 0x0308 0 (· + n) }) s
  | 2 => modDie d (fun x => { x with captures := [], captureNext := 0 }) s
  | _ => s
/-- Place a waiting region where there is room (its content is written with its placing, notes/assumptions/199.md); the reduced capacity is published with a capacity event (R366). -/
def placeRegion (d r : Nat) (s : State) : State :=
  match regionPlace s d r with
  | none => s
  | some p =>
    let s := modDie d (fun x => { x with regions := tset x.regions r (some p) }) s
    -- a cluster reset that waits for its image begins its recovery time with the image in the new place
    let again := fun (e : Nat × Cluster) => (e.1, if ckDie e.1 = d then { e.2 with
      resetRun := e.2.resetRun.map fun x => { x with started := s.now } } else e.2)
    let s := if r = 0 then { s with clusters := s.clusters.map again } else s
    capacityEvent d 0 (d * 6 + (stackSites (p.1 % 16)).1) 2 s
/-- Regions whose slot is lost or whose stack is unreachable lose their place, and waiting regions take the first space
that there is (R366). -/
def refreshRegions (s : State) : State :=
  (dieIdxs s).foldl (fun s d =>
    (die s d).regions.foldl (fun s e =>
      match e.2 with
      | some p => if s.unreachable.contains p.1 || !slotServes s p.1 p.2
          then placeRegion d e.1 (loseRegion d e.1 s) else s
      | none => placeRegion d e.1 s) s) s

/-! ### Rails -/

/-- Turn a field's rail off: `p` is its new 0x3015, 0 off or 3 dark. Its keeper goes on with its coarse count
(R77). -/
def railOff (f p : Nat) (s : State) : State :=
  -- a ramp that ends here no longer lowers its group (R323)
  let s := if (field s f).power ≠ 1 then s else
    (stepGroup s f).foldl (fun s g => modField g (fun x => { x with rampCap := 15 }) s) s
  let s := emit (.rail f false) (holdField 11 f s)
  stopKeeper (fieldKeeper f) (modField f (fun x => { x with
    power := p, raising := none, back := none, targetStep := none, stretch := none, announced := none, idleSince := none,
    lowSince := none }) s)
/-! ### Fields without work: reservoirs and the idle hold (R316, R318, R324) -/

/-- A LOAD_NOTICE frame from its field and bits [28:8] (R316). -/
def lnFrame (fieldBits body : Nat) : BitVec 32 :=
  let head := fieldBits % 8 * 2 ^ 21 + body % 2 ^ 21
  BitVec.ofNat 32 (head * 256 + (crc8 (leBytes 3 head).reverse).toNat)
/-- The reservoir that should be armed: reservoirs exist, arming is enabled, the ramp has completed and a slice runs
in the field (R318). -/
def reservoirWanted (s : State) (f : Nat) : Bool :=
  s.variant == .dh100 && obj s (key 0x3030 0) 1 == 1 && (field s f).power == 2 && !(groupSlices s [f]).isEmpty
/-- Send the frames that arm or disarm reservoirs (R318). Their direction, amount and lead mean nothing and are free. -/
def refreshReservoirs (fs : List Nat) (s : State) : State :=
  fs.foldl (fun s f =>
    let want := reservoirWanted s f
    let have_ := (field s f).reservoir
    if want = (have_ != 0) then s else
    let (n, s) := takeNat s
    emit (.loadNotice (f / 6) (lnFrame (f % 6) (n % 2 ^ 17 * 16 + if want then 2 else 3))) s) s
/-- Whether a slice owns a router of a field, or a stack attached to it holds a slice's data (R324). -/
def fieldBusy (s : State) (f : Nat) : Bool :=
  !(groupSlices s [f]).isEmpty ||
    (List.range 16).any fun j => (stackSites j).1 = f % 6 && 0 < heldBlocks s (f / 6 * 16 + j)
/-- Since when a field that is up has been idle (R324). -/
def refreshIdle (fs : List Nat) (s : State) : State :=
  fs.foldl (fun s f =>
    let busy := fieldBusy s f || (field s f).power != 2
    modField f (fun x => { x with idleSince := if busy then none else some (x.idleSince.getD s.now) }) s) s

/-- No screen or test of a field is due: no test runs and no core's test is overdue (R324). -/
def noTestDue (s : State) (f : Nat) : Bool :=
  s.cores.all (fun e => puaFieldIdx e.1 ≠ f || (e.2.test.isNone && !e.2.overdue)) &&
    s.units.all fun e => puaFieldIdx e.1 ≠ f || e.2.state != .screening
/-- No committed route needs a field: without it every slice still passes the validation of R251 and no commit into it
waits (R324). -/
def noRouteThrough (s : State) (f : Nat) : Bool :=
  let off := modField f (fun x => { x with power := 0 }) s
  s.slices.all (fun e => !sliceLive e.2 || sliceValid off e.1) &&
    s.commits.all fun c => c.bindings.all fun b => (bindingBridles b).all fun ck => ckField ck ≠ f
/-- What a power-down needs besides the idle hold: no work, no screen or test due, no route through the field (R324). -/
def fieldIdle (s : State) (f : Nat) : Bool := !fieldBusy s f && noTestDue s f && noRouteThrough s f
/-- The routes around a field have landed: its clusters are held and its rail goes off (R324). Where the field has found work in the
meantime, the power-down stops (R344). -/
def powerDown (f : Nat) (s : State) : State :=
  if (field s f).power = 2 && fieldIdle s f then refreshReservoirs [f] (railOff f 0 s) else s

/-! ### Ending a shutdown (R294, R374, R375) -/

/-- Whether the shutdown self-test runs at this stop (R374). -/
def selfTestDue (s : State) : Bool :=
  decide (2 ≤ s.ripcord.target) && decide (s.ripcord.request ≤ 1) && decide (obj s (key 0x3500 0) 1 = 1)
/-- The T16 of a die in 1/256 °C as its training records hold it, 1 + T16 + 65,536 (R325, R362). -/
def trainingStamp (x : Die) : Nat := ((x.thermal.means.headD 0 + 65536).toNat % 131072) + 1
/-- Save the training of units of a die (R363): all of them, or those listed. While writes are suspended the save is held;
STORE_RECORD_WRITE makes it when they resume. -/
def saveTraining (d : Nat) (units : Option (List Nat)) (s : State) : State :=
  let x := die s d
  let v := trainingStamp x
  let t : Tab Nat := match units with
    | none => [(packagePua, v)]
    | some us => us.foldl (fun t u => tset t u v) x.training
  let s := modDie d (fun x => { x with training := t }) s
  let s := setObj (key 0x3430 (d + 5)) (obj s (key 0x2101 0) 0) s
  if x.suspended then s else editStores d (fun k => { k with training := tset k.training d t }) s
/-- Whether the shutdown self-test runs (0x3504:01). -/
def testing (s : State) : Bool := obj s (key 0x3504 1) 0 == 1
/-- The self-test stops at once and its record stays incomplete (R380). -/
def abortTest (s : State) : State :=
  if !testing s then s else
  let stop := fun (x : Die) => { x with testSlice := none }
  setObj (key 0x3504 1) 3 { s with dies := s.dies.map stop }
/-- The rails of every field go off and the target is reached (R294, R339). -/
def reachTarget (s : State) : State :=
  let s := { s with ripcord := { s.ripcord with reached := true } }
  if s.ripcord.target < 2 then s else
  (fieldIdxs s).foldl (fun s f => if (field s f).power = 3 then s else railOff f 0 s) s
/-- The self-test record, the last write before the rails go off; none while writes are suspended (R375).
`complete` is 0 no, 1 yes, 2 skipped; a result that found its table full makes the next start cold (R380). -/
def selfTestRecord (complete longest : Nat) (s : State) : State :=
  if s.dies.any (·.suspended) then s else
  let clean := complete ≠ 0 && !s.dies.any (·.testFull)
  let run := some (s.ripcord.target, clean)
  let s := { s with kept := { s.kept with lastRun := run }, keptB := { s.keptB with lastRun := run } }
  let entries := (s.dies.map (·.testResults.length)).sum
  recordPkg 0x3501 ([BitVec.ofNat 8 (obj s (key 0x3503 0) 0 % 4), BitVec.ofNat 8 complete] ++ leBytes 4 longest ++
    leBytes 2 entries) s
/-- Whether the orderly cut's captures are written, no slice is left and no trace chunk waits for its drain (R294, R427). -/
def shutdownReady (s : State) : Bool :=
  decide (s.ripcord.state = 2) && !s.ripcord.reached && s.dies.all (·.capturing.isEmpty) &&
    s.slices.all (fun e => !sliceLive e.2) && s.traces.all fun e => e.2.full.isEmpty
/-- Go on to the target state once the captures are written and every slice has ended (R294). When the self-test is
due, it comes first (SELF_TEST_START); else the training is saved (R363) and the record is marked skipped (R375). -/
def endShutdown (s : State) : State :=
  if !shutdownReady s then s
  else if s.ripcord.target < 2 then reachTarget s
  else if selfTestDue s then s
  else
    let s := (dieIdxs s).foldl (fun s d => saveTraining d none s) s
    reachTarget (if s.dies.any (·.suspended) then s else setObj (key 0x3504 1) 2 (selfTestRecord 2 0 s))

/-- CHUNK_DRAIN (R421, R422): the oldest full chunk of a slot goes to the trace region. Draining stops while the
Gondola recovers, and an orderly stop waits for it (R427). -/
def execChunkDrain (dt d slot : Nat) (s : State) : Result :=
  let s := elapse dt s
  let k := d * 256 + slot
  done <| if (die s d).recovering.isSome then s else
  match tget s.traces k with
  | none => s
  | some t => match t.full with
    | [] => s
    | c :: rest =>
      let s := storeChunk k c.1 c.2 (modTrace k (fun t => { t with full := rest }) s)
      endShutdown (if t.state = 3 && rest.isEmpty then writeDrop k s else s)

/-! ### Teardown (R288 to R292) -/

/-- The number of a generation table (R171): a Bridle's cluster key, 20,000 + die × 16 + stack for a stack's attach
point, 20,100 + k for host-I/O chiplet k. -/
def attachTable (j : Nat) : Nat := 20000 + j
/-- The table of host-I/O chiplet k. -/
def hostTable (k : Nat) : Nat := 20100 + k
/-- The PUA form by which the model names a stack's attach point and a host-I/O chiplet as points of a quiesce. -/
def attachPua (j : Nat) : Nat := channelPua j 0
/-- Host-I/O chiplet k: kind 9, which R6 does not use. -/
def hostPua (k : Nat) : Nat := mkPua 0 0 k 31 9 0
/-- The host-I/O chiplets of the variant (R511). -/
def hostChiplets (v : Variant) : List Nat := (List.range 8).filter fun k => (hostRouter v k).isSome
/-- The generation tables that acknowledge a load: Bridles of powered fields, attach points of reachable stacks, and
host-I/O chiplets. -/
def tableExpected (s : State) (t : Nat) : Bool :=
  if t < 19968 then decide (t / 4992 < s.variant.dies) && decide ((field s (ckField t)).power = 2)
  else if t < 20100 then decide (20000 ≤ t) && (stackKeys s).contains (t - 20000) &&
    !s.unreachable.contains (t - 20000)
  else (hostChiplets s.variant).contains (t - 20100)
/-- How many tables acknowledge. -/
def tablesExpected (s : State) : Nat :=
  832 * (fieldIdxs s).countP (fun f => (field s f).power = 2) +
    (stackKeys s).countP (fun j => !s.unreachable.contains j) + (hostChiplets s.variant).length
/-- The generation of a slice that a table holds: the old one until the table loads a new one (R171, R288). -/
def tableGeneration (s : State) (k table : Nat) : Nat :=
  match (slice s k).bind (·.teardown) with
  | some t => if t.step = 2 && !t.loaded.contains table then (generation s k + 255) % 256 else generation s k
  | none => generation s k
/-- Note an attach point that carried traffic of a slice (R289). -/
def carry (k point : Nat) (s : State) : State :=
  modSlice k (fun x => { x with carried := addHold point x.carried }) s
/-- Whether a slice's box spans dies, so that the Anchor runs its teardown (R288). -/
def spansDies (x : Slice) : Bool := decide (1 < x.extent.2.2)
/-- The points of a slice's quiesce (R289): its routers in powered fields, and the attach points that carried its
traffic. -/
def quiescePoints (s : State) (x : Slice) : List Nat :=
  ((boxLogicals s.variant x).filter fun l => (field s (l / 800)).power = 2).map (fun l =>
    clusterPua 1 (clusterKey (l / 800) (homeOfSite (l % 800)))) ++ x.carried

/-- What the Bridles kept for the LCNs of a slice's groups and replays ends with the slice. -/
def clearLcns (k : Nat) (s : State) : State :=
  let f := fun (r : LcnRec) => { r with
    groupEnds := [], draw := none, verdicts := [], makeUp := false, extraSample := false, extraContraction := false,
    short := false, lastMatch := none, lastReleased := none, first := none }
  { s with lcns := s.lcns.map fun e => if sliceOfLcn s e.1 = k then (e.1, f e.2) else e }
/-- End every command, replay and recovery of a slice's clusters; their holds of the teardown end (R288 step 5). -/
def clearClusters (k : Nat) (s : State) : State :=
  let of := fun p => sliceOfCluster s (puaClusterKey p) = k
  let mine := fun lcn => sliceOfLcn s lcn = k
  let cks := sliceClusters s k
  let s : State := { s with
    recomputes := s.recomputes.filter fun e => !mine (e.1 / 65536),
    tieBreaks := s.tieBreaks.filter fun e => !mine e.2.desc.lcn,
    thirds := s.thirds.filter fun e => !mine e.2.desc.lcn,
    cores := s.cores.map fun e =>
      let c := { e.2 with queue := e.2.queue.filter fun q => !mine q.lcn }
      if of e.1 then (e.1, { c with tile := none, heldTile := none, interrupted := none, finishing := none, withheld := false,
                                    sram := [], pins := [], arrivals := [], stalls := [] }) else (e.1, c) }
  -- a spare whose queue is empty now is Spare-Ready again (R149)
  let s := (s.units.filter fun e => e.2.state = .spareBusy).foldl (fun s e => spareMove e.1 s) s
  cks.foldl (fun s ck => freeCluster 10 ck (modCluster ck (fun c => { c with
    commands := [], sync := [], descriptors := [], adoptive := none, hang := none, restart := false,
    holds := c.holds.filter fun h => !([1, 2, 3, 5, 7].contains h) }) s)) (clearLcns k s)
/-- Step 5 of a teardown: the routers and clusters pass to slice 0x000 (R288), groups are recomputed (R304), memory
waits for its zero-fill (R291). -/
def endTeardown (k : Nat) (timedOut : Bool) (s : State) : State :=
  match slice s k with
  | none => s
  | some x => match x.teardown with
    | none => s
    | some t =>
      let took := pt s - t.quiesceFrom
      let fields := sliceFields s k
      let cks := sliceClusters s k
      let s := clearClusters k s
      let gone := (s.transfers.filter fun e => e.2.transfer.sourceSlice = k || e.2.transfer.destSlice = k).map (·.1)
      -- a transfer that ends leaves the checkers on its way (R175)
      let s : State := { s with
        transfers := s.transfers.filter fun e => !gone.contains e.1,
        follows := s.follows.filter fun e => !gone.contains e.1,
        inFlight := s.inFlight.filter fun e => !gone.contains e.2 }
      let s := recordAt (ownerDie s k) 0x2C05 packagePua k
        ([BitVec.ofNat 8 (generation s k), if timedOut then 1 else 0] ++ leBytes 4 took) s
      let s := modSlice k (fun x => { x with
        life := .ended, teardown := none, switches := [], pending := none, notices := [],
        zeroFill := x.zeroFill ++ x.memory, memory := [], carried := [] }) s
      let s := addObj (key 0x2C12 1) 1 (maxObj (key 0x2C12 3) took s)
      let s := if timedOut then addObj (key 0x2C12 2) 1 s else s
      let s := cks.foldl (fun s ck => assignAdoptive ck s) s
      let s := refreshIdle fields (refreshReservoirs fields (recomputeGroups false fields s))
      endShutdown (refreshRegions (syncQualifying s))
/-- The quiesce completes when every point's mark is in and the totals agree (R289). -/
def checkQuiesce (k : Nat) (s : State) : State :=
  match (slice s k).bind (·.teardown) with
  | none => s
  | some t =>
    if t.step = 3 && t.points.all (fun p => (tget t.marks p).isSome) &&
        (t.marks.map (·.2.1)).sum = (t.marks.map (·.2.2)).sum
    then endTeardown k false s else s
/-- Step 2 ends when every table has acknowledged; the quiesce begins (R288, R290). -/
def checkLoaded (k : Nat) (s : State) : State :=
  match (slice s k).bind (·.teardown) with
  | none => s
  | some t =>
    if t.step = 2 && decide (tablesExpected s ≤ (t.loaded.filter (tableExpected s)).length) then
      checkQuiesce k (modSlice k (fun x => { x with
        teardown := some { t with step := 3, quiesceFrom := pt s } }) s)
    else s
/-- Steps 1 and 2 of a teardown: issue stops, the tiles in progress are abandoned after a hang or poison, trace slots
of the slice stop (R415), the generation increments and is broadcast (R11, R288). -/
def beginTeardown (k : Nat) (s : State) : State :=
  match slice s k with
  | none => s
  | some x =>
    -- while the sequencer holds (R94) the increment waits
    if x.life = .ended || x.teardown.isSome || (spansDies x && !sequencerFree s) then s else
    let s := if x.life = .ending then s else stopSlice k s
    let cut := fun (e : Nat × Core) =>
      if x.abandon && sliceOfCluster s (puaClusterKey e.1) = k then (e.1, { e.2 with tile := none }) else e
    let s := { s with cores := s.cores.map cut }
    let s := stopSlots (fun _ t => t.owner = k) 4 s
    let s := if spansDies x then issuePosition s else s
    let s := { s with generations := tset s.generations k ((generation s k + 1) % 256) }
    checkLoaded k (modSlice k (fun y => { y with
      notices := [],
      teardown := some {
        step := 2, abandon := x.abandon, started := pt s, loaded := [], sent := [], marks := [],
        points := quiescePoints s x, quiesceFrom := 0, timedOut := false, quiesceTime := 0,
        spanning := spansDies x } }) s)

/-- SLICE_TEARDOWN (R288, R292): steps 1 and 2 of a slice's end. No teardown starts while an earlier one of the
slice runs. -/
def execSliceTeardown (dt k : Nat) (s : State) : Result := done (beginTeardown k (elapse dt s))

/-- GENERATION_LOAD_ACK (R171, R288): a generation table loads the new generation and acknowledges it. -/
def execGenerationLoadAck (dt k table : Nat) (s : State) : Result :=
  let s := elapse dt s
  let load := fun (t : Teardown) => if t.step = 2 then { t with loaded := addHold table t.loaded } else t
  done <| checkLoaded k (modSlice k (fun x => { x with teardown := x.teardown.map load }) s)

/-- QUIESCE_MARK_SEND (R289): a quiet point of the slice sends its mark with its counts. -/
def execQuiesceMarkSend (dt k : Nat) (point : Pua) (injected ejected : Nat) (s : State) : Result :=
  let s := elapse dt s
  let send := fun (t : Teardown) =>
    if t.step = 3 && t.points.contains point.toNat then
      { t with sent := tset t.sent point.toNat (injected, ejected) } else t
  done <| modSlice k (fun x => { x with teardown := x.teardown.map send }) s

/-- QUIESCE_MARK_ARRIVAL (R289): a mark reaches the owner. -/
def execQuiesceMarkArrival (dt k : Nat) (point : Pua) (s : State) : Result :=
  let s := elapse dt s
  let arrive := fun (t : Teardown) => match tget t.sent point.toNat with
    | some c => { t with sent := tdel t.sent point.toNat, marks := tset t.marks point.toNat c }
    | none => t
  done <| checkQuiesce k (modSlice k (fun x => { x with teardown := x.teardown.map arrive }) s)

/-- QUIESCE_TIMEOUT (R290): 100 µs after step 2 the owner ends a quiesce that has not completed. -/
def execQuiesceTimeout (dt k : Nat) (s : State) : Result :=
  let s := elapse dt s
  done <| match (slice s k).bind (·.teardown) with
  | none => s
  | some t => if t.step = 3 && t.quiesceFrom + 100000 ≤ pt s then endTeardown k true s else s

/-- ZERO_FILL_COMPLETE (R291): the attach of a stack has filled what the slice held there. When the slice's last fill
completes, each die that filled records its blocks, and regions that wait take the space (R366). -/
def execZeroFillComplete (dt k stack : Nat) (s : State) : Result :=
  let s := elapse dt s
  done <| match slice s k with
  | none => s
  | some x =>
    let now := x.zeroFill.filter fun m => m.1 = stack
    if now.isEmpty then s else
    let rest := x.zeroFill.filter fun m => m.1 ≠ stack
    let s := modSlice k (fun x => { x with zeroFill := rest }) s
    let s := (dieIdxs s).foldl (fun s d =>
      let n := ((now.filter fun m => m.1 / 16 = d).map (·.2)).sum
      let s := { s with dram := s.dram.filter fun e => !(e.1 / 2 ^ 40 = stack && sliceTag e.2 = k) }
      if 0 < n && !(rest.any fun m => m.1 / 16 = d) then recordAt d 0x2C08 packagePua k (leBytes 8 n) s else s) s
    refreshIdle [stack / 16 * 6 + (stackSites (stack % 16)).1] (refreshRegions s)
where
  /-- The slice id that a stored block carries in its side word (R162). -/
  sliceTag (b : DramBlock) : Nat := b.word.toNat / 2 ^ 8 % 4096

end Sys2Proof.Machine
end

