-- ==== Sys2Proof/Machine/Ripcord.lean ====
section
/-!
DEFINITION. Stopping and resetting (R276 to R299, R321), shared by the families: the Ripcord, dark fields, fenced
dies, resets of a domain and escalation.
-/
namespace Sys2Proof.Machine
open Sys2Proof

/-! ### Fields and dies out of service (R29, R32, R298, R321) -/

/-- The slices with a router in a field. -/
def fieldSlices (s : State) (f : Nat) : List Nat := groupSlices s [f]
/-- The commits into a field are abandoned: the quarantines that they carry stand (R262). -/
def dropFieldCommits (f : Nat) (s : State) : State :=
  let into := fun (b : Binding) => match b with
    | .core l _ _ | .swap l _ _ => l / 12800 = f
    | .cluster l _ _ _ => l / 800 = f
    | .around u => puaKind u = 1 && puaFieldIdx u = f
    | _ => false
  { s with commits := s.commits.map fun c => { c with bindings := c.bindings.filter fun b => !into b } }
/-- A point of a field that goes dark counts as quiet for every quiesce (R289). -/
def quietField (f : Nat) (s : State) : State :=
  { s with slices := s.slices.map fun e => (e.1, { e.2 with teardown := e.2.teardown.map fun t =>
      { t with points := t.points.filter fun p => !(puaKind p = 1 && puaFieldIdx p = f) } }) }
/-- A field goes dark (R321): issue held, rail off for the rest of the run, its record, a capacity event for
every slice with a router in it, its stacks unreachable (R29, R32). -/
def goDark (f : Nat) (s : State) : State :=
  if (field s f).power = 3 then s else
  let s := (runningSlots s f).foldl (fun s k => match (tget s.traces k).bind (traceCluster s) with
    | some ck => stopSlot k 5 (traceClusterEvent ck 2 s)
    | none => stopSlot k 5 s) s
  let s := railOff f 3 s
  let s := record 0x3002 (agentPua f) 0 [BitVec.ofNat 8 (f % 6), BitVec.ofNat 8 (field s f).phases.length] s
  let s := (fieldSlices s f).foldl (fun s k => capacityEvent (f / 6) k f 4 s) s
  let s := quietField f (dropFieldCommits f s)
  let s := (s.slices.map (·.1)).foldl (fun s k => checkQuiesce k s) s
  refreshErrors (refreshRegions (checkStacks (endInvalid f 0 s)))
/-- The Bridle of a cluster is charged with the decisive cause 0x17, and leaves with its control core (R228, R231, R236): from
Screening to Retired, else to Quarantined, where the hold pauses until the next start (R298). -/
def chargeBridle (ck : Nat) (s : State) : State :=
  let b := clusterPua 7 ck
  let move := fun (s : State) u =>
    if usable (stateOf s u) then
      modUnit u (fun r => { r with holdPaused := true }) (changeState u .quarantined 0x17 s)
    else if stateOf s u = .screening then changeState u .retired 0x17 s else s
  match stateOf s b with
  | .quarantined | .retired | .absent => s
  | _ => [b, clusterPua 6 ck].foldl move (countCause 0x17 b s)
/-- Every Bridle of a field is charged with cause 0x17 (R228, R298). -/
def quarantineBridles (f : Nat) (s : State) : State :=
  ((List.range 832).map (clusterKey f ·)).foldl (fun s ck => chargeBridle ck s) s
/-- Fence a field: it goes dark and its Bridles are Quarantined (R298). -/
def fenceField (f : Nat) (s : State) : State :=
  quarantineBridles f (goDark f (modField f (fun x => { x with fenced := true }) s))
/-- Fence a die: its six fields go dark (R298, R351, R353); the Anchor announces it. -/
def fenceDie (d : Nat) (bridles : Bool) (s : State) : State :=
  if (die s d).status = 2 then s else
  -- a fenced CD1 is no standby (R57, R60)
  let s := modDie d (fun x => { x with status := 2 }) { s with standby := s.standby && d ≠ 1 }
  let s := (List.range 6).foldl (fun s i =>
    let f := d * 6 + i
    if bridles then fenceField f s else goDark f (modField f (fun x => { x with fenced := true }) s)) s
  refreshError d (emcyEvent s.anchorDie 0xFF31 d s)

/-! ### The Ripcord (R293 to R296) -/

/-- The record of a Ripcord and the objects that it sets (code 0x2C03, R300). -/
def ripcordRecord (d kind reason stop target cause : Nat) (s : State) : State :=
  let s := setObjs [(key 0x2C13 3, reason), (key 0x2C13 4, stop)] s
  let e := { stamped s (if kind = 0 then s.anchorDie else d) .record 0 0x2C03 packagePua 0 d
    ([BitVec.ofNat 8 kind, BitVec.ofNat 8 reason] ++ leBytes 8 stop ++
      [BitVec.ofNat 8 target, BitVec.ofNat 8 cause]) with seqKeys := [(0, key 0x2C13 5)] }
  raiseLocal d e s
/-- A die acts on an emergency Ripcord: every cluster of it stops issue (R295), and its Gondola starts a capture
of what is still up, unless the cause leaves none (R296). -/
def actRipcord (d : Nat) (s : State) : State :=
  if s.ripcord.acted.contains d then s else
  let c := s.ripcord.cause
  let s := wakeGondola d { s with ripcord := { s.ripcord with acted := s.ripcord.acted ++ [d] } }
  let s := (List.range 6).foldl (fun s i => holdField 9 (d * 6 + i) s) s
  let x := die s d
  let none_ := c = 2 || c = 3 || ((c = 5 || c = 6) && s.ripcord.request = d)
  if none_ || x.fastReset || x.status = 3 then s else
  let up := ((List.range 6).map (d * 6 + ·)).filter fun f => (field s f).power = 2
  startCapture d 0xFF 7 2 (diePua d) (captureBlocks (832 * up.length) up.length 0)
    (up.map agentPua) (pt s) none s
/-- Fixed logic of die `d` asserts an emergency Ripcord (R295): the wire and the message go to every die, and the
event is recorded. It ends an orderly one at once (R296). `request` of the record names the die that asserted. -/
def emergency (d cause : Nat) (s : State) : State :=
  if s.ripcord.state = 3 then (if cause = 2 then voidCaptures s else s) else
  -- an orderly stop that has not reached its target leaves no end-of-run mark (R375, R380)
  let unmark := fun (x : Die) => if s.ripcord.reached then x else { x with endMark := 0 }
  let s := abortTest (cutTraces (voidCaptures { s with dies := s.dies.map unmark }))
  let s := { s with ripcord := { s.ripcord with
      state := 3, reason := 7, cause := cause, reached := false, wire := true, message := true, acted := [],
      request := d } }
  actRipcord d (ripcordRecord d 1 7 0 0 cause s)
/-- The Anchor sequences an orderly Ripcord and schedules its stop count (R293). `request` says what asked
for it; a stop under way stands. -/
def orderly (request target : Nat) (s : State) : State :=
  if s.ripcord.state ≠ 0 then s else
  let stop := changeCountAfter (pt s)
  let s := { s with ripcord := { s.ripcord with
      state := 1, reason := 6, stop := stop, target := target, cause := 0xFF, reached := false,
      request := request } }
  ripcordRecord s.anchorDie 0 6 stop target 0xFF s

/-! ### Resets (R279 to R285, R297, R298) -/

/-- The recovery time limits of R280 in ns. -/
def recoveryLimit (code : Nat) : Nat :=
  [500, 5000, 10000, 150000, 200000, 1200000, 3500000, 45000000].getD code 0 * 1000
/-- The request epoch of a Core Port (R282). -/
def coreEpoch (s : State) (p : Nat) : Nat := ((core s p).epoch + (field s (puaFieldIdx p)).epoch) % 4
/-- Descriptors whose blocks the replay core has not fetched become stale at the reset of their original core
(R283); replays run when they complete, so every queued one is such. -/
def staleDescriptors (of : Nat → Bool) (s : State) : State :=
  let f := fun (x : Descriptor) => if of x.original then { x with stale := true } else x
  { s with
    cores := s.cores.map fun e => (e.1, { e.2 with queue := e.2.queue.map f }),
    clusters := s.clusters.map fun e => (e.1, { e.2 with descriptors := e.2.descriptors.map f }) }
/-- A core in reset: its sequencer and what it runs are gone. `keep` keeps the streamer words and open records
(code 0, R280). -/
def clearCore (keep : Bool) (c : Core) : Core :=
  { c with tile := none, heldTile := none, interrupted := none, finishing := none, withheld := false,
           sram := if keep then c.sram else [], pins := [], arrivals := [], stalls := [], test := none,
           queue := c.queue }
/-- The tiles that the LCNs of a set of cores recompute or arbitrate end (R280). -/
def dropRecoveries (of : Nat → Bool) (s : State) : State :=
  { s with
    recomputes := s.recomputes.filter fun e => !of e.2.original,
    tieBreaks := s.tieBreaks.filter fun e => !of e.2.desc.original,
    thirds := s.thirds.filter fun e => !of e.2.desc.original }
/-- Reset one core (code 0). -/
def resetCore (p : Nat) (s : State) : State :=
  let s := modCore p (fun c => { clearCore true c with epoch := (c.epoch + 1) % 4 }) s
  syncCoreHolds (puaClusterKey p) (dropRecoveries (· == p) (staleDescriptors (· == p) s))
/-- Reset one cluster (code 1). -/
def resetCluster (ck : Nat) (s : State) : State :=
  let s := (coresOf ck).foldl (fun s p =>
    modCore p (fun c => { clearCore false c with epoch := (c.epoch + 1) % 4 }) s) s
  let s := dropRecoveries (puaClusterKey · == ck) (staleDescriptors (puaClusterKey · == ck) s)
  traceClusterEvent ck 0 (syncCoreHolds ck <| holdCluster 8 ck (modCluster ck (fun c => { c with sync := [], probed := none }) s))
/-- The clusters of a field that running slots trace. -/
def tracedClusters (s : State) (f : Nat) : List Nat :=
  ((runningSlots s f).filterMap fun k => (tget s.traces k).bind (traceCluster s)).eraseDups
/-- Reset every cluster of a field (codes 4 to 7). -/
def resetFieldClusters (f : Nat) (s : State) : State :=
  let s := (tracedClusters s f).foldl (fun s ck => traceClusterEvent ck 0 s) s
  let s := { s with
    cores := s.cores.map fun e => if puaFieldIdx e.1 = f then (e.1, clearCore false e.2) else e,
    clusters := s.clusters.map fun e => if ckField e.1 = f then
      (e.1, { e.2 with commands := [], restart := false, hang := none, sync := [], probed := none,
                       holds := e.2.holds.filter fun h => !([1, 2, 3, 4, 5].contains h) }) else e }
  let s := modField f (fun x => { x with epoch := (x.epoch + 1) % 4 }) s
  holdField 8 f (dropRecoveries (puaFieldIdx · == f) (staleDescriptors (puaFieldIdx · == f) s))

/-- The PUA that names the domain of `code` that holds unit `p` (R280). -/
def domainPua (code p : Nat) : Nat :=
  match code with
  | 0 => p
  | 1 => clusterPua 7 (puaClusterKey p)
  | 2 | 4 => agentPua (puaFieldIdx p)
  | 7 => packagePua
  | _ => diePua (puaDie p)
/-- The slices that a reset of code 4 or larger ends (R280). -/
def resetSlices (s : State) (code p : Nat) : List Nat :=
  let d := puaDie p
  (s.slices.filter fun e => sliceLive e.2 && (match code with
    | 4 => (sliceFields s e.1).contains (puaFieldIdx p)
    | 5 => (sliceFields s e.1).any fun f => f / 6 = d
    | 6 => (sliceFields s e.1).any (fun f => f / 6 = d) || e.2.memory.any fun m => m.1 / 16 = d
    | 7 => true
    | _ => false)).map (·.1)
/-- Reset every cluster of a die. -/
def resetDieClusters (d : Nat) (s : State) : State :=
  (List.range 6).foldl (fun s i => resetFieldClusters (d * 6 + i) s) s
/-- Start a reset of a domain (R280). A reset of code 4 or larger ends slices; the zero-fills of a die-full reset start
from their beginning (R291). A package-cold reset runs stages S3 to S8 again, and operational ports wait for S8
(R438). -/
def startReset (code p : Nat) (requested : Bool) (s : State) : State :=
  let run : ResetRun := ⟨code, s.now, requested, false⟩
  let s := (resetSlices s code p).foldl (fun s k => endSlice (if code = 7 then s.anchorDie else puaDie p) k s) s
  let d := puaDie p
  let ck := puaClusterKey p
  let f := puaFieldIdx p
  match code with
  | 0 => modCore p (fun c => { c with resetRun := some run }) (resetCore p s)
  | 1 => modCluster ck (fun c => { c with resetRun := some run }) (resetCluster ck s)
  | 2 => modField f (fun x => { x with resetRun := some run }) s
  | 3 => modDie d (fun x => { x with recovering := some s.now, resetRun := some run }) s
  | 4 => modField f (fun x => { x with resetRun := some run }) (resetFieldClusters f s)
  | 5 | 6 =>
    if code = 6 && s.variant = .dh100 then
      -- cross traffic is routed around the die first (R284)
      let s := requestCommit [.around (diePua d)] [] [] 0 s
      modDie d (fun x => { x with resetRun := some { run with draining := true } }) s
    else modDie d (fun x => { x with resetRun := some run }) (resetDieClusters d s)
  | _ =>
    let s := (dieIdxs s).foldl (fun s d => resetDieClusters d s) s
    let back := fun (x : Die) => if x.status = 1 then { x with
      stage := 2, stageDone := true, stageRan := true, service := x.service.pause s.now } else x
    let pre := fun (e : Nat × Port) =>
      if e.2.nmt = .operational then (e.1, { e.2 with nmt := .preOperational, wantOperational := true }) else e
    { s with packageReset := some run, dies := s.dies.map back, ports := s.ports.map pre }
/-- The clusters, Field Agents and routers in a capture of a domain (R276). -/
def captureSize (code : Nat) : Nat :=
  match code with
  | 1 => captureBlocks 1 0 0
  | 2 => captureBlocks 0 1 0
  | 4 => captureBlocks 832 1 0
  | 5 => captureBlocks 4992 6 0
  | 6 => captureBlocks 4992 6 4800
  | _ => 0
/-- Capture a domain before its reset, codes 1 to 6 (R276). -/
def captureDomain (code p reason : Nat) (e : Option Event) (s : State) : State :=
  if code = 0 || 6 < code then s
  else
    let inside := fun (t : TraceSlot) => match traceCluster s t with
      | some ck => (code = 1 && ck = puaClusterKey p) || (code = 4 && ckField ck = puaFieldIdx p) ||
          ((code = 5 || code = 6) && ckDie ck = puaDie p)
      | none => false
    let s := stopSlots (fun _ t => inside t && t.stopMask.testBit 1) 2 s
    startCapture (puaDie p) code reason 0 (domainPua code p) (captureSize code) [domainPua code p] (pt s) e s
/-- The key of a domain in a Gondola's reset counts (R297). -/
def domainKey (code p : Nat) : Nat := code * 2 ^ 32 + domainPua code p
/-- The service seconds of a die (R232). -/
def serviceNow (s : State) (d : Nat) : Nat := (die s d).service.read s.now / 1000000000
/-- The resets of a domain that lie in the escalation window (R297, R298). -/
def resetsWithin (s : State) (code p : Nat) : Nat :=
  let d := puaDie p
  ((tgetD (die s d).resets (domainKey code p) []).filter fun t =>
    decide (serviceNow s d < t + obj s (key 0x2C07 0) 3600)).length
/-- A domain goes out of service: 0x2C14 and its record (R298). -/
def noteOutOfService (code p : Nat) (s : State) : State :=
  let n := resetsWithin s code p
  let s := setObjs [(key 0x2C14 2, domainPua code p), (key 0x2C14 3, code)] (addObj (key 0x2C14 1) 1 s)
  -- the event is charged to the Bridles of the domain (R228)
  let e := { recordEvent s 0x2C04 (domainPua code p) 0 [BitVec.ofNat 8 code, BitVec.ofNat 8 n] with cause := 0x17 }
  raiseLocal e.die e s
/-- The Gondola of a die is taken out of service (R60, R298): with a standby the Anchor's duties move first; in the
DH-25, or when the last holder of the Anchor role is lost, an emergency Ripcord follows. -/
def gondolaOut (d : Nat) (s : State) : State :=
  if s.variant = .dh25 then emergency d 7 s
  else if s.anchorDie ≠ d then fenceDie d true s
  else if s.standby && d ≠ 1 && (die s 1).status = 1 then fenceDie d true (takeRole 0 s)
  else
    let s := fenceDie d true s
    match (dieIdxs s).find? fun e => (die s e).status = 1 with
    | some e => emergency e 4 s
    | none => s
/-- Count a decided reset of a domain (R297). -/
def countReset (code p : Nat) (s : State) : State :=
  let d := puaDie p
  let t := serviceNow s d
  modDie d (fun x => { x with resets := tmod x.resets (domainKey code p) [] fun l => (t :: l).take 16 }) s
/-- A package-cold reset that is needed (R285): the whole package resets and runs stages S3 to S8 again. -/
def decidePackage (p : Nat) (s : State) : State := startReset 7 p false (countReset 7 p s)
/-- A domain of code 1 to 6 needs a reset: it is captured and reset, or taken out of service when the escalation
count lies within the window (R297, R298). -/
def decideReset (code p reason : Nat) (e : Option Event) (s : State) : State :=
  if obj s (key 0x2C06 0) 3 ≤ resetsWithin s code p then
    let s := noteOutOfService code p s
    match code with
    | 1 =>
      let b := domainPua 1 p
      chargeUnit (stamped s (stampKeeper b) .charge 0x17 0 b 0 (puaDie b) []) s
    | 2 | 4 => fenceField (puaFieldIdx p) s
    | 3 => gondolaOut (puaDie p) (modDie (puaDie p) (fun x => { x with recovering := some s.now }) s)
    | _ => gondolaOut (puaDie p) s
  else startReset code p false (countReset code p (captureDomain code p reason e s))
/-- A core needs a reset: past the escalation count, its cluster is reset instead (R298). -/
def decideCoreReset (p : Nat) (s : State) : State :=
  if obj s (key 0x2C06 0) 3 ≤ resetsWithin s 0 p then decideReset 1 p 1 none s
  else startReset 0 p false (countReset 0 p s)
/-- The next larger domain after a reset failure (R285). -/
def nextDomain (code : Nat) : Nat := if code = 0 then 1 else if code = 1 then 4 else if code = 2 then 4 else code + 1

end Sys2Proof.Machine
end

