-- ==== Sys2Proof/Machine/Hangs.lean ====
section
/-!
DEFINITION. Commands and progress, hangs, resets and the Ripcord (R265 to R299): the commands of this family that no
access path brings.
-/
namespace Sys2Proof.Machine
open Sys2Proof

/-! ### Commands and progress (R265 to R270) -/

/-- The hang mode in force for a slice: 0 progress window, 1 timeout (R270). -/
def hangMode (s : State) (k : Nat) : Nat :=
  let o := sobj s k (key 0x2C01 1) 0xFF
  if o ≠ 0xFF then o else match slice s k with
    | some x => obj s (key 0x2C00 (x.role + 1)) ([0, 0, 0, 1, 1].getD x.role 0)
    | none => 0
/-- A progress event of a cluster (R266): the progress window starts again. -/
def progressEvent (ck : Nat) (s : State) : State :=
  let t := bridleTime s ck
  syncWindow ck (modCluster ck (fun c => { c with lastProgress := t, window := ⟨0, none⟩ }) s)
/-- The timeout of a command in ns (R265). -/
def commandTimeoutNs (s : State) (c : Command) : Nat :=
  (if c.timeout = 0 then obj s (key 0x2C03 0) 100 else c.timeout) * 1000000
/-- A tile of a command starts on a core: the Bridle's timer stops and the Core Port's starts (R269). -/
def commandTile (ck id core : Nat) (s : State) : State :=
  let f := fun (o : OpenCommand) => if o.command.id = id then
    { o with started := true, timer := o.timer.pause s.now, cores := tset o.cores core (tgetD o.cores core ⟨0, none⟩) }
    else o
  syncWindow ck (modCluster ck (fun c => { c with commands := c.commands.map f }) s)

/-- COMMAND_ACCEPT (R265, R269, R270): a control core accepts a command; its timer starts in the mode in force. -/
def execCommandAccept (dt : Nat) (cluster_ : Pua) (command : Command) (s : State) : Result :=
  let s := elapse dt s
  let ck := puaClusterKey cluster_.toNat
  let k := sliceOfCluster s ck
  let first := (cluster s ck).commands.isEmpty
  let o : OpenCommand := {
    command := command, timer := ⟨0, none⟩, started := false, cores := [],
    timeoutMode := decide (hangMode s k = 1), waiting := command.externalWait }
  let s := modCluster ck (fun c => { c with commands := c.commands ++ [o] }) s
  let s := if first then modCluster ck (fun c => { c with window := ⟨0, none⟩ }) s else s
  let s := traceEvent ck 5 command.id 1 (countCluster ck 0x0101 1 s)
  done (syncWindow ck s)

/-- COMMAND_COMPLETE (R266): a command completes, which is a progress event and stops its timers. -/
def execCommandComplete (dt : Nat) (cluster_ : Pua) (id : Nat) (s : State) : Result :=
  let s := elapse dt s
  let ck := puaClusterKey cluster_.toNat
  done <| if (cluster s ck).commands.any (fun o => o.command.id = id) then
    let s := modCluster ck (fun c => { c with commands := c.commands.filter fun o => o.command.id ≠ id }) s
    let s := traceEvent ck 5 (2 ^ 35 + id) 1 (countCluster ck 0x0102 1 s)
    progressEvent ck s
  else s

/-- SYNC_OBJECT_SIGNAL (R266, R267): an object on which the cluster waits is signalled: a progress event, and the
external-wait pause of its timers ends. -/
def execSyncObjectSignal (dt : Nat) (cluster_ : Pua) (object : Nat) (s : State) : Result :=
  let s := elapse dt s
  let ck := puaClusterKey cluster_.toNat
  let s := modCluster ck (fun c => { c with
    sync := tmod c.sync object 0 fun n => (n + 1) % 2 ^ 32,
    commands := c.commands.map fun o => { o with waiting := false } }) s
  let s := traceEvent ck 6 (2 * 2 ^ 35 + object % 64) 1 (countCluster ck 0x0104 1 s)
  done (progressEvent ck s)

/-! ### Declaring a hang (R268, R269, R273) -/

/-- The hang event of a cluster (R273, code 0x2C06): `code` is 0 in a repeated report, which is the same event and
leaves no second record. -/
def hangEvent (s : State) (ck code : Nat) (h : Nat × Nat) : Event :=
  let k := sliceOfCluster s ck
  let b := clusterPua 7 ck
  let e := stamped s (stampKeeper b) .hang 0 code b k (ckDie ck)
    ([1, BitVec.ofNat 8 (hangMode s k)] ++ leBytes 4 h.2 ++ leBytes 8 h.1 ++ leBytes 4 0xFFFFFFFF)
  { e with seqKeys := if code = 0 then [] else [(k, key 0x2C11 4)] }
/-- The Bridle declares a cluster hang (R273): it holds issue, stops the command timers and reports. -/
def declareHang (ck : Nat) (s : State) : State :=
  let c := cluster s ck
  if c.hang.isSome then s else
  let k := sliceOfCluster s ck
  let h := (c.lastProgress, (c.commands.head?.map (·.command.id)).getD 0)
  let s := modCluster ck (fun c => { c with hang := some h, hangReported := s.now }) (holdCluster 7 ck s)
  let s := syncWindow ck s
  let s := setSobjs k [(key 0x2C11 1, clusterPua 7 ck), (key 0x2C11 2, h.2)] (addSobj k (key 0x2C10 1) 1 s)
  let s := modSlice k (fun x => { x with hangs := tset x.hangs ck (pt s) }) s
  raise (clusterPua 7 ck) (hangEvent s ck 0x2C06 h) (stopTraced ck 0 1 s)

/-- PROGRESS_WINDOW_EXPIRY (R268): the progress window passes without progress while a command is open. -/
def execProgressWindowExpiry (dt : Nat) (cluster_ : Pua) (s : State) : Result :=
  let s := elapse dt s
  let ck := puaClusterKey cluster_.toNat
  let c := cluster s ck
  done <| if c.commands.any (fun o => !o.timeoutMode) &&
      decide (obj s (key 0x2C02 0) 10 * 1000000 ≤ c.window.read s.now) then declareHang ck s else s

/-- COMMAND_TIMEOUT (R269): the Bridle's timer (`core` none) or that of a physical core reaches the timeout: a cluster
hang, or a core hang and its reset while the cluster still makes progress. -/
def execCommandTimeout (dt : Nat) (cluster_ : Pua) (id : Nat) (core : Option Nat) (s : State) : Result :=
  let s := elapse dt s
  let ck := puaClusterKey cluster_.toNat
  let c := cluster s ck
  done <| match c.commands.find? fun o => o.command.id = id && o.timeoutMode with
  | none => s
  | some o =>
    let limit := commandTimeoutNs s o.command
    if c.hang.isSome then s else
    match core with
    | none => if !o.started && decide (limit ≤ o.timer.read s.now) then declareHang ck s else s
    | some i => match tget o.cores i with
      | none => s
      | some w =>
        if w.read s.now < limit then s
        else if limit ≤ c.window.read s.now then declareHang ck s
        else
          let k := sliceOfCluster s ck
          let p := corePua ck i
          let head := (c.commands.head?.map (·.command.id)).getD id
          let payload := [0, BitVec.ofNat 8 (hangMode s k)] ++ leBytes 4 head ++ leBytes 8 c.lastProgress ++ leBytes 4 p
          let e := { stamped s (stampKeeper p) .record 0 0x2C06 p k (ckDie ck) payload with
            seqKeys := [(k, key 0x2C11 4)] }
          let s := setSobjs k [(key 0x2C11 1, clusterPua 7 ck), (key 0x2C11 2, id), (key 0x2C11 3, 3)]
            (addSobj k (key 0x2C10 1) 1 s)
          let again := fun (x : OpenCommand) => if x.command.id = id then
            { x with cores := tset x.cores i ⟨0, none⟩ } else x
          let s := modCluster ck (fun c => { c with commands := c.commands.map again }) s
          syncWindow ck (decideCoreReset p (raise p e s))

/-- HANG_REPORT_REPEAT (R273): the Bridle repeats its report every 10 ms until a decision is acknowledged. -/
def execHangReportRepeat (dt : Nat) (cluster_ : Pua) (s : State) : Result :=
  let s := elapse dt s
  let ck := puaClusterKey cluster_.toNat
  let c := cluster s ck
  done <| match c.hang with
  | none => s
  | some h =>
    if s.now < c.hangReported + 10000000 then s
    else raise (clusterPua 7 ck) (hangEvent s ck 0 h)
      (modCluster ck (fun c => { c with hangReported := s.now }) s)

/-! ### Handling a hang (R271, R273) -/

/-- The clusters of a slice whose hang was declared within the window of R271. -/
def hungClusters (s : State) (k : Nat) : List Nat :=
  match slice s k with
  | none => []
  | some x =>
    let w := if hangMode s k = 1 then obj s (key 0x2C03 0) 100 * 1000000 else obj s (key 0x2C02 0) 10 * 1000000
    (x.hangs.filter fun e => decide (pt s ≤ e.2 + w)).map (·.1)
/-- A slice hang (R271): every cluster of the slice is captured, none is reset, the slice ends. -/
def sliceHang (k : Nat) (hung : List Nat) (e : Event) (s : State) : State :=
  let cks := sliceClusters s k
  let order := hung ++ cks.filter fun c => !hung.contains c
  let s := (dieIdxs s).foldl (fun s d =>
    let mine := order.filter fun c => ckDie c = d
    match mine with
    | [] => s
    | c :: _ =>
      let s := mine.foldl (fun s c => stopTraced c 1 2 s) s
      startCapture d 1 2 0 (clusterPua 7 c) (captureBlocks mine.length 0 0) (mine.map (clusterPua 7)) (pt s)
        (some e) s) s
  let s := recordVia (puaDie e.pua) (ownerDie s k) 0x2C07 packagePua k (leBytes 2 hung.length)
    (addObj (key 0x2C10 4) 1 (setSobj k (key 0x2C11 3) 2 s))
  let s := hung.foldl (fun s c => modCluster c (fun x => { x with hang := none }) s) s
  endSlice (puaDie e.pua) k (modSlice k (fun x => { x with abandon := true, hangs := [] }) s)
/-- The commands of a hung cluster: a checkpointable head restarts after the reset, else all are discarded and
reported (R273 steps 4 and 5). -/
def settleCommands (ck k : Nat) (s : State) : State :=
  let c := cluster s ck
  match c.commands with
  | [] => s
  | o :: _ =>
    if o.command.checkpointable && c.resetRun.isSome then
      modCluster ck (fun c => { c with restart := true }) (setSobj k (key 0x2C11 3) 0 s)
    else
      let n := c.commands.length
      let s := modCluster ck (fun c => { c with commands := [], restart := false }) s
      let s := traceEvent ck 5 (3 * 2 ^ 35 + o.command.id) 1 s
      let s := setSobj k (key 0x2C11 3) 1 (addSobj k (key 0x2C10 3) n s)
      recordAt (ckDie ck) 0x2C11 (clusterPua 7 ck) k (leBytes 4 o.command.id ++ leBytes 4 n) s

/-- HANG_HANDLING (R271, R273, R298): the Gondola takes a hang event from the head of its handling queue. While
the classification handling of the Bridle is open the event only leaves the queue, and the Bridle repeats it
(R299). -/
def execHangHandling (dt d : Nat) (s : State) : Result :=
  let s := elapse dt s
  done <| if (die s d).recovering.isSome then s else
  match (die s d).handling with
  | [] => s
  | e :: _ =>
    if e.kind ≠ .hang then s else
    let s := popHandling d s
    let ck := puaClusterKey e.pua
    let k := sliceOfCluster s ck
    if (cluster s ck).hang.isNone || (unitRec s e.pua).open_ then s else
    let hung := hungClusters s k
    if k ≠ 0 && obj s (key 0x2C04 0) 8 ≤ hung.length then sliceHang k hung e s
    else
      let s := modCluster ck (fun c => { c with hang := none }) s
      settleCommands ck k (decideReset 1 e.pua 0 (some e) s)

/-! ### Captures and the cut (R278, R293, R294, R375) -/

/-- After the cut, when every die's capture is written: the end-of-run marks are set and every slice ends (R294,
R375). -/
def afterCut (s : State) : State :=
  if s.ripcord.state = 2 && s.dies.all (·.capturing.isEmpty) then
    let mark := fun (x : Die) => { x with endMark := s.ripcord.target }
    let s := { s with dies := s.dies.map mark }
    endShutdown ((s.slices.filter fun e => sliceLive e.2).foldl (fun s e => endSlice s.anchorDie e.1 s) s)
  else s

/-- CAPTURE_COMPLETE (R278): the header of a die's oldest capture in progress is written and the capture recorded. -/
def execCaptureComplete (dt d : Nat) (s : State) : Result :=
  let s := elapse dt s
  done <| match (die s d).capturing with
  | [] => s
  | c :: rest =>
    let c := { c with valid := true }
    let s := modDie d (fun x => { x with capturing := rest, captures := x.captures ++ [c] }) s
    let s := captureRecord d c s
    if c.code = 0xFF && c.reason = 6 then afterCut s else s

/-- Whether a commit carries a quarantine (R293). -/
def carriesQuarantine (s : State) (c : Commit) : Bool :=
  !c.quarantines.isEmpty || c.units.any fun u => stateOf s u = .quarantined
/-- Commits at the stop count: those that carry a quarantine land, the others are abandoned (R293). -/
def cutCommits (stop : Nat) (s : State) : State :=
  (s.commits.filter fun c => stop ≤ c.count || !c.scheduled).foldl (fun s c =>
    if carriesQuarantine s c then landCommit c s
    else
      let s := { s with commits := s.commits.filter fun x => x.id ≠ c.id }
      c.units.foldl (fun s u => setOpen u false s) s) s
/-- Resets in progress stop at the stop count (R299); a Gondola's recovery runs on. -/
def stopResets (s : State) : State :=
  { s with
    cores := s.cores.map fun e => (e.1, { e.2 with resetRun := none }),
    clusters := s.clusters.map fun e => (e.1, { e.2 with resetRun := none }),
    fields := s.fields.map fun x => { x with resetRun := none },
    dies := s.dies.map fun x => { x with resetRun := x.resetRun.filter fun r => r.code = 3 },
    packageReset := none }

/-- STOP_COUNT_CUT (R293): at S + 32 every cluster stops issue; `landed` flits land after the cut. -/
def execStopCountCut (dt landed : Nat) (s : State) : Result :=
  let s := elapse dt s
  done <| if s.ripcord.state ≠ 1 || pt s < s.ripcord.stop + 32 then s else
  let stop := s.ripcord.stop
  let s := { s with
    ripcord := { s.ripcord with state := 2 },
    changes := s.changes.filter fun c => decide (c.count < stop) }
  let s := cutCommits stop (stopResets s)
  let s := (fieldIdxs s).foldl (fun s f => holdField 9 f s) s
  let s := stopSlots (fun _ t => t.stopMask.testBit 2) 3 s
  let s := (dieIdxs s).foldl (fun s d =>
    if (die s d).status ≠ 1 then s else
    let up := ((List.range 6).map (d * 6 + ·)).filter fun f => (field s f).power = 2
    startCapture d 0xFF 6 (if 0 < landed then 1 else 0) (diePua d)
      (captureBlocks (832 * up.length) 6 (800 * up.length)) (up.map agentPua) stop none s) s
  let seq := obj s (key 0x2C13 5) 0
  let s := { s with dies := s.dies.map fun x => { x with capturing := x.capturing.map fun c =>
      if c.code = 0xFF then { c with position := seq } else c } }
  afterCut s

/-- RIPCORD_ARRIVAL (R43): the wire or the message reaches a die, which acts on whichever comes first. -/
def execRipcordArrival (dt d : Nat) (_byWire : Bool) (s : State) : Result :=
  let s := elapse dt s
  done (if s.ripcord.state = 3 then actRipcord d s else s)

/-! ### Resets (R279 to R285) -/

/-- The record of a reset and its count (code 0x2C02, 0x2C09). -/
def resetRecord (r : ResetRun) (p outcome : Nat) (s : State) : State :=
  let us := (s.now - r.started) / 1000
  record 0x2C02 (domainPua r.code p) 0
    ([BitVec.ofNat 8 r.code, if r.requested then 1 else 0, BitVec.ofNat 8 outcome] ++ leBytes 4 us)
    (addObj (key 0x2C09 (r.code + 1)) 1 s)
/-- The reset that runs in a domain. -/
def runningReset (s : State) (code p : Nat) : Option ResetRun :=
  match code with
  | 0 => (core s p).resetRun
  | 1 => (cluster s (puaClusterKey p)).resetRun
  | 2 | 4 => (field s (puaFieldIdx p)).resetRun.filter fun r => r.code = code
  | 3 | 5 | 6 => (die s (puaDie p)).resetRun.filter fun r => r.code = code && !r.draining
  | 7 => s.packageReset
  | _ => none
/-- The LCNs of a field go on at the next multiple of 32 (R144, R283). -/
def cutField (f : Nat) (s : State) : State :=
  let g := fun (e : Nat × LcnRec) => if e.1 / 12800 = f then (e.1, e.2.cut) else e
  { s with lcns := s.lcns.map g }
/-- The clusters of a field return: issue is released (R279), their LCNs go on (R283). -/
def returnField (f : Nat) (s : State) : State :=
  let s := freeField 8 f (cutField f s)
  (tracedClusters s f).foldl (fun s ck => traceClusterEvent ck 1 s) s
/-- End a running reset's mark. -/
def endRun (code p : Nat) (s : State) : State :=
  match code with
  | 0 => modCore p (fun c => { c with resetRun := none }) s
  | 1 => modCluster (puaClusterKey p) (fun c => { c with resetRun := none }) s
  | 2 | 4 => modField (puaFieldIdx p) (fun x => { x with resetRun := none }) s
  | 7 => { s with packageReset := none }
  | _ => modDie (puaDie p) (fun x => { x with resetRun := none, recovering := if code = 3 then none else x.recovering }) s
/-- Restart the commands of a cluster whose head is checkpointable (R273 step 4, R274). A head that does not meet R274
leaves results undefined (R275). -/
def restartCommands (ck : Nat) (s : State) : State :=
  let c := cluster s ck
  let k := sliceOfCluster s ck
  let ending := match slice s k with
    | some x => x.life == .ending || x.life == .ended
    | none => true
  match c.commands with
  | [] => s
  | o :: _ =>
    if !c.restart || ending then s else
    let fresh := fun (o : OpenCommand) => { o with timer := ⟨0, none⟩, started := false, cores := [] }
    let s := modCluster ck (fun c => { c with restart := false, commands := c.commands.map fresh }) s
    let s := traceEvent ck 5 (2 * 2 ^ 35 + o.command.id) 1 (addSobj k (key 0x2C10 2) 1 s)
    if o.command.meetsR274 then s else enterCase 275 s
/-- The grants of the paths that a die serves end (R460), and open transfers are lost (R463). -/
def endGrants (d : Nat) (s : State) : State :=
  let f := fun (e : Nat × PathState) =>
    let mine := if e.1 < 8 then e.1 / 2 = d else (e.1 - 8) / 256 = d
    if mine then (e.1, { e.2 with session := .none, grants := [], lease := 0, nonce := none, sdo := none }) else e
  { s with paths := s.paths.map f }
/-- What the return of a domain does besides ending its reset. -/
def returnDomain (code p : Nat) (s : State) : State :=
  let d := puaDie p
  match code with
  | 1 =>
    let ck := puaClusterKey p
    let s := freeCluster 8 ck (freeCluster 7 ck (cutProgress ck s))
    progressEvent ck (restartCommands ck (traceClusterEvent ck 1 s))
  | 3 =>
    let s := (List.range 6).foldl (fun s i => freeField 6 (d * 6 + i) s) s
    emcyEvent d 0xFF61 d (endGrants d s)
  | 4 => returnField (puaFieldIdx p) s
  | 5 | 6 => (List.range 6).foldl (fun s i => returnField (d * 6 + i) s) s
  | 7 => (fieldIdxs s).foldl (fun s f => returnField f s) s
  | _ => s
/-- Whether a domain can return now: a cluster needs its image (R366), the package every die at S8. -/
def canReturn (s : State) (code p : Nat) : Bool :=
  match code with
  | 1 => tget (die s (puaDie p)).regions 0 != some none
  | 7 => s.dies.all fun x => x.status != 1 || atS8 x
  | _ => true

/-- A domain returns within its recovery time (R280, R285). -/
def completeReset (p code : Nat) (s : State) : State :=
  match runningReset s code p with
  | none => s
  | some r =>
    if r.started + recoveryLimit code < s.now || !canReturn s code p then s
    else returnDomain code p (endRun code p (resetRecord r p 0 s))

/-- RESET_TIMEOUT (R285): a domain does not return within its recovery time, and the next larger domain is reset. -/
def execResetTimeout (dt : Nat) (domain : Pua) (code : Nat) (s : State) : Result :=
  let s := elapse dt s
  let p := domain.toNat
  done <| match runningReset s code p with
  | none => s
  | some r =>
    if s.now < r.started + recoveryLimit code || (code = 1 && !canReturn s code p) then s else
    -- a recovering Gondola decides nothing; the failed reset waits (R62)
    if code ≠ 3 && code ≠ 7 && (die s (puaDie p)).recovering.isSome then s else
    let s := endRun code p (resetRecord r p 1 s)
    match code with
    | 3 => gondolaOut (puaDie p) (noteOutOfService 3 p
        (modDie (puaDie p) (fun x => { x with recovering := some r.started }) s))
    | 6 => decidePackage p s
    | 7 => { s with dies := s.dies.map fun x => if x.status = 1 then { x with status := 3 } else x }
    | _ => decideReset (nextDomain code) p 4 none s

/-- TRANSIT_DRAIN_END (R284): the transit channels of a die are empty or 1 ms has passed since the routes around it landed, and its
reset begins. -/
def execTransitDrainEnd (dt d : Nat) (s : State) : Result :=
  let s := elapse dt s
  done <| match (die s d).resetRun with
  | some r => if r.draining && !s.commits.any (fun c => c.bindings.contains (.around (diePua d))) then
      modDie d (fun x => { x with resetRun := some { r with draining := false, started := s.now } })
        (resetDieClusters d s) else s
  | none => s

/-! ### The RM's own units (R57 to R62, R272) -/

/-- BRIDLE_PROBE (R272): the Field Agent probes a Bridle. -/
def execBridleProbe (dt : Nat) (bridle : Pua) (s : State) : Result :=
  let s := elapse dt s
  done (modCluster (puaClusterKey bridle.toNat) (fun c => { c with probed := some s.now }) s)

/-- BRIDLE_PROBE_TIMEOUT (R272): no answer within 10 µs, and the cluster is reset. -/
def execBridleProbeTimeout (dt : Nat) (bridle : Pua) (s : State) : Result :=
  let s := elapse dt s
  let ck := puaClusterKey bridle.toNat
  done <| match (cluster s ck).probed with
  | none => s
  -- a recovering Gondola captures and resets nothing (R62)
  | some t => if t + 10000 ≤ s.now && (die s (puaDie bridle.toNat)).recovering.isNone && (cluster s ck).resetRun.isNone then
      decideReset 1 bridle.toNat 3 none (modCluster ck (fun c => { c with probed := none }) s) else s

/-- FIELD_AGENT_HEARTBEAT_TIMEOUT (R272): 1 ms without heartbeat, and the Field Agent is reset. -/
def execFieldAgentHeartbeatTimeout (dt : Nat) (agent : Pua) (s : State) : Result :=
  let s := elapse dt s
  let p := agent.toNat
  done <| if (field s (puaFieldIdx p)).resetRun.isSome || (field s (puaFieldIdx p)).fenced then s
  -- a recovering Gondola captures and resets nothing (R62)
  else if (die s (puaDie p)).recovering.isSome then s
  else decideReset 2 p 3 none s

/-- A Gondola's control cores stop and it recovers, or is taken out of service (R62, R280, R298). -/
def gondolaFault (d : Nat) (s : State) : State :=
  if (die s d).status ≠ 1 || (die s d).recovering.isSome then s else decideReset 3 (diePua d) 3 none s

/-- GONDOLA_WATCHDOG_TIMEOUT (R272): 10 ms without a watchdog write. -/
def execGondolaWatchdogTimeout (dt d : Nat) (s : State) : Result := done (gondolaFault d (elapse dt s))

/-- LOCKSTEP_DISAGREEMENT (R61, R62): the lockstep cores of a Gondola disagree. In the DH-25 fixed logic holds issue in
every field until it has recovered. -/
def execLockstepDisagreement (dt d : Nat) (s : State) : Result :=
  let s := elapse dt s
  let s := if s.variant = .dh25 then (fieldIdxs s).foldl (fun s f => holdField 6 f s) s else s
  done (gondolaFault d s)

/-- LOCKSTEP_FAULT_NOTICE (R57 to R60): the standby takes over the Anchor role and CD0's Gondola recovers. A standby whose own
Gondola recovers still takes the role, which its fixed logic holds (notes/assumptions/179.md). -/
def execLockstepFaultNotice (dt : Nat) (s : State) : Result :=
  let s := elapse dt s
  done <| if s.standby && s.anchorDie = 0 && s.variant = .dh100 && (die s 1).status = 1 then gondolaFault 0 (takeRole 0 s) else s

end Sys2Proof.Machine
end

