-- ==== Sys2Proof/Machine/Supply.lean ====
section
/-!
DEFINITION. Tray inputs and supplies (R332 to R340, R488 to R490): latches, chattering, supply states, suspended
writes, the always-on and fast-domain supplies.
-/
namespace Sys2Proof.Machine
open Sys2Proof

/-! ### Tray inputs (R332 to R335): 0 COOLANT_OK, 1 TRAY_STOP_N, 2 PWR48_GOOD; true is the good level -/

/-- One tray input of a die. -/
def trayInput (s : State) (d i : Nat) : TrayInput := (die s d).tray.getD i TrayInput.reset
/-- Change it. -/
def modTray (d i : Nat) (f : TrayInput → TrayInput) (s : State) : State :=
  modDie d (fun x => { x with tray := x.tray.modify i f }) s
/-- The state of an input as 0x3060 shows it: 0 good, 1 fault, 2 chattering, 3 latched after return. -/
def trayState (x : TrayInput) : Nat :=
  if x.chattering then 2 else if !x.level && x.latched then 1 else if x.latched then 3 else if x.level then 0 else 1
/-- Whether an orderly stop has reached retention or off: the removal of the 48 V input is then expected (R339). -/
def stopReached (s : State) : Bool := s.ripcord.state == 2 && s.ripcord.reached && decide (2 ≤ s.ripcord.target)
/-- Some latch is set (R334). -/
def latchSet (s : State) : Bool := s.dies.any fun x => x.tray.any (·.latched)
/-- An accepted or chattering fault latches, is recorded and stops the package (R332 to R335). Before S1 nothing
runs that a Ripcord could stop. -/
def trayFault (d i : Nat) (s : State) : State :=
  if i = 2 && stopReached s then s
  else
    let new := !(trayInput s d i).latched
    let s := modTray d i (fun x => { x with latched := true }) s
    if (die s d).stage = 0 then s else
    let s := if new then
        emcyEvent d 0xFF21 i (record 0x3003 (diePua d) 0
          [BitVec.ofNat 8 i, BitVec.ofNat 8 (trayState (trayInput s d i)), 0] s) else s
    match i with
    | 0 => emergency d 0 s
    | 1 => orderly 1 (obj s (key 0x3062 0) 2) s
    | _ => emergency d 2 s
/-- Each copy of an input that differs from every other Gondola's copy keeps the moment at which that began (R335). -/
def refreshDiffers (i : Nat) (s : State) : State :=
  (dieIdxs s).foldl (fun s d =>
    let mine := (trayInput s d i).level
    let others := (dieIdxs s).filter (· ≠ d)
    let apart := !others.isEmpty && others.all fun e => (trayInput s e i).level != mine
    modTray d i (fun x => { x with differs := if apart then some (x.differs.getD s.now) else none }) s) s

/-- TRAY_INPUT_CHANGE (R333): a raw transition. More than 2 within 10 ms are chattering, which counts at once as the
fault level. -/
def execTrayInputChange (dt d i : Nat) (level : Bool) (s : State) : Result :=
  let s := elapse dt s
  let x := trayInput s d i
  done <| if x.raw = level then s else
  let s := wakeGondola d s
  let recent := s.now :: x.transitions.filter fun t => decide (s.now < t + 10000000)
  let s := modTray d i (fun x => { x with raw := level, changed := s.now, transitions := recent.take 3 }) s
  if 2 < recent.length && !x.chattering then
    trayFault d i (modTray d i (fun x => { x with chattering := true }) s)
  else s

/-- TRAY_INPUT_ACCEPT (R332): the input has been stable for 100 µs and its new level is accepted. An input that stands at its
fault level from power-up is accepted as a fault, but for PWR48_GOOD before the end of S0, which waits for it (R347, R490). -/
def execTrayInputAccept (dt d i : Nat) (s : State) : Result :=
  let s := elapse dt s
  let x := trayInput s d i
  let known := x.raw = x.level && (x.level || x.latched || (i = 2 && (die s d).stage = 0))
  done <| if known || s.now < x.changed + 100000 then s else
  let s := refreshDiffers i (modTray d i (fun x => { x with level := x.raw }) s)
  if x.raw then s else trayFault d i s

/-- CHATTER_END (R333): 100 ms without a raw transition. -/
def execChatterEnd (dt d i : Nat) (s : State) : Result :=
  let s := elapse dt s
  let x := trayInput s d i
  done <| if x.chattering && decide (x.changed + 100000000 ≤ s.now) then
    modTray d i (fun x => { x with chattering := false, transitions := [] }) s else s

/-- INPUT_MISMATCH_TIMEOUT (R335): a copy has differed from the others for more than 10 ms. -/
def execInputMismatchTimeout (dt d i : Nat) (s : State) : Result :=
  let s := elapse dt s
  let x := trayInput s d i
  done <| match x.differs with
  | none => s
  | some t =>
    if s.now < t + 10000000 then s
    else record 0x3006 (diePua d) 0 [BitVec.ofNat 8 i, if x.level then 1 else 0]
      (modTray d i (fun x => { x with differs := none }) s)

/-! ### The 48 V input (R336, R337, R339) -/

/-- A die's supply state changes; the Anchor announces it (R336). -/
def setSupply (d new : Nat) (s : State) : State :=
  let x := die s d
  if x.supply = new then s else
  let s := modDie d (fun x => { x with supply := new, coresAwake := true }) s
  refreshErrors (record 0x3004 (diePua d) 0
    ([BitVec.ofNat 8 x.supply, BitVec.ofNat 8 new] ++ leBytes 2 x.vin) s)
/-- Suspend the die's non-volatile writes: records that wait go to always-on SRAM (R337, R392). -/
def suspendWrites (d : Nat) (s : State) : State :=
  if (die s d).suspended then s else
  let now := keeperRead s d
  let s := modDie d (fun x => { x with suspended := true, resumeSince := none, reel := queueToHold now x.reel }) s
  refreshError d (addObj (key 0x3073 0) 1 s)
/-- What the 48 V input below 40.0 V and below 38.0 V does (R336); a self-test stops at once below 38.0 V (R380). -/
def lowInput (d mv : Nat) (s : State) : State :=
  if stopReached s then s else
  let s := modDie d (fun x => { x with vin := mv }) s
  if mv < 38000 then
    let s := setSupply d 3 (suspendWrites d s)
    if testing s then reachTarget (abortTest s) else orderly 2 2 s
  else if mv < 40000 then setSupply d (max 2 (die s d).supply) (suspendWrites d s)
  else s
/-- Since when a reading has stood at or above a release level. -/
def heldSince (now : Nat) (ok : Bool) (t : Option Nat) : Option Nat := if ok then some (t.getD now) else none

/-- VIN_POLL (R336): the 1 ms poll of READ_VIN, the lowest value of the die's controllers. -/
def execVinPoll (dt d mv : Nat) (s : State) : Result :=
  let s := elapse dt s
  done <| if stopReached s then s else
  let s := modDie d (fun x => { x with
    vin := mv,
    supplySince := heldSince s.now (decide (42500 ≤ mv)) x.supplySince,
    resumeSince := heldSince s.now (decide (40500 ≤ mv)) x.resumeSince }) s
  if mv < 42000 && (die s d).supply = 0 then setSupply d 1 s else s

/-- SUPPLY_STATE_RELEASE (R336): at least 42.5 V for 1 s ends the supply warning. -/
def execSupplyStateRelease (dt d : Nat) (s : State) : Result :=
  let s := elapse dt s
  done <| match (die s d).supplySince with
  | some t => if t + 1000000000 ≤ s.now && (die s d).supply = 1 then setSupply d 0 s else s
  | none => s

/-- WRITE_SUSPEND_RELEASE (R336, R337, R392): at least 40.5 V for 10 ms: writes resume, and held records come
before any newer one. -/
def execWriteSuspendRelease (dt d : Nat) (s : State) : Result :=
  let s := elapse dt s
  done <| match (die s d).resumeSince with
  | none => s
  | some t =>
    if s.now < t + 10000000 || !(die s d).suspended then s else
    let s := modDie d (fun x => { x with suspended := false, reel := startRecord false x.reel }) s
    -- supply state 3 has no release
    let new := if (die s d).supply = 3 then 3 else min 1 (die s d).supply
    refreshError d (endLosses d (setSupply d new s))

/-! ### The Gondola's own supplies (R340, R488 to R490) -/

/-- AON_SUPPLY_FALL (R340): the always-on supply has stood below its trip value for 10 µs. -/
def execAonSupplyFall (dt d : Nat) (s : State) : Result :=
  let s := elapse dt s
  done <| if !(die s d).vaon then s else
  emergency d 5 (modDie d (fun x => { x with vaon := false, aonLost := true, service := x.service.pause s.now }) s)

/-- VFAST_FALL (R489): VFAST has stood below its trip value for 10 µs. After an orderly stop to retention or off it is
expected; else the die has lost its fast domain and the other Gondolas treat it as a recovery that fails. -/
def execVfastFall (dt d : Nat) (s : State) : Result :=
  let s := elapse dt s
  done <| if !(die s d).vfast then s else
  let s := stopKeeper d (modDie d (fun x => { x with
    vfast := false, fastReset := true, service := x.service.pause s.now }) s)
  if s.ripcord.state = 2 && 2 ≤ s.ripcord.target then s else
  let s := emergency d 6 s
  if s.variant = .dh25 then s else gondolaOut d (noteOutOfService 3 (diePua d) s)

/-- FAST_DOMAIN_RESET_RELEASE (R71, R78, R490): VAON has been within limits for 1 ms and VFAST is; the fast domain runs. After
retention its keeper goes on from its coarse count; one that lost its always-on supply counts freely from 0. -/
def execFastDomainResetRelease (dt d : Nat) (s : State) : Result :=
  let s := elapse dt s
  let x := die s d
  done <| if !x.vaon || s.now < x.vaonAt + 1000000 || !x.fastReset then s else
  let ran := x.stage = 0 && x.stageRan && !x.stageDone
  let s := modDie d (fun x => { x with vfast := true, fastReset := false, stage := 0, stageDone := false, stageRan := ran }) s
  let s := if x.aonLost then modKeeper d (fun _ => { Keeper.reset with since := s.now }) s else s
  if s.reference then startKeeper d s else s

/-- ALWAYS_ON_SUPPLY_RISE (R340, R490): VAON reaches its range: stage S0 checks always-on SRAM. Where its check word fails,
latches, escalation counts and the lost-record counter start from zero, and the stored service seconds apply. -/
def execAlwaysOnSupplyRise (dt d : Nat) (s : State) : Result :=
  let s := elapse dt s
  done <| if (die s d).vaon then s else
  let fresh := (die s d).aonLost
  let s := modDie d (fun x => { x with
    vaon := true, vaonAt := s.now, stage := 0, stageDone := false, stageRan := false, fastReset := true, vfast := false }) s
  if !fresh then s else
  modDie d (fun x => { x with
    tray := x.tray.map (fun t => { t with latched := false }), resets := [], endMark := 0,
    service := ⟨x.serviceSaved * 1000000000, none⟩,
    reel := { x.reel with lost := 0, lastLost := 0, losing := none, hold := [] } }) s

end Sys2Proof.Machine
end

