-- ==== Sys2Proof/Machine/Power.lean ====
section
/-!
DEFINITION. Field power (R301 to R324): voltage settling, the power limit, droop stretches, load notices and
reservoirs, regulator phases, ramps and idle fields.
-/
namespace Sys2Proof.Machine
open Sys2Proof

/-! ### The weak-core swap (R224 to R226) -/

/-- The number of a list's entries at or below a code, `n` of them the manufacture entry `d`. -/
def entriesUpTo (own : List Nat) (d n c : Nat) : Nat := own.countP (· ≤ c) + if d ≤ c then n else 0
/-- Test a slice at its step: swap the one core that holds it back for its cluster's spare, or recommend the swap
(R224). -/
def weakSwap (k : Nat) (s : State) : State :=
  let e := match sliceFields s k with
    | f :: _ => (field s f).step
    | [] => 0
  let mine := s.fmax.filterMap fun x => match lcnOfCore s x.1 with
    | some l => if sliceOfLcn s l = k then some (x.1, l, x.2.current.getD e 0xFF) else none
    | none => none
  let own := (mine.map (·.2.2)).filter (· ≤ 28)
  let d := FmaxRec.manufacture.current.getD e 28
  let n := sliceCores s k - mine.length
  let total := own.length + n
  let low := (List.range 29).find? fun c => 0 < entriesUpTo own d n c
  let median := (List.range 29).find? fun c => (total - 1) / 2 < entriesUpTo own d n c
  match low, median, mine.find? (fun x => some x.2.2 = low) with
  | some lo, some mid, some w =>
    if mid ≤ lo + 2 || entriesUpTo own d n lo ≠ 1 then s else
    -- a swap of W that waits for its commit answers the test
    if (unitRec s w.1).open_ then s else
    let ck := puaClusterKey w.1
    let sp := (coresOf ck).find? fun p => isSpare (stateOf s p) && !(unitRec s p).open_ && !pendingSpare s p
    match sp with
    | none => publishSwap w.2.1 w.1 (corePua ck 16) 1 s
    | some p =>
      if !(fmaxRec s p).slow && fmaxEntry s p e ≤ 28 && lo + 2 ≤ fmaxEntry s p e && !(cluster s ck).swapped &&
          obj s (key 0x2804 1) 1 = 1 && bindingsValid s [.swap w.2.1 w.1 p]
      then requestCommit [.swap w.2.1 w.1 p] [] [w.1, p] 0x1D (setOpen w.1 true s)
      else publishSwap w.2.1 w.1 p 1 s
  | _, _, _ => s

/-! ### Voltages (R302, R306, R307) -/

/-- Some field of a group still moves to a higher voltage, or back to its step. -/
def raisesPending (s : State) (fs : List Nat) : Bool :=
  fs.any fun f => match (field s f).raising with
    | some e => decide ((field s f).step ≤ e)
    | none => false
/-- Once no field of a group moves, the group's step stands (R307). -/
def settleGroup (fs : List Nat) (s : State) : State :=
  if fs.any fun g => (field s g).raising.isSome || (field s g).targetStep.isSome then s
  else fs.foldl (fun s g => modField g (fun x => { x with back := none }) s) s

/-- A field's rail has come to step `e`: the screens in the field may ask for a second margin test there (R215). -/
def screenStep (f e : Nat) (s : State) : State :=
  let note := fun (u : Nat × Screen) => if puaFieldIdx u.1 = f && u.2.margin.any (· ≠ e) && !u.2.second
    then (u.1, { u.2 with moved := some e }) else u
  { s with screens := s.screens.map note }
/-- REGULATOR_SETTLED (R306): the controller has settled at the voltage that was written. -/
def execRegulatorSettled (dt f : Nat) (s : State) : Result :=
  let s := elapse dt s
  done <| match (field s f).raising with
  | none => s
  | some e =>
    let mv := codeMillivolt (stepCode s e)
    let changed := decide ((field s f).step ≠ e)
    let s := modField f (fun x => { x with step := e, raising := none, millivolt := mv }) s
    let fs := stepGroup s f
    let s := settleGroup fs (lowerVoltages fs (if changed then screenStep f e (discardMargin f s) else s))
    let moving := fs.any fun g => (field s g).raising.isSome || (field s g).targetStep.isSome
    -- the last field of the group has come to the new step (R224)
    if changed && !moving then (groupSlices s fs).foldl (fun s k => weakSwap k s) s else s

/-- A field goes back to the step from which its group's move began (R307): its previous code is written, and where it had
already settled it moves back. -/
def writeBack (f : Nat) (s : State) : State :=
  let x := field s f
  let b := x.back.getD x.step
  if x.back.isNone && x.raising.isNone then modField f (fun x => { x with targetStep := none }) s
  else
    let moved := decide (x.step ≠ b)
    let s := if s.ripcord.state = 3 then s else discardMargin f (emit (.voltage f (codeMillivolt (stepCode s b))) s)
    modField f (fun x => { x with
      raising := if moved then some b else none, back := none, raisedAt := s.now, targetStep := none }) s

/-- SETTLE_TIMEOUT (R307): no settled report within 150 µs. The previous code is written back, the group keeps its
previous step and its slices their frequencies, and the event counts at 0x3017. -/
def execSettleTimeout (dt f : Nat) (s : State) : Result :=
  let s := elapse dt s
  let x := field s f
  done <| if x.raising.isNone || s.now < x.raisedAt + 150000 then s else
  let old := x.back.getD x.step
  let fs := stepGroup s f
  let s := fs.foldl (fun s g => writeBack g s) (addObj (key 0x3017 0) 1 s)
  (groupSlices s fs).foldl (fun s k => match slice s k with
    | none => s
    | some y =>
      let keep := match y.want with
        | some w => if y.freq < w.1 then none else some w
        | none => none
      let s := modSlice k (fun y => { y with want := keep }) s
      setSobjs k [(key 0x3011 1, (keep.map (·.1)).getD y.freq), (key 0x3011 2, old)] s) s

/-! ### The package power limit (R310) -/

/-- The package power in mW: every field core rail, every die's DRAM rails and the fixed allowance (R310). -/
def packagePower (s : State) : Nat :=
  ((fieldIdxs s).map fun f => let x := field s f; if x.power = 1 || x.power = 2 then x.millivolt * x.ampere else 0).sum +
    ((dieIdxs s).map fun d => (die s d).dramPower).sum +
    obj s (key 0x3004 2) (if s.variant = .dh100 then 2400 else 700) * 1000
/-- The 10 ms mean in W (0x3005:01). -/
def powerMean (s : State) : Nat := s.powerHistory.sum / (max 1 s.powerHistory.length) / 1000
/-- The slice with the highest energy in the last ten intervals; the lowest id where two are equal. -/
def costliestSlice (s : State) : Option Nat :=
  (s.slices.filter fun e => e.2.life == .running).foldl (fun best e => match best with
    | none => some e.1
    | some b => if ((slice s b).map (·.recent.sum)).getD 0 < e.2.recent.sum then some e.1 else some b) none
/-- Recompute the groups of a slice. -/
def recomputeSlice (required : Bool) (k : Nat) (s : State) : State := recomputeGroups required (sliceFields s k) s
/-- Add one reduction code to the costliest slice. -/
def addPowerCode (s : State) : State :=
  match costliestSlice s with
  | none => s
  | some k =>
    let s := modSlice k (fun x => { x with powerCodes := x.powerCodes + 1 }) { s with powerStack := k :: s.powerStack }
    recomputeSlice true k (addObj (key 0x3005 2) 1 s)
/-- Remove one code from the most recently reduced slice. -/
def removePowerCode (s : State) : State :=
  match s.powerStack.filter fun k => (slice s k).any fun x => sliceLive x && 0 < x.powerCodes with
  | [] => { s with powerStack := [] }
  | k :: r =>
    let s := modSlice k (fun x => { x with powerCodes := x.powerCodes - 1 }) { s with powerStack := r }
    recomputeSlice false k s

/-- POWER_SUM_TICK (R310): the Anchor sums the package power and compares the 10 ms mean with the limit. -/
def execPowerSumTick (dt : Nat) (s : State) : Result :=
  let s := elapse dt s
  let t := pt s
  let s := { s with powerHistory := (packagePower s :: s.powerHistory).take 10 }
  let full := decide (10 ≤ s.powerHistory.length)
  let sum := s.powerHistory.sum
  let limit := obj s (key 0x3004 1) (if s.variant = .dh100 then 24000 else 6500) * 10000
  let above := full && decide (limit < sum)
  let low := full && decide (sum * 100 < limit * 95)
  let s := if !above then { s with powerOverFrom := none } else
    match s.powerOverFrom with
    | none => addPowerCode { s with powerOverFrom := some t }
    | some t0 => if t0 + 10000000 ≤ t then addPowerCode { s with powerOverFrom := some t } else s
  let s := if !low then { s with powerLowFrom := none } else
    match s.powerLowFrom with
    | none => { s with powerLowFrom := some t }
    | some t0 => if t0 + 100000000 ≤ t then removePowerCode { s with powerLowFrom := some t } else s
  done { s with slices := s.slices.map fun e => (e.1, { e.2 with recent := (0 :: e.2.recent).take 10 }) }

/-! ### Drogue (R311 to R313) -/

/-- The count of a field's keeper. -/
def fieldTime (s : State) (f : Nat) : Nat := keeperRead s (fieldKeeper f)
/-- The changes whose window from C − 2,000 ns to C holds time `t` and for which a field is armed (R84). -/
def armedIn (s : State) (f t : Nat) : Bool :=
  s.changes.any fun c => c.mask.testBit f && c.acked.contains f && decide (c.count ≤ t + 2000) && decide (t ≤ c.count)
/-- DROOP_TRIP (R311, R312): a detector trips; the stretch starts, or goes on. A stretch while the field is armed
asserts the change-hold line (R84) and discards a margin test (R217). -/
def execDroopTrip (dt f : Nat) (s : State) : Result :=
  let s := elapse dt s
  let x := field s f
  done <| if x.power ≠ 1 && x.power ≠ 2 then s else
  let t := fieldTime s f
  let s := if armedIn s f t then { s with changeHold := addHold f s.changeHold } else s
  if x.stretch.isSome then s else
  addObj (key 0x3021 (f + 1)) 1 (discardMargin f (modField f (fun x => { x with stretch := some t }) s))

/-- STRETCH_END (R311): every detector has read above the threshold plus 5 mV for 200 ns; a stretch lasts at least
200 ns. -/
def execStretchEnd (dt f : Nat) (s : State) : Result :=
  let s := elapse dt s
  let t := fieldTime s f
  done <| match (field s f).stretch with
  | none => s
  | some t0 =>
    if t < t0 + 200 then s else
    let s := if armedIn s f t then { s with changeHold := addHold f s.changeHold } else s
    modField f (fun x => { x with
      stretch := none, stretchStart := t0, stretchEnd := t, stretchTotal := x.stretchTotal + (t - max t0 x.windowStart) }) s

/-- The reduction codes that sustained droop holds against a slice. -/
def droopCodesOf (s : State) (k : Nat) : Nat := ((slice s k).map (·.droopCodes)).getD 0
/-- STRETCH_DUTY_WINDOW (R313): a 100 ms window closes. A duty above 2 % raises a sustained-droop event and adds one
code, up to 4, to every slice with clusters in the field. -/
def execStretchDutyWindow (dt f : Nat) (s : State) : Result :=
  let s := elapse dt s
  let x := field s f
  let t := fieldTime s f
  let span := t - x.windowStart
  done <| if span < 100000000 then s else
  let open_ := match x.stretch with
    | some t0 => t - max t0 x.windowStart
    | none => 0
  let total := x.stretchTotal + open_
  let low := decide (total * 1000 < 5 * span)
  let s := modField f (fun x => { x with
    duty := total * 1000 / span, stretchTotal := 0, windowStart := t,
    lowSince := if low then some (x.lowSince.getD x.windowStart) else none }) s
  if total * 100 ≤ 2 * span then s else
  let ks := groupSlices s [f]
  let more := ks.filter fun k => droopCodesOf s k < 4
  let s := more.foldl (fun s k => modSlice k (fun y => { y with droopCodes := y.droopCodes + 1 }) s) s
  let held := (ks.map (droopCodesOf s)).foldl max 0
  let s := raise (agentPua f) (recordEvent s 0x3005 (agentPua f) 0
    (leBytes 1 (f % 6) ++ leBytes 2 (field s f).duty ++ leBytes 1 held)) (addObj (key 0x3023 0) more.length s)
  recomputeGroup true f s

/-- DROOP_CODE_RELEASE (R313): the duty has stayed below 0.5 % for 600 s; one code is removed. -/
def execDroopCodeRelease (dt f : Nat) (s : State) : Result :=
  let s := elapse dt s
  let t := fieldTime s f
  done <| match (field s f).lowSince with
  | none => s
  | some t0 =>
    if t < t0 + 600000000000 then s else
    let s := modField f (fun x => { x with lowSince := some t }) s
    let s := (groupSlices s [f]).foldl (fun s k =>
      modSlice k (fun y => { y with droopCodes := y.droopCodes - 1 }) s) s
    recomputeGroup false f s

/-! ### Load notices and reservoirs (R314 to R318, R501) -/

/-- Whether a mailbox holds Observer class for a slice (R15, R453): it is bound to it, or its session is of a class
that reads across all slices. -/
def mailboxObserves (s : State) (m k : Nat) : Bool :=
  ((mailbox s m).bound = k && k ≠ 0) ||
    match sessionOf s (.mailbox m) with
    | .operator | .service | .maker => true
    | _ => false
/-- Whether a notice lies in the ranges of R315. -/
def noticeInRange (n : LoadNotice) : Bool :=
  1 ≤ n.slice && n.slice ≤ 0xFFE && n.direction ≤ 1 && n.mask % 64 ≠ 0 &&
    25 ≤ n.amount && n.amount ≤ 1575 && n.amount % 25 = 0 &&
    100 ≤ n.lead && n.lead ≤ 102300 && n.lead % 100 = 0
/-- LOAD_NOTICE (R315): fixed logic checks a notice and forwards it within 2 µs. The lead of the frame is less by the
time to the frame's last edge, which is free, and is rounded down (R501). -/
def execLoadNotice (dt m : Nat) (n : LoadNotice) (s : State) : Result :=
  let s := elapse dt s
  let d := m / 256
  let fs := ((List.range 6).filter fun i => n.mask.testBit i).map (d * 6 + ·)
  let late := fun f => match (field s f).lastNotice with
    | some t => decide (s.now < t + 10000)
    | none => false
  done <| if !noticeInRange n || !mailboxObserves s m n.slice ||
      fs.any (fun f => !(sliceFields s n.slice).contains f || late f) then addObj (key 0x3034 0) 1 s
  else
    let (w, s) := takeNat s
    let units := max 1 ((n.lead - (1280 + w % 721)) / 100)
    let body := n.direction * 2 ^ 20 + n.amount / 25 * 2 ^ 14 + units * 16 + 1
    let s := fs.foldl (fun s f => addObj (key 0x3032 (f + 1)) 1 (modField f (fun x => { x with
      lastNotice := some s.now, announced := if n.direction = 1 then some s.now else x.announced }) s)) s
    if fs.length = 6 then emit (.loadNotice d (lnFrame 7 body)) s
    else fs.foldl (fun s f => emit (.loadNotice d (lnFrame (f % 6) body)) s) s

/-- What a receiver makes of a LOAD_NOTICE frame: type, the fields, direction, amount in A and lead in ns; none where
the check fails or the field is reserved (R316, R501). -/
def lnDecode (d : Nat) (frame : BitVec 32) : Option (Nat × List Nat × Nat × Nat × Nat) :=
  let v := frame.toNat
  let f := v / 2 ^ 29
  if (crc8 (leBytes 3 (v / 256)).reverse).toNat ≠ v % 256 then none
  else if f = 6 then none
  else some (v / 256 % 16, if f = 7 then (List.range 6).map (d * 6 + ·) else [d * 6 + f],
    v / 2 ^ 28 % 2, v / 2 ^ 22 % 64 * 25, v / 2 ^ 12 % 1024 * 100)
/-- LN_LOAD_NOTICE (R316): a controller receives a type 0x1 frame and pre-positions its phases. -/
def execLnLoadNotice (dt d : Nat) (frame : BitVec 32) (s : State) : Result :=
  let s := elapse dt s
  done <| match lnDecode d frame with
  | some (1, fs, dir, amp, lead) =>
    if amp = 0 || lead = 0 then s else
    fs.foldl (fun s f => modField f (fun x => { x with positioned := some (dir == 1, amp, s.now + lead) }) s) s
  | _ => s
/-- LN_RESERVOIR_ARM (R318): a type 0x2 frame arms a reservoir that is not recharging. -/
def execLnReservoirArm (dt d : Nat) (frame : BitVec 32) (s : State) : Result :=
  let s := elapse dt s
  done <| match lnDecode d frame with
  | some (2, fs, _) => if s.variant = .dh25 then s else fs.foldl (fun s f =>
      modField f (fun x => if x.reservoir = 0 then { x with reservoir := 1 } else x) s) s
  | _ => s
/-- LN_RESERVOIR_DISARM (R318): a type 0x3 frame disarms a reservoir. -/
def execLnReservoirDisarm (dt d : Nat) (frame : BitVec 32) (s : State) : Result :=
  let s := elapse dt s
  done <| match lnDecode d frame with
  | some (3, fs, _) => if s.variant = .dh25 then s else fs.foldl (fun s f =>
      modField f (fun x => if x.reservoir = 1 then { x with reservoir := 0 } else x) s) s
  | _ => s
/-- LOAD_STEP (R314, R317): a rise of more than 200 A within 20 µs counts when no notice announced it within the
preceding 100 µs. -/
def execLoadStep (dt f rise within : Nat) (s : State) : Result :=
  let s := elapse dt s
  let told := match (field s f).announced with
    | some t => decide (s.now ≤ t + 100000)
    | none => false
  done (if rise ≤ 200 || 20000 < within || told then s else addObj (key 0x3033 (f + 1)) 1 s)
/-- RESERVOIR_DISCHARGE (R318): the rail falls 15 mV below the setpoint and an armed reservoir supplies current; then it
recharges and is not armed. -/
def execReservoirDischarge (dt f below : Nat) (s : State) : Result :=
  let s := elapse dt s
  done (if s.variant = .dh25 || (field s f).reservoir ≠ 1 || below < 15 then s else
    addObj (key 0x3031 (f + 1)) 1 (modField f (fun x => { x with reservoir := 2, reservoirAt := s.now }) s))
/-- RESERVOIR_RECHARGE_END (R318): after 250 µs the reservoir may be armed again. -/
def execReservoirRechargeEnd (dt f : Nat) (s : State) : Result :=
  let s := elapse dt s
  let x := field s f
  done (if x.reservoir ≠ 2 || s.now < x.reservoirAt + 250000 then s else
    refreshReservoirs [f] (modField f (fun x => { x with reservoir := 0 }) s))

/-! ### Regulator phases (R319 to R321) -/

/-- The current limit of a field with n working phases in A (R320, 0x3041). -/
def currentLimit (n : Nat) : Nat := 50 * (n - 2)
/-- Set a field's phase cap to one below `e`; below E0 the field goes dark (R320). -/
def lowerPhaseCap (f e : Nat) (s : State) : State :=
  if e = 0 then goDark f s
  else refreshErrors (modField f (fun x => { x with phaseCap := e - 1 }) s)
/-- What one more failed phase does to a field with `n` phases left (R320). -/
def phaseLoss (f n : Nat) (s : State) : State :=
  let x := field s f
  if x.power = 3 || 22 ≤ n then s
  else if n < 16 then goDark f s
  else lowerPhaseCap f (if x.phaseCap ≠ 0xFF then x.phaseCap else if x.power = 2 then x.step else groupStep s (stepGroup s f)) s
/-- After a lowering lands, a field whose 10 ms mean current exceeds its limit loses one more step (R320). -/
def checkPhaseCurrents (fs : List Nat) (s : State) : State :=
  fs.foldl (fun s f =>
    let x := field s f
    let mean := x.amperes.sum / max 1 x.amperes.length
    if x.phaseCap ≠ 0xFF && x.power = 2 && currentLimit x.phases.length < mean
    then recomputeGroup true f (lowerPhaseCap f x.phaseCap s) else s) s

/-- PHASE_FAILURE (R319): a controller sheds a failed phase and asserts LN_ALERT_N; fixed logic latches the alert and wakes
the fast domain. -/
def execPhaseFailure (dt f phase : Nat) (s : State) : Result :=
  let s := elapse dt s
  done <| if !(field s f).phases.contains phase then s else
  let s := modField f (fun x => { x with
    phases := x.phases.filter (· ≠ phase), failed := x.failed ++ [phase] }) s
  wakeGondola (f / 6) (modDie (f / 6) (fun x => { x with alertLatched := true }) s)
/-- The Gondola reads a field's phase status: each failed phase is charged with cause 0x16 and R320 applies (R319). -/
def readPhases (f : Nat) (s : State) : State :=
  let lost := (field s f).failed
  if lost.isEmpty then s else
  let d := f / 6
  let s := modField f (fun x => { x with failed := [] }) s
  let left := (field s f).phases.length
  let s := (List.range lost.length).foldl (fun s i =>
    let p := mkPua d (f % 6) 0x3FF 31 5 (lost.getD i 0)
    phaseLoss f (left + (lost.length - 1 - i)) (raiseLocal d (stamped s d .charge 0x16 0 p 0 d []) s)) s
  if (field s f).phaseCap = 0xFF || (field s f).power = 3 then s else recomputeGroup true f s
/-- LN_ALERT (R319, R336): the alert is latched and the Gondola reads the controllers of its die: failed phases, and
the input voltage below its warning and fault limits. -/
def execLnAlert (dt d vin : Nat) (s : State) : Result :=
  let s := elapse dt s
  let s := (List.range 6).foldl (fun s i => readPhases (d * 6 + i) s) s
  done (lowInput d vin (modDie d (fun x => { x with alertLatched := false }) s))
/-- UNDERVOLTAGE_TIMEOUT (R321): an output undervoltage warning of more than 100 µs at the capped step: the field goes
dark. -/
def execUndervoltageTimeout (dt f : Nat) (s : State) : Result :=
  let s := elapse dt s
  let x := field s f
  done (if (x.power = 1 || x.power = 2) && x.phaseCap ≠ 0xFF && x.step ≤ x.phaseCap then goDark f s else s)

/-! ### Powering fields on and off (R322 to R324) -/

/-- Power a field on: the controller is enabled at E0 with every cluster clock-gated, then raised to the step of its
group (R322). While a tray latch is set no rail rises (R334). -/
def powerOn (f : Nat) (s : State) : State :=
  let x := field s f
  if x.power ≠ 0 || latchSet s then s else
  let s := emit (.rail f true) (holdField 11 f s)
  let s := modField f (fun x => { x with
    power := 1, step := 0, group := 0, releases := [], rampWait := s.now, lastRelease := s.now, idleSince := none,
    windowStart := fieldTime s f, stretchTotal := 0, duty := 0 }) s
  let s := if s.reference then startKeeper (fieldKeeper f) s else s
  let s := writeVoltage f 0 s
  let e := groupStep s (stepGroup s f)
  if e = 0 then s else writeVoltage f e s
/-- The other running fields of a field's step group. -/
def otherRunning (s : State) (f : Nat) : List Nat :=
  (stepGroup s f).filter fun g => g ≠ f && (field s g).power = 2
/-- The creation of a slice completes when no field of its box ramps (R323). -/
def completeCreation (k : Nat) (s : State) : State :=
  let ramping := (sliceFields s k).any fun f => (field s f).power < 2
  modSlice k (fun x => if x.life = .creating && !ramping then { x with life := .running } else x) s
/-- The ramp of a field ends: the cap of its group returns and slices may issue (R322, R323, R344). -/
def endRamp (f : Nat) (s : State) : State :=
  let s := modField f (fun x => { x with power := 2 }) s
  let s := (groupSlices s [f]).foldl (fun s k => refreshFreq k s) (setFieldFreq 400 f s)
  let s := (stepGroup s f).foldl (fun s g => modField g (fun x => { x with rampCap := 15 }) s) s
  let s := freeField 11 f (recomputeGroup false f s)
  let s := (groupSlices s [f]).foldl (fun s k => completeCreation k s) s
  refreshErrors (refreshIdle [f] (refreshReservoirs [f] s))
/-- RELEASE_GROUP (R322): the next of eight groups is released at least 20 µs after the previous one, with at least
140 A of headroom; after the lowering of R323 the headroom is not asked. -/
def execReleaseGroup (dt f headroom : Nat) (s : State) : Result :=
  let s := elapse dt s
  let x := field s f
  let lowered := (otherRunning s f).any fun g => decide ((field s g).step ≤ (field s g).rampCap && (field s g).rampCap < 15)
  done <| if x.power ≠ 1 || x.raising.isSome || s.now < x.lastRelease + 20000 || (headroom < 140 && !lowered) then s
  else
    let s := modField f (fun x => { x with
      group := x.group + 1, releases := x.releases ++ [s.now], lastRelease := s.now, rampWait := s.now }) s
    if x.group + 1 < 8 then s else endRamp f s
/-- RAMP_HEADROOM_TIMEOUT (R323): no headroom for 50 ms: the other running fields of the step group lower by one step,
or the wait is counted at 0x3018. -/
def execRampHeadroomTimeout (dt f : Nat) (s : State) : Result :=
  let s := elapse dt s
  let x := field s f
  done <| if x.power ≠ 1 || s.now < x.rampWait + 50000000 then s else
  let s := modField f (fun x => { x with rampWait := s.now }) s
  match otherRunning s f with
  | [] => addObj (key 0x3018 0) 1 s
  | g :: gs =>
    let low := (field s g).step - 1
    recomputeGroup true f ((g :: gs).foldl (fun s h => modField h (fun x => { x with rampCap := low }) s) s)

/-- IDLE_HOLD_EXPIRY (R324): the idle hold has passed and every condition has held: the routes around the field are requested as
a commit. Its clusters are held and its rail goes off as that commit lands. Whether a committed route needs the field is tested here
only (notes/assumptions/196.md). -/
def execIdleHoldExpiry (dt f : Nat) (s : State) : Result :=
  let s := elapse dt s
  let x := field s f
  let hold := obj s (key 0x3016 0) 10
  done <| if hold = 0 || x.power ≠ 2 || s.commits.any (fun c => c.bindings.contains (.around (agentPua f))) then s else
  match x.idleSince with
  | none => s
  | some t =>
    if s.now < t + hold * 1000000000 || !fieldIdle s f then s else requestCommit [.around (agentPua f)] [] [] 0 s

end Sys2Proof.Machine
end

