-- ==== Sys2Proof/Machine/Thermal.lean ====
section
/-!
DEFINITION. The die diode and the thermal conditions (R325 to R331), and energy per slice (R341 to R343).
-/
namespace Sys2Proof.Machine
open Sys2Proof

/-- Change the thermal state of a die. -/
def modThermal (d : Nat) (f : Thermal → Thermal) (s : State) : State :=
  modDie d (fun x => { x with thermal := f x.thermal }) s
/-- The field coefficient θ of field i of a die, in 1/16 °C per kW (0x3056). -/
def theta (s : State) (i : Nat) : Nat := obj s (key 0x3056 (i + 1)) ([96, 96, 160, 160, 224, 224].getD i 0)
/-- Σ θ_f × P̄_f of a die in 1/1600 °C; `filtered` holds 2,000 times the filtered power in mW (R326). -/
def powerRise (s : State) (d : Nat) : Int :=
  ((List.range 6).map fun i => (theta s i : Int) * 100 * (field s (d * 6 + i)).filtered / 2000000000).sum
/-- The model estimate of the diode in 1/1600 °C (R326). -/
def modelEstimate (s : State) (d : Nat) : Int := (die s d).thermal.tBase + powerRise s d
/-- T16 in 1/256 °C: the newest mean (R325). -/
def Thermal.t16 (x : Thermal) : Int := x.means.headD 0
/-- The rate of rise in 1/256 °C per 0.1 s, once 101 means exist (R327). -/
def Thermal.rise (x : Thermal) : Option Int :=
  match x.means[100]? with
  | some m => some (x.t16 - m)
  | none => none
/-- Whether the rate of rise is above n tenths of 1 °C/s. -/
def Thermal.above (x : Thermal) (tenths : Int) : Bool :=
  match x.rise with
  | some r => decide (tenths * 256 < r * 100)
  | none => false
/-- The highest step of the running fields of a die; its cap when none runs. -/
def highestStep (s : State) (d : Nat) : Nat :=
  let on := ((List.range 6).map (d * 6 + ·)).filter fun f => (field s f).power = 1 || (field s f).power = 2
  if on.isEmpty then (die s d).thermal.cap else (on.map fun f => (field s f).step).foldl max 0
/-- Set the cap of a die: every step group that holds a field of it is recomputed (R328, R330). -/
def setThermalCap (d cap : Nat) (s : State) : State :=
  let old := (die s d).thermal.cap
  if cap = old then s else
  let s := modThermal d (fun x => { x with cap := cap, lowering := x.lowering || decide (cap < old) }) s
  recomputeGroups (decide (cap < old)) ((List.range 6).map (d * 6 + ·)) s
/-- Set the thermal state: its record, its EMCY, THERM_ALERT_N (R328, R331). -/
def setThermalState (d new : Nat) (s : State) : State :=
  let x := (die s d).thermal
  let s := modThermal d (fun x => { x with alert := decide (0 < new) || x.alertHeld }) s
  if x.state = new then s else
  let i16 := fun (v : Int) => leBytes 2 (v % 65536).toNat
  let rate := (x.rise.getD 0) * 10 / 16
  let s := modThermal d (fun x => { x with state := new }) s
  refreshErrors (record 0x3001 (diePua d) 0 ([BitVec.ofNat 8 x.state, BitVec.ofNat 8 new] ++ i16 (x.t16 / 16) ++
    i16 rate ++ [BitVec.ofNat 8 (die s d).thermal.cap]) s)
/-- A thermal cause of a Ripcord holds the alert until S1 (R331). -/
def thermalStop (d : Nat) (s : State) : State :=
  modThermal d (fun x => { x with stopping := true, alertHeld := true, alert := true }) s

/-- Enter a reading: the newest 16, their mean, the run of one raw code, the fault conditions (R325, R329). The model
baseline starts at the first reading less the power term (notes/assumptions/14.md). -/
def enterReading (d : Nat) (raw : Int) (flagged : Bool) (s : State) : State :=
  let rise := powerRise s d
  let clamp := fun (v : Int) => max 16000 (min 96000 v)
  let x := (die s d).thermal
  let base := if x.readings.isEmpty then clamp (raw * 100 - rise) else x.tBase
  let same := if x.readings.head? = some raw then x.same + 1 else 1
  let off := raw * 100 - (base + rise)
  let bad := decide (raw < -320) || decide (2400 < raw) || flagged || decide (40000 < off) || decide (off < -40000) ||
    decide (2000 ≤ same)
  let readings := (raw :: x.readings).take 16
  let mean := readings.sum * 16 / readings.length
  let clean := if bad then 0 else x.cleanRun + 1
  let faulty := if bad then some (x.faulty.getD s.now) else if 1000 ≤ clean then none else x.faulty
  let due := decide (x.baseAt + 1000000000 ≤ s.now) && faulty.isNone
  let want := mean * 100 / 16 - rise
  let moved := if due then clamp (base + max (-16) (min 16 (want - base))) else base
  modThermal d (fun x => { x with
    readings := readings, means := (mean :: x.means).take 101, same := same, cleanRun := clean, faulty := faulty,
    tBase := moved, baseAt := if due || x.readings.isEmpty then s.now else x.baseAt }) s

/-- Whether the last lowering of a die's cap has landed: no lowering waits in a group of the die and no running field
stands above the cap. -/
def loweringLanded (s : State) (d : Nat) : Bool :=
  highestStep s d ≤ (die s d).thermal.cap &&
    (List.range 6).all fun i => !loweringWaits s (stepGroup s (d * 6 + i))

/-- Evaluate the conditions of R328 and R330 on the newest reading. -/
def evaluateThermal (d : Nat) (s : State) : State :=
  let landed := loweringLanded s d
  let s := modThermal d (fun x => if x.lowering && landed then { x with lowering := false, above2 := 0 } else x) s
  let x := (die s d).thermal
  let hot := x.faulty.isNone && decide (24320 ≤ x.t16)
  let stop := x.faulty.isNone && decide (26880 ≤ x.t16)
  let a2 := if x.faulty.isNone && x.above 20 && !x.lowering then x.above2 + 1 else 0
  let a8 := if x.faulty.isNone && x.above 80 then x.above8 + 1 else 0
  let throttle := decide (500 ≤ a2)
  let again := match x.backstopAt with
    | none => true
    | some t => decide (t + 1000000000 ≤ s.now)
  let back := hot && again
  let first := x.backstopAt.isNone
  let calm := x.faulty.isNone && !hot && !throttle && a8 < 20 && decide (x.t16 < 23040) && x.rise.isSome && !x.above 5
  let s := modThermal d (fun x => { x with
    above2 := if throttle then 0 else a2, above8 := a8,
    backstopAt := if !hot then none else if back then some s.now else x.backstopAt,
    calmFrom := if calm then some (x.calmFrom.getD s.now) else none }) s
  let s := if x.faulty.isSome then setThermalCap d (min 4 x.cap) s
    else if throttle || (back && first) then setThermalCap d (min x.cap (highestStep s d - 1)) s
    else if back then setThermalCap d (x.cap - 1) s else s
  let s := if stop && !x.stopping then orderly 3 3 (thermalStop d s) else s
  let s := if 20 ≤ a8 && !x.stopping then emergency d 1 (thermalStop d s) else s
  let now := (die s d).thermal
  let cond := if now.stopping then 4 else if now.faulty.isSome then 3 else if hot then 2 else if throttle then 1 else 0
  setThermalState d (if 0 < cond then cond else if now.cap = 15 then 0 else now.state) s

/-- DIODE_READING (R325 to R329): one reading of the 1 kHz converter in 1/16 °C, and whether it flags an error. -/
def execDiodeReading (dt d : Nat) (raw : Int) (flagged : Bool) (s : State) : Result :=
  done (evaluateThermal d (enterReading d raw flagged (elapse dt s)))

/-- SENSOR_FAULT_TIMEOUT (R328): a sensor fault is not resolved within 10 s: an orderly Ripcord with target off. -/
def execSensorFaultTimeout (dt d : Nat) (s : State) : Result :=
  let s := elapse dt s
  done <| match (die s d).thermal.faulty with
  | none => s
  | some t =>
    if s.now < t + 10000000000 || (die s d).thermal.stopping then s
    else setThermalState d 4 (orderly 3 3 (thermalStop d s))

/-- THERMAL_CAP_RISE (R330): after 10 s of calm the cap rises by one step. -/
def execThermalCapRise (dt d : Nat) (s : State) : Result :=
  let s := elapse dt s
  let x := (die s d).thermal
  done <| match x.calmFrom with
  | none => s
  | some t =>
    if s.now < t + 10000000000 || 15 ≤ x.cap then s else
    let s := setThermalCap d (x.cap + 1) (modThermal d (fun x => { x with calmFrom := some s.now }) s)
    if x.cap + 1 = 15 && !x.stopping then setThermalState d 0 s else s

/-! ### Energy (R341 to R343) -/

/-- A rail's power in mW, which is its energy of one interval of 1 ms in µJ. -/
def railMicro (r : RailReading) : Nat := r.millivolt * r.ampere
/-- The weighted work of an activity in 1/16 cycles (0x3105). -/
def activityWeight (s : State) (a : Activity) : Nat :=
  a.contraction * obj s (key 0x3105 1) 16 + a.nonContraction * obj s (key 0x3105 2) 8 + a.movement * obj s (key 0x3105 3) 4
/-- The sites of a slice in a field: N_sf. -/
def sitesIn (s : State) (k f : Nat) : Nat := (sliceLogicals s k).countP fun l => l / 800 = f
/-- Charge core-rail energy to a slice in µJ. -/
def chargeCore (k micro : Nat) (s : State) : State :=
  modSlice k (fun x => { x with
    coreMicro := x.coreMicro + micro,
    recent := (x.recent.headD 0 + micro) :: x.recent.tail }) s
/-- Charge DRAM energy. -/
def chargeDram (k micro : Nat) (s : State) : State :=
  modSlice k (fun x => { x with
    dramMicro := x.dramMicro + micro,
    recent := (x.recent.headD 0 + micro) :: x.recent.tail }) s
/-- The keys at which the energy of slice 0x000 and of the package count in µJ; 0x3102 and 0x3103 show mJ. -/
def unownedMicro : Nat := key 0x3102 0
/-- See `unownedMicro`. -/
def packageMicro : Nat := key 0x3103 0
/-- Charge one field's energy E_f: each slice its share, slice 0x000 the rest (R342). `total` is A_f in 1/16 cycles. -/
def chargeField (f energy : Nat) (work : List Activity) (total : Nat) (s : State) : State :=
  let beta := obj s (key 0x3104 0) 1800000 * 16
  let mine := fun (k : Nat) => ((work.filter fun a => a.slice = k && a.field = f).map (activityWeight s)).sum
  let all := max total (((work.filter fun a => a.field = f).map (activityWeight s)).sum)
  let shares := (groupSlices s [f]).map fun k =>
    (k, energy * (mine k + beta * sitesIn s k f) / (max 1 (all + beta * 800)))
  let s := shares.foldl (fun s e => chargeCore e.1 e.2 s) s
  addObj unownedMicro (energy - (shares.map (·.2)).sum) s
/-- Charge a die's DRAM energy E_d by the blocks that slices moved (R342). -/
def chargeDie (energy : Nat) (moved : List (Nat × Nat)) (s : State) : State :=
  let all := (moved.map (·.2)).sum
  let live := moved.filter fun m => match slice s m.1 with
    | some x => sliceLive x
    | none => false
  let shares := live.map fun m => (m.1, energy * m.2 / max 1 all)
  let s := shares.foldl (fun s e => chargeDram e.1 e.2 s) s
  addObj unownedMicro (energy - (shares.map (·.2)).sum) s

/-- ENERGY_INTEGRATION (R341, R342): the readings of a die's six field controllers and of its DRAM supplies for one
interval, the work of the slices, A_f of each field as (field, 1/16 cycles), and the blocks moved by slice. -/
def execEnergyIntegration (dt d : Nat) (rails dram : List RailReading) (work : List Activity)
    (total moved : List (Nat × Nat)) (s : State) : Result :=
  let s := elapse dt s
  let s := (List.range 6).foldl (fun s i =>
    let f := d * 6 + i
    let r := rails.getD i ⟨0, 0⟩
    let p := railMicro r
    let s := modField f (fun x => { x with
      millivolt := r.millivolt, ampere := r.ampere, amperes := (r.ampere :: x.amperes).take 10,
      filtered := x.filtered + p - x.filtered / 2000 }) s
    let a := ((total.filter fun t => t.1 = i).map (·.2)).sum
    addObj packageMicro p (chargeField f p work a s)) s
  let e := (dram.map railMicro).sum
  let s := modDie d (fun x => { x with dramPower := e }) s
  done (addObj packageMicro e (chargeDie e moved s))

end Sys2Proof.Machine
end

