-- ==== Sys2Proof/Machine/TimeBase.lean ====
section
/-!
DEFINITION. The time base (R63 to R79) and frequency changes at change counts (R80 to R86).
-/
namespace Sys2Proof.Machine
open Sys2Proof

/-! ### Crossings and corrections (R65, R72 to R79) -/

/-- The separation of a crossing's read pointer from its write pointer (R65): 4 at its alignment. -/
def separationOf (s : State) (p : Nat) : Nat := tgetD s.crossings p 4
/-- Set it; 4 is not listed. -/
def setSeparation (p n : Nat) (s : State) : State :=
  { s with crossings := if n = 4 then tdel s.crossings p else tset s.crossings p n }
/-- Whether a crossing has been aligned in this run: a Tether crossing at S2, a fabric crossing at S4 (R64). -/
def crossingAligned (s : State) (tether : Bool) (p : Nat) : Bool := decide ((if tether then 1 else 2) ≤ (die s (puaDie p)).aligned)
/-- CROSSING_SLIP (R64, R65): the separation of an aligned crossing, monitored from its alignment on, changes. Outside 2 to 6 it is
a slip. A Tether crossing realigns and its sender sends again what was not acknowledged, so nothing is lost; a slipped fabric
crossing is charged to its lane group or bridge link with cause 0x08. -/
def execCrossingSlip (dt : Nat) (tether : Bool) (unit : Pua) (separation : Nat) (s : State) : Result :=
  let s := elapse dt s
  let p := unit.toNat
  done (if !crossingAligned s tether p then s
    else if 2 ≤ separation && separation ≤ 6 then setSeparation p separation s
    else if tether then setSeparation p 4 s
    else raise p (stamped s (stampKeeper p) .charge 0x08 0 p 0 (puaDie p) []) (setSeparation p separation s))

/-- The correction flit that the Anchor sends now (R73). -/
def correctionFlit (s : State) : Flit :=
  let t := pt s
  BitVec.ofNat 128 ((t - t % 1024) % 2 ^ 64 * 2 ^ 64 + 1 * 2 ^ 60 + s.anchorDie % 4 * 2 ^ 58 +
    (if s.takenOver then 2 ^ 57 else 0) + (if keeperCoarse s s.anchorDie then 2 ^ 56 else 0) + s.seqr.next % 2 ^ 48)
/-- Whether PT has just reached a multiple of 1,024 ns: on it, or with the coarse count in the step that passes it (R72, R79). -/
def correctionDue (s : State) : Bool :=
  s.ptStarted && decide (pt s % 1024 < (if (keeper s s.anchorDie).running then 1 else 250))
/-- CORRECTION_SEND (R72): at a multiple of 1,024 ns of PT the Anchor sends a correction with that boundary. -/
def execCorrectionSend (dt : Nat) (s : State) : Result :=
  let s := elapse dt s
  done (if correctionDue s then emit (.correction (correctionFlit s)) s else s)

/-- The address that names a keeper: its die, or its field's agent. -/
def keeperPua (k : Nat) : Nat := if k < 4 then diePua k else agentPua (k - 4)
/-- The die of a keeper. -/
def keeperDie (k : Nat) : Nat := if k < 4 then k else (k - 4) / 6
/-- An event that a keeper raises: a Field Agent's goes through its queue. -/
def keeperEvent (k code : Nat) (payload : List Byte) (s : State) : State :=
  let p := keeperPua k
  let e := stamped s k .record 0 code p 0 (keeperDie k) payload
  if k < 4 then raiseLocal k e s else raise p e s
/-- CORRECTION_ARRIVAL (R74, R78): a keeper steps forward, or absorbs a negative error at half rate. An error beyond
8 ns is a time-step event, or the one discontinuity record of a restart, which the keeper stamps with the PT after the correction.
The Anchor's keeper takes no correction, nor does one that is stopped, has not applied its offset or has an offset fault
(notes/assumptions/181.md). A Gondola sends a correction with the same boundary into its die (R72). -/
def execCorrectionArrival (dt k : Nat) (flit : Flit) (s : State) : Result :=
  let s := elapse dt s
  let v := flit.toNat
  let x := keeper s k
  done <| if v / 2 ^ 60 % 16 ≠ 1 || k = s.anchorDie then s else
  let s := if k < 4 then emit (.dieCorrection k flit) s else s
  if !x.running || !x.applied || x.offsetFault then s else
  let fine := x.read s.now
  let e : Int := ((v / 2 ^ 64 + x.delay : Nat) : Int) - fine
  let s := modKeeper k (fun x =>
    let y := x.sync s.now
    { y with
      base := if 0 < e then y.base + e.toNat else y.base, slew := if e < 0 then e.natAbs else 0,
      missed := 0, restarted := false, coarse := (v / 2 ^ 56) % 2 == 1 }) s
  if e.natAbs ≤ 8 then s
  else if x.restarted then
    keeperEvent k 0x2101 (leBytes 8 fine ++ leBytes 4 (e % 2 ^ 32).toNat ++ leBytes 8 x.stoppedFor) s
  else keeperEvent k 0 (leBytes 4 (e % 2 ^ 32).toNat) s

/-- Whether the rule of R57 is met: the standby has missed eight corrections, and one of CD2 and CD3 reports the same loss within
8,192 ns of that. A standby whose own Gondola recovers takes the role all the same (notes/assumptions/179.md). -/
def takeoverDue (s : State) : Bool :=
  let x := keeper s 1
  let near := fun k => let y := keeper s k
    decide (8 ≤ y.missed) && decide (y.lossAt ≤ x.lossAt + 8192) && decide (x.lossAt ≤ y.lossAt + 8192)
  s.variant == .dh100 && s.standby && s.anchorDie == 0 && (die s 1).status == 1 && decide (8 ≤ x.missed) && (near 2 || near 3)
/-- Whether the Anchor and the standby are both lost (R60): no standby is left, and every other Gondola that runs has missed eight
corrections. -/
def rolesLost (s : State) : Bool :=
  let others := (dieIdxs s).filter fun d => d ≠ s.anchorDie && (die s d).status = 1
  s.variant == .dh100 && !s.standby && !others.isEmpty && others.all fun d => decide (8 ≤ (keeper s d).missed)
/-- CORRECTION_MISSED (R75, R57, R60): a keeper misses a correction. Eight in a row raise an event, but for the standby's that feed
the takeover; with no standby left they lead to the emergency Ripcord; 1,000 in a row set the coarse flag. A stopped keeper counts
no misses (notes/assumptions/182.md). -/
def execCorrectionMissed (dt k : Nat) (s : State) : Result :=
  let s := elapse dt s
  let x := keeper s k
  done <| if k = s.anchorDie || !x.running then s else
  let s := modKeeper k (fun x => { x with
    missed := min 65535 (x.missed + 1), lossAt := if x.missed + 1 = 8 then s.now else x.lossAt }) s
  if x.missed + 1 ≠ 8 then s else
  let due := takeoverDue s
  let s := if due && k = 1 then s else keeperEvent k 0 (leBytes 2 8) s
  if due then takeRole 1 s
  else if rolesLost s && k < 4 then emergency k 4 s
  else s

/-- The keepers of a die: its Gondola's and its Field Agents'. -/
def dieKeepers (d : Nat) : List Nat := d :: (List.range 6).map fun i => fieldKeeper (d * 6 + i)
/-- The keepers of a die while the reference is absent: they stop, and their coarse counts run on the die's oscillator, whose rate is
free within 2 % (R63, R77, R79). -/
def dropReference (d : Nat) (s : State) : State :=
  let (n, s) := takeNat s
  (dieKeepers d).foldl (fun s k =>
    modKeeper k (fun x => { x.sync s.now with rate := 980000 + n % 40001 }) (stopKeeper k s)) s
/-- Every keeper of the variant. -/
def keeperIdxs (s : State) : List Nat := dieIdxs s ++ (fieldIdxs s).map fieldKeeper
/-- REFERENCE_LOSS (R79): the always-on domain moves to its oscillator, every keeper stops and fixed logic asserts an
emergency Ripcord. -/
def execReferenceLoss (dt : Nat) (s : State) : Result :=
  let s := elapse dt s
  done <| if !s.reference then s else
  let s := { s with reference := false, referenceLostAt := s.now }
  emergency s.anchorDie 3 ((dieIdxs s).foldl (fun s d => dropReference d s) s)
/-- REFERENCE_RESTORED (R79): after 1 ms of edges the keepers whose clocks may run resume, the Anchor's from its coarse
value, and the Anchor writes one record of the interval as its oscillator counted it. -/
def execReferenceRestored (dt : Nat) (s : State) : Result :=
  let s := elapse dt s
  done <| if s.reference || s.now < s.referenceLostAt + 1000000 then s else
  let counted := 250 * ((s.now - s.referenceLostAt) * (keeper s s.anchorDie).rate / 1000000 / 250)
  let s := { s with reference := true }
  let s := (keeperIdxs s).foldl (fun s k =>
    let on := if k < 4 then (die s k).vfast && !(die s k).fastReset
      else (field s (k - 4)).power = 1 || (field s (k - 4)).power = 2
    if on then startKeeper k s else modKeeper k (fun x => { x.sync s.now with rate := 1000000 }) s) s
  let s := modKeeper s.anchorDie (fun x => { x with coarse := false, restarted := false }) s
  if s.ptStarted then recordPkg 0x2102 (leBytes 8 counted) s else s

/-! ### Frequency changes (R80 to R86, R306) -/

/-- Change a listed change. -/
def modChange (id : Nat) (f : Change → Change) (s : State) : State :=
  { s with changes := s.changes.map fun c => if c.id = id then f c else c }
/-- The fields of a slice that hold its clusters and have power. -/
def sliceRegions (s : State) (k : Nat) : List Nat := (sliceFields s k).filter fun f => (field s f).power = 2
/-- Whether a slice may ask for a frequency now (R306): a rise only when no voltage of its group still rises and the
entries at the present step allow it; a change the slice waits for, or one that its grant allows. -/
def requestAllowed (s : State) (k code : Nat) : Bool :=
  match slice s k with
  | none => false
  | some x =>
    let mhz := freqOfCode code
    let f := (sliceFields s k).headD 0
    let due := match x.want with
      | some w => w.1 == mhz
      | none => decide (mhz ≤ (sliceF s k (field s f).step).getD 400)
    sliceLive x && decide (code ≤ 28) && due && !(s.changes.any fun c => c.slice = k && c.code = code) &&
      sequencerFree s && (decide (mhz ≤ x.freq) || !raisesPending s (stepGroup s f))
/-- FREQUENCY_CHANGE_REQUEST (R82, R306): the Anchor sequences a request and schedules its change count. `mask` names
the fields of a change that is tied to no slice. While the sequencer holds (R94) the request waits at its source. -/
def execFrequencyChangeRequest (dt k mask code : Nat) (s : State) : Result :=
  let s := elapse dt s
  done <| if k = 0 then
    (if 28 < code || mask % 2 ^ 24 = 0 || !sequencerFree s then s else scheduleChange 0 (mask % 2 ^ 24) code false s)
  else if requestAllowed s k code then
    let required := match (slice s k).bind (·.want) with
      | some w => w.2
      | none => false
    scheduleChange k (fieldMask (sliceRegions s k)) code required s
  else s

/-- CHANGE_ACKNOWLEDGE (R83): a Field Agent of the set acknowledges an announcement. -/
def execChangeAcknowledge (dt id f : Nat) (s : State) : Result :=
  let s := elapse dt s
  done (modChange id (fun c => if c.mask.testBit f then { c with acked := addHold f c.acked } else c) s)
/-- CHANGE_ACK_DEADLINE (R83): at C − 20,480 ns an acknowledgement is missing and the change is postponed. -/
def execChangeAckDeadline (dt id : Nat) (s : State) : Result :=
  let s := elapse dt s
  done <| match s.changes.find? fun c => c.id = id with
  | none => s
  | some c =>
    let missing := (maskFields c.mask).filter fun f => !c.acked.contains f
    if pt s + 20480 < c.count || missing.isEmpty then s else postponeChange id missing s
/-- CHANGE_HOLD_SAMPLE (R84): at C + 24 every armed Field Agent samples the change-hold line, which any field that
stretched between C − 2,000 and C holds. -/
def execChangeHoldSample (dt id : Nat) (s : State) : Result :=
  let s := elapse dt s
  done <| match s.changes.find? fun c => c.id = id with
  | none => s
  | some c =>
    let fs := maskFields c.mask
    if pt s < c.count + 24 || c.sampled.isSome || fs.any (fun f => !c.acked.contains f) then s else
    let now := fs.filter fun f =>
      let x := field s f
      (match x.stretch with
        | some t => decide (t ≤ c.count)
        | none => false) ||
      (decide (0 < x.stretchEnd) && decide (x.stretchStart ≤ c.count) && decide (c.count ≤ x.stretchEnd + 2000))
    let held := (s.changeHold ++ now).eraseDups
    -- the arrival of the count discards the margin tests of the clusters that it includes (R217)
    let s := discardMargins (fun p => c.mask.testBit (puaFieldIdx p) &&
      (c.slice = 0 || sliceOfCluster s (puaClusterKey p) = c.slice)) s
    modChange id (fun c => { c with sampled := some !held.isEmpty, held := held }) { s with changeHold := [] }
/-- CHANGE_COUNT_SWITCH (R84): each cluster of the set changes its divider after C + 32, when the line was clear. -/
def execChangeCountSwitch (dt id : Nat) (s : State) : Result :=
  let s := elapse dt s
  done <| match s.changes.find? fun c => c.id = id with
  | none => s
  | some c =>
    if pt s < c.count + 32 || c.sampled ≠ some false || c.switched then s else
    let mhz := freqOfCode c.code
    let s := wakeAgents (maskFields c.mask) s
    let s := if c.slice = 0 then
        -- a change of whole fields covers the clusters of the slices there too (R81)
        let fs := maskFields c.mask
        (groupSlices s fs).foldl (fun s k => refreshFreq k s) (fs.foldl (fun s f => setFieldFreq mhz f s) s)
      else modSlice c.slice (fun x => { x with
        freq := mhz, mixed := false, want := if x.want.map (·.1) = some mhz then none else x.want })
          (setFreqs (sliceClusters s c.slice) mhz s)
    -- a slow spare may replay again, or no longer, at the new frequency (R226)
    modChange id (fun c => { c with switched := true }) (refreshSlow s)
/-- The fields of a change: those whose step group a completed lowering frees. -/
def finishChange (c : Change) (s : State) : State :=
  let fs := maskFields c.mask
  let s := { s with changes := s.changes.filter fun x => x.id ≠ c.id }
  let s := showChange c.id [(key 0x2111 1, c.id), (key 0x2111 2, 1), (key 0x2111 3, c.count), (key 0x2111 4, c.postponed)] s
  let s := if c.lowering then checkPhaseCurrents fs s else s
  match fs with
  | [] => s
  | f :: _ => lowerVoltages (stepGroup s f) s
/-- CHANGE_VERDICT (R84 to R86, R306): a Field Agent reports switched or held. With every verdict in, the change is
done, or postponed, or abandoned. -/
def execChangeVerdict (dt id f : Nat) (s : State) : Result :=
  let s := elapse dt s
  done <| match s.changes.find? fun c => c.id = id with
  | none => s
  | some c =>
    let ready := c.sampled = some true || c.switched
    if !ready || !c.mask.testBit f || c.verdicts.contains f then s else
    let s := modChange id (fun c => { c with verdicts := c.verdicts ++ [f] }) s
    if (maskFields c.mask).any (fun g => g ≠ f && !c.verdicts.contains g) then s
    else if c.switched then finishChange c s
    else postponeChange id c.held s

end Sys2Proof.Machine
end

