-- ==== Sys2Proof/Machine/Slices.lean ====
section
/-!
DEFINITION. The creation of a slice (R10, R33, R34, R255, R304, R322) and its seeds and epochs (R133, R134).
-/
namespace Sys2Proof.Machine
open Sys2Proof

/-- Whether two spans of a ring of `n` meet. -/
def spansMeet (n a w b v : Nat) : Bool := decide ((b + n - a) % n < w) || decide ((a + n - b) % n < v)
/-- Whether two boxes share a router (R34). -/
def boxesMeet (o e p f : Nat × Nat × Nat) : Bool :=
  spansMeet 80 o.1 e.1 p.1 f.1 && spansMeet 60 o.2.1 e.2.1 p.2.1 f.2.1 && spansMeet 4 o.2.2 e.2.2 p.2.2 f.2.2
/-- Whether a box lies in the ranges of R33. -/
def boxInRange (v : Variant) (o e : Nat × Nat × Nat) : Bool :=
  o.1 < 80 && o.2.1 < 60 && o.2.2 < v.dies && 1 ≤ e.1 && e.1 ≤ 80 && 1 ≤ e.2.1 && e.2.1 ≤ 60 && 1 ≤ e.2.2 &&
    e.2.2 ≤ v.dies
/-- Every die that is not fenced has reached stage S8 in service, so that slices may be created (R347, R360, R401). -/
def operational (s : State) : Bool :=
  s.ripcord.state == 0 && s.packageReset.isNone &&
    (dieIdxs s).all fun d => (die s d).status == 2 || (atS8 (die s d) && !(die s d).reel.returned)
/-- A slice as it is created (R10, R133): no tile issued, epoch 0 begins. -/
def newSlice (s : State) (r : SliceRequest) (seed : Word64) (old : Option Slice) : Slice where
  life := .creating
  role := r.role
  origin := r.origin
  extent := r.extent
  memory := r.memory
  created := pt s
  issued := false
  mode := .observe
  codes := (0, 0)
  switches := []
  pending := none
  short := []
  ineligibleAt := none
  boundState := 0
  boundSince := pt s
  seed := seed
  lastSeed := seed
  nextSeed := none
  epochStart := pt s
  epochPeriod := obj s (key 0x2501 0) 60000 * 1000000
  notices := []
  freq := 400
  mixed := false
  want := none
  powerCodes := 0
  droopCodes := 0
  teardown := none
  zeroFill := (old.map (·.zeroFill)).getD []
  recent := []
  coreMicro := 0
  dramMicro := 0
  carried := []
  consumed := false
  abandon := false
  hangs := []
  objs := []
/-- Whether the RM creates a slice as asked: the id and the box are in range and free (R10, R33, R34), the memory is
there (R291), no logical cluster of it is unbound unless the reduced count is accepted (R255), and the tables pass the
validation of R251. -/
def creationAllowed (s : State) (r : SliceRequest) : Bool :=
  let x := newSlice s r 0 none
  -- fields that are powered down rise for the slice
  let rise := fun (x : Field) => if x.power = 0 then { x with power := 1 } else x
  let t := { s with slices := tset s.slices r.id x, fields := s.fields.map rise }
  operational s && 1 ≤ r.id && r.id ≤ 0xFFE && r.role ≤ 4 &&
    ((slice s r.id).map (!sliceLive ·)).getD true && boxInRange s.variant r.origin r.extent &&
    s.slices.all (fun e => !sliceLive e.2 || !boxesMeet e.2.origin e.2.extent r.origin r.extent) &&
    r.memory.all (fun m => stackUsable s m.1 && m.2 ≤ freeBlocks s m.1) &&
    (r.acceptReduced || (boxLogicals s.variant x).all fun l => (clusterOf s l).isSome) && sliceValid t r.id
/-- SLICE_CREATE (R10, R255, R304, R322): the slice takes its box; its fields power on, its step group, mode, seeds,
adoptive cores and bound are set up. A request that R33, R34 or R255 does not allow changes nothing. -/
def execSliceCreate (dt : Nat) (r : SliceRequest) (s : State) : Result :=
  let s := elapse dt s
  done <| if !creationAllowed s r then s else
  let (seed, s) := takeWord s
  let s := clearViews r.id { s with slices := tset s.slices r.id (newSlice s r seed (slice s r.id)) }
  let fs := sliceFields s r.id
  -- its clusters go on at their frequencies until a change count (R80)
  let s := refreshFreq r.id s
  let mem := r.memory.map fun m => stackField m.1
  let s := refreshIdle fs ((fs ++ mem).foldl (fun s f => powerOn f s) s)
  -- a field that its routes need rises too
  let s := if sliceValid s r.id then s else (fieldIdxs s).foldl (fun s f => powerOn f s) s
  let s := recomputeGroups false fs s
  let s := (sliceClusters s r.id).foldl (fun s ck => assignAdoptive ck (cutProgress ck s)) s
  let s := weakSwap r.id (refreshBound r.id (applyMode r.id s))
  refreshReservoirs fs (completeCreation r.id s)

/-! ### Seeds and epochs -/

/-- The seed that governs a slice's tiles now: the fixed one in fixed mode (R134). -/
def seedOf (s : State) (k : Nat) : Word64 :=
  match slice s k with
  | none => 0
  | some x => if tgetD x.objs (key 0x2503 0) 0 = 1 then BitVec.ofNat 64 (tgetD x.objs (key 0x2504 0) 0) else x.seed
/-- The epoch of a slice (0x2505). -/
def epochOf (s : State) (k : Nat) : Nat := sobj s k (key 0x2505 0) 0
/-- SEED_DELIVERY (R133): the drawing Gondola draws the seed of the next epoch and sends it to every Bridle. -/
def execSeedDelivery (dt k : Nat) (s : State) : Result :=
  let s := elapse dt s
  done <| match slice s k with
  | none => s
  | some x =>
    if !sliceLive x || x.nextSeed.isSome then s else
    let (w, s) := takeWord s
    emit (.seed k (epochOf s k + 1)) (modSlice k (fun x => { x with nextSeed := some w }) s)
/-- EPOCH_START (R133): the next epoch begins at the first change count at or after B + P, with the seed delivered for
it. -/
def execEpochStart (dt k : Nat) (s : State) : Result :=
  let s := elapse dt s
  done <| match slice s k with
  | none => s
  | some x =>
    let c := (x.epochStart + x.epochPeriod + 102399) / 102400 * 102400
    match x.nextSeed with
    | none => s
    | some w =>
      if !sliceLive x || pt s < c then s else
      let p := obj s (key 0x2501 0) 60000 * 1000000
      setSobj k (key 0x2505 0) ((epochOf s k + 1) % 2 ^ 32) (modSlice k (fun x => { x with
        lastSeed := x.seed, seed := w, nextSeed := none, epochStart := c, epochPeriod := p }) s)

end Sys2Proof.Machine
end

