-- ==== Sys2Proof/Machine/Tiles.lean ====
section
/-!
DEFINITION. Tiles on the data path: what serves an LCN, poison words and poison consumption (R162 to R168, R183, R186),
the issue of a tile (R186, R201, R254), its end, and replays: choosing cores, queues, descriptors (R139, R145 to R152).
-/
namespace Sys2Proof.Machine
open Sys2Proof

/-! ### What governs an LCN -/

/-- The mode that the cluster of an LCN runs. -/
def lcnMode (s : State) (lcn : Nat) : Mode :=
  match clusterOf s (lcn / 16) with
  | some ck => modeOfCluster s ck
  | none => .observe
/-- The tiles of a group of the sample stream, 0 where nothing is sampled (R145). -/
def groupLength : Mode → Nat
  | .standard => 32
  | .strict => 4
  | _ => 0
/-- Sign pairs of a mode; the projection unit does not run in Observe and Full (R138). -/
def signPairs : Mode → Nat
  | .standard => 1
  | .strict => 2
  | _ => 0
/-- Whether a tile is a contraction tile (R127). -/
def isContraction : TileKind → Bool
  | .contraction | .fused => true
  | _ => false
/-- The epoch in force at PT `t`, the present one or the one before it (R133). -/
def epochAt (s : State) (k t : Nat) : Nat :=
  match slice s k with
  | some x => if t < x.epochStart then epochOf s k - 1 else epochOf s k
  | none => 0
/-- The seed of an epoch that is in force or just past; in fixed mode the fixed one (R133, R134). -/
def seedFor (s : State) (k epoch : Nat) : Word64 :=
  match slice s k with
  | some x => if tgetD x.objs (key 0x2503 0) 0 = 1 || epoch = epochOf s k then seedOf s k else x.lastSeed
  | none => 0
/-- The core that runs a tile of an LCN: one that finishes its last tile before a swap, else the one that serves it; none where
tiles stand still. -/
def tileCore (s : State) (lcn : Nat) : Option Nat :=
  if frozen s then none else match s.cores.find? fun e => e.2.finishing = some lcn with
  | some e => some e.1
  | none => coreOf s lcn
/-- The follower LCN of a pair (R157). -/
def isFollower (s : State) (lcn : Nat) : Bool := lcnMode s lcn == .full && lcn % 2 = 1
/-- Change a core and bring the holds of its cluster up to date. -/
def modHeld (p : Nat) (f : Core → Core) (s : State) : State := syncCoreHolds (puaClusterKey p) (modCore p f s)

/-- The record of raised poison (code 0x2702): cause, the word written, the source PUA. -/
def poisonRecord (unit cause sl : Nat) (w : Word64) (source : Nat) (s : State) : State :=
  raise unit (recordEvent s 0x2702 unit sl (leBytes 1 cause ++ leBytes 8 w.toNat ++ leBytes 4 source)) s
/-- Whether a block must not reach a user tile: poisoned, or with a code of the RM's own (R167, R186). -/
def unusableWord (w : Word64) : Bool := wordPoison w || [0xC, 0xE, 0xF].contains (wordFormat w)
/-- The first input block that a tile must not take, with its word as the Core Port reads it. -/
def unusableInput (c : Core) (t : Tile) : Option InBlock :=
  (t.inputs.find? fun b => unusableWord (inputWord c b)).map fun b => { b with word := inputWord c b }
/-- A Core Port refuses a tile that is about to consume poison, or a block of the RM's own (R167, R186, R188): it holds
its core's issue; the first consumption ends the slice, and further ones are only counted. -/
def consumePoison (k lcn p : Nat) (b : InBlock) (s : State) : State :=
  let s := modHeld p (fun c => { c with stalls := addHold 12 c.stalls }) (addSobj k (key 0x2706 7) 1 s)
  match slice s k with
  | none => s
  | some x =>
    if x.consumed || !sliceLive x || x.life = .ending then s else
    let s := setSobjs k [(key 0x2709 1, lcn), (key 0x2709 2, b.source % 2 ^ 32), (key 0x2709 3, b.word.toNat)] s
    let s := if wordPoison b.word then s else poisonRecord p 7 k b.word (b.source % 2 ^ 32) s
    let e := { recordEvent s 0x2703 p k (leBytes 4 lcn ++ leBytes 8 b.word.toNat ++ leBytes 4 b.source) with
      seqKeys := [(k, key 0x2709 4)], ends := some k }
    stopSlice k (modSlice k (fun x => { x with consumed := true, abandon := true }) (raise p e s))

/-! ### Issue (R186, R201, R254) -/

/-- Whether the RM or a hang holds the whole cluster's issue. Holds 1 to 5 name single cores, which wait by themselves. -/
def issueBlocked (s : State) (ck : Nat) : Bool :=
  (cluster s ck).holds.any (fun h => h = 0 || 5 < h) || !(field s (ckField ck)).holds.isEmpty
/-- Whether a core can take no tile now. -/
def coreBusy (c : Core) : Bool :=
  c.tile.isSome || c.heldTile.isSome || c.withheld || c.resetRun.isSome || !c.stalls.isEmpty
/-- Each tile refused on an unbound LCN is reported to the job runtime, so it is the one refusal since the last report
(R254, R454). -/
def refuseUnbound (k lcn : Nat) (s : State) : State :=
  noteEvent (ownerDie s k) 0x2A12 k (leBytes 4 lcn ++ leBytes 4 1) s
/-- Whether a block that the tile reads has not been released yet (R101). -/
def inputPending (c : Core) (t : Tile) : Bool :=
  t.inputs.any fun b => match b.localBlock with
    | some n => match tget c.sram n with
      | some x => !x.released
      | none => false
    | none => false
/-- Whether the tile writes to a pinned block (R147). -/
def writesPinned (c : Core) (t : Tile) : Bool :=
  t.outputs.any fun b => match b.localBlock with
    | some n => c.pins.contains n
    | none => false
/-- A core takes a tile: it waits behind a test tile (R201) or a pinned block (R147), or starts. A margin sequence is
abandoned once its running test tile has ended (R201, R217); a forced checker slot is no overrun (R211). -/
def takeTile (k lcn p : Nat) (t : Tile) (s : State) : State :=
  let c := core s p
  match c.test with
  | some r =>
    let s := if r.forced then s else addSobj k (key 0x2806 10) 1 s
    modHeld p (fun c => { c with heldTile := some (0, t) }) s
  | none =>
    if writesPinned c t then
      modHeld p (fun c => { c with heldTile := some (0, t), stalls := addHold 1 c.stalls })
        (addSobj k (key 0x2607 10) 1 s)
    else startTile lcn p t s
/-- Start the tile that a core holds once nothing stands in its way. One that would then consume poison is refused (R186). -/
def startHeld (p : Nat) (s : State) : State :=
  let c := core s p
  match c.heldTile, lcnOfCore s p with
  | some t, some lcn =>
    if c.test.isSome || c.withheld || !c.stalls.isEmpty || writesPinned c t.2 || inputPending c t.2 then s
    else match unusableInput c t.2 with
      | some b => consumePoison (sliceOfLcn s lcn) lcn p b (modHeld p (fun c => { c with heldTile := none }) s)
      | none => startTile lcn p t.2 (modHeld p (fun c => { c with heldTile := none }) s)
  | _, _ => s

/-- TILE_ISSUE (R157, R186, R201, R254): the control core issues a tile to the core of an LCN, in Full to both cores of
the pair. A tile that only moves data occupies no core and consumes nothing (R105, R186). -/
def execTileIssue (dt lcn : Nat) (t : Tile) (s : State) : Result :=
  let s := elapse dt s
  let k := sliceOfLcn s lcn
  let running := match slice s k with
    | some x => x.life == .running
    | none => false
  done <| match coreOf s lcn with
  | none => if running then refuseUnbound k lcn s else s
  | some p =>
    let ck := puaClusterKey p
    let c := core s p
    if !running || issueBlocked s ck || isFollower s lcn then
      -- a consumption after the one that ended the slice is counted until the generation increments (R188)
      if (slice s k).any (fun x => x.consumed && x.life = .ending && x.teardown.all fun t => t.step < 2) &&
          t.kind != .move && (unusableInput c t).isSome then addSobj k (key 0x2706 7) 1 s else s
    else if t.kind = .move then
      progressEvent ck (commandTile ck t.command (puaCore p) (modSlice k (fun x => { x with issued := true }) s))
    else
      let pair := if lcnMode s lcn == .full then (coreOf s (lcn + 1)).toList else []
      if (p :: pair).any (fun q => coreBusy (core s q)) || inputPending c t then s else
      match unusableInput c t with
      | some b => pair.foldl (fun s q => modHeld q (fun c => { c with stalls := addHold 12 c.stalls }) s)
          (consumePoison k lcn p b s)
      | none =>
        let s := modSlice k (fun x => { x with issued := true }) s
        let s := commandTile ck t.command (puaCore p) (takeTile k lcn p t s)
        pair.foldl (fun s q => takeTile k (lcn + 1) q t s) s

/-! ### The end of a tile (R101, R143, R181) -/

/-- A tile leaves its core: a tile boundary of the cluster (R122). -/
def leaveTile (p : Nat) (s : State) : State :=
  let ck := puaClusterKey p
  modCluster ck (fun c => { c with boundary := bridleTime s ck }) (modCore p (fun c => { c with tile := none, finishing := none }) s)
/-- The output blocks of a tile in the core's local SRAM, with their words and open records. -/
def storeOutputs (p : Nat) (t : Tile) (words : List Word64) (released : Bool) (s : State) : State :=
  t.outputs.zipIdx.foldl (fun s e => match e.1.localBlock with
    | some n =>
      setSram p n ⟨words.getD e.2 0, released, some t, none⟩ s
    | none => s) s
/-- Release the output blocks of a tile with the words that a later execution gave them (R101, R140). -/
def releaseOutputs (p : Nat) (t : Tile) (words : List Word64) (s : State) : State :=
  startHeld p (storeOutputs p t words true s)
/-- Poison the output blocks of a tile that a test picks (R156, R183: causes 2 and 6). `unit` is the raiser's core. -/
def poisonOutputs (k p cause : Nat) (t : Tile) (pick : Nat → Bool) (s : State) : State :=
  t.outputs.zipIdx.foldl (fun s e =>
    if !pick e.2 then s else
    let w := poisonWord (generation s k) e.1.format k 1
    let s := match e.1.localBlock with
      | some n => setSram p n ⟨w, true, some t, none⟩ s
      | none => s
    poisonRecord p cause k w p s) s
/-- Pin the local input blocks of a tile, up to 8 blocks in all (R140, R147). -/
def pinInputs (p : Nat) (t : Tile) (s : State) : State :=
  let pin := fun (l : List Nat) (n : Nat) => if l.length < 8 then addHold n l else l
  modCore p (fun c => { c with pins := (t.inputs.filterMap (·.localBlock)).foldl pin c.pins }) s
/-- Pins of a core end: the inbound writes that waited for them land, and its issue goes on (R147). -/
def releasePins (p : Nat) (ns : List Nat) (s : State) : State :=
  let pins := (core s p).pins.filter fun n => !ns.contains n
  let waiting := (core s p).arrivals
  let s := modCore p (fun c => { c with pins := pins, arrivals := waiting.filter fun a => pins.contains a.1.block }) s
  let s := (waiting.filter fun a => !pins.contains a.1.block).foldl (fun s a =>
    setSram p a.1.block ⟨a.2, true, none, some a.1⟩ s) s
  let waits := fun (c : Core) => c.heldTile.any fun t => writesPinned c t.2
  startHeld p (modHeld p (fun c => { c with stalls := if pins.length < 8 && !waits c then dropHold 1 c.stalls else c.stalls }) s)
/-- Unpin the local input blocks of a tile. -/
def unpinInputs (p : Nat) (t : Tile) (s : State) : State := releasePins p (t.inputs.filterMap (·.localBlock)) s

/-! ### Replay cores (R139, R149 to R152, R155) -/

/-- The cluster's spare in its replay role while it is no test target. -/
def freeSpare (s : State) (ck : Nat) : Option Nat := (replaySpare s ck).filter fun p => (core s p).test.isNone
/-- The cores of a cluster that serve its LCNs, but for test targets (R196) and those excluded. -/
def siblings (s : State) (ck : Nat) (skip : List Nat) : List Nat :=
  (coresOf ck).filter fun p =>
    inService (stateOf s p) && (lcnOfCore s p).isSome && (core s p).test.isNone && !skip.contains p
/-- The adoptive core of a cluster while it is no test target (R150, R196). -/
def freeAdoptive (s : State) (ck : Nat) : Option Nat := (cluster s ck).adoptive.filter fun p => (core s p).test.isNone
/-- Replays queued on a core. -/
def queued (s : State) (p : Nat) : Nat := (core s p).queue.length
/-- The sibling with the fewest queued replays, ties to the lowest logical core. -/
def leastQueued (s : State) (l : List Nat) : Option Nat :=
  firstBy (fun p => [queued s p, (lcnOfCore s p).getD 0]) l
/-- The core for an immediate replay or recompute attempt, in the order of R139. -/
def immediateCore (s : State) (ck : Nat) (skip : List Nat) : Option Nat :=
  ((freeSpare s ck).filter fun p => !skip.contains p).or
    (((freeAdoptive s ck).filter fun p => !skip.contains p).or (leastQueued s (siblings s ck skip)))
/-- The core for attempt 3 (R140). -/
def lastAttemptCore (s : State) (ck : Nat) (skip : List Nat) : Option Nat :=
  ((freeSpare s ck).filter fun p => !skip.contains p).or (leastQueued s (siblings s ck skip))
/-- The core for a tie-break (R155). -/
def tieBreakCore (s : State) (ck : Nat) (skip : List Nat) : Option Nat :=
  (lastAttemptCore s ck skip).or ((freeAdoptive s ck).filter fun p => !skip.contains p)
/-- The core that takes a sampled tile's replay: R149 in Standard, R151 in Strict; none when every queue is full. -/
def dispatchCore (s : State) (m : Mode) (d : Descriptor) : Option Nat :=
  let ck := puaClusterKey d.original
  let room := fun p => decide (queued s p < 4) && p != d.original
  let spare := (freeSpare s ck).filter room
  let sibs := (siblings s ck [d.original]).filter room
  if m = .strict then
    firstBy (fun p => [queued s p, if spare = some p then 0 else 1, (lcnOfCore s p).getD 0]) (spare.toList ++ sibs)
  else spare.or (((freeAdoptive s ck).filter room).or (leastQueued s sibs))
/-- Count a replay that leaves the cluster's spare unused (0x2607:05, :06). The rule names the sampled replays of R149 and R151; the
model counts the immediate ones of R139 there too (notes/assumptions/186.md). -/
def countReplay (d : Descriptor) (p : Nat) (s : State) : State :=
  let k := sliceOfLcn s d.lcn
  if (cluster s (puaClusterKey d.original)).adoptive = some p then addSobj k (key 0x2607 5) 1 s
  else if (lcnOfCore s p).isSome then addSobj k (key 0x2607 6) 1 s else s
/-- Queue a replay on a core; an immediate one comes before the others (R139). -/
def enqueueReplay (d : Descriptor) (p : Nat) (front : Bool) (s : State) : State :=
  let put := fun (c : Core) => { c with queue := if front then d :: c.queue else c.queue ++ [d] }
  spareMove p (countReplay d p (modCore p put s))
/-- The Bridle of a cluster orders an immediate replay (R139, R204). With no core at all it waits there. -/
def orderImmediate (ck : Nat) (d : Descriptor) (s : State) : State :=
  match immediateCore s ck [d.original] with
  | some p => enqueueReplay d p true s
  | none => modCluster ck (fun c => { c with descriptors := d :: c.descriptors }) s
/-- Send a sampled tile's replay to a core, or keep it with the Bridle, whose 16 entries may be full too (R152). -/
def dispatchReplay (d : Descriptor) (s : State) : State :=
  let ck := puaClusterKey d.original
  match dispatchCore s (lcnMode s d.lcn) d with
  | some p => enqueueReplay d p false s
  | none =>
    let s := modCluster ck (fun c => { c with descriptors := c.descriptors ++ [d] }) s
    if 16 < (cluster s ck).descriptors.length then
      modHeld d.original (fun c => { c with stalls := addHold 2 c.stalls }) s else s
/-- Release the issue of the cores of a cluster that full replay queues held (R152). -/
def freeQueueStalls (ck : Nat) (s : State) : State :=
  if 16 < (cluster s ck).descriptors.length then s else
  (coresOf ck).foldl (fun s p => if (core s p).stalls.contains 2 then
    startHeld p (modHeld p (fun c => { c with stalls := dropHold 2 c.stalls }) s) else s) s
/-- Send the descriptors that a Bridle holds, oldest first, while a core takes them. -/
def sendWaiting : Nat → Nat → State → State
  | 0, _, s => s
  | n + 1, ck, s =>
    match (cluster s ck).descriptors with
    | [] => s
    | d :: rest =>
      let m := lcnMode s d.lcn
      let target := if d.group.isNone then immediateCore s ck [d.original] else dispatchCore s m d
      match target with
      | none => s
      | some p => sendWaiting n ck
          (enqueueReplay d p d.group.isNone (modCluster ck (fun c => { c with descriptors := rest }) s))
/-- An entry of a replay queue has freed: every Bridle that holds descriptors may send some. -/
def refillQueues (s : State) : State :=
  (s.clusters.filter fun e => !e.2.descriptors.isEmpty).foldl (fun s e =>
    freeQueueStalls e.1 (sendWaiting e.2.descriptors.length e.1 s)) s

/-- A key for an entry of an LCN in a table of the Bridle: the newest of the LCN's entries comes last. -/
def nextEntry {α : Type} (t : Tab α) (lcn : Nat) : Nat :=
  (t.filter fun e => e.1 / 65536 = lcn).foldl (fun n e => max n (e.1 + 1)) (lcn * 65536)
/-- The oldest entry of an LCN. -/
def oldestEntry {α : Type} (t : Tab α) (lcn : Nat) : Option (Nat × α) := t.find? fun e => e.1 / 65536 = lcn

/-- Count a tile and its progress (R266, R406). `macs` is the product of its dimensions. -/
def countTile (p : Nat) (contraction : Bool) (macs : Nat) (s : State) : State :=
  let s := countCore p (if contraction then 1 else 2) 1 s
  progressEvent (puaClusterKey p) (if contraction then countCore p 8 macs s else s)

/-! ### The sample stream (R143 to R148, R235) -/

/-- The count at which a group is sampled (R145). -/
def samplePosition (s : State) (k lcn start len : Nat) (epoch : Nat) : Nat :=
  start + (randomWord (seedFor s k epoch) lcn (start / len) 127).toNat % len
/-- The drawn count of a group: the one that the Bridle drew as it began, else drawn now (R145). -/
def drawnCount (s : State) (k lcn first len epoch : Nat) : Nat :=
  match (lcnRec s lcn).draw with
  | some d => if d.1 = first && d.2.1 = len then d.2.2 else samplePosition s k lcn first len epoch
  | none => samplePosition s k lcn first len epoch
/-- A tile of the sample stream ends (R143 to R148, R152, R235): the progress count advances; a sampled tile that was
released gets its descriptor, pins and replay. One that was not released leaves its sample to the next tile. A tile that ends after
a cut of the count (R144) keeps the count that it took and ends the group that the cut shortened. -/
def endSample (lcn p : Nat) (t : Tile) (start : Nat) (r : RunResult) (released : Bool) (s : State) : State :=
  let k := sliceOfLcn s lcn
  let now := keeperRead s (fieldKeeper (puaFieldIdx p))
  let prog := (core s p).taken.1
  let len := groupLength (core s p).taken.2
  let rec_ := lcnRec s lcn
  let behind := decide (rec_.progress ≠ prog)
  let s := if behind then s else modLcn lcn (fun r => { r with
    progress := (prog + 1) % 2 ^ 64, lastEnd := now, lastReleased := if released then some (prog, now) else r.lastReleased }) s
  if len = 0 then s else
  let first := prog / len * len
  let pos := drawnCount s k lcn first len (epochAt s k start)
  let second := first + (pos - first + len / 2) % len
  let s := modLcn lcn (fun r => if behind then
      { r with groupEnds := tset r.groupEnds first (now + groupDeadline len),
               verdicts := if prog < pos then addHold first r.verdicts else r.verdicts }
    else { r with
      draw := some (first, len, pos),
      groupEnds := if prog = first + len - 1 then tset r.groupEnds first (now + groupDeadline len) else r.groupEnds }) s
  let sampled := decide (prog = pos) || (stateOf s p == .watched && decide (prog = second)) || rec_.makeUp
  let d : Descriptor := {
    lcn := lcn, progress := prog, group := some first, original := p, tile := t, epoch := epochAt s k start,
    result := r, endPt := now, unchecked := false, attempt := 0, stale := false }
  if !sampled && !rec_.extraSample then s
  else if !released then modLcn lcn (fun r => { r with makeUp := true }) s
  else
    let full := decide (8 ≤ (core s p).pins.length)
    let s := pinInputs p t (modLcn lcn (fun r => { r with makeUp := false, extraSample := false }) s)
    let s := if full then
        modHeld p (fun c => { c with stalls := addHold 1 c.stalls }) (addSobj k (key 0x2607 10) 1 s) else s
    if rec_.extraSample then orderImmediate (puaClusterKey p) d s else dispatchReplay d s

end Sys2Proof.Machine
end

