-- ==== Sys2Proof/Machine/Projection.lean ====
section
/-!
DEFINITION. The verdicts on contraction tiles and their recomputation (R101, R127 to R141, R179), and the ends of the
other tiles (R105, R143).
-/
namespace Sys2Proof.Machine
open Sys2Proof

/-! ### Verdicts (R127, R129, R138, R139, R141) -/

/-- Whether what a Core Port tapped is a tile that the check covers (R127). -/
def tapsValid (t : Taps) : Bool :=
  decide (1 ≤ t.m && t.m ≤ 128 && 1 ≤ t.n && t.n ≤ 128 && 16 ≤ t.k && t.k ≤ 4096 && t.k % 16 = 0) &&
  decide (1 ≤ t.fmtA && t.fmtA ≤ 6 && 1 ≤ t.fmtB && t.fmtB ≤ 6) && decide ((t.fmtA = 6) = (t.fmtB = 6)) &&
  decide (t.b.length = t.k * t.n) && decide (t.drain.length = t.m * t.n) &&
  (match t.c0 with
    | some c => decide (c.length = t.m * t.n)
    | none => true) &&
  (match t.codes with
    | some c => decide (t.a.length * 2 = t.m * t.k) && decide (c.length = t.a.length)
    | none => decide (t.a.length = t.m * t.k))
/-- Whether the two conversions of the drain agree (R129). -/
def converterAgrees (t : Taps) : Bool := t.convCore == t.convPort
/-- A verdict on one execution. -/
inductive Verdict where
  | pass
  | unchecked
  | fail (pair : Nat) (v : PairVerdict) (converter : Bool)
  deriving DecidableEq, Repr
/-- The lowest pair that fails, where free bits stand for verdicts that the unit's rounding decides. -/
def firstFailure : Nat → List PairVerdict → List Bool → Option (Nat × PairVerdict)
  | _, [], _ => none
  | i, v :: r, free =>
    if v.fails.getD (free.headD false) then some (i, v) else firstFailure (i + 1) r (free.drop 1)
/-- The verdict of the Bridle on an execution with words from `base` on (R129, R135 to R139). Two free bits are taken. A
failure of the converters alone names pair 0 and its values, and zeros where the projection could not be formed: the rule names
no pair for it (notes/assumptions/185.md). -/
def judge (lcn count base : Nat) (seed : Word64) (m : Mode) (t : Taps) (s : State) : Verdict × State :=
  let (b0, s) := takeBit s
  let (b1, s) := takeBit s
  match projectAll seed lcn count base (signPairs m) t with
  | none => if converterAgrees t then (.unchecked, s) else (.fail 0 ⟨0, 0, 0, none⟩ true, s)
  | some vs => match firstFailure 0 vs [b0, b1] with
    | some f => (.fail f.1 f.2 false, s)
    | none => if converterAgrees t then (.pass, s)
      else (.fail 0 (vs.headD ⟨0, 0, 0, none⟩) true, s)
/-- Report a failed verdict (R141): 0x2507, the record of code 0x2501, and the charge of `cause` to the core. -/
def reportFailure (k lcn core count attempt epoch cause : Nat) (t : Taps) (pair : Nat) (v : PairVerdict)
    (detected : Option Nat) (s : State) : State :=
  let fmt := tileFormat t
  let (f1, s) := takeNat s
  let (f2, s) := takeNat s
  let blur := fun (f x : Nat) => if fmt = 6 then x else blurReal f x
  let delta := blur f1 (real32 v.delta v.scale)
  let half := if fmt = 6 then 0 else blur f2 (real32 v.half v.scale)
  let tag := attempt % 4 * 16 + pair
  let s := setSobjs k [(key 0x2507 1, lcn), (key 0x2507 2, count), (key 0x2507 3, fmt), (key 0x2507 4, delta),
    (key 0x2507 5, half), (key 0x2507 6, tag)] s
  let e := stamped s (stampKeeper core) .charge cause 0x2501 core k (puaDie core)
    (leBytes 6 count ++ leBytes 1 fmt ++ leBytes 1 tag ++ leBytes 4 delta ++ leBytes 4 half ++ leBytes 4 epoch)
  raise core { e with seqKeys := [(k, key 0x2507 7)], detected := detected } s

/-! ### Recomputation (R139, R140, R179) -/

/-- Change an entry of the recomputes. -/
def setRecompute (n : Nat) (x : Recompute) (s : State) : State := { s with recomputes := tset s.recomputes n x }
/-- End a recompute: its entry and its pins go. -/
def endRecompute (n : Nat) (x : Recompute) (s : State) : State :=
  unpinInputs x.original x.tile { s with recomputes := tdel s.recomputes n }
/-- Start the recomputation of a tile (R140): its local inputs are pinned, attempt 1 runs at once on the core of
R139's order. -/
def startRecompute (lcn original count epoch : Nat) (t : Tile) (stream : Option (Nat × Nat)) (outbound : Bool) (s : State) :
    State :=
  let c := (immediateCore s (puaClusterKey original) [original]).getD original
  let x : Recompute := {
    tile := t, original := original, attempt := 1, core := c, first := c, contraction := count, epoch := epoch,
    stream := stream, outbound := outbound }
  addSobj (sliceOfLcn s lcn) (key 0x2506 4) 1 (setRecompute (nextEntry s.recomputes lcn) x (pinInputs original t s))
/-- After a failed attempt the next one starts; after the third the output blocks are poisoned (R140). -/
def nextAttempt (n lcn : Nat) (x : Recompute) (s : State) : State :=
  let k := sliceOfLcn s lcn
  match x.attempt with
  | 1 => addSobj k (key 0x2506 4) 1 (setRecompute n { x with attempt := 2, core := x.original } s)
  | 2 =>
    let c := (lastAttemptCore s (puaClusterKey x.original) [x.original, x.first]).getD x.first
    addSobj k (key 0x2506 4) 1 (setRecompute n { x with attempt := 3, core := c } s)
  | _ => poisonOutputs k x.original 2 x.tile (fun _ => true) (addSobj k (key 0x2506 5) 1 (endRecompute n x s))
/-- The words that a tile recorded of its inputs. -/
def inputWords (t : Tile) : List Word64 := t.inputs.map (·.word)
/-- A tile of the sample stream, with its count and end PT, is released after the verdict on a later execution: it may be the
last released one (R156). -/
def noteReleased (lcn : Nat) (stream : Option (Nat × Nat)) (s : State) : State :=
  match stream with
  | none => s
  | some t => modLcn lcn (fun r => if (r.lastReleased.map (·.1)).all (· < t.1) then { r with lastReleased := some t } else r) s
/-- The count and end PT of a tile that ends on a core now, where it belongs to the sample stream (R143). -/
def streamEnd (p : Nat) (t : Tile) (s : State) : Option (Nat × Nat) :=
  if inStream (core s p).taken.2 t.kind then some ((core s p).taken.1, keeperRead s (fieldKeeper (puaFieldIdx p))) else none
/-- An unchecked execution is withheld and replayed at once (R139). -/
def orderUnchecked (lcn original core epoch attempt : Nat) (t : Tile) (stream : Option (Nat × Nat)) (r : RunResult) (s : State) :
    State :=
  let at_ := stream.getD ((lcnRec s lcn).progress, keeperRead s (fieldKeeper (puaFieldIdx core)))
  let d : Descriptor := {
    lcn := lcn, progress := at_.1, group := none, original := core, tile := t, epoch := epoch,
    result := r, endPt := at_.2, unchecked := true, attempt := attempt, stale := false }
  orderImmediate (puaClusterKey original) d (pinInputs original t (addSobj (sliceOfLcn s lcn) (key 0x2506 3) 1 s))

/-- The verdict on an execution whose pairs begin at `first`: the projection's in Standard and Strict, the converters' alone in
Observe (R129, R138, R140). -/
def verdictOn (lcn count first : Nat) (seed : Word64) (m : Mode) (t : Taps) (s : State) : Verdict × State :=
  if signPairs m ≠ 0 then judge lcn count first seed m t s
  else if converterAgrees t then (.pass, s) else (.fail 0 ⟨0, 0, 0, none⟩ true, s)
/-- CONTRACTION_TILE_END (R101, R127 to R141): a contraction tile drains. The verdict on it releases its output or starts its
recomputation. A tile of the sample stream then goes on as in R143. -/
def execContractionTileEnd (dt lcn : Nat) (taps : Taps) (r : RunResult) (s : State) : Result :=
  let s := elapse dt s
  done <| match tileCore s lcn with
  | none => s
  | some p => match (core s p).tile with
    | none => s
    | some (start, t) =>
      let m := (core s p).taken.2
      if !isContraction t.kind || m = .full || !tapsValid taps then s else
      let k := sliceOfLcn s lcn
      let r := formedResult s k t r
      let count := (lcnRec s lcn).contraction
      let extra := (lcnRec s lcn).extraContraction && t.kind == .contraction
      let epoch := epochAt s k start
      let stream := streamEnd p t s
      let s := leaveTile p (modLcn lcn (fun r => { r with contraction := (count + 1) % 2 ^ 64 }) s)
      let s := countTile p true (taps.m * taps.n * taps.k) s
      let home := (coreOf s lcn).getD p
      let sample := fun (released : Bool) (s : State) => if stream.isSome then endSample lcn p t start r released s else s
      let (v, s) := verdictOn lcn count 0 (seedFor s k epoch) m taps s
      let checked := fun (s : State) => if signPairs m = 0 then s else addSobj k (key 0x2506 1) 1 s
      match v with
      | .pass =>
        let s := releaseOutputs home t r.words (checked s)
        let d : Descriptor := {
          lcn := lcn, progress := (core s p).taken.1, group := none, original := p, tile := t,
          epoch := epoch, result := r, endPt := keeperRead s (fieldKeeper (puaFieldIdx p)), unchecked := false, attempt := 0,
          stale := false }
        let s := if extra then
            orderImmediate (puaClusterKey p) d (pinInputs p t (modLcn lcn (fun r => { r with extraContraction := false }) s)) else s
        sample true s
      | .unchecked => sample false (orderUnchecked lcn p p epoch 0 t stream r (storeOutputs home t r.words false s))
      | .fail pair v conv =>
        let s := storeOutputs home t r.words false (addSobj k (key 0x2506 2) 1 (checked s))
        let s := if converterAgrees taps then s else addSobj k (key 0x2506 6) 1 s
        let s := startRecompute lcn p count epoch t stream false s
        sample false (reportFailure k lcn p count 0 epoch (if conv then 3 else 1) taps pair v (detectionHour s) s)

/-- RECOMPUTE_ATTEMPT_END (R139 to R141, R179): the oldest recompute of an LCN ends an attempt. A recorded input that no
longer carries its word makes an outbound recomputation impossible, and any other attempt fail. -/
def execRecomputeAttemptEnd (dt lcn : Nat) (fetched : List Word64) (taps : Taps) (r : RunResult) (s : State) :
    Result :=
  let s := elapse dt s
  done <| match if frozen s then none else oldestEntry s.recomputes lcn with
  | none => s
  | some (n, x) =>
    let k := sliceOfLcn s lcn
    let r := formedResult s k x.tile r
    let waits := s.clusters.any (fun e => e.2.descriptors.any fun d => d.lcn = lcn && 0 < d.attempt) ||
      s.cores.any fun e => e.2.queue.any fun d => d.lcn = lcn && 0 < d.attempt
    if waits then s
    else if fetched ≠ inputWords x.tile then
      (if x.outbound then poisonOutputs k x.original 6 x.tile (fun _ => true)
        (addSobj k (key 0x2706 9) 1 (endRecompute n x s))
      else nextAttempt n lcn x (raise x.core (stamped s (stampKeeper x.core) .charge 2 0 x.core k (puaDie x.core) []) s))
    else
      let pass := fun (s : State) =>
        noteReleased lcn x.stream (releaseOutputs ((coreOf s lcn).getD x.original) x.tile r.words (endRecompute n x s))
      if !isContraction x.tile.kind then pass s
      else if !tapsValid taps then s
      else
        let m := lcnMode s lcn
        let (v, s) := verdictOn lcn x.contraction (16 * x.attempt) (seedFor s k x.epoch) m taps s
        match v with
        | .pass => pass s
        | .unchecked => orderUnchecked lcn x.original x.core x.epoch x.attempt x.tile x.stream r s
        | .fail pair v _ =>
          nextAttempt n lcn x (reportFailure k lcn x.core x.contraction x.attempt x.epoch 2 taps pair v none s)

/-! ### Other tiles -/

/-- SAMPLE_STREAM_TILE_END (R143 to R152): an eligible tile that is no contraction tile ends. -/
def execSampleStreamTileEnd (dt lcn : Nat) (r : RunResult) (s : State) : Result :=
  let s := elapse dt s
  done <| match tileCore s lcn with
  | none => s
  | some p => match (core s p).tile with
    | none => s
    | some (start, t) =>
      if t.kind ≠ .eligible || lcnMode s lcn = .full then s else
      let r := formedResult s (sliceOfLcn s lcn) t r
      let s := releaseOutputs ((coreOf s lcn).getD p) t r.words (countTile p false 0 (leaveTile p s))
      endSample lcn p t start r true s

/-- Count an ineligible compute tile (R105); in Standard and Strict it voids the bound for 1 s (R114). -/
def countIneligible (k : Nat) (m : Mode) (s : State) : State :=
  let s := addSobj k (key 0x2409 1) 1 s
  if signPairs m = 0 then s
  else refreshBound k (modSlice k (fun x => { x with ineligibleAt := some (pt s) }) s)
/-- INELIGIBLE_COMPUTE_TILE_END (R105, R114, R266): a compute tile ends that is neither a contraction tile nor eligible.
The checks of its blocks are free: no operand names them. In Full the pair compares it (R158), as FULL_PAIR_TILE_END. -/
def execIneligibleComputeTileEnd (dt lcn : Nat) (s : State) : Result :=
  let s := elapse dt s
  done <| match tileCore s lcn with
  | none => s
  | some p => match (core s p).tile with
    | none => s
    | some (_, t) =>
      if t.kind ≠ .ineligible || lcnMode s lcn = .full then s else
      let k := sliceOfLcn s lcn
      let words := t.outputs.zipIdx.map fun e => resultWord s k e.1.format (Config.freeWord (s.free + e.2))
      let s := { s with free := s.free + t.outputs.length }
      countIneligible k (lcnMode s lcn)
        (releaseOutputs ((coreOf s lcn).getD p) t words (countTile p false 0 (leaveTile p s)))

end Sys2Proof.Machine
end

