-- ==== Sys2Proof/Machine/Replay.lean ====
section
/-!
DEFINITION. The verdicts of replays, tie-breaks and Full pairs (R147, R148, R155 to R159, R261), the suspect interval
(R102), and the groups of the sample stream (R114, R148).
-/
namespace Sys2Proof.Machine
open Sys2Proof

/-- PINNED_BLOCK_FETCH (R147): a replay core has fetched a pinned block; its pin goes, and with it what waited for it. -/
def execPinnedBlockFetch (dt : Nat) (core_ : Pua) (block : Nat) (s : State) : Result :=
  let s := elapse dt s
  let p := core_.toNat
  done <| if (core s p).pins.contains block then releasePins p [block] s else s

/-! ### Replays (R148, R155) -/

/-- The core whose queue holds the replay that ends: for an LCN the immediate one first, then the oldest. -/
def endingReplay (s : State) (lcn : Nat) : Option (Nat × Descriptor) :=
  let all := if frozen s then [] else s.cores.flatMap fun e => (e.2.queue.filter fun d => d.lcn = lcn).map fun d => (e.1, d)
  all.foldl (fun best x => match best with
    | none => some x
    | some b => if (x.2.group.isNone && b.2.group.isSome) ||
        (x.2.group.isNone = b.2.group.isNone && x.2.endPt < b.2.endPt) then some x else best) none
/-- A core is withheld at a mismatch: its tile in progress stops and counts as interrupted (R155, R252). -/
def interruptCore (p : Nat) (s : State) : State :=
  modHeld p (fun c => if c.withheld then c else
    { c with withheld := true, withheldAt := some s.now, interrupted := c.tile.or c.heldTile, tile := none,
             heldTile := none }) s
/-- A withheld core resumes issue and reruns its stopped tile first (R155). -/
def resumeCore (p : Nat) (s : State) : State :=
  let c := core s p
  let s := modHeld p (fun c => { c with withheld := false, withheldAt := none, interrupted := none }) s
  match c.interrupted, lcnOfCore s p with
  | some t, some lcn => startTile lcn p t.2 s
  | _, _ => s
/-- A mismatch: the Bridle reports it, withholds the original core at once and starts the tie-break (R115, R155). -/
def startTieBreak (d : Descriptor) (rc : Nat) (r : RunResult) (s : State) : State :=
  let k := sliceOfLcn s d.lcn
  let ck := puaClusterKey d.original
  let e := { recordEvent s 0 d.original k [] with detected := detectionHour s }
  let rel := (lcnRec s d.lcn).lastReleased
  let s := raise d.original e s
  let s := if coreOf s d.lcn = some d.original then interruptCore d.original s else s
  let tb := (tieBreakCore s ck [d.original, rc]).getD rc
  let x : Arbitration := { desc := d, replay := r, replayCore := rc, core := tb, released := rel, borrowed := [] }
  { s with tieBreaks := tset s.tieBreaks (nextEntry s.tieBreaks d.lcn) x }
/-- The last matching replay of a tile of the sample stream on the core that serves its LCN (R156). -/
def noteMatch (d : Descriptor) (s : State) : State :=
  if coreOf s d.lcn ≠ some d.original || !(d.group.isSome || inStream (lcnMode s d.lcn) d.tile.kind) then s else
  modLcn d.lcn (fun r => if (r.lastMatch.map (·.1)).all (· < d.progress) then
    { r with lastMatch := some (d.progress, d.endPt) } else r) s
/-- What a matching replay does (R139, R156): the last match, and the release of the output of an unchecked execution. -/
def replayMatches (d : Descriptor) (s : State) : State :=
  let k := sliceOfLcn s d.lcn
  let s := addSobj k (key 0x2607 2) 1 s
  if !d.unchecked then noteMatch d s else
  let home := (coreOf s d.lcn).getD d.original
  let stream := if inStream (lcnMode s d.lcn) d.tile.kind then some (d.progress, d.endPt) else none
  if d.attempt = 0 then
    noteReleased d.lcn stream (noteMatch d (unpinInputs d.original d.tile (releaseOutputs home d.tile d.result.words s)))
  else match oldestEntry s.recomputes d.lcn with
    | some (n, x) => noteReleased d.lcn x.stream (releaseOutputs home x.tile d.result.words (endRecompute n x s))
    | none => s
/-- What a replay that does not match does (R139, R155). -/
def replayDiffers (d : Descriptor) (rc : Nat) (r : RunResult) (s : State) : State :=
  let k := sliceOfLcn s d.lcn
  if d.unchecked && 0 < d.attempt then
    match oldestEntry s.recomputes d.lcn with
    | some (n, x) => nextAttempt n d.lcn x
        (raise x.core (stamped s (stampKeeper x.core) .charge 2 0 x.core k (puaDie x.core) []) s)
    | none => s
  else startTieBreak d rc r (addSobj k (key 0x2607 3) 1 s)

/-- REPLAY_COMPLETE (R148, R153 to R155, R182): a replay of an LCN ends. It is stale when a fetched word differs from
the recorded one, arrived poisoned, or its original core has been reset. -/
def execReplayComplete (dt lcn : Nat) (fetched : List Word64) (r : RunResult) (s : State) : Result :=
  let s := elapse dt s
  done <| match endingReplay s lcn with
  | none => s
  | some (rc, d) =>
    -- a test target runs only test tiles (R196)
    if (core s rc).test.isSome then s else
    let k := sliceOfLcn s lcn
    let r := formedResult s k d.tile r
    let s := spareMove rc (modCore rc (fun c => { c with queue := c.queue.erase d }) s)
    let stale := d.stale || decide (fetched ≠ inputWords d.tile) || fetched.any wordPoison
    if stale then
      let s := addSobj k (key 0x2607 4) 1 s
      refillQueues (if d.unchecked && !d.stale then orderImmediate (puaClusterKey d.original) d s
        else if d.group.isNone then s
        else modLcn lcn (fun r => { r with makeUp := true }) s)
    else
      let s := addSobj k (key 0x2607 1) 1 s
      let s := modLcn lcn (fun x => match d.group with
        | some g => { x with verdicts := addHold g x.verdicts }
        | none => x) s
      refillQueues (if resultsMatch s d.tile d.result r then replayMatches d s else replayDiffers d rc r s)

/-! ### Tie-breaks (R102, R155, R156) -/

/-- The outputs whose current word still equals the recorded one (R156), and the mask of those skipped. -/
def unchanged (d : Descriptor) (current : List Word64) (i : Nat) : Bool :=
  decide (current.getD i 0 = d.result.words.getD i 0)
/-- The mask of the output blocks that are skipped. -/
def skippedMask (d : Descriptor) (current : List Word64) : Nat :=
  ((List.range d.tile.outputs.length).filter fun i => !unchanged d current i).foldl (fun m i => m + 2 ^ i) 0
/-- Write an arbitration's output to the destinations that still hold the recorded word (R156). Those outside local
SRAM receive it as transfers. -/
def writeSelected (p : Nat) (d : Descriptor) (words current : List Word64) (s : State) : State :=
  d.tile.outputs.zipIdx.foldl (fun s e => match e.1.localBlock with
    | some n =>
      if unchanged d current e.2 then setSram p n ⟨words.getD e.2 0, true, some d.tile, none⟩ s else s
    | none => s) s
/-- The suspect interval of a mismatch (R102, R156): first count and PT of its start, last count and PT of its end, and
the number of its tiles; none when no tile lies in it. -/
def suspectInterval (r : LcnRec) (released : Option (Nat × Nat)) : Option (Nat × Nat × Nat × Nat × Nat) :=
  let begin_ := match r.lastMatch with
    | some m => some (m.1 + 1, m.2)
    | none => r.first
  match begin_, released with
  | some b, some l =>
    let first := match r.gaps.find? fun g => g.1 ≤ b.1 && b.1 < g.2 with
      | some g => g.2
      | none => b.1
    let skipped := ((r.gaps.filter fun g => first ≤ g.1 && g.2 ≤ l.1).map fun g => g.2 - g.1).sum
    if first ≤ l.1 then some (first, b.2, l.1, l.2, l.1 + 1 - first - skipped) else none
  | _, _ => none
/-- The Gondola raises the suspect-interval event (R102): 0x2410, 0x2411, code 0x2402, whose PT is the interval's end. -/
def raiseSuspect (k lcn p : Nat) (released : Option (Nat × Nat)) (s : State) : State :=
  match suspectInterval (lcnRec s lcn) released with
  | none => s
  | some (first, start, last, end_, n) =>
    let s := setSobjs k [(key 0x2410 1, lcn), (key 0x2410 2, first), (key 0x2410 3, last), (key 0x2410 4, start),
      (key 0x2410 5, end_), (key 0x2410 6, n)] s
    let s := setSobj k (key 0x2411 0) (satAdd 32 (sobj s k (key 0x2411 0) 0) 1) s
    let e := { recordEvent s 0x2402 p k (leBytes 6 first ++ leBytes 6 last ++ leBytes 4 n ++ leBytes 8 start) with
      pt := end_, seqKeys := [(k, key 0x2410 7)], noteCode := 0x2402, note := leBytes 4 lcn ++ leBytes 4 n }
    raiseLocal e.die e s
/-- A Bridle reports a cause against a core (R228); `code` and `payload` are its record, if it has one. -/
def reportCause (p cause code k : Nat) (payload : List Byte) (keys : List (Nat × Nat)) (s : State) : State :=
  raise p { stamped s (stampKeeper p) .charge cause code p k (puaDie p) payload with seqKeys := keys } s

/-- TIE_BREAK_COMPLETE (R102, R155, R156): the oldest tie-break of an LCN ends. Outcome 0 names the original core, 1 the
replay core, 2 neither. The output of an unchecked original is never released (R139): where the tie-break matches it, the
tie-break's own output is (notes/assumptions/191.md). -/
def execTieBreakComplete (dt lcn : Nat) (r : RunResult) (current : List Word64) (s : State) : Result :=
  let s := elapse dt s
  done <| match if frozen s then none else oldestEntry s.tieBreaks lcn with
  | none => s
  | some (n, x) =>
    let k := sliceOfLcn s lcn
    let d := x.desc
    let r := formedResult s k d.tile r
    let home := (coreOf s lcn).getD d.original
    let out := if resultsMatch s d.tile x.replay r then 0 else if resultsMatch s d.tile d.result r then 1 else 2
    let s := { s with tieBreaks := tdel s.tieBreaks n }
    let s := setSobjs k [(key 0x2609 1, lcn), (key 0x2609 2, x.replayCore), (key 0x2609 3, d.progress),
      (key 0x2609 4, out)] s
    let mask := if out = 1 then 0 else skippedMask d current
    let payload := leBytes 6 d.progress ++ leBytes 4 x.replayCore ++ leBytes 1 out ++ leBytes 2 mask
    let keys := [(k, key 0x2609 5)]
    match out with
    | 0 =>
      let s := writeSelected home d r.words current s
      raiseSuspect k lcn d.original x.released (reportCause d.original 0x10 0x2601 k payload keys s)
    | 1 =>
      let s := addSobj k (key 0x2607 7) 1 s
      let e := { recordEvent s 0x2601 d.original k payload with seqKeys := keys }
      let s := reportCause x.replayCore 0x04 0 k [] [] (raise d.original e s)
      let s := if d.unchecked then
          unpinInputs d.original d.tile (releaseOutputs home d.tile r.words s) else s
      if coreOf s lcn = some d.original && stateOf s d.original != .quarantined then resumeCore d.original s else s
    | _ =>
      let s := poisonOutputs k home 2 d.tile (unchanged d current) (addSobj k (key 0x2607 8) 1 s)
      let s := reportCause d.original 0x10 0x2601 k payload keys s
      let s := raise x.replayCore (recordEvent s 0 x.replayCore k []) s
      raiseSuspect k lcn d.original x.released s

/-! ### Groups (R114, R144, R148) -/

/-- REPLAY_GROUP_END (R114, R148): the replay deadline of a group, named by its first count, has passed. A group
without a verdict enters bound state 2; one with a verdict clears its core. -/
def execReplayGroupEnd (dt lcn group : Nat) (s : State) : Result :=
  let s := elapse dt s
  let k := sliceOfLcn s lcn
  let r := lcnRec s lcn
  done <| match tget r.groupEnds group with
  | none => s
  | some t =>
    if pt s < t then s else
    let ok := r.verdicts.contains group
    let s := modLcn lcn (fun r => { r with
      groupEnds := tdel r.groupEnds group, verdicts := r.verdicts.filter (· ≠ group), short := !ok }) s
    let s := if ok then s else addSobj k (key 0x2607 9) 1 s
    refreshBound k (modSlice k (fun x => { x with
      short := if ok then x.short.filter (· ≠ lcn) else addHold lcn x.short }) s)

/-! ### Full mode (R157 to R159) -/

/-- The pair of an LCN in Full: its leader and follower LCN and the cores that serve them. -/
def pairCores (s : State) (lcn : Nat) : Option (Nat × Nat) :=
  match coreOf s lcn, coreOf s (lcn + 1) with
  | some a, some b => if lcnMode s lcn == .full && lcn % 2 = 0 && !frozen s then some (a, b) else none
  | _, _ => none
/-- The other pairs of a cluster that can lend their leader (R159): no pair that is itself withheld or lent. -/
def otherLeaders (s : State) (lcn : Nat) : List (Nat × Nat) :=
  ((List.range 8).map fun i => lcn / 16 * 16 + 2 * i).filterMap fun l =>
    if l = lcn then none else (pairCores s l).filter fun c => [c.1, c.2].all fun p =>
      inService (stateOf s p) && !(core s p).withheld && !(core s p).stalls.contains 3
/-- Count an ended tile of the leader or follower: its counters and counts. How many MACs it ran is free: no operand
names its dimensions. -/
def endPairTile (lcn p : Nat) (t : Tile) (s : State) : State :=
  let (n, s) := takeNat s
  let now := keeperRead s (fieldKeeper (puaFieldIdx p))
  let c := isContraction t.kind
  modLcn lcn (fun r => { r with
    contraction := if c then (r.contraction + 1) % 2 ^ 64 else r.contraction, lastEnd := now,
    progress := if inStream .full t.kind then (r.progress + 1) % 2 ^ 64 else r.progress,
    lastReleased := if inStream .full t.kind then some (r.progress, now) else r.lastReleased })
    (countTile p c (n % 2 ^ 26) (leaveTile p s))
/-- FULL_PAIR_TILE_END (R105, R157 to R159): the Core Ports of a pair compare. A match releases the leader's output, and the
follower writes nothing; a mismatch withholds both and starts a third execution on the spare, the adoptive core or the leader of
another pair, which is held. -/
def execFullPairTileEnd (dt lcn : Nat) (leader follower : RunResult) (s : State) : Result :=
  let s := elapse dt s
  done <| match pairCores s lcn with
  | none => s
  | some (a, b) => match (core s a).tile, (core s b).tile with
    | some (start, t), some _ =>
      if t.kind = .move then s else
      let k := sliceOfLcn s lcn
      let leader := formedResult s k t leader
      let follower := formedResult s k t follower
      let d : Descriptor := {
        lcn := lcn, progress := (lcnRec s lcn).progress, group := none, original := a, tile := t,
        epoch := epochAt s k start, result := leader, endPt := pt s, unchecked := false, attempt := 0, stale := false }
      let s := endPairTile (lcn + 1) b t (endPairTile lcn a t s)
      let s := if t.kind = .ineligible then countIneligible k .full s else s
      if resultsMatch s t leader follower then startHeld b (releaseOutputs a t leader.words s)
      else
        let ck := puaClusterKey a
        let s := addSobj k (key 0x2608 1) 1 s
        let s := raise a { recordEvent s 0 a k [] with detected := detectionHour s } s
        let s := interruptCore b (interruptCore a (storeOutputs a t leader.words false s))
        let other := (otherLeaders s lcn).head?
        let free := (freeSpare s ck).or (cluster s ck).adoptive
        let borrowed := if free.isSome then none else other
        let third := (free.or (other.map (·.1))).getD a
        let lent := (borrowed.map fun c => [c.1, c.2]).getD []
        let s := lent.foldl (fun s q => modHeld q (fun c => { c with stalls := addHold 3 c.stalls }) s) s
        let x : Arbitration := {
          desc := d, replay := follower, replayCore := b, core := third, released := none, borrowed := lent }
        { s with thirds := tset s.thirds (nextEntry s.thirds lcn) x }
    | _, _ => s

/-- THIRD_EXECUTION_COMPLETE (R156, R159): the third execution of a pair ends; the output of the majority is released,
or the blocks are poisoned when all three differ. The cores outside the majority are charged. -/
def execThirdExecutionComplete (dt lcn : Nat) (r : RunResult) (current : List Word64) (s : State) : Result :=
  let s := elapse dt s
  done <| match if frozen s then none else oldestEntry s.thirds lcn with
  | none => s
  | some (n, x) =>
    let k := sliceOfLcn s lcn
    let d := x.desc
    let r := formedResult s k d.tile r
    let a := d.original
    let b := x.replayCore
    let out := if resultsMatch s d.tile d.result r then 0 else if resultsMatch s d.tile x.replay r then 1 else 2
    let s := { s with thirds := tdel s.thirds n }
    let s := x.borrowed.foldl (fun s q => startHeld q (modHeld q (fun c => { c with stalls := dropHold 3 c.stalls }) s)) s
    let payload := leBytes 6 d.progress ++ leBytes 4 b ++ leBytes 1 out
    match out with
    | 0 =>
      let s := releaseOutputs a d.tile d.result.words s
      resumeCore a (reportCause b 0x11 0 k [] [] (raise a (recordEvent s 0x2602 a k payload) s))
    | 1 =>
      let s := writeSelected a d r.words current s
      resumeCore b (reportCause a 0x11 0x2602 k payload [] s)
    | _ =>
      let s := poisonOutputs k a 2 d.tile (unchanged d current) (addSobj k (key 0x2608 2) 1 s)
      reportCause b 0x11 0 k [] [] (reportCause a 0x11 0x2602 k payload [] s)

/-! ### Withheld cores (R261) -/

/-- Whether an event of a unit waits anywhere between its Bridle and its Gondola's decision. -/
def eventWaits (s : State) (p : Nat) : Bool :=
  let mine := fun (e : Event) => e.pua = p && e.kind == .charge
  (cluster s (puaClusterKey p)).queue.any mine || (field s (puaFieldIdx p)).queue.any mine ||
    (die s (puaDie p)).local_.any mine || (die s (puaDie p)).handling.any mine
/-- WITHHOLD_REPEAT (R261): the Bridle repeats its report of a withheld core while no decision is acknowledged. It is
the same event, so it is raised again only when the first one was lost. -/
def execWithholdRepeat (dt : Nat) (core_ : Pua) (s : State) : Result :=
  let s := elapse dt s
  let p := core_.toNat
  let c := core s p
  done <| match c.withheldAt with
  | none => s
  | some t =>
    let deciding := s.tieBreaks.any (fun e => e.2.desc.original = p) ||
      s.thirds.any fun e => e.2.desc.original = p || e.2.replayCore = p
    if !c.withheld || s.now < t + 10000000 || deciding || eventWaits s p || (unitRec s p).open_ ||
        !inService (stateOf s p) then s
    else
      let k := sliceOfUnit s p
      let full : Bool := match lcnOfCore s p with
        | some l => lcnMode s l == .full
        | none => false
      reportCause p (if full then 0x11 else 0x10) 0 k [] [] s

end Sys2Proof.Machine
end

