-- ==== Sys2Proof/Machine/Streamers.lean ====
section
/-!
DEFINITION. Streamers on the data path (R162 to R192): the arrival test, refetch and repair, outbound blocks and parity
errors, DRAM attach points, intermediate checkers, and the host-I/O chiplets.
-/
namespace Sys2Proof.Machine
open Sys2Proof

/-! ### Words and blocks -/

/-- The CRC-32C of a payload as a number (R163). -/
def payloadCheck (payload : List Byte) : Nat := (crc32c payload).toNat
/-- The check that a word must carry for a payload: its complement when the block is poisoned (R164). -/
def checkFits (w : Word64) (payload : List Byte) : Bool :=
  let c := payloadCheck payload
  wordCheck w == if wordPoison w then 2 ^ 32 - 1 - c else c
/-- A block after a re-tag with the destination slice and its generation (R169). -/
def retag (w : Word64) (sl gen : Nat) : Word64 :=
  streamerWord (wordCheck w) gen (wordFormat w) sl (wordDerived w) (if wordPoison w then 1 else 0)

/-- The results of the arrival test (R176). -/
inductive Arrival where
  | stale | mismatch | poisoned | good
  deriving DecidableEq, Repr
/-- The arrival test (R176). `gen` is what the receiver's generation table holds for the source slice. -/
def arrivalTest (gen sl : Nat) (checking : Bool) (w : Word64) (payload : List Byte) : Arrival :=
  if wordSlice w ≠ sl || wordGeneration w ≠ gen then .stale
  else if wordReserved w ≠ 0 || wordFormat w = 0xA || wordFormat w = 0xB then .mismatch
  else if checking && !checkFits w payload then .mismatch
  else if wordPoison w then .poisoned else .good

/-- The key of a DRAM block. -/
def dramKey (a : DramAddr) : Nat := a.stack * 2 ^ 40 + a.slot * 2 ^ 32 + a.block
/-- A block that nothing has written since S5 or its slice's end: zero fill (R291, R365). -/
def zeroBlock : DramBlock := ⟨streamerWord zeroCheck 0 0xD 0 0 0, zeros 4096, false⟩
/-- A DRAM block. -/
def dramBlock (s : State) (a : DramAddr) : DramBlock := tgetD s.dram (dramKey a) zeroBlock
/-- Store a block with its side word. -/
def setDram (a : DramAddr) (w : Word64) (payload : List Byte) (s : State) : State :=
  { s with dram := tset s.dram (dramKey a) ⟨w, payload, false⟩ }
/-- The pseudo-channel that serves a block. -/
def dramUnit (s : State) (a : DramAddr) : Nat :=
  channelPua a.stack (tgetD s.channels (a.stack * 32 + a.slot) a.slot)
/-- Whether the attach answers for a lost stack or slot (R185, R248): the loss has been committed. -/
def answersLost (s : State) (a : DramAddr) : Bool :=
  let pending := s.commits.any fun c => c.bindings.any fun b => match b with
    | .stackLost j => j = a.stack
    | _ => false
  (s.unreachable.contains a.stack && !pending) || (tgetD s.lostSlots a.stack 0).testBit a.slot
/-- The generation table of a receiver (R171). -/
def receiverTable (t : Transfer) (addr : Option DramAddr) (v : Variant) : Nat :=
  if t.toHost then (match (hostChiplets v).find? fun k => hostRouter v k = some t.receiver.toNat with
    | some k => hostTable k
    | none => hostTable 0)
  else match addr with
    | some a => attachTable a.stack
    | none => puaClusterKey t.receiver.toNat
/-- Whether streamer checking is on for a slice (R191). -/
def checkingOn (s : State) (k : Nat) : Bool := sobj s k (key 0x2702 0) 1 = 1

/-! ### Resolving a transfer (R169, R177, R178, R186, R187) -/

/-- What the checkers saw of a transfer. -/
def followed (s : State) (id : Nat) : Followed := tgetD s.follows id ⟨0xFFFFFFFF, 0xFFFFFFFF, 0xFFFFFFFF⟩
/-- A transfer's block is no longer in flight past the checkers that follow it (R175). -/
def leaveFlight (id : Nat) (s : State) : State := { s with inFlight := s.inFlight.filter fun e => e.2 ≠ id }
/-- Close a transfer. -/
def closeTransfer (id : Nat) (s : State) : State :=
  { s with transfers := tdel s.transfers id, follows := tdel s.follows id,
           inFlight := s.inFlight.filter fun e => e.2 ≠ id }
/-- The outcome of a transfer that had mismatched (code 0x2701, 0x2708:05): 0 masked by refetch, 1 masked after repair, 2
poisoned on path, 3 stale. A mismatch that a refetch masked is charged to the first failing point (R228, R229). -/
def resolveTransfer (t : Transfer) (outcome : Nat) (good : Bool) (s : State) : State :=
  let f := followed s t.id
  let p := t.receiver.toNat
  let s := setObj (key 0x2708 5) outcome s
  let s := if good then addSobj t.destSlice (key 0x2706 4) 1 s else s
  let e := { recordEvent s 0x2701 p t.destSlice
    (leBytes 4 t.source.toNat ++ leBytes 4 f.firstFail ++ leBytes 4 f.lastGood ++ leBytes 1 outcome) with
    seqKeys := [(0, key 0x2708 6)] }
  let s := raise p e s
  let s := if outcome = 0 && f.firstFail ≠ 0xFFFFFFFF then
      reportCause f.firstFail 0x07 0 t.destSlice [] [] s else s
  closeTransfer t.id s
/-- The LCN that a transfer concerns, 0xFFFFFFFF for none. -/
def transferLcn (t : Transfer) : Nat := t.lcn.getD 0xFFFFFFFF
/-- A poisoned block on its way to the host is withheld, and the sending slice ends (R187). -/
def refuseHost (t : Transfer) (w : Word64) (s : State) : State :=
  let k := t.sourceSlice
  let s := addSobj k (key 0x2706 7) 1 (emit (.hostError t.id) s)
  match slice s k with
  | none => s
  | some x =>
    if x.consumed || !sliceLive x || x.life = .ending then s else
    let s := setSobjs k [(key 0x2709 1, transferLcn t), (key 0x2709 2, t.source.toNat), (key 0x2709 3, w.toNat)] s
    let e := { recordEvent s 0x2703 t.receiver.toNat k
      (leBytes 4 (transferLcn t) ++ leBytes 8 w.toNat ++ leBytes 4 t.source.toNat) with
      seqKeys := [(k, key 0x2709 4)], ends := some k }
    stopSlice k (modSlice k (fun x => { x with consumed := true, abandon := true }) (raise t.receiver.toNat e s))
/-- The receiver writes an accepted block, re-tagged (R169). A block of local SRAM has no open record then (R181); its write waits
while the block is pinned (R147). -/
def landBlock (t : Transfer) (addr : Option DramAddr) (w : Word64) (payload : List Byte) (s : State) : State :=
  let k := t.destSlice
  let new := retag w k (tableGeneration s k (receiverTable t addr s.variant))
  if t.toHost then
    (if wordPoison w then refuseHost t w s
    else carry t.sourceSlice t.receiver.toNat (countDie (puaDie t.receiver.toNat) t.sourceSlice 0x0304 1 s))
  else match addr with
    | some a => carry k (attachPua a.stack) (countDie (a.stack / 16) k 0x0302 1 (setDram a new payload s))
    | none =>
      let p := t.receiver.toNat
      let s := countCore p 3 1 s
      if (core s p).pins.contains t.block then
        addSobj k (key 0x2607 10) 1 (modCore p (fun c => { c with arrivals := c.arrivals ++ [(t, new)] }) s)
      -- a transfer that a cluster issued has completed (R266)
      else progressEvent (puaClusterKey p) (startHeld p (setSram p t.block ⟨new, true, none, some t⟩ s))
/-- Poison on path (R178, R183): the receiver writes zeros in the poisoned form with cause 5. -/
def poisonPath (o : OpenTransfer) (s : State) : State :=
  let t := o.transfer
  let k := t.destSlice
  let w := poisonWord (tableGeneration s k (receiverTable t o.addr s.variant)) 0 k 0
  let s := poisonRecord t.receiver.toNat 5 k w t.source.toNat (addSobj k (key 0x2706 6) 1 s)
  resolveTransfer t 2 false (landBlock t o.addr w (zeros 4096) s)
/-- The unit that is charged when refetching is exhausted (R178, R229). No rule gives the route of a block: of the lane groups and
links after the last good point the model knows those whose checkers passed it unchecked (notes/assumptions/192.md). -/
def pathUnit (t : Transfer) (f : Followed) : Nat :=
  if f.firstFail ≠ 0xFFFFFFFF then f.firstFail
  else if f.lastGood = 0xFFFFFFFF then t.source.toNat
  else if f.unseen ≠ 0xFFFFFFFF then f.unseen else t.receiver.toNat
/-- A refetch has failed: the next one, the path report, which names the first failing and the last good point, or poison on
path (R177, R178). At S7 a refetch is one of the
firmware broadcast (R372). -/
def failedFetch (o : OpenTransfer) (s : State) : State :=
  let t := o.transfer
  let k := t.destSlice
  let s := leaveFlight t.id s
  if o.repairing then poisonPath o s
  else if o.refetches < 3 then
    let x := die s (puaDie t.receiver.toNat)
    let s := if x.stage = 7 && x.stageRan then addObj (key 0x3421 1) 1 s else s
    emit (.refetch t.id) { addSobj k (key 0x2706 3) 1 s with
      transfers := tset s.transfers t.id { o with refetches := o.refetches + 1, started := s.now } }
  else
    let f := followed s t.id
    let u := pathUnit t f
    let e := stamped s (stampKeeper t.receiver.toNat) .charge 0x14 0 u k (puaDie u) (leBytes 4 f.firstFail ++ leBytes 4 f.lastGood)
    raise t.receiver.toNat e
      { s with transfers := tset s.transfers t.id { o with repairFrom := some s.now, unit := u } }
/-- A mismatch of an arriving block (R115, R176, R177): 0x2706:02, 0x2708, one detection for each block, and a refetch. -/
def mismatchArrival (t : Transfer) (addr : Option DramAddr) (s : State) : State :=
  let p := t.receiver.toNat
  let f := followed s t.id
  let s := addSobj t.destSlice (key 0x2706 2) 1 s
  let s := setObjs [(key 0x2708 1, p), (key 0x2708 2, t.source.toNat), (key 0x2708 3, f.firstFail),
    (key 0x2708 4, f.lastGood)] s
  match tget s.transfers t.id with
  | some o => failedFetch o s
  | none =>
    let s := raise p { recordEvent s 0 p t.destSlice [] with detected := detectionHour s } s
    failedFetch ⟨t, addr, 0, s.now, none, p, false⟩ s
/-- A block reaches a receiver (R169, R176 to R178, R189). -/
def arrive (t : Transfer) (addr : Option DramAddr) (w : Word64) (payload : List Byte) (s : State) : State :=
  let k := t.destSlice
  let gen := tableGeneration s t.sourceSlice (receiverTable t addr s.variant)
  let waits := match tget s.transfers t.id with
    | some o => o.repairFrom.isSome && !o.repairing
    | none => false
  if waits then s else
  match arrivalTest gen t.sourceSlice (checkingOn s k) w payload with
  | .stale =>
    let s := addObj (key 0x2707 7) 1 (addSobj k (key 0x2706 8) 1 s)
    if (tget s.transfers t.id).isSome then resolveTransfer t 3 false s else closeTransfer t.id s
  | .mismatch => mismatchArrival t addr (addSobj k (key 0x2706 1) 1 s)
  | _ =>
    let s := landBlock t addr w payload (addSobj k (key 0x2706 1) 1 s)
    match tget s.transfers t.id with
    | some o => resolveTransfer t (if o.repairing then 1 else 0) (!wordPoison w) s
    | none => closeTransfer t.id s

/-- BLOCK_ARRIVAL (R169, R176 to R178, R187, R189, R282): a block arrives at an inbound DMA edge or at host egress. A reply
to a request from before a reset is dropped; a write to a pinned block waits (R147). -/
def execBlockArrival (dt : Nat) (t : Transfer) (w : Word64) (payload : List Byte) (s : State) : Result :=
  let s := elapse dt s
  let p := t.receiver.toNat
  done (if !t.toHost && t.epoch % 4 ≠ coreEpoch s p then leaveFlight t.id (addObj (key 0x2C15 0) 1 s) else arrive t none w payload s)

/-- BLOCK_ARRIVAL_TIMEOUT (R176, R177, R185): a refetch has not returned within the refetch timeout, or the last flit of a
block, at local SRAM, host egress or the DRAM attach of `addr`, has not come after its first or came out of sequence, which is a mismatch. -/
def execBlockArrivalTimeout (dt : Nat) (t : Transfer) (addr : Option DramAddr) (s : State) : Result :=
  let s := elapse dt s
  done <| match tget s.transfers t.id with
  | some o =>
    let due := decide (o.started + obj s (key 0x2704 0) 2000 * 1000 ≤ s.now)
    if o.repairFrom.isSome && !o.repairing then s
    else if due then failedFetch o s
    -- before then the refetched block itself arrived broken off or out of sequence
    else mismatchArrival o.transfer o.addr (addSobj o.transfer.destSlice (key 0x2706 1) 1 s)
  | none =>
    if addr.isNone && !t.toHost && t.epoch % 4 ≠ coreEpoch s t.receiver.toNat then leaveFlight t.id (addObj (key 0x2C15 0) 1 s)
    else mismatchArrival t addr (addSobj t.destSlice (key 0x2706 1) 1 s)

/-- REPAIR_WAIT_EXPIRY (R178): no commit within the repair wait. -/
def execRepairWaitExpiry (dt id : Nat) (s : State) : Result :=
  let s := elapse dt s
  done <| match tget s.transfers id with
  | none => s
  | some o => match o.repairFrom with
    | none => s
    | some t => if o.repairing || s.now < t + obj s (key 0x2705 0) 50 * 1000000 then s else poisonPath o s

/-- The routing commit that a path report led to: the receivers that wait for it refetch once more (R178). -/
def repairAfter (units : List Nat) (s : State) : State :=
  (s.transfers.filter fun e => e.2.repairFrom.isSome && !e.2.repairing && units.contains e.2.unit).foldl (fun s e =>
    let o := { e.2 with repairing := true, started := s.now }
    emit (.refetch e.1) (addSobj o.transfer.destSlice (key 0x2706 5) 1
      { s with transfers := tset s.transfers e.1 o })) s

/-! ### Producers (R179 to R181) -/

/-- A block of local SRAM is not what its producer wrote: it is unreleased until its tile has been computed again, or, when it
came from outside the core, until a refetch from its source brings it again (R179, R180). -/
def recoverBlock (p block : Nat) (s : State) : State :=
  let s := modCore p (fun c => { c with sram := tupd c.sram block fun b => { b with released := false } }) s
  match tget (core s p).sram block with
  | none => s
  | some b => match b.producer, b.source with
    | some t, _ => match lcnOfCore s p with
      | some lcn => startRecompute lcn p (lcnRec s lcn).contraction (epochOf s (sliceOfLcn s lcn)) t none true s
      | none => s
    | none, some t => failedFetch ⟨{ t with epoch := coreEpoch s p }, none, 0, s.now, none, p, false⟩ s
    | none, none => s
/-- OUTBOUND_BLOCK_SEND (R172, R179): the Core Port checks a block that leaves its local SRAM. -/
def execOutboundBlockSend (dt : Nat) (core_ : Pua) (block : Nat) (payload : List Byte) (s : State) : Result :=
  let s := elapse dt s
  let p := core_.toNat
  done <| match tget (core s p).sram block with
  | none => s
  | some b =>
    if !b.released then s
    else if checkFits b.word payload then countCore p 4 1 s
    else recoverBlock p block (addSobj (sliceOfUnit s p) (key 0x2706 9) 1 s)
/-- SRAM_PARITY_ERROR (R115, R180): the Core Port aborts the tile, which reruns once the block is there again. -/
def execSramParityError (dt : Nat) (core_ : Pua) (block : Nat) (s : State) : Result :=
  let s := elapse dt s
  let p := core_.toNat
  let e := { stamped s (stampKeeper p) .charge 0x06 0 p (sliceOfUnit s p) (puaDie p) [] with detected := detectionHour s }
  let s := modCore p (fun c => { c with heldTile := c.tile.or c.heldTile, tile := none }) (raise p e s)
  done (startHeld p (recoverBlock p block s))

/-! ### DRAM attach points (R184, R185) -/

/-- The attach writes the poisoned form to the side word of a block whose data read as `payload` (R184). -/
def poisonAtRest (a : DramAddr) (cause sub : Nat) (payload : List Byte) (s : State) : State :=
  let b := dramBlock s a
  let w := b.word
  let new := streamerWord (2 ^ 32 - 1 - payloadCheck payload) (wordGeneration w) (wordFormat w) (wordSlice w)
    (wordDerived w) 1
  let u := dramUnit s a
  let s := addObj (key 0x2707 sub) 1 { s with dram := tset s.dram (dramKey a) { b with word := new } }
  reportCause u 0x0A 0x2702 (wordSlice w) (leBytes 1 cause ++ leBytes 8 new.toNat ++ leBytes 4 u) [] s
/-- DRAM_READ (R184): the attach checks the data as read against the stored word and rereads once. Where a raw rewrite
has left the word outside the rules (R192), the verdict is free. -/
def execDramRead (dt : Nat) (a : DramAddr) (first second : List Byte) (uncorrectable corrected : Bool) (s : State) :
    Result :=
  let s := elapse dt s
  let b := dramBlock s a
  let u := dramUnit s a
  let k := wordSlice b.word
  done <| if answersLost s a then s else
  let s := carry k (attachPua a.stack) (countDie (a.stack / 16) k 0x0301 1 s)
  if uncorrectable then poisonAtRest a 0 3 first s
  else
    let s := if corrected then reportCause u 0x09 0 k [] [] s else s
    let (b1, s) := takeBit s
    let (b2, s) := takeBit s
    let ok1 := if b.irregular then b1 else checkFits b.word first
    let ok2 := if b.irregular then b2 else checkFits b.word second
    if ok1 then s
    else if ok2 then reportCause u 0x09 0 k [] [] (addObj (key 0x2707 8) 1 s)
    else poisonAtRest a 1 4 second s
/-- DRAM_WRITE (R172, R176, R177): a block arrives at a DRAM attach. -/
def execDramWrite (dt : Nat) (a : DramAddr) (t : Transfer) (w : Word64) (payload : List Byte) (s : State) : Result :=
  let s := elapse dt s
  done (if answersLost s a || t.toHost then leaveFlight t.id s else arrive t (some a) w payload s)
/-- LOST_STACK_REQUEST (R183, R185, R248): a router answers a read of a lost stack with poisoned zeros and drops a
write. Before the commit a request times out at its sender. -/
def execLostStackRequest (dt : Nat) (a : DramAddr) (write : Bool) (k gen : Nat) (s : State) : Result :=
  let s := elapse dt s
  let u := dramUnit s a
  done <| if !answersLost s a then s
  else if write then addObj (key 0x2707 6) 1 s
  else poisonRecord u 3 k (poisonWord gen 0 k 0) u (addObj (key 0x2707 5) 1 s)

/-! ### Intermediate checkers (R172, R175) -/

/-- SEAM_BLOCK_CHECK (R172, R175): a seam or Z-port checker tests a block that passes it unchanged, unless it follows 32
blocks already. -/
def execSeamBlockCheck (dt : Nat) (point : Pua) (id : Nat) (w : Word64) (payload : List Byte) (s : State) : Result :=
  let s := elapse dt s
  let p := point.toNat
  let f := followed s id
  let set := fun (f : Followed) (s : State) => { s with follows := tset s.follows id f }
  done <| if 32 ≤ s.inFlight.countP (fun e => e.1 = p) then
    set { f with unseen := if f.unseen = 0xFFFFFFFF then p else f.unseen } (addObj (key 0x2707 2) 1 s)
  else
    let s := { s with inFlight := s.inFlight ++ [(p, id)] }
    if wordReserved w = 0 && wordFormat w ≠ 0xA && wordFormat w ≠ 0xB && checkFits w payload then
      set { f with lastGood := p, unseen := 0xFFFFFFFF } s
    else
      let s := set { f with firstFail := if f.firstFail = 0xFFFFFFFF then p else f.firstFail } s
      raise p (recordEvent s 0 p 0 []) (addObj (key 0x2707 1) 1 s)

/-! ### Host-I/O chiplets (R172, R174, R288) -/

/-- Whether the chiplets take requests of a slice (R288 step 1). -/
def hostAccepts (s : State) (k : Nat) : Bool :=
  match slice s k with
  | some x => x.life == .running
  | none => false
/-- Count a block that the host wrote for a slice. -/
def countHostIn (a : DramAddr) (k : Nat) (s : State) : State :=
  carry k (attachPua a.stack) (countDie (a.stack / 16) k 0x0302 1 (countDie (a.stack / 16) k 0x0303 1 s))
/-- The merge of a partial write into a block that the chiplet has read (R174). -/
def mergeBlock (a : DramAddr) (k fmt offset : Nat) (old bytes : List Byte) (s : State) : State :=
  let p := fitBytes 4096 (old.take offset ++ bytes ++ old.drop (offset + bytes.length))
  countHostIn a k (setDram a (streamerWord (payloadCheck p) (generation s k) fmt k 0 0) p s)
/-- HOST_PARTIAL_WRITE (R174): the chiplet reads the block, applies the arrival test, merges the bytes and generates a new
word. A poisoned block refuses the write; so does one that the slice does not own. The attach checks the block as it reads it
(R184), so a mismatch at the chiplet, which refetches it up to the limit (R177), comes from the other fields of its word. -/
def execHostPartialWrite (dt : Nat) (a : DramAddr) (k offset : Nat) (bytes : List Byte) (s : State) : Result :=
  let s := elapse dt s
  done <| if !hostAccepts s k || answersLost s a then emit (.hostError (dramKey a)) s else
  let s := if checkFits (dramBlock s a).word (dramBlock s a).payload then s
    else poisonAtRest a 1 4 (dramBlock s a).payload s
  let b := dramBlock s a
  let verdict := arrivalTest (generation s k) k (checkingOn s k) b.word b.payload
  let refuse := emit (.hostError (dramKey a))
  match verdict with
  | .good => mergeBlock a k (wordFormat b.word) offset b.payload bytes (addSobj k (key 0x2706 1) 1 s)
  | .poisoned => refuse (addSobj k (key 0x2706 1) 1 s)
  | .stale =>
    -- a range that the slice has not written yet still carries its zero fill
    if wordSlice b.word = 0 && wordFormat b.word = 0xD then
      (if wordPoison b.word then refuse s else mergeBlock a k 0 offset b.payload bytes s)
    else refuse (addObj (key 0x2707 7) 1 (addSobj k (key 0x2706 8) 1 s))
  | .mismatch =>
    let u := dramUnit s a
    let s := addSobj k (key 0x2706 3) 3 (addSobj k (key 0x2706 2) 4 (addSobj k (key 0x2706 1) 4 s))
    let s := raise u { recordEvent s 0 u k [] with detected := detectionHour s } s
    refuse (reportCause u 0x14 0 k [] [] s)
/-- HOST_INGRESS (R166, R172): the chiplet assembles a block and generates its streamer. Codes that only the RM writes, and
reserved ones, are no descriptor's. -/
def execHostIngress (dt : Nat) (a : DramAddr) (k fmt : Nat) (payload : List Byte) (s : State) : Result :=
  let s := elapse dt s
  done <| if !hostAccepts s k || answersLost s a || 9 < fmt then emit (.hostError (dramKey a)) s
  else countHostIn a k (setDram a (streamerWord (payloadCheck payload) (generation s k) fmt k 0 0) payload s)

end Sys2Proof.Machine
end

