-- ==== Sys2Proof/Machine/Commits.lean ====
section
/-!
DEFINITION. The acknowledgement, delay and landing of commits (R249, R250, R252, R254).
-/
namespace Sys2Proof.Machine
open Sys2Proof

/-- The unbound logical clusters of a field that no commit binds yet (R254). -/
def unboundLogicals (s : State) (f : Nat) : List Nat :=
  (s.clusterMap.filter fun e => e.2.isNone && e.1 / 800 = f && !s.commits.any fun c => c.bindings.any fun b =>
    match b with
    | .cluster l _ (some _) _ => l = e.1
    | _ => false).map (·.1)
/-- A cluster of a field has become free: an unbound logical cluster is bound to it in a commit (R254). -/
def bindWaiting (f : Nat) (s : State) : State :=
  if (field s f).power = 3 then s else
  (unboundLogicals s f).foldl (fun s l =>
    match (clusterCandidates s l).find? fun c => bindingsValid s [.cluster l c (some c) false] with
    | some c => requestCommit [.cluster l c (some c) false] [] [] 0 s
    | none => s) s

/-- SHADOW_LOAD_ACK (R250): a Bridle acknowledges the shadow entries of a commit. -/
def execShadowLoadAck (dt commit : Nat) (bridle : Pua) (s : State) : Result :=
  let s := elapse dt s
  let ck := puaClusterKey bridle.toNat
  let f := fun (c : Commit) => if c.id = commit then { c with waiting := c.waiting.filter (· ≠ ck) } else c
  done { s with commits := s.commits.map f }

/-- The shadow entries of a commit's Bridles: the change count that they wait for, or none. -/
def setShadow (c : Commit) (v : Option Nat) (s : State) : State :=
  ((c.bindings.flatMap bindingBridles).eraseDups).foldl (fun s ck =>
    modCluster ck (fun x => if x.shadow = some c.count then { x with shadow := v } else x) s) s
/-- The commit moves to the next change count with a free slot (R250). -/
def moveCommit (c : Commit) (s : State) : State :=
  let others := { s with commits := s.commits.filter fun x => x.id ≠ c.id }
  let count := freeSlot others c.dies (s.commits.length + 1) (c.count + 102400)
  let f := fun (x : Commit) => if x.id = c.id then { x with count := count } else x
  setShadow c (some count) (addObj (key 0x2909 4) 1 { s with commits := s.commits.map f })

/-- COMMIT_ACK_DEADLINE (R250): an acknowledgement has not arrived by C − 20,480 ns, so the commit moves. -/
def execCommitAckDeadline (dt commit : Nat) (s : State) : Result :=
  let s := elapse dt s
  done <| match s.commits.find? fun c => c.id = commit with
  | none => s
  | some c => if c.scheduled && decide (c.count ≤ pt s + 20480) && !c.waiting.isEmpty then moveCommit c s else s

/-- COMMIT_LAND (R250): at C + 32 every Bridle loads its entries. A commit with an acknowledgement missing does not
land. Receivers that waited for the commit refetch (R178), trace slots follow the bindings (R427), regions and unbound
clusters take what has become free (R254, R366). -/
def execCommitLand (dt commit : Nat) (s : State) : Result :=
  let s := elapse dt s
  done <| match s.commits.find? fun c => c.id = commit with
  | none => s
  | some c =>
    if !c.scheduled || pt s < c.count + 32 || !c.waiting.isEmpty then s else
    let t := traceRebound s (setShadow c none (landCommit c (c.dies.foldl (fun s d => wakeGondola d s) s)))
    let t := repairAfter (c.units ++ c.quarantines.map (·.1)) (refreshRegions t)
    let t := (c.bindings.flatMap fun b => match b with
      | .cluster l _ _ true => [l / 800]
      | _ => []).eraseDups.foldl (fun t f => bindWaiting f t) t
    let t := c.bindings.foldl (fun t b => match b with
      | .around u => if puaKind u = 8 then powerDown (puaFieldIdx u) t else t
      | _ => t) t
    serveForced (refillQueues t)

end Sys2Proof.Machine
end

