-- ==== Sys2Proof/Machine/FieldTests.lean ====
section
/-!
DEFINITION. In-field tests (R194 to R226): idle notices and their slots, test tiles and their verdicts, forced checker
slots, overdue tests and the fmax entries that a confirmed margin failure lowers.
-/
namespace Sys2Proof.Machine
open Sys2Proof

/-! ### Idle notices (R197 to R200) -/

/-- Whether a path holds Observer class for a slice, or Operator class (R15, R453, R455). -/
def pathObserves (s : State) (p : Path) (k : Nat) : Bool :=
  match p with
  | .mailbox m => mailboxObserves s m k
  | .port .. => match sessionOf s p with
    | .operator | .service | .maker => true
    | _ => false
/-- The LCNs that a notice names (R197). -/
def noticeScope (s : State) (n : IdleNotice) : List Nat :=
  if n.count = 0 then (sliceLogicals s n.slice).flatMap fun l => (List.range 16).map (l * 16 + ·)
  else (List.range n.count).map (n.firstLcn + ·)
/-- Whether a notice names an LCN. -/
def noticeNames (s : State) (k : Nat) (n : IdleNotice) (lcn : Nat) : Bool :=
  if n.count = 0 then sliceOfLcn s lcn = k else decide (n.firstLcn ≤ lcn) && decide (lcn < n.firstLcn + n.count)
/-- The periodic notices of a slice that stand: those no revoke has reached (R198). -/
def standing (x : Slice) : Nat := x.notices.countP fun n => n.periodic && n.revoked.isNone
/-- Whether the Field Agents accept a notice (R198). -/
def noticeAccepted (s : State) (p : Path) (periodic : Bool) (n : IdleNotice) : Bool :=
  match slice s n.slice with
  | none => false
  | some x =>
    sliceLive x && pathObserves s p n.slice &&
      decide (50000 ≤ n.length) && decide (n.length ≤ 1000000000) && decide (n.count ≤ 307200) &&
      (if periodic then decide (1000000 ≤ n.period) && decide (n.period ≤ 1000000000) && decide (n.length < n.period) &&
        decide (standing x < 4) else decide (n.period = 0)) &&
      (n.count = 0 || (noticeScope s n).all fun l => sliceOfLcn s l = n.slice)
/-- The fields of a notice's scope: each one's Field Agent reads the slot on its own keeper (R199). -/
def noticeFields (s : State) (n : IdleNotice) : List Nat :=
  if n.count = 0 then sliceFields s n.slice
  else (List.range 24).filter fun f => decide (n.firstLcn / 12800 ≤ f) && decide (f ≤ (n.firstLcn + n.count - 1) / 12800)
/-- The end of the slot that a notice gives at time `t` (R199). -/
def slotAt (periodic : Bool) (n : IdleNotice) (t : Nat) : Option Nat :=
  if t < n.start then none
  else
    let from_ := if periodic && n.period ≠ 0 then n.start + (t - n.start) / n.period * n.period else n.start
    if t < from_ + n.length then some (from_ + n.length) else none
/-- Refuse a notice: the refusal counts at 0x2806:0B (R198). No rule gives its abort code. -/
def refuseNotice (p : Path) (k : Nat) (s : State) : State :=
  let (w, s) := takeNat s
  respond p 0 0 (w % 2 ^ 32) [] 0 (addSobj k (key 0x2806 11) 1 s)
/-- The Field Agents whose keepers stand in a slot of a notice begin it (R199, 0x280A:03). -/
def beginSlot (k : Nat) (n : Notice) (s : State) : State :=
  let begun := (noticeFields s n.notice).filterMap fun f =>
    if (tget n.running f).isSome then none else (slotAt n.periodic n.notice (fieldTime s f)).map fun e => (f, e)
  match begun with
  | [] => s
  | (f, _) :: _ =>
    setSobj k (key 0x280A 3) (fieldTime s f) (modSlice k (fun x => { x with notices := x.notices.map fun m =>
      if m = n then { m with running := begun.foldl (fun t e => tset t e.1 e.2) m.running } else m }) s)
/-- Take a notice (R198, R199): a slot whose start lies in the past begins at once. -/
def takeNotice (p : Path) (periodic : Bool) (n : IdleNotice) (s : State) : State :=
  if !(die s (pathDie p)).dictionary then s
  else if !noticeAccepted s p periodic n then refuseNotice p n.slice s
  else
    let new : Notice := ⟨n, periodic, [], none⟩
    let live := periodic || (noticeFields s n).any fun f => decide (fieldTime s f < n.start + n.length)
    let s := setSobj n.slice (key 0x280A 2) n.id (respond p 0 0 0 [] 0 s)
    if live then beginSlot n.slice new (modSlice n.slice (fun x => { x with notices := x.notices ++ [new] }) s) else s
/-- Revoke the notices that a test picks: a running slot takes no test tile later than 5,000 ns after now; the others
are gone (R199, R200). -/
def revokeNotices (p : Path) (k : Nat) (pick : Notice → Bool) (s : State) : State :=
  let live := match slice s k with
    | some x => sliceLive x
    | none => false
  if !(die s (pathDie p)).dictionary then s
  else if !live || !pathObserves s p k then refuseNotice p k s
  else
    let t := pt s
    let mark := fun (n : Notice) => if pick n && n.revoked.isNone then { n with revoked := some t } else n
    respond p 0 0 0 [] 0 (modSlice k (fun x => { x with
      notices := (x.notices.map mark).filter fun n => n.revoked.isNone || !n.running.isEmpty }) s)

/-- IDLE_SLOT_START (R199): a slot of a notice begins, in each field of its scope whose keeper has reached it. -/
def execIdleSlotStart (dt k id : Nat) (s : State) : Result :=
  let s := elapse dt s
  done <| match slice s k with
  | none => s
  | some x => match x.notices.find? fun n => n.notice.id = id && n.revoked.isNone with
    | none => s
    | some n =>
      let ready := (noticeFields s n.notice).filter fun f =>
        (tget n.running f).isNone && (slotAt n.periodic n.notice (fieldTime s f)).isSome
      if ready.isEmpty then s else beginSlot k n (wakeAgents ready s)
/-- IDLE_SLOT_END (R199): a slot of a notice ends, in each field whose keeper has reached its end. A one-shot notice is then gone,
and so is a revoked one. -/
def execIdleSlotEnd (dt k id : Nat) (s : State) : Result :=
  let s := elapse dt s
  let ends := fun (n : Notice) => if n.notice.id ≠ id then n
    else { n with running := n.running.filter fun e => decide (fieldTime s e.1 < e.2) }
  let gone := fun (n : Notice) => n.notice.id = id && n.running.isEmpty &&
    (n.revoked.isSome || (!n.periodic && (noticeFields s n.notice).all fun f =>
      decide (n.notice.start + n.notice.length ≤ fieldTime s f)))
  done (modSlice k (fun x => { x with notices := (x.notices.map ends).filter fun n => !gone n }) s)

/-- The end of the idle slot that an LCN is in at time `t`; slots that overlap combine (R198). A revoked notice declares
no slot from 5,000 ns after its revoke (R200). -/
def slotEndOf (s : State) (k lcn t : Nat) : Option Nat :=
  match slice s k with
  | none => none
  | some x =>
    let ns := x.notices.filter fun n => noticeNames s k n.notice lcn && (tget n.running (lcn / 12800)).isSome &&
      (match n.revoked with
        | some r => decide (t ≤ r + 5000)
        | none => true)
    let endAt := fun u => (ns.filterMap fun n => slotAt n.periodic n.notice u).foldl max 0
    let e := ns.foldl (fun e _ => max e (endAt e)) (endAt t)
    if e = 0 then none else some e
/-- Whether a running notice that covers an LCN carries a flag (R197: 0 SRAM clear, 1 control idle). -/
def slotFlag (s : State) (k lcn bit : Nat) : Bool :=
  match slice s k with
  | none => false
  | some x => x.notices.any fun n => noticeNames s k n.notice lcn && (tget n.running (lcn / 12800)).isSome && n.notice.flags.testBit bit

/-! ### What may be tested (R194, R195, R200, R207, R213, R217) -/

/-- The cores of a cluster that are test targets: cores under test, partners and third cores (R195). -/
def testTargets (s : State) (ck : Nat) : List Nat := (coresOf ck).filter fun p => (core s p).test.isSome
/-- The frequency at which a core runs. -/
def coreMhz (s : State) (p : Nat) : Nat := clusterFreq s (puaClusterKey p)
/-- The longest time of a test tile on a core in ns: 16,384 cycles (R202). -/
def testTileNs (mhz : Nat) : Nat := 16384 * 1000 / mhz + 1
/-- Whether a core is a unit on which R194 allows a kind of test now: 0 random-operand, 1 known-answer, 2 checker,
3 margin, 4 March C−. -/
def testAllowed (s : State) (p kind entry mhz : Nat) : Bool :=
  let u := stateOf s p
  let ck := puaClusterKey p
  let k := sliceOfCluster s ck
  let t := fieldTime s (puaFieldIdx p)
  let control := decide (kind = 1) && decide (0xC0 ≤ entry)
  let outside := k = 0 && sliceAt s (clusterCoord ck) = 0
  -- the control core's entries run on a cluster that is idle as a whole (R207)
  let idle := (logicalOf s ck).any fun l => (List.range 16).any fun i => slotFlag s k (l * 16 + i) 1
  if u == .screening then !control || outside || idle
  else if !inService u && !isSpare u then false
  else if u == .spareReady && !(core s p).queue.isEmpty then false
  else if outside then u != .spareBusy
  else match lcnOfCore s p with
    -- a spare belongs to no slice (R10): March C− may run on it (R207)
    | none => u == .spareReady && (!control || idle)
    | some lcn =>
      let mode := lcnMode s lcn
      let modeOk := mode != .observe || kind = 2 || kind = 3
      let slotOk := match slotEndOf s k lcn t with
        | some e => decide (t + testTileNs mhz + 5000 ≤ e)
        | none => false
      let flagOk := (kind ≠ 4 || slotFlag s k lcn 0) && (!control || slotFlag s k lcn 1)
      modeOk && slotOk && flagOk && (kind = 2 || obj s (key 0x2800 0) 1 = 1)
/-- Whether a field lets test tiles start: its rail is up, no stretch is active or has ended less than 1 ms before, the
die's thermal state is normal (R213). -/
def fieldTests (s : State) (f : Nat) : Bool :=
  let x := field s f
  !frozen s && x.power = 2 && x.stretch.isNone && (x.stretchEnd = 0 || decide (x.stretchEnd + 1000000 ≤ fieldTime s f)) &&
    (die s (f / 6)).thermal.state = 0
/-- Whether an announced change count that includes a core's cluster comes within 100 µs (R217). -/
def changeNear (s : State) (p : Nat) : Bool :=
  let f := puaFieldIdx p
  let t := fieldTime s f
  s.changes.any fun c => c.mask.testBit f && c.slice = sliceOfCluster s (puaClusterKey p) && decide (t ≤ c.count) &&
    decide (c.count < t + 100000)
/-- Whether a core stands free for a test tile. -/
def coreFree (s : State) (p : Nat) : Bool :=
  let c := core s p
  c.tile.isNone && c.heldTile.isNone && !c.withheld && c.resetRun.isNone && c.test.isNone && c.stalls.isEmpty
/-- Whether a tile of a test may start on a core now. A margin test runs at a settled voltage (R216, R217). -/
def mayStart (s : State) (p kind entry mhz : Nat) : Bool :=
  fieldTests s (puaFieldIdx p) && testAllowed s p kind entry mhz && (kind ≠ 3 || (field s (puaFieldIdx p)).raising.isNone)

/-! ### The schedule (R212 to R214) -/

/-- The interval of a kind of test on a core, in ns (R212). -/
def testInterval (s : State) (p kind : Nat) : Nat :=
  let watched := stateOf s p == .watched
  let pick := fun i a b c d => if watched then obj s (key i c) d else obj s (key i a) b
  (match kind with
    | 0 => pick 0x2801 3 600 4 60
    | 3 => pick 0x2802 1 86400 2 3600
    | _ => pick 0x2801 5 86400 6 3600) * 1000000000
/-- The time since a kind of test last completed on a core (R212). -/
def testAge (s : State) (p kind : Nat) : Nat := fieldTime s (puaFieldIdx p) - tgetD (core s p).lastTests kind 0
/-- Whether the checker test of a cluster is due (R211). -/
def checkerDue (s : State) (ck : Nat) : Bool :=
  decide ((cluster s ck).lastChecker + obj s (key 0x2801 1) 30 * 1000000000 ≤ fieldTime s (ckField ck))
/-- March C− belongs to the full pass (R207). -/
def scheduleKind (kind : Nat) : Nat := if kind = 4 then 1 else kind
/-- The next known-answer entry of a core's full pass (R207). -/
def passEntry (s : State) (p : Nat) : Nat := (core s p).pass.1
/-- A full pass of a core is in progress. -/
def passOpen (s : State) (p : Nat) : Bool := (core s p).pass ≠ (0, false)
/-- The place of a test in the order of R213, behind the checker tests: 2 on a Watched core, 3, or 4 for a pass in progress. -/
def testRank (s : State) (p kind : Nat) : Nat :=
  if stateOf s p == .watched then 2 else if scheduleKind kind = 1 && passOpen s p then 4 else 3
/-- Whether another due test of the cluster comes before this one in the order of R213. -/
def outranked (s : State) (p kind : Nat) : Bool :=
  let ck := puaClusterKey p
  let i := scheduleKind kind
  if kind = 2 then false
  else checkerDue s ck || (coresOf ck).any fun q => [0, 1, 3].any fun j =>
    (q ≠ p || j ≠ i) && coreFree s q && decide (testInterval s q j ≤ testAge s q j) &&
      mayStart s q j (if j = 1 then passEntry s q else 0) (coreMhz s q) &&
      (let a := testRank s p i
       let b := testRank s q j
       decide (b < a) || (a = b && decide (testAge s p i * testInterval s q j < testAge s q j * testInterval s p i)))

/-! ### Starting a test tile (R202, R203, R209, R216) -/

/-- Whether the spare of a cluster can be a partner (R203): Spare-Ready with an empty replay queue. -/
def partnerSpare (s : State) (ck p : Nat) : Option Nat :=
  (coresOf ck).find? fun q => q ≠ p && stateOf s q == .spareReady && (core s q).queue.isEmpty && coreFree s q
/-- The cross-check partner of a random-operand test (R203): `asked` is the core of item 2 that the Field Agent takes
where several stand free. -/
def choosePartner (s : State) (p : Nat) (asked : Option Nat) (skip : List Nat) (mhz : Nat) : Option Nat :=
  let ck := puaClusterKey p
  let sibs := (coresOf ck).filter fun q => !skip.contains q && coreFree s q && (lcnOfCore s q).isSome && mayStart s q 0 0 mhz
  let asked := asked.filter fun q => sibs.contains q
  let others := ((List.range 832).map (clusterKey (puaFieldIdx p))).filter fun c => c ≠ ck && (testTargets s c).isEmpty
  let spares := others.filterMap fun c => (partnerSpare s c p).filter fun q => !skip.contains q && mayStart s q 0 0 mhz
  let near := firstBy (fun q => [hopsXY (clusterCoord (puaClusterKey q)) (clusterCoord ck), puaCluster q]) spares
  ((partnerSpare s ck p).filter fun q => !skip.contains q && mayStart s q 0 0 mhz).or (asked.or (sibs.head?.or near))
/-- Mark a core as a test target for a run, or clear it. -/
def setTest (p : Nat) (r : Option TestRun) (s : State) : State := restartIdle p (modCore p (fun c => { c with test := r }) s)
/-- The entry of the next checker test of a cluster (R209). -/
def checkerEntry (s : State) (ck : Nat) : Nat := 0xD0 + (cluster s ck).checkerNext % 16
/-- The known-answer entry that a field holds (R206). -/
def knownAnswer (s : State) (f entry : Nat) : KnownAnswer := Config.knownAnswer (field s f).answers entry
/-- The start of a test tile (R170, R196, R209): it belongs to slice 0xFFF with a generation that the RM gives it, and a checker
test draws the place of its injection; both are free values. -/
def beginRun (test : TestTile) (forced : Bool) (s : State) : TestRun × State :=
  let p := test.core.toNat
  let (g, s) := takeNat s
  let (n, s) := takeNat s
  ({ test := test, started := pt s, reruns := 0, offset := 50, base := freqOfCode (fmaxEntry s p (field s (puaFieldIdx p)).step),
     generation := g % 256, position := n, core := none, partner := none, third := none, forced := forced }, s)
/-- What a random-operand tile runs (R203): the operation (0 dense contraction, 1 with A in 2:4 form, 2 elementwise, 3 reduction, 4
normalisation, 5 rearrangement), the operand class, and the format (0 FP8 E4M3, 1 FP8 E5M2, 2 FP16, 3 BF16, 4 FP32, 5 INT8). -/
def randomTile (seed : Nat) : Nat × Nat × Nat :=
  let op := seed % 8
  let other := seed / 8 % 8
  let fmt := seed / 2 ^ 10 % 8
  (if op ≤ 4 then 0 else if op = 5 then 1 else 2 + other % 4, seed / 2 ^ 8 % 4,
    if fmt ≤ 5 then fmt else if fmt = 6 then 0 else 5)
/-- The shape m, n, k of a contraction test tile by its format (R202). -/
def testShape (fmt : Nat) : Nat × Nat × Nat :=
  (128, 128, if fmt = 0 || fmt = 1 || fmt = 5 then 128 else if fmt = 4 then 16 else 64)
/-- March C− may run on a core now (R207), and so belongs to its full pass. -/
def marchAllowed (s : State) (p : Nat) : Bool :=
  let outside := sliceOfUnit s p = 0 || isSpare (stateOf s p) || stateOf s p == .screening
  let clear := (lcnOfCore s p).any fun l => slotFlag s (sliceOfLcn s l) l 0
  outside || clear
/-- The entries 0xC0 to 0xCF of the control core may run on a core's cluster now (R207). -/
def controlAllowed (s : State) (p : Nat) : Bool :=
  let ck := puaClusterKey p
  let k := sliceOfCluster s ck
  (k = 0 && sliceAt s (clusterCoord ck) = 0) ||
    (logicalOf s ck).any fun l => (List.range 16).any fun i => slotFlag s k (l * 16 + i) 1
/-- A core's full pass has run everything that applies to it (R207). -/
def passComplete (s : State) (p : Nat) : Bool :=
  let x := (core s p).pass
  (decide (0xD0 ≤ x.1) || (decide (0xC0 ≤ x.1) && !controlAllowed s p)) && (x.2 || !marchAllowed s p)
/-- The kind and entry that a test of the known-answer set runs next, with its reruns so far: a rerun that waits comes first (R206),
then the next entry of the pass; none where March C− has run. -/
def nextAnswer (s : State) (p kind : Nat) : Option (Nat × Nat) :=
  let c := core s p
  match c.rerun with
  | some (k, e) => if k = kind then some (e, 1) else none
  | none => if kind = 4 then (if c.pass.2 then none else some (0, 0))
      else if c.pass.1 < 0xD0 then some (c.pass.1, 0) else none
/-- TEST_TILE_START (R194 to R196, R200, R202, R203, R206, R212, R213, R217): the Field Agent starts a test tile on an allowed
target. A random-operand test also takes a partner, and waits for a later slot where there is none. The entry of every kind is the
Field Agent's own: the drawn seed, the next entry of the pass, the next checker entry, or 0xE0. -/
def execTestTileStart (dt : Nat) (test : TestTile) (s : State) : Result :=
  let s := elapse dt s
  let p := test.core.toNat
  let ck := puaClusterKey p
  let mhz := coreMhz s p
  let code := fmaxEntry s p (field s (puaFieldIdx p)).step
  let answer := nextAnswer s p test.kind
  let entry := match test.kind with
    | 1 | 4 => (answer.getD (0, 0)).1
    | _ => 0
  done <| if !puaValid s.variant p || puaKind p ≠ 0 || 4 < test.kind || !coreFree s p || !(testTargets s ck).isEmpty ||
      !mayStart s p test.kind entry (if test.kind = 3 then freqOfCode code else mhz) || outranked s p test.kind ||
      (test.kind = 3 && (decide (28 < code) || changeNear s p)) || ((test.kind = 1 || test.kind = 4) && answer.isNone) then s
  else
    let (run, s) := beginRun { test with entry := entry, partner := none } false s
    match test.kind with
    | 0 =>
      let w := randomWord (field s (puaFieldIdx p)).testSeed p (core s p).randoms 0
      match choosePartner s p (test.partner.map (·.toNat)) [p] mhz with
      | none => s
      | some q =>
        let r := { run with test := { run.test with entry := w.toNat, partner := some (BitVec.ofNat 32 q) } }
        setTest p (some r) (setTest q (some r) (modCore p (fun c => { c with randoms := c.randoms + 1 }) s))
    | 2 =>
      let r := { run with test := { run.test with entry := checkerEntry s ck } }
      setTest p (some r) (modCluster ck (fun c => { c with checkerNext := c.checkerNext + 1 }) s)
    | 3 => setTest p (some { run with test := { run.test with entry := 0xE0 } }) s
    | _ =>
      let s := modCore p (fun c => { c with rerun := none }) s
      setTest p (some { run with reruns := (answer.getD (0, 0)).2 }) s

/-! ### Verdicts (R204, R206, R210, R216) -/

/-- A core is a test target no longer: a user tile that it held starts (R201). -/
def freeTarget (p : Nat) (s : State) : State := startHeld p (restartIdle p (modHeld p (fun c => { c with test := none }) s))
/-- The cycles of a test tile (0x0009). -/
def countTestCycles (p : Nat) (r : TestRun) (mhz : Nat) (s : State) : State :=
  countCore p 9 ((pt s - r.started) * mhz / 1000) s
/-- A test of a kind completes on a core (R212, R214). -/
def completeTest (p kind : Nat) (s : State) : State :=
  let t := fieldTime s (puaFieldIdx p)
  let s := modCore p (fun c => { c with lastTests := tset c.lastTests kind t }) s
  let late := [0, 1, 3].any fun j => decide (5 * testInterval s p j < testAge s p j)
  if (core s p).overdue && !late then
    { modCore p (fun c => { c with overdue := false }) s with objs := tmod s.objs (key 0x2806 12) 0 (· - 1) }
  else s
/-- Report a test failure, a checker failure or a transient test event to the Gondola (R204, R206, R210). -/
def reportTest (unit cause : Nat) (r : TestRun) (kind outcome : Nat) (s : State) : State :=
  let p := r.test.core.toNat
  let f := puaFieldIdx unit
  let payload := leBytes 1 kind ++ leBytes 8 r.test.entry ++
    leBytes 4 ((r.test.partner.map (·.toNat)).getD packagePua) ++ leBytes 1 outcome
  let code := if cause = 5 then 0 else 0x2801
  raise (agentPua f) (stamped s (fieldKeeper f) .charge cause code unit (sliceOfUnit s p) (puaDie unit) payload) s
/-- A test failure of a core that serves an LCN makes its next sample-stream tile and its next contraction tile extra
samples (R204). -/
def extraSamples (p : Nat) (s : State) : State :=
  match lcnOfCore s p with
  | some l => modLcn l (fun r => { r with extraSample := true, extraContraction := true }) s
  | none => s
/-- A test failure of a unit (R204 to R206). -/
def testFailure (unit : Nat) (r : TestRun) (kind outcome : Nat) (s : State) : State :=
  addObj (key 0x2806 2) 1 (extraSamples unit (reportTest unit 0x12 r kind outcome s))
/-- The screens that a test of a core counts in (R215, R238): the core's own, and those of its cluster's Bridle and control core
(notes/assumptions/195.md). -/
def creditScreens (p : Nat) (f : Screen → Screen) (s : State) : State :=
  let ck := puaClusterKey p
  ([p, clusterPua 6 ck, clusterPua 7 ck].filter fun u => stateOf s u == .screening).foldl (fun s u =>
    { s with screens := tset s.screens u (f (screenOf s u)) }) s
/-- A full pass has run: the first of a screen, or the one after its random tiles (R215 items 1 and 4). -/
def creditPass (s : State) (x : Screen) : Screen :=
  if x.passes = 0 then { x with passes := 1 }
  else if obj s (key 0x280B 1) 10000 ≤ x.randoms then { x with passes := 2 } else x
/-- A full pass ends once everything that applies to its core has run (R207). -/
def closePass (p : Nat) (s : State) : State :=
  if !passComplete s p then s else
  creditScreens p (creditPass s) (completeTest p 1 (modCore p (fun c => { c with pass := (0, false) }) s))
/-- What a test leaves in local SRAM (R196, R202): under the SRAM-clear flag or outside every slice the tile may write there, March C−
over all 12 blocks, another into a block that the specification does not name. Its words carry format code 0xF and slice 0xFFF; their
check is that of what the test wrote, a free value. -/
def leaveTestBlocks (p : Nat) (r : TestRun) (s : State) : State :=
  if !marchAllowed s p then s else
  let (w, s) := takeNat s
  let word := streamerWord w r.generation 0xF 0xFFF 1 0
  let blocks := if r.test.kind = 4 then List.range 12 else [w / 2 ^ 32 % 12]
  blocks.foldl (fun s n => setSram p n { SramBlock.empty with word := word } s) s

/-- A known-answer entry or March C− ends (R206): one rerun decides between a test failure and a transient event. A rerun that may
not start now waits. -/
def endKnownAnswer (p : Nat) (r : TestRun) (pass : Bool) (s : State) : State :=
  let control := r.test.kind = 1 && decide (0xC0 ≤ r.test.entry)
  let unit := if control then clusterPua 6 (puaClusterKey p) else p
  let finish := fun (s : State) =>
    let s := modCore p (fun c => { c with
      lastTests := if r.test.kind = 1 then tset c.lastTests 16 r.test.entry else c.lastTests
      pass := if r.test.kind = 4 then (c.pass.1, true) else (r.test.entry + 1, c.pass.2) }) s
    closePass p (freeTarget p s)
  match pass, r.reruns with
  | true, 0 => finish s
  | true, _ => finish (reportTest unit 5 r 1 0 s)
  | false, 0 =>
    if (core s p).heldTile.isNone && mayStart s p r.test.kind r.test.entry (coreMhz s p) then
      setTest p (some { r with reruns := 1, started := pt s }) s
    else freeTarget p (modCore p (fun c => { c with rerun := some (r.test.kind, r.test.entry) }) s)
  | false, _ => finish (testFailure unit r 1 0 s)
/-- What a checker reports of the clean and the injected run of an entry (R209): the projection unit passes both pairs and then fails
both, a comparator reports a match and then a mismatch. -/
def checkerWorks (a : KnownAnswer) (clean injected : List Bool) : Bool :=
  let n := if a.checker ≤ 1 then 2 else 1
  clean = List.replicate n true && injected = List.replicate n false
/-- A checker test ends (R209 to R211): a checker that passes an injected run or fails a clean one is a failed Bridle.
The LCN's issue goes on after a forced slot. -/
def endChecker (p : Nat) (r : TestRun) (pass : Bool) (s : State) : State :=
  let ck := puaClusterKey p
  let s := addObj (key 0x2806 8) 1 (modCluster ck (fun c => { c with lastChecker := fieldTime s (ckField ck) }) s)
  let s := creditScreens p (fun x => { x with checkers := addHold r.test.entry x.checkers }) s
  let s := if r.forced then freeCluster 4 ck s else s
  let s := freeTarget p s
  if pass then s else addObj (key 0x2806 7) 1 (reportTest (clusterPua 7 ck) 0x13 r 2 0 s)
/-- A margin test ends with an outcome (R216, R218, R222): 0 passed, 1 to 3 confirmed at +100, +75 or +50. A confirmed
failure goes to the Gondola as an fmax change request. -/
def endMargin (p : Nat) (r : TestRun) (outcome : Nat) (s : State) : State :=
  let f := puaFieldIdx p
  let e := (field s f).step
  let s := modFmax p (fun x => { x with
    run := obj s (key 0x2101 0) 0, step := e, outcome := outcome, tests := satAdd 32 x.tests 1, dirty := true }) s
  let s := completeTest p 3 (addObj (key 0x2806 3) 1 (freeTarget p s))
  -- a screen asks for a pass at +75 MHz, and for one at a second step (R215; notes/assumptions/194.md)
  let s := if 2 ≤ outcome then s else creditScreens p (fun x =>
    if x.margin.isNone then { x with margin := some e }
    else if x.moved = some e then { x with second := true } else x) s
  if outcome = 0 then s else
  raise (agentPua f) (stamped s (fieldKeeper f) .fmax 0x15 0 p (sliceOfUnit s p) (puaDie p)
    (leBytes 1 e ++ leBytes 1 outcome ++ leBytes 2 r.base)) s
/-- The next tile of a margin test; where it may not start, or the core holds a user tile, the test is discarded (R200, R201,
R217). -/
def nextMargin (p : Nat) (r : TestRun) (s : State) : State :=
  if (core s p).heldTile.isNone && mayStart s p 3 r.test.entry (r.base + r.offset) then setTest p (some { r with started := pt s }) s
  else freeTarget p s
/-- One tile of a margin test ends (R216): a run is the entries 0xE0 to 0xE7, and a failed run is run again up to twice.
`reruns` is 1 after a failure, 2 after a failure and a failed or passed rerun decides. -/
def endMarginTile (p : Nat) (r : TestRun) (pass : Bool) (s : State) : State :=
  let first := { r with test := { r.test with entry := 0xE0 } }
  let onward := fun (noise : Bool) (s : State) =>
    let s := if noise then addObj (key 0x2806 5) 1 s else s
    if r.offset = 100 then endMargin p r 0 s
    else nextMargin p { first with offset := r.offset + 25, reruns := 0 } s
  if pass && r.test.entry < 0xE7 then nextMargin p { r with test := { r.test with entry := r.test.entry + 1 } } s
  else match pass, r.reruns with
    | true, 0 => onward false s
    | true, 1 => nextMargin p { first with reruns := 2 } s
    | true, _ => onward true s
    | false, 0 => nextMargin p { first with reruns := 1 } s
    | false, _ => endMargin p r (if r.offset = 100 then 1 else if r.offset = 75 then 2 else 3) s

/-- A random-operand test ends (R203, R204): signatures that differ call a third run on a core that is neither. With no core that may
run it now the test is discarded (notes/assumptions/193.md). -/
def endRandom (p : Nat) (r : TestRun) (partner mine : Word64) (s : State) : State :=
  let q := (r.test.partner.map (·.toNat)).getD p
  if partner = mine then
    creditScreens p (fun x => { x with randoms := x.randoms + 1 })
      (completeTest p 0 (addObj (key 0x2806 1) 1 (freeTarget p (freeTarget q s))))
  else
    let ck := puaClusterKey p
    let t := setTest p none (setTest q none s)
    let any := (coresOf ck).find? fun x =>
      x ≠ p && x ≠ q && usable (stateOf s x) && coreFree t x && mayStart t x 0 0 (coreMhz s p)
    match (choosePartner t p none [p, q] (coreMhz s p)).or any with
    | none => freeTarget p (freeTarget q s)
    | some x =>
      let r := { r with core := some mine, partner := some partner, third := some x, started := pt s }
      freeTarget p (freeTarget q (setTest x (some r) s))

/-- TEST_TILE_END (R202 to R218): the test tile of a core ends with its signature; `expected` is the partner's signature in a
random-operand test and that of the fault-free pattern in March C−. A known-answer or margin tile is held against its entry's signature
(R206). `clean` and `injected` are what the checker reports of the two runs of a checker test (R209): a verdict for each pair, or that of
the comparator. A forced slot's test waits for the core's tile boundary (R211). -/
def execTestTileEnd (dt : Nat) (core_ : Pua) (expected signature : Word64) (clean injected : List Bool) (s : State) :
    Result :=
  let s := elapse dt s
  let p := core_.toNat
  let c := core s p
  done <| match c.test with
  | none => s
  | some r =>
    if r.test.core ≠ core_ || r.third.isSome || c.tile.isSome || frozen s then s else
    let s := countTestCycles p r (if r.test.kind = 3 then r.base + r.offset else coreMhz s p) s
    let s := leaveTestBlocks p r s
    let a := knownAnswer s (puaFieldIdx p) r.test.entry
    let pass := decide ((if r.test.kind = 4 then expected else a.signature) = signature)
    match r.test.kind with
    | 0 => endRandom p r expected signature (countTestCycles ((r.test.partner.map (·.toNat)).getD p) r (coreMhz s p) s)
    | 2 => endChecker p r (checkerWorks a clean injected) s
    | 3 => endMarginTile p r pass s
    | _ => endKnownAnswer p r pass s

/-- TEST_THIRD_RUN_END (R204): the third run names the core under test, the partner or both. -/
def execTestThirdRunEnd (dt : Nat) (core_ : Pua) (signature : Word64) (s : State) : Result :=
  let s := elapse dt s
  done <| match s.cores.find? fun e => match e.2.test with
      | some r => r.test.core = core_ && r.third = some e.1
      | none => false with
  | none => s
  | some (x, c) => match c.test with
    | none => s
    | some r =>
      let p := core_.toNat
      let q := (r.test.partner.map (·.toNat)).getD p
      let s := countTestCycles x r (coreMhz s x) (freeTarget x s)
      let s := completeTest p 0 (addObj (key 0x2806 1) 1 s)
      if r.partner = some signature then testFailure p r 0 0 s
      else if r.core = some signature then testFailure q r 0 1 s
      else testFailure q r 0 2 (testFailure p r 0 2 s)

/-! ### Forced checker slots and overdue tests (R211, R214) -/

/-- The core that a forced slot of a cluster takes (R211): the next logical core in rotation that is bound and issues, with its
place. -/
def forcedCore (s : State) (ck l : Nat) : Option (Nat × Nat) :=
  let ready := fun i => ((coreOf s (l * 16 + i)).filter fun p => !(core s p).withheld && (core s p).resetRun.isNone).map fun p => (i, p)
  (((List.range 16).map fun j => ((cluster s ck).forcedNext + j) % 16).filterMap ready).head?
/-- FORCED_CHECKER_SLOT (R211): 50 s have passed since a Bridle's last checker test: one logical core of the cluster, in
rotation, is held at its next tile boundary for the test. -/
def execForcedCheckerSlot (dt : Nat) (bridle : Pua) (s : State) : Result :=
  let s := elapse dt s
  let ck := puaClusterKey bridle.toNat
  let c := cluster s ck
  done <| match logicalOf s ck with
  | none => s
  | some l => match forcedCore s ck l with
    | none => s
    | some (i, p) =>
      if fieldTime s (ckField ck) < c.lastChecker + 50000000000 || sliceOfLogical s l = 0 ||
          !inService (stateOf s (clusterPua 7 ck)) || !fieldTests s (ckField ck) || !(testTargets s ck).isEmpty then s
      else
        let (r, s) := beginRun ⟨2, checkerEntry s ck, BitVec.ofNat 32 p, none⟩ true s
        let s := modCluster ck (fun c => { c with forcedNext := (i + 1) % 16, checkerNext := c.checkerNext + 1 }) s
        holdCluster 4 ck (setTest p (some r) (addObj (key 0x2806 9) 1 s))

/-- TEST_OVERDUE (R214): a test of a core is overdue by more than four times its interval; the core counts once. -/
def execTestOverdue (dt : Nat) (core_ : Pua) (s : State) : Result :=
  let s := elapse dt s
  let p := core_.toNat
  let late := [0, 1, 3].any fun j => decide (5 * testInterval s p j < testAge s p j)
  done <| if !puaValid s.variant p || puaKind p ≠ 0 || !usable (stateOf s p) || (core s p).overdue || !late then s
  else addObj (key 0x2806 12) 1 (modCore p (fun c => { c with overdue := true }) s)

/-! ### fmax entries (R218 to R222) -/

/-- An entry lowered by a number of codes; below 400 MHz it is unusable (R218). -/
def lowerEntry (n c : Nat) : Nat := if 28 < c then 0xFF else if c < n then 0xFF else c - n
/-- The entries lowered from a step on (R218). -/
def lowerEntries (e n : Nat) (l : List Nat) : List Nat := l.zipIdx.map fun x => if e ≤ x.2 then lowerEntry n x.1 else x.1
/-- What follows a lowered entry of a core that serves a slice (R221): an unusable entry at the slice's step makes it a
failed unit; an entry below the slice's frequency calls the weak-core swap test, and else the new minimum. -/
def afterLowering (p : Nat) (e : Event) (s : State) : State :=
  let k := sliceOfUnit s p
  -- a confirmed margin failure below +100 MHz fails the screen of a core in Screening (R215, R236)
  if stateOf s p == .screening then changeState p .retired 0x1A s else
  match slice s k with
  | none => s
  | some x =>
    if (lcnOfCore s p).isNone then s else
    let c := fmaxEntry s p (field s (puaFieldIdx p)).step
    if 28 < c then chargeUnit { e with kind := .charge, cause := 0x15 } s
    else
      let t := weakSwap k s
      if x.freq ≤ freqOfCode c || s.commits.length < t.commits.length then t else recomputeSlice true k t
/-- FMAX_CHANGE_REQUEST (R218, R220, R221): the Gondola takes a confirmed margin failure from its handling queue and
lowers the core's entries at that step and above. A recovering Gondola takes nothing (R62). -/
def execFmaxChangeRequest (dt d : Nat) (s : State) : Result :=
  let s := elapse dt s
  done <| if (die s d).recovering.isSome then s else
  match (die s d).handling with
  | [] => s
  | ev :: _ =>
    if ev.kind ≠ .fmax then s else
    let p := ev.pua
    let e := leNat (ev.payload.take 1)
    let outcome := leNat ((ev.payload.drop 1).take 1)
    let s := popHandling d s
    if outcome ≤ 1 then addObj (key 0x2806 4) 1 s else
    let old := fmaxEntry s p e
    let s := modFmax p (fun x => { x with
      current := lowerEntries e (outcome - 1) x.current, lowerings := satAdd 8 x.lowerings 1, dirty := true }) s
    let new := fmaxEntry s p e
    let s := setObjs [(key 0x2807 1, p), (key 0x2807 2, e), (key 0x2807 3, old), (key 0x2807 4, new)]
      (addObj (key 0x2806 6) 1 s)
    let s := recordSeq 0x2802 p (sliceOfUnit s p) (leBytes 1 e ++ leBytes 1 old ++ leBytes 1 new ++ leBytes 1 outcome)
      [(0, key 0x2807 5)] s
    afterLowering p ev s

end Sys2Proof.Machine
end

