-- ==== Sys2Proof/Machine/ObjTable.lean ====
section
/-!
DEFINITION. The object table of the dictionary (R465 to R486 and the object tables of the chapters): for each object its
subs, its length, the class that its access needs, its range, how long its value lasts and its default.
-/
namespace Sys2Proof.Machine
open Sys2Proof

/-- How long a value lasts (R471). -/
inductive Kept where
  | fixed | store | node | owner | path | run | live | request
  deriving DecidableEq, Repr

/-- A row: the index and its subs `lo` to `hi`, the length in bytes (the greatest one where `upTo`), whether it is a
DOMAIN, the class code for a read and for a write (none: not allowed, R467 step 3), the range of a written value, how
long it lasts, whether it shows a last event (abort 0x08000024 before the first), and its default (one for every sub, or
one per sub; empty: none). -/
structure ObjRow where
  index : Nat
  lo : Nat
  hi : Nat
  size : Nat
  domain : Bool
  upTo : Bool
  rd : Option Nat
  wr : Option Nat
  min : Nat
  max : Nat
  step : Nat
  kept : Kept
  last : Bool
  vals : List Nat
  deriving DecidableEq, Repr

/-- Part 0 of the table, from index 0x1000. -/
def objRows0 : List ObjRow :=
  [⟨0x1000, 0, 0, 4, false, false, some 0, none, 0, 0, 1, .fixed, false, [0]⟩,
   ⟨0x1001, 0, 0, 1, false, false, some 0, none, 0, 0, 1, .live, false, [0]⟩,
   ⟨0x1003, 0, 0, 1, false, false, some 0, some 2, 0, 16, 1, .run, false, [0]⟩,
   ⟨0x1003, 1, 16, 4, false, false, some 0, none, 0, 0, 1, .run, false, []⟩,
   ⟨0x1008, 0, 0, 0, false, false, some 0, none, 0, 0, 1, .fixed, false, []⟩,
   ⟨0x100A, 0, 0, 0, false, false, some 0, none, 0, 0, 1, .live, false, []⟩,
   ⟨0x1014, 0, 0, 4, false, false, some 0, some 2, 0, 4294967295, 1, .node, false, []⟩,
   ⟨0x1015, 0, 0, 2, false, false, some 0, some 2, 0, 65535, 1, .node, false, [100]⟩,
   ⟨0x1017, 0, 0, 2, false, false, some 0, some 2, 100, 65535, 1, .node, false, [1000]⟩,
   ⟨0x1018, 1, 1, 4, false, false, some 0, none, 0, 0, 1, .fixed, false, [2652]⟩,
   ⟨0x1018, 2, 2, 4, false, false, some 0, none, 0, 0, 1, .fixed, false, [256]⟩,
   ⟨0x1018, 3, 3, 4, false, false, some 0, none, 0, 0, 1, .fixed, false, []⟩,
   ⟨0x1018, 4, 4, 4, false, false, some 0, none, 0, 0, 1, .fixed, false, []⟩,
   ⟨0x1200, 1, 2, 4, false, false, some 0, none, 0, 0, 1, .fixed, false, []⟩,
   ⟨0x1800, 1, 1, 4, false, false, some 0, some 2, 0, 4294967295, 1, .node, false, []⟩,
   ⟨0x1800, 2, 2, 1, false, false, some 0, some 2, 0, 255, 1, .node, false, [254]⟩,
   ⟨0x1800, 3, 3, 2, false, false, some 0, some 2, 0, 65535, 1, .node, false, [0]⟩,
   ⟨0x1800, 5, 5, 2, false, false, some 0, some 2, 10, 65535, 1, .node, false, [100]⟩,
   ⟨0x1801, 1, 1, 4, false, false, some 0, some 2, 0, 4294967295, 1, .node, false, []⟩,
   ⟨0x1801, 2, 2, 1, false, false, some 0, some 2, 0, 255, 1, .node, false, [254]⟩,
   ⟨0x1801, 3, 3, 2, false, false, some 0, some 2, 0, 65535, 1, .node, false, [0]⟩,
   ⟨0x1801, 5, 5, 2, false, false, some 0, some 2, 10, 65535, 1, .node, false, [1000]⟩,
   ⟨0x1802, 1, 1, 4, false, false, some 0, some 2, 0, 4294967295, 1, .node, false, []⟩,
   ⟨0x1802, 2, 2, 1, false, false, some 0, some 2, 0, 255, 1, .node, false, [254]⟩,
   ⟨0x1802, 3, 3, 2, false, false, some 0, some 2, 0, 65535, 1, .node, false, [0]⟩,
   ⟨0x1802, 5, 5, 2, false, false, some 0, some 2, 10, 65535, 1, .node, false, [1000]⟩,
   ⟨0x1803, 1, 1, 4, false, false, some 0, some 2, 0, 4294967295, 1, .node, false, []⟩,
   ⟨0x1803, 2, 2, 1, false, false, some 0, some 2, 0, 255, 1, .node, false, [254]⟩,
   ⟨0x1803, 3, 3, 2, false, false, some 0, some 2, 0, 65535, 1, .node, false, [0]⟩,
   ⟨0x1803, 5, 5, 2, false, false, some 0, some 2, 10, 65535, 1, .node, false, [100]⟩,
   ⟨0x1A00, 0, 0, 1, false, false, some 0, some 2, 0, 255, 1, .node, false, []⟩,
   ⟨0x1A00, 1, 8, 4, false, false, some 0, some 2, 0, 4294967295, 1, .node, false, []⟩,
   ⟨0x1A01, 0, 0, 1, false, false, some 0, some 2, 0, 255, 1, .node, false, []⟩,
   ⟨0x1A01, 1, 8, 4, false, false, some 0, some 2, 0, 4294967295, 1, .node, false, []⟩,
   ⟨0x1A02, 0, 0, 1, false, false, some 0, some 2, 0, 255, 1, .node, false, []⟩,
   ⟨0x1A02, 1, 8, 4, false, false, some 0, some 2, 0, 4294967295, 1, .node, false, []⟩,
   ⟨0x1A03, 0, 0, 1, false, false, some 0, some 2, 0, 255, 1, .node, false, []⟩,
   ⟨0x1A03, 1, 8, 4, false, false, some 0, some 2, 0, 4294967295, 1, .node, false, []⟩,
   ⟨0x2000, 1, 1, 2, false, false, some 0, none, 0, 0, 1, .fixed, false, [256]⟩,
   ⟨0x2000, 2, 2, 1, false, false, some 0, none, 0, 0, 1, .fixed, false, [4]⟩,
   ⟨0x2000, 3, 3, 1, false, false, some 0, none, 0, 0, 1, .fixed, false, [100]⟩,
   ⟨0x2000, 4, 4, 4, false, false, some 0, none, 0, 0, 1, .fixed, false, [339456]⟩,
   ⟨0x2000, 5, 5, 4, false, false, some 0, none, 0, 0, 1, .fixed, false, [307200]⟩,
   ⟨0x2000, 6, 6, 4, false, false, some 0, none, 0, 0, 1, .fixed, false, [5258244]⟩,
   ⟨0x2001, 1, 1, 4, false, false, some 0, none, 0, 0, 1, .fixed, false, []⟩,
   ⟨0x2001, 2, 2, 4, false, false, some 0, none, 0, 0, 1, .fixed, false, []⟩,
   ⟨0x2002, 1, 4, 1, false, false, some 0, none, 0, 0, 1, .live, false, [1]⟩,
   ⟨0x2003, 0, 0, 1, false, false, some 0, none, 0, 0, 1, .live, false, [1]⟩]

/-- Part 1 of the table, from index 0x2004. -/
def objRows1 : List ObjRow :=
  [⟨0x2004, 1, 4, 4, false, false, some 0, none, 0, 0, 1, .fixed, false, []⟩,
   ⟨0x2005, 1, 8, 4, false, false, some 0, none, 0, 0, 1, .run, false, []⟩,
   ⟨0x2010, 0, 0, 1, false, false, some 0, some 0, 0, 63, 1, .path, false, [0]⟩,
   ⟨0x2011, 1, 1, 1, false, false, some 0, none, 0, 0, 1, .live, false, []⟩,
   ⟨0x2011, 2, 2, 4, false, false, some 0, none, 0, 0, 1, .live, false, []⟩,
   ⟨0x2011, 3, 3, 4, false, false, some 0, none, 0, 0, 1, .live, false, []⟩,
   ⟨0x2011, 4, 4, 1, false, false, some 0, none, 0, 0, 1, .live, false, []⟩,
   ⟨0x2011, 5, 5, 4, false, false, some 0, none, 0, 0, 1, .live, false, []⟩,
   ⟨0x2011, 6, 6, 1, false, false, some 0, none, 0, 0, 1, .live, false, []⟩,
   ⟨0x2011, 7, 7, 4, false, false, some 0, none, 0, 0, 1, .live, false, [0]⟩,
   ⟨0x2011, 8, 8, 4, false, false, some 0, none, 0, 0, 1, .live, false, []⟩,
   ⟨0x2011, 9, 9, 8, false, false, some 0, none, 0, 0, 1, .live, false, []⟩,
   ⟨0x2011, 10, 10, 1, false, false, some 0, none, 0, 0, 1, .live, false, [0]⟩,
   ⟨0x2012, 1, 1, 1, false, false, some 0, none, 0, 0, 1, .live, false, []⟩,
   ⟨0x2012, 2, 2, 1, false, false, some 0, none, 0, 0, 1, .live, false, []⟩,
   ⟨0x2012, 3, 3, 8, false, false, some 0, none, 0, 0, 1, .live, false, []⟩,
   ⟨0x2020, 0, 0, 1, false, false, some 0, some 0, 0, 27, 1, .path, false, [0]⟩,
   ⟨0x2021, 1, 128, 1, false, false, some 0, none, 0, 0, 1, .live, false, []⟩,
   ⟨0x2022, 1, 120, 4, false, false, some 0, none, 0, 0, 1, .fixed, false, []⟩,
   ⟨0x2023, 1, 120, 1, false, false, some 0, none, 0, 0, 1, .live, false, []⟩,
   ⟨0x2030, 1, 32, 1, false, false, some 0, none, 0, 0, 1, .live, false, []⟩,
   ⟨0x2031, 1, 4, 1, false, false, some 0, none, 0, 0, 1, .live, false, [4]⟩,
   ⟨0x2040, 1, 8, 4, false, false, some 0, none, 0, 0, 1, .fixed, false, []⟩,
   ⟨0x2041, 1, 8, 4, false, false, some 0, none, 0, 0, 1, .store, false, [0]⟩,
   ⟨0x20F0, 1, 1, 1, false, false, some 0, none, 0, 0, 1, .live, false, []⟩,
   ⟨0x20F0, 2, 2, 1, false, false, some 0, none, 0, 0, 1, .live, false, []⟩,
   ⟨0x20F1, 1, 2, 1, false, false, some 0, some 2, 0, 1, 1, .node, false, [0]⟩,
   ⟨0x20F1, 3, 4, 2, false, false, some 0, some 2, 0, 65535, 1, .node, false, [500]⟩,
   ⟨0x20F1, 5, 6, 2, false, false, some 0, some 2, 1000, 8000, 1, .node, false, [2000]⟩,
   ⟨0x20F2, 0, 0, 1, false, false, some 0, some 2, 0, 1, 1, .node, false, [0]⟩,
   ⟨0x20F3, 1, 2, 4, false, false, some 0, none, 0, 0, 1, .run, false, [0]⟩,
   ⟨0x2100, 0, 0, 8, false, false, some 1, none, 0, 0, 1, .live, false, []⟩,
   ⟨0x2101, 0, 0, 4, false, false, some 1, none, 0, 0, 1, .run, false, []⟩,
   ⟨0x2102, 1, 28, 2, false, false, some 2, none, 0, 0, 1, .run, false, []⟩,
   ⟨0x2103, 1, 28, 1, false, false, some 2, none, 0, 0, 1, .live, false, []⟩,
   ⟨0x2104, 1, 28, 2, false, false, some 2, none, 0, 0, 1, .live, false, []⟩,
   ⟨0x2110, 0, 0, 4, false, false, some 1, none, 0, 0, 1, .fixed, false, [102400]⟩,
   ⟨0x2111, 1, 1, 2, false, false, some 2, none, 0, 0, 1, .run, true, []⟩,
   ⟨0x2111, 2, 2, 1, false, false, some 2, none, 0, 0, 1, .run, true, []⟩,
   ⟨0x2111, 3, 3, 8, false, false, some 2, none, 0, 0, 1, .run, true, []⟩,
   ⟨0x2111, 4, 4, 1, false, false, some 2, none, 0, 0, 1, .run, true, []⟩,
   ⟨0x2200, 0, 0, 8, false, false, some 2, none, 0, 0, 1, .live, false, []⟩,
   ⟨0x2201, 0, 0, 2, false, false, some 2, none, 0, 0, 1, .live, false, []⟩,
   ⟨0x2202, 0, 0, 1, false, false, some 1, none, 0, 0, 1, .run, false, [0]⟩,
   ⟨0x2203, 0, 0, 8, false, false, some 2, none, 0, 0, 1, .store, false, []⟩,
   ⟨0x2400, 0, 0, 1, false, false, some 2, some 2, 0, 3, 1, .store, false, [0]⟩,
   ⟨0x2401, 1, 5, 1, false, false, some 2, some 2, 0, 3, 1, .store, false, [2, 1, 1, 1, 1]⟩,
   ⟨0x2403, 0, 0, 2, false, false, some 1, some 1, 1, 4094, 1, .path, false, [0]⟩]

/-- Part 2 of the table, from index 0x2404. -/
def objRows2 : List ObjRow :=
  [⟨0x2404, 1, 1, 1, false, false, some 1, some 1, 0, 3, 1, .owner, false, [255]⟩,
   ⟨0x2404, 2, 2, 1, false, false, some 1, none, 0, 0, 1, .owner, false, []⟩,
   ⟨0x2404, 3, 3, 1, false, false, some 1, none, 0, 0, 1, .owner, false, []⟩,
   ⟨0x2404, 4, 4, 4, false, false, some 1, none, 0, 0, 1, .owner, false, []⟩,
   ⟨0x2404, 5, 5, 4, false, false, some 1, none, 0, 0, 1, .owner, false, []⟩,
   ⟨0x2404, 6, 6, 8, false, false, some 1, none, 0, 0, 1, .owner, false, []⟩,
   ⟨0x2404, 7, 7, 1, false, false, some 1, none, 0, 0, 1, .owner, false, [255]⟩,
   ⟨0x2405, 1, 3, 4, false, false, some 1, none, 0, 0, 1, .fixed, false, [20000000, 1000000, 10000]⟩,
   ⟨0x2406, 1, 1, 4, false, false, some 2, none, 0, 0, 1, .live, false, []⟩,
   ⟨0x2406, 2, 2, 2, false, false, some 2, none, 0, 0, 1, .live, false, []⟩,
   ⟨0x2407, 1, 1, 4, false, false, some 2, none, 0, 0, 1, .live, false, []⟩,
   ⟨0x2407, 2, 2, 4, false, false, some 2, none, 0, 0, 1, .live, false, [72]⟩,
   ⟨0x2407, 3, 3, 1, false, false, some 2, none, 0, 0, 1, .live, false, [0]⟩,
   ⟨0x2407, 4, 4, 1, false, false, none, some 2, 1, 1, 1, .request, false, []⟩,
   ⟨0x2408, 0, 0, 2, false, false, some 1, none, 0, 0, 1, .fixed, false, [2000]⟩,
   ⟨0x2409, 1, 1, 8, false, false, some 1, none, 0, 0, 1, .owner, false, [0]⟩,
   ⟨0x2410, 1, 1, 4, false, false, some 1, none, 0, 0, 1, .owner, true, []⟩,
   ⟨0x2410, 2, 2, 8, false, false, some 1, none, 0, 0, 1, .owner, true, []⟩,
   ⟨0x2410, 3, 3, 8, false, false, some 1, none, 0, 0, 1, .owner, true, []⟩,
   ⟨0x2410, 4, 4, 8, false, false, some 1, none, 0, 0, 1, .owner, true, []⟩,
   ⟨0x2410, 5, 5, 8, false, false, some 1, none, 0, 0, 1, .owner, true, []⟩,
   ⟨0x2410, 6, 6, 4, false, false, some 1, none, 0, 0, 1, .owner, true, []⟩,
   ⟨0x2410, 7, 7, 8, false, false, some 1, none, 0, 0, 1, .owner, true, []⟩,
   ⟨0x2411, 0, 0, 4, false, false, some 1, none, 0, 0, 1, .owner, false, [0]⟩,
   ⟨0x2500, 1, 1, 1, false, false, some 1, none, 0, 0, 1, .fixed, false, [1]⟩,
   ⟨0x2500, 2, 2, 1, false, false, some 1, none, 0, 0, 1, .fixed, false, [2]⟩,
   ⟨0x2501, 0, 0, 4, false, false, some 2, some 2, 1000, 3600000, 1, .store, false, [60000]⟩,
   ⟨0x2502, 1, 6, 2, false, false, some 1, none, 0, 0, 1, .fixed, false, [144, 144, 144, 144, 288, 0]⟩,
   ⟨0x2503, 0, 0, 1, false, false, some 3, some 3, 0, 1, 1, .owner, false, [0]⟩,
   ⟨0x2504, 0, 0, 8, false, false, none, some 3, 0, 18446744073709551615, 1, .owner, false, []⟩,
   ⟨0x2505, 0, 0, 4, false, false, some 1, none, 0, 0, 1, .owner, false, []⟩,
   ⟨0x2506, 1, 1, 8, false, false, some 1, none, 0, 0, 1, .owner, false, [0]⟩,
   ⟨0x2506, 2, 2, 8, false, false, some 1, none, 0, 0, 1, .owner, false, [0]⟩,
   ⟨0x2506, 3, 3, 8, false, false, some 1, none, 0, 0, 1, .owner, false, [0]⟩,
   ⟨0x2506, 4, 4, 8, false, false, some 1, none, 0, 0, 1, .owner, false, [0]⟩,
   ⟨0x2506, 5, 5, 8, false, false, some 1, none, 0, 0, 1, .owner, false, [0]⟩,
   ⟨0x2506, 6, 6, 8, false, false, some 1, none, 0, 0, 1, .owner, false, [0]⟩,
   ⟨0x2507, 1, 1, 4, false, false, some 1, none, 0, 0, 1, .owner, true, []⟩,
   ⟨0x2507, 2, 2, 8, false, false, some 1, none, 0, 0, 1, .owner, true, []⟩,
   ⟨0x2507, 3, 3, 1, false, false, some 1, none, 0, 0, 1, .owner, true, []⟩,
   ⟨0x2507, 4, 4, 4, false, false, some 1, none, 0, 0, 1, .owner, true, []⟩,
   ⟨0x2507, 5, 5, 4, false, false, some 1, none, 0, 0, 1, .owner, true, []⟩,
   ⟨0x2507, 6, 6, 1, false, false, some 1, none, 0, 0, 1, .owner, true, []⟩,
   ⟨0x2507, 7, 7, 8, false, false, some 1, none, 0, 0, 1, .owner, true, []⟩,
   ⟨0x2600, 1, 1, 1, false, false, some 1, none, 0, 0, 1, .fixed, false, [32]⟩,
   ⟨0x2600, 2, 2, 1, false, false, some 1, none, 0, 0, 1, .fixed, false, [4]⟩,
   ⟨0x2601, 0, 0, 1, false, false, some 1, none, 0, 0, 1, .fixed, false, [4]⟩,
   ⟨0x2602, 0, 0, 1, false, false, some 2, some 2, 1, 8, 1, .store, false, [4]⟩]

/-- Part 3 of the table, from index 0x2603. -/
def objRows3 : List ObjRow :=
  [⟨0x2603, 0, 0, 1, false, false, some 1, none, 0, 0, 1, .fixed, false, [2]⟩,
   ⟨0x2604, 0, 0, 8, false, false, some 1, none, 0, 0, 1, .fixed, false, [4823603603198064275]⟩,
   ⟨0x2605, 1, 6, 2, false, false, some 2, some 2, 0, 1024, 1, .store, false, [1, 1, 4, 2, 64, 0]⟩,
   ⟨0x2606, 0, 0, 1, false, false, some 1, none, 0, 0, 1, .fixed, false, [8]⟩,
   ⟨0x2607, 1, 1, 8, false, false, some 1, none, 0, 0, 1, .owner, false, [0]⟩,
   ⟨0x2607, 2, 2, 8, false, false, some 1, none, 0, 0, 1, .owner, false, [0]⟩,
   ⟨0x2607, 3, 3, 8, false, false, some 1, none, 0, 0, 1, .owner, false, [0]⟩,
   ⟨0x2607, 4, 4, 8, false, false, some 1, none, 0, 0, 1, .owner, false, [0]⟩,
   ⟨0x2607, 5, 5, 8, false, false, some 1, none, 0, 0, 1, .owner, false, [0]⟩,
   ⟨0x2607, 6, 6, 8, false, false, some 1, none, 0, 0, 1, .owner, false, [0]⟩,
   ⟨0x2607, 7, 7, 8, false, false, some 1, none, 0, 0, 1, .owner, false, [0]⟩,
   ⟨0x2607, 8, 8, 8, false, false, some 1, none, 0, 0, 1, .owner, false, [0]⟩,
   ⟨0x2607, 9, 9, 8, false, false, some 1, none, 0, 0, 1, .owner, false, [0]⟩,
   ⟨0x2607, 10, 10, 8, false, false, some 1, none, 0, 0, 1, .owner, false, [0]⟩,
   ⟨0x2608, 1, 1, 8, false, false, some 1, none, 0, 0, 1, .owner, false, [0]⟩,
   ⟨0x2608, 2, 2, 8, false, false, some 1, none, 0, 0, 1, .owner, false, [0]⟩,
   ⟨0x2609, 1, 1, 4, false, false, some 1, none, 0, 0, 1, .owner, true, []⟩,
   ⟨0x2609, 2, 2, 4, false, false, some 2, none, 0, 0, 1, .owner, true, []⟩,
   ⟨0x2609, 3, 3, 8, false, false, some 1, none, 0, 0, 1, .owner, true, []⟩,
   ⟨0x2609, 4, 4, 1, false, false, some 1, none, 0, 0, 1, .owner, true, []⟩,
   ⟨0x2609, 5, 5, 8, false, false, some 1, none, 0, 0, 1, .owner, true, []⟩,
   ⟨0x2700, 1, 1, 4, false, false, some 1, none, 0, 0, 1, .fixed, false, [517762881]⟩,
   ⟨0x2700, 2, 2, 4, false, false, some 1, none, 0, 0, 1, .fixed, false, [4294967295]⟩,
   ⟨0x2701, 0, 0, 2, false, false, some 1, none, 0, 0, 1, .fixed, false, [4096]⟩,
   ⟨0x2702, 0, 0, 1, false, false, some 2, some 2, 0, 1, 1, .owner, false, [1]⟩,
   ⟨0x2703, 0, 0, 1, false, false, some 1, none, 0, 0, 1, .fixed, false, [3]⟩,
   ⟨0x2704, 0, 0, 2, false, false, some 2, some 2, 200, 20000, 1, .store, false, [2000]⟩,
   ⟨0x2705, 0, 0, 2, false, false, some 2, some 2, 10, 500, 1, .store, false, [50]⟩,
   ⟨0x2706, 1, 1, 8, false, false, some 1, none, 0, 0, 1, .owner, false, [0]⟩,
   ⟨0x2706, 2, 2, 8, false, false, some 1, none, 0, 0, 1, .owner, false, [0]⟩,
   ⟨0x2706, 3, 3, 8, false, false, some 1, none, 0, 0, 1, .owner, false, [0]⟩,
   ⟨0x2706, 4, 4, 8, false, false, some 1, none, 0, 0, 1, .owner, false, [0]⟩,
   ⟨0x2706, 5, 5, 8, false, false, some 1, none, 0, 0, 1, .owner, false, [0]⟩,
   ⟨0x2706, 6, 6, 8, false, false, some 1, none, 0, 0, 1, .owner, false, [0]⟩,
   ⟨0x2706, 7, 7, 8, false, false, some 1, none, 0, 0, 1, .owner, false, [0]⟩,
   ⟨0x2706, 8, 8, 8, false, false, some 1, none, 0, 0, 1, .owner, false, [0]⟩,
   ⟨0x2706, 9, 9, 8, false, false, some 1, none, 0, 0, 1, .owner, false, [0]⟩,
   ⟨0x2707, 1, 1, 8, false, false, some 2, none, 0, 0, 1, .run, false, [0]⟩,
   ⟨0x2707, 2, 2, 8, false, false, some 2, none, 0, 0, 1, .run, false, [0]⟩,
   ⟨0x2707, 3, 3, 8, false, false, some 2, none, 0, 0, 1, .run, false, [0]⟩,
   ⟨0x2707, 4, 4, 8, false, false, some 2, none, 0, 0, 1, .run, false, [0]⟩,
   ⟨0x2707, 5, 5, 8, false, false, some 2, none, 0, 0, 1, .run, false, [0]⟩,
   ⟨0x2707, 6, 6, 8, false, false, some 2, none, 0, 0, 1, .run, false, [0]⟩,
   ⟨0x2707, 7, 7, 8, false, false, some 2, none, 0, 0, 1, .run, false, [0]⟩,
   ⟨0x2707, 8, 8, 8, false, false, some 2, none, 0, 0, 1, .run, false, [0]⟩,
   ⟨0x2708, 1, 1, 4, false, false, some 2, none, 0, 0, 1, .run, true, []⟩,
   ⟨0x2708, 2, 2, 4, false, false, some 2, none, 0, 0, 1, .run, true, []⟩,
   ⟨0x2708, 3, 3, 4, false, false, some 2, none, 0, 0, 1, .run, true, []⟩]

/-- Part 4 of the table, from index 0x2708. -/
def objRows4 : List ObjRow :=
  [⟨0x2708, 4, 4, 4, false, false, some 2, none, 0, 0, 1, .run, true, []⟩,
   ⟨0x2708, 5, 5, 1, false, false, some 2, none, 0, 0, 1, .run, true, []⟩,
   ⟨0x2708, 6, 6, 8, false, false, some 2, none, 0, 0, 1, .run, true, []⟩,
   ⟨0x2709, 1, 1, 4, false, false, some 1, none, 0, 0, 1, .owner, true, []⟩,
   ⟨0x2709, 2, 2, 4, false, false, some 1, none, 0, 0, 1, .owner, true, []⟩,
   ⟨0x2709, 3, 3, 8, false, false, some 1, none, 0, 0, 1, .owner, true, []⟩,
   ⟨0x2709, 4, 4, 8, false, false, some 1, none, 0, 0, 1, .owner, true, []⟩,
   ⟨0x270A, 0, 0, 2, false, false, some 1, none, 0, 0, 1, .fixed, false, [512]⟩,
   ⟨0x270B, 0, 0, 1, false, false, some 1, none, 0, 0, 1, .fixed, false, [32]⟩,
   ⟨0x2800, 0, 0, 1, false, false, some 2, some 2, 0, 1, 1, .store, false, [1]⟩,
   ⟨0x2801, 1, 1, 2, false, false, some 2, some 2, 10, 50, 1, .store, false, [30]⟩,
   ⟨0x2801, 2, 2, 2, false, false, some 1, none, 0, 0, 1, .store, false, [60]⟩,
   ⟨0x2801, 3, 3, 4, false, false, some 2, some 2, 60, 86400, 1, .store, false, [600]⟩,
   ⟨0x2801, 4, 4, 4, false, false, some 2, some 2, 10, 3600, 1, .store, false, [60]⟩,
   ⟨0x2801, 5, 5, 4, false, false, some 2, some 2, 3600, 604800, 1, .store, false, [86400]⟩,
   ⟨0x2801, 6, 6, 4, false, false, some 2, some 2, 600, 86400, 1, .store, false, [3600]⟩,
   ⟨0x2802, 1, 1, 4, false, false, some 2, some 2, 3600, 604800, 1, .store, false, [86400]⟩,
   ⟨0x2802, 2, 2, 4, false, false, some 2, some 2, 600, 86400, 1, .store, false, [3600]⟩,
   ⟨0x2802, 3, 3, 1, false, false, some 1, none, 0, 0, 1, .store, false, [100]⟩,
   ⟨0x2803, 0, 0, 4, false, false, some 1, none, 0, 0, 1, .fixed, false, [50000]⟩,
   ⟨0x2804, 1, 1, 1, false, false, some 2, some 2, 0, 1, 1, .store, false, [1]⟩,
   ⟨0x2804, 2, 2, 1, false, false, some 1, none, 0, 0, 1, .store, false, [2]⟩,
   ⟨0x2806, 1, 1, 8, false, false, some 2, none, 0, 0, 1, .run, false, [0]⟩,
   ⟨0x2806, 2, 2, 8, false, false, some 2, none, 0, 0, 1, .run, false, [0]⟩,
   ⟨0x2806, 3, 3, 8, false, false, some 2, none, 0, 0, 1, .run, false, [0]⟩,
   ⟨0x2806, 4, 4, 8, false, false, some 2, none, 0, 0, 1, .run, false, [0]⟩,
   ⟨0x2806, 5, 5, 8, false, false, some 2, none, 0, 0, 1, .run, false, [0]⟩,
   ⟨0x2806, 6, 6, 8, false, false, some 2, none, 0, 0, 1, .run, false, [0]⟩,
   ⟨0x2806, 7, 7, 8, false, false, some 2, none, 0, 0, 1, .run, false, [0]⟩,
   ⟨0x2806, 8, 8, 8, false, false, some 2, none, 0, 0, 1, .run, false, [0]⟩,
   ⟨0x2806, 9, 9, 8, false, false, some 2, none, 0, 0, 1, .run, false, [0]⟩,
   ⟨0x2806, 10, 10, 8, false, false, some 1, none, 0, 0, 1, .owner, false, [0]⟩,
   ⟨0x2806, 11, 11, 8, false, false, some 1, none, 0, 0, 1, .owner, false, [0]⟩,
   ⟨0x2806, 12, 12, 4, false, false, some 2, none, 0, 0, 1, .run, false, [0]⟩,
   ⟨0x2806, 13, 13, 4, false, false, some 2, none, 0, 0, 1, .run, false, [0]⟩,
   ⟨0x2806, 14, 14, 4, false, false, some 2, none, 0, 0, 1, .run, false, [0]⟩,
   ⟨0x2807, 1, 1, 4, false, false, some 2, none, 0, 0, 1, .run, true, []⟩,
   ⟨0x2807, 2, 2, 1, false, false, some 2, none, 0, 0, 1, .run, true, []⟩,
   ⟨0x2807, 3, 3, 1, false, false, some 2, none, 0, 0, 1, .run, true, []⟩,
   ⟨0x2807, 4, 4, 1, false, false, some 2, none, 0, 0, 1, .run, true, []⟩,
   ⟨0x2807, 5, 5, 8, false, false, some 2, none, 0, 0, 1, .run, true, []⟩,
   ⟨0x2808, 1, 1, 4, false, false, some 2, none, 0, 0, 1, .run, true, []⟩,
   ⟨0x2808, 2, 2, 4, false, false, some 2, none, 0, 0, 1, .run, true, []⟩,
   ⟨0x2808, 3, 3, 4, false, false, some 2, none, 0, 0, 1, .run, true, []⟩,
   ⟨0x2808, 4, 4, 1, false, false, some 2, none, 0, 0, 1, .run, true, []⟩,
   ⟨0x2808, 5, 5, 8, false, false, some 2, none, 0, 0, 1, .run, true, []⟩,
   ⟨0x2809, 1, 1, 4, false, false, some 1, none, 0, 0, 1, .store, false, []⟩,
   ⟨0x2809, 2, 2, 2, false, false, some 1, none, 0, 0, 1, .store, false, [232]⟩]

/-- Part 5 of the table, from index 0x280A. -/
def objRows5 : List ObjRow :=
  [⟨0x280A, 1, 1, 1, false, false, some 1, none, 0, 0, 1, .owner, false, [0]⟩,
   ⟨0x280A, 2, 2, 4, false, false, some 1, none, 0, 0, 1, .owner, true, []⟩,
   ⟨0x280A, 3, 3, 8, false, false, some 1, none, 0, 0, 1, .owner, true, []⟩,
   ⟨0x280B, 1, 1, 4, false, false, some 3, some 3, 1000, 1000000, 1, .store, false, [10000]⟩,
   ⟨0x2900, 1, 1, 4, false, false, some 2, some 2, 60, 3600, 60, .store, false, [600]⟩,
   ⟨0x2900, 2, 2, 1, false, false, some 1, none, 0, 0, 1, .store, false, [7]⟩,
   ⟨0x2901, 1, 1, 2, false, false, some 2, some 2, 16, 4096, 1, .store, false, [64]⟩,
   ⟨0x2901, 2, 2, 2, false, false, some 2, some 2, 32, 16384, 1, .store, false, [192]⟩,
   ⟨0x2901, 3, 3, 2, false, false, some 2, some 2, 64, 65535, 1, .store, false, [512]⟩,
   ⟨0x2902, 0, 0, 4, false, false, some 2, some 2, 3600, 2592000, 1, .store, false, [86400]⟩,
   ⟨0x2903, 0, 0, 4, false, false, some 2, some 2, 60, 86400, 1, .store, false, [600]⟩,
   ⟨0x2904, 0, 0, 1, false, false, some 3, some 3, 1, 16, 1, .store, false, [3]⟩,
   ⟨0x2905, 1, 4, 4, false, false, some 2, none, 0, 0, 1, .store, false, []⟩,
   ⟨0x2906, 1, 8, 4, false, false, some 2, none, 0, 0, 1, .live, false, []⟩,
   ⟨0x2907, 0, 0, 2, false, false, some 1, none, 0, 0, 1, .live, false, [4096]⟩,
   ⟨0x2907, 1, 4, 2, false, false, some 2, none, 0, 0, 1, .live, false, [0]⟩,
   ⟨0x2907, 5, 8, 2, false, false, some 2, none, 0, 0, 1, .run, false, [0]⟩,
   ⟨0x2908, 1, 4, 8, false, false, some 2, none, 0, 0, 1, .run, false, [0]⟩,
   ⟨0x2908, 5, 8, 8, false, false, some 2, none, 0, 0, 1, .run, false, [0]⟩,
   ⟨0x2908, 9, 12, 4, false, false, some 2, none, 0, 0, 1, .run, false, [0]⟩,
   ⟨0x2909, 1, 1, 8, false, false, some 2, none, 0, 0, 1, .run, false, [0]⟩,
   ⟨0x2909, 2, 2, 4, false, false, some 2, none, 0, 0, 1, .run, false, [0]⟩,
   ⟨0x2909, 3, 3, 4, false, false, some 2, none, 0, 0, 1, .run, false, [0]⟩,
   ⟨0x2909, 4, 4, 4, false, false, some 2, none, 0, 0, 1, .run, false, [0]⟩,
   ⟨0x2909, 5, 5, 4, false, false, some 2, none, 0, 0, 1, .run, false, [0]⟩,
   ⟨0x290A, 0, 0, 2, false, false, some 1, none, 0, 0, 1, .fixed, false, [10]⟩,
   ⟨0x290B, 0, 0, 4, false, false, some 2, none, 0, 0, 1, .run, false, [0]⟩,
   ⟨0x290C, 1, 1, 4, false, false, some 2, none, 0, 0, 1, .run, true, []⟩,
   ⟨0x290C, 2, 2, 1, false, false, some 2, none, 0, 0, 1, .run, true, []⟩,
   ⟨0x290C, 3, 3, 1, false, false, some 2, none, 0, 0, 1, .run, true, []⟩,
   ⟨0x290C, 4, 4, 1, false, false, some 2, none, 0, 0, 1, .run, true, []⟩,
   ⟨0x290C, 5, 5, 8, false, false, some 2, none, 0, 0, 1, .run, true, []⟩,
   ⟨0x2A01, 1, 1, 4, false, false, some 1, some 1, 0, 307199, 1, .path, false, []⟩,
   ⟨0x2A01, 2, 2, 4, false, false, some 2, some 2, 0, 4294967295, 1, .path, false, []⟩,
   ⟨0x2A02, 0, 0, 4, false, false, some 1, none, 0, 0, 1, .live, false, []⟩,
   ⟨0x2A03, 0, 0, 4, false, false, some 1, none, 0, 0, 1, .live, false, []⟩,
   ⟨0x2A04, 0, 0, 1, false, false, some 1, none, 0, 0, 1, .live, false, []⟩,
   ⟨0x2A05, 1, 1, 2, false, false, some 2, none, 0, 0, 1, .store, false, []⟩,
   ⟨0x2A05, 2, 2, 4, false, false, some 2, none, 0, 0, 1, .store, false, []⟩,
   ⟨0x2A05, 3, 3, 1, false, false, some 2, none, 0, 0, 1, .store, false, []⟩,
   ⟨0x2A05, 4, 4, 1, false, false, some 2, none, 0, 0, 1, .store, false, []⟩,
   ⟨0x2A05, 5, 5, 1, false, false, some 2, none, 0, 0, 1, .store, false, []⟩,
   ⟨0x2A05, 6, 6, 2, false, false, some 2, none, 0, 0, 1, .store, false, []⟩,
   ⟨0x2A06, 0, 0, 48, true, false, some 2, some 3, 0, 0, 1, .store, false, []⟩,
   ⟨0x2A07, 0, 0, 48, true, false, some 2, none, 0, 0, 1, .store, false, []⟩,
   ⟨0x2A08, 0, 0, 8, false, false, some 2, none, 0, 0, 1, .run, true, []⟩,
   ⟨0x2A09, 0, 0, 1, false, false, none, some 3, 1, 3, 1, .request, false, []⟩,
   ⟨0x2A0A, 0, 0, 4, false, false, none, some 3, 0, 4294967295, 1, .request, false, []⟩]

/-- Part 6 of the table, from index 0x2A0B. -/
def objRows6 : List ObjRow :=
  [⟨0x2A0B, 0, 0, 8, false, false, some 2, none, 0, 0, 1, .live, false, [0]⟩,
   ⟨0x2A0C, 0, 0, 1, false, false, some 2, none, 0, 0, 1, .live, false, [0]⟩,
   ⟨0x2A0D, 0, 0, 2, false, false, some 1, none, 0, 0, 1, .live, false, []⟩,
   ⟨0x2A0E, 0, 0, 4, false, false, some 1, none, 0, 0, 1, .live, false, []⟩,
   ⟨0x2A0F, 0, 0, 4, false, false, some 2, none, 0, 0, 1, .store, false, []⟩,
   ⟨0x2A10, 1, 24, 2, false, false, some 2, none, 0, 0, 1, .live, false, []⟩,
   ⟨0x2A11, 1, 24, 1, false, false, some 2, none, 0, 0, 1, .live, false, [32]⟩,
   ⟨0x2A12, 1, 24, 2, false, false, some 2, none, 0, 0, 1, .live, false, [0]⟩,
   ⟨0x2A13, 1, 28, 1, false, false, some 2, none, 0, 0, 1, .live, false, [8]⟩,
   ⟨0x2A14, 1, 64, 1, false, false, some 2, none, 0, 0, 1, .live, false, [1]⟩,
   ⟨0x2A15, 1, 24, 1, false, false, some 2, none, 0, 0, 1, .live, false, [24]⟩,
   ⟨0x2A16, 0, 0, 4, false, false, some 2, none, 0, 0, 1, .run, false, [0]⟩,
   ⟨0x2C00, 1, 5, 1, false, false, some 2, some 2, 0, 1, 1, .store, false, [0, 0, 0, 1, 1]⟩,
   ⟨0x2C01, 1, 1, 1, false, false, some 1, some 1, 0, 1, 1, .owner, false, [255]⟩,
   ⟨0x2C01, 2, 2, 1, false, false, some 1, none, 0, 0, 1, .owner, false, []⟩,
   ⟨0x2C02, 0, 0, 2, false, false, some 2, some 2, 1, 1000, 1, .store, false, [10]⟩,
   ⟨0x2C03, 0, 0, 4, false, false, some 2, some 2, 1, 60000, 1, .store, false, [100]⟩,
   ⟨0x2C04, 0, 0, 2, false, false, some 2, some 2, 2, 4096, 1, .store, false, [8]⟩,
   ⟨0x2C05, 0, 0, 2, false, false, some 1, none, 0, 0, 1, .fixed, false, [100]⟩,
   ⟨0x2C06, 0, 0, 1, false, false, some 2, some 2, 1, 16, 1, .store, false, [3]⟩,
   ⟨0x2C07, 0, 0, 4, false, false, some 2, some 2, 60, 86400, 1, .store, false, [3600]⟩,
   ⟨0x2C08, 1, 8, 4, false, false, some 1, none, 0, 0, 1, .fixed, false, [500, 5000, 10000, 150000, 200000, 1200000, 3500000, 45000000]⟩,
   ⟨0x2C09, 1, 8, 8, false, false, some 2, none, 0, 0, 1, .run, false, [0]⟩,
   ⟨0x2C0A, 0, 0, 1, false, false, none, some 2, 0, 7, 1, .request, false, []⟩,
   ⟨0x2C0B, 1, 1, 4, false, false, some 1, none, 0, 0, 1, .fixed, false, [32768]⟩,
   ⟨0x2C0B, 2, 2, 1, false, false, some 2, some 2, 0, 3, 1, .path, false, [0]⟩,
   ⟨0x2C0B, 3, 3, 4, false, false, some 2, none, 0, 0, 1, .run, false, [0]⟩,
   ⟨0x2C0B, 4, 4, 4, false, false, some 2, some 2, 0, 4294967295, 1, .run, false, [0]⟩,
   ⟨0x2C0C, 1, 1, 2, false, false, some 2, some 2, 0, 32767, 1, .path, false, [0]⟩,
   ⟨0x2C0C, 2, 2, 4096, true, false, some 2, none, 0, 0, 1, .live, false, []⟩,
   ⟨0x2C10, 1, 1, 8, false, false, some 1, none, 0, 0, 1, .owner, false, [0]⟩,
   ⟨0x2C10, 2, 2, 8, false, false, some 1, none, 0, 0, 1, .owner, false, [0]⟩,
   ⟨0x2C10, 3, 3, 8, false, false, some 1, none, 0, 0, 1, .owner, false, [0]⟩,
   ⟨0x2C10, 4, 4, 4, false, false, some 2, none, 0, 0, 1, .run, false, [0]⟩,
   ⟨0x2C11, 1, 1, 4, false, false, some 1, none, 0, 0, 1, .owner, true, []⟩,
   ⟨0x2C11, 2, 2, 4, false, false, some 1, none, 0, 0, 1, .owner, true, []⟩,
   ⟨0x2C11, 3, 3, 1, false, false, some 1, none, 0, 0, 1, .owner, true, []⟩,
   ⟨0x2C11, 4, 4, 8, false, false, some 1, none, 0, 0, 1, .owner, true, []⟩,
   ⟨0x2C12, 1, 1, 8, false, false, some 2, none, 0, 0, 1, .run, false, [0]⟩,
   ⟨0x2C12, 2, 2, 4, false, false, some 2, none, 0, 0, 1, .run, false, [0]⟩,
   ⟨0x2C12, 3, 3, 4, false, false, some 2, none, 0, 0, 1, .run, false, [0]⟩,
   ⟨0x2C12, 4, 4, 8, false, false, some 2, none, 0, 0, 1, .run, false, [0]⟩,
   ⟨0x2C13, 1, 1, 1, false, false, none, some 2, 1, 3, 1, .request, false, []⟩,
   ⟨0x2C13, 2, 2, 1, false, false, some 1, none, 0, 0, 1, .run, false, [0]⟩,
   ⟨0x2C13, 3, 3, 1, false, false, some 2, none, 0, 0, 1, .run, true, []⟩,
   ⟨0x2C13, 4, 4, 8, false, false, some 2, none, 0, 0, 1, .run, true, []⟩,
   ⟨0x2C13, 5, 5, 8, false, false, some 2, none, 0, 0, 1, .run, true, []⟩,
   ⟨0x2C14, 1, 1, 4, false, false, some 2, none, 0, 0, 1, .run, false, [0]⟩]

/-- Part 7 of the table, from index 0x2C14. -/
def objRows7 : List ObjRow :=
  [⟨0x2C14, 2, 2, 4, false, false, some 2, none, 0, 0, 1, .run, true, []⟩,
   ⟨0x2C14, 3, 3, 1, false, false, some 2, none, 0, 0, 1, .run, true, []⟩,
   ⟨0x2C15, 0, 0, 8, false, false, some 2, none, 0, 0, 1, .run, false, [0]⟩,
   ⟨0x3000, 1, 16, 1, false, false, some 1, none, 0, 0, 1, .store, false, [0, 2, 4, 6, 8, 11, 14, 17, 20, 23, 26, 29, 32, 35, 38, 40]⟩,
   ⟨0x3001, 1, 16, 2, false, false, some 1, none, 0, 0, 1, .store, false, []⟩,
   ⟨0x3002, 0, 0, 1, false, false, some 1, none, 0, 0, 1, .fixed, false, [40]⟩,
   ⟨0x3003, 0, 0, 1, false, false, some 2, some 2, 0, 15, 1, .store, false, [15]⟩,
   ⟨0x3004, 1, 1, 2, false, false, some 2, some 2, 1000, 24000, 1, .store, false, [24000]⟩,
   ⟨0x3004, 2, 2, 2, false, false, some 2, some 2, 0, 5000, 1, .store, false, [2400]⟩,
   ⟨0x3005, 1, 1, 4, false, false, some 2, none, 0, 0, 1, .live, false, []⟩,
   ⟨0x3005, 2, 2, 4, false, false, some 2, none, 0, 0, 1, .run, false, [0]⟩,
   ⟨0x3006, 0, 0, 1, false, false, some 2, some 2, 0, 15, 1, .store, false, [8]⟩,
   ⟨0x3010, 0, 0, 2, false, false, some 1, some 1, 400, 1100, 25, .owner, false, [1100]⟩,
   ⟨0x3011, 1, 1, 2, false, false, some 1, none, 0, 0, 1, .owner, false, []⟩,
   ⟨0x3011, 2, 2, 1, false, false, some 1, none, 0, 0, 1, .owner, false, []⟩,
   ⟨0x3011, 3, 3, 1, false, false, some 1, none, 0, 0, 1, .owner, false, []⟩,
   ⟨0x3012, 1, 24, 1, false, false, some 2, none, 0, 0, 1, .live, false, []⟩,
   ⟨0x3013, 1, 24, 2, false, false, some 2, none, 0, 0, 1, .live, false, []⟩,
   ⟨0x3014, 1, 24, 2, false, false, some 2, none, 0, 0, 1, .live, false, []⟩,
   ⟨0x3015, 1, 24, 1, false, false, some 2, none, 0, 0, 1, .live, false, []⟩,
   ⟨0x3016, 0, 0, 2, false, false, some 2, some 2, 0, 3600, 1, .store, false, [10]⟩,
   ⟨0x3017, 0, 0, 4, false, false, some 2, none, 0, 0, 1, .run, false, [0]⟩,
   ⟨0x3018, 0, 0, 4, false, false, some 2, none, 0, 0, 1, .run, false, [0]⟩,
   ⟨0x3020, 0, 0, 1, false, false, some 2, some 2, 10, 35, 1, .store, false, [25]⟩,
   ⟨0x3021, 1, 24, 8, false, false, some 2, none, 0, 0, 1, .run, false, [0]⟩,
   ⟨0x3022, 1, 24, 2, false, false, some 2, none, 0, 0, 1, .live, false, [0]⟩,
   ⟨0x3023, 0, 0, 4, false, false, some 2, none, 0, 0, 1, .run, false, [0]⟩,
   ⟨0x3030, 0, 0, 1, false, false, some 2, some 2, 0, 1, 1, .store, false, [1]⟩,
   ⟨0x3031, 1, 24, 8, false, false, some 2, none, 0, 0, 1, .run, false, [0]⟩,
   ⟨0x3032, 1, 24, 8, false, false, some 2, none, 0, 0, 1, .run, false, [0]⟩,
   ⟨0x3033, 1, 24, 8, false, false, some 2, none, 0, 0, 1, .run, false, [0]⟩,
   ⟨0x3034, 0, 0, 8, false, false, some 2, none, 0, 0, 1, .run, false, [0]⟩,
   ⟨0x3040, 1, 24, 1, false, false, some 2, none, 0, 0, 1, .live, false, [255]⟩,
   ⟨0x3041, 1, 24, 2, false, false, some 2, none, 0, 0, 1, .live, false, [1100]⟩,
   ⟨0x3042, 0, 0, 1, false, false, some 2, none, 0, 0, 1, .live, false, [0]⟩,
   ⟨0x3050, 1, 4, 2, false, false, some 2, none, 0, 0, 1, .live, false, []⟩,
   ⟨0x3051, 1, 4, 2, false, false, some 2, none, 0, 0, 1, .live, false, []⟩,
   ⟨0x3052, 1, 4, 2, false, false, some 2, none, 0, 0, 1, .live, false, []⟩,
   ⟨0x3053, 1, 4, 1, false, false, some 1, none, 0, 0, 1, .live, false, [0]⟩,
   ⟨0x3054, 1, 4, 1, false, false, some 2, none, 0, 0, 1, .live, false, [15]⟩,
   ⟨0x3055, 1, 24, 2, false, false, some 2, none, 0, 0, 1, .live, false, []⟩,
   ⟨0x3056, 1, 6, 2, false, false, some 3, some 3, 0, 65535, 1, .store, false, [96, 96, 160, 160, 224, 224]⟩,
   ⟨0x3057, 0, 0, 2, false, false, some 3, some 3, 0, 65535, 1, .store, false, [128]⟩,
   ⟨0x3058, 1, 4, 2, false, false, some 2, none, 0, 0, 1, .live, false, []⟩,
   ⟨0x3059, 1, 7, 1, false, false, some 1, none, 0, 0, 1, .fixed, false, [2, 8, 95, 105, 25, 4, 10]⟩,
   ⟨0x3060, 1, 12, 1, false, false, some 1, none, 0, 0, 1, .live, false, [0]⟩,
   ⟨0x3061, 1, 3, 1, false, false, none, some 2, 1, 1, 1, .request, false, []⟩,
   ⟨0x3062, 0, 0, 1, false, false, some 2, some 2, 1, 3, 1, .store, false, [2]⟩]

/-- Part 8 of the table, from index 0x3070. -/
def objRows8 : List ObjRow :=
  [⟨0x3070, 0, 0, 2, false, false, some 1, none, 0, 0, 1, .live, false, []⟩,
   ⟨0x3071, 0, 0, 1, false, false, some 1, none, 0, 0, 1, .live, false, [0]⟩,
   ⟨0x3072, 1, 3, 2, false, false, some 1, none, 0, 0, 1, .fixed, false, [42000, 40000, 38000]⟩,
   ⟨0x3073, 0, 0, 4, false, false, some 2, none, 0, 0, 1, .run, false, [0]⟩,
   ⟨0x3074, 1, 4, 2, false, false, some 2, none, 0, 0, 1, .live, false, [0]⟩,
   ⟨0x3100, 1, 1, 8, false, false, some 1, none, 0, 0, 1, .owner, false, [0]⟩,
   ⟨0x3100, 2, 2, 8, false, false, some 1, none, 0, 0, 1, .owner, false, [0]⟩,
   ⟨0x3100, 3, 3, 8, false, false, some 1, none, 0, 0, 1, .owner, false, [0]⟩,
   ⟨0x3102, 0, 0, 8, false, false, some 2, none, 0, 0, 1, .run, false, [0]⟩,
   ⟨0x3103, 0, 0, 8, false, false, some 2, none, 0, 0, 1, .run, false, [0]⟩,
   ⟨0x3104, 0, 0, 4, false, false, some 2, some 2, 0, 4294967295, 1, .store, false, [1800000]⟩,
   ⟨0x3105, 1, 3, 1, false, false, some 2, some 2, 0, 255, 1, .store, false, [16, 8, 4]⟩,
   ⟨0x3106, 0, 0, 2, false, false, some 1, none, 0, 0, 1, .fixed, false, [1]⟩,
   ⟨0x3400, 1, 4, 1, false, false, some 1, none, 0, 0, 1, .live, false, []⟩,
   ⟨0x3401, 0, 0, 1, false, false, some 1, none, 0, 0, 1, .run, false, []⟩,
   ⟨0x3402, 0, 0, 1, false, false, some 2, some 2, 0, 1, 1, .store, false, [0]⟩,
   ⟨0x3403, 0, 0, 1, false, false, some 1, some 1, 0, 3, 1, .path, false, [0]⟩,
   ⟨0x3404, 1, 9, 32, true, false, some 1, none, 0, 0, 1, .run, false, []⟩,
   ⟨0x3405, 1, 9, 1, false, false, some 1, none, 0, 0, 1, .run, false, [255]⟩,
   ⟨0x3406, 1, 7, 4, false, false, some 1, none, 0, 0, 1, .fixed, false, [500, 200, 800, 600, 2000, 1000, 500]⟩,
   ⟨0x3407, 1, 7, 4, false, false, some 1, none, 0, 0, 1, .fixed, false, [500, 200, 800, 12000, 30000, 1000, 500]⟩,
   ⟨0x3408, 1, 1, 4, false, false, some 1, none, 0, 0, 1, .run, false, []⟩,
   ⟨0x3408, 2, 2, 8, false, false, some 1, none, 0, 0, 1, .run, false, []⟩,
   ⟨0x3410, 1, 4, 4, false, false, some 2, none, 0, 0, 1, .run, false, [0]⟩,
   ⟨0x3410, 5, 8, 4, false, false, some 2, none, 0, 0, 1, .run, false, [0]⟩,
   ⟨0x3410, 9, 12, 4, false, false, some 2, none, 0, 0, 1, .run, false, [0]⟩,
   ⟨0x3420, 1, 1, 1, false, false, some 1, none, 0, 0, 1, .store, false, []⟩,
   ⟨0x3420, 2, 3, 4, false, false, some 1, none, 0, 0, 1, .store, false, []⟩,
   ⟨0x3420, 4, 5, 1, false, false, some 1, none, 0, 0, 1, .store, false, []⟩,
   ⟨0x3421, 1, 1, 4, false, false, some 2, none, 0, 0, 1, .run, false, [0]⟩,
   ⟨0x3421, 2, 2, 4, false, false, some 2, none, 0, 0, 1, .run, false, [0]⟩,
   ⟨0x3422, 0, 0, 16777216, true, true, none, some 3, 0, 0, 1, .request, false, []⟩,
   ⟨0x3423, 0, 0, 1, false, false, none, some 3, 1, 1, 1, .request, false, []⟩,
   ⟨0x3430, 1, 4, 1, false, false, some 2, none, 0, 0, 1, .store, false, []⟩,
   ⟨0x3430, 5, 8, 4, false, false, some 2, none, 0, 0, 1, .store, false, []⟩,
   ⟨0x3500, 0, 0, 1, false, false, some 2, some 2, 0, 1, 1, .store, false, [1]⟩,
   ⟨0x3501, 0, 0, 2, false, false, some 2, some 2, 20, 1000, 1, .store, false, [150]⟩,
   ⟨0x3502, 0, 0, 1, false, false, some 2, none, 0, 0, 1, .store, false, []⟩,
   ⟨0x3503, 0, 0, 4, false, false, some 2, none, 0, 0, 1, .store, false, [0]⟩,
   ⟨0x3504, 1, 1, 1, false, false, some 1, none, 0, 0, 1, .live, false, [0]⟩,
   ⟨0x3504, 2, 2, 4, false, false, some 2, none, 0, 0, 1, .store, false, [0]⟩,
   ⟨0x3504, 3, 3, 4, false, false, some 2, none, 0, 0, 1, .store, true, []⟩,
   ⟨0x3505, 1, 4, 1, false, false, some 1, none, 0, 0, 1, .fixed, false, [1, 4, 4, 2]⟩,
   ⟨0x3506, 1, 1, 2, false, false, some 2, none, 0, 0, 1, .store, false, [0]⟩,
   ⟨0x3506, 2, 2, 2, false, false, some 2, some 2, 0, 1023, 1, .path, false, [0]⟩,
   ⟨0x3506, 3, 3, 16, true, false, some 2, none, 0, 0, 1, .store, false, []⟩,
   ⟨0x3506, 4, 4, 2, false, false, some 2, none, 0, 0, 1, .store, false, [0]⟩,
   ⟨0x3507, 0, 0, 2, false, false, some 2, some 2, 500, 10000, 1, .store, false, [2000]⟩]

/-- Part 9 of the table, from index 0x3800. -/
def objRows9 : List ObjRow :=
  [⟨0x3800, 0, 0, 4, false, false, some 1, none, 0, 0, 1, .fixed, false, [1048576]⟩,
   ⟨0x3801, 1, 4, 4, false, false, some 2, none, 0, 0, 1, .live, false, []⟩,
   ⟨0x3801, 5, 8, 8, false, false, some 2, none, 0, 0, 1, .live, false, [0]⟩,
   ⟨0x3801, 9, 12, 8, false, false, some 2, none, 0, 0, 1, .live, false, [0]⟩,
   ⟨0x3801, 13, 16, 1, false, false, some 2, none, 0, 0, 1, .live, false, [0]⟩,
   ⟨0x3802, 1, 4, 1, false, false, some 2, none, 0, 0, 1, .live, false, [0]⟩,
   ⟨0x3802, 5, 8, 2, false, false, some 2, none, 0, 0, 1, .live, false, [0]⟩,
   ⟨0x3802, 9, 12, 1, false, false, some 2, none, 0, 0, 1, .live, false, [0]⟩,
   ⟨0x3803, 1, 1, 1, false, false, some 1, some 1, 0, 3, 1, .path, false, [0]⟩,
   ⟨0x3803, 2, 2, 1, false, false, some 2, some 2, 0, 2, 1, .path, false, [0]⟩,
   ⟨0x3804, 0, 0, 4, false, false, some 1, some 1, 0, 1048575, 1, .path, false, [0]⟩,
   ⟨0x3805, 0, 0, 64, true, false, some 1, none, 0, 0, 1, .store, false, []⟩,
   ⟨0x3806, 0, 0, 64, true, false, some 1, none, 0, 0, 1, .store, false, []⟩,
   ⟨0x3807, 0, 0, 262144, true, false, some 2, none, 0, 0, 1, .store, false, []⟩,
   ⟨0x3808, 0, 0, 1, false, false, none, some 3, 1, 4, 1, .request, false, []⟩,
   ⟨0x3809, 0, 0, 2, false, false, some 1, none, 0, 0, 1, .fixed, false, [2000]⟩,
   ⟨0x380A, 0, 0, 2, false, false, some 1, none, 0, 0, 1, .fixed, false, [1024]⟩,
   ⟨0x380B, 0, 0, 2, false, false, some 1, none, 0, 0, 1, .fixed, false, [256]⟩,
   ⟨0x380C, 0, 0, 1, false, false, some 2, some 3, 0, 1, 1, .store, false, [0]⟩,
   ⟨0x3A00, 0, 0, 1, false, false, some 1, none, 0, 0, 1, .fixed, false, [28]⟩,
   ⟨0x3A01, 0, 0, 2, false, false, some 1, some 1, 0, 65535, 1, .path, false, [1]⟩,
   ⟨0x3A02, 1, 1, 1, false, false, some 1, some 1, 0, 4, 1, .path, false, [0]⟩,
   ⟨0x3A02, 2, 2, 1, false, false, some 2, some 2, 0, 23, 1, .path, false, [0]⟩,
   ⟨0x3A03, 0, 0, 8, false, false, some 1, none, 0, 0, 1, .live, false, []⟩,
   ⟨0x3A04, 1, 1, 1, false, false, none, some 1, 1, 1, 1, .request, false, []⟩,
   ⟨0x3A04, 2, 2, 1, false, false, some 1, none, 0, 0, 1, .path, false, [0]⟩,
   ⟨0x3A04, 3, 3, 4, false, false, some 1, none, 0, 0, 1, .path, false, [0]⟩,
   ⟨0x3A04, 4, 4, 8, false, false, some 1, none, 0, 0, 1, .path, false, []⟩,
   ⟨0x3A05, 1, 1, 8, false, false, some 1, none, 0, 0, 1, .path, false, []⟩,
   ⟨0x3B00, 1, 1, 2, false, false, some 1, none, 0, 0, 1, .fixed, false, [256]⟩,
   ⟨0x3B00, 2, 2, 1, false, false, some 1, none, 0, 0, 1, .fixed, false, [64]⟩,
   ⟨0x3B00, 3, 3, 2, false, false, some 1, none, 0, 0, 1, .fixed, false, [512]⟩,
   ⟨0x3B00, 4, 4, 2, false, false, some 1, none, 0, 0, 1, .fixed, false, [16384]⟩,
   ⟨0x3B01, 0, 0, 1, false, false, some 1, some 1, 0, 3, 1, .path, false, [0]⟩,
   ⟨0x3B02, 0, 0, 1, false, false, some 1, some 1, 0, 255, 1, .path, false, [0]⟩,
   ⟨0x3B03, 0, 0, 4, false, false, none, some 1, 0, 307199, 1, .request, false, []⟩,
   ⟨0x3B04, 0, 0, 4, false, false, none, some 2, 0, 4294967295, 1, .request, false, []⟩,
   ⟨0x3B05, 1, 1, 1, false, false, some 1, some 1, 0, 255, 1, .owner, false, [3]⟩,
   ⟨0x3B05, 2, 2, 1, false, false, some 1, some 1, 0, 255, 1, .owner, false, [7]⟩,
   ⟨0x3B06, 0, 0, 1, false, false, none, some 1, 1, 3, 1, .request, false, []⟩,
   ⟨0x3B07, 0, 0, 1, false, false, some 2, some 2, 0, 1, 1, .store, false, [0]⟩,
   ⟨0x3B08, 1, 1, 2, false, false, some 1, some 1, 0, 16383, 1, .path, false, [0]⟩,
   ⟨0x3B08, 2, 2, 4096, true, false, some 1, none, 0, 0, 1, .run, false, []⟩,
   ⟨0x3B08, 3, 3, 4096, true, false, some 1, none, 0, 0, 1, .run, false, []⟩,
   ⟨0x3B09, 1, 1, 1, false, false, some 1, none, 0, 0, 1, .owner, false, [0]⟩,
   ⟨0x3B09, 2, 2, 2, false, false, some 1, none, 0, 0, 1, .owner, false, [0]⟩,
   ⟨0x3B09, 3, 3, 4, false, false, some 1, none, 0, 0, 1, .owner, false, []⟩,
   ⟨0x3B09, 4, 4, 8, false, false, some 1, none, 0, 0, 1, .owner, false, []⟩]

/-- Part 10 of the table, from index 0x3B09. -/
def objRows10 : List ObjRow :=
  [⟨0x3B09, 5, 5, 1, false, false, some 1, none, 0, 0, 1, .owner, false, []⟩,
   ⟨0x3B0A, 0, 0, 2, false, false, some 2, none, 0, 0, 1, .live, false, [0]⟩,
   ⟨0x3F00, 0, 0, 1, false, false, some 0, none, 0, 0, 1, .path, false, [0]⟩,
   ⟨0x3F01, 1, 1, 2, false, false, some 0, some 0, 0, 65535, 1, .path, false, [0]⟩,
   ⟨0x3F01, 2, 2, 4, false, false, some 0, some 0, 0, 4294967295, 1, .path, false, [4294967295]⟩,
   ⟨0x3F01, 3, 3, 1, false, false, some 0, some 0, 2, 4, 1, .path, false, [2]⟩,
   ⟨0x3F02, 0, 0, 8, false, false, some 0, none, 0, 0, 1, .path, false, []⟩,
   ⟨0x3F03, 0, 0, 8, false, false, none, some 0, 0, 18446744073709551615, 1, .request, false, []⟩,
   ⟨0x3F04, 1, 1, 1, false, false, none, some 0, 1, 1, 1, .request, false, []⟩,
   ⟨0x3F04, 2, 2, 4, false, false, some 0, none, 0, 0, 1, .path, false, [0]⟩,
   ⟨0x3F05, 0, 0, 4, false, false, some 2, some 2, 60, 86400, 1, .store, false, [600]⟩,
   ⟨0x3F06, 0, 0, 1, false, false, some 0, none, 0, 0, 1, .fixed, false, [10]⟩,
   ⟨0x3F07, 1, 1, 4, false, false, some 2, none, 0, 0, 1, .run, false, [0]⟩,
   ⟨0x3F07, 2, 2, 4, false, false, some 2, none, 0, 0, 1, .run, false, [0]⟩,
   ⟨0x3F07, 3, 3, 4, false, false, some 2, none, 0, 0, 1, .run, false, [0]⟩,
   ⟨0x3F10, 2, 4, 32, true, false, none, some 3, 0, 0, 1, .store, false, []⟩,
   ⟨0x3F20, 1, 1, 2, false, false, some 2, some 2, 0, 1023, 1, .path, false, [0]⟩,
   ⟨0x3F20, 2, 2, 2, false, false, some 2, some 2, 0, 4094, 1, .owner, false, [0]⟩,
   ⟨0x3F20, 3, 3, 2, false, false, some 2, none, 0, 0, 1, .live, false, [0]⟩,
   ⟨0x3F20, 4, 4, 4, false, false, some 2, none, 0, 0, 1, .live, false, [0]⟩,
   ⟨0x3F21, 0, 0, 2, false, false, some 0, none, 0, 0, 1, .fixed, false, [256]⟩,
   ⟨0x3F30, 1, 1, 4, false, false, some 3, some 3, 0, 4294967295, 1, .path, false, [0]⟩,
   ⟨0x3F30, 2, 2, 65536, true, true, some 3, some 3, 0, 0, 1, .request, false, []⟩,
   ⟨0x3F30, 3, 3, 1, false, false, some 3, some 3, 0, 3, 1, .path, false, [0]⟩]

/-- The object table (R465). -/
def objRows : List ObjRow :=
  objRows0 ++ objRows1 ++ objRows2 ++ objRows3 ++ objRows4 ++ objRows5 ++ objRows6 ++ objRows7 ++ objRows8 ++ objRows9 ++ objRows10

/-- Whether an index exists (R465). -/
def indexExists (index : Nat) : Bool := objRows.any fun r => r.index = index
/-- The lowest class that may access a row, by read or by write (R466). -/
def ObjRow.lowest (r : ObjRow) : Nat :=
  match r.rd, r.wr with
  | some a, some b => Nat.min a b
  | some a, none | none, some a => a
  | none, none => 0
/-- Sub 00 of an index whose subs begin at 01 (R466): the highest sub, read with the lowest class of the others; for
0x3061 that is Operator. -/
def subZero (index : Nat) : Option ObjRow :=
  match objRows.filter fun r => r.index = index with
  | [] => none
  | r :: rest =>
    let cls := rest.foldl (fun c x => Nat.min c x.lowest) r.lowest
    some ⟨index, 0, 0, 1, false, false, some cls, none, 0, 0, 1, .fixed, false,
      [rest.foldl (fun h x => max h x.hi) r.hi]⟩
/-- The row of index:sub, sub 00 of R466 included. -/
def objRow (index sub : Nat) : Option ObjRow :=
  match objRows.find? fun r => r.index = index && decide (r.lo ≤ sub) && decide (sub ≤ r.hi) with
  | some r => some r
  | none => if sub = 0 then subZero index else none

/-- The defaults that the DH-25 changes (R1, R17, R115, R310). -/
def dh25Default (index sub : Nat) : Option Nat :=
  match index, sub with
  | 0x1018, 2 => some 0x25
  | 0x2000, 1 => some 0x25
  | 0x2000, 2 => some 1
  | 0x2000, 3 => some 25
  | 0x2000, 4 => some 84864
  | 0x2000, 5 => some 76800
  | 0x2000, 6 => some 0x00503C01
  | 0x2407, 2 => some 18
  | 0x3004, 1 => some 6500
  | 0x3004, 2 => some 700
  | 0x3030, 0 => some 0
  | _, _ => none
/-- The default of index:sub in a variant; what the specification leaves to the part is a free value. -/
def objDefault (v : Variant) (r : ObjRow) (sub : Nat) : Nat :=
  match (if v = .dh25 then dh25Default r.index sub else none) with
  | some d => d
  | none =>
    if r.index = 0x3001 then guaranteedMhz.getD (sub - 1) 0 else
    if r.index = 0x1018 && sub = 3 then
      Config.idcodeRevision.toNat * 65536 + Config.identity (key r.index sub) % 65536 else
    match r.vals with
    | [] => Config.identity (key r.index sub)
    | [d] => d
    | l => l.getD (sub - r.lo) 0

end Sys2Proof.Machine
end

