-- ==== Sys2Proof/Machine/Units.lean ====
section
/-!
DEFINITION. Unit records over time (R222, R232, R234, R237 to R240, R247): the rolling of scores, watch release,
holds and screens, the end of a copy, and the writes to the store.
-/
namespace Sys2Proof.Machine
open Sys2Proof

/-! ### Scores (R232, R234) -/

/-- SHORT_BUCKET_ROLL (R232): a tenth of the short window ends: buckets older than the window drop. -/
def execShortBucketRoll (dt : Nat) (s : State) : Result :=
  let s := elapse dt s
  let cur := pt s - pt s % bucketNs s
  let keep := fun (b : Nat × Nat) => decide (cur < b.1 + 10 * bucketNs s)
  let roll := fun (e : Nat × UnitRec) => (e.1, { e.2 with short := e.2.short.filter keep })
  done { s with units := s.units.map roll }

/-- SERVICE_DAY_ROLL (R232): the service day of a die moves on, and the long buckets of its units shift. -/
def execServiceDayRoll (dt d : Nat) (s : State) : Result :=
  let s := elapse dt s
  let day := serviceDay s d
  let roll := fun (e : Nat × UnitRec) => if puaDie e.1 = d then (e.1, rollLong e.2 day) else e
  done { s with units := s.units.map roll }

/-- WATCH_RELEASE (R234): a Watched unit has gone the watch release without points. -/
def execWatchRelease (dt : Nat) (unit : Pua) (s : State) : Result :=
  let s := elapse dt s
  let p := unit.toNat
  let r := unitRec s p
  done <| match r.lastPoints with
  | none => s
  | some t =>
    if r.state = .watched && gondolaActs s p && t + obj s (key 0x2902 0) 86400 * 1000000000 ≤ pt s && !r.open_ then
      changeState p .healthy 0x1E s
    else s

/-! ### Holds and screens (R236 to R238) -/

/-- QUARANTINE_HOLD_END (R236, R237): the hold has run: Screening, or Retired at the retire count. -/
def execQuarantineHoldEnd (dt : Nat) (unit : Pua) (s : State) : Result :=
  let s := elapse dt s
  let p := unit.toNat
  let r := unitRec s p
  done <| match r.holdFrom with
  | none => s
  | some t =>
    if r.state ≠ .quarantined || !gondolaActs s p || r.holdPaused || r.open_ || pt s < t + obj s (key 0x2903 0) 600 * 1000000000 then s
    else if r.lifetime < obj s (key 0x2904 0) 3 then changeState p .screening 0x1F s
    else changeState p .retired 0x1F s

/-- A self-test runs on a die (R374). -/
def selfTesting (s : State) (d : Nat) : Bool := (die s d).testSlice.isSome
/-- Whether the screen of a unit may end now (R238). -/
def screenRuns (s : State) (p : Nat) : Bool :=
  let x := die s (puaDie p)
  let field_ := atS8 x && x.status = 1
  match puaKind p with
  | 0 | 4 => field_
  | 1 => selfTesting s (puaDie p) || (field_ && sliceOfUnit s p = 0)
  | 2 | 3 => selfTesting s (puaDie p)
  | 5 => x.stage = 3
  | 6 | 7 => field_ && sliceOfCluster s (puaClusterKey p) = 0
  | _ => false
/-- Whether every item of a unit's screen is done (R215, R238): the extended screen of a core, the same with the 16 checker entries for
a Bridle or a control core, 10 s of probe traffic for a router. The lane tests, the tests of an attach and of a phase are the
command's own finding. -/
def screenDone (s : State) (p : Nat) : Bool :=
  let x := screenOf s p
  let extended := decide (2 ≤ x.passes) && decide (obj s (key 0x280B 1) 10000 ≤ x.randoms) && x.margin.isSome &&
    (!x.again || x.moved.isNone || x.second)
  match puaKind p with
  | 0 => extended
  | 6 | 7 => extended && decide (16 ≤ x.checkers.length)
  | 1 => selfTesting s (puaDie p) || decide (x.since + 10000000000 ≤ s.now)
  | _ => true
/-- What becomes possible when a unit has entered Ballast: an unbound logical cluster is bound (R254), an adoptive
core is no longer needed (R150), a router serves its site again (R244), a phase works again (R238). -/
def afterSpare (p : Nat) (s : State) : State :=
  match puaKind p with
  | 0 => bindWaiting (puaFieldIdx p) (assignAdoptive (puaClusterKey p) s)
  | 1 => if isBay (puaCluster p) then bindWaiting (puaFieldIdx p) s
    else requestCommit [.around p] [] [p] 0x21 s
  | 6 | 7 => bindWaiting (puaFieldIdx p) s
  -- the controller counts the phase working again (R239)
  | 5 => modField (puaFieldIdx p) (fun x => if x.phases.contains (puaSub p) then x else { x with phases := x.phases ++ [puaSub p] })
    (bindPlace p (puaSub p) s)
  | _ => s
/-- A screen ends (R236, R238). -/
def endScreen (p : Nat) (pass : Bool) (s : State) : State :=
  if stateOf s p ≠ .screening then s
  else if pass then afterSpare p (changeState p .spareReady 0x20 s)
  else changeState p .retired 0x1A s

/-- SCREEN_COMPLETE (R238): the screen of a unit's kind completes; none passes before its items are done. -/
def execScreenComplete (dt : Nat) (unit : Pua) (pass : Bool) (s : State) : Result :=
  let s := elapse dt s
  let p := unit.toNat
  done (if gondolaActs s p && screenRuns s p && (!pass || screenDone s p) then endScreen p pass s else s)

/-- PSEUDO_CHANNEL_COPY_END (R247): the copy ends; the slot moves to the spare and the failing pseudo-channel becomes
Quarantined at the commit. -/
def execPseudoChannelCopyEnd (dt : Nat) (unit : Pua) (s : State) : Result :=
  let s := elapse dt s
  let p := unit.toNat
  let st := puaDie p * 16 + puaCluster p
  done <| match s.copies.find? fun c => c.stack = st && c.failing = puaSub p && puaKind p = 4 with
  | none => s
  | some c =>
    if !gondolaActs s p then s else
    let s := { s with copies := s.copies.filter fun x => x ≠ c }
    match slotOfChannel s st c.failing with
    | some slot => requestCommit [.channel st slot c.failing c.spare] [(p, c.cause)] [p] c.cause s
    | none => s

/-- ROUTER_PROBE_TIMEOUT (R228): a router fails to return a probe; the Field Agent reports cause 0x19. -/
def execRouterProbeTimeout (dt : Nat) (router : Pua) (s : State) : Result :=
  let s := elapse dt s
  let p := router.toNat
  let f := puaFieldIdx p
  done <| if puaKind p ≠ 1 || (field s f).power ≠ 2 then s else
  raise (agentPua f) (stamped s (fieldKeeper f) .charge 0x19 0 p (sliceOfUnit s p) (puaDie p) []) s

/-! ### The store (R54, R222, R239, R240, R471, R472) -/

/-- The indexes whose values in `State.objs` the store keeps (R471). -/
def storeIndexes : List Nat :=
  [0x2101, 0x2400, 0x2401, 0x2501, 0x2602, 0x2605, 0x2704, 0x2705, 0x2800, 0x2801, 0x2802, 0x2804, 0x2809, 0x280B, 0x2900,
   0x2901, 0x2902, 0x2903, 0x2904, 0x2C00, 0x2C02, 0x2C03, 0x2C04, 0x2C06, 0x2C07, 0x3000, 0x3001, 0x3003, 0x3004,
   0x3006] ++
  [0x3016, 0x3020, 0x3030, 0x3056, 0x3057, 0x3062, 0x3104, 0x3105, 0x3402, 0x2041, 0x3420, 0x3430, 0x3500, 0x3501, 0x3503,
   0x3507, 0x380C, 0x3B07, 0x3F05, 0x2011, 0x2024]
/-- Whether the store keeps the value at a key; of 0x3504 it keeps the last duration and run, of 0x3506 the package-pin
failures. -/
def storeKept (k : Nat) : Bool :=
  storeIndexes.contains (k / 256) || k = key 0x3504 2 || k = key 0x3504 3 || k = key 0x3506 4
/-- The entries of a table, the ones that `mine` picks taken from `new`. -/
def tmerge {α : Type} (mine : Nat → Bool) (new old : Tab α) : Tab α :=
  (new.filter fun e => mine e.1).foldl (fun t e => tset t e.1 e.2) (old.filter fun e => !mine e.1)
/-- The entries of a table, those of `new` that differ from `base`, else those of `old`. -/
def tchanged {α : Type} [BEq α] (base new old : Tab α) : Tab α := tmerge (fun k => !(tget new k == tget base k)) new old
/-- The part of a die in a map, taken from `new`; with a `base`, only the entries that differ from it. -/
def tpart {α : Type} [BEq α] (d size : Nat) (base : Option (Tab α)) (new old : Tab α) : Tab α :=
  tmerge (fun x => decide (x / size = d) && base.all fun b => !(tget new x == tget b x)) new old
/-- The part of die `d` in a store, taken from `new` (R55). -/
def Stored.takeDie (d : Nat) (new old : Stored) : Stored where
  units := tmerge (fun p => decide (puaDie p = d)) new.units old.units
  fmax := tmerge (fun p => decide (puaDie p = d)) new.fmax old.fmax
  lcnMap := tmerge (fun l => decide (l / 76800 = d)) new.lcnMap old.lcnMap
  clusterMap := tmerge (fun l => decide (l / 4800 = d)) new.clusterMap old.clusterMap
  lanes := tmerge (fun x => decide (x / 896 = d)) new.lanes old.lanes
  channels := tmerge (fun x => decide (x / 512 = d)) new.channels old.channels
  lostSlots := tmerge (fun x => decide (x / 16 = d)) new.lostSlots old.lostSlots
  nodes := tmerge (fun x => decide (x = d)) new.nodes old.nodes
  training := tmerge (fun x => decide (x = d)) new.training old.training
  broken := (old.broken.filter fun p => puaDie p ≠ d) ++ new.broken.filter fun p => puaDie p = d
  lastRun := old.lastRun
/-- The die's fmax records whose hourly write is due (R222): what a margin test changed waits up to an hour; the
current entries go with the unit records. -/
def fmaxDue (s : State) (old new : FmaxRec) : Bool :=
  old.current != new.current || old.slow != new.slow || decide (new.flushed + 3600000000000 ≤ s.now)
/-- In the return state the unit and fmax records stay as they are until a Maker-class requester acts (R401). -/
def recordsFrozen (s : State) (d : Nat) : Bool :=
  (die s d).reel.returned && !s.paths.any fun e => e.2.session = .maker && decide (s.now < e.2.lease)
/-- What the Gondola works on, as the die's copy and store would hold it: the ground against which later writes of the RM itself
show what they change. -/
def workingCopy (s : State) (d : Nat) : PackageCopy × Stored :=
  (⟨0, true, s.objs, s.images, s.keys, s.seqr.checkpoint, s.zports, (die s d).copy.answers⟩,
    ⟨[], [], s.lcnMap, s.clusterMap, s.lanes, s.channels, s.lostSlots, [(d, (die s d).node)], [(d, (die s d).training)], [], none⟩)
/-- The raw-written bytes of a die's store less those in records that the RM has written since. -/
def dropCells (d : Nat) (written : Nat → Nat → Bool) (m : List Host.Cell) : List Host.Cell :=
  m.filter fun c => let r := Config.storeRecord d c.1
    !written r.1 r.2.1
/-- Whether two package-scoped copies hold the same records. -/
def sameRecords (a b : PackageCopy) : Bool := { a with writes := 0, valid := true } == { b with writes := 0, valid := true }
/-- A die's copy once the package-scoped writes that wait for it are made (R54, R472): with the write count of a copy that
holds the same records, else with the next one. A fenced die receives nothing (R473). -/
def savedCopy (s : State) (d : Nat) : PackageCopy :=
  let old := (die s d).copy
  let new : PackageCopy := ⟨0, true, s.objs.filter fun e => storeKept e.1, s.images, s.keys, s.seqr.checkpoint, s.zports, old.answers⟩
  -- what a raw write has put there stays until the RM itself changes that value
  let new := match (die s d).rawBase with
    | none => new
    | some (b, _) => { new with
        objs := tchanged b.objs new.objs old.objs, images := if s.images = b.images then old.images else s.images,
        keys := tchanged b.keys new.keys old.keys, checkpoint := if s.seqr.checkpoint = b.checkpoint then old.checkpoint else s.seqr.checkpoint,
        zports := tchanged b.zports new.zports old.zports }
  if (die s d).status = 2 || (old.valid && sameRecords old new) then old else
  match s.dies.find? fun x => x.status ≠ 2 && x.copy.valid && sameRecords x.copy new with
  | some x => { new with writes := max old.writes x.copy.writes }
  | none => { new with writes := ((s.dies.map (·.copy.writes)).foldl max 0 + 1) % 2 ^ 64 }
/-- An fmax record as the store takes it (R222): the current entries and the slow flag go with the unit records, the margin fields
of bytes 32 to 43 once an hour. -/
def savedFmax (s : State) (new : FmaxRec) (old : FmaxRec) : FmaxRec :=
  if new.flushed + 3600000000000 ≤ s.now then { new with flushed := s.now, dirty := false }
  else { new with run := old.run, step := old.step, outcome := old.outcome, lowerings := old.lowerings, tests := old.tests,
                  dirty := false }
/-- The Gondola writes what has changed in its die's records, maps and in the package-scoped values (R240, R472), on every chip
select that is usable (R55). -/
def saveDie (d : Nat) (s : State) : State :=
  let ofDie := fun p => decide (puaDie p = d) && !recordsFrozen s d
  let changed := fun p => ofDie p && (unitRec s p).dirty
  let due := fun p => ofDie p && (fmaxRec s p).dirty &&
    fmaxDue s (tgetD (storedOf s d).fmax p FmaxRec.manufacture) (fmaxRec s p)
  let whole := fun p => due p && decide ((fmaxRec s p).flushed + 3600000000000 ≤ s.now)
  let rows := s.fmax.map fun e => (e.1, savedFmax s e.2 (tgetD (storedOf s d).fmax e.1 FmaxRec.manufacture))
  let base := (die s d).rawBase.map (·.2)
  let ofNode := fun (part : Stored → Tab (Tab Nat)) (new old : Tab Nat) => match base with
    | none => new
    | some b => tchanged (tgetD (part b) d []) new old
  let store := fun (k : Stored) => { k with
    units := tmerge changed s.units k.units
    fmax := tmerge due rows k.fmax
    lcnMap := tpart d 76800 (base.map (·.lcnMap)) s.lcnMap k.lcnMap
    clusterMap := tpart d 4800 (base.map (·.clusterMap)) s.clusterMap k.clusterMap
    lanes := tpart d 896 (base.map (·.lanes)) s.lanes k.lanes
    channels := tpart d 512 (base.map (·.channels)) s.channels k.channels
    lostSlots := tpart d 16 (base.map (·.lostSlots)) s.lostSlots k.lostSlots
    nodes := tset k.nodes d (ofNode (·.nodes) (die s d).node (tgetD k.nodes d []))
    training := tset k.training d (ofNode (·.training) (die s d).training (tgetD k.training d []))
    broken := k.broken.filter fun p => !changed p && !due p }
  let c := savedCopy s d
  let written := fun kind n => (kind = 1 && changed n) || (kind = 2 && due n) || ([3, 5, 11, 16, 17, 18].contains kind && c != (die s d).copy)
  let ground := workingCopy s d
  let cleanUnit := fun (e : Nat × UnitRec) => if changed e.1 then (e.1, { e.2 with dirty := false }) else e
  let cleanFmax := fun (e : Nat × FmaxRec) =>
    if whole e.1 then (e.1, { e.2 with dirty := false, flushed := s.now })
    else if due e.1 then (e.1, { e.2 with
      dirty := (savedFmax s e.2 (tgetD (storedOf s d).fmax e.1 FmaxRec.manufacture)) != { e.2 with dirty := false } })
    else e
  modDie d (fun x => { x with copy := c, rawBase := x.rawBase.map fun _ => ground, store := dropCells d written x.store })
    (editStores d store { s with units := s.units.map cleanUnit, fmax := s.fmax.map cleanFmax })

/-- STORE_RECORD_WRITE (R240, R472): the writes of a die reach the store; none while writes are suspended. -/
def execStoreRecordWrite (dt d : Nat) (s : State) : Result :=
  let s := elapse dt s
  done (if (die s d).suspended then s else saveDie d s)

/-- SERVICE_SECONDS_SAVE (R232, R240): the hourly write of the service seconds and of the long buckets. -/
def execServiceSecondsSave (dt d : Nat) (s : State) : Result :=
  let s := elapse dt s
  done <| if (die s d).suspended || recordsFrozen s d then s else
  -- the long buckets of other units at most once an hour (R240)
  let hourly := decide ((die s d).serviceSaved + 3600 ≤ serviceNow s d)
  let rows := if hourly then s.units.filter fun e => puaDie e.1 = d && !e.2.dirty else []
  let store := fun (k : Stored) => { k with units := rows.foldl (fun t e => tset t e.1
    { tgetD k.units e.1 (UnitRec.manufacture e.1) with day := e.2.day, long := e.2.long, decisive := e.2.decisive }) k.units }
  modDie d (fun x => { x with serviceSaved := serviceNow s d }) (editStores d store s)

end Sys2Proof.Machine
end

