-- ==== Sys2Proof/Machine/Values.lean ====
section
/-!
DEFINITION. What each object of the dictionary reads as (R464, R476 to R484 and the object tables of the chapters), and
the records that DOMAIN objects show.
-/
namespace Sys2Proof.Machine
open Sys2Proof

/-! ### Selectors and cursors (R431, R432, R474) -/

/-- The selector of index:sub on a path. -/
def sel (s : State) (p : Path) (index sub : Nat) : Nat :=
  selector s p (key index sub) (match objRow index sub with
    | some r => r.vals.headD 0
    | none => 0)
/-- The unit at a path's cursor (R432): a cursor by LCN follows every rebinding. -/
def cursorUnit (s : State) (p : Path) : Option Nat :=
  let x := path s p
  match x.cursorLcn, x.cursorPua with
    | some l, _ => coreOf s l
    | none, u => u
/-- The slice that a path selects at 0x2403. -/
def selectedSlice (s : State) (p : Path) : Nat := sel s p 0x2403 0
/-- The slot that a path selects at 0x3B01 and 0x3B02. -/
def selectedSlot (s : State) (p : Path) : Nat := sel s p 0x3B01 0 * 256 + sel s p 0x3B02 0

/-- The code of a class at 0x3F00 (R464). -/
def Class.code : Class → Nat
  | .none => 0
  | .observer => 1
  | .operator => 2
  | .service => 3
  | .maker => 4
/-- The slice that a mailbox is bound to (R453); 0 on a port. -/
def boundSlice (s : State) (p : Path) : Nat :=
  match p with
  | .mailbox n => (mailbox s n).bound
  | .port .. => 0

/-! ### Records -/

/-- A byte of a number. -/
def byte (n : Nat) : Byte := BitVec.ofNat 8 n
/-- The 48 bytes of an fmax record (R222). -/
def fmaxBytes (r : FmaxRec) : List Byte :=
  withCheck ((r.current ++ r.characterised).map byte ++ leBytes 4 r.run ++
    [byte r.step, byte r.outcome, byte r.lowerings, if r.slow then 1 else 0] ++ leBytes 4 r.tests)
/-- The 48 bytes of a unit record (R239). -/
def unitBytes (r : UnitRec) : List Byte :=
  withCheck ([byte r.state.code, byte r.flags, byte r.cause, byte r.lifetime] ++ leBytes 4 r.bound ++ leBytes 4 r.run ++
    leBytes 6 r.seq ++ leBytes 2 r.era ++ leBytes 4 r.day ++ (r.long.take 7).flatMap (leBytes 2) ++
    leBytes 2 r.decisive ++ zeros 4)
/-- The 32 bytes of the Reel descriptor (R383). -/
def descriptorBytes (r : Reel) : List Byte :=
  let c := r.clearOpen.getD (0, 0, 0)
  withCheck (leBytes 2 r.clearCount ++ [byte r.active, if r.returned then 1 else 0] ++
    leBytes 4 (r.erasedThrough.getD 0xFFFFFFFF) ++ leBytes 4 (if r.clearOpen.isSome then 0xFFFFFFFF else 0) ++ leBytes 4 c.1 ++
    leBytes 2 (c.2.1 / 2 ^ 48) ++ leBytes 6 (c.2.1 % 2 ^ 48) ++ [byte c.2.2] ++ zeros 3)
/-- The 32 bytes of a stage report (R355). -/
def StageReport.bytes (stage : Nat) (r : StageReport) : List Byte :=
  [byte stage, byte r.result, byte r.kind, byte r.detail] ++ leBytes 8 r.start ++ leBytes 4 r.duration ++
    leBytes 4 r.expected ++ leBytes 4 r.usable ++ leBytes 2 r.absent ++ leBytes 2 r.anomalies ++ leBytes 4 r.first
/-- The result of a stage that was not reached (R355). -/
def stageResult (x : Die) (stage : Nat) : Nat := ((tget x.reports stage).map (·.result)).getD 0xFF
/-- The ring index of the first block of a capture: the blocks before its header, past a pinned capture (R278). -/
def captureFirst (x : Die) (c : Capture) : Nat :=
  let a := (c.header + captureRegion - c.blocks) % captureRegion
  match pinnedSpan x with
  | some p => if c.number ≠ x.pinned && decide ((c.header + captureRegion - p.1) % captureRegion < c.blocks + p.2) then
      (a + captureRegion - p.2 % captureRegion) % captureRegion else a
  | none => a
/-- The header block of a capture (R277). The ring indices of its section table are free values where the capture holds
more than clusters. -/
def captureHeader (d : Nat) (x : Die) (c : Capture) : List Byte :=
  let first := captureFirst x c
  let clusters := c.units.all fun u => puaKind u = 7
  let entry := fun (e : Nat × Nat) => leBytes 4 e.1 ++
    (if clusters then leBytes 4 ((first + 4 * e.2) % captureRegion)
     else fitBytes 4 (Config.captureBlock d c.number (captureRegion + e.2)))
  let body := leBytes 4 c.number ++ [byte c.code, byte c.reason, byte c.consistency, 0] ++ leBytes 4 c.domain ++
    leBytes 8 c.cut ++ leBytes 6 (c.position % 2 ^ 48) ++ leBytes 2 (c.position / 2 ^ 48) ++ leBytes 4 c.blocks ++
    leBytes 4 first ++ fitBytes 4056 ((c.units.take 507).zipIdx.flatMap entry)
  withCheck body
/-- A block of a die's capture region (0x2C0C:02); a section, or a block that no whole header covers, is a free value. -/
def captureBlock (s : State) (d i : Nat) : List Byte :=
  let x := die s d
  match x.captures.find? fun c => c.valid && c.header = i with
  | some c => captureHeader d x c
  | none => fitBytes 4096 (Config.captureBlock d x.captureCount i)
/-- The chip select that a region selector names (R397). -/
def reelRegion (x : Die) (region : Nat) : Tab (List Byte) :=
  if region = 1 then x.reel.cs0 else if region = 2 then x.reel.cs1
  else if x.reel.active = 0 then x.reel.cs0 else x.reel.cs1
/-- The record that a path selects at 0x3803 and 0x3804. -/
def selectedRecord (s : State) (p : Path) (i : Nat) : List Byte :=
  storedRecord (reelRegion (die s (sel s p 0x3803 1)) (sel s p 0x3803 2)) i
/-- A chunk of a die's trace region; one that nothing has written reads as zeros (R412). -/
def traceChunk (s : State) (d i : Nat) : List Byte := tgetD (die s d).traceRegion i (zeros 4096)
/-! ### Counters (R406 to R411) -/

/-- The level of a counter: 0 core, 1 cluster, 2 field, 3 die. -/
def counterLevel (id : Nat) : Option Nat :=
  if 1 ≤ id && id ≤ 9 then some 0 else if 0x0101 ≤ id && id ≤ 0x0108 then some 1
  else if 0x0201 ≤ id && id ≤ 0x0203 then some 2 else if 0x0301 ≤ id && id ≤ 0x0308 then some 3 else none
/-- The counters without a slice view (R406). -/
def counterPrivate (id : Nat) : Bool := [0x0009, 0x0107, 0x0108, 0x0201, 0x0305, 0x0306].contains id
/-- The counters that no command of the table advances: their values are free. -/
def counterFree (id : Nat) : Bool :=
  [0x0005, 0x0006, 0x0007, 0x0103, 0x0105, 0x0106, 0x0107, 0x0108, 0x0201, 0x0305].contains id
/-- The unit of a counter: 0x0008 shows 1,048,576 MACs. -/
def counterUnit (id n : Nat) : Nat := (if id = 8 then n / 1048576 else n) % 2 ^ 64
/-- The sum of a counter over the units that a test picks by die, field and cluster key or core. -/
def counterSum (s : State) (id : Nat) (inField : Nat → Bool) (inDie : Nat → Bool) : Nat :=
  match counterLevel id with
  | some 0 => ((s.cores.filter fun e => inField (puaFieldIdx e.1)).map fun e => tgetD e.2.counters id 0).sum
  | some 1 => ((s.clusters.filter fun e => inField (ckField e.1)).map fun e => tgetD e.2.counters id 0).sum
  | some 2 => ((fieldIdxs s).filter inField |>.map fun f => tgetD (field s f).counters id 0).sum
  | some 3 => ((dieIdxs s).filter inDie |>.map fun d => tgetD (die s d).counters id 0).sum
  | _ => 0
/-- The count of the unit at a cursor (scope 1, R408): none where no unit of the counter's level holds it. -/
def counterOfUnit (s : State) (id u : Nat) : Option Nat :=
  match counterLevel id, puaKind u with
  | some 0, 0 => some (tgetD (core s u).counters id 0)
  | some 1, 0 | some 1, 1 | some 1, 6 | some 1, 7 => some (tgetD (cluster s (puaClusterKey u)).counters id 0)
  | _, _ => none
/-- What a path's scope reads of such a counter, as a key of `State.views` beside those of the slice views: a slice's view, an
LCN's or a logical cluster's share of it, or the raw count of a unit, a field, a die or the package. -/
def freeCountKey (s : State) (p : Path) (id : Nat) (observer : Bool) : Nat :=
  let scope := sel s p 0x3A02 1
  if scope = 0 then viewKey (4096 + selectedSlice s p) (2 ^ 20 - 1) id
  else if scope = 1 && observer then
    let lcn := ((path s p).cursorLcn).getD 0
    viewKey (4096 + sliceOfLcn s lcn) (if counterLevel id = some 0 then lcn else lcn / 16) id
  else
    let u := (cursorUnit s p).getD 0
    let i := if scope = 1 then (if counterLevel id = some 0 then u else puaClusterKey u) else if scope < 4 then sel s p 0x3A02 2 else 0
    viewKey (2 ^ 20 + scope * 2 ^ 20) i id
/-- A counter that no command advances: what it read last and a free count since then, so that it never steps back (R405). -/
def freeCount (s : State) (k : Nat) : Nat := tgetD s.views k 0 + Config.counted k s.free
/-- Keep what such counters read, by key. -/
def noteCounts (ks : List Nat) (s : State) : State :=
  { s with views := (ks.map fun k => (k, freeCount s k)).foldl (fun t e => tset t e.1 e.2) s.views, free := s.free + 1 }
/-- The value of a counter in a path's scope (R408, R409), or none where R408 refuses it. `observer` asks for the slice
view. -/
def counterValue (s : State) (p : Path) (id : Nat) (observer : Bool) : Option Nat :=
  let scope := sel s p 0x3A02 1
  let i := sel s p 0x3A02 2
  let k := selectedSlice s p
  let free := fun (n : Nat) => if counterFree id then freeCount s (freeCountKey s p id observer) % 2 ^ 64 else counterUnit id n
  match counterLevel id, scope with
  | none, _ => none
  | some _, 0 => some (free (sliceView s k id))
  | some l, 1 =>
    if observer then match (path s p).cursorLcn with
      | some lcn =>
        let own := tgetD s.views (viewKey (sliceOfLcn s lcn) (if l = 0 then lcn else lcn / 16) id) 0
        if l ≤ 1 then some (free own) else none
      | none => none
    else (cursorUnit s p).bind fun u => (counterOfUnit s id u).map free
  | some l, 2 => if l = 3 || s.variant.dies * 6 ≤ i then none else some (free (counterSum s id (· == i) (fun _ => false)))
  | some _, 3 => if s.variant.dies ≤ i then none else some (free (counterSum s id (· / 6 == i) (· == i)))
  | some _, _ => some (free (counterSum s id (fun _ => true) (fun _ => true)))

/-! ### Values by range -/

/-- The default TPDO mapping of a node (R443). -/
def defaultMapping (d pdo : Nat) : List Nat :=
  [[0x21000040], [0x24060120, 0x24060210, 0x24070308, 0x30710008], [0x31030040],
    [0x30050120, 0x30500010 + (d + 1) * 256, 0x30530008 + (d + 1) * 256, 0x2C130208]].getD pdo []
/-- A two's complement value in `n` bytes. -/
def signed (n : Nat) (v : Int) : Nat := (v % (2 ^ (8 * n) : Int)).toNat
/-- The defaults of node objects that depend on the node (R439, R443, R445). -/
def nodeDefault (s : State) (d index sub dflt : Nat) : Nat :=
  let b := nodeId s d
  match index with
  | 0x1014 => 0x80 + b
  | 0x1800 | 0x1801 | 0x1802 | 0x1803 => if sub = 1 then 0x180 + (index - 0x1800) * 0x100 + b else dflt
  | 0x1A00 | 0x1A01 | 0x1A02 | 0x1A03 =>
    let m := defaultMapping d (index - 0x1A00)
    if sub = 0 then m.length else m.getD (sub - 1) 0
  | _ => dflt
/-- A node object as a die's node holds it (R471). -/
def nodeValue (s : State) (d index sub : Nat) : Nat :=
  nodeObj s d (key index sub) (nodeDefault s d index sub
    (match objRow index sub with
      | some r => objDefault s.variant r sub
      | none => 0))

/-- 0x1000 to 0x20FF: communication, identity and topology (R464, R476 to R479). -/
def identityValue (s : State) (p : Path) (index sub : Nat) : Option (Option Nat) :=
  let d := pathDie p
  let x := die s d
  let j := sel s p 0x2010 0
  let seam := sel s p 0x2020 0
  let found := fun j => (List.range 32).any fun pc => stateOf s (channelPua j pc) != .absent
  let ok := fun (n : Nat) => some (some n)
  match index, sub with
  | 0x1001, _ => ok (errorRegister s d)
  | 0x1003, 0 => ok x.errors.length
  | 0x1003, i => some x.errors[i - 1]?
  | 0x1200, 1 => ok (0x600 + nodeId s d)
  | 0x1200, 2 => ok (0x580 + nodeId s d)
  | 0x20F0, 1 => ok (4 * x.nid + 1)
  | 0x20F0, 2 => ok (nodeId s d)
  | 0x20F3, i => ok (port s (d * 2 + (i - 1))).busOff
  | 0x2002, i => ok (if s.variant.dies < i then 0 else (die s (i - 1)).status)
  | 0x2003, _ => ok (if s.variant = .dh100 && s.standby && (die s 1).status ≠ 2 then 1 else 0)
  | 0x2011, 1 => ok (if found j then 1 + Config.stackIdentity j / 2 ^ 44 % 2 else 0)
  | 0x2011, 2 => ok (if found j then stackGb j * 1048576 else 0)
  | 0x2011, 3 => ok (usableKiB s j)
  | 0x2011, 4 => ok (if s.unreachable.contains j then 0 else 1)
  | 0x2011, 5 => ok (reservedKiB s j)
  | 0x2011, 6 => ok ((spareChannel s j).getD 0xFF)
  | 0x2011, 7 => ok (tgetD s.lostSlots j 0)
  | 0x2011, 8 => ok ((attachRouters j).headD packagePua)
  | 0x2011, 9 => ok (if found j then Config.stackIdentity j % 2 ^ 64 else 0)
  | 0x2011, 10 => ok ((unitRec s (channelPua j 0)).flags % 2)
  | 0x2012, 1 => ok ((stackKeys s).countP found)
  | 0x2012, 2 => ok ((stackKeys s).countP fun j => !s.unreachable.contains j)
  | 0x2012, 3 => ok ((stackKeys s).map (usableKiB s)).sum
  | 0x2021, i =>
    let u := stateOf s (lanePua seam (i - 1))
    ok (if inService u then ((List.range 120).find? fun slot => laneOf s seam slot = i - 1).getD 0xFF
      else if isSpare u then 0xFE else 0xFF)
  | 0x2022, i => ok (match slotEndpoint seam (i - 1) with
    | some (x, y, z, dir) => x * 2 ^ 24 + y * 2 ^ 16 + z * 256 + dir
    | none => 0xFFFFFFFF)
  | 0x2023, i => ok (laneOf s seam (i - 1))
  | 0x2030, i =>
    let e := (i - 1) / 8
    let out := !inService (stateOf s (portPua e ((i - 1) % 8)))
    ok (zportOf s e ((i - 1) % 8) % 8 + (if out then 8 else 0) + (if s.variant = .dh25 then 16 else 0))
  | 0x2031, i => ok (if s.variant = .dh25 then 0 else (List.range 4).countP fun q => bridgeUp s (i - 1) q)
  | 0x2040, i => ok ((hostRouter s.variant (i - 1)).getD 0xFFFFFFFF)
  | _, _ => none

/-- The 0x2102 to 0x2104 keeper of a sub (R95). -/
def subKeeper (sub : Nat) : Nat := sub - 1
/-- 0x2100 to 0x2FFF outside the unit window: time, order, screening, tests, sparing, hangs (R481, R483). -/
def orderValue (s : State) (p : Path) (index sub : Nat) : Option (Option Nat) :=
  let k := selectedSlice s p
  let i := sub - 1
  let ok := fun (n : Nat) => some (some n)
  let ofSlice := fun (f : Slice → Nat) => some ((slice s k).map f)
  let live := s.slices.filter fun e => sliceLive e.2
  match index, sub with
  | 0x2100, _ => ok (keeperRead s (pathDie p))
  | 0x2102, _ => ok (if subKeeper sub = s.anchorDie then 0 else (keeper s (subKeeper sub)).delay)
  | 0x2103, _ => ok (keeperState (keeper s (subKeeper sub)))
  | 0x2104, _ => ok (min 65535 (keeper s (subKeeper sub)).missed)
  | 0x2200, _ => ok (s.seqr.next % 2 ^ 48)
  | 0x2201, _ => ok (s.seqr.next / 2 ^ 48 % 65536)
  | 0x2202, _ => ok s.anchorDie
  | 0x2203, _ => ok (s.seqr.checkpoint % 2 ^ 64)
  | 0x2404, 2 => ofSlice fun x => (modeInForce x).code
  | 0x2404, 3 => ofSlice (·.boundState)
  | 0x2404, 4 => ofSlice (sliceBound s k)
  | 0x2404, 5 => ok (sliceCores s k)
  | 0x2404, 6 => ofSlice (·.boundSince)
  | 0x2404, 7 => ofSlice fun x => match x.pending with
    | some m => m.code
    | none => 0xFF
  | 0x2406, 1 => ok ((live.map fun e => sliceBound s e.1 e.2).sum)
  | 0x2406, 2 => ok (live.countP fun e => e.2.boundState ≠ 0)
  | 0x2407, 1 => ok (modelCount s)
  | 0x2407, 3 => ok (if s.modelFlag then 1 else 0)
  | 0x280A, 1 => ofSlice standing
  | 0x2905, _ => ok (serviceNow s i)
  | 0x2906, _ => ok ((unitsOf s).countP fun u => (stateOf s u).code = i)
  | 0x2907, _ => if sub = 0 then none else if sub ≤ 4 then ok (die s i).handling.length else ok (die s (i - 4)).peak
  | 0x2908, _ => if sub ≤ 4 then ok (die s i).lost else if sub ≤ 8 then ok (die s (i - 4)).lastLoss
      else ok (die s (i - 8)).lossRuns
  | 0x2A10, _ => ok (((List.range 832).flatMap fun c => coresOf (clusterKey i c)).countP fun u => isSpare (stateOf s u))
  | 0x2A11, _ => ok (((List.range 832).map (clusterKey i)).countP (clusterFree s))
  | 0x2A12, _ => ok (((List.range 800).map (i * 800 + ·)).countP fun l => (clusterOf s l).isNone)
  | 0x2A13, _ => ok ((List.range 128).countP fun g => isSpare (stateOf s (lanePua i g)))
  | 0x2A14, _ => ok (if (spareChannel s i).isSome then 1 else 0)
  | 0x2A15, _ => ok (field s i).phases.length
  | 0x2C01, 2 => ok (hangMode s k)
  | 0x2C0B, 3 => ok (die s (sel s p 0x2C0B 2)).captureCount
  | 0x2C0B, 4 => ok (die s (sel s p 0x2C0B 2)).pinned
  | 0x2C12, 4 => ok ((s.slices.flatMap fun e => e.2.zeroFill.map (·.2)).sum)
  | 0x2C13, 2 => ok s.ripcord.state
  | _, _ => none
where
  /-- Every unit of the package's dies (R6). -/
  unitsOf (s : State) : List Nat :=
    (fieldIdxs s).flatMap (fun f => agentPua f ::
      ((List.range 832).map (clusterKey f)).flatMap (fun ck =>
        coresOf ck ++ [clusterPua 1 ck, clusterPua 6 ck, clusterPua 7 ck]) ++
      (List.range 24).map (fun n => mkPua (f / 6) (f % 6) 0x3FF 31 5 n)) ++
    (List.range (s.variant.dies * 7)).flatMap (fun m => (List.range 128).map (lanePua m)) ++
    (stackKeys s).flatMap (fun j => (List.range 32).map (channelPua j)) ++
    (dieIdxs s).flatMap (fun d => (List.range 8).map (portPua d))

/-- The unit window 0x2A02 to 0x2A0F for unit `u` (R264, R482). -/
def windowValue (s : State) (p : Path) (u index sub : Nat) : Option Nat :=
  let r := unitRec s u
  let lcn := match (path s p).cursorLcn with
    | some l => some l
    | none => if puaKind u = 0 then lcnOfCore s u else none
  match index, sub with
  | 0x2A02, _ => some u
  | 0x2A03, _ => some (lcn.getD 0xFFFFFFFF)
  | 0x2A04, _ => some r.state.code
  | 0x2A05, 1 => some (min 65535 (shortScore s r))
  | 0x2A05, 2 => some (longScore s u)
  | 0x2A05, 3 => some r.lifetime
  | 0x2A05, 4 => some r.cause
  | 0x2A05, 5 => some r.flags
  | 0x2A05, 6 => some r.decisive
  | 0x2A08, _ => r.lastSeq
  | 0x2A0B, _ => some (((s.commits.find? fun c => c.units.contains u || c.quarantines.any (fun q => q.1 = u) ||
      (c.bindings.flatMap bindingUnits).contains u).map (·.count)).getD 0)
  | 0x2A0C, _ => some (if r.open_ then 1 else 0)
  | 0x2A0D, _ => some (sliceOfUnit s u)
  | 0x2A0E, _ => some (if [2, 3, 4, 5, 8].contains (puaKind u) then 0xFFFFFFFF else
      let c := clusterCoord (puaClusterKey u)
      c.1 * 65536 + c.2.1 * 256 + c.2.2)
  | 0x2A0F, _ => some r.bound
  | _, _ => none

/-- 0x3000 to 0x33FF: power, thermal, supply and energy (R483). -/
def powerValue (s : State) (p : Path) (index sub : Nat) : Option (Option Nat) :=
  let i := sub - 1
  let ok := fun (n : Nat) => some (some n)
  let th := fun d => (die s d).thermal
  match index with
  | 0x3005 => if sub = 1 then ok (powerMean s) else none
  | 0x3012 => ok (field s i).step
  | 0x3013 => ok (field s i).millivolt
  | 0x3014 => ok (field s i).ampere
  | 0x3015 => ok (field s i).power
  | 0x3022 => ok (field s i).duty
  | 0x3040 => ok (field s i).phaseCap
  | 0x3041 => ok (currentLimit (field s i).phases.length)
  | 0x3042 => ok ((fieldIdxs s).countP fun f => (field s f).power = 3)
  | 0x3050 => ok (signed 2 ((th i).t16 / 16))
  | 0x3051 => ok (match (th i).rise with
    | some r => signed 2 (r * 10 / 16)
    | none => Config.overflowed (key index sub) s.now % 65536)
  | 0x3052 => ok (signed 2 (modelEstimate s i / 100))
  | 0x3053 => ok (th i).state
  | 0x3054 => ok (th i).cap
  | 0x3055 =>
    let rise : Int := (obj s (key 0x3057 0) 128 : Int) * 100 * (field s i).filtered / 2000000000
    ok (signed 2 (((th (i / 6)).t16 * 100 / 16 + rise) / 100))
  | 0x3058 => ok (signed 2 ((th i).tBase / 100))
  | 0x3060 => ok (trayState (trayInput s (i / 3) (i % 3)))
  | 0x3070 => ok (((dieIdxs s).map fun d => (die s d).vin).foldl min 65535)
  | 0x3071 => ok (supplyState s)
  | 0x3074 => ok (die s i).reel.hold.length
  | 0x3100 => some ((slice s (selectedSlice s p)).map fun x =>
      (if sub = 1 then x.coreMicro + x.dramMicro else if sub = 2 then x.coreMicro else x.dramMicro) / 1000)
  | 0x3102 => ok (obj s unownedMicro 0 / 1000)
  | 0x3103 => ok (obj s packageMicro 0 / 1000)
  | _ => none

/-- 0x3400 to 0x3FFF: bring-up, self-test, the Reel, counters, trace and privilege (R484). -/
def serviceValue (s : State) (p : Path) (index sub : Nat) : Option (Option Nat) :=
  let i := sub - 1
  let ok := fun (n : Nat) => some (some n)
  let x := path s p
  let rep := die s (sel s p 0x3403 0)
  let slot := tget s.traces (selectedSlot s p)
  let box := mailbox s (sel s p 0x3F20 1)
  match index, sub with
  | 0x3400, _ => ok (die s i).stage
  | 0x3401, _ => ok (match s.startKind with
    | .cold => 0
    | .warm => 1
    | .retention => 2
    | .mixed => 3)
  | 0x3405, _ => ok (stageResult rep i)
  | 0x3410, _ => if sub ≤ 4 then ok (die s i).absentAtStart else if sub ≤ 8 then ok (die s (i - 4)).anomaliesAtStart
      else ok (die s (i - 8)).fallbacks
  | 0x3420, 1 => ok s.imageInUse
  | 0x3420, _ => ok (if sub ≤ 3 then (s.images.getD (sub - 2) ⟨0, 0, []⟩).version
      else (s.images.getD (sub - 4) ⟨0, 0, []⟩).state)
  | 0x3430, _ =>
    if sub ≤ 4 then
      let t := (die s i).training
      ok (if t.isEmpty then 0 else if t.all (fun e => e.2 = 1) then 1 else 2)
    else none
  | 0x3502, _ => ok (obj s (key 0x3503 0) 0 % 4)
  | 0x3506, 1 => ok rep.testResults.length
  | 0x3801, _ =>
    if sub ≤ 4 then ok (die s i).reel.next else if sub ≤ 8 then ok (die s (i - 4)).reel.lost
    else if sub ≤ 12 then ok (die s (i - 8)).reel.lastLost
    else ok (if (die s (i - 12)).reel.torn.isSome then 1 else 0)
  | 0x3802, _ =>
    if sub ≤ 4 then ok (die s i).reel.active else if sub ≤ 8 then ok (die s (i - 4)).reel.clearCount
    else ok (reelState (die s (i - 8)))
  | 0x380C, _ => ok (if s.dies.any (·.reel.returned) then 1 else 0)
  | 0x3A04, 2 => ok (if x.waitingSnapshot then 1 else (x.snapshot.map (·.1)).getD 0)
  | 0x3A04, 3 => ok ((x.snapshot.map (·.2.1)).getD 0)
  | 0x3A04, 4 => some (x.snapshot.map (·.2.2.2))
  | 0x3A05, _ => some (tget x.latched (sel s p 0x3A01 0))
  | 0x3B05, 1 => ok ((slot.map (·.content)).getD 3)
  | 0x3B05, _ => ok ((slot.map (·.stopMask)).getD 7)
  | 0x3B07, _ => ok (die s (sel s p 0x3B01 0)).traceMode
  | 0x3B09, 1 => ok ((slot.map (·.state)).getD 0)
  | 0x3B09, 2 => ok ((slot.map (·.owner)).getD 0)
  | 0x3B09, 3 => some (slot.map fun t => clusterPua 6 ((traceCluster s t).getD t.target))
  | 0x3B09, 4 => some (slot.map (·.startPt))
  | 0x3B09, _ => some (slot.map (·.stopCause))
  | 0x3B0A, _ => ok (s.traces.countP fun e => e.1 / 256 = sel s p 0x3B01 0 && e.2.state = 2)
  | 0x3F00, _ => ok (max (sessionOf s p).code (if boundSlice s p = 0 then 0 else 1))
  | 0x3F04, 2 => ok (if x.session = .none then 0 else (x.lease - s.now) / 1000000000)
  | 0x3F20, 2 => ok box.bound
  | 0x3F20, 3 => ok box.queue.length
  | 0x3F20, 4 => ok box.lost
  | _, _ => none

/-- The stored value of an object, by how long it lasts (R471). -/
def storedValue (s : State) (p : Path) (r : ObjRow) (sub : Nat) : Option Nat :=
  let k := key r.index sub
  let d := objDefault s.variant r sub
  match r.kept with
  | .fixed => some d
  | .node => some (nodeValue s (pathDie p) r.index sub)
  | .path => some (tgetD (path s p).objs k d)
  | .owner => match (slice s (selectedSlice s p)).bind fun x => tget x.objs k with
    | some v => some v
    | none => if r.last then none else some d
  | _ => match tget s.objs k with
    | some v => some v
    | none => if r.last then none else some d
/-- A number as an object of `n` bytes shows it; what exceeds the type is a free value. -/
def fitNumber (k n v : Nat) : List Byte := leBytes n (if v < 256 ^ n then v else Config.overflowed k v)
/-- What a numeric object reads as, none before the first event of a "last" object. -/
def numberOf (s : State) (p : Path) (r : ObjRow) (sub : Nat) : Option Nat :=
  let live := if r.kept = .fixed && (sub = 0 || !([0x1200, 0x2022, 0x2040].contains r.index)) then none
    else if r.index < 0x2100 then identityValue s p r.index sub
    else if r.index < 0x3000 then orderValue s p r.index sub
    else if r.index < 0x3400 then powerValue s p r.index sub
    else serviceValue s p r.index sub
  match live with
  | some v => v
  | none => storedValue s p r sub

end Sys2Proof.Machine
end

