-- ==== Sys2Proof/Machine/Store.lean ====
section
/-!
DEFINITION. Raw writes of the non-volatile store (R4, R55, R462, R485): the stored records that written bytes belong to, what
they become, and the undefined cases that rest on stored content (R506). R485 gives no layout: `Config.storeRecord` says what each
byte belongs to (notes/assumptions/189.md), by these kinds: 1 unit record, 2 fmax record, 3 package-scoped value, 4 known-answer set,
5 privilege key, 6 LCN map, 7 logical cluster map, 8 lane map, 9 pseudo-channel map, 10 lost slot, 11 Z-port map, 12 node object,
13 training record, 14 side row, 15 Reel record by its index, or the descriptor above the last index, 16 write count of the copy, 17 sequence checkpoint, 18 firmware slot.
-/
namespace Sys2Proof.Machine
open Sys2Proof

/-! ### The bytes of a record -/

/-- The kinds and keys of the records that a raw write touches, each once. -/
def touchedRecords (d address n : Nat) : List (Nat × Nat) :=
  ((List.range n).map fun i => let r := Config.storeRecord d (address + i)
    (r.1, r.2.1)).eraseDups
/-- A record as a chip select holds it: its bytes with those over them that raw writes have set. -/
def rawRecord (s : State) (d cs kind n : Nat) (base : List Byte) : List Byte :=
  (die s d).store.foldl (fun b c =>
    let r := Config.storeRecord d c.1
    if c.1 / 2 ^ 31 = cs && r.1 = kind && r.2.1 = n then b.set r.2.2 c.2 else b) base
/-- The store on a chip select (R55). -/
def storeOn (s : State) (cs : Nat) : Stored := if cs = 0 then s.kept else s.keptB
/-- Change the store on a chip select. -/
def editStoreOn (cs : Nat) (f : Stored → Stored) (s : State) : State :=
  if cs = 0 then { s with kept := f s.kept } else { s with keptB := f s.keptB }
/-- A stored unit record; one that is not listed is as at manufacture (R239). -/
def storedUnit (k : Stored) (p : Nat) : UnitRec := tgetD k.units p (UnitRec.manufacture p)
/-- A stored fmax record (R222). -/
def storedFmax (k : Stored) (p : Nat) : FmaxRec := tgetD k.fmax p FmaxRec.manufacture
/-- A field of a record: `n` bytes from byte `i`. -/
def recordField (b : List Byte) (i n : Nat) : Nat := leNat ((b.drop i).take n)
/-- The unit record that 48 bytes hold (R239). -/
def unitOfBytes (r : UnitRec) (state : UnitState) (b : List Byte) : UnitRec :=
  { r with
    state := state, flags := recordField b 1 1, cause := recordField b 2 1, lifetime := recordField b 3 1,
    bound := recordField b 4 4, run := recordField b 8 4, seq := recordField b 12 6, era := recordField b 18 2,
    day := recordField b 20 4, long := (List.range 7).map (fun i => recordField b (24 + 2 * i) 2),
    decisive := recordField b 38 2 }
/-- The fmax record that 48 bytes hold (R222). -/
def fmaxOfBytes (r : FmaxRec) (b : List Byte) : FmaxRec :=
  { r with
    current := (b.take 16).map (·.toNat), characterised := ((b.drop 16).take 16).map (·.toNat), run := recordField b 32 4,
    step := recordField b 36 1, outcome := recordField b 37 1, lowerings := recordField b 38 1,
    slow := (recordField b 39 1).testBit 0, tests := recordField b 40 4 }

/-! ### Undefined cases that rest on stored content (R506) -/

/-- The undefined case of one core (R223), by its PUA. -/
def coreCase (p : Nat) : Nat := 223 * 2 ^ 32 + p
/-- Enter or leave an undefined case. -/
def setCase (rule : Nat) (on : Bool) (s : State) : State := if on then enterCase rule s else leaveCase rule s
/-- An fmax record holds a current entry above its characterised entry, or a code from 29 to 0xFE (R223). -/
def fmaxBroken (r : FmaxRec) : Bool :=
  let bad := fun (c : Nat) => 28 < c && c ≠ 0xFF
  (r.current ++ r.characterised).any bad || (List.range 16).any fun e =>
    let c := r.current.getD e 0xFF
    c ≠ 0xFF && decide (r.characterised.getD e 0xFF < c)
/-- The units whose records could bind the same place as a unit's: those listed and, as at manufacture, its likes. -/
def placeRivals (k : Stored) (p place : Nat) : List Nat :=
  let likes := match puaKind p with
    | 0 => [manufactureCore place]
    | 1 => (List.range 832).map fun c => mkPua (puaDie p) (puaField p) c (puaCore p) 1 (puaSub p)
    | 6 | 7 => [clusterPua (puaKind p) (manufactureCluster place)]
    | _ => (List.range 256).map fun i => p - puaSub p + i
  (k.units.map (·.1) ++ likes).filter fun q => q ≠ p && puaKind q = puaKind p &&
    (puaKind p = 0 || puaKind p = 6 || puaKind p = 7 || p - puaSub p = q - puaSub q || (puaKind p = 1 && puaFieldIdx p = puaFieldIdx q))
/-- The stored records are inconsistent at a unit (R263): another unit has its place, its place lies in another field, or a map
gives it a second place. -/
def recordClashes (k : Stored) (p : Nat) : Bool :=
  let r := storedUnit k p
  let home := match puaKind p with
    | 0 => r.bound / 12800 = puaFieldIdx p
    | 6 | 7 => r.bound / 800 = puaFieldIdx p
    | _ => true
  let twice := fun (t : Tab (Option Nat)) (x : Nat) => decide (1 < t.countP fun e => e.2 = some x)
  (r.bound ≠ 0xFFFFFFFF && (placeRivals k p r.bound).any fun q => (storedUnit k q).bound = r.bound) ||
    (inService r.state && r.bound ≠ 0xFFFFFFFF && !home) ||
    (if puaKind p = 0 then twice k.lcnMap p else puaKind p = 6 && twice k.clusterMap (puaClusterKey p))
/-- The stored records of a store are inconsistent (R263). -/
def storeClashes (k : Stored) : Bool :=
  (k.units.map (·.1)).any (recordClashes k) ||
    (k.lcnMap.any fun e => e.2.any fun p => recordClashes k p) ||
    (k.clusterMap.any fun e => e.2.any fun ck => recordClashes k (clusterPua 6 ck))
/-- A value of a copy, its default where it is not listed. -/
def copyValue (s : State) (c : PackageCopy) (k : Nat) : Nat :=
  tgetD c.objs k (match objRow (k / 256) (k % 256) with
    | some r => objDefault s.variant r (k % 256)
    | none => 0)
/-- The stored step table is not valid (R345): a code below the one of the step beneath, or below the characterised need plus
40 mV, which is what the table at manufacture holds (R303). -/
def stepTableBroken (s : State) (c : PackageCopy) : Bool :=
  let code := fun e => copyValue s c (key 0x3000 (e + 1))
  (List.range 16).any fun e => decide (code e < defaultCodes.getD e 0) || (e ≠ 0 && decide (code e < code (e - 1)))

/-! ### A raw write (R462) -/

/-- A number of the store that raw bytes have changed. -/
def rawNumber (s : State) (d cs kind n width old : Nat) : Nat := leNat (rawRecord s d cs kind n (leBytes width old))
/-- An entry of a map as raw bytes hold it; all ones for none. -/
def rawEntry (s : State) (d cs kind n : Nat) (old : Option Nat) : Option Nat :=
  let v := rawNumber s d cs kind n 4 (old.getD 0xFFFFFFFF)
  if v = 0xFFFFFFFF then none else some v
/-- A stored unit record takes raw bytes: where its check holds it is the record, else the record is broken (R240). -/
def rawUnit (d cs p : Nat) (s : State) : State :=
  let old := storedUnit (storeOn s cs) p
  let b := rawRecord s d cs 1 p (unitBytes old)
  if puaDie p ≠ d then s else
  match UnitState.ofCode (recordField b 0 1), checkHolds 44 b with
  | some st, true => editStoreOn cs (fun k => { k with
      units := tset k.units p (unitOfBytes old st b), broken := k.broken.filter (· ≠ p) }) s
  | _, _ => editStoreOn cs (fun k => { k with broken := addHold p k.broken }) s
/-- A stored fmax record takes raw bytes (R223). -/
def rawFmax (d cs p : Nat) (s : State) : State :=
  let old := storedFmax (storeOn s cs) p
  let b := rawRecord s d cs 2 p (fmaxBytes old)
  let new := fmaxOfBytes old b
  if puaDie p ≠ d then s else
  if checkHolds 44 b then
    setCase (coreCase p) (fmaxBroken new)
      (editStoreOn cs (fun k => { k with fmax := tset k.fmax p new, broken := k.broken.filter (· ≠ p) }) s)
  else editStoreOn cs (fun k => { k with broken := addHold p k.broken }) s
/-- A die's copy of the package-scoped records takes raw bytes; whether its check then holds is free (R54). -/
def rawCopy (d : Nat) (f : PackageCopy → PackageCopy) (s : State) : State :=
  let (b, s) := takeBit s
  modDie d (fun x => { x with copy := { f x.copy with valid := b } }) s
/-- A stored record takes the raw bytes that lie in it. -/
def rawTake (d cs : Nat) (s : State) (r : Nat × Nat) : State :=
  let n := r.2
  let k := storeOn s cs
  let num := fun kind width old => rawNumber s d cs kind n width old
  let row := objRow (n / 256) (n % 256)
  match r.1 with
  | 1 => rawUnit d cs n s
  | 2 => rawFmax d cs n s
  | 3 => if !storeKept n then s else
      rawCopy d (fun c => { c with objs := tset c.objs n (num 3 ((row.map (·.size)).getD 4) (copyValue s c n)) }) s
  | 4 => rawCopy d (fun c => { c with answers := c.answers + 1 }) s
  | 5 => rawCopy d (fun c => { c with keys := tset c.keys n (rawRecord s d cs 5 n ((tget c.keys n).getD (Config.key n))) }) s
  | 6 => editStoreOn cs (fun k => { k with lcnMap := tset k.lcnMap n (rawEntry s d cs 6 n (tgetD k.lcnMap n (some (manufactureCore n)))) }) s
  | 7 => editStoreOn cs (fun k => { k with clusterMap := tset k.clusterMap n (rawEntry s d cs 7 n (tgetD k.clusterMap n (some (manufactureCluster n)))) }) s
  | 8 => editStoreOn cs (fun k => { k with lanes := tset k.lanes n (num 8 4 (tgetD k.lanes n 0)) }) s
  | 9 => editStoreOn cs (fun k => { k with channels := tset k.channels n (num 9 4 (tgetD k.channels n 0)) }) s
  | 10 => editStoreOn cs (fun k => { k with lostSlots := tset k.lostSlots n (num 10 4 (tgetD k.lostSlots n 0)) }) s
  | 11 => rawCopy d (fun c => { c with zports := tset c.zports n (num 11 4 (tgetD c.zports n 0)) }) s
  | 12 =>
    let t := tgetD k.nodes d []
    editStoreOn cs (fun k => { k with nodes := tset k.nodes d (tset t n (num 12 ((row.map (·.size)).getD 4) (tgetD t n 0))) }) s
  | 13 =>
    let t := tgetD k.training d []
    editStoreOn cs (fun k => { k with training := tset k.training d (tset t n (num 13 4 (tgetD t n 0))) }) s
  | 14 => enterCase 192 { s with dram := tmod s.dram n ⟨0, zeros 256, false⟩ fun b => { b with irregular := true } }
  | 15 => enterCase 403 s
  | 16 => rawCopy d (fun c => { c with writes := num 16 8 c.writes }) s
  | 17 => rawCopy d (fun c => { c with checkpoint := num 17 6 c.checkpoint }) s
  | 18 => rawCopy d (fun c => { c with images := c.images.modify n fun i =>
      let b := rawRecord s d cs 18 n i.image
      { i with image := b, version := Config.imageVersion b } }) s
  | _ => s
/-- A raw write (R462): the bytes are stored, the records that they lie in become what the bytes say, and the undefined cases that
rest on stored content arise or end. What the Gondolas work on stays until the next start (R9). -/
def writeRaw (d address : Nat) (data : List Byte) (s : State) : State :=
  let cs := address / 2 ^ 31
  let base := ((die s d).rawBase).getD (workingCopy s d)
  let s := modDie d (fun x => { x with store := memPutAll x.store address data, rawBase := some base }) s
  let s := (touchedRecords d address data.length).foldl (rawTake d cs) s
  setCase 345 (stepTableBroken s (die s d).copy) (setCase 263 (storeClashes (storeOn s cs)) s)
/-- A byte of the store as a raw read shows it (R462, R485): as a raw write has set it, as the stored record holds it, or free. -/
def rawByte (s : State) (d a : Nat) : Byte :=
  let r := Config.storeRecord d a
  let k := storeOn s (a / 2 ^ 31)
  match memGet (die s d).store a, r.1 with
  | some b, _ => b
  | none, 1 => (unitBytes (storedUnit k r.2.1)).getD r.2.2 (Config.storeByte d a)
  | none, 2 => (fmaxBytes (storedFmax k r.2.1)).getD r.2.2 (Config.storeByte d a)
  | none, 15 =>
    let x := (die s d).reel
    let b := if r.2.1 ≤ fullIndex then storedRecord (if a / 2 ^ 31 = 0 then x.cs0 else x.cs1) r.2.1 else descriptorBytes x
    b.getD r.2.2 (Config.storeByte d a)
  | none, _ => Config.storeByte d a
/-- Bytes of a die's store as a raw read shows them. -/
def rawStore (s : State) (d address n : Nat) : List Byte := (List.range n).map fun i => rawByte s d (address + i)

end Sys2Proof.Machine
end

