-- ==== Sys2Proof/Machine/Access.lean ====
section
/-!
DEFINITION. How a node judges a request (R467): index, sub, direction, class, length, range and present state, with the
stages of R357, the recoveries of R286, the slices of R469 and the Observer scopes of R121, R264, R397, R409, R414, R424.
-/
namespace Sys2Proof.Machine
open Sys2Proof

/-! ### Abort codes (R441) -/

/-- SDO protocol timed out (R439). -/
def abTimeout : Nat := 0x05040000
/-- Command specifier not valid or unknown. -/
def abCommand : Nat := 0x05040001
/-- Attempt to read a write-only object. -/
def abWriteOnly : Nat := 0x06010001
/-- Attempt to write a read-only or const object. -/
def abReadOnly : Nat := 0x06010002
/-- Object does not exist. -/
def abObject : Nat := 0x06020000
/-- Length of service parameter does not match. -/
def abLength : Nat := 0x06070010
/-- Sub-index does not exist. -/
def abSub : Nat := 0x06090011
/-- Value range of parameter exceeded. -/
def abRange : Nat := 0x06090030
/-- An authorisation response that does not match (R456). -/
def abAuth : Nat := 0x08000020
/-- No data available. -/
def abNoData : Nat := 0x08000024

/-! ### Classes and grants (R455, R458, R468) -/

/-- Whether the keys are missing because no die held a valid copy of the package-scoped records (R371). -/
def keysMissing (s : State) : Bool := s.keys.any fun e => e.2.isEmpty
/-- The class that a path holds for a read or a write: its session's, Observer's on a bound mailbox, and Observer and
Operator reads where the keys are missing (R371, R453, R455). -/
def heldClass (s : State) (p : Path) (write : Bool) : Nat :=
  max (max (sessionOf s p).code (if boundSlice s p = 0 then 0 else 1)) (if keysMissing s && !write then 2 else 0)
/-- A write that takes a one-write grant, by its object and value, with the grant's action and the classes that serve
(R399, R401, R458, R486). -/
def grantAction (s : State) (index sub v : Nat) : Option (Nat × List Class) :=
  match index with
  | 0x2A09 | 0x2A0A | 0x3422 | 0x3423 => some (index, [.service])
  | 0x2C0A => if 6 ≤ v then some (index, [.service]) else none
  | 0x3808 => some (index, if s.dies.any (·.reel.returned) then [.service, .maker] else [.service])
  | 0x380C => some (index, if v = 0 then [.maker] else [.service])
  | 0x3F10 => some (index, if sub = 4 then [.maker] else [.service])
  | 0x3F30 => if sub = 2 then some (index, [.service]) else none
  | _ => none
/-- The PUA that a grant's action names on a path now (R458): none where nothing is at the cursor. -/
def grantTarget (s : State) (p : Path) (index sub v : Nat) : Option Nat :=
  match index with
  | 0x2A09 | 0x2A0A | 0x2C0A => cursorUnit s p
  | 0x3808 => some (diePua ((v - 1) % 4))
  | 0x3F10 => some (0xFFFFFFF0 + sub)
  | _ => some packagePua
/-- Whether a live one-write grant of the path serves a write (R458). -/
def grantServes (s : State) (p : Path) (index sub v : Nat) (classes : List Class) : Bool :=
  (liveGrants s p).any fun g => g.action = index && classes.contains g.cls && grantTarget s p index sub v == some g.target

/-- The objects that act on the slice of 0x2403 (R469, R474). -/
def perSlice (s : State) (p : Path) (index sub : Nat) : Bool :=
  let whole : Bool := match index with
    | 0x2404 | 0x2409 | 0x2410 | 0x2503 | 0x2505 | 0x2506 | 0x2507 | 0x2607 | 0x2608 | 0x2609 | 0x2706 | 0x2709
    | 0x280A | 0x2C01 | 0x2C11 | 0x3011 | 0x3100 => sub ≠ 0
    | 0x2806 => sub = 10 || sub = 11
    | 0x2C10 => sub = 1 || sub = 2 || sub = 3
    | 0x3A05 => sub ≠ 0 && sel s p 0x3A02 1 = 0
    | _ => false
  whole || index = 0x2411 || index = 0x2503 || index = 0x2504 || index = 0x2505 || index = 0x2702 || index = 0x3010 ||
    (index = 0x3A03 && sel s p 0x3A02 1 = 0)
/-- Whether an Observer of slice `own` may see a Reel record (R397). -/
def recordVisible (s : State) (own : Nat) (b : List Byte) : Bool :=
  recordValid b && leNat ((b.drop 30).take 2) % 4096 = own && leNat ((b.drop 4).take 4) = obj s (key 0x2101 0) 0 &&
    match slice s own with
    | some x => decide (x.created ≤ leNat ((b.drop 16).take 8))
    | none => false
/-- Whether an Observer of slice `own` may see a chunk of a die (R424). -/
def chunkVisible (s : State) (own d i : Nat) : Bool :=
  match tget (die s d).traceRegion i, slice s own with
  | some b, some x => sliceLive x && ((tget s.traces (d * 256 + (b.getD 1 0).toNat)).map (·.owner)) == some own
  | _, _ => false
/-- Whether the cursor stands on an LCN of slice `own`, by LCN (R264, R409, R432). -/
def cursorOwn (s : State) (p : Path) (own : Nat) : Bool :=
  match (path s p).cursorLcn with
  | some l => own ≠ 0 && sliceOfLcn s l = own
  | none => false
/-- What an Observer may do with an object of Observer class: its own slice's selection, cursor, slots, counters,
records and chunks (R121, R264, R397, R409, R411, R414, R424, R468, R482). `v` is a written value. -/
def ownScope (s : State) (p : Path) (index sub : Nat) (write : Bool) (v : Nat) : Bool :=
  let own := boundSlice s p
  let mine := selectedSlice s p = own && own ≠ 0
  let slotMine := ((tget s.traces (selectedSlot s p)).map (·.owner)) == some own && own ≠ 0
  let scope := sel s p 0x3A02 1
  if sub = 0 && (index = 0x2404 || index = 0x2A01 || index = 0x3B05 || index = 0x3B09) then true else
  match index with
  | 0x2403 => !write || v = own
  | 0x2404 => mine && (!(write && sub = 1) || (decide (v ≤ 3) && (slice s own).any fun x => decide ((modeInForce x).code < v)))
  | 0x2A01 => !write || (own ≠ 0 && sub = 1 && decide (v < s.variant.lcns) && sliceOfLcn s v = own)
  | 0x2A02 | 0x2A03 | 0x2A04 | 0x2A0E => cursorOwn s p own
  | 0x2A0D => cursorOwn s p own && (cursorUnit s p).any fun u => sliceOfUnit s u = own
  | 0x3A03 => !counterPrivate (sel s p 0x3A01 0) && ((scope = 0 && mine) || (scope = 1 && cursorOwn s p own))
  | 0x3A05 => sub = 0 || (own ≠ 0 && (path s p).latchedSlice = own && !counterPrivate (sel s p 0x3A01 0))
  | 0x3A04 => sub ≠ 1 || (scope = 0 && mine) || (scope = 1 && cursorOwn s p own)
  | 0x3B03 => own ≠ 0 && decide (v < s.variant.lcns) && sliceOfLcn s v = own
  | 0x3B05 | 0x3B09 => slotMine
  | 0x3805 => recordVisible s own (selectedRecord s p (sel s p 0x3804 0))
  | 0x3B08 => sub ≠ 2 || chunkVisible s own (sel s p 0x3B01 0) (sel s p 0x3B08 1)
  | _ => !perSlice s p index sub || mine
/-- Step 4 of R467: whether the path holds the class of an access. -/
def classHolds (s : State) (p : Path) (r : ObjRow) (sub : Nat) (write : Bool) (need v : Nat) : Bool :=
  match (if write then grantAction s r.index sub v else none) with
  | some g => grantServes s p r.index sub v g.2
  | none =>
    let h := heldClass s p write
    decide (need ≤ h) && (decide (h ≠ 1) || need = 0 || ownScope s p r.index sub write v)

/-! ### The die, unit or slice that an access names -/

/-- The die (or field, stack, seam, port) that a sub names, as a die (R2, R286). -/
def subDie (index sub : Nat) : Option Nat :=
  let i := sub - 1
  if sub = 0 then none else
  match index with
  | 0x2002 | 0x2004 | 0x2905 | 0x2907 | 0x2908 | 0x3050 | 0x3051 | 0x3052 | 0x3053 | 0x3054 | 0x3058 | 0x3074 | 0x3400
  | 0x3410 | 0x3430 | 0x3801 | 0x3802 => some (i % 4)
  | 0x2A10 | 0x2A11 | 0x2A12 | 0x2A15 | 0x3012 | 0x3013 | 0x3014 | 0x3015 | 0x3021 | 0x3022 | 0x3031 | 0x3032 | 0x3033
  | 0x3040 | 0x3041 | 0x3055 => some (i / 6)
  | 0x2A13 => some (i / 7)
  | 0x2A14 => some (i / 16)
  | 0x2030 => some (i / 8)
  | 0x2005 => some (i / 2)
  | 0x3060 => some (i / 3)
  | 0x2031 => some i
  | 0x2102 | 0x2103 | 0x2104 => some (if sub ≤ 4 then i else (i - 4) / 6)
  | _ => none
/-- Whether the object acts on the unit at the cursor (R264, R474). -/
def usesCursor (index : Nat) : Bool := decide (0x2A02 ≤ index && index ≤ 0x2A0F) || index = 0x2C0A
/-- The die that an access names by its sub, its value, a selector or the cursor (R286). -/
def namedDie (s : State) (p : Path) (index sub v : Nat) : Option Nat :=
  if usesCursor index then (cursorUnit s p).map puaDie else
  match index with
  | 0x2011 => some (sel s p 0x2010 0 / 16)
  | 0x2021 | 0x2023 => some (sel s p 0x2020 0 / 7)
  | 0x2C0B => if sub = 3 || sub = 4 then some (sel s p 0x2C0B 2) else none
  | 0x2C0C => if sub = 2 then some (sel s p 0x2C0B 2) else none
  | 0x3404 | 0x3405 | 0x3506 => if sub = 0 || (index = 0x3506 && sub = 4) then none else some (sel s p 0x3403 0)
  | 0x3805 | 0x3806 | 0x3807 => some (sel s p 0x3803 1)
  | 0x3808 => some (v - 1)
  | 0x3A03 => match sel s p 0x3A02 1 with
    | 1 => (cursorUnit s p).map puaDie
    | 2 => some (sel s p 0x3A02 2 / 6)
    | 3 => some (sel s p 0x3A02 2)
    | _ => none
  | 0x3B03 | 0x3B04 | 0x3B05 | 0x3B07 | 0x3B08 | 0x3B09 | 0x3B0A => some (sel s p 0x3B01 0)
  | 0x3F20 => if 2 ≤ sub then some (sel s p 0x3F20 1 / 256) else none
  | 0x3F30 => if sub = 2 then some (sel s p 0x3F30 3) else none
  | _ => subDie index sub
/-- The writes that the Anchor sequences (R53): policy and requests that concern the package. -/
def packageWrite (r : ObjRow) (sub v : Nat) : Bool :=
  match r.index with
  | 0x3B07 | 0x2A06 => false
  | 0x2407 | 0x2C13 | 0x3F10 | 0x3422 | 0x3423 | 0x380C | 0x3808 => true
  | 0x3B06 => v = 1 || v = 2
  | 0x3A04 => sub = 1
  | _ => r.kept = .store
/-- The refusals of R286: another Gondola recovers and its control cores would supply the value. -/
def recoveryRefuses (s : State) (p : Path) (r : ObjRow) (sub : Nat) (write : Bool) (v : Nat) : Bool :=
  let away := fun d => d ≠ pathDie p && (die s d).recovering.isSome
  if r.kept = .fixed || r.kept = .node then false
  else if r.kept = .path && r.index ≠ 0x3F02 then false
  else (namedDie s p r.index sub v).any away || (r.index = 0x3A03 && sel s p 0x3A02 1 = 4 && s.dies.zipIdx.any fun e => away e.2) ||
    (away s.anchorDie && (if write then packageWrite r sub v
      else (r.kept = .store || r.kept = .run || r.kept = .live) && (namedDie s p r.index sub v).isNone &&
        r.index ≠ 0x2100 && !perSlice s p r.index sub))

/-! ### Stages (R357) -/

/-- A die has started a stage. -/
def startedStage (x : Die) (n : Nat) : Bool := decide (n < x.stage) || (x.stage = n && x.stageRan)
/-- A die has ended a stage. -/
def endedStage (x : Die) (n : Nat) : Bool := decide (n < x.stage) || (x.stage = n && x.stageDone)
/-- When a unit's window is served: its registration or training (R357). -/
def unitServed (s : State) (u : Nat) : Bool :=
  let x := die s (puaDie u)
  let f := field s (puaFieldIdx u)
  match puaKind u with
  | 0 | 1 | 6 | 7 => f.power = 2 || (f.power = 1 && decide (siteOfCluster (puaCluster u) / 100 < f.group))
  | 5 => startedStage x 3 && f.power ≠ 0
  | 2 | 3 => endedStage x 4
  | 4 => endedStage x 5
  | _ => startedStage x 2
/-- Whether a node serves an object at its stage (R357). -/
def stageServes (s : State) (p : Path) (r : ObjRow) : Bool :=
  let x := die s (pathDie p)
  let i := r.index
  let within := fun (a b : Nat) => decide (a ≤ i && i ≤ b)
  if atS8 x then true
  else if within 0x2A02 0x2A0F then (cursorUnit s p).all (unitServed s)
  else if within 0x2020 0x2023 || i = 0x2030 || i = 0x2031 then endedStage x 4
  else if within 0x2010 0x2012 || i = 0x2C0B || i = 0x2C0C then endedStage x 5
  else if i = 0x2906 || within 0x2A10 0x2A16 || i = 0x3410 then endedStage x 6
  else if i = 0x3005 || within 0x3012 0x3042 || i = 0x3103 then startedStage x 3
  else within 0x1000 0x20FF || within 0x2100 0x2203 || i = 0x2C13 || within 0x3050 0x3074 || within 0x3400 0x3430 ||
    within 0x3500 0x3507 || within 0x3800 0x380C || within 0x3F00 0x3F30 || i = 0x2A01 ||
    r.kept = .fixed || r.kept = .store || r.kept = .node

/-! ### Ranges and present state -/

/-- The objects that a selector of R474 governs. -/
def selectorGoverns (index sub : Nat) : Bool :=
  match index with
  | 0x2011 | 0x2021 | 0x2022 | 0x2023 | 0x2404 | 0x2409 | 0x2410 | 0x2411 | 0x2503 | 0x2504 | 0x2505 | 0x2506 | 0x2507 | 0x2607
  | 0x2608 | 0x2609 | 0x2702 | 0x2706 | 0x2709 | 0x280A | 0x2C01 | 0x2C0A | 0x2C0C | 0x2C11 | 0x3010 | 0x3011 | 0x3100
  | 0x3404 | 0x3405 | 0x3506 | 0x3805 | 0x3806 | 0x3807 | 0x3A03 | 0x3A05 | 0x3B02 | 0x3B03 | 0x3B04 | 0x3B05 | 0x3B07
  | 0x3B08 | 0x3B09 | 0x3B0A | 0x3F02 | 0x3F03 => true
  | 0x2806 => sub = 10 || sub = 11
  | 0x2C0B => sub = 3 || sub = 4
  | 0x2C10 => sub ≤ 3
  | 0x3F20 => 2 ≤ sub
  | 0x3F30 => sub = 2
  | i => decide (0x2A02 ≤ i && i ≤ 0x2A0F)
/-- The row that a TPDO mapping entry names, where R475 allows it. -/
def mappable (e : Nat) : Option ObjRow :=
  match objRow (e / 65536) (e / 256 % 256) with
  | some r =>
    let kept : Bool := match r.kept with
      | .fixed | .store | .node | .run | .live => true
      | _ => false
    if kept && !r.domain && r.size ≠ 0 && r.size ≤ 8 && r.rd.isSome && e % 256 = 8 * r.size &&
      !selectorGoverns r.index (e / 256 % 256) then some r else none
  | none => none
/-- The bytes that the first `n` entries of a node's TPDO take (R435). -/
def mappedBytes (s : State) (d pdo n : Nat) : Nat :=
  ((List.range n).map fun i => nodeValue s d (0x1A00 + pdo) (i + 1) % 256 / 8).sum
/-- The greatest TPDO of a path's node: 64 bytes where every port of it runs CAN FD since its last stage S2, else 8 (R435). -/
def pdoLimit (s : State) (p : Path) : Nat :=
  let fd := fun b => (port s (pathDie p * 2 + b)).fd
  let b : Bool := match p with
    | .port _ b => fd (if b then 1 else 0)
    | .mailbox _ => fd 0 && fd 1
  if b then 64 else 8
/-- The domain of a reset code contains a unit, by the table of R280 (R287): every unit of a die lies in its Gondola's. -/
def domainContains (code u : Nat) : Bool :=
  match code with
  | 0 => puaKind u = 0
  | 1 | 4 | 5 => [0, 1, 6, 7].contains (puaKind u)
  | 2 => puaKind u = 8
  | 6 => puaKind u ≠ 5
  | _ => true
/-- A written fmax record (R219, R222): its length and check hold, the characterised entries stand as they are, and no
entry lies above the characterised one at its step. -/
def fmaxWriteOk (old : FmaxRec) (b : List Byte) : Bool :=
  let code := fun i => (b.getD i 0).toNat
  checkHolds 44 b && (List.range 16).all fun e =>
    code (16 + e) = old.characterised.getD e 0xFF &&
      (code e = 0xFF || (code e ≤ 28 && (old.characterised.getD e 0xFF = 0xFF || code e ≤ old.characterised.getD e 0xFF)))
/-- Bytes of a service device (R485): at least 2 Gbit (R499). -/
def storeBytes (d cs : Nat) : Nat := max 0x10000000 (Config.storeSize d cs)
/-- Step 6 of R467 for a write: the value's range, the PUAs of R6 and the die refusals of R2. -/
def rangeHolds (s : State) (p : Path) (r : ObjRow) (sub v : Nat) (data : List Byte) : Bool :=
  let n := s.variant.dies
  let plain := r.domain || (decide (r.min ≤ v && v ≤ r.max) && (v - r.min) % r.step = 0)
  match r.index with
  | 0x2404 | 0x2C01 => plain || v = 0xFF
  | 0x1800 | 0x1801 | 0x1802 | 0x1803 => if sub = 2 then v = 0xFE || v = 0xFF else plain
  | 0x1003 => v = 0
  | 0x20F1 => if sub = 3 || sub = 4 then [125, 250, 500, 1000].contains v else plain
  | 0x1A00 | 0x1A01 | 0x1A02 | 0x1A03 =>
    if sub = 0 then v ≤ 8 && decide (mappedBytes s (pathDie p) (r.index - 0x1A00) v ≤ pdoLimit s p) else (mappable v).isSome
  | 0x2010 => v < 16 * n
  | 0x2020 => v < 7 * n
  | 0x2A01 => if sub = 1 then v < s.variant.lcns else puaValid s.variant v
  | 0x2A0A => puaValid s.variant v
  | 0x2A06 => match cursorUnit s p with
    | some u => puaKind u ≠ 0 || fmaxWriteOk (fmaxRec s u) data
    | none => true
  | 0x2C0A => plain && (cursorUnit s p).all (domainContains v)
  | 0x2C0B => if sub = 4 then v = 0 || (die s (sel s p 0x2C0B 2)).captures.any (fun c => c.valid && c.number = v) else v < n
  | 0x3403 | 0x3B01 => v < n
  | 0x3803 => if sub = 1 then v < n else plain
  | 0x3808 => 1 ≤ v && v ≤ n
  | 0x3A01 => (counterLevel v).isSome
  | 0x3A02 => plain && (sub = 1 || decide (v < if sel s p 0x3A02 1 = 3 then n else 6 * n))
  | 0x3B03 => v < s.variant.lcns && v / 76800 = sel s p 0x3B01 0
  | 0x3B04 => puaValid s.variant v && puaKind v = 6 && puaDie v = sel s p 0x3B01 0
  | 0x3F01 => plain && (sub ≠ 2 || decide (0xFFFFFFF0 ≤ v) || decide (puaDie v < n))
  | 0x3F20 => if sub = 1 then v < 256 * n else plain
  | 0x3F30 => if sub = 3 then v < n
      else if sub = 2 then decide (sel s p 0x3F30 1 % 2 ^ 31 + data.length ≤ storeBytes (sel s p 0x3F30 3) (sel s p 0x3F30 1 / 2 ^ 31))
      else plain
  | _ => plain
/-- The state of a slot; one that was never armed is free (R416). -/
def slotState (s : State) (k : Nat) : Nat := ((tget s.traces k).map (·.state)).getD 0
/-- An arm request is refused: the selected slot is not free, or the Observer's quota on the die is full (R414). -/
def armRefused (s : State) (k owner : Nat) : Bool :=
  slotState s k ≠ 0 ||
    (owner ≠ 0 && 64 ≤ s.traces.countP fun e => e.1 / 256 = k / 256 && e.2.owner = owner && e.2.state ≠ 0)
/-- The owner that an arm request of a path gives its slot (R414): 0x000 for an Operator. -/
def armOwner (s : State) (p : Path) : Nat := if 2 ≤ heldClass s p true then 0 else boundSlice s p
/-- A chip select that a raw access names is silent or unusable (R393, R485). -/
def storeSilent (s : State) (p : Path) : Bool :=
  (die s (sel s p 0x3F30 3)).reel.unusable.contains (sel s p 0x3F30 1 / 2 ^ 31)
/-- The refusals of a write that its own rule states for the present state (step 7 of R467). -/
def stateRefuses (s : State) (p : Path) (r : ObjRow) (sub v : Nat) : Bool :=
  let x := die s (v - 1)
  match r.index with
  | 0x1A00 | 0x1A01 | 0x1A02 | 0x1A03 =>
    let busy : Bool := match p with
      | .port e b => (port s (e * 2 + (if b then 1 else 0))).nmt ≠ .preOperational
      | .mailbox _ => (port s (pathDie p * 2)).nmt = .operational || (port s (pathDie p * 2 + 1)).nmt = .operational
    busy || (sub ≠ 0 && (decide (nodeValue s (pathDie p) r.index 0 ≠ 0) ||
      (mappable v).any fun m => decide (heldClass s p false < m.rd.getD 0)))
  | 0x2407 => decide (modelThreshold s.variant < modelCount s)
  | 0x3061 => (dieIdxs s).any fun d =>
      !(trayInput s d (sub - 1)).level || (trayInput s d (sub - 1)).chattering
  | 0x3808 => x.suspended || !x.reel.hold.isEmpty || x.reel.clearOpen.isSome || reelState x = 3 ||
      (x.reel.returned && !(liveGrants s p).any fun g => g.action = 0x3808 && g.cls = .maker)
  | 0x3422 => s.images.any (·.state = 1)
  | 0x3423 => !s.images.any (·.state = 1)
  | 0x3B03 | 0x3B04 => armRefused s (selectedSlot s p) (armOwner s p)
  | 0x3B05 => slotState s (selectedSlot s p) = 0
  | 0x3F20 => sub = 2 && v ≠ 0 && !(slice s v).any sliceLive
  | 0x3F30 => sub = 2 && storeSilent s p
  | 0x2A06 => (cursorUnit s p).any fun u => puaKind u ≠ 0
  | _ => false
/-- The refusals of the present state that hold for every object: stage, recovery, slice and cursor (R286, R357, R432,
R469), and after an emergency Ripcord the counters whose clusters have stopped (R463). -/
def commonRefuses (s : State) (p : Path) (r : ObjRow) (sub : Nat) (write : Bool) (v : Nat) : Bool :=
  let unitCursor := r.index = 0x2A01 && write && !atS8 (die s (pathDie p))
  let target := if sub = 1 then coreOf s v else some v
  let stopped := s.ripcord.state = 3 && r.index = 0x3A03 && (counterLevel (sel s p 0x3A01 0)).any (· ≤ 1)
  !stageServes s p r || stopped || (unitCursor && !target.all (unitServed s)) || recoveryRefuses s p r sub write v ||
    (usesCursor r.index && (cursorUnit s p).isNone) ||
    (perSlice s p r.index sub && match slice s (selectedSlice s p) with
      | some x => write && !sliceLive x
      | none => true)

/-- The first abort code that applies to a write (R467), none where the write goes on. -/
def judgeWrite (s : State) (p : Path) (index sub : Nat) (data : List Byte) : Option Nat :=
  let v := leNat data
  if !indexExists index then some abObject else
  match objRow index sub with
  | none => some abSub
  | some r =>
    match (if index = 0x3030 && s.variant = .dh25 then none else r.wr) with
    | none => some abReadOnly
    | some need =>
      if !classHolds s p r sub true need v then some abState
      else if (if r.upTo then r.size < data.length else data.length ≠ r.size) then some abLength
      else if !rangeHolds s p r sub v data then some abRange
      else if commonRefuses s p r sub true v || stateRefuses s p r sub v then some abState
      else none
/-- The class that a read needs; in the DH-25 0x3030 is const at Observer (R467). -/
def readClass (s : State) (r : ObjRow) : Option Nat :=
  if r.index = 0x3030 && s.variant = .dh25 then some 1 else r.rd
/-- The first abort code that applies to a read of `n` bytes of a bulk transfer (R467, R485); `n` is 65,536 where the
transfer names no length. -/
def judgeRead (s : State) (p : Path) (index sub n : Nat) : Option Nat :=
  if !indexExists index then some abObject else
  match objRow index sub with
  | none => some abSub
  | some r =>
    match readClass s r with
    | none => some abWriteOnly
    | some need =>
      let observer := heldClass s p false = 1
      let addr := sel s p 0x3F30 1
      let size := storeBytes (sel s p 0x3F30 3) (addr / 2 ^ 31)
      if !classHolds s p r sub false need 0 then some abState
      else if index = 0x3A03 && !commonRefuses s p r sub false 0 && (counterValue s p (sel s p 0x3A01 0) observer).isNone then
        some abRange
      else if index = 0x3F30 && sub = 2 && decide (n < 65536) && decide (size < addr % 2 ^ 31 + n) then some abRange
      else if index = 0x3F30 && sub = 2 && decide (size ≤ addr % 2 ^ 31) then some abRange
      else if commonRefuses s p r sub false 0 || (index = 0x3F30 && sub = 2 && storeSilent s p) ||
        (index = 0x2A06 && (cursorUnit s p).any fun u => puaKind u ≠ 0) then some abState
      else none

end Sys2Proof.Machine
end

