-- ==== Sys2Proof/Machine/Writes.lean ====
section
/-!
DEFINITION. What an accepted dictionary write does (R53, R440, R471 and the rules of each object), the authorisation
exchange (R456 to R461), and the answer to a read, with the reads that act.
-/
namespace Sys2Proof.Machine
open Sys2Proof

/-! ### Authorisation (R456 to R460) -/

/-- The key of a class (R16, R461); empty where it is missing (R371). -/
def keyOf (s : State) (c : Nat) : List Byte := match tget s.keys c with
  | some k => k
  | none => Config.key c
/-- The session class of a code. -/
def Class.ofCode : Nat → Class
  | 1 => .observer
  | 2 => .operator
  | 3 => .service
  | 4 => .maker
  | _ => .none
/-- Whether an action code is valid for a class and a PUA for the action (R458). -/
def actionValid (s : State) (p : Path) (action target cls : Nat) : Bool :=
  match action with
  | 0x0002 | 0x0003 | 0x0004 => action = cls && target = packagePua
  | 0x2A09 | 0x2A0A | 0x2C0A => cls = 3 && cursorUnit s p == some target
  | 0x3808 => (cls = 3 || (cls = 4 && s.dies.any (·.reel.returned))) && (dieIdxs s).any fun d => diePua d = target
  | 0x380C => (cls = 3 || cls = 4) && target = packagePua
  | 0x3422 | 0x3423 | 0x3F30 => cls = 3 && target = packagePua
  | 0x3F10 => (cls = 3 && (target = 0xFFFFFFF2 || target = 0xFFFFFFF3)) || (cls = 4 && target = 0xFFFFFFF4)
  | _ => false
/-- The reason for which no nonce is issued (R457), 0 for none. -/
def nonceReason (s : State) (p : Path) (action target cls : Nat) : Nat :=
  if cls = 4 && !s.dies.any (·.reel.returned) then 3
  else if (keyOf s cls).isEmpty then 5
  else if !actionValid s p action target cls then 6 else 0
/-- What a path selects at 0x3F01: action, target, class (R456). -/
def requestedAction (s : State) (p : Path) : Nat × Nat × Nat :=
  (sel s p 0x3F01 1, selector s p (key 0x3F01 2) packagePua, selector s p (key 0x3F01 3) 2)
/-- The outstanding nonce of a path with the values that it is bound to, while it is valid (R456). -/
def validNonce (s : State) (p : Path) : Option (Nat × Nat × Nat × Nat) :=
  match (path s p).nonce with
  | some n => if s.now ≤ n.2.2.2.2 then some (n.1, n.2.1, n.2.2.1, n.2.2.2.1) else none
  | none => none
/-- The payload of records 0x3F01 and 0x3F02 (R386). -/
def authPayload (p : Path) (action cls target nonce : Nat) : List Byte :=
  leBytes 2 action ++ leBytes 1 cls ++ leBytes 4 target ++ leBytes 1 (pathCode p) ++ leBytes 8 nonce
/-- Whether a path is in back-off (R459). -/
def inBackoff (s : State) (p : Path) : Bool := (path s p).backoff.any fun t => decide (s.now < t + 60000000000)
/-- Refuse an authorisation (R457): it is recorded and announced, and counts toward the back-off of R459. -/
def refuseAuth (p : Path) (action target cls nonce reason : Nat) (s : State) : State :=
  let d := pathDie p
  let s := addObj (key 0x3F07 2) 1 (recordAt d 0x3F02 packagePua 0 (authPayload p action cls target nonce ++ leBytes 1 reason) s)
  let recent := ((path s p).refusals.filter fun t => decide (s.now < t + 60000000000)) ++ [s.now]
  if recent.length < 4 then modPath p (fun x => { x with refusals := recent }) s
  else emcy d 0xFF81 (pathCode p) 0 (modPath p (fun x => { x with refusals := [], backoff := some s.now }) s)
/-- A read of 0x3F02 (R456, R459): the abort code and the nonce. -/
def readNonce (p : Path) (s : State) : Nat × List Byte × State :=
  if inBackoff s p then (abState, [], addObj (key 0x3F07 3) 1 s) else
  let a := requestedAction s p
  let reason := nonceReason s p a.1 a.2.1 a.2.2
  if reason ≠ 0 then
    let old := ((validNonce s p).map (·.1)).getD 0
    (abState, [], refuseAuth p a.1 a.2.1 a.2.2 old reason s)
  else
    let (w, s) := takeWord s
    (0, leBytes 8 w.toNat, modPath p (fun x => { x with
      nonce := some (w.toNat, a.1, a.2.1, a.2.2, s.now + 10000000000) }) s)
/-- Grant an action: a session for its lease, or one write within 10 s (R458, R460). -/
def grant (p : Path) (action target cls : Nat) (s : State) : State :=
  let now := s.now
  let lease := obj s (key 0x3F05 0) 600 * 1000000000
  if action ≤ 4 then modPath p (fun x => { x with session := Class.ofCode cls, lease := now + lease }) s
  else modPath p (fun x => { x with grants := x.grants ++ [⟨action, target, Class.ofCode cls, now + 10000000000⟩] }) s
/-- A write of 0x3F03 (R456): the abort code, 0 where the response matches. -/
def answerNonce (p : Path) (data : List Byte) (s : State) : Nat × State :=
  match validNonce s p with
  | none =>
    let a := requestedAction s p
    (abState, refuseAuth p a.1 a.2.1 a.2.2 0 2 s)
  | some n =>
    let s := modPath p (fun x => { x with nonce := none }) s
    let m := leBytes 8 n.1 ++ leBytes 2 n.2.1 ++ leBytes 4 n.2.2.1
    if (hmac (keyOf s n.2.2.2) m).take 8 = data then
      let s := recordAt (pathDie p) 0x3F01 packagePua 0 (authPayload p n.2.1 n.2.2.2 n.2.2.1 n.1) s
      (0, addObj (key 0x3F07 1) 1 (grant p n.2.1 n.2.2.1 n.2.2.2 s))
    else (abAuth, refuseAuth p n.2.1 n.2.2.1 n.2.2.2 n.1 1 s)
/-- A key write (R461): every session of that class ends, and the write is recorded without the key. -/
def writeKey (p : Path) (cls : Nat) (key_ : List Byte) (s : State) : State :=
  let out := fun (e : Nat × PathState) => if e.2.session.code = cls then (e.1, { e.2 with session := .none, lease := 0 }) else e
  let s := { s with keys := tset s.keys cls key_, paths := s.paths.map out }
  recordAt (pathDie p) 0x3F01 packagePua 0 (authPayload p 0x3F10 (if cls = 4 then 4 else 3) (0xFFFFFFF0 + cls) 0) s

/-! ### Requests -/

/-- Clear one die's Reel, step 1 (R395): the records numbered before the clear are written, then the descriptor. -/
def clearReel (p : Path) (d position : Nat) (s : State) : State :=
  let now := keeperRead s d
  let step := fun (r : Reel) (x : ReelEntry) => if r.next < fullIndex then
    { writeIndex r.next (recordBytes r x) r with next := r.next + 1 } else loseRecord now true r
  let older := fun (x : ReelEntry) => decide (x.position < position)
  let run := obj s (key 0x2101 0) 0
  modReel d (fun r =>
    let all := r.current.toList ++ r.queue
    let r := (all.filter older).foldl step r
    { r with current := none, queue := all.filter fun x => !older x, clearCount := (r.clearCount + 1) % 65536,
             erasedThrough := none, clearOpen := some (run, position, pathCode p), discarded := r.next }) s
/-- Set or clear the return state (R399, R401): the value that it holds changes nothing and leaves no record. -/
def setReturnState (v : Nat) (s : State) : State :=
  let new := v = 1
  if s.dies.all (fun x => x.reel.returned == new) then s else
  let s := recordPkg 0x3809 [byte (1 - v), byte v] s
  let s := { s with dies := s.dies.map fun x => { x with reel := { x.reel with returned := new } } }
  if !new && s.privateMode then
    let (b, s) := takeBit s
    if b then enterCase 192 s else s
  else s
/-- Write an image into the slot that is not committed; it becomes trial (R370). -/
def writeImage (version : Nat) (image : List Byte) (s : State) : State :=
  let i := if (s.images.getD 0 ⟨0, 0, []⟩).state = 2 then 1 else 0
  { s with images := s.images.modify i fun _ => ⟨1, version, image⟩, trialReached := true }
/-- The trial image becomes committed and the committed one previous (R370). -/
def commitImage (s : State) : State :=
  { s with images := s.images.map fun x => if x.state = 1 then { x with state := 2 }
      else if x.state = 2 then { x with state := 4 } else x }
/-- Bind a mailbox to a slice, or unbind it with 0 (R453): its grants end, its selectors and cursor return to their
defaults, and a new binding empties its notification queue (R454). -/
def bindMailbox (m k : Nat) (s : State) : State :=
  let s := modMailbox m (fun x => if k = 0 then { x with bound := 0 } else { x with bound := k, queue := [], lost := 0, lostNow := 0 }) s
  let s := if k = 0 then s else modDie (m / 256) (fun x => { x with notifyIrq := dropHold m x.notifyIrq }) s
  let gone := pathKey (.mailbox m)
  modPath (.mailbox m) PathState.unbound
    { s with snapshot := s.snapshot.map fun n => { n with paths := n.paths.filter (· ≠ gone) } }
/-- Arm the slot that a path selects (R413, R414): by logical cluster, or by cluster. -/
def armSlot (p : Path) (logical : Option Nat) (target : Nat) (s : State) : State :=
  let slot : TraceSlot := {
    state := 1, owner := armOwner s p, logical := logical, target := target, content := 3, stopMask := 7, scheduled := none,
    startPt := 0, stopCause := 0, lastTime := 0, outcomes := [], outcomeAt := 0, chunk := [], chunkFirst := 0,
    chunkTarget := 0, chunkNumber := 0, lastPacket := 0, lost := none, dropped := none, full := [] }
  { s with traces := tset s.traces (selectedSlot s p) slot }
/-- Start, stop or free every slot that the requester may control, on every die (R414, R416). -/
def controlSlots (p : Path) (v : Nat) (s : State) : State :=
  let owner := armOwner s p
  let c := changeCountAfter (pt s)
  let f := fun (t : TraceSlot) =>
    if owner ≠ 0 && t.owner ≠ owner then t
    else if v = 1 && t.state = 1 then { t with scheduled := some (c, true) }
    else if v = 2 && t.state = 2 then { t with scheduled := some (c, false) }
    else if v = 3 && t.state = 3 then { t with state := 0, owner := 0, logical := none, content := 3, stopMask := 7 }
    else t
  { s with traces := s.traces.map fun e => (e.1, f e.2) }
/-- A snapshot request of a path (R411): it opens a snapshot, joins one that has the same change count, or waits for
the gathering to end. -/
def requestSnapshot (p : Path) (s : State) : State :=
  let x := path s p
  let c := changeCountAfter (pt s)
  let asked := (x.objs, x.cursorLcn, x.cursorPua, decide (heldClass s p false = 1))
  let number := (x.snapshot.map (·.2.1)).getD 0
  let latch := (x.snapshot.map (·.2.2.2)).getD 0
  let k := pathKey p
  match s.snapshot with
  | none => modPath p (fun y => { y with asked := asked, snapshot := some (1, number, c, latch) })
      { s with snapshot := some ⟨c, [k], false⟩ }
  | some n =>
    if !n.latched && n.count = c then
      modPath p (fun y => { y with asked := asked, snapshot := some (1, number, c, latch) })
        { s with snapshot := some { n with paths := addHold k n.paths } }
    else modPath p (fun y => { y with asked := asked, waitingSnapshot := true }) s
/-- A write of the requested frequency (R305): the groups of the slice are recomputed. -/
def writeFrequency (k v : Nat) (s : State) : State := recomputeSlice false k (setSobj k (key 0x3010 0) v s)
/-- Clear the latch of a tray input on every die; once none is set, the fields of a die at S3 power on (R334). -/
def clearLatch (i : Nat) (s : State) : State :=
  (dieIdxs s).foldl (fun s d =>
    if !(trayInput s d i).latched then s else
    let s := modTray d i (fun x => { x with latched := false }) s
    record 0x3003 (diePua d) 0 [byte i, byte (trayState (trayInput s d i)), 1] s) s
  |> fun s => if latchSet s then s else (fieldIdxs s).foldl (fun s f =>
    let x := die s (f / 6)
    if x.status = 1 && x.stage = 3 && x.stageRan && !x.stageDone then powerOn f s else s) s
/-- A service write of an fmax record (R219, R222): the current entries and the counts; what the entries of a core that
serves a slice allow is computed again (R221). -/
def writeFmax (u : Nat) (b : List Byte) (s : State) : State :=
  let n := fun i => (b.getD i 0).toNat
  let s := modFmax u (fun r => { r with
    current := (b.take 16).map (·.toNat), run := leNat ((b.drop 32).take 4), step := n 36, outcome := n 37,
    lowerings := n 38, slow := n 39 = 1, tests := leNat ((b.drop 40).take 4), dirty := true }) s
  let k := sliceOfUnit s u
  let s := leaveCase (coreCase u) s
  if k = 0 || (lcnOfCore s u).isNone then s else recomputeSlice true k s
/-- The Gondola clears the model-exceeded flag (R116). -/
def clearModel (s : State) : State :=
  if !s.modelFlag then s else
  refreshErrors (refreshBounds (recordPkg 0x2403 ([0] ++ leBytes 4 (modelCount s) ++ [1]) { s with modelFlag := false }))

/-- The die that draws the seeds of a slice (R133): its owner's, the Anchor's where its box spans dies. -/
def seedDie (s : State) (k : Nat) : Nat :=
  if (slice s k).any spansDies then s.anchorDie else ownerDie s k
/-- Keep a written value where its object keeps it (R471). -/
def keepValue (p : Path) (r : ObjRow) (sub v : Nat) (s : State) : State :=
  let k := key r.index sub
  match r.kept with
  | .node => modDie (pathDie p) (fun x => { x with node := tset x.node k v }) s
  | .path => modPath p (fun x => { x with objs := tset x.objs k v }) s
  | .owner => setSobj (selectedSlice s p) k v s
  | _ => setObj k v s
/-- The effect of an accepted write that takes effect at once; `position` is its number where it has one. -/
def writeEffect (p : Path) (r : ObjRow) (sub v : Nat) (data : List Byte) (position : Nat) (s : State) : State :=
  let kept := keepValue p r sub v s
  let k := selectedSlice s p
  match r.index with
  | 0x1003 => modDie (pathDie p) (fun x => { x with errors := [] }) s
  | 0x2400 | 0x2401 =>
    -- a write of Service class that leaves only valid codes ends the undefined case (R117)
    let service := decide (3 ≤ (sessionOf s p).code)
    applyModes (if service && policyValid kept then leaveCase 117 kept else kept)
  | 0x2404 => applyMode k kept
  | 0x2407 => clearModel s
  | 0x2503 =>
    let old := sobj s k (key 0x2503 0) 0
    if old = v then kept else recordAt (seedDie s k) 0x2502 packagePua k [byte old, byte v] kept
  | 0x2702 => refreshBound k kept
  | 0x2A01 => if sub = 1 then modPath p (fun x => { x with cursorLcn := some v, cursorPua := none }) kept
      else modPath p (fun x => { x with cursorLcn := none, cursorPua := some v }) kept
  | 0x2A06 => match cursorUnit s p with
    | some u => writeFmax u data s
    | none => s
  | 0x2C0A => match cursorUnit s p with
    | some u => startReset v u true (captureDomain v u 5 none s)
    | none => s
  | 0x2C0B => if sub = 4 then modDie (sel s p 0x2C0B 2) (fun x => { x with pinned := v }) s else kept
  | 0x2C13 => orderly 0 v s
  | 0x3003 => recomputeGroups (decide (v < obj s (key 0x3003 0) 15)) (fieldIdxs s) kept
  | 0x3006 => recomputeGroups false (fieldIdxs s) kept
  | 0x3010 => writeFrequency k v s
  | 0x3030 => refreshReservoirs (fieldIdxs s) kept
  | 0x3061 => clearLatch (sub - 1) s
  | 0x3422 => writeImage (Config.imageVersion data) data s
  | 0x3423 => commitImage s
  | 0x3808 => clearReel p (v - 1) position s
  | 0x380C => setReturnState v s
  | 0x3A04 => requestSnapshot p s
  | 0x3B03 => armSlot p (some (v / 16)) ((clusterOf s (v / 16)).getD (manufactureCluster (v / 16))) s
  | 0x3B04 => armSlot p none (puaClusterKey v) s
  | 0x3B05 => modTrace (selectedSlot s p) (fun t => if sub = 1 then { t with content := v % 8 } else { t with stopMask := v % 8 }) s
  | 0x3B06 => controlSlots p v s
  | 0x3B07 => modDie (sel s p 0x3B01 0) (fun x => { x with traceMode := v, node := tset x.node (key 0x3B07 0) v }) s
  | 0x3F04 => modPath p (fun x => { x with session := .none, lease := 0 }) s
  | 0x3F10 => writeKey p sub data s
  | 0x3F20 => if sub = 2 then bindMailbox (sel s p 0x3F20 1) v s else kept
  | 0x3F30 => if sub = 2 then writeRaw (sel s p 0x3F30 3) (sel s p 0x3F30 1) data s else kept
  | _ => kept

/-- Issue one position to a package-scoped write (R53); it is not answered before it has taken effect (R440). -/
def numberWrite (s : State) : Nat × State :=
  let s := eraEvent s
  (s.seqr.next, takePosition s)
/-- The grant that a write takes is spent (R458). -/
def spendGrant (p : Path) (index sub v : Nat) (s : State) : State :=
  match grantAction s index sub v with
  | some g => consumeGrant p g.1 ((grantTarget s p index sub v).getD packagePua) s
  | none => s
/-- Serve a write: judge it (R467), number it where it is package-scoped, act, spend its grant, and answer (R440, R458). A
held sequencer neither numbers nor answers (R94). `act` is the effect; `j` is the state that the judgement sees, `s` but for
grants that ended during the transfer (R440). -/
def serveWriteWith (act : ObjRow → Nat → State → State) (p : Path) (index sub : Nat) (data : List Byte) (j s : State) : State :=
  let v := leNat data
  let s := modDie (pathDie p) (fun x => { x with coresAwake := true }) s
  match judgeWrite j p index sub data, objRow index sub with
  | some ab, _ => respond p index sub ab [] 0 s
  | none, none => respond p index sub abSub [] 0 s
  | none, some r =>
    if index = 0x3F03 then
      let (ab, s) := answerNonce p data s
      respond p index sub ab [] 0 s
    else if index = 0x2A09 || index = 0x2A0A then
      requestForced ⟨p, index, v, (cursorUnit s p).getD packagePua⟩ s
    else if !packageWrite r sub v then
      respond p index sub 0 [] 0 (act r 0 (spendGrant p index sub v s))
    else if !sequencerFree s then s
    else
      let (n, s) := numberWrite s
      respond p index sub 0 [] n (act r n (spendGrant p index sub v s))
/-- Serve a write with the effect of its object. -/
def serveWrite (p : Path) (index sub : Nat) (data : List Byte) (s : State) : State :=
  serveWriteWith (fun r n s => writeEffect p r sub (leNat data) data n s) p index sub data s s

/-! ### Reads -/

/-- The first index at or after `i` that passes a test, in a region of `n` indices. -/
def firstFrom (n i : Nat) (ok : Nat → Bool) : Option Nat := (((List.range n).drop i).find? ok)
/-- A record that a requester may read: every one at Operator class (R397). -/
def mayReadRecord (s : State) (p : Path) (i : Nat) : Bool :=
  decide (2 ≤ heldClass s p false) || recordVisible s (boundSlice s p) (selectedRecord s p i)
/-- A chunk that a requester may read (R424). -/
def mayReadChunk (s : State) (p : Path) (i : Nat) : Bool :=
  decide (2 ≤ heldClass s p false) || chunkVisible s (boundSlice s p) (sel s p 0x3B01 0) i
/-- What an object reads as: its bytes, none where it has no data yet; `n` is the length of a bulk read. Subs that name dies
1 to 3 read 0 in the DH-25 (R2, R264, R346, R381, R404, R428). -/
def objectBytes (s : State) (p : Path) (r : ObjRow) (sub n : Nat) : Option (List Byte) :=
  let number := fun (v : Nat) => fitNumber (key r.index sub) r.size v
  let rep := die s (sel s p 0x3403 0)
  if s.variant = .dh25 && (subDie r.index sub).any (0 < ·) then some (zeros r.size)
  else if r.kept = .fixed && r.index ≠ 0x1008 then (numberOf s p r sub).map number
  else match r.index with
  | 0x1008 => some ("Krapol RM".toList.map fun c => byte c.toNat)
  | 0x100A => some (Config.imageName (s.images.getD s.imageInUse ⟨0, 0, []⟩).version)
  | 0x2A06 => (cursorUnit s p).map fun u => fmaxBytes (fmaxRec s u)
  | 0x2A07 => (cursorUnit s p).map fun u => unitBytes (unitRec s u)
  | 0x2C0C => if sub = 2 then some (captureBlock s (sel s p 0x2C0B 2) (sel s p 0x2C0C 1)) else (numberOf s p r sub).map number
  | 0x3404 => some (match tget rep.reports (sub - 1) with
    | some x => x.bytes (sub - 1)
    | none => [byte (sub - 1), 0xFF] ++ zeros 26 ++ leBytes 4 packagePua)
  | 0x3506 => if sub = 3 then some (rep.testResults.getD (sel s p 0x3506 2) (zeros 16)) else (numberOf s p r sub).map number
  | 0x3805 => some (selectedRecord s p (sel s p 0x3804 0))
  | 0x3807 => some ((List.range 4096).flatMap fun i => selectedRecord s p (sel s p 0x3804 0 + i))
  | 0x3A03 => (counterValue s p (sel s p 0x3A01 0) (heldClass s p false = 1)).map number
  | 0x3B08 => if sub = 2 then some (traceChunk s (sel s p 0x3B01 0) (sel s p 0x3B08 1)) else (numberOf s p r sub).map number
  | 0x3F30 => if sub = 2 then
      let a := sel s p 0x3F30 1
      let size := storeBytes (sel s p 0x3F30 3) (a / 2 ^ 31)
      some (rawStore s (sel s p 0x3F30 3) a (min (min n 65536) (size - a % 2 ^ 31)))
    else (numberOf s p r sub).map number
  | _ =>
    if 0x2A02 ≤ r.index && r.index ≤ 0x2A0F then
      ((cursorUnit s p).bind fun u => windowValue s p u r.index sub).map number
    else (numberOf s p r sub).map number
/-- A read of 0x3806 (R397): the first record at or after the selector that the requester may read; the selector moves
past it. -/
def nextRecord (p : Path) (s : State) : Option (List Byte) × State :=
  match firstFrom 1048576 (sel s p 0x3804 0) (mayReadRecord s p) with
  | some i => (some (selectedRecord s p i), modPath p (fun x => { x with objs := tset x.objs (key 0x3804 0) (min 1048575 (i + 1)) }) s)
  | none => (none, s)
/-- A read of 0x3B08:03 (R424): the next chunk at or after the index that the requester may read; the index moves past
it. -/
def nextChunk (p : Path) (s : State) : Option (List Byte) × State :=
  let d := sel s p 0x3B01 0
  match firstFrom 16384 (sel s p 0x3B08 1) fun i => mayReadChunk s p i && (tget (die s d).traceRegion i).isSome with
  | some i => (some (traceChunk s d i), modPath p (fun x => { x with objs := tset x.objs (key 0x3B08 1) (min 16383 (i + 1)) }) s)
  | none => (none, s)
/-- Serve a read of at most `n` bytes: judge it (R467) and answer; some reads act (R397, R424, R456). -/
def serveRead (p : Path) (index sub n : Nat) (s : State) : State :=
  let s := modDie (pathDie p) (fun x => { x with coresAwake := true }) s
  match judgeRead s p index sub n, objRow index sub with
  | some ab, _ => respond p index sub ab [] 0 s
  | none, none => respond p index sub abSub [] 0 s
  | none, some r =>
    let answer := fun (x : Option (List Byte)) (s : State) => match x with
      | some b => respond p index sub 0 (b.take n) 0 s
      | none => respond p index sub abNoData [] 0 s
    match index with
    | 0x3F02 =>
      let (ab, b, s) := readNonce p s
      respond p index sub ab b 0 s
    | 0x3806 =>
      let (x, s) := nextRecord p s
      answer x s
    | 0x3B08 => if sub = 3 then
        let (x, s) := nextChunk p s
        answer x s
      else answer (objectBytes s p r sub n) s
    | 0x3A03 =>
      let id := sel s p 0x3A01 0
      let ks := if counterFree id then [freeCountKey s p id (heldClass s p false = 1)] else []
      answer (objectBytes s p r sub n) (noteCounts ks s)
    | _ => answer (objectBytes s p r sub n) s

end Sys2Proof.Machine
end

