-- ==== Sys2Proof/Machine/Paths.lean ====
section
/-!
DEFINITION. Requests on the access paths: SDO transfers (R439, R440), mailbox requests (R450 to R454), idle notices, and the
commands that are writes or reads of one object.
-/
namespace Sys2Proof.Machine
open Sys2Proof

/-! ### Serving a path -/

/-- Whether a path exists in the variant (R430, R450). -/
def pathExists (s : State) (p : Path) : Bool := decide (pathDie p < s.variant.dies)
/-- The Gondola of a die serves requests: its dictionary is loaded and it does not recover (R286, R357, R450). -/
def nodeServes (x : Die) : Bool := x.dictionary && x.recovering.isNone && !x.fastReset
/-- Whether a path is served now: a port also needs the reference, an NMT state that serves and a bus (R48, R436, R449). -/
def pathServed (s : State) (p : Path) : Bool :=
  pathExists s p && nodeServes (die s (pathDie p)) &&
    match p with
    | .port d b =>
      let x := port s (d * 2 + (if b then 1 else 0))
      s.reference && (x.nmt = .preOperational || x.nmt = .operational) && x.fault ≠ 2
    | .mailbox _ => true
/-- The 60 bytes of a request that its check covers (R451). -/
def requestBytes (r : MailReq) : List Byte :=
  [byte r.op, 0] ++ leBytes 2 r.index ++ [byte r.sub, 0, 0, 0] ++ leBytes 4 r.length ++ leBytes 4 r.tag ++
    leBytes 8 r.hostAddr ++ fitBytes 32 r.data ++ zeros 4
/-- A request with its check. -/
def withRequestCheck (r : MailReq) : MailReq := { r with check := crc32c (requestBytes r) }
/-- The 64 bytes of the response that stands in a mailbox's slot (R451). -/
def responseBytes (s : State) (m : Nat) : List Byte :=
  let x := mailbox s m
  match (path s (.mailbox m)).response with
  | some r => withCheck ([byte x.op, 0] ++ leBytes 2 r.index ++ [byte r.sub, 0] ++ leBytes 2 (r.position / 2 ^ 48) ++
      leBytes 4 r.data.length ++ leBytes 4 x.tag ++ leBytes 6 (r.position % 2 ^ 48) ++ [0, 0] ++ fitBytes 32 r.data ++
      leBytes 4 r.status)
  | none => zeros 64
/-- Place a request in a mailbox's slot to wait (R450); a slot whose request still waits keeps it. -/
def placeRequest (m : Nat) (r : MailReq) (host : List Byte) (s : State) : State :=
  if s.requests.any (·.1 = m) then s else { s with requests := s.requests ++ [(m, r, host)] }

/-- The slice, kind, and fields of an idle notice (R197). -/
def noticeOf (b : List Byte) : Nat × IdleNotice :=
  let n := fun i k => leNat ((b.drop i).take k)
  (n 2 1, ⟨n 0 2 % 4096, n 3 1, n 4 4, n 8 8, n 16 4, n 20 4, n 24 4, n 28 4⟩)
/-- The bytes of an idle notice (R197). -/
def noticeBytes (kind : Nat) (n : IdleNotice) : List Byte :=
  leBytes 2 n.slice ++ [byte kind, byte n.flags] ++ leBytes 4 n.id ++ leBytes 8 n.start ++ leBytes 4 n.length ++
    leBytes 4 n.period ++ leBytes 4 n.firstLcn ++ leBytes 4 n.count
/-- Serve an idle notice by its kind (R197 to R200); a kind beyond 3 is refused. -/
def serveNotice (p : Path) (kind : Nat) (n : IdleNotice) (s : State) : State :=
  match kind with
  | 0 => takeNotice p false n s
  | 1 => takeNotice p true n s
  | 2 => revokeNotices p n.slice (fun x => x.notice.id = n.id) s
  | 3 => revokeNotices p n.slice (fun _ => true) s
  | _ => refuseNotice p n.slice s

/-- A DOMAIN of more than 32 bytes, which only a bulk operation moves on the mirror channel (R452). -/
def longDomain (index sub : Nat) : Bool := (objRow index sub).any fun o => o.domain && decide (32 < o.size)
/-- Serve a mailbox request (R451, R452): its check, op, length and alignment are tested first. A plain read or write does not reach
a DOMAIN of more than 32 bytes. -/
def serveRequest (m : Nat) (r : MailReq) (host : List Byte) (s : State) : State :=
  let p : Path := .mailbox m
  let s := modMailbox m (fun x => { x with op := r.op, tag := r.tag }) s
  let refuse := respond p r.index r.sub abCommand [] 0 s
  let long := longDomain r.index r.sub
  let bulk := r.op = 5 || r.op = 6
  if crc32c (requestBytes r) ≠ r.check || !([1, 2, 3, 5, 6].contains r.op) then refuse
  else if r.op = 3 then
    let n := noticeOf (fitBytes 32 r.data)
    serveNotice p n.1 n.2 s
  else if r.length = 0 || decide ((if bulk then 16777216 else 32) < r.length) || (bulk && r.hostAddr % 4096 ≠ 0) then refuse
  else match r.op with
    | 1 => if long then respond p r.index r.sub ((judgeRead s p r.index r.sub r.length).getD abLength) [] 0 s
        else serveRead p r.index r.sub r.length s
    | 2 =>
      let data := (fitBytes 32 r.data).take r.length
      if long then respond p r.index r.sub ((judgeWrite s p r.index r.sub data).getD abLength) [] 0 s
      else serveWrite p r.index r.sub data s
    | 5 =>
      let s := serveRead p r.index r.sub r.length s
      match (path s p).response with
      | some a => if a.status = 0 then emit (.hostData m a.data) s else s
      | none => s
    | _ => serveWrite p r.index r.sub (host.take r.length) s
/-- A mailbox request: served now, or it waits in its slot (R286, R450). -/
def mailboxRequest (m : Nat) (r : MailReq) (host : List Byte) (s : State) : State :=
  if !pathExists s (.mailbox m) then s
  else if pathServed s (.mailbox m) then serveRequest m r host s
  else placeRequest m r host s
/-- The requests that wait for a die's Gondola are served in the order in which they arrived (R450). -/
def serveRequests (d : Nat) (s : State) : State :=
  let mine := s.requests.filter fun x => x.1 / 256 = d
  mine.foldl (fun s x => serveRequest x.1 x.2.1 x.2.2 s) { s with requests := s.requests.filter fun x => x.1 / 256 ≠ d }

/-- A write on a path: served now; on a mailbox that is not served it waits as a request, on a port it is lost
(R286, R450). -/
def pathWrite (p : Path) (index sub : Nat) (data : List Byte) (s : State) : State :=
  if pathServed s p then serveWrite p index sub data s
  else match p with
    | .mailbox m => if !pathExists s p then s else
      if data.length ≤ 32 && !longDomain index sub then placeRequest m (withRequestCheck ⟨2, index, sub, data.length, 0, 0, data, 0⟩) [] s
      else placeRequest m (withRequestCheck ⟨6, index, sub, data.length, 0, 0, [], 0⟩) data s
    | .port .. => s
/-- A read on a path, likewise. -/
def pathRead (p : Path) (index sub n : Nat) (s : State) : State :=
  if pathServed s p then serveRead p index sub n s
  else match p with
    | .mailbox m => if pathExists s p then
        placeRequest m (withRequestCheck ⟨if n ≤ 32 && !longDomain index sub then 1 else 5, index, sub, n, 0, 0, [], 0⟩) [] s else s
    | .port .. => s
/-- An idle notice on a path, likewise. -/
def pathNotice (p : Path) (kind : Nat) (n : IdleNotice) (s : State) : State :=
  match p with
  | .mailbox m => if pathServed s p then serveNotice p kind n s
      else if pathExists s p then placeRequest m (withRequestCheck ⟨3, 0, 0, 32, 0, 0, noticeBytes kind n, 0⟩) [] s else s
  | .port .. => if pathServed s p then serveNotice p kind n s else s

/-! ### SDO and USDO transfers (R439, R440) -/

/-- Set the open transfer of a path. -/
def setSdo (p : Path) (x : Option Sdo) (s : State) : State := modPath p (fun y => { y with sdo := x }) s
/-- What judges a download that was initiated with an earlier class: the grants held then (R440). -/
def asInitiated (p : Path) (x : Sdo) (s : State) : State :=
  let now := s.now
  let live := x.grants.map fun g => ({ g with until_ := now } : Grant)
  modPath p (fun y => { y with session := x.cls, lease := now + 1, grants := live }) s
/-- The abort code of a segmented download at its initiation, where its value is not known: index, sub, direction and class
(R440, R467). -/
def judgeInitiate (s : State) (p : Path) (index sub : Nat) : Option Nat :=
  if !indexExists index then some abObject else
  match objRow index sub with
  | none => some abSub
  | some r =>
    match (if index = 0x3030 && s.variant = .dh25 then none else r.wr) with
    | none => some abReadOnly
    | some need =>
      let granted := (liveGrants s p).any fun g => g.action = index
      if granted || decide (need ≤ heldClass s p true) then none else some abState

/-- SDO_INITIATE (R439, R440): an expedited download or an upload is served at once; a segmented one opens a transfer. A new
initiate ends an open transfer without an abort. -/
def execSdoInitiate (dt : Nat) (p : Path) (download : Bool) (index sub size : Nat) (expedited : Option (List Byte))
    (s : State) : Result :=
  let s := elapse dt s
  done <| if !pathServed s p then s else
  let s := setSdo p none s
  let open_ := fun (bytes : List Byte) => some (⟨download, index, sub, size, bytes, s.now, sessionOf s p, liveGrants s p⟩ : Sdo)
  match download, expedited with
  | true, some d => serveWrite p index sub d s
  | true, none => match judgeInitiate s p index sub with
    | some ab => respond p index sub ab [] 0 s
    | none => respond p index sub 0 [] 0 (setSdo p (open_ []) s)
  | false, _ =>
    let s := serveRead p index sub 16777216 s
    match (path s p).response with
    | some r => if r.status = 0 && 4 < r.data.length then
        respond p index sub 0 [] 0 (setSdo p (open_ r.data) s) else s
    | none => s
/-- SDO_SEGMENT (R439, R440): the next segment of an open transfer. A download takes effect with its last segment, under
the class that its initiation held; one of another length than announced is refused. -/
def execSdoSegment (dt : Nat) (p : Path) (data : List Byte) (last : Bool) (s : State) : Result :=
  let s := elapse dt s
  done <| if !pathServed s p then s else
  match (path s p).sdo with
  | none => s
  | some x =>
    let now := s.now
    if x.lastSegment + 1000000000 < now then respond p x.index x.sub abTimeout [] 0 (setSdo p none s)
    else if x.download then
      let bytes := x.bytes ++ data
      if !last then respond p x.index x.sub 0 [] 0 (setSdo p (some { x with bytes := bytes, lastSegment := now }) s)
      else
        let s := setSdo p none s
        if x.size ≠ 0 && x.size ≠ bytes.length then respond p x.index x.sub abLength [] 0 s
        else serveWriteWith (fun r n s => writeEffect p r x.sub (leNat bytes) bytes n s) p x.index x.sub bytes
          (asInitiated p x s) s
    else if last then respond p x.index x.sub 0 x.bytes 0 (setSdo p none s)
    else
      let rest := x.bytes.drop 7
      respond p x.index x.sub 0 (x.bytes.take 7) 0
        (setSdo p (if rest.isEmpty then none else some { x with bytes := rest, lastSegment := now }) s)
/-- SDO_TIMEOUT (R439): no segment within 1,000 ms; the server aborts the transfer. -/
def execSdoTimeout (dt : Nat) (p : Path) (s : State) : Result :=
  let s := elapse dt s
  done <| match (path s p).sdo with
  | none => s
  | some x => if s.now < x.lastSegment + 1000000000 then s
    else respond p x.index x.sub abTimeout [] 0 (setSdo p none s)

/-! ### Mailbox commands (R450 to R454) -/

/-- MAILBOX_READ (R451): a request with op 0x01. -/
def execMailboxRead (dt m : Nat) (r : MailReq) (s : State) : Result := done (mailboxRequest m r [] (elapse dt s))
/-- MAILBOX_WRITE (R451): a request with op 0x02 or 0x03. -/
def execMailboxWrite (dt m : Nat) (r : MailReq) (s : State) : Result := done (mailboxRequest m r [] (elapse dt s))
/-- MAILBOX_BULK_READ (R452): the object's bytes go to host memory. -/
def execMailboxBulkRead (dt m : Nat) (r : MailReq) (s : State) : Result := done (mailboxRequest m r [] (elapse dt s))
/-- MAILBOX_BULK_WRITE (R452): the bytes come from host memory. -/
def execMailboxBulkWrite (dt m : Nat) (r : MailReq) (host : List Byte) (s : State) : Result :=
  done (mailboxRequest m r host (elapse dt s))
/-- MAILBOX_BIND (R453): an Operator binds the mailbox that the path selects. -/
def execMailboxBind (dt : Nat) (p : Path) (k : Nat) (s : State) : Result := done (pathWrite p 0x3F20 2 (leBytes 2 k) (elapse dt s))
/-- MAILBOX_UNBIND (R453): an Operator ends a binding. -/
def execMailboxUnbind (dt : Nat) (p : Path) (s : State) : Result := done (pathWrite p 0x3F20 2 (leBytes 2 0) (elapse dt s))
/-- IDLE_NOTICE_ONE_SHOT (R197 to R199): one slot is declared. -/
def execIdleNoticeOneShot (dt : Nat) (p : Path) (n : IdleNotice) (s : State) : Result := done (pathNotice p 0 n (elapse dt s))
/-- IDLE_NOTICE_PERIODIC (R197 to R199): a slot in each period is declared. -/
def execIdleNoticePeriodic (dt : Nat) (p : Path) (n : IdleNotice) (s : State) : Result := done (pathNotice p 1 n (elapse dt s))
/-- IDLE_NOTICE_REVOKE (R197, R200): one notice is revoked. -/
def execIdleNoticeRevoke (dt : Nat) (p : Path) (k id : Nat) (s : State) : Result :=
  done (pathNotice p 2 ⟨k, 0, id, 0, 0, 0, 0, 0⟩ (elapse dt s))
/-- IDLE_NOTICE_REVOKE_ALL (R197, R200): every notice of a slice is revoked. -/
def execIdleNoticeRevokeAll (dt : Nat) (p : Path) (k : Nat) (s : State) : Result :=
  done (pathNotice p 3 ⟨k, 0, 0, 0, 0, 0, 0, 0⟩ (elapse dt s))

/-! ### Commands that are one access -/

/-- OBJECT_WRITE (R467): a write of any object. -/
def execObjectWrite (dt : Nat) (p : Path) (index sub : Nat) (data : List Byte) (s : State) : Result :=
  done (pathWrite p index sub data (elapse dt s))
/-- UNIT_CURSOR_BY_LCN (R264, R432). -/
def execUnitCursorByLcn (dt : Nat) (p : Path) (lcn : Nat) (s : State) : Result :=
  done (pathWrite p 0x2A01 1 (leBytes 4 lcn) (elapse dt s))
/-- UNIT_CURSOR_BY_PUA (R6, R264, R432). -/
def execUnitCursorByPua (dt : Nat) (p : Path) (pua : Pua) (s : State) : Result :=
  done (pathWrite p 0x2A01 2 (leBytes 4 pua.toNat) (elapse dt s))
/-- MODE_FLOOR_WRITE (R119, R121 to R123). -/
def execModeFloorWrite (dt : Nat) (p : Path) (value : List Byte) (s : State) : Result :=
  done (pathWrite p 0x2400 0 value (elapse dt s))
/-- ROLE_DEFAULT_MODE_WRITE (R120 to R123). -/
def execRoleDefaultModeWrite (dt : Nat) (p : Path) (sub : Nat) (value : List Byte) (s : State) : Result :=
  done (pathWrite p 0x2401 sub value (elapse dt s))
/-- MODE_OVERRIDE_WRITE (R119, R121 to R123). -/
def execModeOverrideWrite (dt : Nat) (p : Path) (value : List Byte) (s : State) : Result :=
  done (pathWrite p 0x2404 1 value (elapse dt s))
/-- CLEAR_MODEL_FLAG (R116). -/
def execClearModelFlag (dt : Nat) (p : Path) (value : List Byte) (s : State) : Result :=
  done (pathWrite p 0x2407 4 value (elapse dt s))
/-- SEED_MODE_WRITE (R134). -/
def execSeedModeWrite (dt : Nat) (p : Path) (value : List Byte) (s : State) : Result :=
  done (pathWrite p 0x2503 0 value (elapse dt s))
/-- STREAMER_CHECKING_WRITE (R191). -/
def execStreamerCheckingWrite (dt : Nat) (p : Path) (value : List Byte) (s : State) : Result :=
  done (pathWrite p 0x2702 0 value (elapse dt s))
/-- FMAX_RECORD_WRITE (R219, R222). -/
def execFmaxRecordWrite (dt : Nat) (p : Path) (data : List Byte) (s : State) : Result :=
  done (pathWrite p 0x2A06 0 data (elapse dt s))
/-- FORCED_RETIRE (R256). -/
def execForcedRetire (dt : Nat) (p : Path) (s : State) : Result := done (pathWrite p 0x2A09 0 [1] (elapse dt s))
/-- FORCED_READMIT (R256). -/
def execForcedReadmit (dt : Nat) (p : Path) (s : State) : Result := done (pathWrite p 0x2A09 0 [2] (elapse dt s))
/-- FORCED_READMIT_CLEAR (R256). -/
def execForcedReadmitClear (dt : Nat) (p : Path) (s : State) : Result := done (pathWrite p 0x2A09 0 [3] (elapse dt s))
/-- UNIT_EXCHANGE (R256). -/
def execUnitExchange (dt : Nat) (p : Path) (spare : Pua) (s : State) : Result :=
  done (pathWrite p 0x2A0A 0 (leBytes 4 spare.toNat) (elapse dt s))
/-- RESET_REQUEST (R287). -/
def execResetRequest (dt : Nat) (p : Path) (value : List Byte) (s : State) : Result :=
  done (pathWrite p 0x2C0A 0 value (elapse dt s))
/-- ORDERLY_RIPCORD_REQUEST (R293, R294). -/
def execOrderlyRipcordRequest (dt : Nat) (p : Path) (value : List Byte) (s : State) : Result :=
  done (pathWrite p 0x2C13 1 value (elapse dt s))
/-- REQUESTED_FREQUENCY_WRITE (R305). -/
def execRequestedFrequencyWrite (dt : Nat) (p : Path) (value : List Byte) (s : State) : Result :=
  done (pathWrite p 0x3010 0 value (elapse dt s))
/-- OPERATOR_STEP_CAP_WRITE (R305). -/
def execOperatorStepCapWrite (dt : Nat) (p : Path) (value : List Byte) (s : State) : Result :=
  done (pathWrite p 0x3003 0 value (elapse dt s))
/-- RESERVOIR_ARMING_WRITE (R318). -/
def execReservoirArmingWrite (dt : Nat) (p : Path) (value : List Byte) (s : State) : Result :=
  done (pathWrite p 0x3030 0 value (elapse dt s))
/-- TRAY_LATCH_CLEAR (R334). -/
def execTrayLatchClear (dt : Nat) (p : Path) (sub : Nat) (value : List Byte) (s : State) : Result :=
  done (pathWrite p 0x3061 sub value (elapse dt s))
/-- IMAGE_WRITE (R369, R370): the command names the version that the image carries. -/
def execImageWrite (dt : Nat) (p : Path) (version : Nat) (image : List Byte) (s : State) : Result :=
  let s := elapse dt s
  done <| if pathServed s p then
    serveWriteWith (fun _ _ s => writeImage version image s) p 0x3422 0 image s s
  else pathWrite p 0x3422 0 image s
/-- COMMIT_TRIAL_IMAGE (R370). -/
def execCommitTrialImage (dt : Nat) (p : Path) (value : List Byte) (s : State) : Result :=
  done (pathWrite p 0x3423 0 value (elapse dt s))
/-- REEL_CLEAR (R395). -/
def execReelClear (dt : Nat) (p : Path) (value : List Byte) (s : State) : Result :=
  done (pathWrite p 0x3808 0 value (elapse dt s))
/-- NEXT_READABLE_RECORD (R397). -/
def execNextReadableRecord (dt : Nat) (p : Path) (s : State) : Result := done (pathRead p 0x3806 0 64 (elapse dt s))
/-- RETURN_STATE_SET (R399). -/
def execReturnStateSet (dt : Nat) (p : Path) (s : State) : Result := done (pathWrite p 0x380C 0 [1] (elapse dt s))
/-- RETURN_STATE_CLEAR (R399). -/
def execReturnStateClear (dt : Nat) (p : Path) (s : State) : Result := done (pathWrite p 0x380C 0 [0] (elapse dt s))
/-- COUNTER_READ (R408 to R410). -/
def execCounterRead (dt : Nat) (p : Path) (s : State) : Result := done (pathRead p 0x3A03 0 8 (elapse dt s))
/-- SNAPSHOT_REQUEST (R411). -/
def execSnapshotRequest (dt : Nat) (p : Path) (value : List Byte) (s : State) : Result :=
  done (pathWrite p 0x3A04 1 value (elapse dt s))
/-- TRACE_ARM_BY_LCN (R413, R414). -/
def execTraceArmByLcn (dt : Nat) (p : Path) (lcn : Nat) (s : State) : Result :=
  done (pathWrite p 0x3B03 0 (leBytes 4 lcn) (elapse dt s))
/-- TRACE_ARM_BY_PUA (R413). -/
def execTraceArmByPua (dt : Nat) (p : Path) (pua : Pua) (s : State) : Result :=
  done (pathWrite p 0x3B04 0 (leBytes 4 pua.toNat) (elapse dt s))
/-- SLOT_START (R416). -/
def execSlotStart (dt : Nat) (p : Path) (s : State) : Result := done (pathWrite p 0x3B06 0 [1] (elapse dt s))
/-- SLOT_STOP (R416). -/
def execSlotStop (dt : Nat) (p : Path) (s : State) : Result := done (pathWrite p 0x3B06 0 [2] (elapse dt s))
/-- SLOT_FREE (R416). -/
def execSlotFree (dt : Nat) (p : Path) (s : State) : Result := done (pathWrite p 0x3B06 0 [3] (elapse dt s))
/-- NEXT_READABLE_CHUNK (R424). -/
def execNextReadableChunk (dt : Nat) (p : Path) (s : State) : Result := done (pathRead p 0x3B08 3 4096 (elapse dt s))
/-- ERROR_FIELD_CLEAR (R464): a write of 0 to 0x1003:00. -/
def execErrorFieldClear (dt : Nat) (p : Path) (value : List Byte) (s : State) : Result :=
  done (pathWrite p 0x1003 0 value (elapse dt s))

/-! ### Authorisation commands (R456 to R462) -/

/-- NONCE_READ (R456). -/
def execNonceRead (dt : Nat) (p : Path) (s : State) : Result := done (pathRead p 0x3F02 0 8 (elapse dt s))
/-- RESPONSE_WRITE (R456). -/
def execResponseWrite (dt : Nat) (p : Path) (data : List Byte) (s : State) : Result :=
  done (pathWrite p 0x3F03 0 data (elapse dt s))
/-- END_SESSION (R460). -/
def execEndSession (dt : Nat) (p : Path) (value : List Byte) (s : State) : Result :=
  done (pathWrite p 0x3F04 1 value (elapse dt s))
/-- LEASE_EXPIRY (R460): a session ends when its lease runs out. -/
def execLeaseExpiry (dt : Nat) (p : Path) (s : State) : Result :=
  let s := elapse dt s
  done (if s.now < (path s p).lease then s else modPath p (fun x => { x with session := .none, lease := 0 }) s)
/-- NONCE_EXPIRY (R456): a nonce stays valid for 10 s. -/
def execNonceExpiry (dt : Nat) (p : Path) (s : State) : Result :=
  let s := elapse dt s
  done (if (validNonce s p).isSome then s else modPath p (fun x => { x with nonce := none }) s)
/-- GRANT_EXPIRY (R458): a one-write grant ends after 10 s. -/
def execGrantExpiry (dt : Nat) (p : Path) (s : State) : Result :=
  let s := elapse dt s
  let live := liveGrants s p
  done (modPath p (fun x => { x with grants := live }) s)
/-- BACKOFF_END (R459): nonces are issued again after 60 s. -/
def execBackoffEnd (dt : Nat) (p : Path) (s : State) : Result :=
  let s := elapse dt s
  done (if inBackoff s p then s else modPath p (fun x => { x with backoff := none }) s)
/-- KEY_WRITE (R461, R486). -/
def execKeyWrite (dt : Nat) (p : Path) (sub : Nat) (key_ : List Byte) (s : State) : Result :=
  done (pathWrite p 0x3F10 sub key_ (elapse dt s))
/-- RAW_STORE_WRITE (R462, R485). -/
def execRawStoreWrite (dt : Nat) (p : Path) (data : List Byte) (s : State) : Result :=
  done (pathWrite p 0x3F30 2 data (elapse dt s))

/-! ### Resets that return -/

/-- RESET_COMPLETE (R279, R283): a domain returns to service within its recovery time. A Gondola that has recovered serves
the requests that waited in its die's mailboxes (R286). -/
def execResetComplete (dt : Nat) (domain : Pua) (code : Nat) (s : State) : Result :=
  let s := completeReset domain.toNat code (elapse dt s)
  let d := puaDie domain.toNat
  done (if code = 3 && nodeServes (die s d) then serveRequests d s else s)

end Sys2Proof.Machine
end

