-- ==== Sys2Proof/Machine/FieldBus.lean ====
section
/-!
DEFINITION. The field-bus ports: NMT (R436 to R438), heartbeats, TPDOs, held EMCY frames and fault confinement
(R442 to R449).
-/
namespace Sys2Proof.Machine
open Sys2Proof

/-- The key of a port. -/
def portKey (d : Nat) (b : Bool) : Nat := d * 2 + (if b then 1 else 0)
/-- A port of the variant takes an NMT command to its node-ID or to 0 once it has sent its boot-up message (R436, R437). -/
def nmtAddressed (s : State) (d : Nat) (b : Bool) (node : Nat) : Bool :=
  let x := port s (portKey d b)
  decide (d < s.variant.dies) && s.reference && x.nmt ≠ .initialisation && x.fault ≠ 2 && !(die s d).fastReset &&
    (node = 0 || node = nodeId s d)
/-- Set the NMT state of a port; `want` says whether it enters operational on reaching S8. -/
def setNmt (d : Nat) (b : Bool) (n : Nmt) (want : Bool) (s : State) : State :=
  modPort (portKey d b) (fun x => { x with nmt := n, wantOperational := want }) s
/-- The state byte of a heartbeat (R436). -/
def nmtByte : Nmt → Byte
  | .operational => 0x05
  | .stopped => 0x04
  | _ => 0x7F
/-- Send the boot-up message and enter pre-operational (R356, R436, R437). -/
def bootUp (d : Nat) (b : Bool) (s : State) : State :=
  let now := s.now
  let s := modPort (portKey d b) (fun x => { x with nmt := .preOperational, wantOperational := false, lastHeartbeat := now }) s
  emit (.can d b (0x700 + nodeId s d) [0x00]) s
/-- Reset a port's communication (R437): its grants end, its cursor and selectors return to their defaults, and the
communication objects are those of the store. The RM itself is not reset. -/
def resetCommunication (d : Nat) (b : Bool) (s : State) : State :=
  let stored := tgetD (storedOf s d).nodes d []
  let comm := fun (k : Nat) => decide (k < key 0x2000 0)
  let s := modPath (.port d b) (fun x => { x.unbound with sdo := none }) s
  let s := modDie d (fun x => { x with node := tmerge comm stored x.node }) s
  bootUp d b (modPort (portKey d b) (fun x => { x with lastTpdo := [] }) s)

/-- NMT_START (R437): the port enters operational, before S8 on reaching S8. -/
def execNmtStart (dt d : Nat) (b : Bool) (node : Nat) (s : State) : Result :=
  let s := elapse dt s
  done <| if !nmtAddressed s d b node then s
  else if atS8 (die s d) then setNmt d b .operational false s
  else setNmt d b .preOperational true s
/-- NMT_STOP (R437, R463): an open transfer ends without an abort. -/
def execNmtStop (dt d : Nat) (b : Bool) (node : Nat) (s : State) : Result :=
  let s := elapse dt s
  done <| if !nmtAddressed s d b node then s
  else setSdo (.port d b) none (setNmt d b .stopped false s)
/-- NMT_ENTER_PRE_OPERATIONAL (R437). -/
def execNmtEnterPreOperational (dt d : Nat) (b : Bool) (node : Nat) (s : State) : Result :=
  let s := elapse dt s
  done <| if !nmtAddressed s d b node then s else setNmt d b .preOperational false s
/-- NMT_RESET_APPLICATION (R437): as a reset of communication. -/
def execNmtResetApplication (dt d : Nat) (b : Bool) (node : Nat) (s : State) : Result :=
  let s := elapse dt s
  done (if nmtAddressed s d b node then resetCommunication d b s else s)
/-- NMT_RESET_COMMUNICATION (R437). -/
def execNmtResetCommunication (dt d : Nat) (b : Bool) (node : Nat) (s : State) : Result :=
  let s := elapse dt s
  done (if nmtAddressed s d b node then resetCommunication d b s else s)

/-- A port sends on its bus: after boot-up, not bus-off, while its node runs and its Gondola does not recover (R436, R442). The
controllers run on the reference (R48). -/
def portSends (s : State) (d : Nat) (b : Bool) : Bool :=
  let x := port s (portKey d b)
  decide (d < s.variant.dies) && s.reference && x.nmt ≠ .initialisation && x.fault ≠ 2 && nodeServes (die s d)

/-- HEARTBEAT_SEND (R442): at the period of 0x1017. -/
def execHeartbeatSend (dt d : Nat) (b : Bool) (s : State) : Result :=
  let s := elapse dt s
  let x := port s (portKey d b)
  let period := nodeValue s d 0x1017 0 * 1000000
  let now := s.now
  done <| if !portSends s d b || decide (now < x.lastHeartbeat + period) then s
  else emit (.can d b (0x700 + nodeId s d) [nmtByte x.nmt]) (modPort (portKey d b) (fun x => { x with lastHeartbeat := now }) s)

/-- The bytes of a TPDO: its mapped objects in order (R443); an object without data reads as zeros. -/
def tpdoBytes (s : State) (d : Nat) (b : Bool) (pdo : Nat) : List Byte :=
  let i := 0x1A00 + pdo
  (List.range (nodeValue s d i 0)).flatMap fun n =>
    let e := nodeValue s d i (n + 1)
    match objRow (e / 65536) (e / 256 % 256) with
    | some r => fitBytes r.size ((objectBytes s (.port d b) r (e / 256 % 256) r.size).getD [])
    | none => []
/-- TPDO_SEND (R443, R444): in operational, when the event timer has run since the last one and the inhibit time has
passed; bit 31 of the COB-ID takes a TPDO out of use (CiA 301). -/
def execTpdoSend (dt d : Nat) (b : Bool) (pdo : Nat) (s : State) : Result :=
  let s := elapse dt s
  let x := port s (portKey d b)
  let i := 0x1800 + pdo
  let cob := nodeValue s d i 1
  let wait := max (nodeValue s d i 5 * 1000000) (nodeValue s d i 3 * 100000)
  let due := match tget x.lastTpdo pdo with
    | some t => decide (t + wait ≤ s.now)
    | none => true
  let now := s.now
  done <| if !portSends s d b || x.nmt ≠ .operational || 4 ≤ pdo || cob.testBit 31 || !due then s
  else emit (.can d b (cob % 2 ^ 29) (tpdoBytes s d b pdo))
    (modPort (portKey d b) (fun x => { x with lastTpdo := tset x.lastTpdo pdo now }) s)

/-- The held EMCY whose event has the lowest sequence number (R446), by its place. -/
def firstHeld (l : List (List Byte)) : Option Nat :=
  let seq := fun (f : List Byte) => leNat ((f.drop 4).take 4)
  (List.range l.length).find? fun i => l.all fun f => decide (seq (l.getD i []) ≤ seq f)
/-- EMCY_INHIBIT_END (R445, R446): the inhibit time has passed, and the next held EMCY is sent. -/
def execEmcyInhibitEnd (dt d : Nat) (b : Bool) (s : State) : Result :=
  let s := elapse dt s
  let x := port s (portKey d b)
  let wait := nodeObj s d (key 0x1015 0) 100 * 100000
  let now := s.now
  let ended := match x.lastEmcy with
    | none => true
    | some t => decide (t + wait ≤ now)
  done <| match firstHeld x.heldEmcy with
  | none => s
  | some i =>
    if !ended || !s.reference || x.nmt = .stopped || x.fault = 2 then s
    else emit (.can d b (emcyCob s d) (x.heldEmcy.getD i []))
      (modPort (portKey d b) (fun x => { x with heldEmcy := x.heldEmcy.eraseIdx i, lastEmcy := some now }) s)

/-- CAN_BUS_ERROR (R447 to R449): a port becomes error passive, or bus-off; then it sends and receives nothing and the event
is counted at 0x20F3. -/
def execCanBusError (dt d : Nat) (b busOff : Bool) (s : State) : Result :=
  let s := elapse dt s
  let k := portKey d b
  let x := port s k
  done <| if s.variant.dies ≤ d || x.nmt = .initialisation || x.fault = 2 then s
  else if busOff then refreshError d (modPort k (fun x => { x with fault := 2, busOff := x.busOff + 1 }) s)
  else if x.fault = 1 then s
  else
    let s := modPort k (fun x => { x with fault := 1 }) s
    refreshError d (emcy d 0x8120 (if b then 1 else 0) 0 s)
/-- BUS_OFF_RECOVERY (R449): after 128 occurrences of 11 recessive bits the port returns, its grants end and its node sends
EMCY 0x8140. -/
def execBusOffRecovery (dt d : Nat) (b : Bool) (occurrences : Nat) (s : State) : Result :=
  let s := elapse dt s
  let k := portKey d b
  done <| if (port s k).fault ≠ 2 || occurrences < 128 then s else
  let s := modPort k (fun x => { x with fault := 0 }) s
  let s := modPath (.port d b) (fun x => { x with session := .none, lease := 0, grants := [] }) s
  refreshError d (emcy d 0x8140 (if b then 1 else 0) 0 s)
/-- ERROR_ACTIVE_RETURN (R447, R449): an error-passive port is error active again. -/
def execErrorActiveReturn (dt d : Nat) (b : Bool) (s : State) : Result :=
  let s := elapse dt s
  let k := portKey d b
  done <| if (port s k).fault ≠ 1 then s
  else refreshError d (modPort k (fun x => { x with fault := 0 }) s)

end Sys2Proof.Machine
end

