-- ==== Sys2Proof/Machine/BringUp.lean ====
section
/-!
DEFINITION. Bring-up: the stages S0 to S8, their reports, discovery against the stored plan, start bindings, saved training
and firmware (R54, R69 to R71, R94, R347 to R373, R389, R504, R510).
-/
namespace Sys2Proof.Machine
open Sys2Proof

/-! ### Stage reports (R347, R353, R355) -/

/-- The limits of R347 in ms, by stage. -/
def warmLimit (n : Nat) : Nat := [0, 500, 200, 800, 600, 2000, 1000, 500].getD n 0
/-- The cold limits. -/
def coldLimit (n : Nat) : Nat := [0, 500, 200, 800, 12000, 30000, 1000, 500].getD n 0
/-- Every unit trains from scratch: a cold start, or a package-cold reset (R280, R349). -/
def trainsCold (s : State) : Bool := s.startKind == .cold || s.packageReset.isSome
/-- The limit of a die's stage in ns: the cold one where a unit fell back (R347). -/
def stageLimit (s : State) (d : Nat) : Nat :=
  let x := die s d
  (if trainsCold s || x.draft.result.testBit 3 then coldLimit x.stage else warmLimit x.stage) * 1000000
/-- The code of a start kind (R349). -/
def StartKind.code : StartKind → Nat
  | .cold => 0
  | .warm => 1
  | .retention => 2
  | .mixed => 3
/-- The unit kinds that a stage's report counts (R355). -/
def stageKinds (n : Nat) : List Nat := [[], [], [8], [7], [2, 3], [4], [0, 6, 7], [7], []].getD n []
/-- How many units of them the plan holds: Gondola, Field Agents, clusters, lane groups and bridge links,
pseudo-channels, cores with control cores and Bridles, clusters (R355). -/
def stageUnits (n : Nat) : Nat := [0, 1, 6, 4992, 904, 512, 94848, 4992, 0].getD n 0
/-- The greatest detail code of a stage (R355). -/
def stageDetails (n : Nat) : Nat := [2, 4, 4, 4, 3, 5, 1, 3, 0].getD n 0
/-- The detail codes marked "die" (R353, R355). -/
def dieDetail (n c : Nat) : Bool := (n == 1 && c == 1) || (n == 2 && c == 1) || (n == 5 && c == 5) || (n == 7 && c == 1)
/-- Change the report of the stage in progress. -/
def modDraft (d : Nat) (f : StageReport → StageReport) (s : State) : State :=
  modDie d (fun x => { x with draft := f x.draft }) s
/-- Set a flag of the result byte (R355). -/
def flagDraft (d bit : Nat) (s : State) : State := modDraft d (fun r => { r with result := r.result ||| 2 ^ bit }) s
/-- Note a detail code and the first unit involved; the first code noted stays, unless one marked "die" follows. -/
def noteDetail (d c : Nat) (unit : Option Nat) (s : State) : State :=
  let n := (die s d).stage
  modDraft d (fun r => { r with
    detail := if r.detail = 0 || dieDetail n c then c else r.detail
    first := if r.first = 0xFFFFFFFF then unit.getD r.first else r.first }) s
/-- Start a stage on a die (R351). -/
def beginStage (d n : Nat) (s : State) : State :=
  let kind := s.startKind.code
  let start := if n = 0 then 0 else keeperRead s d
  modDie d (fun x => { x with
    stage := n, stageRan := false, stageDone := false, stageStart := s.now,
    draft := { StageReport.empty with kind := kind, start := start } }) s

/-! ### Units found unusable (R236, R358 to R361) -/

/-- The stage in whose report a unit counts that S1 finds unusable (R379). -/
def stageOfKind (k : Nat) : Nat := [3, 4, 4, 4, 5, 3, 3, 3, 2].getD k 3
/-- A unit moves to Absent or another state at a start; its replacement is bound at the end of stage `n` (R359, R360). -/
def markUnit (n p : Nat) (t : UnitState) (cause : Nat) (s : State) : State :=
  if stateOf s p = t then s else
  modDie (puaDie p) (fun x => { x with toBind := x.toBind ++ [(n, p, cause)] }) (changeState p t cause s)
/-- A responder that the plan does not hold, a unit found again, or a pseudo-channel of a stack whose identity differs from
the plan: Screening with the anomaly flag (R236, R359, R361). -/
def anomaly (d p : Nat) (s : State) : State :=
  if stateOf s p = .screening then s else
  let planned := puaValid s.variant p && stateOf s p != .absent
  let s := if planned then modDie d (fun x => { x with toBind := x.toBind ++ [((die s d).stage, p, 0x1C)] }) s
    else modUnit p (fun r => { r with state := .absent }) s
  let s := modUnit p (fun r => { r with flags := r.flags ||| 1 }) (changeState p .screening 0x22 s)
  let s := if puaKind p = 4 then noteDetail d 4 (some p) s else s
  flagDraft d 2 (modDraft d (fun r => { r with anomalies := r.anomalies + 1 })
    (modDie d (fun x => { x with anomaliesAtStart := x.anomaliesAtStart + 1 }) s))
/-- A field that cannot come up is left off for the run: it counts as a dark field, without that field's record. -/
def leaveOff (f : Nat) (s : State) : State :=
  if (field s f).power = 3 then s else flagDraft (f / 6) 1 (checkStacks (railOff f 3 s))
/-- What a unit found unusable served goes to its replacement (R241 to R248, R359). -/
def startRebind (p cause : Nat) (s : State) : State :=
  let ck := puaClusterKey p
  match puaKind p with
  | 0 => match lcnOfCore s p with
    | some lcn => rebindCore p lcn cause s
    | none => s
  | 1 => if isBay (puaCluster p) then clusterOut ck [p] cause s else routerOut p cause s
  | 2 => laneOut p cause s
  | 3 => bridgeOut p cause s
  | 4 =>
    let st := puaDie p * 16 + puaCluster p
    match slotOfChannel s st (puaSub p), spareChannel s st with
    | some slot, some sp => requestCommit [.channel st slot (puaSub p) sp] [] [p] cause s
    | some slot, none => requestCommit [.slotLost st slot] [] [p] cause s
    | none, _ => s
  | 5 => bindPlace p unbound s
  | 6 | 7 => clusterOut ck [] cause s
  | 8 => leaveOff (puaFieldIdx p) s
  | _ => s
/-- A binding that replaces a unit from Ballast (R355, result bit 0). -/
def replaces : Binding → Bool
  | .core .. | .swap .. | .channel .. => true
  | .cluster _ _ new _ => new.isSome
  | .lane _ _ _ new => new.isSome
  | _ => false
/-- A binding that leaves less capacity (R355, result bit 1). -/
def reduces : Binding → Bool
  | .cluster _ _ new _ => new.isNone
  | .lane _ _ _ new => new.isNone
  | .zport _ _ carrier => carrier == 8
  | .slotLost .. | .stackLost .. => true
  | _ => false
/-- Start bindings apply to the maps at once, without a change count or a record (R360). -/
def landStart (s : State) : State :=
  let land := fun (s : State) (c : Commit) =>
    let s := c.bindings.foldl (fun s b => landBinding c.cause b s) s
    let s := c.units.foldl (fun s u => setOpen u false s) s
    (c.bindings.flatMap bindingBridles).foldl (fun s ck => modCluster ck (fun x => { x with shadow := none }) s) s
  let s := checkStacks (s.commits.foldl land { s with commits := [] })
  { s with commits := [] }
/-- The detail code that a unit found unusable gives its stage's report (R355). -/
def unitDetail (n p : Nat) (lost : Bool) : Nat :=
  match n, puaKind p with
  | 2, 8 => 3
  | 4, 2 => if lost then 2 else 1
  | 4, 3 => 3
  | 5, 4 => 3
  | 6, _ => 1
  | _, _ => 0
/-- Bind the replacements that the stage's units need, between this stage and the next (R359, R360). -/
def startBindings (d n : Nat) (s : State) : State :=
  let due := (die s d).toBind.filter fun e => e.1 ≤ n
  let s := modDie d (fun x => { x with toBind := x.toBind.filter fun e => n < e.1 }) s
  due.foldl (fun s e =>
    let p := e.2.1
    let t := startRebind p e.2.2 s
    let bs := t.commits.flatMap (·.bindings)
    let t := if bs.any replaces then flagDraft d 0 t else t
    let t := if bs.any reduces then flagDraft d 1 t else t
    let gone := if stateOf t p = .absent then 1 else 0
    let t := modDraft d (fun r => { r with absent := r.absent + gone }) t
    let t := modDie d (fun x => { x with absentAtStart := x.absentAtStart + gone }) t
    landStart (noteDetail d (unitDetail n p (bs.any reduces)) (some p) t)) s

/-! ### Saved and cold training (R362 to R364) -/

/-- The units of a die with a training record: lane groups and Z ports at S4, stacks (by pseudo-channel 0) at S5 (R362). -/
def trainingUnits (d n : Nat) : List Nat :=
  if n = 4 then ((List.range 7).flatMap fun m => (List.range 128).map (lanePua (d * 7 + m))) ++ (List.range 8).map (portPua d)
  else if n = 5 then (List.range 16).map fun j => channelPua (d * 16 + j) 0 else []
/-- The unit whose training record covers a unit. -/
def trainingUnit (p : Nat) : Nat := if puaKind p = 4 then channelPua (puaDie p * 16 + puaCluster p) 0 else p
/-- Whether a unit falls back: its record is not valid, its eye or read check failed, or the diode differs from the record's
T16 by more than 25 °C (R364). -/
def fallsBack (x : Die) (failed : List Nat) (u : Nat) : Bool :=
  let v := tgetD x.training u (tgetD x.training packagePua 0)
  let far := match x.thermal.means with
    | t :: _ => decide (6400 < (t + 65537 - (v : Int)).natAbs)
    | [] => false
  v == 0 || failed.contains u || far
/-- Units fall back to cold training, and the start becomes mixed (R349, R364). -/
def fallBack (d n : Nat) (failed : List Nat) (s : State) : State :=
  if trainsCold s then s else
  let x := die s d
  let us := (trainingUnits d n).filter fun u =>
    fallsBack x failed u && !x.retrained.contains u && stateOf s u != .absent
  if us.isEmpty then s else
  let s := modDie d (fun x => { x with fallbacks := x.fallbacks + us.length, retrained := x.retrained ++ us }) s
  let s := flagDraft d 3 { s with startKind := .mixed }
  let kind := s.startKind.code
  modDraft d (fun r => { r with kind := kind }) s

/-! ### What a stage finds -/

/-- A unit that fails the quick core screen (R367): a test failure with cause 0x12. The entry that failed is free. -/
def quickFailure (p : Nat) (s : State) : State :=
  let u := stateOf s p
  if !usable u && u != .screening then s else
  let (entry, s) := takeNat s
  let payload := [1] ++ leBytes 8 (entry % 24) ++ leBytes 4 packagePua ++ [0]
  let s := record 0x2801 p 0 payload (addObj (key 0x2806 2) 1 s)
  let s := modUnit p (fun r => { r with decisive := satAdd 16 r.decisive 1 }) s
  markUnit 6 p (if u = .screening then .retired else .quarantined) 0x12 s
/-- A unit that fails a stage (R302, R319, R364, R367, R372, R71). -/
def failUnit (d n p : Nat) (s : State) : State :=
  match n with
  | 1 => noteDetail d 3 (some p) (markUnit (stageOfKind (puaKind p)) p .absent 0x1C s)
  | 2 =>
    let k := if p = diePua d then d else fieldKeeper (puaFieldIdx p)
    noteDetail d 2 (some p) (modKeeper k (fun x => { x with offsetFault := true, applied := false, coarse := true }) s)
  | 3 =>
    let f := puaFieldIdx p
    if puaKind p = 5 then
      (if !(field s f).phases.contains (puaSub p) then s else
      let s := modField f (fun x => { x with
        phases := x.phases.filter (· ≠ puaSub p), failed := x.failed ++ [puaSub p] }) s
      noteDetail d 4 (some p) (readPhases f s))
    else noteDetail d 2 (some p) (leaveOff f s)
  | 6 => quickFailure p s
  | 7 =>
    let ck := puaClusterKey p
    if (die s d).noImage.contains ck then s else
    noteDetail d 3 (some p) (addObj (key 0x3421 2) 1 (modDie d (fun x => { x with noImage := x.noImage ++ [ck] }) s))
  | _ => markUnit n p .absent 0x1C s
/-- Take in what a stage found on a die (R355, R359, R364). -/
def takeFindings (d n : Nat) (f : StageFindings) (s : State) : State :=
  let mine := fun (l : List Pua) => (l.map (·.toNat)).filter fun p => puaDie p = d
  let s := fallBack d n ((mine f.fallbacks).map trainingUnit) s
  let s := (mine f.missing).foldl (fun s p =>
    markUnit (if n = 1 then stageOfKind (puaKind p) else n) p .absent 0x1C s) s
  let s := (mine f.failed).foldl (fun s p => failUnit d n p s) s
  let s := (mine f.anomalies).foldl (fun s p => anomaly d p s) s
  let s := if n = 1 && f.detail = 2 then modDie d (fun x => { x with copy := { x.copy with valid := false } }) s else s
  if f.detail = 0 || stageDetails n < f.detail then s else noteDetail d f.detail none s

/-! ### S0 and S1 (R69, R340, R347, R349, R375, R379, R389, R396, R504) -/

/-- A unit record as a start reads it: the volatile scores begin again (R232, R234, R237, R258). -/
def UnitRec.restart (r : UnitRec) : UnitRec :=
  { r with short := [], lastPoints := none, holdFrom := none, holdPaused := false, open_ := false, nextState := none,
           lastSeq := none, dirty := false }
/-- A keeper at the start of a run: it goes on, without a start-up offset (R69, R71). -/
def Keeper.restart (k : Keeper) : Keeper :=
  { k with applied := false, offsetFault := false, coarse := true, delay := 0, missed := 0, lossAt := 0, restarted := false }
/-- The die-scoped content that a start loads (R9, R55): each die's part from the chip select that its Gondola reads. -/
def mergedStore (s : State) : Stored :=
  (dieIdxs s).foldl (fun k d => if (die s d).reel.unusable.contains 0 then Stored.takeDie d s.keptB k else k) s.kept
/-- A die at the start of a run: what its always-on domain, its store and its pins hold stays. -/
def Die.restart (node : Tab Nat) (x : Die) : Die :=
  { Die.reset with
    thermal := { Thermal.reset with alertHeld := x.thermal.alertHeld, alert := x.thermal.alertHeld }, resets := x.resets, tray := x.tray, vin := x.vin, vaon := x.vaon, vaonAt := x.vaonAt, vfast := x.vfast,
    fastReset := x.fastReset, aonLost := x.aonLost, endMark := x.endMark, service := x.service,
    serviceSaved := x.serviceSaved, reel := { x.reel with queue := [], torn := none, relocating := false }, store := x.store, copy := x.copy,
    captures := x.captures, captureNext := x.captureNext, captureCount := x.captureCount, regions := x.regions,
    training := x.training, testResults := x.testResults, node := node, nid := x.nid, anchorSel := x.anchorSel }
/-- A new run begins at S0: everything volatile is as after reset, and the die-scoped content of the store applies (R9, R239,
R347). Package-scoped content is in force from the selection at S2 (R54). -/
def newRun (s : State) : State :=
  let n := s.variant.dies
  let k := mergedStore s
  let node := fun d => tgetD k.nodes d []
  let withTraining := fun (e : Die × Nat) =>
    { Die.restart (node e.2) e.1 with training := tgetD k.training e.2 [] }
  { State.reset with
    variant := s.variant, now := s.now, turn := s.turn, reference := s.reference, referenceLostAt := s.referenceLostAt,
    standby := s.variant == .dh100, ptStarted := s.ptStarted && !(die s s.anchorDie).aonLost, anchorDie := s.anchorDie,
    keepers := s.keepers.map fun e => (e.1, e.2.restart), ripcord := s.ripcord,
    dies := (s.dies.take n).zipIdx.map withTraining, fields := State.reset.fields.take (n * 6),
    seqr := ⟨s.seqr.checkpoint + 16777216, s.seqr.checkpoint, none, true, 0, s.seqr.checkpoint + 16777215, []⟩,
    units := k.units.map fun e => (e.1, e.2.restart), fmax := k.fmax, lcnMap := k.lcnMap, clusterMap := k.clusterMap,
    lanes := k.lanes, channels := k.channels, lostSlots := k.lostSlots, trialReached := s.trialReached,
    kept := s.kept, keptB := s.keptB, requests := s.requests,
    undefinedCases := s.undefinedCases.filter (· ≠ 192), output := s.output, free := s.free, pending := s.pending }
/-- STAGE_RUN 0: the first die to start a run starts it for the package (R347). -/
def runStage0 (d : Nat) (s : State) : State :=
  let first := (dieIdxs s).all fun e => (die s e).stage = 0 && !(die s e).stageRan
  let s := if first then newRun s else s
  if (die s d).status ≠ 1 then s else modDie d (fun x => { x with stageRan := true }) (beginStage d 0 s)
/-- The S1 scan of a Reel (R389, R396): a record in progress when power went leaves free bytes at its index, torn unless
they are erased or a whole record. -/
def scanReel (d : Nat) (s : State) : State :=
  -- the active chip select is tried again (R394)
  let s := modReel d (fun r => { r with unusable := r.unusable.filter (· ≠ r.active) }) s
  let r := (die s d).reel
  if r.clearOpen.isSome then finishClear d 1 (modReel d (fun r => { r with current := none }) s)
  else match r.current with
  | none => s
  | some _ =>
    let b := fitBytes 64 (Config.undefinedRecord d r.next)
    modReel d (fun r =>
      let r := { r with current := none }
      if b = List.replicate 64 erasedByte then r else
      { writeIndex r.next b r with
        next := r.next + 1,
        torn := if recordValid b then none else some (r.next, (b.getD 63 0).toNat, !checkHolds 59 b) }) s
/-- STAGE_RUN 1 (R69, R347, R375, R379, R389, R504): the strap is read, the Reel scanned, the test result table taken in and
the end-of-run mark read and cleared. -/
def runStage1 (d : Nat) (f : StageFindings) (s : State) : State :=
  let s := modDie d (fun x => { x with stageRan := true }) (beginStage d 1 s)
  let s := if d = 0 && (die s 0).anchorSel then startPt 0 { s with anchorDie := 0 } else s
  let s := scanReel d s
  let listed := (die s d).testResults.map fun b => leNat (b.take 4)
  let s := modDie d (fun x => { x with markRead := x.endMark, endMark := 0, testResults := [] }) s
  -- a record whose check fails is handled as a unit found unusable at discovery (R223, R240)
  let broken := (storedOf s d).broken.filter fun p => puaDie p = d
  let s := (listed ++ broken).foldl (fun s p => markUnit (stageOfKind (puaKind p)) p .absent 0x1C s) s
  takeFindings d 1 f s

/-! ### S2 (R54, R70, R71, R94, R349, R356, R370, R371) -/

/-- The position of the last valid record of a Reel (R94, R389). -/
def lastPosition (r : Reel) : Nat :=
  let i := if r.torn.isSome then r.next - 1 else r.next
  if i = 0 then 0 else recordPosition (storedRecord (if r.active = 0 then r.cs0 else r.cs1) (i - 1))
/-- The resume position: the higher of K + 16,777,216 and one above the highest recorded position (R94). -/
def resumePosition (s : State) : Nat :=
  ((s.dies.filter fun x => x.status = 1).map fun x => lastPosition x.reel + 1).foldl max (s.seqr.checkpoint + 16777216)
/-- Whether the last run ended cleanly, and with which target (R375). -/
def cleanEnd (s : State) : Option Nat :=
  match s.kept.lastRun with
  | some (t, true) => some t
  | _ => if (dieIdxs s).all fun d => (die s d).markRead = 2 then some 2 else none
/-- The start kind (R349). The stacks are still in self-refresh when no always-on supply was lost. -/
def decideStart (s : State) : StartKind :=
  let trained := (dieIdxs s).any fun d => (die s d).training.any fun e => e.2 ≠ 0
  match cleanEnd s with
  | none => .cold
  | some t =>
    if obj s (key 0x3402 0) 0 = 1 || !trained then .cold
    else if t = 2 && (dieIdxs s).all (fun d => !(die s d).aonLost) then .retention else .warm
/-- Select the firmware image (R370): a trial whose start did not reach S8 has failed; the trial slot, else the committed
one, else the previous one. -/
def selectImage (s : State) : State :=
  let failed := !s.trialReached && s.images.any (·.state = 1)
  let images := if failed then s.images.map fun x => if x.state = 1 then { x with state := 3 } else x else s.images
  let find := fun (n : Nat) => images.findIdx? fun x => x.state = n
  let i := ((find 1).or ((find 2).or (find 4))).getD 0
  editCopies (fun c => { c with images := images })
    { s with images := images, imageInUse := i, imageFallback := failed, trialReached := (find 1).isNone }
/-- The selected image fails its check: the next one is used (R370). -/
def imageFails (s : State) : State :=
  let images := s.images.modify s.imageInUse fun x => { x with state := 3 }
  let find := fun (n : Nat) => images.findIdx? fun x => x.state = n
  let i := ((find 2).or (find 4)).getD s.imageInUse
  editCopies (fun c => { c with images := images })
    { s with images := images, imageInUse := i, imageFallback := true, trialReached := true }
/-- The slot in use holds a valid image. -/
def imageValid (s : State) : Bool := [1, 2, 4].contains (s.images.getD s.imageInUse ⟨0, 0, []⟩).state
/-- The valid package-scoped copy with the highest write count among the running dies (R54). -/
def bestCopy (s : State) : Option PackageCopy :=
  ((((dieIdxs s).map (die s)).filter fun x => x.status = 1 && x.copy.valid).map (·.copy)).foldl (fun a c => match a with
    | some b => if b.writes < c.writes then some c else some b
    | none => some c) none
/-- With no valid package-scoped copy every node loads the defaults and has no privilege key; the package stops at S2
(R371). -/
def loadDefaults (d : Nat) (s : State) : State :=
  let plain := fun (x : Die) => { x with node := [] }
  noteDetail d 4 none { s with objs := s.objs.filter fun e => !storeKept e.1, keys := tset (tset (tset [] 2 []) 3 []) 4 [], dies := s.dies.map plain }
/-- The undefined case of R117 follows the stored screening policy that a start has loaded. -/
def judgePolicy (s : State) : State := if policyValid s then leaveCase 117 s else enterCase 117 s
/-- The selected copy goes to every Gondola, and every other copy is rewritten from it (R54). -/
def loadCopy (c : PackageCopy) (s : State) : State :=
  let take := fun (x : Die) => if x.status = 1 && !x.suspended then { x with copy := c } else x
  { s with objs := tmerge storeKept c.objs s.objs, images := c.images, keys := c.keys, zports := c.zports, dies := s.dies.map take,
           seqr := { s.seqr with checkpoint := c.checkpoint } }
/-- What the Anchor does at S2 with the selected copy (R54, R70, R94, R349, R370): the run number, the start kind, the firmware
slot, and the checkpoint write that comes before the first number. -/
def anchorSelected (c : PackageCopy) (s : State) : State :=
  let s := judgePolicy (loadCopy c s)
  let run := (obj s (key 0x2101 0) 0 + 1) % 2 ^ 32
  let kind := decideStart s
  let r := resumePosition s
  let s := editCopies (fun c => { c with objs := tset c.objs (key 0x2101 0) run }) (selectImage (setObj (key 0x2101 0) run s))
  { s with
    startKind := kind, retained := kind == .retention,
    seqr := { s.seqr with next := r, writing := some r, held := true, mirrored := r - 1 },
    kept := { s.kept with lastRun := none }, keptB := { s.keptB with lastRun := none } }
/-- What the Anchor does at S2 (R54, R371); `noCopy` is a finding that no copy is valid. -/
def anchorStage2 (d : Nat) (noCopy : Bool) (s : State) : State :=
  match if noCopy then none else bestCopy s with
  | none => loadDefaults d s
  | some c => anchorSelected c s
/-- The round trips of the 16 probes of a keeper's exchange with its parent (R71), free values up to 512 ns. -/
def probeTrips (s : State) : List Nat := (List.range 16).map fun i => Config.freeNat (s.free + i) % 513
/-- A keeper measures against its parent and applies its start-up offset (R71): the delay is half of the shortest of 16 round
trips, and the count becomes the parent's. What the equal lengths of the paths leave as error is free, within the accuracy of R68:
3 ns at a Gondola, 1 ns more at a Field Agent. A keeper whose shortest round trip passed 512 ns, as the stage's findings say, stays as
it is with an offset fault. -/
def applyOffset (fault : Bool) (k : Nat) (s : State) : State :=
  let best := (probeTrips s).foldl min 512
  let (n, s) := takeNat { s with free := s.free + 16 }
  let parent := if k < 4 then s.anchorDie else (k - 4) / 6
  let bound := if k < 4 then 3 else 1
  let t := keeperRead s parent + n % (2 * bound + 1) - bound
  if fault then modKeeper k (fun x => { x with offsetFault := true }) s else
  modKeeper k (fun x => { x.sync s.now with
    base := t, since := s.now, running := s.reference, slew := 0, applied := true, offsetFault := false, coarse := !s.reference,
    delay := best / 2, missed := 0, lossAt := 0, restarted := false, rest := 0 }) s
/-- A Field Agent measures the bus delay to each of its 52 leaf switches (R67, R71). -/
def measureLeaves (f : Nat) (s : State) : State :=
  let (n, s) := takeNat s
  modField f (fun x => { x with leafDelays := (List.range 52).map fun i => Config.freeNat (n + i) }) s
/-- STAGE_RUN 2 (R347, R356): the Anchor's duties, the keepers of the die, held Reel records, the dictionary and the boot-up
messages. The other dies wait for the Anchor's selection (R54). -/
def runStage2 (d : Nat) (f : StageFindings) (s : State) : State :=
  let fault := fun u => f.failed.any fun p => p.toNat = u
  let s := if d = s.anchorDie then anchorStage2 d (f.detail = 4) s else applyOffset (fault (diePua d)) d s
  let s := (List.range 6).foldl (fun s i =>
    let g := d * 6 + i
    measureLeaves g (applyOffset (fault (agentPua g)) (fieldKeeper g) s)) s
  -- the Tether crossings of the die are aligned (R64)
  let s := modDie d (fun x => { x with aligned := 1 }) s
  let s := modReel d (startRecord (die s d).suspended) (modDie d (fun x => { x with aonLost := false }) s)
  let kind := s.startKind.code
  let s := takeFindings d 2 f (modDraft d (fun r => { r with kind := kind }) s)
  let s := modDie d (fun x => { x with dictionary := true }) s
  -- each port takes its protocol into use (R435)
  let s := [false, true].foldl (fun s b => modPort (portKey d b) (fun x => { x with
    fd := nodeValue s d 0x20F1 (if b then 2 else 1) = 1 }) s) s
  let s := if (die s d).nid < 31 then bootUp d true (bootUp d false s) else s
  serveRequests d s

/-! ### S3 to S8 -/

/-- STAGE_RUN 3 (R302, R322, R334, R347): the phases in service, the phase test, the field ramps. -/
def runStage3 (d : Nat) (f : StageFindings) (s : State) : State :=
  let fs := (List.range 6).map (d * 6 + ·)
  let s := fs.foldl (fun s g =>
    let ok := (List.range 24).filter fun i => usable (stateOf s (mkPua d (g % 6) 0x3FF 31 5 i))
    modField g (fun x => { x with phases := ok, phaseCap := 0xFF }) s) s
  -- a phase cap lasts for the rest of its run only (R320)
  let s := fs.foldl (fun s g => if (field s g).phases.length < 16 then goDark g s else s) s
  let s := takeFindings d 3 f s
  if latchSet s then noteDetail d 1 none s
  else fs.foldl (fun s g => if (field s g).registered then powerOn g s else leaveOff g s) s
/-- Place the three reserved regions after the zero-fill (R366): the capture region keeps its place in a retention start whose
stack still serves; every other place of the last run is gone. -/
def placeRegions (d : Nat) (s : State) : State :=
  let keep := s.retained && s.packageReset.isNone && (match tgetD (die s d).regions 2 none with
    | some p => stackUsable s p.1 && slotServes s p.1 p.2 && (unitRec s (channelPua p.1 0)).flags % 2 = 0
    | none => false)
  let old := if keep then [0, 1] else [0, 1, 2]
  let s := old.foldl (fun s r => loseRegion d r s) s
  let s := old.foldl (fun s r =>
    let place := regionPlace s d r
    modDie d (fun x => { x with regions := tset x.regions r place }) s) s
  if (List.range 16).any fun j => stackUsable s (d * 16 + j) then s else noteDetail d 5 none s
/-- A stack of which no pseudo-channel answered (R355, S5 detail 1). -/
def silentStack (s : State) (d : Nat) : Option Nat :=
  (List.range 16).find? fun j => (List.range 32).all fun pc => stateOf s (channelPua (d * 16 + j) pc) == .absent
/-- STAGE_RUN 5 (R361, R365, R366): training, zero-fill of the die's memory, the reserved regions. -/
def runStage5 (d : Nat) (f : StageFindings) (s : State) : State :=
  let s := takeFindings d 5 f s
  let s := match silentStack s d with
    | some j => if f.missing.isEmpty then s else noteDetail d 1 (some (channelPua (d * 16 + j) 0)) s
    | none => s
  placeRegions d { s with dram := s.dram.filter fun e => e.1 / 2 ^ 44 ≠ d }
/-- The 64-byte entry of a core in its cluster's parameter block (R373). -/
def parameterEntry (s : State) (p : Nat) : List Byte :=
  let lcn := lcnOfCore s p
  let f := field s (puaFieldIdx p)
  let progress := match lcn with
    | some l => (lcnRec s l).progress
    | none => 0
  withCheck (leBytes 4 (lcn.getD 0xFFFFFFFF) ++ leBytes 4 p ++ [byte ((lcn.map (· % 16)).getD 0xFF), byte (stateOf s p).code,
    byte (freqCode (clusterFreq s (puaClusterKey p))), 0] ++ fitBytes 16 ((fmaxRec s p).current.map byte) ++
    leBytes 8 (randomWord f.testSeed p 0 1).toNat ++ leBytes 8 progress ++ zeros 16)
/-- The entry of the control core: what R373 states for cores only is free. -/
def controlEntry (s : State) (ck : Nat) : List Byte :=
  let p := clusterPua 6 ck
  withCheck (leBytes 4 0xFFFFFFFF ++ leBytes 4 p ++ [0xFF, byte (stateOf s p).code, byte (freqCode (clusterFreq s ck)), 0] ++
    fitBytes 32 (Config.controlParameters ck) ++ zeros 16)
/-- The 4 KiB parameter block that the Bridle of a cluster builds at S7 (R373). -/
def parameterBlock (s : State) (ck : Nat) : List Byte :=
  let head := leBytes 4 (clusterPua 7 ck) ++ leBytes 4 ((logicalOf s ck).getD 0xFFFFFFFF) ++
    leBytes 4 (s.images.getD s.imageInUse ⟨0, 0, []⟩).version ++ leBytes 4 (obj s (key 0x2101 0) 0)
  fitBytes 4096 (fitBytes 64 head ++ (List.range 17).flatMap (fun c => parameterEntry s (corePua ck c)) ++ controlEntry s ck)
/-- The streamer word that goes with it: slice id 0x000, format code 0xE (R166, R373). -/
def parameterStreamer (s : State) (ck : Nat) : Word64 := streamerWord (payloadCheck (parameterBlock s ck)) 0 0xE 0 0 0
/-- STAGE_RUN 7 (R203, R370, R372): the image, the test seeds, the clusters that fail to load. -/
def runStage7 (d : Nat) (f : StageFindings) (s : State) : State :=
  let s := if f.detail = 2 && d = s.anchorDie && !s.imageFallback then imageFails s else s
  let s := if !imageValid s then noteDetail d 1 none s else if s.imageFallback then noteDetail d 2 none s else s
  let s := takeFindings d 7 f s
  (List.range 6).foldl (fun s i =>
    let (w, s) := takeWord s
    -- each Field Agent loads the known-answer set (R206, R208)
    modField (d * 6 + i) (fun x => { x with testSeed := w, answers := (die s d).copy.answers }) s) s
/-- The package reaches S8 with its last die (R348, R350, R370). -/
def packageAtS8 (s : State) : State :=
  if (dieIdxs s).any fun d => (die s d).status = 1 && !atS8 (die s d) then s else
  let start := (die s s.anchorDie).leftS0
  let s := if s.packageReset.isSome then s
    else setObjs [(key 0x3408 1, (s.now - start) / 1000000), (key 0x3408 2, pt s)] s
  let s := setObj (key 0x3402 0) 0 s
  editCopies (fun c => { c with objs := tset c.objs (key 0x3402 0) 0 }) { s with trialReached := true }
/-- STAGE_RUN 8 (R232, R234, R237, R347, R360, R363, R438): service seconds, watch releases and quarantine holds start, training
is saved, ports enter operational, clusters without image are rebound. -/
def runStage8 (d : Nat) (s : State) : State :=
  let t := pt s
  let unit := fun (e : Nat × UnitRec) => if puaDie e.1 ≠ d then e else (e.1, { e.2 with
    lastPoints := if e.2.state = .watched then some t else e.2.lastPoints,
    holdFrom := if e.2.state = .quarantined then some t else none })
  let s := modDie d (fun x => { x with service := x.service.start s.now }) { s with units := s.units.map unit }
  -- the screens of the units in Screening begin again
  let s := (s.units.filter fun e => puaDie e.1 = d && e.2.state = .screening && (tget s.screens e.1).isNone).foldl
    (fun s e => openScreen e.1 .screening s) s
  let again := (die s d).retrained
  let s := if trainsCold s then saveTraining d none s else if again.isEmpty then s else saveTraining d (some again) s
  let s := modDie d (fun x => { x with retrained := [] }) s
  let auto := nodeValue s d 0x20F2 0 = 1
  let s := [false, true].foldl (fun s b => modPort (portKey d b) (fun p =>
    if p.nmt = .preOperational && (p.wantOperational || auto)
    then { p with nmt := .operational, wantOperational := false } else p) s) s
  let s := (die s d).noImage.foldl (fun s ck => clusterOut ck [] 0x14 s) s
  packageAtS8 s
/-- At S4 each host-I/O chiplet of a die takes the mask of the lanes that it leaves out of training (R379). -/
def leaveOutLanes (d : Nat) (s : State) : State :=
  ((hostChiplets s.variant).filter fun c => (hostRouter s.variant c).any fun r => puaDie r = d).foldl (fun s c =>
    let mask := obj s (key 0x2041 (c + 1)) 0
    if mask = 0 then s else emit (.laneMask c mask) s) s
/-- The work of a stage from S2 on. -/
def runStage (d n : Nat) (f : StageFindings) (s : State) : State :=
  let s := modDie d (fun x => { x with stageRan := true }) s
  match n with
  | 2 => runStage2 d f s
  | 3 => runStage3 d f s
  | 5 => runStage5 d f s
  | 6 =>
    -- paused quarantine holds go on once the quick screen has ended (R368)
    let free := fun (e : Nat × UnitRec) => if puaDie e.1 = d then (e.1, { e.2 with holdPaused := false }) else e
    let s := takeFindings d 6 f s
    { s with units := s.units.map free }
  -- the fabric crossings are aligned (R64, R65)
  | 4 => takeFindings d n f (leaveOutLanes d (modDie d (fun x => { x with aligned := 2 }) s))
  | 7 => runStage7 d f s
  | 8 => runStage8 d s
  | _ => takeFindings d n f s

/-- STAGE_RUN (R347): a Gondola runs the work of one stage. -/
def execStageRun (dt d n : Nat) (f : StageFindings) (s : State) : Result :=
  let s := elapse dt s
  let x := die s d
  done <| if s.variant.dies ≤ d then s else
  match n with
  | 0 => if x.vaon && x.stage = 0 && !x.stageRan then runStage0 d s else s
  | 1 => if x.status = 1 && x.stage = 0 && x.stageDone && !x.fastReset then runStage1 d f s else s
  | _ =>
    let selected := n ≠ 2 || d = s.anchorDie || (die s s.anchorDie).stageRan || 2 < (die s s.anchorDie).stage
    if x.status = 1 && x.stage = n && !x.stageRan && !x.fastReset && selected then runStage d n f s else s

/-! ### The end of a stage (R351 to R355, R510) -/

/-- The package stops at its stage (R351, R352, R354, R371). -/
def stopPackage (s : State) : State :=
  let stop := fun (x : Die) => if x.status = 1 then { x with status := 3 } else x
  { s with dies := s.dies.map stop }
/-- Whether some Gondola still can be the Anchor after S1 failures (R352, R504). -/
def anchorPossible (s : State) : Bool :=
  ((die s 0).status == 1 && (die s 0).anchorSel) || (s.variant == .dh100 && (die s 1).status == 1)
/-- A die fails a stage (R351 to R354): it is fenced, the Anchor's die after a handover, or the package stops. -/
def failStage (d n : Nat) (s : State) : State :=
  if s.variant = .dh25 then stopPackage (flagDraft d 7 (flagDraft d 6 s))
  else if n = 1 then
    let s := fenceDie d false (flagDraft d 6 s)
    if anchorPossible s then s else stopPackage (flagDraft d 7 s)
  else if d ≠ s.anchorDie then fenceDie d false (flagDraft d 6 s)
  else if d = 0 && s.standby && (die s 1).status = 1 then
    let s := flagDraft d 6 s
    fenceDie d false (takeRole 3 s)
  else stopPackage (flagDraft d 7 (flagDraft d 6 s))
/-- The 24 payload bytes of a report's record (code 0x3401). -/
def reportPayload (n : Nat) (r : StageReport) : List Byte :=
  let b := r.bytes n
  b.take 4 ++ b.drop 12
/-- The event of a report: a failed stage is announced by the Anchor (R355, R386, R448). -/
def reportEvent (s : State) (d n : Nat) (r : StageReport) : Event :=
  let e := recordEvent s 0x3401 (diePua d) 0 (reportPayload n r)
  { e with emcy := if 64 ≤ r.result then some (0xFF62, n, s.anchorDie) else none }
/-- Numbers return at the end of S2 (R92, R94, R510): run start, records lost in the last run, torn records, and the reports
of S0 to S2, the dies ascending within each. -/
def startNumbers (s : State) : State :=
  let version := (s.images.getD s.imageInUse ⟨0, 0, []⟩).version
  let kind := byte s.startKind.code
  let run := recordEvent s 0x3801 packagePua 0 ([kind] ++ leBytes 4 version ++ leBytes 1 s.anchorDie)
  -- the run-start record itself marks a later era (R93)
  let s := eraEvent (giveNumber s.anchorDie run (modDie s.anchorDie (fun x => { x with unacked := x.unacked ++ [run] }) s))
  let s := (dieIdxs s).foldl (fun s d => match (die s d).reel.losing with
    | none => s
    | some l =>
      let full := (die s d).reel.losingFull
      let s := modReel d (fun r => { r with losing := none, losingFull := false }) s
      if full then s else
      numberDirect d (recordEvent s 0x3804 (diePua d) 0 (leBytes 4 l.1 ++ leBytes 8 l.2.1 ++ leBytes 8 l.2.2)) s) s
  let s := (dieIdxs s).foldl (fun s d => match (die s d).reel.torn with
    | none => s
    | some t => numberDirect d (recordEvent s 0x3805 (diePua d) 0 (leBytes 4 t.1 ++ leBytes 1 t.2.1 ++ [if t.2.2 then 1 else 0])) s) s
  let s := (dieIdxs s).foldl (fun s d =>
    -- a Reel whose last record but one stands without the full record (R390)
    let r := (die s d).reel
    if r.next ≠ fullIndex then s else
    let last := storedRecord (if r.active = 0 then r.cs0 else r.cs1) (fullIndex - 1)
    record 0x3807 (diePua d) 0 ((last.drop 16).take 8) s) s
  (dieIdxs s).foldl (fun s d =>
    let es := (die s d).waiting
    es.foldl (fun s e => numberDirect d { e with payload := e.payload.set 2 kind } s)
      (modDie d (fun x => { x with waiting := [] }) s)) s
/-- Start numbering when every die that is not fenced has ended S2 and the checkpoint write has completed (R94). -/
def checkNumbers (s : State) : State :=
  if numbersReturned s && s.seqr.writing.isNone && (dieIdxs s).any (fun d => !(die s d).waiting.isEmpty) &&
    (dieIdxs s).all (fun d => (die s d).status ≠ 3) then startNumbers s else s
/-- A registration waits for the die arbiter (R358). -/
def registrationWaits (s : State) (d : Nat) : Bool :=
  ((List.range 7).flatMap fun i => if i < 6 then (field s (d * 6 + i)).queue else (die s d).local_).any (·.registers.isSome)
/-- Whether a stage may end on a die (R347). S2 and S3 end once no registration waits. -/
def stageEnds (s : State) (d n : Nat) : Bool :=
  let x := die s d
  match n with
  | 0 => x.vfast && !x.fastReset && s.reference && (trayInput s d 2).level
  | 2 => x.dictionary && (s.seqr.writing.isNone || x.draft.detail = 4) && !registrationWaits s d
  | 3 => !latchSet s && ((List.range 6).all fun i => 2 ≤ (field s (d * 6 + i)).power) && !registrationWaits s d
  | _ => true
/-- What is found missing at the end of a stage: Field Agents (R358), Core Ports and control cores that did not answer. -/
def missingAtEnd (d n : Nat) (s : State) : State :=
  if n = 2 then (List.range 6).foldl (fun s i =>
      if (field s (d * 6 + i)).registered then s else markUnit 2 (agentPua (d * 6 + i)) .absent 0x1C s) s
  else if n = 3 then (s.clusters.filter fun e => ckDie e.1 = d && e.2.registered).foldl (fun s e =>
      let s := if e.2.controlCore = 0 then s else markUnit 3 (clusterPua 6 e.1) .absent 0x1C s
      ((List.range 17).filter fun c => !e.2.ports.testBit c).foldl (fun s c => markUnit 3 (corePua e.1 c) .absent 0x1C s) s) s
  else s
/-- What a stage's own end changes (R339, R340, R352, R504). -/
def stageSpecial (d n : Nat) (s : State) : State :=
  match n with
  | 0 =>
    let latched := (die s d).tray.any (·.latched)
    let lost := (die s d).aonLost
    let s := if lost then noteDetail d 1 none (record 0x3808 (diePua d) 0 [] s) else if latched then noteDetail d 2 none s else s
    modDie d (fun x => { x with leftS0 := s.now }) { s with ripcord := State.reset.ripcord }
  | 1 =>
    if d = 1 && s.anchorDie = 1 then noteDetail 1 4 none s
    else if d = 0 && s.variant = .dh25 && !(die s 0).anchorSel then stopPackage (flagDraft 0 7 s)
    else s
  | 2 => if (die s d).draft.detail = 4 then stopPackage (flagDraft d 7 s) else s
  | 7 => if (die s d).draft.detail = 1 && !imageValid s then stopPackage (flagDraft d 7 s) else s
  | _ => s
/-- CD0's Gondola raises the Anchor-ready level once it has completed S1 as Anchor (R352). -/
def raiseReady (d n : Nat) (s : State) : State :=
  if n = 1 && d = 0 && (die s 0).status = 1 && (die s 0).anchorSel && s.anchorDie = 0 then { s with anchorReady := true } else s
/-- A stage ends on a die: its report is complete (R355). -/
def endStage (d n : Nat) (s : State) : State :=
  let s := stageSpecial d n (startBindings d n (missingAtEnd d n s))
  let s := if dieDetail n (die s d).draft.detail && (die s d).status = 1 then failStage d n s else s
  let x := die s d
  let out := s.units.countP fun e => puaDie e.1 = d && (stageKinds n).contains (puaKind e.1) && !usable e.2.state
  let late := if n ≠ 0 && n ≠ 8 && x.stageStart + stageLimit s d < s.now then 16 else 0
  let r := { x.draft with
    result := x.draft.result ||| late, duration := (s.now - x.stageStart) / 1000, expected := stageUnits n,
    usable := stageUnits n - out }
  let e := reportEvent s d n r
  let s := modDie d (fun x => { x with
    reports := tset x.reports n r, stageDone := true, waiting := if n ≤ 2 then x.waiting ++ [e] else x.waiting }) s
  checkNumbers (raiseReady d n (if n ≤ 2 then s else raiseLocal d e s))
/-- STAGE_COMPLETE (R351, R353, R355): a stage ends on a die and its Gondola writes the report. -/
def execStageComplete (dt d n : Nat) (f : StageFindings) (s : State) : Result :=
  let s := elapse dt s
  let x := die s d
  done <| if s.variant.dies ≤ d || x.status ≠ 1 || x.stage ≠ n || !x.stageRan || x.stageDone then s
  else if !stageEnds s d n then (if n = 3 && latchSet s then noteDetail d 1 none s else s)
  else endStage d n (takeFindings d n f s)

/-- STAGE_ADVANCE (R351): every die has reported its stage or been fenced, and the Anchor starts the next one on every die. -/
def execStageAdvance (dt : Nat) (s : State) : Result :=
  let s := elapse dt s
  let live := (dieIdxs s).filter fun d => (die s d).status = 1
  let n := (die s (live.headD 0)).stage
  let anchor := s.ptStarted && (s.anchorReady || s.anchorDie = 1)
  done <| if !anchor || live.isEmpty || n = 0 || 8 ≤ n || live.any (fun d => (die s d).stage ≠ n || !(die s d).stageDone) then s
  else
    -- the package passes S1: a thermal cause no longer holds THERM_ALERT_N (R331)
    let calm := fun (d : Nat) (s : State) => if n = 1
      then modThermal d (fun x => { x with alertHeld := false, alert := decide (0 < x.state) }) s else s
    live.foldl (fun s d => beginStage d (n + 1) (calm d s)) s

/-- ANCHOR_READY_TIMEOUT (R352, R504): the Anchor-ready level has not risen within the S1 limit after CD1 left S0; CD1's Gondola
takes the role and its keeper starts PT. -/
def execAnchorReadyTimeout (dt : Nat) (s : State) : Result :=
  let s := elapse dt s
  let x := die s 1
  done <| if s.variant = .dh25 || s.anchorReady || s.anchorDie = 1 || x.status ≠ 1 || x.stage ≠ 1 ||
      s.now < x.leftS0 + 500000000 then s
  else
    let s := anchorAtStart 2 (startPt 1 s)
    if !x.stageDone then s else
    -- CD1's report of S1 shows that it took the role (R355)
    let took := fun (r : StageReport) => if r.detail = 0 then { r with detail := 4 } else r
    let s := modDie 1 (fun x => { x with reports := tupd x.reports 1 took }) s
    let r := tgetD (die s 1).reports 1 StageReport.empty
    let show4 := fun (e : Event) => if e.payload.head? = some 1 then { e with payload := reportPayload 1 r } else e
    modDie 1 (fun x => { x with waiting := x.waiting.map show4 }) s

/-- STAGE_LIMIT_EXPIRY (R347, R355): a stage reaches its limit; fields whose ramp is incomplete at S3 are left off. -/
def execStageLimitExpiry (dt d n : Nat) (s : State) : Result :=
  let s := elapse dt s
  let x := die s d
  done <| if x.status ≠ 1 || x.stage ≠ n || !x.stageRan || x.stageDone || n = 0 || 8 ≤ n || s.now < x.stageStart + stageLimit s d
  then s
  else
    let s := flagDraft d 4 s
    if n ≠ 3 then s else
    ((List.range 6).map (d * 6 + ·)).foldl (fun s f =>
      if (field s f).power = 1 then noteDetail d 3 (some (agentPua f)) (leaveOff f s) else s) s

/-! ### Discovery (R358, R359) -/

/-- Once every planned Bridle of a field has registered or is Absent, the Gondola raises one discovery event for it. -/
def checkDiscovery (f : Nat) (s : State) : State :=
  let here := s.clusters.countP fun e => ckField e.1 = f && e.2.registered
  let gone := s.units.countP fun e => puaKind e.1 = 7 && puaFieldIdx e.1 = f && e.2.state = .absent
  if here + gone = 832 then raiseLocal (f / 6) (recordEvent s 0 (agentPua f) 0 []) s else s
/-- A registration reaches the Gondola's discovery table (R358): a planned Field Agent or Bridle is registered, with the Core Ports
that answered and the state of its control core. One that the plan does not hold is an anomaly (R359). -/
def landRegistration (p ports controlCore : Nat) (s : State) : State :=
  let ck := puaClusterKey p
  let planned := puaValid s.variant p && stateOf s p != .absent
  if planned && puaKind p = 8 then modField (puaFieldIdx p) (fun y => { y with registered := true }) s
  else if planned && puaKind p = 7 then
    if (cluster s ck).registered then s else
    checkDiscovery (puaFieldIdx p)
      (modCluster ck (fun c => { c with registered := true, ports := ports, controlCore := controlCore }) s)
  else anomaly (puaDie p) p s
/-- A unit registers: its registration waits in its Field Agent's queue and passes the die arbiter (R46, R88, R358). An address that
lies in no field comes in at the Gondola's own input (notes/assumptions/197.md). -/
def enterRegistration (p ports controlCore : Nat) (s : State) : State :=
  let e := { recordEvent s 0 p 0 [] with registers := some (ports, controlCore) }
  if puaField p < 6 then enterField (puaFieldIdx p) e s else raiseLocal (puaDie p) e s
/-- FIELD_AGENT_REGISTRATION (R358): a Field Agent registers at S2. -/
def execFieldAgentRegistration (dt : Nat) (agent : Pua) (s : State) : Result :=
  let s := elapse dt s
  let p := agent.toNat
  let x := die s (puaDie p)
  done <| if s.variant.dies ≤ puaDie p || x.status ≠ 1 || x.stage ≠ 2 || !x.stageRan || x.stageDone then s
  else enterRegistration p 0 0 s
/-- BRIDLE_REGISTRATION (R358, R359): a Bridle registers once its release group has powered on, with the Core Ports that
answered and the state of its control core (0 for one that answered). -/
def execBridleRegistration (dt : Nat) (bridle : Pua) (ports controlCore : Nat) (s : State) : Result :=
  let s := elapse dt s
  let p := bridle.toNat
  let x := die s (puaDie p)
  let released := siteOfCluster (puaCluster p) / 100 < (field s (puaFieldIdx p)).group
  let planned := puaValid s.variant p && puaKind p = 7 && stateOf s p != .absent
  done <| if s.variant.dies ≤ puaDie p || x.stage ≠ 3 || !x.stageRan || x.stageDone || (planned && !released) then s
  else enterRegistration p (ports % 2 ^ 17) controlCore s
/-- BRIDLE_MISSING_DEADLINE (R359): 10 ms after its release group powered on a planned Bridle has not answered: it is Absent and
is replaced from Ballast. -/
def execBridleMissingDeadline (dt : Nat) (bridle : Pua) (s : State) : Result :=
  let s := elapse dt s
  let p := bridle.toNat
  let d := puaDie p
  let f := puaFieldIdx p
  let due := match (field s f).releases[siteOfCluster (puaCluster p) / 100]? with
    | some t => decide (t + 10000000 ≤ s.now)
    | none => false
  done <| if !(puaValid s.variant p && puaKind p = 7) || (die s d).stage ≠ 3 || (die s d).stageDone || !due ||
      (cluster s (puaClusterKey p)).registered || stateOf s p = .absent ||
      ((field s f).queue.any fun e => e.registers.isSome && e.pua = p) then s
  else checkDiscovery f (markUnit 3 p .absent 0x1C s)

/-! ### The arbiter (R88, R358) -/

/-- ARBITER_FORWARD (R88, R94, R258): the arbiter forwards one event, searching upward and cyclically from the input
after the one it last served, to the handling queue and the Anchor. Where it is the cause of a slice's end, the Gondola raises
that, or the Anchor as it numbers the event where the box spans dies (R186). A registration ends at the discovery table (R358). -/
def execArbiterForward (dt d : Nat) (s : State) : Result :=
  let s := elapse dt s
  let last := (die s d).arbiterLast
  -- while the sequencer holds, an event that waits at its input holds up the arbiter (R94)
  done <| if !sequencerFree s && !(die s d).toAnchor.isEmpty then s else match ((List.range 7).map fun i => (last + 1 + i) % 7).find? fun i => (inputHead s d i).isSome with
  | none => s
  | some i => match inputHead s d i with
    | none => s
    | some e =>
      let s := takeInput d i s
      match e.registers with
      | some (ports, control) => landRegistration e.pua ports control (modDie d (fun x => { x with
          arbiterLast := i, counters := tmod x.counters 0x0306 0 (· + 1) }) s)
      | none =>
      let s := modDie d (fun x => { x with
        arbiterLast := i, toAnchor := x.toAnchor ++ [e], unacked := x.unacked ++ [e],
        counters := tmod x.counters 0x0306 0 (· + 1) }) s
      let s := match e.ends with
        | some k => if (slice s k).any fun x => x.extent.2.2 ≤ 1 then raiseEnd d k s else s
        | none => s
      enterHandling d e s

/-! ### The trial image (R370) -/

/-- TRIAL_COMMIT_TIMEOUT (R370): the trial image in use has run 3,600 s at S8. -/
def execTrialCommitTimeout (dt : Nat) (s : State) : Result :=
  let s := elapse dt s
  let inUse := (s.images.getD s.imageInUse ⟨0, 0, []⟩).state = 1
  let at8 := (dieIdxs s).all fun d => (die s d).status ≠ 1 || atS8 (die s d)
  done <| if inUse && at8 && s.ptStarted && decide (obj s (key 0x3408 2) (pt s) + 3600000000000 ≤ pt s) then commitImage s else s

end Sys2Proof.Machine
end

