-- ==== Sys2Proof/Machine/SelfTest.lean ====
section
/-!
DEFINITION. The shutdown self-test (R363, R374 to R380): test slices 0 bridge links, 1 to 7 the seams, 8 DRAM PHY pins,
9 package pins.
-/
namespace Sys2Proof.Machine
open Sys2Proof

/-- The budget of a test slice in ns (0x3501). -/
def testBudget (s : State) : Nat := obj s (key 0x3501 0) 150 * 1000000
/-- The test slice after `i`: the DRAM PHY class is skipped when the target is retention (R377). -/
def nextTestSlice (s : State) (i : Nat) : Option Nat :=
  if 9 ≤ i then none else if i = 7 && s.ripcord.target = 2 then some 9 else some (i + 1)
/-- The class of a test slice: 0 bridge, 1 seam, 2 DRAM PHY, 3 package pins (R376, 0x3505). -/
def testClass (i : Nat) : Nat := if i = 0 then 0 else if i ≤ 7 then 1 else if i = 8 then 2 else 3
/-- Whether a unit in Screening has the lane tests of a test slice as its screen (R238). -/
def testedIn (d i p : Nat) : Bool :=
  decide (puaDie p = d) &&
    ((i = 0 && puaKind p = 3) ||
      (1 ≤ i && i ≤ 7 && puaKind p = 2 && seamNumber (puaField p) (puaSub p / 128) = i - 1))
/-- The 16 bytes of a result entry (R379): PUA, class, test, lane or pin, run number. -/
def resultEntry (p cls test lane run : Nat) : List Byte :=
  fitBytes 16 (leBytes 4 p ++ [byte cls, byte test] ++ leBytes 2 lane ++ leBytes 4 run)
/-- A unit fails a test (R379): one in Screening is Retired, any other enters the table, which holds 1,024 entries; a failure
that finds it full makes the next start cold (R380). -/
def testFails (d i p test lane : Nat) (s : State) : State :=
  if stateOf s p = .screening then changeState p .retired 0x1A s
  else if 1024 ≤ (die s d).testResults.length then modDie d (fun x => { x with testFull := true }) s
  else
    let e := resultEntry p (testClass i) test lane (obj s (key 0x2101 0) 0)
    modDie d (fun x => { x with testResults := x.testResults ++ [e] }) s
/-- With the last slice of every die the record is written and the target reached (R294, R375, R376). -/
def finishTests (s : State) : State :=
  let live := (dieIdxs s).filter fun d => (die s d).status = 1
  if !testing s || live.any (fun d => (die s d).testSlice.isSome || (die s d).testDone.isEmpty) then s else
  let whole := !live.any fun d => (die s d).testExpired
  let longest := (live.map fun d => (die s d).testTime).foldl max 0
  let full := live.any fun d => (die s d).testFull
  let unmark := fun (x : Die) => if full then { x with endMark := 0 } else x
  let s := setObjs [(key 0x3504 2, longest), (key 0x3504 3, obj s (key 0x2101 0) 0)] { s with dies := s.dies.map unmark }
  if s.dies.any (·.suspended) then reachTarget (setObj (key 0x3504 1) 3 s) else
  let s := selfTestRecord (if whole then 1 else 0) longest s
  let s := setObj (key 0x3504 1) (if whole then 2 else 3) s
  let s := if whole then addObj (key 0x3503 0) 1 s else s
  let keep := fun (e : Nat × Nat) => storeKept e.1
  reachTarget (editCopies (fun c => { c with objs := s.objs.filter keep }) s)
/-- A test slice ends or stops on a die, and the next one starts (R375). -/
def nextSlice (d i : Nat) (expired : Bool) (s : State) : State :=
  let next := nextTestSlice s i
  let now := s.now
  finishTests (modDie d (fun x => { x with
    testSlice := next.map fun j => (j, now), testDone := x.testDone ++ [i], testExpired := x.testExpired || expired,
    testTime := (now - x.testStart) / 1000000 }) s)

/-- SELF_TEST_START (R363, R374, R375): after the capture and the teardown of every slice a die saves its training and starts
its test slices. Where no self-test is due its record has been written as skipped. -/
def execSelfTestStart (dt d : Nat) (s : State) : Result :=
  let s := elapse dt s
  let x := die s d
  done <| if !shutdownReady s || !selfTestDue s || s.variant.dies ≤ d || x.status ≠ 1 || x.testSlice.isSome ||
      (testing s && !x.testDone.isEmpty) then s
  else
    -- the bridge slices of every die start at one change count, which the Anchor schedules with the first of them
    -- (notes/assumptions/200.md)
    let count := s.now + (changeCountAfter (pt s) - pt s)
    let plan := fun (x : Die) => { x with testStart := count }
    let s := if testing s then s else
      setObjs [(key 0x3504 1, 1), (key 0x3506 4, 0)] { s with dies := s.dies.map plan }
    let now := max s.now (die s d).testStart
    -- the test slices carry slice id 0xFFF with a generation that the RM gives (R10, R170, R375)
    let (g, s) := takeNat s
    modDie d (fun x => { x with
      testGeneration := g % 256, testSlice := some (0, now), testDone := [], testExpired := false, testFull := false, testStart := now, testTime := 0 })
      (saveTraining d none s)

/-- TEST_SLICE_END (R26, R238, R375, R376, R379): a slice ends within its budget: failures are entered, units in Screening that
passed become Spare-Ready, package-pin failures count at 0x3506:04, and failing host lanes are kept for the next S4. -/
def execTestSliceEnd (dt d i : Nat) (failures : List (Pua × Nat × Nat)) (pinFailures : Nat) (lanes : List (Nat × Nat))
    (s : State) : Result :=
  let s := elapse dt s
  done <| match (die s d).testSlice with
  | none => s
  | some t =>
    if t.1 ≠ i || s.now < t.2 || t.2 + testBudget s < s.now then s else
    let bad := failures.map (·.1.toNat)
    let screened := ((s.units.filter fun e => e.2.state = .screening && testedIn d i e.1).map (·.1)).filter
      fun p => !bad.contains p
    let s := failures.foldl (fun s e => testFails d i e.1.toNat e.2.1 e.2.2 s) s
    let s := screened.foldl (fun s p => endScreen p true s) s
    let s := if i = 9 then
        lanes.foldl (fun s e => setObj (key 0x2041 (e.1 + 1)) (obj s (key 0x2041 (e.1 + 1)) 0 ||| e.2) s)
          (addObj (key 0x3506 4) pinFailures s)
      else s
    nextSlice d i false s

/-- TEST_SLICE_BUDGET_EXPIRY (R375): a slice reaches its budget and stops; the units that it has not reached keep their
rotation credit, and the record is not complete. -/
def execTestSliceBudgetExpiry (dt d i : Nat) (s : State) : Result :=
  let s := elapse dt s
  done <| match (die s d).testSlice with
  | none => s
  | some t => if t.1 ≠ i || s.now < t.2 + testBudget s then s else nextSlice d i true s

end Sys2Proof.Machine
end

