-- ==== Sys2Proof/Machine/Snapshots.lean ====
section
/-!
DEFINITION. Snapshots of counters (R411) and the test access port (R503).
-/
namespace Sys2Proof.Machine
open Sys2Proof

/-! ### Snapshots -/

/-- The path of a key. -/
def pathOfKey (k : Nat) : Path := if k < 8 then .port (k / 2) (k % 2 = 1) else .mailbox (k - 8)
/-- Every counter id (R406). -/
def counterIds : List Nat :=
  (List.range 9).map (· + 1) ++ (List.range 8).map (0x0101 + ·) ++ (List.range 3).map (0x0201 + ·) ++
    (List.range 8).map (0x0301 + ·)
/-- What a snapshot latches for a path: its scope's value of every counter that its requester may read, with the selectors
and cursor of the request (R409, R411). -/
def latchPath (s : State) (k : Nat) : Tab Nat :=
  let p := pathOfKey k
  let a := (path s p).asked
  let observer := a.2.2.2
  let s := modPath p (fun x => { x with objs := a.1, cursorLcn := a.2.1, cursorPua := a.2.2.1 }) s
  counterIds.filterMap fun id =>
    if observer && (counterPrivate id || 2 ≤ sel s p 0x3A02 1) then none
    else (counterValue s p id observer).map fun v => (id, v)
/-- What the latch of a path reads of the counters that no command advances. -/
def latchKeys (s : State) (k : Nat) : List Nat :=
  let p := pathOfKey k
  let a := (path s p).asked
  let s := modPath p (fun x => { x with objs := a.1, cursorLcn := a.2.1, cursorPua := a.2.2.1 }) s
  (counterIds.filter counterFree).map fun id => freeCountKey s p id a.2.2.2
/-- The slice whose view a path's snapshot holds (R409): that of an Observer, or of scope 0; 0 for another scope. -/
def latchSlice (s : State) (k : Nat) : Nat :=
  let p := pathOfKey k
  let a := (path s p).asked
  let s := modPath p (fun x => { x with objs := a.1 }) s
  if a.2.2.2 then boundSlice s p else if sel s p 0x3A02 1 = 0 then selectedSlice s p else 0
/-- SNAPSHOT_LATCH (R411): at C + 32 every counter of the scopes latches its value. -/
def execSnapshotLatch (dt : Nat) (s : State) : Result :=
  let s := elapse dt s
  done <| match s.snapshot with
  | none => s
  | some n =>
    if n.latched || pt s < n.count + 32 then s else
    let ks := n.paths.flatMap (latchKeys s)
    let s := n.paths.foldl (fun s k =>
      let t := latchPath s k
      modPath (pathOfKey k) (fun x => { x with
        gathered := t, snapshot := x.snapshot.map fun y => (2, y.2.1, y.2.2.1, y.2.2.2) }) s) s
    let s := noteCounts ks s
    { s with snapshot := some { n with latched := true } }
/-- SNAPSHOT_GATHER_COMPLETE (R411): the results of every requesting path are in place; what arrived meanwhile takes the
first change count after the gathering. It waits for a recovering Gondola (R427). -/
def execSnapshotGatherComplete (dt : Nat) (s : State) : Result :=
  let s := elapse dt s
  done <| match s.snapshot with
  | none => s
  | some n =>
    if !n.latched || s.dies.any (·.recovering.isSome) then s else
    let number := s.snapshots + 1
    let s := n.paths.foldl (fun s k => modPath (pathOfKey k) (fun x => { x with
      latched := x.gathered, latchedSlice := latchSlice s k, gathered := [], snapshot := some (3, number, n.count, n.count + 32) }) s)
      { s with snapshot := none, snapshots := number }
    let waiting := (s.paths.filter fun e => e.2.waitingSnapshot).map (·.1)
    if waiting.isEmpty then s else
    let c := changeCountAfter (pt s)
    let next := fun (e : Nat × PathState) => if e.2.waitingSnapshot then
      (e.1, { e.2 with waitingSnapshot := false,
                       snapshot := some (1, (e.2.snapshot.map (·.2.1)).getD 0, c, (e.2.snapshot.map (·.2.2.2)).getD 0) })
      else e
    { s with snapshot := some ⟨c, waiting, false⟩, paths := s.paths.map next }

/-! ### The test access port (R377, R503): 0x00 BYPASS, 1 IDCODE, 2 SAMPLE/PRELOAD, 3 EXTEST, 4 AC EXTEST, 5 INTEST, 6 and up
private -/

/-- The shutdown self-test runs. -/
def testRuns (s : State) (d : Nat) : Bool := selfTesting s d || obj s (key 0x3504 1) 0 = 1
/-- The instructions of the return state act: the return state is 1 and some path holds a Maker session (R503). -/
def tapOpen (s : State) : Bool :=
  s.dies.any (·.reel.returned) && s.paths.any fun e => e.2.session = .maker && decide (s.now < e.2.lease)
/-- Shift an instruction in: what is not available is decoded as BYPASS. -/
def tapLoad (d n : Nat) (ok : Bool) (s : State) : State := modDie d (fun x => { x with tap := if ok then n else 0 }) s
/-- The IDCODE of R503. -/
def idcode (v : Variant) : BitVec 32 :=
  let part : BitVec 16 := match v with
    | .dh100 => 0xD100
    | .dh25 => 0xD025
  (Config.idcodeRevision ++ part ++ Config.manufacturerCode ++ (1 : BitVec 1)).setWidth 32
/-- TAP_BYPASS (R503): always available. -/
def execTapBypass (dt d : Nat) (s : State) : Result := done (tapLoad d 0 true (elapse dt s))
/-- TAP_IDCODE (R503): the port shifts its IDCODE out. -/
def execTapIdcode (dt d : Nat) (s : State) : Result :=
  let s := elapse dt s
  let ok := !testRuns s d
  let s := tapLoad d 1 ok s
  done (if ok && d < s.variant.dies then emit (.idcode d (idcode s.variant)) s else s)
/-- TAP_SAMPLE_PRELOAD (R503). -/
def execTapSamplePreload (dt d : Nat) (s : State) : Result :=
  let s := elapse dt s
  done (tapLoad d 2 (!testRuns s d) s)
/-- TAP_EXTEST (R503): acts in the return state under a Maker session. -/
def execTapExtest (dt d : Nat) (s : State) : Result :=
  let s := elapse dt s
  done (tapLoad d 3 (tapOpen s && !testRuns s d) s)
/-- TAP_AC_EXTEST (R503): the IEEE 1149.6 instructions, likewise. -/
def execTapAcExtest (dt d : Nat) (s : State) : Result :=
  let s := elapse dt s
  done (tapLoad d 4 (tapOpen s && !testRuns s d) s)
/-- TAP_INTEST (R503), likewise. -/
def execTapIntest (dt d : Nat) (s : State) : Result :=
  let s := elapse dt s
  done (tapLoad d 5 (tapOpen s && !testRuns s d) s)
/-- TAP_PRIVATE (R503), likewise; a private test mode that acts may leave blocks behind (R192). -/
def execTapPrivate (dt d code : Nat) (s : State) : Result :=
  let s := elapse dt s
  let ok := tapOpen s && !testRuns s d
  let s := tapLoad d (6 + code) ok s
  done (if ok then { s with privateMode := true } else s)

end Sys2Proof.Machine
end

