-- ==== Sys2Proof/Machine/Dispatch.lean ====
section
/-!
DEFINITION. The meaning of every command: one arm per constructor of Instr.
-/
namespace Sys2Proof.Machine

def exec (i : Instr) (s : State) : Host.Outcome State Fault Refusal :=
  match i with
  | .objectWrite dt path index sub data => Sys2Proof.Machine.execObjectWrite dt path index sub data s
  | .sdoInitiate dt path download index sub size expedited => Sys2Proof.Machine.execSdoInitiate dt path download index sub size expedited s
  | .sdoSegment dt path data last => Sys2Proof.Machine.execSdoSegment dt path data last s
  | .sdoTimeout dt path => Sys2Proof.Machine.execSdoTimeout dt path s
  | .mailboxRead dt mailbox req => Sys2Proof.Machine.execMailboxRead dt mailbox req s
  | .mailboxWrite dt mailbox req => Sys2Proof.Machine.execMailboxWrite dt mailbox req s
  | .mailboxBulkRead dt mailbox req => Sys2Proof.Machine.execMailboxBulkRead dt mailbox req s
  | .mailboxBulkWrite dt mailbox req host => Sys2Proof.Machine.execMailboxBulkWrite dt mailbox req host s
  | .unitCursorByLcn dt path lcn => Sys2Proof.Machine.execUnitCursorByLcn dt path lcn s
  | .unitCursorByPua dt path pua => Sys2Proof.Machine.execUnitCursorByPua dt path pua s
  | .sliceCreate dt req => Sys2Proof.Machine.execSliceCreate dt req s
  | .sliceTeardown dt slice => Sys2Proof.Machine.execSliceTeardown dt slice s
  | .generationLoadAck dt slice table => Sys2Proof.Machine.execGenerationLoadAck dt slice table s
  | .quiesceMarkSend dt slice point injected ejected => Sys2Proof.Machine.execQuiesceMarkSend dt slice point injected ejected s
  | .quiesceMarkArrival dt slice point => Sys2Proof.Machine.execQuiesceMarkArrival dt slice point s
  | .quiesceTimeout dt slice => Sys2Proof.Machine.execQuiesceTimeout dt slice s
  | .zeroFillComplete dt slice stack => Sys2Proof.Machine.execZeroFillComplete dt slice stack s
  | .eventReport dt reporter event => Sys2Proof.Machine.execEventReport dt reporter event s
  | .arbiterForward dt die => Sys2Proof.Machine.execArbiterForward dt die s
  | .eventSequence dt => Sys2Proof.Machine.execEventSequence dt s
  | .checkpointWriteComplete dt => Sys2Proof.Machine.execCheckpointWriteComplete dt s
  | .sequenceReturn dt die => Sys2Proof.Machine.execSequenceReturn dt die s
  | .eventHandling dt die => Sys2Proof.Machine.execEventHandling dt die s
  | .shadowLoadAck dt commit bridle => Sys2Proof.Machine.execShadowLoadAck dt commit bridle s
  | .commitAckDeadline dt commit => Sys2Proof.Machine.execCommitAckDeadline dt commit s
  | .commitLand dt commit => Sys2Proof.Machine.execCommitLand dt commit s
  | .storeRecordWrite dt die => Sys2Proof.Machine.execStoreRecordWrite dt die s
  | .lockstepFaultNotice dt => Sys2Proof.Machine.execLockstepFaultNotice dt s
  | .lockstepDisagreement dt die => Sys2Proof.Machine.execLockstepDisagreement dt die s
  | .gondolaWatchdogTimeout dt die => Sys2Proof.Machine.execGondolaWatchdogTimeout dt die s
  | .crossingSlip dt tether unit separation => Sys2Proof.Machine.execCrossingSlip dt tether unit separation s
  | .correctionSend dt => Sys2Proof.Machine.execCorrectionSend dt s
  | .correctionArrival dt keeper flit => Sys2Proof.Machine.execCorrectionArrival dt keeper flit s
  | .correctionMissed dt keeper => Sys2Proof.Machine.execCorrectionMissed dt keeper s
  | .referenceLoss dt => Sys2Proof.Machine.execReferenceLoss dt s
  | .referenceRestored dt => Sys2Proof.Machine.execReferenceRestored dt s
  | .ripcordArrival dt die byWire => Sys2Proof.Machine.execRipcordArrival dt die byWire s
  | .frequencyChangeRequest dt slice mask code => Sys2Proof.Machine.execFrequencyChangeRequest dt slice mask code s
  | .changeAcknowledge dt change field => Sys2Proof.Machine.execChangeAcknowledge dt change field s
  | .changeAckDeadline dt change => Sys2Proof.Machine.execChangeAckDeadline dt change s
  | .changeHoldSample dt change => Sys2Proof.Machine.execChangeHoldSample dt change s
  | .changeCountSwitch dt change => Sys2Proof.Machine.execChangeCountSwitch dt change s
  | .changeVerdict dt change field => Sys2Proof.Machine.execChangeVerdict dt change field s
  | .modeFloorWrite dt path value => Sys2Proof.Machine.execModeFloorWrite dt path value s
  | .roleDefaultModeWrite dt path sub value => Sys2Proof.Machine.execRoleDefaultModeWrite dt path sub value s
  | .modeOverrideWrite dt path value => Sys2Proof.Machine.execModeOverrideWrite dt path value s
  | .modeSwitch dt slice cluster => Sys2Proof.Machine.execModeSwitch dt slice cluster s
  | .clearModelFlag dt path value => Sys2Proof.Machine.execClearModelFlag dt path value s
  | .modelBucketRoll dt => Sys2Proof.Machine.execModelBucketRoll dt s
  | .ineligibleQuietTimeout dt slice => Sys2Proof.Machine.execIneligibleQuietTimeout dt slice s
  | .tileIssue dt lcn tile => Sys2Proof.Machine.execTileIssue dt lcn tile s
  | .contractionTileEnd dt lcn taps result => Sys2Proof.Machine.execContractionTileEnd dt lcn taps result s
  | .recomputeAttemptEnd dt lcn fetched taps result => Sys2Proof.Machine.execRecomputeAttemptEnd dt lcn fetched taps result s
  | .sampleStreamTileEnd dt lcn result => Sys2Proof.Machine.execSampleStreamTileEnd dt lcn result s
  | .pinnedBlockFetch dt core block => Sys2Proof.Machine.execPinnedBlockFetch dt core block s
  | .replayComplete dt lcn fetched result => Sys2Proof.Machine.execReplayComplete dt lcn fetched result s
  | .tieBreakComplete dt lcn result current => Sys2Proof.Machine.execTieBreakComplete dt lcn result current s
  | .replayGroupEnd dt lcn group => Sys2Proof.Machine.execReplayGroupEnd dt lcn group s
  | .fullPairTileEnd dt lcn leader follower => Sys2Proof.Machine.execFullPairTileEnd dt lcn leader follower s
  | .thirdExecutionComplete dt lcn result current => Sys2Proof.Machine.execThirdExecutionComplete dt lcn result current s
  | .epochStart dt slice => Sys2Proof.Machine.execEpochStart dt slice s
  | .seedDelivery dt slice => Sys2Proof.Machine.execSeedDelivery dt slice s
  | .seedModeWrite dt path value => Sys2Proof.Machine.execSeedModeWrite dt path value s
  | .blockArrival dt transfer word payload => Sys2Proof.Machine.execBlockArrival dt transfer word payload s
  | .blockArrivalTimeout dt transfer addr => Sys2Proof.Machine.execBlockArrivalTimeout dt transfer addr s
  | .repairWaitExpiry dt transfer => Sys2Proof.Machine.execRepairWaitExpiry dt transfer s
  | .outboundBlockSend dt core block payload => Sys2Proof.Machine.execOutboundBlockSend dt core block payload s
  | .sramParityError dt core block => Sys2Proof.Machine.execSramParityError dt core block s
  | .dramRead dt addr first second uncorrectable corrected => Sys2Proof.Machine.execDramRead dt addr first second uncorrectable corrected s
  | .dramWrite dt addr transfer word payload => Sys2Proof.Machine.execDramWrite dt addr transfer word payload s
  | .seamBlockCheck dt point transfer word payload => Sys2Proof.Machine.execSeamBlockCheck dt point transfer word payload s
  | .hostPartialWrite dt addr slice offset bytes => Sys2Proof.Machine.execHostPartialWrite dt addr slice offset bytes s
  | .hostIngress dt addr slice format payload => Sys2Proof.Machine.execHostIngress dt addr slice format payload s
  | .lostStackRequest dt addr write slice generation => Sys2Proof.Machine.execLostStackRequest dt addr write slice generation s
  | .streamerCheckingWrite dt path value => Sys2Proof.Machine.execStreamerCheckingWrite dt path value s
  | .idleNoticeOneShot dt path notice => Sys2Proof.Machine.execIdleNoticeOneShot dt path notice s
  | .idleNoticePeriodic dt path notice => Sys2Proof.Machine.execIdleNoticePeriodic dt path notice s
  | .idleNoticeRevoke dt path slice id => Sys2Proof.Machine.execIdleNoticeRevoke dt path slice id s
  | .idleNoticeRevokeAll dt path slice => Sys2Proof.Machine.execIdleNoticeRevokeAll dt path slice s
  | .idleSlotStart dt slice id => Sys2Proof.Machine.execIdleSlotStart dt slice id s
  | .idleSlotEnd dt slice id => Sys2Proof.Machine.execIdleSlotEnd dt slice id s
  | .testTileStart dt test => Sys2Proof.Machine.execTestTileStart dt test s
  | .testTileEnd dt core expected signature clean injected => Sys2Proof.Machine.execTestTileEnd dt core expected signature clean injected s
  | .testThirdRunEnd dt core signature => Sys2Proof.Machine.execTestThirdRunEnd dt core signature s
  | .forcedCheckerSlot dt bridle => Sys2Proof.Machine.execForcedCheckerSlot dt bridle s
  | .testOverdue dt core => Sys2Proof.Machine.execTestOverdue dt core s
  | .fmaxChangeRequest dt die => Sys2Proof.Machine.execFmaxChangeRequest dt die s
  | .fmaxRecordWrite dt path data => Sys2Proof.Machine.execFmaxRecordWrite dt path data s
  | .shortBucketRoll dt => Sys2Proof.Machine.execShortBucketRoll dt s
  | .serviceDayRoll dt die => Sys2Proof.Machine.execServiceDayRoll dt die s
  | .serviceSecondsSave dt die => Sys2Proof.Machine.execServiceSecondsSave dt die s
  | .watchRelease dt unit => Sys2Proof.Machine.execWatchRelease dt unit s
  | .quarantineHoldEnd dt unit => Sys2Proof.Machine.execQuarantineHoldEnd dt unit s
  | .screenComplete dt unit pass => Sys2Proof.Machine.execScreenComplete dt unit pass s
  | .pseudoChannelCopyEnd dt unit => Sys2Proof.Machine.execPseudoChannelCopyEnd dt unit s
  | .forcedRetire dt path => Sys2Proof.Machine.execForcedRetire dt path s
  | .forcedReadmit dt path => Sys2Proof.Machine.execForcedReadmit dt path s
  | .forcedReadmitClear dt path => Sys2Proof.Machine.execForcedReadmitClear dt path s
  | .unitExchange dt path spare => Sys2Proof.Machine.execUnitExchange dt path spare s
  | .withholdRepeat dt core => Sys2Proof.Machine.execWithholdRepeat dt core s
  | .routerProbeTimeout dt router => Sys2Proof.Machine.execRouterProbeTimeout dt router s
  | .commandAccept dt cluster command => Sys2Proof.Machine.execCommandAccept dt cluster command s
  | .commandComplete dt cluster id => Sys2Proof.Machine.execCommandComplete dt cluster id s
  | .progressWindowExpiry dt cluster => Sys2Proof.Machine.execProgressWindowExpiry dt cluster s
  | .commandTimeout dt cluster id core => Sys2Proof.Machine.execCommandTimeout dt cluster id core s
  | .hangReportRepeat dt cluster => Sys2Proof.Machine.execHangReportRepeat dt cluster s
  | .hangHandling dt die => Sys2Proof.Machine.execHangHandling dt die s
  | .captureComplete dt die => Sys2Proof.Machine.execCaptureComplete dt die s
  | .resetComplete dt domain code => Sys2Proof.Machine.execResetComplete dt domain code s
  | .resetTimeout dt domain code => Sys2Proof.Machine.execResetTimeout dt domain code s
  | .transitDrainEnd dt die => Sys2Proof.Machine.execTransitDrainEnd dt die s
  | .resetRequest dt path value => Sys2Proof.Machine.execResetRequest dt path value s
  | .bridleProbe dt bridle => Sys2Proof.Machine.execBridleProbe dt bridle s
  | .bridleProbeTimeout dt bridle => Sys2Proof.Machine.execBridleProbeTimeout dt bridle s
  | .fieldAgentHeartbeatTimeout dt agent => Sys2Proof.Machine.execFieldAgentHeartbeatTimeout dt agent s
  | .orderlyRipcordRequest dt path value => Sys2Proof.Machine.execOrderlyRipcordRequest dt path value s
  | .stopCountCut dt landed => Sys2Proof.Machine.execStopCountCut dt landed s
  | .requestedFrequencyWrite dt path value => Sys2Proof.Machine.execRequestedFrequencyWrite dt path value s
  | .operatorStepCapWrite dt path value => Sys2Proof.Machine.execOperatorStepCapWrite dt path value s
  | .regulatorSettled dt field => Sys2Proof.Machine.execRegulatorSettled dt field s
  | .settleTimeout dt field => Sys2Proof.Machine.execSettleTimeout dt field s
  | .powerSumTick dt => Sys2Proof.Machine.execPowerSumTick dt s
  | .droopTrip dt field => Sys2Proof.Machine.execDroopTrip dt field s
  | .stretchEnd dt field => Sys2Proof.Machine.execStretchEnd dt field s
  | .stretchDutyWindow dt field => Sys2Proof.Machine.execStretchDutyWindow dt field s
  | .droopCodeRelease dt field => Sys2Proof.Machine.execDroopCodeRelease dt field s
  | .loadNotice dt mailbox notice => Sys2Proof.Machine.execLoadNotice dt mailbox notice s
  | .lnLoadNotice dt die frame => Sys2Proof.Machine.execLnLoadNotice dt die frame s
  | .lnReservoirArm dt die frame => Sys2Proof.Machine.execLnReservoirArm dt die frame s
  | .lnReservoirDisarm dt die frame => Sys2Proof.Machine.execLnReservoirDisarm dt die frame s
  | .loadStep dt field rise within => Sys2Proof.Machine.execLoadStep dt field rise within s
  | .reservoirDischarge dt field below => Sys2Proof.Machine.execReservoirDischarge dt field below s
  | .reservoirRechargeEnd dt field => Sys2Proof.Machine.execReservoirRechargeEnd dt field s
  | .reservoirArmingWrite dt path value => Sys2Proof.Machine.execReservoirArmingWrite dt path value s
  | .phaseFailure dt field phase => Sys2Proof.Machine.execPhaseFailure dt field phase s
  | .lnAlert dt die vin => Sys2Proof.Machine.execLnAlert dt die vin s
  | .undervoltageTimeout dt field => Sys2Proof.Machine.execUndervoltageTimeout dt field s
  | .releaseGroup dt field headroom => Sys2Proof.Machine.execReleaseGroup dt field headroom s
  | .rampHeadroomTimeout dt field => Sys2Proof.Machine.execRampHeadroomTimeout dt field s
  | .idleHoldExpiry dt field => Sys2Proof.Machine.execIdleHoldExpiry dt field s
  | .diodeReading dt die raw flagged => Sys2Proof.Machine.execDiodeReading dt die raw flagged s
  | .sensorFaultTimeout dt die => Sys2Proof.Machine.execSensorFaultTimeout dt die s
  | .thermalCapRise dt die => Sys2Proof.Machine.execThermalCapRise dt die s
  | .trayInputChange dt die input level => Sys2Proof.Machine.execTrayInputChange dt die input level s
  | .trayInputAccept dt die input => Sys2Proof.Machine.execTrayInputAccept dt die input s
  | .chatterEnd dt die input => Sys2Proof.Machine.execChatterEnd dt die input s
  | .trayLatchClear dt path sub value => Sys2Proof.Machine.execTrayLatchClear dt path sub value s
  | .inputMismatchTimeout dt die input => Sys2Proof.Machine.execInputMismatchTimeout dt die input s
  | .vinPoll dt die millivolt => Sys2Proof.Machine.execVinPoll dt die millivolt s
  | .supplyStateRelease dt die => Sys2Proof.Machine.execSupplyStateRelease dt die s
  | .writeSuspendRelease dt die => Sys2Proof.Machine.execWriteSuspendRelease dt die s
  | .aonSupplyFall dt die => Sys2Proof.Machine.execAonSupplyFall dt die s
  | .vfastFall dt die => Sys2Proof.Machine.execVfastFall dt die s
  | .fastDomainResetRelease dt die => Sys2Proof.Machine.execFastDomainResetRelease dt die s
  | .energyIntegration dt die fields dram work total moved => Sys2Proof.Machine.execEnergyIntegration dt die fields dram work total moved s
  | .stageRun dt die stage findings => Sys2Proof.Machine.execStageRun dt die stage findings s
  | .stageComplete dt die stage findings => Sys2Proof.Machine.execStageComplete dt die stage findings s
  | .stageAdvance dt => Sys2Proof.Machine.execStageAdvance dt s
  | .anchorReadyTimeout dt => Sys2Proof.Machine.execAnchorReadyTimeout dt s
  | .fieldAgentRegistration dt agent => Sys2Proof.Machine.execFieldAgentRegistration dt agent s
  | .bridleRegistration dt bridle ports controlCore => Sys2Proof.Machine.execBridleRegistration dt bridle ports controlCore s
  | .bridleMissingDeadline dt bridle => Sys2Proof.Machine.execBridleMissingDeadline dt bridle s
  | .imageWrite dt path version image => Sys2Proof.Machine.execImageWrite dt path version image s
  | .commitTrialImage dt path value => Sys2Proof.Machine.execCommitTrialImage dt path value s
  | .trialCommitTimeout dt => Sys2Proof.Machine.execTrialCommitTimeout dt s
  | .selfTestStart dt die => Sys2Proof.Machine.execSelfTestStart dt die s
  | .testSliceEnd dt die slice failures pinFailures lanes => Sys2Proof.Machine.execTestSliceEnd dt die slice failures pinFailures lanes s
  | .testSliceBudgetExpiry dt die slice => Sys2Proof.Machine.execTestSliceBudgetExpiry dt die slice s
  | .reelRecordWrite dt die => Sys2Proof.Machine.execReelRecordWrite dt die s
  | .reelEraseComplete dt die => Sys2Proof.Machine.execReelEraseComplete dt die s
  | .storeOperationFailure dt die chipSelect address => Sys2Proof.Machine.execStoreOperationFailure dt die chipSelect address s
  | .storeSilentTimeout dt die chipSelect => Sys2Proof.Machine.execStoreSilentTimeout dt die chipSelect s
  | .reelClear dt path value => Sys2Proof.Machine.execReelClear dt path value s
  | .nextReadableRecord dt path => Sys2Proof.Machine.execNextReadableRecord dt path s
  | .returnStateSet dt path => Sys2Proof.Machine.execReturnStateSet dt path s
  | .returnStateClear dt path => Sys2Proof.Machine.execReturnStateClear dt path s
  | .counterRead dt path => Sys2Proof.Machine.execCounterRead dt path s
  | .snapshotRequest dt path value => Sys2Proof.Machine.execSnapshotRequest dt path value s
  | .snapshotLatch dt => Sys2Proof.Machine.execSnapshotLatch dt s
  | .snapshotGatherComplete dt => Sys2Proof.Machine.execSnapshotGatherComplete dt s
  | .traceArmByLcn dt path lcn => Sys2Proof.Machine.execTraceArmByLcn dt path lcn s
  | .traceArmByPua dt path pua => Sys2Proof.Machine.execTraceArmByPua dt path pua s
  | .slotStart dt path => Sys2Proof.Machine.execSlotStart dt path s
  | .slotStop dt path => Sys2Proof.Machine.execSlotStop dt path s
  | .slotFree dt path => Sys2Proof.Machine.execSlotFree dt path s
  | .slotSwitch dt die slot => Sys2Proof.Machine.execSlotSwitch dt die slot s
  | .tracePacket dt die slot packet => Sys2Proof.Machine.execTracePacket dt die slot packet s
  | .traceFlushTimeout dt die slot => Sys2Proof.Machine.execTraceFlushTimeout dt die slot s
  | .chunkDrain dt die slot => Sys2Proof.Machine.execChunkDrain dt die slot s
  | .chunkIdleTimeout dt die slot => Sys2Proof.Machine.execChunkIdleTimeout dt die slot s
  | .nextReadableChunk dt path => Sys2Proof.Machine.execNextReadableChunk dt path s
  | .nmtStart dt die b node => Sys2Proof.Machine.execNmtStart dt die b node s
  | .nmtStop dt die b node => Sys2Proof.Machine.execNmtStop dt die b node s
  | .nmtEnterPreOperational dt die b node => Sys2Proof.Machine.execNmtEnterPreOperational dt die b node s
  | .nmtResetApplication dt die b node => Sys2Proof.Machine.execNmtResetApplication dt die b node s
  | .nmtResetCommunication dt die b node => Sys2Proof.Machine.execNmtResetCommunication dt die b node s
  | .heartbeatSend dt die b => Sys2Proof.Machine.execHeartbeatSend dt die b s
  | .tpdoSend dt die b pdo => Sys2Proof.Machine.execTpdoSend dt die b pdo s
  | .emcyInhibitEnd dt die b => Sys2Proof.Machine.execEmcyInhibitEnd dt die b s
  | .errorFieldClear dt path value => Sys2Proof.Machine.execErrorFieldClear dt path value s
  | .canBusError dt die b busOff => Sys2Proof.Machine.execCanBusError dt die b busOff s
  | .busOffRecovery dt die b occurrences => Sys2Proof.Machine.execBusOffRecovery dt die b occurrences s
  | .mailboxBind dt path slice => Sys2Proof.Machine.execMailboxBind dt path slice s
  | .mailboxUnbind dt path => Sys2Proof.Machine.execMailboxUnbind dt path s
  | .nonceRead dt path => Sys2Proof.Machine.execNonceRead dt path s
  | .responseWrite dt path data => Sys2Proof.Machine.execResponseWrite dt path data s
  | .endSession dt path value => Sys2Proof.Machine.execEndSession dt path value s
  | .leaseExpiry dt path => Sys2Proof.Machine.execLeaseExpiry dt path s
  | .nonceExpiry dt path => Sys2Proof.Machine.execNonceExpiry dt path s
  | .grantExpiry dt path => Sys2Proof.Machine.execGrantExpiry dt path s
  | .backoffEnd dt path => Sys2Proof.Machine.execBackoffEnd dt path s
  | .keyWrite dt path sub key => Sys2Proof.Machine.execKeyWrite dt path sub key s
  | .rawStoreWrite dt path data => Sys2Proof.Machine.execRawStoreWrite dt path data s
  | .tapBypass dt die => Sys2Proof.Machine.execTapBypass dt die s
  | .tapIdcode dt die => Sys2Proof.Machine.execTapIdcode dt die s
  | .tapSamplePreload dt die => Sys2Proof.Machine.execTapSamplePreload dt die s
  | .tapExtest dt die => Sys2Proof.Machine.execTapExtest dt die s
  | .tapAcExtest dt die => Sys2Proof.Machine.execTapAcExtest dt die s
  | .tapIntest dt die => Sys2Proof.Machine.execTapIntest dt die s
  | .tapPrivate dt die code => Sys2Proof.Machine.execTapPrivate dt die code s
  | .ineligibleComputeTileEnd dt lcn => Sys2Proof.Machine.execIneligibleComputeTileEnd dt lcn s
  | .syncObjectSignal dt cluster object => Sys2Proof.Machine.execSyncObjectSignal dt cluster object s
  | .stageLimitExpiry dt die stage => Sys2Proof.Machine.execStageLimitExpiry dt die stage s
  | .alwaysOnSupplyRise dt die => Sys2Proof.Machine.execAlwaysOnSupplyRise dt die s
  | .errorActiveReturn dt die b => Sys2Proof.Machine.execErrorActiveReturn dt die b s

end Sys2Proof.Machine
end

