-- ==== Sys2Proof/Safety.lean ====
section
/-!
DEFINITION. What counts as a safe state and step of the block, and the readings in which the statements about
the commands are made.
-/
namespace Sys2Proof.Machine
open Sys2Proof

/-- A step is safe: it answers a next state. -/
def Safe (o : Result) : Prop := ∃ t, o = .next t

/-- Whether the Reel of a die is on chip select 0 (true) or 1 (false). -/
def activeDevice (s : State) (d : Nat) : Bool := (die s d).reel.active == 0
/-- The 64 bytes of an index of a die's Reel on chip select 0 (true) or 1 (false). -/
def reelBytes (s : State) (d : Nat) (first : Bool) (i : Nat) : List Byte :=
  storedRecord (if first then (die s d).reel.cs0 else (die s d).reel.cs1) i
/-- The Gondola of die `d` has entered `e` at its own arbiter input, and nothing that waited there is lost (R88, R89). -/
def Raised (s t : State) (d : Nat) (e : Event) : Prop :=
  e ∈ (die t d).local_ ∧ (∀ x ∈ (die s d).local_, x ∈ (die t d).local_) ∧
  (die t d).local_.length = (die s d).local_.length + 1
/-- The Reel of die `d` has moved from chip select 0 to 1 with the relocated record `e` on its way (R394). -/
def ReelMoved (s t : State) (d : Nat) (e : Event) (cause : Nat) : Prop :=
  (die t d).reel.active = 1 ∧ (die t d).reel.next = 0 ∧ (die t d).reel.unusable = [0] ∧
  (die t d).reel.cs0 = (die s d).reel.cs0 ∧ (die t d).reel.cs1 = (die s d).reel.cs1 ∧
  Raised s t d e ∧ e.code = 0x3806 ∧
  e.payload = leBytes 4 ((die s d).reel.next - 1) ++ leBytes 1 cause ∧ (∀ x, x ≠ d → die t x = die s x)

/-- A report of `cause` and record code `code` against a unit of a cluster, stamped now, waits at its Bridle or its Field
Agent (R46, R228). -/
def Charged (s : State) (p cause code : Nat) : Prop :=
  ∃ e : Event, e.kind = .charge ∧ e.cause = cause ∧ e.code = code ∧ e.pua = p ∧ e.pt = keeperRead s (stampKeeper p) ∧
    (e ∈ (cluster s (puaClusterKey p)).queue ∨ e ∈ (field s (puaFieldIdx p)).queue)
/-- A unit that a Bridle of a field reports for: a core with a cluster of the field. -/
def aCore (s : State) (p : Nat) : Bool :=
  puaKind p == 0 && decide (puaField p < 6) && decide (puaFieldIdx p < s.fields.length) && decide (puaCluster p < 832)
/-- Every local output block of a tile, of the core's 12, lies in its SRAM, released or not (R101, R168). -/
def OutputsHeld (s : State) (p : Nat) (tile : Tile) (released : Bool) : Prop :=
  ∀ o ∈ tile.outputs, ∀ n, o.localBlock = some n → n < 12 →
    ∃ b, tget (core s p).sram n = some b ∧ b.released = released
/-- Every local output block of a tile, of the core's 12, is poisoned in its SRAM (R156, R168). -/
def OutputsPoisoned (s : State) (p : Nat) (tile : Tile) : Prop :=
  ∀ o ∈ tile.outputs, ∀ n, o.localBlock = some n → n < 12 →
    ∃ b, tget (core s p).sram n = some b ∧ wordPoison b.word = true

/-- A write that a path takes now (R53, R94, R467): the path is served, no refusal applies, and where the write is
package-scoped the sequencer issues numbers. -/
def accepted (s : State) (p : Path) (index sub : Nat) (data : List Byte) : Bool :=
  pathServed s p && (judgeWrite s p index sub data).isNone &&
    (objRow index sub).any fun r => !packageWrite r sub (leNat data) || sequencerFree s
/-- A read of `n` bytes that a path takes now (R467). -/
def readable (s : State) (p : Path) (index sub n : Nat) : Bool :=
  pathServed s p && (judgeRead s p index sub n).isNone && (objRow index sub).isSome
/-- The path has been answered with success, a numbered write with its position (R53, R440). -/
def Answered (s : State) (p : Path) (index sub : Nat) (numbered : Bool) : Prop :=
  ∃ r, (path s p).response = some r ∧ r.index = index ∧ r.sub = sub ∧ r.status = 0 ∧
    (if numbered then s.seqr.next = r.position + 1 else r.position = 0)

/-- The package is whole: every die and field of its variant, and every die's store in its canonical form. -/
abbrev WellKept (s : State) : Prop :=
  s.variant.dies ≤ s.dies.length ∧ 6 * s.variant.dies ≤ s.fields.length ∧ ∀ x ∈ s.dies, Memory.wf x.store = true

end Sys2Proof.Machine
end

