-- ==== Sys2Proof/WellFormed.lean ====
section
/-!
DEFINITION. Which commands are well formed: every operand within the range that the manual gives it. The block
takes any command; an operand outside its range names nothing, and the command's own rule says what follows.
-/
namespace Sys2Proof

/-- A port of one of four nodes or one of 1,024 mailboxes (R430, R450). -/
def pathOk : Path → Bool
  | .port d _ => decide (d < 4)
  | .mailbox n => decide (n < 1024)
/-- The kind of an address, bits [11:8] (R5). -/
def kindOf (u : Pua) : Nat := u.toNat / 2 ^ 8 % 16
/-- A physical core (R5, R6). -/
def coreOk (u : Pua) : Bool :=
  kindOf u = 0 && decide (u.toNat / 2 ^ 27 % 8 < 6) && decide (u.toNat / 2 ^ 17 % 1024 < 832) && decide (u.toNat / 2 ^ 12 % 32 < 17)
/-- A unit of a cluster (kinds 1, 6 and 7) or a Field Agent (kind 8) (R6). -/
def unitOk (kind : Nat) (u : Pua) : Bool :=
  decide (kindOf u = kind) && decide (u.toNat / 2 ^ 27 % 8 < 6) && decide (u.toNat / 2 ^ 12 % 32 = 31) &&
    (if kind = 8 then decide (u.toNat / 2 ^ 17 % 1024 = 0x3FF) else decide (u.toNat / 2 ^ 17 % 1024 < 832))
/-- The fields of a request fit its 64 bytes (R451). -/
def reqOk (r : MailReq) : Bool :=
  decide (r.op < 256) && decide (r.index < 65536) && decide (r.sub < 256) && decide (r.length < 2 ^ 32) &&
    decide (r.tag < 2 ^ 32) && decide (r.hostAddr < 2 ^ 64) && decide (r.data.length ≤ 32)
/-- A slice id of the job runtime, a role and a box of the torus (R10, R33). -/
def sliceRequestOk (r : SliceRequest) : Bool :=
  decide (1 ≤ r.id) && decide (r.id ≤ 0xFFE) && decide (r.role < 5) &&
    decide (r.origin.1 < 80) && decide (r.origin.2.1 < 60) && decide (r.origin.2.2 < 4) &&
    decide (1 ≤ r.extent.1) && decide (r.extent.1 ≤ 80) && decide (1 ≤ r.extent.2.1) && decide (r.extent.2.1 ≤ 60) &&
    decide (1 ≤ r.extent.2.2) && decide (r.extent.2.2 ≤ 4)
/-- A cause of R228, a record code and at most 27 bytes of payload (R384). -/
def reportOk (e : EventReport) : Bool :=
  decide (e.cause ≤ 0x22) && decide (e.code < 65536) && decide (e.slice < 4096) && decide (e.payload.length ≤ 27)
/-- Blocks of a tile lie in the 12 blocks of local SRAM, with format codes of R166 (R168). -/
def tileOk (t : Tile) : Bool :=
  (t.inputs.all fun b => b.localBlock.all fun n => decide (n < 12)) &&
    t.outputs.all fun b => decide (b.format < 16) && b.localBlock.all fun n => decide (n < 12)
/-- A contraction tile in the ranges of R127, with as many tapped elements as its shape asks for (R128, R130). -/
def tapsOk (t : Taps) : Bool :=
  decide (1 ≤ t.fmtA) && decide (t.fmtA ≤ 6) && decide (1 ≤ t.fmtB) && decide (t.fmtB ≤ 6) &&
    decide (1 ≤ t.m) && decide (t.m ≤ 128) && decide (1 ≤ t.n) && decide (t.n ≤ 128) &&
    decide (16 ≤ t.k) && decide (t.k ≤ 4096) && decide (t.k % 16 = 0) &&
    decide (t.a.length = (if t.codes.isSome then t.m * t.k / 2 else t.m * t.k)) && decide (t.b.length = t.k * t.n) &&
    decide (t.drain.length = t.m * t.n) && t.c0.all fun l => decide (l.length = t.m * t.n)
/-- Slice ids of 12 bits and a request epoch of 2 (R162, R282). -/
def transferOk (t : Transfer) : Bool :=
  decide (t.sourceSlice < 4096) && decide (t.destSlice < 4096) && decide (t.epoch < 4)
/-- One of 16 stacks of four dies and one of its 31 slots (R30, R31). -/
def dramOk (a : DramAddr) : Bool := decide (a.stack < 64) && decide (a.slot < 32)
/-- The fields of an idle notice (R197). -/
def noticeOk (n : IdleNotice) : Bool :=
  decide (1 ≤ n.slice) && decide (n.slice ≤ 0xFFE) && decide (n.flags < 4) && decide (n.id < 2 ^ 32) &&
    decide (50000 ≤ n.length) && decide (n.length ≤ 1000000000) &&
    (n.period = 0 || (decide (1000000 ≤ n.period) && decide (n.period ≤ 1000000000))) &&
    decide (n.firstLcn < 307200) && decide (n.count ≤ 307200)
/-- The fields of a load notice (R315). -/
def loadNoticeOk (n : LoadNotice) : Bool :=
  decide (1 ≤ n.slice) && decide (n.slice ≤ 0xFFE) && decide (n.mask < 64) && decide (n.direction < 2) &&
    decide (25 ≤ n.amount) && decide (n.amount ≤ 1575) && decide (n.amount % 25 = 0) &&
    decide (100 ≤ n.lead) && decide (n.lead ≤ 102300) && decide (n.lead % 100 = 0)
/-- A test of one of five kinds on a core, a Bridle or a control core (R202, R210, R213). -/
def testOk (t : TestTile) : Bool :=
  decide (t.kind ≤ 4) && (coreOk t.core || unitOk 6 t.core || unitOk 7 t.core) && t.partner.all coreOk
/-- A packet type of 4 bits (R417). -/
def packetOk (p : Packet) : Bool := decide (p.type < 16)

/-- A command is well formed when its operands are in range. -/
def wellFormed : Instr → Bool
  | .objectWrite _ path_ index sub _ => pathOk path_ && decide (index < 65536) && decide (sub < 256)
  | .sdoInitiate _ path_ _ index sub _ _ => pathOk path_ && decide (index < 65536) && decide (sub < 256)
  | .sdoSegment _ path_ _ _ => pathOk path_
  | .sdoTimeout _ path_ => pathOk path_
  | .mailboxRead _ mailbox req => decide (mailbox < 1024) && reqOk req
  | .mailboxWrite _ mailbox req => decide (mailbox < 1024) && reqOk req
  | .mailboxBulkRead _ mailbox req => decide (mailbox < 1024) && reqOk req
  | .mailboxBulkWrite _ mailbox req _ => decide (mailbox < 1024) && reqOk req
  | .unitCursorByLcn _ path_ lcn => pathOk path_ && decide (lcn < 307200)
  | .unitCursorByPua _ path_ _ => pathOk path_
  | .sliceCreate _ req => sliceRequestOk req
  | .sliceTeardown _ slice => decide (slice < 4096)
  | .generationLoadAck _ slice _ => decide (slice < 4096)
  | .quiesceMarkSend _ slice _ _ _ => decide (slice < 4096)
  | .quiesceMarkArrival _ slice _ => decide (slice < 4096)
  | .quiesceTimeout _ slice => decide (slice < 4096)
  | .zeroFillComplete _ slice stack => decide (slice < 4096) && decide (stack < 64)
  | .eventReport _ _ event => reportOk event
  | .arbiterForward _ die => decide (die < 4)
  | .eventSequence _ => true
  | .checkpointWriteComplete _ => true
  | .sequenceReturn _ die => decide (die < 4)
  | .eventHandling _ die => decide (die < 4)
  | .shadowLoadAck _ _ bridle => unitOk 7 bridle
  | .commitAckDeadline _ _ => true
  | .commitLand _ _ => true
  | .storeRecordWrite _ die => decide (die < 4)
  | .lockstepFaultNotice _ => true
  | .lockstepDisagreement _ die => decide (die < 4)
  | .gondolaWatchdogTimeout _ die => decide (die < 4)
  | .crossingSlip _ _ _ _ => true
  | .correctionSend _ => true
  | .correctionArrival _ keeper _ => decide (keeper < 28)
  | .correctionMissed _ keeper => decide (keeper < 28)
  | .referenceLoss _ => true
  | .referenceRestored _ => true
  | .ripcordArrival _ die _ => decide (die < 4)
  | .frequencyChangeRequest _ slice _ code => decide (slice < 4096) && decide (code < 256)
  | .changeAcknowledge _ _ field_ => decide (field_ < 24)
  | .changeAckDeadline _ _ => true
  | .changeHoldSample _ _ => true
  | .changeCountSwitch _ _ => true
  | .changeVerdict _ _ field_ => decide (field_ < 24)
  | .modeFloorWrite _ path_ value => pathOk path_ && decide (value.length ≤ 8)
  | .roleDefaultModeWrite _ path_ sub value => pathOk path_ && decide (sub < 256) && decide (value.length ≤ 8)
  | .modeOverrideWrite _ path_ value => pathOk path_ && decide (value.length ≤ 8)
  | .modeSwitch _ slice cluster => decide (slice < 4096) && decide (cluster < 19968)
  | .clearModelFlag _ path_ value => pathOk path_ && decide (value.length ≤ 8)
  | .modelBucketRoll _ => true
  | .ineligibleQuietTimeout _ slice => decide (slice < 4096)
  | .tileIssue _ lcn tile => decide (lcn < 307200) && tileOk tile
  | .contractionTileEnd _ lcn taps _ => decide (lcn < 307200) && tapsOk taps
  | .recomputeAttemptEnd _ lcn _ taps _ => decide (lcn < 307200) && tapsOk taps
  | .sampleStreamTileEnd _ lcn _ => decide (lcn < 307200)
  | .pinnedBlockFetch _ core block => coreOk core && decide (block < 12)
  | .replayComplete _ lcn _ _ => decide (lcn < 307200)
  | .tieBreakComplete _ lcn _ _ => decide (lcn < 307200)
  | .replayGroupEnd _ lcn _ => decide (lcn < 307200)
  | .fullPairTileEnd _ lcn _ _ => decide (lcn < 307200)
  | .thirdExecutionComplete _ lcn _ _ => decide (lcn < 307200)
  | .epochStart _ slice => decide (slice < 4096)
  | .seedDelivery _ slice => decide (slice < 4096)
  | .seedModeWrite _ path_ value => pathOk path_ && decide (value.length ≤ 8)
  | .blockArrival _ transfer _ payload => transferOk transfer && decide (payload.length = 4096)
  | .blockArrivalTimeout _ transfer addr => transferOk transfer && addr.all dramOk
  | .repairWaitExpiry _ _ => true
  | .outboundBlockSend _ core block payload => coreOk core && decide (block < 12) && decide (payload.length = 4096)
  | .sramParityError _ core block => coreOk core && decide (block < 12)
  | .dramRead _ addr first second _ _ => dramOk addr && decide (first.length = 4096) && decide (second.length = 4096)
  | .dramWrite _ addr transfer _ payload => dramOk addr && transferOk transfer && decide (payload.length = 4096)
  | .seamBlockCheck _ _ _ _ payload => decide (payload.length = 4096)
  | .hostPartialWrite _ addr slice offset _ => dramOk addr && decide (slice < 4096) && decide (offset < 4096)
  | .hostIngress _ addr slice format payload => dramOk addr && decide (slice < 4096) && decide (format < 16) && decide (payload.length = 4096)
  | .lostStackRequest _ addr _ slice generation => dramOk addr && decide (slice < 4096) && decide (generation < 256)
  | .streamerCheckingWrite _ path_ value => pathOk path_ && decide (value.length ≤ 8)
  | .idleNoticeOneShot _ path_ notice => pathOk path_ && noticeOk notice
  | .idleNoticePeriodic _ path_ notice => pathOk path_ && noticeOk notice
  | .idleNoticeRevoke _ path_ slice _ => pathOk path_ && decide (slice < 4096)
  | .idleNoticeRevokeAll _ path_ slice => pathOk path_ && decide (slice < 4096)
  | .idleSlotStart _ slice _ => decide (slice < 4096)
  | .idleSlotEnd _ slice _ => decide (slice < 4096)
  | .testTileStart _ test => testOk test
  | .testTileEnd _ core _ _ _ _ => coreOk core
  | .testThirdRunEnd _ core _ => coreOk core
  | .forcedCheckerSlot _ bridle => unitOk 7 bridle
  | .testOverdue _ core => coreOk core
  | .fmaxChangeRequest _ die => decide (die < 4)
  | .fmaxRecordWrite _ path_ _ => pathOk path_
  | .shortBucketRoll _ => true
  | .serviceDayRoll _ die => decide (die < 4)
  | .serviceSecondsSave _ die => decide (die < 4)
  | .watchRelease _ _ => true
  | .quarantineHoldEnd _ _ => true
  | .screenComplete _ _ _ => true
  | .pseudoChannelCopyEnd _ _ => true
  | .forcedRetire _ path_ => pathOk path_
  | .forcedReadmit _ path_ => pathOk path_
  | .forcedReadmitClear _ path_ => pathOk path_
  | .unitExchange _ path_ _ => pathOk path_
  | .withholdRepeat _ core => coreOk core
  | .routerProbeTimeout _ router => unitOk 1 router
  | .commandAccept _ cluster _ => (unitOk 6 cluster || unitOk 7 cluster)
  | .commandComplete _ cluster _ => (unitOk 6 cluster || unitOk 7 cluster)
  | .progressWindowExpiry _ cluster => (unitOk 6 cluster || unitOk 7 cluster)
  | .commandTimeout _ cluster _ core => (unitOk 6 cluster || unitOk 7 cluster) && (core.all fun k => decide (k < 17))
  | .hangReportRepeat _ cluster => (unitOk 6 cluster || unitOk 7 cluster)
  | .hangHandling _ die => decide (die < 4)
  | .captureComplete _ die => decide (die < 4)
  | .resetComplete _ _ code => decide (code ≤ 7)
  | .resetTimeout _ _ code => decide (code ≤ 7)
  | .transitDrainEnd _ die => decide (die < 4)
  | .resetRequest _ path_ value => pathOk path_ && decide (value.length ≤ 8)
  | .bridleProbe _ bridle => unitOk 7 bridle
  | .bridleProbeTimeout _ bridle => unitOk 7 bridle
  | .fieldAgentHeartbeatTimeout _ agent => unitOk 8 agent
  | .orderlyRipcordRequest _ path_ value => pathOk path_ && decide (value.length ≤ 8)
  | .stopCountCut _ _ => true
  | .requestedFrequencyWrite _ path_ value => pathOk path_ && decide (value.length ≤ 8)
  | .operatorStepCapWrite _ path_ value => pathOk path_ && decide (value.length ≤ 8)
  | .regulatorSettled _ field_ => decide (field_ < 24)
  | .settleTimeout _ field_ => decide (field_ < 24)
  | .powerSumTick _ => true
  | .droopTrip _ field_ => decide (field_ < 24)
  | .stretchEnd _ field_ => decide (field_ < 24)
  | .stretchDutyWindow _ field_ => decide (field_ < 24)
  | .droopCodeRelease _ field_ => decide (field_ < 24)
  | .loadNotice _ mailbox notice => decide (mailbox < 1024) && loadNoticeOk notice
  | .lnLoadNotice _ die _ => decide (die < 4)
  | .lnReservoirArm _ die _ => decide (die < 4)
  | .lnReservoirDisarm _ die _ => decide (die < 4)
  | .loadStep _ field_ _ _ => decide (field_ < 24)
  | .reservoirDischarge _ field_ _ => decide (field_ < 24)
  | .reservoirRechargeEnd _ field_ => decide (field_ < 24)
  | .reservoirArmingWrite _ path_ value => pathOk path_ && decide (value.length ≤ 8)
  | .phaseFailure _ field_ phase => decide (field_ < 24) && decide (phase < 24)
  | .lnAlert _ die _ => decide (die < 4)
  | .undervoltageTimeout _ field_ => decide (field_ < 24)
  | .releaseGroup _ field_ _ => decide (field_ < 24)
  | .rampHeadroomTimeout _ field_ => decide (field_ < 24)
  | .idleHoldExpiry _ field_ => decide (field_ < 24)
  | .diodeReading _ die _ _ => decide (die < 4)
  | .sensorFaultTimeout _ die => decide (die < 4)
  | .thermalCapRise _ die => decide (die < 4)
  | .trayInputChange _ die input _ => decide (die < 4) && decide (input < 3)
  | .trayInputAccept _ die input => decide (die < 4) && decide (input < 3)
  | .chatterEnd _ die input => decide (die < 4) && decide (input < 3)
  | .trayLatchClear _ path_ sub value => pathOk path_ && decide (sub < 256) && decide (value.length ≤ 8)
  | .inputMismatchTimeout _ die input => decide (die < 4) && decide (input < 3)
  | .vinPoll _ die _ => decide (die < 4)
  | .supplyStateRelease _ die => decide (die < 4)
  | .writeSuspendRelease _ die => decide (die < 4)
  | .aonSupplyFall _ die => decide (die < 4)
  | .vfastFall _ die => decide (die < 4)
  | .fastDomainResetRelease _ die => decide (die < 4)
  | .energyIntegration _ die _ _ _ _ _ => decide (die < 4)
  | .stageRun _ die stage findings => decide (die < 4) && decide (stage ≤ 8) && decide (findings.detail < 256)
  | .stageComplete _ die stage findings => decide (die < 4) && decide (stage ≤ 8) && decide (findings.detail < 256)
  | .stageAdvance _ => true
  | .anchorReadyTimeout _ => true
  | .fieldAgentRegistration _ agent => unitOk 8 agent
  | .bridleRegistration _ bridle ports controlCore => unitOk 7 bridle && decide (ports < 2 ^ 17) && decide (controlCore < 2 ^ 8)
  | .bridleMissingDeadline _ bridle => unitOk 7 bridle
  | .imageWrite _ path_ _ _ => pathOk path_
  | .commitTrialImage _ path_ value => pathOk path_ && decide (value.length ≤ 8)
  | .trialCommitTimeout _ => true
  | .selfTestStart _ die => decide (die < 4)
  | .testSliceEnd _ die slice _ _ _ => decide (die < 4) && decide (slice ≤ 9)
  | .testSliceBudgetExpiry _ die slice => decide (die < 4) && decide (slice ≤ 9)
  | .reelRecordWrite _ die => decide (die < 4)
  | .reelEraseComplete _ die => decide (die < 4)
  | .storeOperationFailure _ die chipSelect _ => decide (die < 4) && decide (chipSelect < 2)
  | .storeSilentTimeout _ die chipSelect => decide (die < 4) && decide (chipSelect < 2)
  | .reelClear _ path_ value => pathOk path_ && decide (value.length ≤ 8)
  | .nextReadableRecord _ path_ => pathOk path_
  | .returnStateSet _ path_ => pathOk path_
  | .returnStateClear _ path_ => pathOk path_
  | .counterRead _ path_ => pathOk path_
  | .snapshotRequest _ path_ value => pathOk path_ && decide (value.length ≤ 8)
  | .snapshotLatch _ => true
  | .snapshotGatherComplete _ => true
  | .traceArmByLcn _ path_ lcn => pathOk path_ && decide (lcn < 307200)
  | .traceArmByPua _ path_ _ => pathOk path_
  | .slotStart _ path_ => pathOk path_
  | .slotStop _ path_ => pathOk path_
  | .slotFree _ path_ => pathOk path_
  | .slotSwitch _ die slot => decide (die < 4) && decide (slot < 256)
  | .tracePacket _ die slot packet => decide (die < 4) && decide (slot < 256) && packetOk packet
  | .traceFlushTimeout _ die slot => decide (die < 4) && decide (slot < 256)
  | .chunkDrain _ die slot => decide (die < 4) && decide (slot < 256)
  | .chunkIdleTimeout _ die slot => decide (die < 4) && decide (slot < 256)
  | .nextReadableChunk _ path_ => pathOk path_
  | .nmtStart _ die _ node => decide (die < 4) && decide (node < 128)
  | .nmtStop _ die _ node => decide (die < 4) && decide (node < 128)
  | .nmtEnterPreOperational _ die _ node => decide (die < 4) && decide (node < 128)
  | .nmtResetApplication _ die _ node => decide (die < 4) && decide (node < 128)
  | .nmtResetCommunication _ die _ node => decide (die < 4) && decide (node < 128)
  | .heartbeatSend _ die _ => decide (die < 4)
  | .tpdoSend _ die _ pdo => decide (die < 4) && decide (pdo < 4)
  | .emcyInhibitEnd _ die _ => decide (die < 4)
  | .errorFieldClear _ path_ value => pathOk path_ && decide (value.length ≤ 8)
  | .canBusError _ die _ _ => decide (die < 4)
  | .busOffRecovery _ die _ _ => decide (die < 4)
  | .mailboxBind _ path_ slice => pathOk path_ && decide (slice < 4096)
  | .mailboxUnbind _ path_ => pathOk path_
  | .nonceRead _ path_ => pathOk path_
  | .responseWrite _ path_ _ => pathOk path_
  | .endSession _ path_ value => pathOk path_ && decide (value.length ≤ 8)
  | .leaseExpiry _ path_ => pathOk path_
  | .nonceExpiry _ path_ => pathOk path_
  | .grantExpiry _ path_ => pathOk path_
  | .backoffEnd _ path_ => pathOk path_
  | .keyWrite _ path_ sub _ => pathOk path_ && decide (sub < 256)
  | .rawStoreWrite _ path_ _ => pathOk path_
  | .tapBypass _ die => decide (die < 4)
  | .tapIdcode _ die => decide (die < 4)
  | .tapSamplePreload _ die => decide (die < 4)
  | .tapExtest _ die => decide (die < 4)
  | .tapAcExtest _ die => decide (die < 4)
  | .tapIntest _ die => decide (die < 4)
  | .tapPrivate _ die code => decide (die < 4) && decide (code < 256)
  | .ineligibleComputeTileEnd _ lcn => decide (lcn < 307200)
  | .syncObjectSignal _ cluster _ => (unitOk 6 cluster || unitOk 7 cluster)
  | .stageLimitExpiry _ die stage => decide (die < 4) && decide (stage ≤ 8)
  | .alwaysOnSupplyRise _ die => decide (die < 4)
  | .errorActiveReturn _ die _ => decide (die < 4)

/-- The package time that passes before a command (notes/assumptions/1.md). -/
def Instr.dt : Instr → Nat
  | .objectWrite dt _ _ _ _ => dt
  | .sdoInitiate dt _ _ _ _ _ _ => dt
  | .sdoSegment dt _ _ _ => dt
  | .sdoTimeout dt _ => dt
  | .mailboxRead dt _ _ => dt
  | .mailboxWrite dt _ _ => dt
  | .mailboxBulkRead dt _ _ => dt
  | .mailboxBulkWrite dt _ _ _ => dt
  | .unitCursorByLcn dt _ _ => dt
  | .unitCursorByPua dt _ _ => dt
  | .sliceCreate dt _ => dt
  | .sliceTeardown dt _ => dt
  | .generationLoadAck dt _ _ => dt
  | .quiesceMarkSend dt _ _ _ _ => dt
  | .quiesceMarkArrival dt _ _ => dt
  | .quiesceTimeout dt _ => dt
  | .zeroFillComplete dt _ _ => dt
  | .eventReport dt _ _ => dt
  | .arbiterForward dt _ => dt
  | .eventSequence dt => dt
  | .checkpointWriteComplete dt => dt
  | .sequenceReturn dt _ => dt
  | .eventHandling dt _ => dt
  | .shadowLoadAck dt _ _ => dt
  | .commitAckDeadline dt _ => dt
  | .commitLand dt _ => dt
  | .storeRecordWrite dt _ => dt
  | .lockstepFaultNotice dt => dt
  | .lockstepDisagreement dt _ => dt
  | .gondolaWatchdogTimeout dt _ => dt
  | .crossingSlip dt _ _ _ => dt
  | .correctionSend dt => dt
  | .correctionArrival dt _ _ => dt
  | .correctionMissed dt _ => dt
  | .referenceLoss dt => dt
  | .referenceRestored dt => dt
  | .ripcordArrival dt _ _ => dt
  | .frequencyChangeRequest dt _ _ _ => dt
  | .changeAcknowledge dt _ _ => dt
  | .changeAckDeadline dt _ => dt
  | .changeHoldSample dt _ => dt
  | .changeCountSwitch dt _ => dt
  | .changeVerdict dt _ _ => dt
  | .modeFloorWrite dt _ _ => dt
  | .roleDefaultModeWrite dt _ _ _ => dt
  | .modeOverrideWrite dt _ _ => dt
  | .modeSwitch dt _ _ => dt
  | .clearModelFlag dt _ _ => dt
  | .modelBucketRoll dt => dt
  | .ineligibleQuietTimeout dt _ => dt
  | .tileIssue dt _ _ => dt
  | .contractionTileEnd dt _ _ _ => dt
  | .recomputeAttemptEnd dt _ _ _ _ => dt
  | .sampleStreamTileEnd dt _ _ => dt
  | .pinnedBlockFetch dt _ _ => dt
  | .replayComplete dt _ _ _ => dt
  | .tieBreakComplete dt _ _ _ => dt
  | .replayGroupEnd dt _ _ => dt
  | .fullPairTileEnd dt _ _ _ => dt
  | .thirdExecutionComplete dt _ _ _ => dt
  | .epochStart dt _ => dt
  | .seedDelivery dt _ => dt
  | .seedModeWrite dt _ _ => dt
  | .blockArrival dt _ _ _ => dt
  | .blockArrivalTimeout dt _ _ => dt
  | .repairWaitExpiry dt _ => dt
  | .outboundBlockSend dt _ _ _ => dt
  | .sramParityError dt _ _ => dt
  | .dramRead dt _ _ _ _ _ => dt
  | .dramWrite dt _ _ _ _ => dt
  | .seamBlockCheck dt _ _ _ _ => dt
  | .hostPartialWrite dt _ _ _ _ => dt
  | .hostIngress dt _ _ _ _ => dt
  | .lostStackRequest dt _ _ _ _ => dt
  | .streamerCheckingWrite dt _ _ => dt
  | .idleNoticeOneShot dt _ _ => dt
  | .idleNoticePeriodic dt _ _ => dt
  | .idleNoticeRevoke dt _ _ _ => dt
  | .idleNoticeRevokeAll dt _ _ => dt
  | .idleSlotStart dt _ _ => dt
  | .idleSlotEnd dt _ _ => dt
  | .testTileStart dt _ => dt
  | .testTileEnd dt _ _ _ _ _ => dt
  | .testThirdRunEnd dt _ _ => dt
  | .forcedCheckerSlot dt _ => dt
  | .testOverdue dt _ => dt
  | .fmaxChangeRequest dt _ => dt
  | .fmaxRecordWrite dt _ _ => dt
  | .shortBucketRoll dt => dt
  | .serviceDayRoll dt _ => dt
  | .serviceSecondsSave dt _ => dt
  | .watchRelease dt _ => dt
  | .quarantineHoldEnd dt _ => dt
  | .screenComplete dt _ _ => dt
  | .pseudoChannelCopyEnd dt _ => dt
  | .forcedRetire dt _ => dt
  | .forcedReadmit dt _ => dt
  | .forcedReadmitClear dt _ => dt
  | .unitExchange dt _ _ => dt
  | .withholdRepeat dt _ => dt
  | .routerProbeTimeout dt _ => dt
  | .commandAccept dt _ _ => dt
  | .commandComplete dt _ _ => dt
  | .progressWindowExpiry dt _ => dt
  | .commandTimeout dt _ _ _ => dt
  | .hangReportRepeat dt _ => dt
  | .hangHandling dt _ => dt
  | .captureComplete dt _ => dt
  | .resetComplete dt _ _ => dt
  | .resetTimeout dt _ _ => dt
  | .transitDrainEnd dt _ => dt
  | .resetRequest dt _ _ => dt
  | .bridleProbe dt _ => dt
  | .bridleProbeTimeout dt _ => dt
  | .fieldAgentHeartbeatTimeout dt _ => dt
  | .orderlyRipcordRequest dt _ _ => dt
  | .stopCountCut dt _ => dt
  | .requestedFrequencyWrite dt _ _ => dt
  | .operatorStepCapWrite dt _ _ => dt
  | .regulatorSettled dt _ => dt
  | .settleTimeout dt _ => dt
  | .powerSumTick dt => dt
  | .droopTrip dt _ => dt
  | .stretchEnd dt _ => dt
  | .stretchDutyWindow dt _ => dt
  | .droopCodeRelease dt _ => dt
  | .loadNotice dt _ _ => dt
  | .lnLoadNotice dt _ _ => dt
  | .lnReservoirArm dt _ _ => dt
  | .lnReservoirDisarm dt _ _ => dt
  | .loadStep dt _ _ _ => dt
  | .reservoirDischarge dt _ _ => dt
  | .reservoirRechargeEnd dt _ => dt
  | .reservoirArmingWrite dt _ _ => dt
  | .phaseFailure dt _ _ => dt
  | .lnAlert dt _ _ => dt
  | .undervoltageTimeout dt _ => dt
  | .releaseGroup dt _ _ => dt
  | .rampHeadroomTimeout dt _ => dt
  | .idleHoldExpiry dt _ => dt
  | .diodeReading dt _ _ _ => dt
  | .sensorFaultTimeout dt _ => dt
  | .thermalCapRise dt _ => dt
  | .trayInputChange dt _ _ _ => dt
  | .trayInputAccept dt _ _ => dt
  | .chatterEnd dt _ _ => dt
  | .trayLatchClear dt _ _ _ => dt
  | .inputMismatchTimeout dt _ _ => dt
  | .vinPoll dt _ _ => dt
  | .supplyStateRelease dt _ => dt
  | .writeSuspendRelease dt _ => dt
  | .aonSupplyFall dt _ => dt
  | .vfastFall dt _ => dt
  | .fastDomainResetRelease dt _ => dt
  | .energyIntegration dt _ _ _ _ _ _ => dt
  | .stageRun dt _ _ _ => dt
  | .stageComplete dt _ _ _ => dt
  | .stageAdvance dt => dt
  | .anchorReadyTimeout dt => dt
  | .fieldAgentRegistration dt _ => dt
  | .bridleRegistration dt _ _ _ => dt
  | .bridleMissingDeadline dt _ => dt
  | .imageWrite dt _ _ _ => dt
  | .commitTrialImage dt _ _ => dt
  | .trialCommitTimeout dt => dt
  | .selfTestStart dt _ => dt
  | .testSliceEnd dt _ _ _ _ _ => dt
  | .testSliceBudgetExpiry dt _ _ => dt
  | .reelRecordWrite dt _ => dt
  | .reelEraseComplete dt _ => dt
  | .storeOperationFailure dt _ _ _ => dt
  | .storeSilentTimeout dt _ _ => dt
  | .reelClear dt _ _ => dt
  | .nextReadableRecord dt _ => dt
  | .returnStateSet dt _ => dt
  | .returnStateClear dt _ => dt
  | .counterRead dt _ => dt
  | .snapshotRequest dt _ _ => dt
  | .snapshotLatch dt => dt
  | .snapshotGatherComplete dt => dt
  | .traceArmByLcn dt _ _ => dt
  | .traceArmByPua dt _ _ => dt
  | .slotStart dt _ => dt
  | .slotStop dt _ => dt
  | .slotFree dt _ => dt
  | .slotSwitch dt _ _ => dt
  | .tracePacket dt _ _ _ => dt
  | .traceFlushTimeout dt _ _ => dt
  | .chunkDrain dt _ _ => dt
  | .chunkIdleTimeout dt _ _ => dt
  | .nextReadableChunk dt _ => dt
  | .nmtStart dt _ _ _ => dt
  | .nmtStop dt _ _ _ => dt
  | .nmtEnterPreOperational dt _ _ _ => dt
  | .nmtResetApplication dt _ _ _ => dt
  | .nmtResetCommunication dt _ _ _ => dt
  | .heartbeatSend dt _ _ => dt
  | .tpdoSend dt _ _ _ => dt
  | .emcyInhibitEnd dt _ _ => dt
  | .errorFieldClear dt _ _ => dt
  | .canBusError dt _ _ _ => dt
  | .busOffRecovery dt _ _ _ => dt
  | .mailboxBind dt _ _ => dt
  | .mailboxUnbind dt _ => dt
  | .nonceRead dt _ => dt
  | .responseWrite dt _ _ => dt
  | .endSession dt _ _ => dt
  | .leaseExpiry dt _ => dt
  | .nonceExpiry dt _ => dt
  | .grantExpiry dt _ => dt
  | .backoffEnd dt _ => dt
  | .keyWrite dt _ _ _ => dt
  | .rawStoreWrite dt _ _ => dt
  | .tapBypass dt _ => dt
  | .tapIdcode dt _ => dt
  | .tapSamplePreload dt _ => dt
  | .tapExtest dt _ => dt
  | .tapAcExtest dt _ => dt
  | .tapIntest dt _ => dt
  | .tapPrivate dt _ _ => dt
  | .ineligibleComputeTileEnd dt _ => dt
  | .syncObjectSignal dt _ _ => dt
  | .stageLimitExpiry dt _ _ => dt
  | .alwaysOnSupplyRise dt _ => dt
  | .errorActiveReturn dt _ _ => dt

/-- The same command after another time. -/
def Instr.withDt (n : Nat) : Instr → Instr
  | .objectWrite _ x0 x1 x2 x3 => .objectWrite n x0 x1 x2 x3
  | .sdoInitiate _ x0 x1 x2 x3 x4 x5 => .sdoInitiate n x0 x1 x2 x3 x4 x5
  | .sdoSegment _ x0 x1 x2 => .sdoSegment n x0 x1 x2
  | .sdoTimeout _ x0 => .sdoTimeout n x0
  | .mailboxRead _ x0 x1 => .mailboxRead n x0 x1
  | .mailboxWrite _ x0 x1 => .mailboxWrite n x0 x1
  | .mailboxBulkRead _ x0 x1 => .mailboxBulkRead n x0 x1
  | .mailboxBulkWrite _ x0 x1 x2 => .mailboxBulkWrite n x0 x1 x2
  | .unitCursorByLcn _ x0 x1 => .unitCursorByLcn n x0 x1
  | .unitCursorByPua _ x0 x1 => .unitCursorByPua n x0 x1
  | .sliceCreate _ x0 => .sliceCreate n x0
  | .sliceTeardown _ x0 => .sliceTeardown n x0
  | .generationLoadAck _ x0 x1 => .generationLoadAck n x0 x1
  | .quiesceMarkSend _ x0 x1 x2 x3 => .quiesceMarkSend n x0 x1 x2 x3
  | .quiesceMarkArrival _ x0 x1 => .quiesceMarkArrival n x0 x1
  | .quiesceTimeout _ x0 => .quiesceTimeout n x0
  | .zeroFillComplete _ x0 x1 => .zeroFillComplete n x0 x1
  | .eventReport _ x0 x1 => .eventReport n x0 x1
  | .arbiterForward _ x0 => .arbiterForward n x0
  | .eventSequence _  => .eventSequence n 
  | .checkpointWriteComplete _  => .checkpointWriteComplete n 
  | .sequenceReturn _ x0 => .sequenceReturn n x0
  | .eventHandling _ x0 => .eventHandling n x0
  | .shadowLoadAck _ x0 x1 => .shadowLoadAck n x0 x1
  | .commitAckDeadline _ x0 => .commitAckDeadline n x0
  | .commitLand _ x0 => .commitLand n x0
  | .storeRecordWrite _ x0 => .storeRecordWrite n x0
  | .lockstepFaultNotice _  => .lockstepFaultNotice n 
  | .lockstepDisagreement _ x0 => .lockstepDisagreement n x0
  | .gondolaWatchdogTimeout _ x0 => .gondolaWatchdogTimeout n x0
  | .crossingSlip _ x0 x1 x2 => .crossingSlip n x0 x1 x2
  | .correctionSend _  => .correctionSend n 
  | .correctionArrival _ x0 x1 => .correctionArrival n x0 x1
  | .correctionMissed _ x0 => .correctionMissed n x0
  | .referenceLoss _  => .referenceLoss n 
  | .referenceRestored _  => .referenceRestored n 
  | .ripcordArrival _ x0 x1 => .ripcordArrival n x0 x1
  | .frequencyChangeRequest _ x0 x1 x2 => .frequencyChangeRequest n x0 x1 x2
  | .changeAcknowledge _ x0 x1 => .changeAcknowledge n x0 x1
  | .changeAckDeadline _ x0 => .changeAckDeadline n x0
  | .changeHoldSample _ x0 => .changeHoldSample n x0
  | .changeCountSwitch _ x0 => .changeCountSwitch n x0
  | .changeVerdict _ x0 x1 => .changeVerdict n x0 x1
  | .modeFloorWrite _ x0 x1 => .modeFloorWrite n x0 x1
  | .roleDefaultModeWrite _ x0 x1 x2 => .roleDefaultModeWrite n x0 x1 x2
  | .modeOverrideWrite _ x0 x1 => .modeOverrideWrite n x0 x1
  | .modeSwitch _ x0 x1 => .modeSwitch n x0 x1
  | .clearModelFlag _ x0 x1 => .clearModelFlag n x0 x1
  | .modelBucketRoll _  => .modelBucketRoll n 
  | .ineligibleQuietTimeout _ x0 => .ineligibleQuietTimeout n x0
  | .tileIssue _ x0 x1 => .tileIssue n x0 x1
  | .contractionTileEnd _ x0 x1 x2 => .contractionTileEnd n x0 x1 x2
  | .recomputeAttemptEnd _ x0 x1 x2 x3 => .recomputeAttemptEnd n x0 x1 x2 x3
  | .sampleStreamTileEnd _ x0 x1 => .sampleStreamTileEnd n x0 x1
  | .pinnedBlockFetch _ x0 x1 => .pinnedBlockFetch n x0 x1
  | .replayComplete _ x0 x1 x2 => .replayComplete n x0 x1 x2
  | .tieBreakComplete _ x0 x1 x2 => .tieBreakComplete n x0 x1 x2
  | .replayGroupEnd _ x0 x1 => .replayGroupEnd n x0 x1
  | .fullPairTileEnd _ x0 x1 x2 => .fullPairTileEnd n x0 x1 x2
  | .thirdExecutionComplete _ x0 x1 x2 => .thirdExecutionComplete n x0 x1 x2
  | .epochStart _ x0 => .epochStart n x0
  | .seedDelivery _ x0 => .seedDelivery n x0
  | .seedModeWrite _ x0 x1 => .seedModeWrite n x0 x1
  | .blockArrival _ x0 x1 x2 => .blockArrival n x0 x1 x2
  | .blockArrivalTimeout _ x0 x1 => .blockArrivalTimeout n x0 x1
  | .repairWaitExpiry _ x0 => .repairWaitExpiry n x0
  | .outboundBlockSend _ x0 x1 x2 => .outboundBlockSend n x0 x1 x2
  | .sramParityError _ x0 x1 => .sramParityError n x0 x1
  | .dramRead _ x0 x1 x2 x3 x4 => .dramRead n x0 x1 x2 x3 x4
  | .dramWrite _ x0 x1 x2 x3 => .dramWrite n x0 x1 x2 x3
  | .seamBlockCheck _ x0 x1 x2 x3 => .seamBlockCheck n x0 x1 x2 x3
  | .hostPartialWrite _ x0 x1 x2 x3 => .hostPartialWrite n x0 x1 x2 x3
  | .hostIngress _ x0 x1 x2 x3 => .hostIngress n x0 x1 x2 x3
  | .lostStackRequest _ x0 x1 x2 x3 => .lostStackRequest n x0 x1 x2 x3
  | .streamerCheckingWrite _ x0 x1 => .streamerCheckingWrite n x0 x1
  | .idleNoticeOneShot _ x0 x1 => .idleNoticeOneShot n x0 x1
  | .idleNoticePeriodic _ x0 x1 => .idleNoticePeriodic n x0 x1
  | .idleNoticeRevoke _ x0 x1 x2 => .idleNoticeRevoke n x0 x1 x2
  | .idleNoticeRevokeAll _ x0 x1 => .idleNoticeRevokeAll n x0 x1
  | .idleSlotStart _ x0 x1 => .idleSlotStart n x0 x1
  | .idleSlotEnd _ x0 x1 => .idleSlotEnd n x0 x1
  | .testTileStart _ x0 => .testTileStart n x0
  | .testTileEnd _ x0 x1 x2 x3 x4 => .testTileEnd n x0 x1 x2 x3 x4
  | .testThirdRunEnd _ x0 x1 => .testThirdRunEnd n x0 x1
  | .forcedCheckerSlot _ x0 => .forcedCheckerSlot n x0
  | .testOverdue _ x0 => .testOverdue n x0
  | .fmaxChangeRequest _ x0 => .fmaxChangeRequest n x0
  | .fmaxRecordWrite _ x0 x1 => .fmaxRecordWrite n x0 x1
  | .shortBucketRoll _  => .shortBucketRoll n 
  | .serviceDayRoll _ x0 => .serviceDayRoll n x0
  | .serviceSecondsSave _ x0 => .serviceSecondsSave n x0
  | .watchRelease _ x0 => .watchRelease n x0
  | .quarantineHoldEnd _ x0 => .quarantineHoldEnd n x0
  | .screenComplete _ x0 x1 => .screenComplete n x0 x1
  | .pseudoChannelCopyEnd _ x0 => .pseudoChannelCopyEnd n x0
  | .forcedRetire _ x0 => .forcedRetire n x0
  | .forcedReadmit _ x0 => .forcedReadmit n x0
  | .forcedReadmitClear _ x0 => .forcedReadmitClear n x0
  | .unitExchange _ x0 x1 => .unitExchange n x0 x1
  | .withholdRepeat _ x0 => .withholdRepeat n x0
  | .routerProbeTimeout _ x0 => .routerProbeTimeout n x0
  | .commandAccept _ x0 x1 => .commandAccept n x0 x1
  | .commandComplete _ x0 x1 => .commandComplete n x0 x1
  | .progressWindowExpiry _ x0 => .progressWindowExpiry n x0
  | .commandTimeout _ x0 x1 x2 => .commandTimeout n x0 x1 x2
  | .hangReportRepeat _ x0 => .hangReportRepeat n x0
  | .hangHandling _ x0 => .hangHandling n x0
  | .captureComplete _ x0 => .captureComplete n x0
  | .resetComplete _ x0 x1 => .resetComplete n x0 x1
  | .resetTimeout _ x0 x1 => .resetTimeout n x0 x1
  | .transitDrainEnd _ x0 => .transitDrainEnd n x0
  | .resetRequest _ x0 x1 => .resetRequest n x0 x1
  | .bridleProbe _ x0 => .bridleProbe n x0
  | .bridleProbeTimeout _ x0 => .bridleProbeTimeout n x0
  | .fieldAgentHeartbeatTimeout _ x0 => .fieldAgentHeartbeatTimeout n x0
  | .orderlyRipcordRequest _ x0 x1 => .orderlyRipcordRequest n x0 x1
  | .stopCountCut _ x0 => .stopCountCut n x0
  | .requestedFrequencyWrite _ x0 x1 => .requestedFrequencyWrite n x0 x1
  | .operatorStepCapWrite _ x0 x1 => .operatorStepCapWrite n x0 x1
  | .regulatorSettled _ x0 => .regulatorSettled n x0
  | .settleTimeout _ x0 => .settleTimeout n x0
  | .powerSumTick _  => .powerSumTick n 
  | .droopTrip _ x0 => .droopTrip n x0
  | .stretchEnd _ x0 => .stretchEnd n x0
  | .stretchDutyWindow _ x0 => .stretchDutyWindow n x0
  | .droopCodeRelease _ x0 => .droopCodeRelease n x0
  | .loadNotice _ x0 x1 => .loadNotice n x0 x1
  | .lnLoadNotice _ x0 x1 => .lnLoadNotice n x0 x1
  | .lnReservoirArm _ x0 x1 => .lnReservoirArm n x0 x1
  | .lnReservoirDisarm _ x0 x1 => .lnReservoirDisarm n x0 x1
  | .loadStep _ x0 x1 x2 => .loadStep n x0 x1 x2
  | .reservoirDischarge _ x0 x1 => .reservoirDischarge n x0 x1
  | .reservoirRechargeEnd _ x0 => .reservoirRechargeEnd n x0
  | .reservoirArmingWrite _ x0 x1 => .reservoirArmingWrite n x0 x1
  | .phaseFailure _ x0 x1 => .phaseFailure n x0 x1
  | .lnAlert _ x0 x1 => .lnAlert n x0 x1
  | .undervoltageTimeout _ x0 => .undervoltageTimeout n x0
  | .releaseGroup _ x0 x1 => .releaseGroup n x0 x1
  | .rampHeadroomTimeout _ x0 => .rampHeadroomTimeout n x0
  | .idleHoldExpiry _ x0 => .idleHoldExpiry n x0
  | .diodeReading _ x0 x1 x2 => .diodeReading n x0 x1 x2
  | .sensorFaultTimeout _ x0 => .sensorFaultTimeout n x0
  | .thermalCapRise _ x0 => .thermalCapRise n x0
  | .trayInputChange _ x0 x1 x2 => .trayInputChange n x0 x1 x2
  | .trayInputAccept _ x0 x1 => .trayInputAccept n x0 x1
  | .chatterEnd _ x0 x1 => .chatterEnd n x0 x1
  | .trayLatchClear _ x0 x1 x2 => .trayLatchClear n x0 x1 x2
  | .inputMismatchTimeout _ x0 x1 => .inputMismatchTimeout n x0 x1
  | .vinPoll _ x0 x1 => .vinPoll n x0 x1
  | .supplyStateRelease _ x0 => .supplyStateRelease n x0
  | .writeSuspendRelease _ x0 => .writeSuspendRelease n x0
  | .aonSupplyFall _ x0 => .aonSupplyFall n x0
  | .vfastFall _ x0 => .vfastFall n x0
  | .fastDomainResetRelease _ x0 => .fastDomainResetRelease n x0
  | .energyIntegration _ x0 x1 x2 x3 x4 x5 => .energyIntegration n x0 x1 x2 x3 x4 x5
  | .stageRun _ x0 x1 x2 => .stageRun n x0 x1 x2
  | .stageComplete _ x0 x1 x2 => .stageComplete n x0 x1 x2
  | .stageAdvance _  => .stageAdvance n 
  | .anchorReadyTimeout _  => .anchorReadyTimeout n 
  | .fieldAgentRegistration _ x0 => .fieldAgentRegistration n x0
  | .bridleRegistration _ x0 x1 x2 => .bridleRegistration n x0 x1 x2
  | .bridleMissingDeadline _ x0 => .bridleMissingDeadline n x0
  | .imageWrite _ x0 x1 x2 => .imageWrite n x0 x1 x2
  | .commitTrialImage _ x0 x1 => .commitTrialImage n x0 x1
  | .trialCommitTimeout _  => .trialCommitTimeout n 
  | .selfTestStart _ x0 => .selfTestStart n x0
  | .testSliceEnd _ x0 x1 x2 x3 x4 => .testSliceEnd n x0 x1 x2 x3 x4
  | .testSliceBudgetExpiry _ x0 x1 => .testSliceBudgetExpiry n x0 x1
  | .reelRecordWrite _ x0 => .reelRecordWrite n x0
  | .reelEraseComplete _ x0 => .reelEraseComplete n x0
  | .storeOperationFailure _ x0 x1 x2 => .storeOperationFailure n x0 x1 x2
  | .storeSilentTimeout _ x0 x1 => .storeSilentTimeout n x0 x1
  | .reelClear _ x0 x1 => .reelClear n x0 x1
  | .nextReadableRecord _ x0 => .nextReadableRecord n x0
  | .returnStateSet _ x0 => .returnStateSet n x0
  | .returnStateClear _ x0 => .returnStateClear n x0
  | .counterRead _ x0 => .counterRead n x0
  | .snapshotRequest _ x0 x1 => .snapshotRequest n x0 x1
  | .snapshotLatch _  => .snapshotLatch n 
  | .snapshotGatherComplete _  => .snapshotGatherComplete n 
  | .traceArmByLcn _ x0 x1 => .traceArmByLcn n x0 x1
  | .traceArmByPua _ x0 x1 => .traceArmByPua n x0 x1
  | .slotStart _ x0 => .slotStart n x0
  | .slotStop _ x0 => .slotStop n x0
  | .slotFree _ x0 => .slotFree n x0
  | .slotSwitch _ x0 x1 => .slotSwitch n x0 x1
  | .tracePacket _ x0 x1 x2 => .tracePacket n x0 x1 x2
  | .traceFlushTimeout _ x0 x1 => .traceFlushTimeout n x0 x1
  | .chunkDrain _ x0 x1 => .chunkDrain n x0 x1
  | .chunkIdleTimeout _ x0 x1 => .chunkIdleTimeout n x0 x1
  | .nextReadableChunk _ x0 => .nextReadableChunk n x0
  | .nmtStart _ x0 x1 x2 => .nmtStart n x0 x1 x2
  | .nmtStop _ x0 x1 x2 => .nmtStop n x0 x1 x2
  | .nmtEnterPreOperational _ x0 x1 x2 => .nmtEnterPreOperational n x0 x1 x2
  | .nmtResetApplication _ x0 x1 x2 => .nmtResetApplication n x0 x1 x2
  | .nmtResetCommunication _ x0 x1 x2 => .nmtResetCommunication n x0 x1 x2
  | .heartbeatSend _ x0 x1 => .heartbeatSend n x0 x1
  | .tpdoSend _ x0 x1 x2 => .tpdoSend n x0 x1 x2
  | .emcyInhibitEnd _ x0 x1 => .emcyInhibitEnd n x0 x1
  | .errorFieldClear _ x0 x1 => .errorFieldClear n x0 x1
  | .canBusError _ x0 x1 x2 => .canBusError n x0 x1 x2
  | .busOffRecovery _ x0 x1 x2 => .busOffRecovery n x0 x1 x2
  | .mailboxBind _ x0 x1 => .mailboxBind n x0 x1
  | .mailboxUnbind _ x0 => .mailboxUnbind n x0
  | .nonceRead _ x0 => .nonceRead n x0
  | .responseWrite _ x0 x1 => .responseWrite n x0 x1
  | .endSession _ x0 x1 => .endSession n x0 x1
  | .leaseExpiry _ x0 => .leaseExpiry n x0
  | .nonceExpiry _ x0 => .nonceExpiry n x0
  | .grantExpiry _ x0 => .grantExpiry n x0
  | .backoffEnd _ x0 => .backoffEnd n x0
  | .keyWrite _ x0 x1 x2 => .keyWrite n x0 x1 x2
  | .rawStoreWrite _ x0 x1 => .rawStoreWrite n x0 x1
  | .tapBypass _ x0 => .tapBypass n x0
  | .tapIdcode _ x0 => .tapIdcode n x0
  | .tapSamplePreload _ x0 => .tapSamplePreload n x0
  | .tapExtest _ x0 => .tapExtest n x0
  | .tapAcExtest _ x0 => .tapAcExtest n x0
  | .tapIntest _ x0 => .tapIntest n x0
  | .tapPrivate _ x0 x1 => .tapPrivate n x0 x1
  | .ineligibleComputeTileEnd _ x0 => .ineligibleComputeTileEnd n x0
  | .syncObjectSignal _ x0 x1 => .syncObjectSignal n x0 x1
  | .stageLimitExpiry _ x0 x1 => .stageLimitExpiry n x0 x1
  | .alwaysOnSupplyRise _ x0 => .alwaysOnSupplyRise n x0
  | .errorActiveReturn _ x0 x1 => .errorActiveReturn n x0 x1

end Sys2Proof
end

