-- ==== Sys2Proof/Certificates/Slice0/Obligations.lean ====
section
/-!
DEFINITION. The statements about the block for the provers.
-/
open Sys2Proof Sys2Proof.Machine

/-- MODE_SWITCH at a tile boundary of the cluster after its time copy reads C, or with none of its cores running a
tile, lets the cluster run the new mode, cuts the progress counts of its LCNs to multiples of 32, leaves the
other clusters on the old mode, and ends the change with the last cluster. MODEL_BUCKET_ROLL moves the 24
buckets on by the qualifying hours passed and sets the flag when the count exceeds the threshold.
INELIGIBLE_QUIET_TIMEOUT after 1 s of PT ends the void state of ineligible tiles, and the bound state becomes
that of the conditions left. Each command answers a next state; the fields of State that it may change are
named, all others stay (the clock advances by dt). (R114, R115, R122, R144) -/
def Obligations.ModeCommandsTakeEffect : Prop :=
  (∀ dt k ck l m c w s x, slice s k = some x → x.switches = [⟨m, c, w⟩] → x.life ≠ .ended →
    ck ∈ w → c ≤ pt (elapse dt s) → c ≤ bridleTime (elapse dt s) ck →
    ((∀ p ∈ coresOf ck, (Machine.core s p).tile = none) ∨ c ≤ (cluster s ck).boundary) → logicalOf s ck = some l →
    ∃ t y, exec (.modeSwitch dt k ck) s = .next t ∧ slice t k = some y ∧ clusterMode y ck = m ∧
      (∀ c', c' ≠ ck → c' ∈ w → c' ∈ sliceClusters s k → clusterMode y c' = x.mode) ∧
      ((∀ c' ∈ w, c' = ck) → y.mode = m ∧ y.switches = []) ∧
      (∀ n, n / 16 = l → (lcnRec t n).progress % 32 = 0) ∧
      (∀ n, n / 16 ≠ l → lcnRec t n = lcnRec s n) ∧
      t = { elapse dt s with slices := t.slices, lcns := t.lcns, qualifying := t.qualifying, dies := t.dies }) ∧
  (∀ dt s, s.model.length = 24 →
    let h := s.qualifying.read (s.now + dt) / 3600000000000
    ∃ t, exec (.modelBucketRoll dt) s = .next t ∧ t.modelIndex = max s.modelIndex h ∧
      t.model = (List.replicate (h - s.modelIndex) 0 ++ s.model).take 24 ∧
      t.modelFlag = (s.modelFlag || decide (modelThreshold s.variant < t.model.sum)) ∧
      (t.modelFlag = s.modelFlag → t = { elapse dt s with model := t.model, modelIndex := t.modelIndex }) ∧
      t = { elapse dt s with model := t.model, modelIndex := t.modelIndex, modelFlag := t.modelFlag, slices := t.slices, dies := t.dies, ports := t.ports, output := t.output }) ∧
  (∀ dt k s x a, slice s k = some x → x.ineligibleAt = some a → x.life ≠ .ended →
    a + 1000000000 ≤ pt (elapse dt s) →
    ∃ t y, exec (.ineligibleQuietTimeout dt k) s = .next t ∧ slice t k = some y ∧ y.ineligibleAt = none ∧
      y.boundState = boundStateOf t y ∧ y.boundState ≠ 4 ∧
      t = { elapse dt s with slices := t.slices, dies := t.dies })

/-- REEL_RECORD_WRITE with a record in progress puts its 64 bytes at the next index of the active chip select, where
they read back valid with their position; every other index of the Reel keeps its bytes and the next index
advances. REEL_ERASE_COMPLETE on an open clear leaves the cleared record at index 0, the next index 1, no lost
record and every other index below 1,024 erased; otherwise it erases the unit after erased-through and records
it. STORE_OPERATION_FAILURE and STORE_SILENT_TIMEOUT on chip select 0 move the Reel to index 0 of chip select 1
and raise the relocated record with its cause; what chip select 0 holds stays. The Reels of other dies stay.
(R384, R387, R389, R394, R395, R396) -/
def Obligations.ReelCommandsTakeEffect : Prop :=
  (∀ dt d e s, d < 4 → d < s.dies.length → (die s d).reel.current = some e → 403 ∉ s.undefinedCases →
    e.position < 2 ^ 64 →
    ∃ t, exec (.reelRecordWrite dt d) s = .next t ∧
      (die t d).reel.next = (die s d).reel.next + 1 ∧ (die t d).reel.active = (die s d).reel.active ∧
      reelBytes t d (activeDevice s d) (die s d).reel.next = recordBytes (die s d).reel e ∧
      recordValid (reelBytes t d (activeDevice s d) (die s d).reel.next) = true ∧
      recordPosition (reelBytes t d (activeDevice s d) (die s d).reel.next) = e.position ∧
      (∀ cs i, cs ≠ activeDevice s d ∨ i ≠ (die s d).reel.next →
        reelBytes t d cs i = reelBytes s d cs i) ∧
      (∀ d', d' ≠ d → die t d' = die s d') ∧
      t = { elapse dt s with dies := t.dies, ports := t.ports, output := t.output }) ∧
  (∀ dt d s c, d < 4 → d < s.dies.length → (die s d).suspended = false → (die s d).reel.clearOpen = some c →
    ∃ t, exec (.reelEraseComplete dt d) s = .next t ∧
      (die t d).reel.clearOpen = none ∧ (die t d).reel.erasedThrough = some 1023 ∧ (die t d).reel.next = 1 ∧
      (die t d).reel.lost = 0 ∧
      recordPosition (reelBytes t d (activeDevice s d) 0) % 2 ^ 64 = c.2.1 % 2 ^ 64 ∧
      recordValid (reelBytes t d (activeDevice s d) 0) = true ∧
      (∀ i, 0 < i → i < 1024 → reelBytes t d (activeDevice s d) i = List.replicate 64 erasedByte) ∧
      (∀ d', d' ≠ d → die t d' = die s d') ∧
      t = { elapse dt s with dies := t.dies, ports := t.ports, output := t.output, undefinedCases := t.undefinedCases }) ∧
  (∀ dt d s h, d < s.dies.length → (die s d).suspended = false → (die s d).reel.clearOpen = none →
    (die s d).reel.erasedThrough = some h → h < 1048575 → h < (die s d).reel.next + 4096 →
    ∃ t, exec (.reelEraseComplete dt d) s = .next t ∧
      (die t d).reel.erasedThrough = some (h + 1024) ∧
      (∀ i, i / 1024 = (h + 1) / 1024 →
        reelBytes t d (activeDevice s d) i = List.replicate 64 erasedByte) ∧
      (∀ cs i, cs ≠ activeDevice s d ∨ i / 1024 ≠ (h + 1) / 1024 → reelBytes t d cs i = reelBytes s d cs i) ∧
      (∀ d', d' ≠ d → die t d' = die s d') ∧
      t = { elapse dt s with dies := t.dies }) ∧
  (∀ dt d address s, d < 4 → d < s.dies.length → (die s d).reel.unusable = [] → (die s d).reel.active = 0 →
    ∃ t e, exec (.storeOperationFailure dt d 0 address) s = .next t ∧
      ReelMoved s t d e 0 ∧ t = { elapse dt s with dies := t.dies, ports := t.ports, output := t.output }) ∧
  (∀ dt d s, d < 4 → d < s.dies.length → (die s d).reel.unusable = [] → (die s d).reel.active = 0 →
    ∃ t e, exec (.storeSilentTimeout dt d 0) s = .next t ∧
      ReelMoved s t d e 1 ∧ t = { elapse dt s with dies := t.dies, ports := t.ports, output := t.output })

/-- An event that a Field Agent, or a lane group, port, channel or phase that reports through it, raises joins the
end of the agent's queue. One raised in a cluster goes through its Bridle to the agent while the agent's queue
has room and no other event waits in the field's Bridles, and waits in the Bridle when the agent's 1,024 entries
are taken. One of a die joins the Gondola's own input, at its end where no other event of the same moment waits
there. A queue that is full holds issue in the field. Nothing but queues and holds changes. (R46, R67) -/
def Obligations.EventReportEntersQueue : Prop :=
  (∀ dt (r : Pua) ev s, puaKind r.toNat ∈ [2, 3, 4, 5, 8] → unitField r.toNat < s.fields.length →
    ∃ t, exec (.eventReport dt r ev) s = .next t ∧
      (field t (unitField r.toNat)).queue =
        (field s (unitField r.toNat)).queue ++ [reportedEvent (elapse dt s) ev] ∧
      (1023 ≤ (field s (unitField r.toNat)).queue.length → 0 ∈ (field t (unitField r.toNat)).holds) ∧
      t = { elapse dt s with fields := t.fields, clusters := t.clusters }) ∧
  (∀ dt (r : Pua) ev s, puaKind r.toNat ∈ [0, 1, 6, 7] → puaValid s.variant r.toNat = true →
    s.fields.length = 24 → (field s (puaFieldIdx r.toNat)).queue.length < 1024 →
    (∀ e ∈ s.clusters, ckField e.1 = puaFieldIdx r.toNat → e.2.queue = []) →
    ∃ t, exec (.eventReport dt r ev) s = .next t ∧
      (field t (puaFieldIdx r.toNat)).queue =
        (field s (puaFieldIdx r.toNat)).queue ++ [reportedEvent (elapse dt s) ev] ∧
      t = { elapse dt s with fields := t.fields, clusters := t.clusters }) ∧
  (∀ dt (r : Pua) ev s, puaKind r.toNat ∈ [0, 1, 6, 7] →
    1024 ≤ (field s (puaFieldIdx r.toNat)).queue.length →
    ∃ t, exec (.eventReport dt r ev) s = .next t ∧
      (cluster t (puaClusterKey r.toNat)).queue =
        (cluster s (puaClusterKey r.toNat)).queue ++ [reportedEvent (elapse dt s) ev] ∧
      t = { elapse dt s with fields := t.fields, clusters := t.clusters }) ∧
  (∀ dt (r : Pua) ev s, puaKind r.toNat = 15 → r.toNat ≠ packagePua → puaDie r.toNat < s.dies.length →
    (∀ x ∈ (die s (puaDie r.toNat)).local_, x.arose.1 ≠ s.now + dt) →
    ∃ t, exec (.eventReport dt r ev) s = .next t ∧
      (die t (puaDie r.toNat)).local_ = (die s (puaDie r.toNat)).local_ ++ [reportedEvent (elapse dt s) ev] ∧
      t = { elapse dt s with dies := t.dies })

/-- ARBITER_FORWARD of an event that neither registers a unit nor ends a slice takes the head of the first input
that holds an event, searching upward and cyclically from the input after the one last served, sends it to the
Anchor and to the die's handling queue, or counts it as lost there when 4,096 entries wait; while the sequencer
holds, an event that waits for it holds up the arbiter. EVENT_SEQUENCE numbers one waiting event of every die,
in cyclic order of the dies, with consecutive positions while no era ends and room below the checkpoint remains;
each number goes back to the die that forwarded the event. CHECKPOINT_WRITE_COMPLETE makes the written position
the checkpoint. (R87, R88, R90, R94, R258, R260) -/
def Obligations.EventsReachHandlingAndNumbers : Prop :=
  (∀ dt d n e s, n < 7 → d < s.dies.length → sequencerFree s = true ∨ (die s d).toAnchor = [] →
    e.registers = none → e.ends = none →
    inputHead s d (((die s d).arbiterLast + 1 + n) % 7) = some e →
    (∀ m < n, inputHead s d (((die s d).arbiterLast + 1 + m) % 7) = none) →
    ∃ t, exec (.arbiterForward dt d) s = .next t ∧
      (die t d).arbiterLast = ((die s d).arbiterLast + 1 + n) % 7 ∧
      (die t d).toAnchor = (die s d).toAnchor ++ [e] ∧ (die t d).unacked = (die s d).unacked ++ [e] ∧
      (((die s d).arbiterLast + 1 + n) % 7 = 6 → (die t d).local_ = (die s d).local_.drop 1) ∧
      (∀ i < 6, i = ((die s d).arbiterLast + 1 + n) % 7 →
        ∃ l, (field t (d * 6 + i)).queue = (field s (d * 6 + i)).queue.drop 1 ++ l) ∧
      ((die s d).handling.length < 4096 →
        (die t d).handling = (die s d).handling ++ [e] ∧ (die t d).lost = (die s d).lost) ∧
      (4096 ≤ (die s d).handling.length →
        (die t d).handling = (die s d).handling ∧ (die t d).lost = (die s d).lost + 1) ∧
      (∀ x, x ≠ d → die t x = die s x) ∧
      t = { elapse dt s with dies := t.dies, fields := t.fields, clusters := t.clusters, ports := t.ports, output := t.output }) ∧
  (∀ dt d s, sequencerFree s = false → (die s d).toAnchor ≠ [] →
    exec (.arbiterForward dt d) s = .next (elapse dt s)) ∧
  (∀ dt s, s.variant.dies ≤ s.dies.length → numbersReturned s = true →
    (∃ d < s.variant.dies, (die s d).toAnchor ≠ []) →
    s.seqr.next + 8 < s.seqr.checkpoint + 16777216 → 0 < s.seqr.next % 2 ^ 48 → s.seqr.next % 2 ^ 48 + 8 < 2 ^ 48 →
    let order := (List.range s.variant.dies).map fun i => (s.seqr.first + i) % s.variant.dies
    ∃ t, exec (.eventSequence dt) s = .next t ∧
      t.seqr.next = s.seqr.next + order.countP (fun d => !(die s d).toAnchor.isEmpty) ∧
      t.seqr.first = (s.seqr.first + 1) % s.variant.dies ∧
      (∀ d < s.variant.dies, (die t d).toAnchor = (die s d).toAnchor.drop 1) ∧
      (∀ d < s.variant.dies, ∀ e ∈ (die s d).toAnchor.head?,
        ⟨e, d, s.seqr.next + (order.takeWhile (fun x => x ≠ d)).countP (fun x => !(die s x).toAnchor.isEmpty)⟩
          ∈ (die t d).returns) ∧
      t = { elapse dt s with seqr := t.seqr, dies := t.dies, clusters := t.clusters, slices := t.slices, commits := t.commits, model := t.model, modelIndex := t.modelIndex, modelFlag := t.modelFlag, ports := t.ports, turn := t.turn, output := t.output }) ∧
  (∀ dt k s, s.seqr.writing = some k → (∀ x ∈ s.dies, x.suspended = false) → 0 < s.seqr.next % 2 ^ 48 →
    ∃ t, exec (.checkpointWriteComplete dt) s = .next t ∧
      t.seqr = { s.seqr with checkpoint := k, writing := none, held := decide (k + 16777216 ≤ s.seqr.next) } ∧
      (∀ d < s.dies.length, (die s d).status ≠ 2 → (die t d).copy =
        { (die s d).copy with checkpoint := k, writes := ((die s d).copy.writes + 1) % 2 ^ 64 }) ∧
      t = { elapse dt s with dies := t.dies, seqr := t.seqr })

/-- SEQUENCE_RETURN takes the oldest returned number of a die. At the die that forwarded the event it closes the
wait for the number and the objects that show the number take it. Where the record belongs to this die and the
Reel takes records, an entry with the event and the position waits in the write queue or is being written.
EVENT_HANDLING takes the head entry; one that only records ends there, one of a unit of another die that runs
joins that die's handling queue (the model's choice, notes/assumptions/187.md), one that charges a unit that is
Quarantined, Retired or Absent changes no unit, and a decisive one takes a core that serves or is a spare to
Quarantined. (R92, R228, R231, R236, R258, R385) -/
def Obligations.ReturnedNumberAndHandling : Prop :=
  (∀ dt d n rest s, d < s.dies.length → (die s d).returns = n :: rest →
    ∃ t, exec (.sequenceReturn dt d) s = .next t ∧ (die t d).returns = rest ∧
      (n.source = d → (die t d).unacked = (die s d).unacked.erase n.event ∧
        ∀ k, (0, k) ∈ n.event.seqKeys → obj t k 0 = n.position % 2 ^ 48) ∧
      (n.event.code ≠ 0 → (n.event.scope = 0 ∧ n.event.die = d ∨ n.event.scope = 1 ∧ s.anchorDie = d ∨ 2 ≤ n.event.scope) →
        (die s d).suspended = false → reelUsable (die s d).reel = true → (die s d).reel.next < fullIndex →
        (die s d).reel.queue.length < 1024 →
        ∃ x ∈ (die t d).reel.current.toList ++ (die t d).reel.queue,
          x.event = n.event ∧ x.position = n.position ∧ x.run = obj t (key 0x2101 0) 0) ∧
      t = { elapse dt s with seqr := t.seqr, dies := t.dies, units := t.units, slices := t.slices, paths := t.paths, ports := t.ports, mailboxes := t.mailboxes, turn := t.turn, objs := t.objs, output := t.output }) ∧
  (∀ dt d e rest s, d < s.dies.length → (die s d).recovering = none → (die s d).handling = e :: rest →
    e.kind = .record →
    ∃ t, exec (.eventHandling dt d) s = .next t ∧ (die t d).handling = rest ∧
      t = { elapse dt s with dies := t.dies, ports := t.ports, output := t.output }) ∧
  (∀ dt d e rest s, d < s.dies.length → (die s d).recovering = none → (die s d).handling = e :: rest →
    e.kind = .charge → puaDie e.pua = d ∨ (die s (puaDie e.pua)).status ≠ 1 →
    stateOf s e.pua ∈ [.quarantined, .retired, .absent] →
    ∃ t, exec (.eventHandling dt d) s = .next t ∧ (die t d).handling = rest ∧
      t = { elapse dt s with dies := t.dies, ports := t.ports, output := t.output }) ∧
  (∀ dt d e rest s, d < s.dies.length → (die s d).recovering = none → (die s d).handling = e :: rest →
    e.kind = .charge → puaDie e.pua ≠ d → (die s (puaDie e.pua)).status = 1 → puaDie e.pua < s.dies.length →
    (die s (puaDie e.pua)).handling.length < 4096 →
    ∃ t, exec (.eventHandling dt d) s = .next t ∧ (die t d).handling = rest ∧
      (die t (puaDie e.pua)).handling = (die s (puaDie e.pua)).handling ++ [e] ∧ (∀ p, unitRec t p = unitRec s p) ∧
      t = { elapse dt s with dies := t.dies, ports := t.ports, output := t.output }) ∧
  (∀ dt d e rest s, d < s.dies.length → (die s d).recovering = none → (die s d).handling = e :: rest →
    e.kind = .charge → puaDie e.pua = d ∨ (die s (puaDie e.pua)).status ≠ 1 → 0x10 ≤ e.cause → puaKind e.pua = 0 → usable (stateOf s e.pua) = true →
    (unitRec s e.pua).open_ = false →
    ∃ t, exec (.eventHandling dt d) s = .next t ∧ (die t d).handling = rest ∧
      stateOf t e.pua = .quarantined ∧ (unitRec t e.pua).cause = e.cause ∧
      (unitRec t e.pua).lifetime = satAdd 8 (unitRec s e.pua).lifetime 1 ∧
      (unitRec t e.pua).decisive = satAdd 16 (unitRec s e.pua).decisive 1)

/-- SHADOW_LOAD_ACK takes the Bridle off the list that the commit waits for and changes nothing else.
COMMIT_ACK_DEADLINE moves a scheduled commit that still waits to a later change count, counts the delay and
keeps every other commit. COMMIT_LAND of a scheduled commit of one binding, with every acknowledgement in and C
+ 32 reached, makes the maps those that the binding gives; a core binding leaves the new core bound to the LCN
and in service, the old one unbound. (R249, R250, R242) -/
def Obligations.CommitsWaitAndLand : Prop :=
  (∀ dt id (b : Pua) s, ∃ t, exec (.shadowLoadAck dt id b) s = .next t ∧
    (∀ c ∈ s.commits, c.id = id →
      { c with waiting := c.waiting.filter (· ≠ puaClusterKey b.toNat) } ∈ t.commits) ∧
    (∀ c ∈ s.commits, c.id ≠ id → c ∈ t.commits) ∧ t.commits.length = s.commits.length ∧
    t = { elapse dt s with commits := t.commits }) ∧
  (∀ dt id c s, s.commits.find? (fun c => c.id = id) = some c → c.scheduled = true → c.waiting ≠ [] →
    c.count ≤ pt (elapse dt s) + 20480 →
    ∃ t n, exec (.commitAckDeadline dt id) s = .next t ∧ 0 < n ∧
      { c with count := c.count + n * 102400 } ∈ t.commits ∧
      (∀ x ∈ s.commits, x.id ≠ id → x ∈ t.commits) ∧
      obj t (key 0x2909 4) 0 = obj s (key 0x2909 4) 0 + 1 ∧
      t = { elapse dt s with commits := t.commits, clusters := t.clusters, objs := t.objs }) ∧
  (∀ dt id c b s, s.commits.find? (fun c => c.id = id) = some c → c.scheduled = true → c.waiting = [] →
    c.count + 32 ≤ pt (elapse dt s) → c.bindings = [b] → c.quarantines = [] → s.forced = [] →
    ∃ t, exec (.commitLand dt id) s = .next t ∧
      t.lcnMap = (applyMap b s).lcnMap ∧ t.clusterMap = (applyMap b s).clusterMap ∧
      t.lanes = (applyMap b s).lanes ∧ t.zports = (applyMap b s).zports ∧
      t.channels = (applyMap b s).channels ∧ t.lostSlots = (applyMap b s).lostSlots ∧
      (∀ lcn old new, b = .core lcn old new → old ≠ new → isSpare (stateOf s new) = true →
        stateOf t new = .healthy ∧ (unitRec t new).bound = lcn ∧ (unitRec t old).bound = unbound))

/-- SLOT_SWITCH at C + 32 lets an armed slot run with C + 32 as its start and stops a running one with cause 0.
TRACE_PACKET puts a packet of the slot's content that the Bridle's trace queue takes behind the words of its
open chunk, with delta in its header, or adds branch outcomes to those held, which leave 32 at a time.
TRACE_FLUSH_TIMEOUT, 1 µs after the oldest outcome, writes the held outcomes as one word. CHUNK_IDLE_TIMEOUT
after 1 ms closes the open chunk. CHUNK_DRAIN puts the oldest full chunk at the region's next place and advances
it, or counts it as dropped in stop mode when the region is full. Other slots keep their state. (R415, R416,
R417, R418, R419, R420, R421, R422) -/
def Obligations.TraceCommandsTakeEffect : Prop :=
  (∀ dt d slot c x s, tget s.traces (d * 256 + slot) = some x → x.scheduled = some (c, true) → x.state = 1 →
    c + 32 ≤ keeperRead (elapse dt s) (fieldKeeper (traceField s x)) →
    ∃ t u, exec (.slotSwitch dt d slot) s = .next t ∧ tget t.traces (d * 256 + slot) = some u ∧
      u.state = 2 ∧ u.startPt = c + 32 ∧ u.scheduled = none ∧
      t = { elapse dt s with traces := t.traces }) ∧
  (∀ dt d slot c x s, tget s.traces (d * 256 + slot) = some x → x.scheduled = some (c, false) → x.state = 2 →
    c + 32 ≤ keeperRead (elapse dt s) (fieldKeeper (traceField s x)) →
    ∃ t u, exec (.slotSwitch dt d slot) s = .next t ∧ tget t.traces (d * 256 + slot) = some u ∧
      u.state = 3 ∧ u.stopCause = 0 ∧ u.scheduled = none ∧ t = { elapse dt s with dies := t.dies, fields := t.fields, clusters := t.clusters, traces := t.traces, views := t.views, turn := t.turn }) ∧
  (∀ dt d slot (p : Packet) x s, tget s.traces (d * 256 + slot) = some x → x.state = 2 → p.type ≠ 2 →
    (∀ b ∈ contentBit p.type, x.content.testBit b = true) → x.outcomes = [] → x.lost = none → x.chunk ≠ [] →
    x.chunk.length + 1 + p.extension.length < 508 →
    traceBacklog (elapse dt s) ((traceCluster s x).getD x.target) + 1 + p.extension.length ≤ 64 →
    let k := fieldKeeper (traceField s x)
    keeperRead (elapse dt s) k - x.lastTime ≤ 4095 →
    ∃ t u, exec (.tracePacket dt d slot p) s = .next t ∧ tget t.traces (d * 256 + slot) = some u ∧
      u.chunk = x.chunk ++ packetWords ((d * 256 + slot) % 256) p.type
        ((keeperRead (elapse dt s) k - x.lastTime) * 2 ^ 37 + p.body % 2 ^ 37)
        (keeperCoarse (elapse dt s) k) p.extension ∧
      (∀ j, j ≠ d * 256 + slot → tget t.traces j = tget s.traces j) ∧
      t = { elapse dt s with fields := t.fields, clusters := t.clusters, traces := t.traces, views := t.views, turn := t.turn }) ∧
  (∀ dt d slot (p : Packet) x s, tget s.traces (d * 256 + slot) = some x → x.state = 2 → p.type = 2 →
    (∀ b ∈ contentBit 2, x.content.testBit b = true) →
    let new := (List.range (p.body / 2 ^ 32 % 32 + 1)).map fun i => p.body.testBit i
    ∃ t u, exec (.tracePacket dt d slot p) s = .next t ∧ tget t.traces (d * 256 + slot) = some u ∧
      u.outcomes = (if x.outcomes.length + new.length < 32 then x.outcomes ++ new else (x.outcomes ++ new).drop 32) ∧
      (∀ j, j ≠ d * 256 + slot → tget t.traces j = tget s.traces j) ∧
      t = { elapse dt s with fields := t.fields, clusters := t.clusters, traces := t.traces, views := t.views, turn := t.turn }) ∧
  (∀ dt d slot x s, tget s.traces (d * 256 + slot) = some x → x.state = 2 → x.outcomeAt + 1000 ≤ s.now + dt →
    x.outcomes ≠ [] → x.lost = none → x.chunk ≠ [] → x.chunk.length < 507 →
    traceBacklog (elapse dt s) ((traceCluster s x).getD x.target) < 64 →
    keeperRead (elapse dt s) (fieldKeeper (traceField s x)) - x.lastTime ≤ 4095 →
    ∃ t u, exec (.traceFlushTimeout dt d slot) s = .next t ∧ tget t.traces (d * 256 + slot) = some u ∧
      u.outcomes = [] ∧ (∃ w, u.chunk = x.chunk ++ [w]) ∧
      (∀ j, j ≠ d * 256 + slot → tget t.traces j = tget s.traces j) ∧
      t = { elapse dt s with fields := t.fields, clusters := t.clusters, traces := t.traces, views := t.views, turn := t.turn }) ∧
  (∀ dt d slot x s, tget s.traces (d * 256 + slot) = some x → x.chunk ≠ [] → x.lastPacket + 1000000 ≤ s.now + dt →
    ∃ t u, exec (.chunkIdleTimeout dt d slot) s = .next t ∧ tget t.traces (d * 256 + slot) = some u ∧
      u.chunk = [] ∧ u.full = x.full ++ [(x.chunkFirst, chunkBytes s ((d * 256 + slot) % 256) x)] ∧
      u.chunkNumber = x.chunkNumber + 1 ∧ (∀ j, j ≠ d * 256 + slot → tget t.traces j = tget s.traces j) ∧
      t = { elapse dt s with traces := t.traces }) ∧
  (∀ dt d slot x c rest s, d < s.dies.length → slot < 256 → (die s d).recovering = none → s.ripcord.state ≠ 2 →
    tget s.traces (d * 256 + slot) = some x → x.full = c :: rest → (tgetD (die s d).regions 1 none).isSome = true →
    ((die s d).traceMode = 0 ∨ (die s d).traceNext < 16383) →
    ∃ t u, exec (.chunkDrain dt d slot) s = .next t ∧ tget t.traces (d * 256 + slot) = some u ∧ u.full = rest ∧
      tget (die t d).traceRegion (die s d).traceNext = some c.2 ∧
      (die t d).traceNext =
        (if (die s d).traceMode = 0 then ((die s d).traceNext + 1) % 16384 else (die s d).traceNext + 1) ∧
      t = { elapse dt s with traces := t.traces, dies := t.dies, views := t.views }) ∧
  (∀ dt d slot x c rest s, d < s.dies.length → slot < 256 → (die s d).recovering = none → s.ripcord.state ≠ 2 →
    tget s.traces (d * 256 + slot) = some x → x.full = c :: rest → (die s d).traceMode ≠ 0 →
    16383 ≤ (die s d).traceNext → x.state ≠ 3 → x.dropped = none →
    ∃ t u, exec (.chunkDrain dt d slot) s = .next t ∧ tget t.traces (d * 256 + slot) = some u ∧ u.full = rest ∧
      u.dropped = some (1, c.1, c.1) ∧ (die t d).traceRegion = (die s d).traceRegion ∧
      t = { elapse dt s with traces := t.traces, dies := t.dies, views := t.views })

/-- COMMAND_ACCEPT appends the command to those of the cluster, with the hang mode in force and its external wait,
and counts it. COMMAND_COMPLETE takes it out, counts it and is a progress event. SYNC_OBJECT_SIGNAL counts the
object on modulo 2^32, ends the external waits, and is a progress event. A progress event notes the Bridle's
time and starts the progress window again. Other clusters stay. (R265, R266, R267, R269, R270, R406) -/
def Obligations.CommandsOfAControlCore : Prop :=
  (∀ dt (p : Pua) c s,
    let ck := puaClusterKey p.toNat
    let view := fun (o : OpenCommand) => (o.command, o.started, o.timeoutMode, o.waiting)
    ∃ t, exec (.commandAccept dt p c) s = .next t ∧
      (cluster t ck).commands.map view =
        (cluster s ck).commands.map view ++ [(c, false, decide (hangMode s (sliceOfCluster s ck) = 1), c.externalWait)] ∧
      tgetD (cluster t ck).counters 0x0101 0 = tgetD (cluster s ck).counters 0x0101 0 + 1 ∧
      (∀ x, x ≠ ck → cluster t x = cluster s x) ∧ t = { elapse dt s with fields := t.fields, clusters := t.clusters, traces := t.traces, views := t.views, turn := t.turn }) ∧
  (∀ dt (p : Pua) id s,
    let ck := puaClusterKey p.toNat
    (cluster s ck).commands.any (fun o => o.command.id = id) = true →
    ∃ t, exec (.commandComplete dt p id) s = .next t ∧
      (cluster t ck).commands.map (·.command) = ((cluster s ck).commands.map (·.command)).filter (·.id ≠ id) ∧
      tgetD (cluster t ck).counters 0x0102 0 = tgetD (cluster s ck).counters 0x0102 0 + 1 ∧
      (cluster t ck).lastProgress = bridleTime (elapse dt s) ck ∧ (cluster t ck).window.total = 0 ∧
      (∀ x, x ≠ ck → cluster t x = cluster s x) ∧ t = { elapse dt s with fields := t.fields, clusters := t.clusters, traces := t.traces, views := t.views, turn := t.turn }) ∧
  (∀ dt (p : Pua) object s,
    let ck := puaClusterKey p.toNat
    ∃ t, exec (.syncObjectSignal dt p object) s = .next t ∧
      tgetD (cluster t ck).sync object 0 = (tgetD (cluster s ck).sync object 0 + 1) % 2 ^ 32 ∧
      (∀ o ∈ (cluster t ck).commands, o.waiting = false) ∧
      (cluster t ck).commands.map (·.command) = (cluster s ck).commands.map (·.command) ∧
      (cluster t ck).lastProgress = bridleTime (elapse dt s) ck ∧ (cluster t ck).window.total = 0 ∧
      (∀ x, x ≠ ck → cluster t x = cluster s x) ∧ t = { elapse dt s with fields := t.fields, clusters := t.clusters, traces := t.traces, views := t.views, turn := t.turn })

/-- PROGRESS_WINDOW_EXPIRY, and COMMAND_TIMEOUT on the Bridle's timer, declare a cluster hang: the last progress and
the head command are kept, issue is held and the window stops. COMMAND_TIMEOUT of a core in a cluster that still
makes progress resets that core only, while its escalation count is not reached. HANG_REPORT_REPEAT sends the
report again. HANG_HANDLING takes the entry and resets the cluster, or ends the slice without a reset when
enough of its clusters hang at once. (R268, R269, R271, R273, R280, R298) -/
def Obligations.HangsAreDeclaredAndHandled : Prop :=
  (∀ dt (p : Pua) s,
    let ck := puaClusterKey p.toNat
    (cluster s ck).hang = none → (cluster s ck).commands.any (fun o => !o.timeoutMode) = true →
    obj s (key 0x2C02 0) 10 * 1000000 ≤ (cluster s ck).window.read (s.now + dt) →
    ∃ t, exec (.progressWindowExpiry dt p) s = .next t ∧
      (cluster t ck).hang = some ((cluster s ck).lastProgress, ((cluster s ck).commands.head?.map (·.command.id)).getD 0) ∧
      7 ∈ (cluster t ck).holds ∧ (cluster t ck).window.since = none ∧ t = { elapse dt s with dies := t.dies, fields := t.fields, clusters := t.clusters, slices := t.slices, traces := t.traces, views := t.views, turn := t.turn }) ∧
  (∀ dt (p : Pua) id o s,
    let ck := puaClusterKey p.toNat
    (cluster s ck).hang = none →
    (cluster s ck).commands.find? (fun o => o.command.id = id && o.timeoutMode) = some o → o.started = false →
    commandTimeoutNs s o.command ≤ o.timer.read (s.now + dt) →
    ∃ t, exec (.commandTimeout dt p id none) s = .next t ∧
      (cluster t ck).hang = some ((cluster s ck).lastProgress, ((cluster s ck).commands.head?.map (·.command.id)).getD 0) ∧
      7 ∈ (cluster t ck).holds ∧ (cluster t ck).window.since = none ∧ t = { elapse dt s with dies := t.dies, fields := t.fields, clusters := t.clusters, slices := t.slices, traces := t.traces, views := t.views, turn := t.turn }) ∧
  (∀ dt (p : Pua) id o i w s,
    let ck := puaClusterKey p.toNat
    puaValid s.variant p.toNat = true → i < 17 → (cluster s ck).hang = none →
    (cluster s ck).commands.find? (fun o => o.command.id = id && o.timeoutMode) = some o →
    tget o.cores i = some w → commandTimeoutNs s o.command ≤ w.read (s.now + dt) →
    (cluster s ck).window.read (s.now + dt) < commandTimeoutNs s o.command →
    resetsWithin (elapse dt s) 0 (corePua ck i) < obj s (key 0x2C06 0) 3 →
    ∃ t, exec (.commandTimeout dt p id (some i)) s = .next t ∧
      (Machine.core t (corePua ck i)).resetRun = some ⟨0, s.now + dt, false, false⟩ ∧
      (Machine.core t (corePua ck i)).tile = none ∧
      (Machine.core t (corePua ck i)).epoch = ((Machine.core s (corePua ck i)).epoch + 1) % 4 ∧
      (cluster t ck).hang = none ∧ t = { elapse dt s with ptStarted := t.ptStarted, anchorDie := t.anchorDie, standby := t.standby, takenOver := t.takenOver, keepers := t.keepers, seqr := t.seqr, dies := t.dies, fields := t.fields, units := t.units, lcnMap := t.lcnMap, clusterMap := t.clusterMap, lanes := t.lanes, channels := t.channels, zports := t.zports, lostSlots := t.lostSlots, unreachable := t.unreachable, lcns := t.lcns, cores := t.cores, clusters := t.clusters, slices := t.slices, recomputes := t.recomputes, tieBreaks := t.tieBreaks, thirds := t.thirds, transfers := t.transfers, follows := t.follows, inFlight := t.inFlight, copies := t.copies, commits := t.commits, nextCommit := t.nextCommit, ripcord := t.ripcord, qualifying := t.qualifying, packageReset := t.packageReset, ports := t.ports, snapshot := t.snapshot, traces := t.traces, views := t.views, kept := t.kept, keptB := t.keptB, turn := t.turn, screens := t.screens, objs := t.objs, output := t.output, free := t.free }) ∧
  (∀ dt (p : Pua) h s,
    let ck := puaClusterKey p.toNat
    puaValid s.variant p.toNat = true → puaKind p.toNat = 7 → s.fields.length = 24 →
    (cluster s ck).hang = some h → (cluster s ck).hangReported + 10000000 ≤ s.now + dt →
    (field s (ckField ck)).queue.length < 1024 →
    (∀ e ∈ s.clusters, ckField e.1 = ckField ck → e.2.queue = []) →
    ∃ t e, exec (.hangReportRepeat dt p) s = .next t ∧ (cluster t ck).hang = some h ∧
      (cluster t ck).hangReported = s.now + dt ∧ (field t (ckField ck)).queue = (field s (ckField ck)).queue ++ [e] ∧
      e.kind = .hang ∧ e.pua = clusterPua 7 ck ∧ e.code = 0 ∧ t = { elapse dt s with dies := t.dies, fields := t.fields, clusters := t.clusters, turn := t.turn }) ∧
  (∀ dt d e rest s,
    let ck := puaClusterKey e.pua
    d < s.dies.length → (die s d).recovering = none → (die s d).handling = e :: rest → e.kind = .hang →
    (cluster s ck).hang ≠ none → (unitRec s e.pua).open_ = false →
    (sliceOfCluster s ck = 0 ∨ (hungClusters (elapse dt s) (sliceOfCluster s ck)).length < obj s (key 0x2C04 0) 8) →
    resetsWithin (elapse dt s) 1 e.pua < obj s (key 0x2C06 0) 3 →
    ∃ t, exec (.hangHandling dt d) s = .next t ∧ (die t d).handling = rest ∧ (cluster t ck).hang = none ∧
      (cluster t ck).resetRun = some ⟨1, s.now + dt, false, false⟩ ∧ 8 ∈ (cluster t ck).holds ∧
      t = { elapse dt s with ptStarted := t.ptStarted, anchorDie := t.anchorDie, standby := t.standby, takenOver := t.takenOver, keepers := t.keepers, seqr := t.seqr, dies := t.dies, fields := t.fields, units := t.units, lcnMap := t.lcnMap, clusterMap := t.clusterMap, lanes := t.lanes, channels := t.channels, zports := t.zports, lostSlots := t.lostSlots, unreachable := t.unreachable, lcns := t.lcns, cores := t.cores, clusters := t.clusters, slices := t.slices, recomputes := t.recomputes, tieBreaks := t.tieBreaks, thirds := t.thirds, transfers := t.transfers, follows := t.follows, inFlight := t.inFlight, copies := t.copies, commits := t.commits, nextCommit := t.nextCommit, ripcord := t.ripcord, qualifying := t.qualifying, packageReset := t.packageReset, ports := t.ports, snapshot := t.snapshot, traces := t.traces, views := t.views, kept := t.kept, keptB := t.keptB, turn := t.turn, screens := t.screens, objs := t.objs, output := t.output, free := t.free }) ∧
  (∀ dt d e rest x s,
    let ck := puaClusterKey e.pua
    let k := sliceOfCluster s ck
    d < s.dies.length → (die s d).recovering = none → (die s d).handling = e :: rest → e.kind = .hang →
    (cluster s ck).hang ≠ none → (unitRec s e.pua).open_ = false → k ≠ 0 → slice s k = some x → x.life = .running →
    obj s (key 0x2C04 0) 8 ≤ (hungClusters (elapse dt s) k).length →
    ∃ t y, exec (.hangHandling dt d) s = .next t ∧ (die t d).handling = rest ∧ slice t k = some y ∧
      y.life = .ending ∧ y.abandon = true ∧ (∀ c, (cluster t c).resetRun = (cluster s c).resetRun) ∧
      t = { elapse dt s with ptStarted := t.ptStarted, anchorDie := t.anchorDie, standby := t.standby, takenOver := t.takenOver, keepers := t.keepers, seqr := t.seqr, dies := t.dies, fields := t.fields, units := t.units, lcnMap := t.lcnMap, clusterMap := t.clusterMap, lanes := t.lanes, channels := t.channels, zports := t.zports, lostSlots := t.lostSlots, unreachable := t.unreachable, lcns := t.lcns, cores := t.cores, clusters := t.clusters, slices := t.slices, recomputes := t.recomputes, tieBreaks := t.tieBreaks, thirds := t.thirds, transfers := t.transfers, follows := t.follows, inFlight := t.inFlight, copies := t.copies, commits := t.commits, nextCommit := t.nextCommit, ripcord := t.ripcord, qualifying := t.qualifying, packageReset := t.packageReset, ports := t.ports, snapshot := t.snapshot, traces := t.traces, views := t.views, kept := t.kept, keptB := t.keptB, turn := t.turn, screens := t.screens, objs := t.objs, output := t.output, free := t.free })

/-- BRIDLE_PROBE notes the moment. BRIDLE_PROBE_TIMEOUT after 10 µs resets the cluster, or Quarantines the Bridle
once its escalation count is reached. FIELD_AGENT_HEARTBEAT_TIMEOUT resets the Field Agent, or fences the field.
GONDOLA_WATCHDOG_TIMEOUT and LOCKSTEP_DISAGREEMENT let the Gondola recover. LOCKSTEP_FAULT_NOTICE moves the
Anchor role to CD1, whose takeover event has the number after the last one mirrored (before numbers have
returned it waits), and lets CD0 recover. A recovering Gondola decides none of these. RESET_TIMEOUT resets the
next larger domain or stops the dies after a package reset. TRANSIT_DRAIN_END begins the reset of the die. (R58,
R61, R62, R272, R280, R284, R285, R298) -/
def Obligations.ResetsAndRecoveriesOfUnits : Prop :=
  (∀ dt (p : Pua) s, ∃ t, exec (.bridleProbe dt p) s = .next t ∧
    (cluster t (puaClusterKey p.toNat)).probed = some (s.now + dt) ∧
    (∀ x, x ≠ puaClusterKey p.toNat → cluster t x = cluster s x) ∧ t = { elapse dt s with clusters := t.clusters, turn := t.turn }) ∧
  (∀ dt (p : Pua) a s,
    let ck := puaClusterKey p.toNat
    (cluster s ck).probed = some a → a + 10000 ≤ s.now + dt →
    (die s (puaDie p.toNat)).recovering = none → (cluster s ck).resetRun = none →
    resetsWithin (elapse dt s) 1 p.toNat < obj s (key 0x2C06 0) 3 →
    ∃ t, exec (.bridleProbeTimeout dt p) s = .next t ∧ (cluster t ck).probed = none ∧
      (cluster t ck).resetRun = some ⟨1, s.now + dt, false, false⟩ ∧ 8 ∈ (cluster t ck).holds ∧
      t = { elapse dt s with ptStarted := t.ptStarted, anchorDie := t.anchorDie, standby := t.standby, takenOver := t.takenOver, keepers := t.keepers, seqr := t.seqr, dies := t.dies, fields := t.fields, units := t.units, lcnMap := t.lcnMap, clusterMap := t.clusterMap, lanes := t.lanes, channels := t.channels, zports := t.zports, lostSlots := t.lostSlots, unreachable := t.unreachable, lcns := t.lcns, cores := t.cores, clusters := t.clusters, slices := t.slices, recomputes := t.recomputes, tieBreaks := t.tieBreaks, thirds := t.thirds, transfers := t.transfers, follows := t.follows, inFlight := t.inFlight, copies := t.copies, commits := t.commits, nextCommit := t.nextCommit, ripcord := t.ripcord, qualifying := t.qualifying, packageReset := t.packageReset, ports := t.ports, snapshot := t.snapshot, traces := t.traces, views := t.views, kept := t.kept, keptB := t.keptB, turn := t.turn, screens := t.screens, objs := t.objs, output := t.output, free := t.free }) ∧
  (∀ dt (p : Pua) a s,
    let ck := puaClusterKey p.toNat
    (cluster s ck).probed = some a → a + 10000 ≤ s.now + dt →
    (die s (puaDie p.toNat)).recovering = none → (cluster s ck).resetRun = none →
    (unitRec s (domainPua 1 p.toNat)).open_ = false →
    obj s (key 0x2C06 0) 3 ≤ resetsWithin (elapse dt s) 1 p.toNat → usable (stateOf s (domainPua 1 p.toNat)) = true →
    puaKind (domainPua 1 p.toNat) = 7 → puaClusterKey (domainPua 1 p.toNat) = ck →
    ∃ t, exec (.bridleProbeTimeout dt p) s = .next t ∧ stateOf t (domainPua 1 p.toNat) = .quarantined ∧
      (unitRec t (domainPua 1 p.toNat)).cause = 0x17 ∧ obj t (key 0x2C14 1) 0 = obj s (key 0x2C14 1) 0 + 1 ∧
      t = { elapse dt s with ptStarted := t.ptStarted, anchorDie := t.anchorDie, standby := t.standby, takenOver := t.takenOver, keepers := t.keepers, seqr := t.seqr, dies := t.dies, fields := t.fields, units := t.units, lcnMap := t.lcnMap, clusterMap := t.clusterMap, lanes := t.lanes, channels := t.channels, zports := t.zports, lostSlots := t.lostSlots, unreachable := t.unreachable, lcns := t.lcns, cores := t.cores, clusters := t.clusters, slices := t.slices, recomputes := t.recomputes, tieBreaks := t.tieBreaks, thirds := t.thirds, transfers := t.transfers, follows := t.follows, inFlight := t.inFlight, copies := t.copies, commits := t.commits, nextCommit := t.nextCommit, ripcord := t.ripcord, qualifying := t.qualifying, packageReset := t.packageReset, ports := t.ports, snapshot := t.snapshot, traces := t.traces, views := t.views, kept := t.kept, keptB := t.keptB, turn := t.turn, screens := t.screens, objs := t.objs, output := t.output, free := t.free }) ∧
  (∀ dt (p : Pua) s,
    let f := puaFieldIdx p.toNat
    f < s.fields.length → (field s f).resetRun = none → (field s f).fenced = false →
    (die s (puaDie p.toNat)).recovering = none →
    ∃ t, exec (.fieldAgentHeartbeatTimeout dt p) s = .next t ∧
      (resetsWithin (elapse dt s) 2 p.toNat < obj s (key 0x2C06 0) 3 →
        (field t f).resetRun = some ⟨2, s.now + dt, false, false⟩) ∧
      (obj s (key 0x2C06 0) 3 ≤ resetsWithin (elapse dt s) 2 p.toNat →
        (field t f).fenced = true ∧ (field t f).power = 3) ∧ t = { elapse dt s with ptStarted := t.ptStarted, anchorDie := t.anchorDie, standby := t.standby, takenOver := t.takenOver, keepers := t.keepers, seqr := t.seqr, dies := t.dies, fields := t.fields, units := t.units, lcnMap := t.lcnMap, clusterMap := t.clusterMap, lanes := t.lanes, channels := t.channels, zports := t.zports, lostSlots := t.lostSlots, unreachable := t.unreachable, lcns := t.lcns, cores := t.cores, clusters := t.clusters, slices := t.slices, recomputes := t.recomputes, tieBreaks := t.tieBreaks, thirds := t.thirds, transfers := t.transfers, follows := t.follows, inFlight := t.inFlight, copies := t.copies, commits := t.commits, nextCommit := t.nextCommit, ripcord := t.ripcord, qualifying := t.qualifying, packageReset := t.packageReset, ports := t.ports, snapshot := t.snapshot, traces := t.traces, views := t.views, kept := t.kept, keptB := t.keptB, turn := t.turn, screens := t.screens, objs := t.objs, output := t.output, free := t.free }) ∧
  (∀ dt d s, d < 4 → d < s.dies.length → (die s d).status = 1 → (die s d).recovering = none →
    resetsWithin (elapse dt s) 3 (diePua d) < obj s (key 0x2C06 0) 3 →
    (∃ t, exec (.gondolaWatchdogTimeout dt d) s = .next t ∧ (die t d).recovering = some (s.now + dt) ∧
      (die t d).resetRun = some ⟨3, s.now + dt, false, false⟩ ∧ t = { elapse dt s with ptStarted := t.ptStarted, anchorDie := t.anchorDie, standby := t.standby, takenOver := t.takenOver, keepers := t.keepers, seqr := t.seqr, dies := t.dies, fields := t.fields, units := t.units, lcnMap := t.lcnMap, clusterMap := t.clusterMap, lanes := t.lanes, channels := t.channels, zports := t.zports, lostSlots := t.lostSlots, unreachable := t.unreachable, lcns := t.lcns, cores := t.cores, clusters := t.clusters, slices := t.slices, recomputes := t.recomputes, tieBreaks := t.tieBreaks, thirds := t.thirds, transfers := t.transfers, follows := t.follows, inFlight := t.inFlight, copies := t.copies, commits := t.commits, nextCommit := t.nextCommit, ripcord := t.ripcord, qualifying := t.qualifying, packageReset := t.packageReset, ports := t.ports, snapshot := t.snapshot, traces := t.traces, views := t.views, kept := t.kept, keptB := t.keptB, turn := t.turn, screens := t.screens, objs := t.objs, output := t.output, free := t.free }) ∧
    (∃ t, exec (.lockstepDisagreement dt d) s = .next t ∧ (die t d).recovering = some (s.now + dt) ∧
      (die t d).resetRun = some ⟨3, s.now + dt, false, false⟩ ∧
      (s.variant = .dh25 → ∀ f ∈ fieldIdxs s, f < s.fields.length → 6 ∈ (field t f).holds) ∧
      t = { elapse dt s with ptStarted := t.ptStarted, anchorDie := t.anchorDie, standby := t.standby, takenOver := t.takenOver, keepers := t.keepers, seqr := t.seqr, dies := t.dies, fields := t.fields, units := t.units, lcnMap := t.lcnMap, clusterMap := t.clusterMap, lanes := t.lanes, channels := t.channels, zports := t.zports, lostSlots := t.lostSlots, unreachable := t.unreachable, lcns := t.lcns, cores := t.cores, clusters := t.clusters, slices := t.slices, recomputes := t.recomputes, tieBreaks := t.tieBreaks, thirds := t.thirds, transfers := t.transfers, follows := t.follows, inFlight := t.inFlight, copies := t.copies, commits := t.commits, nextCommit := t.nextCommit, ripcord := t.ripcord, qualifying := t.qualifying, packageReset := t.packageReset, ports := t.ports, snapshot := t.snapshot, traces := t.traces, views := t.views, kept := t.kept, keptB := t.keptB, turn := t.turn, screens := t.screens, objs := t.objs, output := t.output, free := t.free })) ∧
  (∀ dt s, s.standby = true → s.anchorDie = 0 → s.variant = .dh100 → s.dies.length = 4 → (die s 0).status = 1 →
    (die s 1).status = 1 → numbersReturned s = true → s.seqr.mirrored % 2 ^ 48 + 2 < 2 ^ 48 →
    (die s 0).recovering = none → resetsWithin (elapse dt s) 3 (diePua 0) < obj s (key 0x2C06 0) 3 →
    ∃ t, exec (.lockstepFaultNotice dt) s = .next t ∧ t.anchorDie = 1 ∧ t.standby = false ∧ t.takenOver = true ∧
      (die t 0).recovering = some (s.now + dt) ∧ t.seqr.next = s.seqr.mirrored + 2 ∧
      (∀ d < 4, (die s d).status ≠ 2 →
        ∃ n ∈ (die t d).returns, n.event.code = 0x2201 ∧ n.position = s.seqr.mirrored + 1) ∧
      t = { elapse dt s with ptStarted := t.ptStarted, anchorDie := t.anchorDie, standby := t.standby, takenOver := t.takenOver, keepers := t.keepers, seqr := t.seqr, dies := t.dies, fields := t.fields, units := t.units, lcnMap := t.lcnMap, clusterMap := t.clusterMap, lanes := t.lanes, channels := t.channels, zports := t.zports, lostSlots := t.lostSlots, unreachable := t.unreachable, lcns := t.lcns, cores := t.cores, clusters := t.clusters, slices := t.slices, recomputes := t.recomputes, tieBreaks := t.tieBreaks, thirds := t.thirds, transfers := t.transfers, follows := t.follows, inFlight := t.inFlight, copies := t.copies, commits := t.commits, nextCommit := t.nextCommit, ripcord := t.ripcord, qualifying := t.qualifying, packageReset := t.packageReset, ports := t.ports, snapshot := t.snapshot, traces := t.traces, views := t.views, kept := t.kept, keptB := t.keptB, turn := t.turn, screens := t.screens, objs := t.objs, output := t.output, free := t.free }) ∧
  (∀ dt s, s.standby = true → s.anchorDie = 0 → s.variant = .dh100 → s.dies.length = 4 → (die s 1).status = 1 →
    numbersReturned s = false →
    ∃ t, exec (.lockstepFaultNotice dt) s = .next t ∧ t.anchorDie = 1 ∧
      (∃ e ∈ (die t 1).local_, e.code = 0x2201) ∧ t = { elapse dt s with ptStarted := t.ptStarted, anchorDie := t.anchorDie, standby := t.standby, takenOver := t.takenOver, keepers := t.keepers, seqr := t.seqr, dies := t.dies, fields := t.fields, units := t.units, lcnMap := t.lcnMap, clusterMap := t.clusterMap, lanes := t.lanes, channels := t.channels, zports := t.zports, lostSlots := t.lostSlots, unreachable := t.unreachable, lcns := t.lcns, cores := t.cores, clusters := t.clusters, slices := t.slices, recomputes := t.recomputes, tieBreaks := t.tieBreaks, thirds := t.thirds, transfers := t.transfers, follows := t.follows, inFlight := t.inFlight, copies := t.copies, commits := t.commits, nextCommit := t.nextCommit, ripcord := t.ripcord, qualifying := t.qualifying, packageReset := t.packageReset, ports := t.ports, snapshot := t.snapshot, traces := t.traces, views := t.views, kept := t.kept, keptB := t.keptB, turn := t.turn, screens := t.screens, objs := t.objs, output := t.output, free := t.free }) ∧
  (∀ dt (p : Pua) r s, (Machine.core s p.toNat).resetRun = some r → r.started + recoveryLimit 0 ≤ s.now + dt →
    (die s (puaDie p.toNat)).recovering = none →
    resetsWithin (elapse dt s) 1 p.toNat < obj s (key 0x2C06 0) 3 →
    ∃ t, exec (.resetTimeout dt p 0) s = .next t ∧ (Machine.core t p.toNat).resetRun = none ∧
      (cluster t (puaClusterKey p.toNat)).resetRun = some ⟨1, s.now + dt, false, false⟩ ∧ t = { elapse dt s with ptStarted := t.ptStarted, anchorDie := t.anchorDie, standby := t.standby, takenOver := t.takenOver, keepers := t.keepers, seqr := t.seqr, dies := t.dies, fields := t.fields, units := t.units, lcnMap := t.lcnMap, clusterMap := t.clusterMap, lanes := t.lanes, channels := t.channels, zports := t.zports, lostSlots := t.lostSlots, unreachable := t.unreachable, lcns := t.lcns, cores := t.cores, clusters := t.clusters, slices := t.slices, recomputes := t.recomputes, tieBreaks := t.tieBreaks, thirds := t.thirds, transfers := t.transfers, follows := t.follows, inFlight := t.inFlight, copies := t.copies, commits := t.commits, nextCommit := t.nextCommit, ripcord := t.ripcord, qualifying := t.qualifying, packageReset := t.packageReset, ports := t.ports, snapshot := t.snapshot, traces := t.traces, views := t.views, kept := t.kept, keptB := t.keptB, turn := t.turn, screens := t.screens, objs := t.objs, output := t.output, free := t.free }) ∧
  (∀ dt (p : Pua) r s, (cluster s (puaClusterKey p.toNat)).resetRun = some r → r.started + recoveryLimit 1 ≤ s.now + dt →
    (die s (puaDie p.toNat)).recovering = none → canReturn s 1 p.toNat = true →
    puaFieldIdx p.toNat < s.fields.length → resetsWithin (elapse dt s) 4 p.toNat < obj s (key 0x2C06 0) 3 →
    ∃ t, exec (.resetTimeout dt p 1) s = .next t ∧
      (field t (puaFieldIdx p.toNat)).resetRun = some ⟨4, s.now + dt, false, false⟩ ∧
      8 ∈ (field t (puaFieldIdx p.toNat)).holds ∧ t = { elapse dt s with ptStarted := t.ptStarted, anchorDie := t.anchorDie, standby := t.standby, takenOver := t.takenOver, keepers := t.keepers, seqr := t.seqr, dies := t.dies, fields := t.fields, units := t.units, lcnMap := t.lcnMap, clusterMap := t.clusterMap, lanes := t.lanes, channels := t.channels, zports := t.zports, lostSlots := t.lostSlots, unreachable := t.unreachable, lcns := t.lcns, cores := t.cores, clusters := t.clusters, slices := t.slices, recomputes := t.recomputes, tieBreaks := t.tieBreaks, thirds := t.thirds, transfers := t.transfers, follows := t.follows, inFlight := t.inFlight, copies := t.copies, commits := t.commits, nextCommit := t.nextCommit, ripcord := t.ripcord, qualifying := t.qualifying, packageReset := t.packageReset, ports := t.ports, snapshot := t.snapshot, traces := t.traces, views := t.views, kept := t.kept, keptB := t.keptB, turn := t.turn, screens := t.screens, objs := t.objs, output := t.output, free := t.free }) ∧
  (∀ dt (p : Pua) r s, s.packageReset = some r → r.started + recoveryLimit 7 ≤ s.now + dt →
    ∃ t, exec (.resetTimeout dt p 7) s = .next t ∧ t.packageReset = none ∧ (∀ x ∈ t.dies, x.status ≠ 1) ∧
      t = { elapse dt s with ptStarted := t.ptStarted, anchorDie := t.anchorDie, standby := t.standby, takenOver := t.takenOver, keepers := t.keepers, seqr := t.seqr, dies := t.dies, fields := t.fields, units := t.units, lcnMap := t.lcnMap, clusterMap := t.clusterMap, lanes := t.lanes, channels := t.channels, zports := t.zports, lostSlots := t.lostSlots, unreachable := t.unreachable, lcns := t.lcns, cores := t.cores, clusters := t.clusters, slices := t.slices, recomputes := t.recomputes, tieBreaks := t.tieBreaks, thirds := t.thirds, transfers := t.transfers, follows := t.follows, inFlight := t.inFlight, copies := t.copies, commits := t.commits, nextCommit := t.nextCommit, ripcord := t.ripcord, qualifying := t.qualifying, packageReset := t.packageReset, ports := t.ports, snapshot := t.snapshot, traces := t.traces, views := t.views, kept := t.kept, keptB := t.keptB, turn := t.turn, screens := t.screens, objs := t.objs, output := t.output, free := t.free }) ∧
  (∀ dt d r s, d < s.dies.length → (die s d).resetRun = some r → r.draining = true → d * 6 + 6 ≤ s.fields.length →
    (∀ c ∈ s.commits, .around (diePua d) ∉ c.bindings) →
    ∃ t, exec (.transitDrainEnd dt d) s = .next t ∧
      (die t d).resetRun = some { r with draining := false, started := s.now + dt } ∧
      (∀ i < 6, 8 ∈ (field t (d * 6 + i)).holds) ∧ t = { elapse dt s with dies := t.dies, fields := t.fields, cores := t.cores, clusters := t.clusters, recomputes := t.recomputes, tieBreaks := t.tieBreaks, thirds := t.thirds, traces := t.traces, views := t.views, turn := t.turn })

/-- CAPTURE_COMPLETE makes the die's oldest capture in progress valid and raises its record; with the last capture
of an orderly stop every die takes its end-of-run mark. STOP_COUNT_CUT at S + 32 passes to the cut: every field
holds issue, changes at or after the stop count go, a package reset stops. RIPCORD_ARRIVAL of an emergency
Ripcord lets a die that has not acted act once: it holds issue in its fields. (R278, R293, R294, R295, R375) -/
def Obligations.StopAndCapture : Prop :=
  (∀ dt d c rest s, d < s.dies.length → (die s d).capturing = c :: rest →
    ∃ t, exec (.captureComplete dt d) s = .next t ∧ (die t d).capturing = rest ∧
      (die t d).captures = (die s d).captures ++ [{ c with valid := true }] ∧
      (∃ e ∈ (die t d).local_, e.code = 0x2C01) ∧
      (c.code = 0xFF → c.reason = 6 → s.ripcord.state = 2 → rest = [] →
        (∀ x < s.dies.length, x ≠ d → (die s x).capturing = []) →
        ∀ x < s.dies.length, (die t x).endMark = s.ripcord.target) ∧ t = { elapse dt s with keepers := t.keepers, dies := t.dies, fields := t.fields, clusters := t.clusters, slices := t.slices, ripcord := t.ripcord, kept := t.kept, keptB := t.keptB, turn := t.turn, objs := t.objs, output := t.output }) ∧
  (∀ dt landed s, s.ripcord.state = 1 → s.ripcord.stop + 32 ≤ pt (elapse dt s) →
    ∃ t, exec (.stopCountCut dt landed) s = .next t ∧ t.ripcord.state = 2 ∧ t.packageReset = none ∧
      (∀ f ∈ fieldIdxs s, f < s.fields.length → 9 ∈ (field t f).holds) ∧
      t.changes = s.changes.filter (fun c => decide (c.count < s.ripcord.stop)) ∧ t = { elapse dt s with keepers := t.keepers, dies := t.dies, fields := t.fields, units := t.units, fmax := t.fmax, lcnMap := t.lcnMap, clusterMap := t.clusterMap, lanes := t.lanes, channels := t.channels, zports := t.zports, lostSlots := t.lostSlots, unreachable := t.unreachable, lcns := t.lcns, cores := t.cores, clusters := t.clusters, slices := t.slices, changes := t.changes, commits := t.commits, nextCommit := t.nextCommit, ripcord := t.ripcord, packageReset := t.packageReset, traces := t.traces, views := t.views, kept := t.kept, keptB := t.keptB, freqs := t.freqs, turn := t.turn, screens := t.screens, objs := t.objs, output := t.output, free := t.free }) ∧
  (∀ dt d w s, s.ripcord.state = 3 →
    ∃ t, exec (.ripcordArrival dt d w) s = .next t ∧
      (d ∈ s.ripcord.acted → t = elapse dt s) ∧
      (d ∉ s.ripcord.acted → t.ripcord = { s.ripcord with acted := s.ripcord.acted ++ [d] } ∧
        ∀ i < 6, d * 6 + i < s.fields.length → 9 ∈ (field t (d * 6 + i)).holds) ∧ t = { elapse dt s with dies := t.dies, fields := t.fields, clusters := t.clusters, ripcord := t.ripcord, turn := t.turn })

/-- SLICE_TEARDOWN of a slice that has none stops issue in its clusters, increments the generation modulo 256 and
waits for every table. GENERATION_LOAD_ACK notes the table; with the last one the quiesce begins.
QUIESCE_MARK_SEND keeps the counts of a point, QUIESCE_MARK_ARRIVAL brings them to the owner. The quiesce ends
when every mark is in and the totals agree, or by QUIESCE_TIMEOUT after 100 µs: the slice has ended, its memory
waits for its zero-fill. ZERO_FILL_COMPLETE leaves no block of the slice in the stack. (R11, R171, R288, R289,
R290, R291) -/
def Obligations.TeardownRunsItsSteps : Prop :=
  (∀ dt k x s, slice s k = some x → x.life ≠ .ended → x.teardown = none →
    (spansDies x = true → sequencerFree s = true) →
    ∃ t y td, exec (.sliceTeardown dt k) s = .next t ∧ slice t k = some y ∧ y.teardown = some td ∧
      td.step = 2 ∧ td.loaded = [] ∧ td.abandon = x.abandon ∧ td.spanning = spansDies x ∧ y.life = .ending ∧
      y.notices = [] ∧
      generation t k = (generation s k + 1) % 256 ∧
      (x.life ≠ .ending → ∀ ck ∈ sliceClusters s k, 10 ∈ (cluster t ck).holds) ∧ t = { elapse dt s with keepers := t.keepers, seqr := t.seqr, dies := t.dies, fields := t.fields, units := t.units, lcns := t.lcns, cores := t.cores, clusters := t.clusters, slices := t.slices, generations := t.generations, recomputes := t.recomputes, tieBreaks := t.tieBreaks, thirds := t.thirds, transfers := t.transfers, follows := t.follows, inFlight := t.inFlight, ripcord := t.ripcord, qualifying := t.qualifying, traces := t.traces, views := t.views, kept := t.kept, keptB := t.keptB, turn := t.turn, objs := t.objs, output := t.output, free := t.free }) ∧
  (∀ dt k table x td s, slice s k = some x → x.teardown = some td → td.step = 2 →
    ∃ t y, exec (.generationLoadAck dt k table) s = .next t ∧ slice t k = some y ∧
      (((addHold table td.loaded).filter (tableExpected s)).length < tablesExpected s →
        y.teardown = some { td with loaded := addHold table td.loaded }) ∧
      (tablesExpected s ≤ ((addHold table td.loaded).filter (tableExpected s)).length → td.marks = [] →
        td.points ≠ [] →
        y.teardown = some { td with step := 3, loaded := addHold table td.loaded, quiesceFrom := pt (elapse dt s) }) ∧
      t = { elapse dt s with keepers := t.keepers, dies := t.dies, fields := t.fields, units := t.units, lcns := t.lcns, cores := t.cores, clusters := t.clusters, slices := t.slices, recomputes := t.recomputes, tieBreaks := t.tieBreaks, thirds := t.thirds, transfers := t.transfers, follows := t.follows, inFlight := t.inFlight, ripcord := t.ripcord, qualifying := t.qualifying, kept := t.kept, keptB := t.keptB, turn := t.turn, objs := t.objs, output := t.output, free := t.free }) ∧
  (∀ dt k (p : Pua) a b x td s, slice s k = some x → x.teardown = some td → td.step = 3 → p.toNat ∈ td.points →
    ∃ t y, exec (.quiesceMarkSend dt k p a b) s = .next t ∧ slice t k = some y ∧
      y.teardown = some { td with sent := tset td.sent p.toNat (a, b) } ∧
      t = { elapse dt s with slices := t.slices }) ∧
  (∀ dt k (p : Pua) c q x td s, slice s k = some x → x.teardown = some td → td.step = 3 →
    tget td.sent p.toNat = some c → q ∈ td.points → q ≠ p.toNat → tget td.marks q = none →
    ∃ t y, exec (.quiesceMarkArrival dt k p) s = .next t ∧ slice t k = some y ∧
      y.teardown = some { td with sent := tdel td.sent p.toNat, marks := tset td.marks p.toNat c } ∧
      t = { elapse dt s with slices := t.slices }) ∧
  (∀ dt k (p : Pua) c x td s, slice s k = some x → x.teardown = some td → td.step = 3 →
    tget td.sent p.toNat = some c → (∀ q ∈ td.points, q = p.toNat ∨ tget td.marks q ≠ none) →
    ((tset td.marks p.toNat c).map (·.2.1)).sum = ((tset td.marks p.toNat c).map (·.2.2)).sum →
    ∃ t y, exec (.quiesceMarkArrival dt k p) s = .next t ∧ slice t k = some y ∧ y.life = .ended ∧
      y.teardown = none ∧ y.memory = [] ∧ y.zeroFill = x.zeroFill ++ x.memory ∧
      obj t (key 0x2C12 1) 0 = obj s (key 0x2C12 1) 0 + 1 ∧ obj t (key 0x2C12 2) 0 = obj s (key 0x2C12 2) 0 ∧
      t = { elapse dt s with keepers := t.keepers, dies := t.dies, fields := t.fields, units := t.units, lcns := t.lcns, cores := t.cores, clusters := t.clusters, slices := t.slices, recomputes := t.recomputes, tieBreaks := t.tieBreaks, thirds := t.thirds, transfers := t.transfers, follows := t.follows, inFlight := t.inFlight, ripcord := t.ripcord, qualifying := t.qualifying, kept := t.kept, keptB := t.keptB, turn := t.turn, objs := t.objs, output := t.output, free := t.free }) ∧
  (∀ dt k x td s, slice s k = some x → x.teardown = some td → td.step = 3 →
    td.quiesceFrom + 100000 ≤ pt (elapse dt s) →
    ∃ t y, exec (.quiesceTimeout dt k) s = .next t ∧ slice t k = some y ∧ y.life = .ended ∧ y.teardown = none ∧
      y.memory = [] ∧ y.zeroFill = x.zeroFill ++ x.memory ∧
      obj t (key 0x2C12 1) 0 = obj s (key 0x2C12 1) 0 + 1 ∧ obj t (key 0x2C12 2) 0 = obj s (key 0x2C12 2) 0 + 1 ∧
      t = { elapse dt s with keepers := t.keepers, dies := t.dies, fields := t.fields, units := t.units, lcns := t.lcns, cores := t.cores, clusters := t.clusters, slices := t.slices, recomputes := t.recomputes, tieBreaks := t.tieBreaks, thirds := t.thirds, transfers := t.transfers, follows := t.follows, inFlight := t.inFlight, ripcord := t.ripcord, qualifying := t.qualifying, kept := t.kept, keptB := t.keptB, turn := t.turn, objs := t.objs, output := t.output, free := t.free }) ∧
  (∀ dt k stack m x s, slice s k = some x → m ∈ x.zeroFill → m.1 = stack →
    ∃ t y, exec (.zeroFillComplete dt k stack) s = .next t ∧ slice t k = some y ∧
      y.zeroFill = x.zeroFill.filter (fun m => m.1 ≠ stack) ∧
      (∀ e ∈ t.dram, ¬(e.1 / 2 ^ 40 = stack ∧ e.2.word.toNat / 2 ^ 8 % 4096 = k)) ∧
      (∀ e ∈ s.dram, ¬(e.1 / 2 ^ 40 = stack ∧ e.2.word.toNat / 2 ^ 8 % 4096 = k) → e ∈ t.dram) ∧
      t = { elapse dt s with dies := t.dies, fields := t.fields, clusters := t.clusters, slices := t.slices, dram := t.dram, turn := t.turn, objs := t.objs })

/-- TRAY_INPUT_CHANGE takes a new raw level and its moment; a third transition within 10 ms makes the input chatter,
which latches a fault at once. TRAY_INPUT_ACCEPT after 100 µs of stability accepts the raw level; the fault
level latches (one that has stood since power-up too), and from S1 on, with no Ripcord under way, input 0 starts
an emergency Ripcord of cause 0, input 1 an orderly one, input 2 an emergency of cause 2. CHATTER_END after 100
ms ends the chattering. INPUT_MISMATCH_TIMEOUT after 10 ms raises its record once. (R332, R333, R334, R335) -/
def Obligations.TrayInputsLatchAndStop : Prop :=
  (∀ dt d i v s, d < s.dies.length → i < (die s d).tray.length → (trayInput s d i).raw ≠ v →
    let recent := (s.now + dt) :: (trayInput s d i).transitions.filter fun a => decide (s.now + dt < a + 10000000)
    ∃ t, exec (.trayInputChange dt d i v) s = .next t ∧ (trayInput t d i).raw = v ∧
      (trayInput t d i).changed = s.now + dt ∧ (trayInput t d i).transitions = recent.take 3 ∧
      (trayInput t d i).level = (trayInput s d i).level ∧
      (recent.length ≤ 2 ∨ (trayInput s d i).chattering = true →
        (trayInput t d i).latched = (trayInput s d i).latched ∧ t = { elapse dt s with dies := t.dies }) ∧
      (2 < recent.length → (trayInput t d i).chattering = true ∧
        ((trayInput s d i).chattering = false → i ≠ 2 ∨ stopReached s = false → (trayInput t d i).latched = true)) ∧
      t = { elapse dt s with dies := t.dies, fields := t.fields, clusters := t.clusters, ripcord := t.ripcord, traces := t.traces, turn := t.turn, objs := t.objs }) ∧
  (∀ dt d i s, d < s.dies.length → i < (die s d).tray.length →
    (trayInput s d i).raw ≠ (trayInput s d i).level → (trayInput s d i).changed + 100000 ≤ s.now + dt →
    ∃ t, exec (.trayInputAccept dt d i) s = .next t ∧ (trayInput t d i).level = (trayInput s d i).raw ∧
      ((trayInput s d i).raw = true →
        (trayInput t d i).latched = (trayInput s d i).latched ∧ t = { elapse dt s with dies := t.dies }) ∧
      ((trayInput s d i).raw = false → i ≠ 2 ∨ stopReached s = false → (trayInput t d i).latched = true) ∧
      ((trayInput s d i).raw = false → (die s d).stage = 0 → t.ripcord = s.ripcord) ∧
      ((trayInput s d i).raw = false → 0 < (die s d).stage → s.ripcord.state = 0 →
        (i = 0 → t.ripcord.state = 3 ∧ t.ripcord.cause = 0) ∧
        (i = 1 → t.ripcord.state = 1 ∧ t.ripcord.request = 1 ∧ t.ripcord.target = obj s (key 0x3062 0) 2) ∧
        (i = 2 → t.ripcord.state = 3 ∧ t.ripcord.cause = 2)) ∧ t = { elapse dt s with dies := t.dies, fields := t.fields, clusters := t.clusters, ripcord := t.ripcord, traces := t.traces, turn := t.turn, objs := t.objs }) ∧
  (∀ dt d i s, d < s.dies.length → i < (die s d).tray.length → (trayInput s d i).raw = false →
    (trayInput s d i).level = false → (trayInput s d i).latched = false →
    i ≠ 2 ∨ (0 < (die s d).stage ∧ stopReached s = false) → (trayInput s d i).changed + 100000 ≤ s.now + dt →
    ∃ t, exec (.trayInputAccept dt d i) s = .next t ∧ (trayInput t d i).latched = true ∧ t = { elapse dt s with dies := t.dies, fields := t.fields, clusters := t.clusters, ripcord := t.ripcord, traces := t.traces, turn := t.turn, objs := t.objs }) ∧
  (∀ dt d i s, d < s.dies.length → i < (die s d).tray.length → (trayInput s d i).chattering = true →
    (trayInput s d i).changed + 100000000 ≤ s.now + dt →
    exec (.chatterEnd dt d i) s =
      .next (modTray d i (fun x => { x with chattering := false, transitions := [] }) (elapse dt s))) ∧
  (∀ dt d i a s, d < 4 → d < s.dies.length → i < (die s d).tray.length → (trayInput s d i).differs = some a →
    a + 10000000 ≤ s.now + dt →
    ∃ t e, exec (.inputMismatchTimeout dt d i) s = .next t ∧ (trayInput t d i).differs = none ∧
      e ∈ (die t d).local_ ∧ (∀ x ∈ (die s d).local_, x ∈ (die t d).local_) ∧
      (die t d).local_.length = (die s d).local_.length + 1 ∧ e.code = 0x3006 ∧
      e.payload = [BitVec.ofNat 8 i, if (trayInput s d i).level then 1 else 0] ∧
      t = { elapse dt s with dies := t.dies })

/-- VIN_POLL keeps the reading and since when it stands at the release levels, and enters supply state 1 below 42.0
V. SUPPLY_STATE_RELEASE after 1 s and WRITE_SUSPEND_RELEASE after 10 ms end the warning and the suspension.
AON_SUPPLY_FALL and an unexpected VFAST_FALL start an emergency Ripcord; the latter fences the die of a DH-100.
FAST_DOMAIN_RESET_RELEASE starts the keeper with the coarse flag, from its coarse count, or from 0 where always-
on SRAM is lost. ALWAYS_ON_SUPPLY_RISE begins S0 and, where always-on SRAM is lost, clears latches, escalation
counts and the lost-record counter. (R336, R337, R339, R340, R489, R490) -/
def Obligations.SuppliesOfADie : Prop :=
  (∀ dt d mv s, d < s.dies.length → stopReached s = false →
    ∃ t, exec (.vinPoll dt d mv) s = .next t ∧ (die t d).vin = mv ∧
      (die t d).supplySince = heldSince (s.now + dt) (decide (42500 ≤ mv)) (die s d).supplySince ∧
      (die t d).resumeSince = heldSince (s.now + dt) (decide (40500 ≤ mv)) (die s d).resumeSince ∧
      (die t d).supply = (if mv < 42000 ∧ (die s d).supply = 0 then 1 else (die s d).supply) ∧
      t = { elapse dt s with dies := t.dies, ports := t.ports, turn := t.turn, output := t.output }) ∧
  (∀ dt d a s, d < s.dies.length → (die s d).supplySince = some a → a + 1000000000 ≤ s.now + dt →
    (die s d).supply = 1 →
    ∃ t, exec (.supplyStateRelease dt d) s = .next t ∧ (die t d).supply = 0 ∧
      (∀ x, x ≠ d → (die t x).supply = (die s x).supply) ∧ t = { elapse dt s with dies := t.dies, ports := t.ports, turn := t.turn, output := t.output }) ∧
  (∀ dt d a s, d < s.dies.length → (die s d).resumeSince = some a → a + 10000000 ≤ s.now + dt →
    (die s d).suspended = true →
    ∃ t, exec (.writeSuspendRelease dt d) s = .next t ∧ (die t d).suspended = false ∧
      (die t d).supply = (if (die s d).supply = 3 then 3 else min 1 (die s d).supply) ∧ t = { elapse dt s with dies := t.dies, ports := t.ports, turn := t.turn, output := t.output }) ∧
  (∀ dt d s, d < s.dies.length → (die s d).vaon = true →
    ∃ t, exec (.aonSupplyFall dt d) s = .next t ∧ (die t d).vaon = false ∧ (die t d).aonLost = true ∧
      (die t d).service.since = none ∧ t.ripcord.state = 3 ∧
      (s.ripcord.state ≠ 3 → t.ripcord.cause = 5) ∧ t = { elapse dt s with dies := t.dies, fields := t.fields, clusters := t.clusters, ripcord := t.ripcord, traces := t.traces, turn := t.turn, objs := t.objs }) ∧
  (∀ dt d s, d < s.dies.length → (die s d).vfast = true →
    ∃ t, exec (.vfastFall dt d) s = .next t ∧ (die t d).vfast = false ∧ (die t d).fastReset = true ∧
      (keeper t d).running = false ∧
      (s.ripcord.state = 2 ∧ 2 ≤ s.ripcord.target → t = { elapse dt s with dies := t.dies, keepers := t.keepers }) ∧
      (¬(s.ripcord.state = 2 ∧ 2 ≤ s.ripcord.target) →
        t.ripcord.state = 3 ∧ (s.variant = .dh100 → (die t d).status = 2)) ∧ t = { elapse dt s with ptStarted := t.ptStarted, anchorDie := t.anchorDie, standby := t.standby, takenOver := t.takenOver, keepers := t.keepers, seqr := t.seqr, dies := t.dies, fields := t.fields, units := t.units, lcnMap := t.lcnMap, clusterMap := t.clusterMap, lanes := t.lanes, channels := t.channels, zports := t.zports, lostSlots := t.lostSlots, unreachable := t.unreachable, lcns := t.lcns, cores := t.cores, clusters := t.clusters, slices := t.slices, recomputes := t.recomputes, tieBreaks := t.tieBreaks, thirds := t.thirds, transfers := t.transfers, follows := t.follows, inFlight := t.inFlight, commits := t.commits, nextCommit := t.nextCommit, ripcord := t.ripcord, qualifying := t.qualifying, ports := t.ports, snapshot := t.snapshot, traces := t.traces, views := t.views, kept := t.kept, keptB := t.keptB, turn := t.turn, screens := t.screens, objs := t.objs, output := t.output, free := t.free }) ∧
  (∀ dt d s, d < s.dies.length → (die s d).vaon = true → (die s d).vaonAt + 1000000 ≤ s.now + dt →
    (die s d).fastReset = true →
    ∃ t, exec (.fastDomainResetRelease dt d) s = .next t ∧ (die t d).vfast = true ∧ (die t d).fastReset = false ∧
      (die t d).stage = 0 ∧
      ((die s d).aonLost = true → keeperRead t d = 0 ∧ (keeper t d).running = s.reference) ∧
      ((die s d).aonLost = false → keeperRead t d = keeperRead (elapse dt s) d ∧
        (keeper t d).running = (s.reference || (keeper s d).running)) ∧
      ((die s d).aonLost = true ∨ (keeper s d).running = false → keeperCoarse t d = true) ∧
      (∀ x, x ≠ d → die t x = die s x ∧ keeper t x = keeper s x) ∧ t = { elapse dt s with keepers := t.keepers, dies := t.dies, turn := t.turn }) ∧
  (∀ dt d s, d < s.dies.length → (die s d).vaon = false →
    ∃ t, exec (.alwaysOnSupplyRise dt d) s = .next t ∧ (die t d).vaon = true ∧ (die t d).vaonAt = s.now + dt ∧
      (die t d).stage = 0 ∧ (die t d).stageRan = false ∧ (die t d).fastReset = true ∧
      ((die s d).aonLost = true → (∀ x ∈ (die t d).tray, x.latched = false) ∧ (die t d).resets = [] ∧
        (die t d).reel.lost = 0 ∧ (die t d).reel.hold = [] ∧
        (die t d).service = ⟨(die s d).serviceSaved * 1000000000, none⟩) ∧
      ((die s d).aonLost = false → (die t d).tray = (die s d).tray ∧ (die t d).resets = (die s d).resets ∧
        (die t d).reel = (die s d).reel ∧ (die t d).service = (die s d).service) ∧
      (∀ x, x ≠ d → die t x = die s x) ∧ t = { elapse dt s with dies := t.dies, turn := t.turn })

/-- REGULATOR_SETTLED makes the written step the field's step with its voltage. SETTLE_TIMEOUT after 150 µs writes
the code back of the step from which the move began, moves on only to that step, and counts. POWER_SUM_TICK
keeps the last ten sums; the first full mean above the limit adds one reduction code to the costliest slice.
RELEASE_GROUP releases the next group; the eighth ends the ramp. RAMP_HEADROOM_TIMEOUT after 50 ms counts, or
caps the other running fields of the group one step lower. IDLE_HOLD_EXPIRY requests the commit of the routes
around the field, as whose landing the rail goes off. (R302, R306, R307, R310, R322, R323, R324) -/
def Obligations.VoltagesAndPowerLimit : Prop :=
  (∀ dt f e s, f < s.fields.length → (field s f).raising = some e →
    ∃ t, exec (.regulatorSettled dt f) s = .next t ∧ (field t f).step = e ∧
      (field t f).millivolt = codeMillivolt (stepCode s e) ∧
      ((field s f).targetStep = none → (field t f).raising = none) ∧ t = { elapse dt s with dies := t.dies, fields := t.fields, units := t.units, lcnMap := t.lcnMap, clusterMap := t.clusterMap, lanes := t.lanes, channels := t.channels, zports := t.zports, lostSlots := t.lostSlots, cores := t.cores, clusters := t.clusters, commits := t.commits, nextCommit := t.nextCommit, turn := t.turn, screens := t.screens, objs := t.objs, output := t.output }) ∧
  (∀ dt f e s, f < s.fields.length → (field s f).raising = some e → (field s f).raisedAt + 150000 ≤ s.now + dt →
    let b := (field s f).back.getD (field s f).step
    ∃ t, exec (.settleTimeout dt f) s = .next t ∧ (field t f).step = (field s f).step ∧
      (field t f).raising = (if (field s f).step = b then none else some b) ∧ (field t f).targetStep = none ∧
      (s.ripcord.state ≠ 3 → Output.voltage f (codeMillivolt (stepCode s b)) ∈ t.output) ∧
      obj t (key 0x3017 0) 0 = obj s (key 0x3017 0) 0 + 1 ∧ t = { elapse dt s with fields := t.fields, cores := t.cores, slices := t.slices, turn := t.turn, objs := t.objs, output := t.output }) ∧
  (∀ dt s, ∃ t, exec (.powerSumTick dt) s = .next t ∧
      t.powerHistory = (packagePower s :: s.powerHistory).take 10 ∧
      (t.powerHistory.length < 10 → t.powerOverFrom = none ∧ t.powerLowFrom = none ∧ t.powerStack = s.powerStack) ∧
      (∀ k x, 10 ≤ t.powerHistory.length → s.powerOverFrom = none → costliestSlice s = some k → slice s k = some x →
        obj s (key 0x3004 1) (if s.variant = .dh100 then 24000 else 6500) * 10000 < t.powerHistory.sum →
        ∃ y, slice t k = some y ∧ y.powerCodes = x.powerCodes + 1 ∧ t.powerStack = k :: s.powerStack ∧
          obj t (key 0x3005 2) 0 = obj s (key 0x3005 2) 0 + 1) ∧ t = { elapse dt s with dies := t.dies, fields := t.fields, cores := t.cores, slices := t.slices, powerHistory := t.powerHistory, powerLowFrom := t.powerLowFrom, powerOverFrom := t.powerOverFrom, powerStack := t.powerStack, turn := t.turn, objs := t.objs, output := t.output }) ∧
  (∀ dt f headroom s, f < s.fields.length → (field s f).power = 1 → (field s f).raising = none →
    (field s f).lastRelease + 20000 ≤ s.now + dt → 140 ≤ headroom →
    ∃ t, exec (.releaseGroup dt f headroom) s = .next t ∧ (field t f).group = (field s f).group + 1 ∧
      (field t f).releases = (field s f).releases ++ [s.now + dt] ∧ (field t f).lastRelease = s.now + dt ∧
      ((field s f).group + 1 < 8 → (field t f).power = 1 ∧ t = { elapse dt s with fields := t.fields }) ∧
      (8 ≤ (field s f).group + 1 → (field t f).power = 2 ∧ (field t f).freq = 400 ∧ 11 ∉ (field t f).holds) ∧
      t = { elapse dt s with dies := t.dies, fields := t.fields, cores := t.cores, clusters := t.clusters, slices := t.slices, ports := t.ports, freqs := t.freqs, turn := t.turn, output := t.output, free := t.free }) ∧
  (∀ dt f s, f < s.fields.length → (field s f).power = 1 → (field s f).rampWait + 50000000 ≤ s.now + dt →
    ∃ t, exec (.rampHeadroomTimeout dt f) s = .next t ∧ (field t f).rampWait = s.now + dt ∧
      (otherRunning s f = [] → obj t (key 0x3018 0) 0 = obj s (key 0x3018 0) 0 + 1) ∧
      (∀ g gs, otherRunning s f = g :: gs → ∀ h ∈ g :: gs, (field t h).rampCap = (field s g).step - 1) ∧
      t = { elapse dt s with dies := t.dies, fields := t.fields, cores := t.cores, slices := t.slices, turn := t.turn, objs := t.objs, output := t.output }) ∧
  (∀ dt f a s, f < s.fields.length → obj s (key 0x3016 0) 10 ≠ 0 → (field s f).power = 2 →
    (field s f).idleSince = some a → a + obj s (key 0x3016 0) 10 * 1000000000 ≤ s.now + dt →
    (∀ c ∈ s.commits, .around (agentPua f) ∉ c.bindings) →
    fieldBusy s f = false → noTestDue s f = true → noRouteThrough s f = true →
    ∃ t, exec (.idleHoldExpiry dt f) s = .next t ∧ t.commits.length = s.commits.length + 1 ∧
      (∃ c ∈ t.commits, c.bindings = [.around (agentPua f)] ∧ c.quarantines = []) ∧ t.fields = s.fields ∧
      t = { elapse dt s with dies := t.dies, fields := t.fields, clusters := t.clusters, commits := t.commits, nextCommit := t.nextCommit, turn := t.turn })

/-- DROOP_TRIP starts a stretch in a powered field and counts it; STRETCH_END after 200 ns ends it and adds its
length. STRETCH_DUTY_WINDOW after 100 ms publishes the duty; above 2 % every slice of the field with fewer than
4 codes gets one more. DROOP_CODE_RELEASE after 600 s below 0.5 % takes one code away. LOAD_NOTICE in range is
forwarded to its fields, else counted as refused. Frames of type 1 position phases, of type 2 and 3 arm and
disarm reservoirs. LOAD_STEP counts an unannounced rise. A discharge lets the reservoir recharge for 250 µs.
(R311, R312, R313, R314, R315, R316, R317, R318, R501) -/
def Obligations.DroopAndLoadNotices : Prop :=
  (∀ dt f s, f < s.fields.length → (field s f).power = 1 ∨ (field s f).power = 2 → (field s f).stretch = none →
    ∃ t, exec (.droopTrip dt f) s = .next t ∧ (field t f).stretch = some (fieldTime (elapse dt s) f) ∧
      obj t (key 0x3021 (f + 1)) 0 = obj s (key 0x3021 (f + 1)) 0 + 1 ∧
      (armedIn s f (fieldTime (elapse dt s) f) = true → f ∈ t.changeHold) ∧
      (∀ p x, puaFieldIdx p = f → (Machine.core t p).test = some x → x.test.kind ≠ 3) ∧ t = { elapse dt s with fields := t.fields, cores := t.cores, changeHold := t.changeHold, turn := t.turn, objs := t.objs }) ∧
  (∀ dt f a s, f < s.fields.length → (field s f).stretch = some a → a + 200 ≤ fieldTime (elapse dt s) f →
    ∃ t, exec (.stretchEnd dt f) s = .next t ∧ (field t f).stretch = none ∧
      (field t f).stretchEnd = fieldTime (elapse dt s) f ∧
      (field t f).stretchTotal =
        (field s f).stretchTotal + (fieldTime (elapse dt s) f - max a (field s f).windowStart) ∧
      (armedIn s f (fieldTime (elapse dt s) f) = true → f ∈ t.changeHold) ∧ t = { elapse dt s with fields := t.fields, changeHold := t.changeHold, turn := t.turn }) ∧
  (∀ dt f s, f < s.fields.length → (s.slices.map (·.1)).Nodup →
    let now := fieldTime (elapse dt s) f
    let span := now - (field s f).windowStart
    let total := (field s f).stretchTotal +
      ((field s f).stretch.map fun a => now - max a (field s f).windowStart).getD 0
    100000000 ≤ span →
    ∃ t, exec (.stretchDutyWindow dt f) s = .next t ∧ (field t f).duty = total * 1000 / span ∧
      (field t f).windowStart = now ∧ (field t f).stretchTotal = 0 ∧
      (total * 100 ≤ 2 * span → t = { elapse dt s with fields := t.fields }) ∧
      (2 * span < total * 100 → ∀ k ∈ groupSlices s [f], droopCodesOf t k =
        (if droopCodesOf s k < 4 then droopCodesOf s k + 1 else droopCodesOf s k)) ∧ t = { elapse dt s with dies := t.dies, fields := t.fields, cores := t.cores, clusters := t.clusters, slices := t.slices, turn := t.turn, objs := t.objs, output := t.output }) ∧
  (∀ dt f a s, f < s.fields.length → (s.slices.map (·.1)).Nodup → (field s f).lowSince = some a →
    a + 600000000000 ≤ fieldTime (elapse dt s) f →
    ∃ t, exec (.droopCodeRelease dt f) s = .next t ∧ (field t f).lowSince = some (fieldTime (elapse dt s) f) ∧
      (∀ k ∈ groupSlices s [f], droopCodesOf t k = droopCodesOf s k - 1) ∧ t = { elapse dt s with dies := t.dies, fields := t.fields, cores := t.cores, slices := t.slices, turn := t.turn, output := t.output }) ∧
  (∀ dt m n s,
    let fs := ((List.range 6).filter fun i => n.mask.testBit i).map (m / 256 * 6 + ·)
    noticeInRange n = true → mailboxObserves (elapse dt s) m n.slice = true →
    (∀ f ∈ fs, f ∈ sliceFields s n.slice ∧ ∀ a ∈ (field s f).lastNotice, a + 10000 ≤ s.now + dt) →
    ∃ t l, exec (.loadNotice dt m n) s = .next t ∧ t.output = s.output ++ l ∧
      l.length = (if fs.length = 6 then 1 else fs.length) ∧
      (∀ f ∈ fs, obj t (key 0x3032 (f + 1)) 0 = obj s (key 0x3032 (f + 1)) 0 + 1 ∧
        (f < s.fields.length → (field t f).lastNotice = some (s.now + dt) ∧
          (field t f).announced = (if n.direction = 1 then some (s.now + dt) else (field s f).announced))) ∧
      t = { elapse dt s with fields := t.fields, turn := t.turn, objs := t.objs, output := t.output, free := t.free }) ∧
  (∀ dt m n s, noticeInRange n = false ∨ mailboxObserves (elapse dt s) m n.slice = false →
    exec (.loadNotice dt m n) s = .next (addObj (key 0x3034 0) 1 (elapse dt s))) ∧
  (∀ dt d frame fs dir amp lead s, lnDecode d frame = some (1, fs, dir, amp, lead) → amp ≠ 0 → lead ≠ 0 →
    ∃ t, exec (.lnLoadNotice dt d frame) s = .next t ∧
      (∀ f ∈ fs, f < s.fields.length → (field t f).positioned = some (dir == 1, amp, s.now + dt + lead)) ∧
      (∀ f, f ∉ fs → field t f = field s f) ∧ t = { elapse dt s with fields := t.fields, turn := t.turn }) ∧
  (∀ dt d frame fs r s, s.variant = .dh100 → lnDecode d frame = some (2, fs, r) →
    ∃ t, exec (.lnReservoirArm dt d frame) s = .next t ∧
      (∀ f ∈ fs, (field t f).reservoir = (if (field s f).reservoir = 0 ∧ f < s.fields.length then 1
        else (field s f).reservoir)) ∧
      (∀ f, f ∉ fs → field t f = field s f) ∧ t = { elapse dt s with fields := t.fields, turn := t.turn }) ∧
  (∀ dt d frame fs r s, s.variant = .dh100 → lnDecode d frame = some (3, fs, r) →
    ∃ t, exec (.lnReservoirDisarm dt d frame) s = .next t ∧
      (∀ f ∈ fs, (field t f).reservoir = (if (field s f).reservoir = 1 then 0 else (field s f).reservoir)) ∧
      (∀ f, f ∉ fs → field t f = field s f) ∧ t = { elapse dt s with fields := t.fields, turn := t.turn }) ∧
  (∀ dt f rise within s, 200 < rise → within ≤ 20000 →
    (∀ a ∈ (field s f).announced, a + 100000 < s.now + dt) →
    exec (.loadStep dt f rise within) s = .next (addObj (key 0x3033 (f + 1)) 1 (elapse dt s))) ∧
  (∀ dt f below s, s.variant = .dh100 → (field s f).reservoir = 1 → 15 ≤ below →
    ∃ t, exec (.reservoirDischarge dt f below) s = .next t ∧ (field t f).reservoir = 2 ∧
      (field t f).reservoirAt = s.now + dt ∧
      obj t (key 0x3031 (f + 1)) 0 = obj s (key 0x3031 (f + 1)) 0 + 1 ∧ t = { elapse dt s with fields := t.fields, turn := t.turn, objs := t.objs }) ∧
  (∀ dt f s, (field s f).reservoir = 2 → (field s f).reservoirAt + 250000 ≤ s.now + dt →
    ∃ t, exec (.reservoirRechargeEnd dt f) s = .next t ∧ (field t f).reservoir = 0 ∧
      (∀ g, g ≠ f → field t g = field s g) ∧ t = { elapse dt s with fields := t.fields, turn := t.turn, output := t.output, free := t.free })

/-- PHASE_FAILURE sheds a working phase and latches the alert. LN_ALERT lets the Gondola read the failed phases and
the input: below 38.0 V the die enters supply state 3, suspends its non-volatile writes and, with no stop under
way, an orderly Ripcord of request 2 starts; from 38.0 V to 40.0 V the state is at least 2 and writes are
suspended; above, the supply state stays. UNDERVOLTAGE_TIMEOUT at or below the capped step lets the field go
dark with its issue held. (R319, R320, R321, R336, R337) -/
def Obligations.RegulatorPhasesAndInput : Prop :=
  (∀ dt f phase s, f < s.fields.length → f / 6 < s.dies.length → phase ∈ (field s f).phases →
    ∃ t, exec (.phaseFailure dt f phase) s = .next t ∧
      field t f = { field s f with phases := (field s f).phases.filter (· ≠ phase), failed := (field s f).failed ++ [phase] } ∧
      (die t (f / 6)).alertLatched = true ∧ (∀ g, g ≠ f → field t g = field s g) ∧ t = { elapse dt s with dies := t.dies, fields := t.fields, turn := t.turn }) ∧
  (∀ dt d mv s, d < s.dies.length → s.ripcord.state = 0 → testing s = false →
    ∃ t, exec (.lnAlert dt d mv) s = .next t ∧ (die t d).vin = mv ∧ (die t d).alertLatched = false ∧
      (∀ i < 6, (field t (d * 6 + i)).failed = []) ∧
      (mv < 38000 → (die t d).supply = 3 ∧ (die t d).suspended = true ∧ t.ripcord.state = 1 ∧
        t.ripcord.request = 2) ∧
      (38000 ≤ mv → mv < 40000 → (die t d).supply = max 2 (die s d).supply ∧ (die t d).suspended = true ∧
        t.ripcord.state = 0) ∧
      (40000 ≤ mv → (die t d).supply = (die s d).supply ∧ (die t d).suspended = (die s d).suspended ∧
        t.ripcord.state = 0) ∧ t = { elapse dt s with keepers := t.keepers, dies := t.dies, fields := t.fields, units := t.units, lcnMap := t.lcnMap, clusterMap := t.clusterMap, lanes := t.lanes, channels := t.channels, zports := t.zports, lostSlots := t.lostSlots, unreachable := t.unreachable, lcns := t.lcns, cores := t.cores, clusters := t.clusters, slices := t.slices, recomputes := t.recomputes, tieBreaks := t.tieBreaks, thirds := t.thirds, transfers := t.transfers, follows := t.follows, inFlight := t.inFlight, commits := t.commits, nextCommit := t.nextCommit, ripcord := t.ripcord, qualifying := t.qualifying, ports := t.ports, traces := t.traces, views := t.views, kept := t.kept, keptB := t.keptB, turn := t.turn, objs := t.objs, output := t.output, free := t.free }) ∧
  (∀ dt f s, f < s.fields.length → (field s f).power = 1 ∨ (field s f).power = 2 → (field s f).phaseCap ≠ 0xFF →
    (field s f).step ≤ (field s f).phaseCap →
    ∃ t, exec (.undervoltageTimeout dt f) s = .next t ∧ (field t f).power = 3 ∧ 11 ∈ (field t f).holds ∧
      (keeper t (fieldKeeper f)).running = false ∧ t = { elapse dt s with keepers := t.keepers, dies := t.dies, fields := t.fields, units := t.units, lcnMap := t.lcnMap, clusterMap := t.clusterMap, lanes := t.lanes, channels := t.channels, zports := t.zports, lostSlots := t.lostSlots, unreachable := t.unreachable, lcns := t.lcns, cores := t.cores, clusters := t.clusters, slices := t.slices, recomputes := t.recomputes, tieBreaks := t.tieBreaks, thirds := t.thirds, transfers := t.transfers, follows := t.follows, inFlight := t.inFlight, commits := t.commits, nextCommit := t.nextCommit, ripcord := t.ripcord, qualifying := t.qualifying, ports := t.ports, traces := t.traces, views := t.views, kept := t.kept, keptB := t.keptB, turn := t.turn, objs := t.objs, output := t.output, free := t.free })

/-- DIODE_READING keeps the 16 newest readings and their mean; one outside -20 to 150 °C or flagged makes the sensor
faulty, with a cap of at most E4 and thermal state 3 unless a stop is under way; from 105 °C on a die with a
good sensor stops in thermal state 4 and a Ripcord is under way. SENSOR_FAULT_TIMEOUT after 10 s asks for an
orderly Ripcord of target 3. THERMAL_CAP_RISE after 10 s of calm raises the cap by one step; at E15 the state is
0 again. ENERGY_INTEGRATION keeps the readings of each field and adds every rail's energy to the package. (R325,
R328, R329, R330, R341, R342) -/
def Obligations.ThermalReadingsAndEnergy : Prop :=
  (∀ dt d raw flagged s, d < s.dies.length →
    ∃ t, exec (.diodeReading dt d raw flagged) s = .next t ∧
      (die t d).thermal.readings = (raw :: (die s d).thermal.readings).take 16 ∧
      (die t d).thermal.t16 = ((raw :: (die s d).thermal.readings).take 16).sum * 16 /
        (((raw :: (die s d).thermal.readings).take 16).length : Int) ∧
      (raw < -320 ∨ 2400 < raw ∨ flagged = true → (die t d).thermal.faulty ≠ none ∧
        (die t d).thermal.cap = min 4 (die s d).thermal.cap ∧
        (die t d).thermal.state = (if (die s d).thermal.stopping then 4 else 3)) ∧
      ((die t d).thermal.faulty = none → 26880 ≤ (die t d).thermal.t16 →
        (die t d).thermal.stopping = true ∧ (die t d).thermal.state = 4 ∧
        ((die s d).thermal.stopping = false → t.ripcord.state ≠ 0)) ∧ t = { elapse dt s with dies := t.dies, fields := t.fields, cores := t.cores, clusters := t.clusters, slices := t.slices, ripcord := t.ripcord, ports := t.ports, traces := t.traces, turn := t.turn, objs := t.objs, output := t.output }) ∧
  (∀ dt d a s, d < s.dies.length → (die s d).thermal.faulty = some a → a + 10000000000 ≤ s.now + dt →
    (die s d).thermal.stopping = false →
    ∃ t, exec (.sensorFaultTimeout dt d) s = .next t ∧ (die t d).thermal.stopping = true ∧
      (die t d).thermal.state = 4 ∧ (die t d).thermal.alert = true ∧
      (s.ripcord.state = 0 → t.ripcord.state = 1 ∧ t.ripcord.request = 3 ∧ t.ripcord.target = 3) ∧
      t = { elapse dt s with dies := t.dies, ripcord := t.ripcord, ports := t.ports, turn := t.turn, objs := t.objs, output := t.output }) ∧
  (∀ dt d a s, d < s.dies.length → (die s d).thermal.calmFrom = some a → a + 10000000000 ≤ s.now + dt →
    (die s d).thermal.cap < 15 →
    ∃ t, exec (.thermalCapRise dt d) s = .next t ∧ (die t d).thermal.cap = (die s d).thermal.cap + 1 ∧
      (die t d).thermal.calmFrom = some (s.now + dt) ∧
      ((die s d).thermal.cap = 14 → (die s d).thermal.stopping = false → (die t d).thermal.state = 0) ∧
      t = { elapse dt s with dies := t.dies, fields := t.fields, cores := t.cores, slices := t.slices, ports := t.ports, turn := t.turn, output := t.output }) ∧
  (∀ dt d rails dram work total moved s, d < s.dies.length →
    ∃ t, exec (.energyIntegration dt d rails dram work total moved) s = .next t ∧
      (∀ i < 6, d * 6 + i < s.fields.length →
        (field t (d * 6 + i)).millivolt = (rails.getD i ⟨0, 0⟩).millivolt ∧
        (field t (d * 6 + i)).ampere = (rails.getD i ⟨0, 0⟩).ampere ∧
        (field t (d * 6 + i)).amperes =
          ((rails.getD i ⟨0, 0⟩).ampere :: (field s (d * 6 + i)).amperes).take 10) ∧
      (die t d).dramPower = (dram.map railMicro).sum ∧
      obj t packageMicro 0 = obj s packageMicro 0 +
        ((List.range 6).map fun i => railMicro (rails.getD i ⟨0, 0⟩)).sum + (dram.map railMicro).sum ∧
      t = { elapse dt s with dies := t.dies, fields := t.fields, slices := t.slices, turn := t.turn, objs := t.objs })

/-- CROSSING_SLIP of an aligned crossing notes a separation of 2 to 6; beyond, a Tether crossing realigns to 4 and a
lane group or bridge link is charged with cause 0x08. CORRECTION_SEND, due as PT reaches a multiple of 1,024 ns,
sends a type 1 flit with that multiple. CORRECTION_ARRIVAL steps a keeper that is behind to the flit's time at
once; one that is ahead keeps its count and absorbs the error; a Gondola passes the correction on.
CORRECTION_MISSED counts; at the eighth miss of the standby and another die CD1 takes the Anchor role.
REFERENCE_LOSS stops every keeper and starts an emergency Ripcord. REFERENCE_RESTORED starts the keepers whose
clocks may run. (R57, R65, R72, R73, R74, R75, R78, R79) -/
def Obligations.TimeBaseCommands : Prop :=
  (∀ dt tether (u : Pua) sep s, crossingAligned s tether u.toNat = true → tether = true ∨ (2 ≤ sep ∧ sep ≤ 6) →
    ∃ t, exec (.crossingSlip dt tether u sep) s = .next t ∧
      separationOf t u.toNat = (if 2 ≤ sep ∧ sep ≤ 6 then sep else 4) ∧
      (∀ x, x ≠ u.toNat → separationOf t x = separationOf s x) ∧ t = { elapse dt s with crossings := t.crossings }) ∧
  (∀ dt (u : Pua) sep s, crossingAligned s false u.toNat = true → sep < 2 ∨ 6 < sep → puaKind u.toNat ∈ [2, 3] →
    unitField u.toNat < s.fields.length →
    ∃ t e, exec (.crossingSlip dt false u sep) s = .next t ∧ separationOf t u.toNat = sep ∧
      (field t (unitField u.toNat)).queue = (field s (unitField u.toNat)).queue ++ [e] ∧
      e.kind = .charge ∧ e.cause = 0x08 ∧ e.pua = u.toNat ∧ t = { elapse dt s with dies := t.dies, fields := t.fields, clusters := t.clusters, crossings := t.crossings, turn := t.turn }) ∧
  (∀ dt tether (u : Pua) sep s, crossingAligned s tether u.toNat = false →
    exec (.crossingSlip dt tether u sep) s = .next (elapse dt s)) ∧
  (∀ dt s, correctionDue (elapse dt s) = false → exec (.correctionSend dt) s = .next (elapse dt s)) ∧
  (∀ dt s, correctionDue (elapse dt s) = true → ∃ t flit, exec (.correctionSend dt) s = .next t ∧
    t.output = s.output ++ [.correction flit] ∧
    flit.toNat / 2 ^ 64 = (pt (elapse dt s) - pt (elapse dt s) % 1024) % 2 ^ 64 ∧
    flit.toNat / 2 ^ 60 % 16 = 1 ∧ flit.toNat % 2 ^ 48 = s.seqr.next % 2 ^ 48 ∧
    t = { elapse dt s with output := t.output }) ∧
  (∀ dt k (flit : Flit) s, flit.toNat / 2 ^ 60 % 16 = 1 → k ≠ s.anchorDie → (keeper s k).running = true →
    (keeper s k).applied = true → (keeper s k).offsetFault = false →
    let fine := keeperRead (elapse dt s) k
    let right := flit.toNat / 2 ^ 64 + (keeper s k).delay
    ∃ t, exec (.correctionArrival dt k flit) s = .next t ∧ keeperRead t k = max fine right ∧
      (keeper t k).slew = fine - right ∧ (keeper t k).missed = 0 ∧ (keeper t k).restarted = false ∧
      (keeper t k).coarse = (flit.toNat / 2 ^ 56 % 2 == 1) ∧ (∀ x, x ≠ k → keeper t x = keeper s x) ∧
      (k < 4 → Output.dieCorrection k flit ∈ t.output) ∧
      (fine ≤ right + 8 → right ≤ fine + 8 → t = { elapse dt s with keepers := t.keepers, output := t.output }) ∧
      t = { elapse dt s with keepers := t.keepers, dies := t.dies, fields := t.fields, clusters := t.clusters, turn := t.turn, output := t.output }) ∧
  (∀ dt k s, k ≠ s.anchorDie → (keeper s k).running = true →
    let missed := modKeeper k (fun x => { x with
      missed := min 65535 (x.missed + 1), lossAt := if x.missed + 1 = 8 then s.now + dt else x.lossAt }) (elapse dt s)
    ∃ t, exec (.correctionMissed dt k) s = .next t ∧
      ((keeper s k).missed ≠ 7 → t = missed) ∧
      ((keeper s k).missed = 7 → takeoverDue missed = false → t.keepers = missed.keepers) ∧
      ((keeper s k).missed = 7 → takeoverDue missed = true → t.anchorDie = 1 ∧ t.standby = false) ∧
      ((keeper s k).missed = 7 → takeoverDue missed = false → rolesLost missed = true → k < 4 →
        t.ripcord.state = 3) ∧ t = { elapse dt s with ptStarted := t.ptStarted, anchorDie := t.anchorDie, standby := t.standby, takenOver := t.takenOver, keepers := t.keepers, seqr := t.seqr, dies := t.dies, fields := t.fields, clusters := t.clusters, slices := t.slices, commits := t.commits, ripcord := t.ripcord, snapshot := t.snapshot, traces := t.traces, turn := t.turn, objs := t.objs }) ∧
  (∀ dt s, s.reference = true →
    ∃ t, exec (.referenceLoss dt) s = .next t ∧ t.reference = false ∧ t.referenceLostAt = s.now + dt ∧
      (∀ k ∈ keeperIdxs s, (keeper t k).running = false) ∧ t.ripcord.state = 3 ∧
      (s.ripcord.state ≠ 3 → t.ripcord.cause = 3) ∧ t = { elapse dt s with reference := t.reference, referenceLostAt := t.referenceLostAt, keepers := t.keepers, dies := t.dies, fields := t.fields, clusters := t.clusters, ripcord := t.ripcord, traces := t.traces, turn := t.turn, objs := t.objs, free := t.free }) ∧
  (∀ dt s, s.reference = false → s.referenceLostAt + 1000000 ≤ s.now + dt →
    ∃ t, exec (.referenceRestored dt) s = .next t ∧ t.reference = true ∧
      (∀ d ∈ dieIdxs s, (die s d).vfast = true → (die s d).fastReset = false → (keeper t d).running = true) ∧
      (∀ f ∈ fieldIdxs s, (field s f).power = 1 ∨ (field s f).power = 2 →
        (keeper t (fieldKeeper f)).running = true) ∧
      (keeper t s.anchorDie).coarse = false ∧ t = { elapse dt s with reference := t.reference, keepers := t.keepers, dies := t.dies, turn := t.turn })

/-- FREQUENCY_CHANGE_REQUEST that is allowed schedules a change at a multiple of 102,400 that no other change takes.
CHANGE_ACKNOWLEDGE notes a field of the set. CHANGE_ACK_DEADLINE with one missing postpones the change by one
count, or abandons it after two postponements. CHANGE_HOLD_SAMPLE at C + 24 samples the line and clears it.
CHANGE_COUNT_SWITCH at C + 32 on a clear line gives the slice and its clusters, or every cluster of the named
fields, the frequency. CHANGE_VERDICT notes a field; the last one ends a change that switched, and moves one
that was held. (R80, R82, R83, R84, R85, R86, R306) -/
def Obligations.FrequencyChangesRunTheirCourse : Prop :=
  (∀ dt mask code s, code ≤ 28 → mask % 2 ^ 24 ≠ 0 → sequencerFree s = true →
    ∃ t c, exec (.frequencyChangeRequest dt 0 mask code) s = .next t ∧ t.changes = s.changes ++ [c] ∧
      c.slice = 0 ∧ c.mask = mask % 2 ^ 24 ∧ c.code = code ∧ c.count % 102400 = 0 ∧
      changeCountAfter (pt (elapse dt s)) ≤ c.count ∧ (∀ x ∈ s.changes, x.count ≠ c.count) ∧
      t.nextChange = s.nextChange + 1 ∧ t = { elapse dt s with seqr := t.seqr, dies := t.dies, changes := t.changes, nextChange := t.nextChange, turn := t.turn, objs := t.objs, output := t.output }) ∧
  (∀ dt k mask code s, k ≠ 0 → requestAllowed s k code = true →
    ∃ t c, exec (.frequencyChangeRequest dt k mask code) s = .next t ∧ t.changes = s.changes ++ [c] ∧
      c.slice = k ∧ c.mask = fieldMask (sliceRegions s k) ∧ c.code = code ∧ c.count % 102400 = 0 ∧
      changeCountAfter (pt (elapse dt s)) ≤ c.count ∧ (∀ x ∈ s.changes, x.count ≠ c.count) ∧
      t = { elapse dt s with seqr := t.seqr, dies := t.dies, changes := t.changes, nextChange := t.nextChange, turn := t.turn, objs := t.objs, output := t.output }) ∧
  (∀ dt id f s, ∃ t, exec (.changeAcknowledge dt id f) s = .next t ∧
    (∀ c ∈ s.changes, c.id = id → c.mask.testBit f = true → { c with acked := addHold f c.acked } ∈ t.changes) ∧
    (∀ c ∈ s.changes, c.id ≠ id ∨ c.mask.testBit f = false → c ∈ t.changes) ∧
    t.changes.length = s.changes.length ∧ t = { elapse dt s with changes := t.changes, turn := t.turn }) ∧
  (∀ dt id c s, s.changes.find? (fun x => x.id = id) = some c → c.count ≤ pt (elapse dt s) + 20480 →
    (∃ f ∈ maskFields c.mask, f ∉ c.acked) →
    ∃ t, exec (.changeAckDeadline dt id) s = .next t ∧
      (c.postponed < 2 → ∃ x ∈ t.changes, x.id = id ∧ x.count = c.count + 102400 ∧
        x.postponed = c.postponed + 1 ∧ x.acked = []) ∧
      (2 ≤ c.postponed → ∀ x ∈ t.changes, x.id ≠ id) ∧
      (∀ x ∈ s.changes, x.id ≠ id → ∃ y ∈ t.changes, y.id = x.id ∧ x.count ≤ y.count) ∧
      t = { elapse dt s with dies := t.dies, slices := t.slices, changes := t.changes, turn := t.turn, objs := t.objs, output := t.output }) ∧
  (∀ dt id c s, s.changes.find? (fun x => x.id = id) = some c → c.count + 24 ≤ pt (elapse dt s) → c.sampled = none →
    (∀ f ∈ maskFields c.mask, f ∈ c.acked) →
    ∃ t x, exec (.changeHoldSample dt id) s = .next t ∧ x ∈ t.changes ∧ x.id = id ∧ t.changeHold = [] ∧
      x.sampled = some (!x.held.isEmpty) ∧ (∀ f ∈ s.changeHold, f ∈ x.held) ∧
      (∀ f ∈ maskFields c.mask, ∀ a ∈ (field s f).stretch, a ≤ c.count → f ∈ x.held) ∧
      (∀ f ∈ maskFields c.mask, 0 < (field s f).stretchEnd → (field s f).stretchStart ≤ c.count →
        c.count ≤ (field s f).stretchEnd + 2000 → f ∈ x.held) ∧
      t = { elapse dt s with cores := t.cores, changes := t.changes, changeHold := t.changeHold, turn := t.turn }) ∧
  (∀ dt id c s, s.changes.find? (fun x => x.id = id) = some c → c.count + 32 ≤ pt (elapse dt s) →
    c.sampled = some false → c.switched = false →
    ∃ t, exec (.changeCountSwitch dt id) s = .next t ∧ { c with switched := true } ∈ t.changes ∧
      (∀ x, c.slice ≠ 0 → slice s c.slice = some x →
        (∃ y, slice t c.slice = some y ∧ y.freq = freqOfCode c.code) ∧
        ∀ ck ∈ sliceClusters s c.slice, clusterFreq t ck = freqOfCode c.code) ∧
      (c.slice = 0 → ∀ f ∈ maskFields c.mask, f < s.fields.length → (field t f).freq = freqOfCode c.code ∧
        ∀ ck, ckField ck = f → clusterFreq t ck = freqOfCode c.code) ∧
      t = { elapse dt s with fields := t.fields, units := t.units, cores := t.cores, clusters := t.clusters, slices := t.slices, changes := t.changes, freqs := t.freqs, turn := t.turn }) ∧
  (∀ dt id f c s, s.changes.find? (fun x => x.id = id) = some c → c.sampled = some true ∨ c.switched = true →
    c.mask.testBit f = true → f ∉ c.verdicts →
    ∃ t, exec (.changeVerdict dt id f) s = .next t ∧
      ((∃ g ∈ maskFields c.mask, g ≠ f ∧ g ∉ c.verdicts) →
        { c with verdicts := c.verdicts ++ [f] } ∈ t.changes ∧ t = { elapse dt s with changes := t.changes }) ∧
      ((∀ g ∈ maskFields c.mask, g = f ∨ g ∈ c.verdicts) → c.switched = true →
        (∀ x ∈ t.changes, x.id ≠ id) ∧
          (obj s (key 0x2111 1) id = id → obj t (key 0x2111 1) 0 = id ∧ obj t (key 0x2111 2) 0 = 1)) ∧
      ((∀ g ∈ maskFields c.mask, g = f ∨ g ∈ c.verdicts) → c.switched = false → c.postponed < 2 →
        ∃ x ∈ t.changes, x.id = id ∧ x.count = c.count + 102400 ∧ x.postponed = c.postponed + 1 ∧
          x.verdicts = []) ∧ t = { elapse dt s with keepers := t.keepers, dies := t.dies, fields := t.fields, units := t.units, lcnMap := t.lcnMap, clusterMap := t.clusterMap, lanes := t.lanes, channels := t.channels, zports := t.zports, lostSlots := t.lostSlots, unreachable := t.unreachable, lcns := t.lcns, cores := t.cores, clusters := t.clusters, slices := t.slices, recomputes := t.recomputes, tieBreaks := t.tieBreaks, thirds := t.thirds, transfers := t.transfers, follows := t.follows, inFlight := t.inFlight, changes := t.changes, commits := t.commits, nextCommit := t.nextCommit, ripcord := t.ripcord, qualifying := t.qualifying, ports := t.ports, traces := t.traces, views := t.views, kept := t.kept, keptB := t.keptB, turn := t.turn, objs := t.objs, output := t.output, free := t.free })

/-- An addressed NMT_START makes a port operational at S8 and lets it wait for S8 before; NMT_STOP and
NMT_ENTER_PRE_OPERATIONAL set their states; both resets end grants, clear cursor and selectors and send the
boot-up message. HEARTBEAT_SEND and TPDO_SEND send their frame when due and note the moment. EMCY_INHIBIT_END
sends the held frame of the lowest number. CAN_BUS_ERROR makes a port error passive, or bus-off and counts it;
BUS_OFF_RECOVERY after 128 occurrences and ERROR_ACTIVE_RETURN make it error active. Other ports keep their NMT
state. (R436, R437, R438, R442, R443, R445, R446, R448, R449) -/
def Obligations.FieldBusPortsFollowTheirCommands : Prop :=
  (∀ dt d b node s, nmtAddressed s d b node = true →
    (∃ t, exec (.nmtStart dt d b node) s = .next t ∧
      (port t (portKey d b)).nmt = (if atS8 (die s d) then .operational else .preOperational) ∧
      (port t (portKey d b)).wantOperational = !atS8 (die s d) ∧
      (∀ k, k ≠ portKey d b → port t k = port s k) ∧ t = { elapse dt s with ports := t.ports, turn := t.turn }) ∧
    (∃ t, exec (.nmtStop dt d b node) s = .next t ∧ (port t (portKey d b)).nmt = .stopped ∧
      (path t (.port d b)).sdo = none ∧ (∀ k, k ≠ portKey d b → port t k = port s k) ∧ t = { elapse dt s with paths := t.paths, ports := t.ports, turn := t.turn }) ∧
    (∃ t, exec (.nmtEnterPreOperational dt d b node) s = .next t ∧ (port t (portKey d b)).nmt = .preOperational ∧
      (∀ k, k ≠ portKey d b → port t k = port s k) ∧ t = { elapse dt s with ports := t.ports, turn := t.turn }) ∧
    (∃ t, exec (.nmtResetApplication dt d b node) s = .next t ∧ (port t (portKey d b)).nmt = .preOperational ∧
      (path t (.port d b)).session = .none ∧ (path t (.port d b)).grants = [] ∧ (path t (.port d b)).objs = [] ∧
      (path t (.port d b)).cursorLcn = none ∧ (path t (.port d b)).cursorPua = none ∧
      t.output = s.output ++ [.can d b (0x700 + nodeId s d) [0x00]] ∧ t = { elapse dt s with dies := t.dies, paths := t.paths, ports := t.ports, turn := t.turn, output := t.output }) ∧
    (∃ t, exec (.nmtResetCommunication dt d b node) s = .next t ∧ (port t (portKey d b)).nmt = .preOperational ∧
      (path t (.port d b)).session = .none ∧ (path t (.port d b)).grants = [] ∧ (path t (.port d b)).objs = [] ∧
      (path t (.port d b)).cursorLcn = none ∧ (path t (.port d b)).cursorPua = none ∧
      t.output = s.output ++ [.can d b (0x700 + nodeId s d) [0x00]] ∧ t = { elapse dt s with dies := t.dies, paths := t.paths, ports := t.ports, turn := t.turn, output := t.output })) ∧
  (∀ dt d b s, portSends s d b = true →
    (port s (portKey d b)).lastHeartbeat + nodeValue (elapse dt s) d 0x1017 0 * 1000000 ≤ s.now + dt →
    ∃ t, exec (.heartbeatSend dt d b) s = .next t ∧
      t.output = s.output ++ [.can d b (0x700 + nodeId s d) [nmtByte (port s (portKey d b)).nmt]] ∧
      (port t (portKey d b)).lastHeartbeat = s.now + dt ∧ t = { elapse dt s with ports := t.ports, turn := t.turn, output := t.output }) ∧
  (∀ dt d b pdo s, portSends s d b = true → (port s (portKey d b)).nmt = .operational → pdo < 4 →
    (nodeValue (elapse dt s) d (0x1800 + pdo) 1).testBit 31 = false →
    (∀ a ∈ tget (port s (portKey d b)).lastTpdo pdo,
      a + max (nodeValue (elapse dt s) d (0x1800 + pdo) 5 * 1000000)
        (nodeValue (elapse dt s) d (0x1800 + pdo) 3 * 100000) ≤ s.now + dt) →
    ∃ t, exec (.tpdoSend dt d b pdo) s = .next t ∧
      t.output = s.output ++ [.can d b (nodeValue (elapse dt s) d (0x1800 + pdo) 1 % 2 ^ 29)
        (tpdoBytes (elapse dt s) d b pdo)] ∧
      tget (port t (portKey d b)).lastTpdo pdo = some (s.now + dt) ∧
      t = { elapse dt s with ports := t.ports, output := t.output }) ∧
  (∀ dt d b i s, firstHeld (port s (portKey d b)).heldEmcy = some i →
    (∀ a ∈ (port s (portKey d b)).lastEmcy, a + nodeObj s d (key 0x1015 0) 100 * 100000 ≤ s.now + dt) →
    s.reference = true → (port s (portKey d b)).nmt ≠ .stopped → (port s (portKey d b)).fault ≠ 2 →
    ∃ t, exec (.emcyInhibitEnd dt d b) s = .next t ∧
      t.output = s.output ++ [.can d b (emcyCob s d) ((port s (portKey d b)).heldEmcy.getD i [])] ∧
      (port t (portKey d b)).heldEmcy = (port s (portKey d b)).heldEmcy.eraseIdx i ∧
      (port t (portKey d b)).lastEmcy = some (s.now + dt) ∧ t = { elapse dt s with ports := t.ports, turn := t.turn, output := t.output }) ∧
  (∀ dt d b off s, d < s.variant.dies → (port s (portKey d b)).nmt ≠ .initialisation →
    (port s (portKey d b)).fault ≤ 1 →
    ∃ t, exec (.canBusError dt d b off) s = .next t ∧ (port t (portKey d b)).fault = (if off then 2 else 1) ∧
      (∀ k, k / 2 ≠ d → (port t k).fault = (port s k).fault) ∧ t = { elapse dt s with dies := t.dies, ports := t.ports, turn := t.turn, output := t.output }) ∧
  (∀ dt d b s, d < s.variant.dies → (port s (portKey d b)).nmt ≠ .initialisation →
    (port s (portKey d b)).fault ≠ 2 →
    ∃ t, exec (.canBusError dt d b true) s = .next t ∧
      (port t (portKey d b)).busOff = (port s (portKey d b)).busOff + 1 ∧ t = { elapse dt s with dies := t.dies, ports := t.ports, turn := t.turn, output := t.output }) ∧
  (∀ dt d b n s, (port s (portKey d b)).fault = 2 → 128 ≤ n →
    ∃ t, exec (.busOffRecovery dt d b n) s = .next t ∧ (port t (portKey d b)).fault = 0 ∧
      (path t (.port d b)).session = .none ∧ (path t (.port d b)).grants = [] ∧ t = { elapse dt s with dies := t.dies, paths := t.paths, ports := t.ports, turn := t.turn, output := t.output }) ∧
  (∀ dt d b s, (port s (portKey d b)).fault = 1 →
    ∃ t, exec (.errorActiveReturn dt d b) s = .next t ∧ (port t (portKey d b)).fault = 0 ∧
      t = { elapse dt s with dies := t.dies, ports := t.ports, turn := t.turn, output := t.output })

/-- SNAPSHOT_LATCH at C + 32 latches the counters of every path that joined. SNAPSHOT_GATHER_COMPLETE puts the
results in place under the next snapshot number with C and C + 32, and lets requests that arrived meanwhile take
a change count. TAP_BYPASS is always decoded; TAP_IDCODE and TAP_SAMPLE_PRELOAD outside the self-test;
TAP_EXTEST, TAP_AC_EXTEST, TAP_INTEST and the private instructions only in the return state under a Maker
session. What is not available is decoded as BYPASS. TAP_IDCODE shifts the IDCODE out. (R411, R427, R503) -/
def Obligations.SnapshotsAndTestAccessPort : Prop :=
  (∀ dt n s, s.snapshot = some n → n.latched = false → n.count + 32 ≤ pt (elapse dt s) →
    ∃ t, exec (.snapshotLatch dt) s = .next t ∧ t.snapshot = some { n with latched := true } ∧
      (∀ k ∈ n.paths, (path t (pathOfKey k)).snapshot =
        (path s (pathOfKey k)).snapshot.map fun y => (2, y.2.1, y.2.2.1, y.2.2.2)) ∧
      (n.paths.Nodup → ∀ k ∈ n.paths, (path t (pathOfKey k)).gathered = latchPath (elapse dt s) k) ∧
      (∀ p, pathKey p ∉ n.paths → path t p = path s p) ∧ t = { elapse dt s with paths := t.paths, snapshot := t.snapshot, views := t.views, turn := t.turn, free := t.free }) ∧
  (∀ dt n s, s.snapshot = some n → n.latched = true → (∀ x ∈ s.dies, x.recovering = none) → n.paths.Nodup →
    ∃ t, exec (.snapshotGatherComplete dt) s = .next t ∧ t.snapshots = s.snapshots + 1 ∧
      (∀ k ∈ n.paths, (path s (pathOfKey k)).waitingSnapshot = false →
        (path t (pathOfKey k)).latched = (path s (pathOfKey k)).gathered ∧
        (path t (pathOfKey k)).snapshot = some (3, s.snapshots + 1, n.count, n.count + 32)) ∧
      ((∀ e ∈ s.paths, e.2.waitingSnapshot = false) → t.snapshot = none) ∧
      ((∃ e ∈ s.paths, e.2.waitingSnapshot = true) →
        ∃ m, t.snapshot = some m ∧ m.count = changeCountAfter (pt (elapse dt s)) ∧ m.latched = false) ∧
      t = { elapse dt s with paths := t.paths, snapshot := t.snapshot, snapshots := t.snapshots, turn := t.turn }) ∧
  (∀ dt d s, d < s.dies.length →
    (∃ t, exec (.tapBypass dt d) s = .next t ∧ (die t d).tap = 0 ∧ t = { elapse dt s with dies := t.dies, turn := t.turn }) ∧
    (∃ t, exec (.tapIdcode dt d) s = .next t ∧ (die t d).tap = (if testRuns s d then 0 else 1) ∧
      (testRuns s d = false → d < s.variant.dies → t.output = s.output ++ [.idcode d (idcode s.variant)]) ∧
      t = { elapse dt s with dies := t.dies, turn := t.turn, output := t.output }) ∧
    (∃ t, exec (.tapSamplePreload dt d) s = .next t ∧ (die t d).tap = (if testRuns s d then 0 else 2) ∧
      t = { elapse dt s with dies := t.dies, turn := t.turn }) ∧
    (∃ t, exec (.tapExtest dt d) s = .next t ∧
      (die t d).tap = (if tapOpen (elapse dt s) && !testRuns s d then 3 else 0) ∧ t = { elapse dt s with dies := t.dies, turn := t.turn }) ∧
    (∃ t, exec (.tapAcExtest dt d) s = .next t ∧
      (die t d).tap = (if tapOpen (elapse dt s) && !testRuns s d then 4 else 0) ∧ t = { elapse dt s with dies := t.dies, turn := t.turn }) ∧
    (∃ t, exec (.tapIntest dt d) s = .next t ∧
      (die t d).tap = (if tapOpen (elapse dt s) && !testRuns s d then 5 else 0) ∧ t = { elapse dt s with dies := t.dies, turn := t.turn }) ∧
    (∀ code, ∃ t, exec (.tapPrivate dt d code) s = .next t ∧
      (die t d).tap = (if tapOpen (elapse dt s) && !testRuns s d then 6 + code else 0) ∧
      t.privateMode = (s.privateMode || (tapOpen (elapse dt s) && !testRuns s d)) ∧ t = { elapse dt s with dies := t.dies, privateMode := t.privateMode, turn := t.turn }))

/-- SLICE_CREATE that the rules allow gives the slice its role, its box and its memory; its creation and its epoch 0
begin now, its seed is drawn (a free value), and it runs unless a field of its box still ramps. SEED_DELIVERY
draws the seed of the next epoch once and sends it. EPOCH_START at the first change count at or after the
epoch's start plus its period takes that seed and counts the epoch. (R10, R33, R34, R133, R255, R304, R322) -/
def Obligations.SliceCreationAndEpochs : Prop :=
  (∀ dt r s, creationAllowed (elapse dt s) r = true →
    ∃ t y, exec (.sliceCreate dt r) s = .next t ∧ slice t r.id = some y ∧ y.role = r.role ∧ y.origin = r.origin ∧
      y.extent = r.extent ∧ y.memory = r.memory ∧ y.created = pt (elapse dt s) ∧ y.issued = false ∧
      y.epochStart = pt (elapse dt s) ∧ y.seed = Config.freeWord s.free ∧
      y.life = (if (sliceFields t r.id).any (fun f => (field t f).power < 2) then .creating else .running) ∧
      t = { elapse dt s with keepers := t.keepers, dies := t.dies, fields := t.fields, units := t.units, lcnMap := t.lcnMap, clusterMap := t.clusterMap, lanes := t.lanes, channels := t.channels, zports := t.zports, lostSlots := t.lostSlots, lcns := t.lcns, cores := t.cores, clusters := t.clusters, slices := t.slices, commits := t.commits, nextCommit := t.nextCommit, qualifying := t.qualifying, views := t.views, turn := t.turn, objs := t.objs, output := t.output, free := t.free }) ∧
  (∀ dt k x s, slice s k = some x → sliceLive x = true → x.nextSeed = none →
    ∃ t, exec (.seedDelivery dt k) s = .next t ∧
      slice t k = some { x with nextSeed := some (Config.freeWord s.free) } ∧
      t.output = s.output ++ [.seed k (epochOf s k + 1)] ∧ t.free = s.free + 1 ∧ t = { elapse dt s with slices := t.slices, turn := t.turn, output := t.output, free := t.free }) ∧
  (∀ dt k x w s, slice s k = some x → sliceLive x = true → x.nextSeed = some w →
    (x.epochStart + x.epochPeriod + 102399) / 102400 * 102400 ≤ pt (elapse dt s) →
    ∃ t y, exec (.epochStart dt k) s = .next t ∧ slice t k = some y ∧ y.seed = w ∧ y.lastSeed = x.seed ∧
      y.nextSeed = none ∧ y.epochStart = (x.epochStart + x.epochPeriod + 102399) / 102400 * 102400 ∧
      epochOf t k = (epochOf s k + 1) % 2 ^ 32 ∧ t = { elapse dt s with slices := t.slices, turn := t.turn })

/-- TILE_ISSUE to a core that nothing holds starts the tile there at its keeper's time; in Full mode both cores of
the pair start it. A tile that only moves data occupies no core. Behind a test tile the tile is held. On an
unbound LCN of a running slice the job runtime is notified with code 0x2A12 and the LCN. A tile that would read
a block that its Core Port refuses holds its core's issue; the slice counts it, ends and is abandoned. While it
ends, further ones are only counted. (R105, R157, R167, R186, R188, R201, R254) -/
def Obligations.TilesAreIssued : Prop :=
  (∀ dt lcn tile p x s, coreOf s lcn = some p → slice s (sliceOfLcn s lcn) = some x → x.life = .running →
    issueBlocked s (puaClusterKey p) = false → lcnMode s lcn ≠ .full → tile.kind ≠ .move →
    coreBusy (Machine.core s p) = false → inputPending (Machine.core s p) tile = false → (Machine.core s p).test = none →
    writesPinned (Machine.core s p) tile = false →
    unusableInput (Machine.core s p) tile = none →
    ∃ t y, exec (.tileIssue dt lcn tile) s = .next t ∧
      (Machine.core t p).tile = some (keeperRead (elapse dt s) (fieldKeeper (puaFieldIdx p)), tile) ∧
      slice t (sliceOfLcn s lcn) = some y ∧ y.issued = true ∧ (∀ q, q ≠ p → Machine.core t q = Machine.core s q) ∧
      t = { elapse dt s with dies := t.dies, fields := t.fields, lcns := t.lcns, cores := t.cores, clusters := t.clusters, slices := t.slices, turn := t.turn, objs := t.objs }) ∧
  (∀ dt lcn tile p q x s, coreOf s lcn = some p → coreOf s (lcn + 1) = some q → p ≠ q → lcn % 2 = 0 →
    slice s (sliceOfLcn s lcn) = some x → x.life = .running → issueBlocked s (puaClusterKey p) = false →
    lcnMode s lcn = .full → tile.kind ≠ .move → (∀ c ∈ [p, q], coreBusy (Machine.core s c) = false ∧
      (Machine.core s c).test = none ∧ writesPinned (Machine.core s c) tile = false) → inputPending (Machine.core s p) tile = false →
    unusableInput (Machine.core s p) tile = none →
    ∃ t, exec (.tileIssue dt lcn tile) s = .next t ∧
      (∀ c ∈ [p, q], (Machine.core t c).tile =
        some (keeperRead (elapse dt s) (fieldKeeper (puaFieldIdx c)), tile)) ∧ t = { elapse dt s with dies := t.dies, fields := t.fields, lcns := t.lcns, cores := t.cores, clusters := t.clusters, slices := t.slices, turn := t.turn, objs := t.objs }) ∧
  (∀ dt lcn tile p x s, coreOf s lcn = some p → slice s (sliceOfLcn s lcn) = some x → x.life = .running →
    issueBlocked s (puaClusterKey p) = false → isFollower s lcn = false → tile.kind = .move →
    ∃ t y, exec (.tileIssue dt lcn tile) s = .next t ∧ slice t (sliceOfLcn s lcn) = some y ∧ y.issued = true ∧
      t = { elapse dt s with clusters := t.clusters, slices := t.slices }) ∧
  (∀ dt lcn tile p x r s, coreOf s lcn = some p → slice s (sliceOfLcn s lcn) = some x → x.life = .running →
    issueBlocked s (puaClusterKey p) = false → lcnMode s lcn ≠ .full → tile.kind ≠ .move →
    coreBusy (Machine.core s p) = false → inputPending (Machine.core s p) tile = false → (Machine.core s p).test = some r →
    unusableInput (Machine.core s p) tile = none →
    ∃ t, exec (.tileIssue dt lcn tile) s = .next t ∧ (Machine.core t p).heldTile = some (0, tile) ∧ (Machine.core t p).tile = none ∧
      (Machine.core t p).test = some r ∧ t = { elapse dt s with dies := t.dies, fields := t.fields, lcns := t.lcns, cores := t.cores, clusters := t.clusters, slices := t.slices, turn := t.turn, objs := t.objs }) ∧
  (∀ dt lcn tile x s, coreOf s lcn = none → slice s (sliceOfLcn s lcn) = some x → x.life = .running →
    ownerDie s (sliceOfLcn s lcn) < s.dies.length →
    ∃ t e, exec (.tileIssue dt lcn tile) s = .next t ∧
      Raised s t (ownerDie s (sliceOfLcn s lcn)) e ∧ e.noteCode = 0x2A12 ∧ e.note = leBytes 4 lcn ++ leBytes 4 1 ∧ e.slice = sliceOfLcn s lcn ∧
      t = { elapse dt s with dies := t.dies }) ∧
  (∀ dt lcn tile p x s, coreOf s lcn = some p → slice s (sliceOfLcn s lcn) = some x → x.life = .running →
    issueBlocked s (puaClusterKey p) = false → lcnMode s lcn ≠ .full → tile.kind ≠ .move →
    coreBusy (Machine.core s p) = false → inputPending (Machine.core s p) tile = false → unusableInput (Machine.core s p) tile ≠ none →
    x.consumed = false →
    ∃ t y, exec (.tileIssue dt lcn tile) s = .next t ∧ slice t (sliceOfLcn s lcn) = some y ∧ y.consumed = true ∧
      y.abandon = true ∧ sobj t (sliceOfLcn s lcn) (key 0x2706 7) 0 = sobj s (sliceOfLcn s lcn) (key 0x2706 7) 0 + 1 ∧
      y.life = .ending ∧ 12 ∈ (Machine.core t p).stalls ∧ (Machine.core t p).tile = none ∧ t = { elapse dt s with dies := t.dies, fields := t.fields, lcns := t.lcns, cores := t.cores, clusters := t.clusters, slices := t.slices, turn := t.turn, objs := t.objs }) ∧
  (∀ dt lcn tile p x s, coreOf s lcn = some p → slice s (sliceOfLcn s lcn) = some x → x.life = .ending →
    x.consumed = true → x.teardown = none → tile.kind ≠ .move → unusableInput (Machine.core s p) tile ≠ none →
    ∃ t, exec (.tileIssue dt lcn tile) s = .next t ∧
      sobj t (sliceOfLcn s lcn) (key 0x2706 7) 0 = sobj s (sliceOfLcn s lcn) (key 0x2706 7) 0 + 1 ∧
      t = { elapse dt s with slices := t.slices })

/-- CONTRACTION_TILE_END counts the tile; a verdict of pass (in Observe the converters' alone) releases its output
blocks; an unchecked execution holds them back and is counted; a failed one holds them back, charges the core
with cause 0x01 or 0x03 and starts a recomputation. RECOMPUTE_ATTEMPT_END ends the recompute on a pass; on a
failure attempt 1 is followed by attempt 2 on the original core, attempt 2 by attempt 3, and after that the
blocks are poisoned. SAMPLE_STREAM_TILE_END advances the progress count. INELIGIBLE_COMPUTE_TILE_END is counted,
and in Standard and Strict voids the bound from now. PINNED_BLOCK_FETCH drops the pin, and with fewer than 8
pins left and no tile that waits for one the issue goes on. (R101, R114, R127, R129, R135, R139, R140, R141,
R143, R147) -/
def Obligations.TileVerdicts : Prop :=
  (∀ dt lcn taps r p start tile x s, tileCore s lcn = some p → (Machine.core s p).tile = some (start, tile) →
    isContraction tile.kind = true → (Machine.core s p).taken.2 ≠ .full → tapsValid taps = true →
    slice s (sliceOfLcn s lcn) = some x → aCore s p = true →
    (Machine.core s ((coreOf s lcn).getD p)).heldTile = none →
    let k := sliceOfLcn s lcn
    let verdict := (verdictOn lcn (lcnRec s lcn).contraction 0 (seedFor s k (epochAt s k start))
      (Machine.core s p).taken.2 taps s).1
    ∃ t, exec (.contractionTileEnd dt lcn taps r) s = .next t ∧ (Machine.core t p).tile = none ∧
      (lcnRec t lcn).contraction = ((lcnRec s lcn).contraction + 1) % 2 ^ 64 ∧
      (verdict = .pass → OutputsHeld t ((coreOf s lcn).getD p) tile true) ∧
      (verdict = .unchecked → OutputsHeld t ((coreOf s lcn).getD p) tile false ∧
        sobj t k (key 0x2506 3) 0 = sobj s k (key 0x2506 3) 0 + 1) ∧
      (∀ pair v conv, verdict = .fail pair v conv →
        OutputsHeld t ((coreOf s lcn).getD p) tile false ∧ Charged t p (if conv then 3 else 1) 0x2501 ∧
        sobj t k (key 0x2506 2) 0 = sobj s k (key 0x2506 2) 0 + 1 ∧
        (∃ e ∈ t.recomputes, e.2.tile = tile ∧ e.2.original = p ∧ e.2.attempt = 1 ∧
          e.2.contraction = (lcnRec s lcn).contraction)) ∧ t = { elapse dt s with dies := t.dies, fields := t.fields, units := t.units, lcns := t.lcns, cores := t.cores, clusters := t.clusters, slices := t.slices, recomputes := t.recomputes, views := t.views, turn := t.turn, objs := t.objs, free := t.free }) ∧
  (∀ dt lcn fetched taps r n x y s, oldestEntry s.recomputes lcn = some (n, x) → frozen s = false →
    (∀ e ∈ s.clusters, ∀ d ∈ e.2.descriptors, d.lcn ≠ lcn) → (∀ e ∈ s.cores, ∀ d ∈ e.2.queue, d.lcn ≠ lcn) →
    slice s (sliceOfLcn s lcn) = some y → fetched = inputWords x.tile → isContraction x.tile.kind = true →
    tapsValid taps = true →
    let k := sliceOfLcn s lcn
    let verdict := (verdictOn lcn x.contraction (16 * x.attempt) (seedFor s k x.epoch) (lcnMode s lcn) taps s).1
    ∃ t, exec (.recomputeAttemptEnd dt lcn fetched taps r) s = .next t ∧
      (verdict = .pass → (∀ e ∈ t.recomputes, e.1 ≠ n) ∧ OutputsHeld t ((coreOf s lcn).getD x.original) x.tile true) ∧
      (∀ pair v conv, verdict = .fail pair v conv →
        (x.attempt = 1 → tget t.recomputes n = some { x with attempt := 2, core := x.original }) ∧
        (x.attempt = 2 → ∃ c, tget t.recomputes n = some { x with attempt := 3, core := c }) ∧
        (x.attempt = 3 → (∀ e ∈ t.recomputes, e.1 ≠ n) ∧ OutputsPoisoned t x.original x.tile ∧
          sobj t k (key 0x2506 5) 0 = sobj s k (key 0x2506 5) 0 + 1)) ∧ t = { elapse dt s with dies := t.dies, fields := t.fields, units := t.units, lcns := t.lcns, cores := t.cores, clusters := t.clusters, slices := t.slices, recomputes := t.recomputes, turn := t.turn, objs := t.objs, free := t.free }) ∧
  (∀ dt lcn r p start tile s, tileCore s lcn = some p → (Machine.core s p).tile = some (start, tile) →
    tile.kind = .eligible → lcnMode s lcn ≠ .full → (Machine.core s ((coreOf s lcn).getD p)).heldTile = none →
    (lcnRec s lcn).progress = (Machine.core s p).taken.1 →
    ∃ t, exec (.sampleStreamTileEnd dt lcn r) s = .next t ∧ (Machine.core t p).tile = none ∧
      (lcnRec t lcn).progress = ((lcnRec s lcn).progress + 1) % 2 ^ 64 ∧
      (lcnRec t lcn).lastReleased =
        some ((lcnRec s lcn).progress, keeperRead (elapse dt s) (fieldKeeper (puaFieldIdx p))) ∧
      OutputsHeld t ((coreOf s lcn).getD p) tile true ∧ t = { elapse dt s with dies := t.dies, fields := t.fields, units := t.units, lcns := t.lcns, cores := t.cores, clusters := t.clusters, slices := t.slices, views := t.views, turn := t.turn, objs := t.objs }) ∧
  (∀ dt lcn p start tile x s, tileCore s lcn = some p → (Machine.core s p).tile = some (start, tile) →
    tile.kind = .ineligible → lcnMode s lcn ≠ .full → slice s (sliceOfLcn s lcn) = some x →
    let k := sliceOfLcn s lcn
    ∃ t y, exec (.ineligibleComputeTileEnd dt lcn) s = .next t ∧ slice t k = some y ∧
      sobj t k (key 0x2409 1) 0 = sobj s k (key 0x2409 1) 0 + 1 ∧
      y.ineligibleAt = (if signPairs (lcnMode s lcn) = 0 then x.ineligibleAt else some (pt (elapse dt s))) ∧
      OutputsHeld t ((coreOf s lcn).getD p) tile true ∧ t = { elapse dt s with dies := t.dies, fields := t.fields, lcns := t.lcns, cores := t.cores, clusters := t.clusters, slices := t.slices, views := t.views, turn := t.turn, objs := t.objs, free := t.free }) ∧
  (∀ dt (u : Pua) block s, block ∈ (Machine.core s u.toNat).pins →
    ∃ t, exec (.pinnedBlockFetch dt u block) s = .next t ∧
      (Machine.core t u.toNat).pins = (Machine.core s u.toNat).pins.filter (· ≠ block) ∧
      ((Machine.core s u.toNat).heldTile = none → ((Machine.core s u.toNat).pins.filter (· ≠ block)).length < 8 →
        1 ∉ (Machine.core t u.toNat).stalls) ∧
      t = { elapse dt s with dies := t.dies, fields := t.fields, lcns := t.lcns, cores := t.cores, clusters := t.clusters, slices := t.slices, turn := t.turn, objs := t.objs })

/-- REPLAY_COMPLETE that matches counts as a verdict and a match; one that differs counts, withholds the original
core and starts a tie-break; one whose inputs changed is stale and the next tile of the LCN is sampled in its
place. TIE_BREAK_COMPLETE names the original core (charged 0x10), the replay core (charged 0x04, the original
resumes) or neither. REPLAY_GROUP_END after the deadline clears or enters bound state 2's condition.
FULL_PAIR_TILE_END releases the leader's blocks on a match, and on a mismatch withholds both cores and starts a
third execution. THIRD_EXECUTION_COMPLETE charges the cores outside the majority with cause 0x11.
WITHHOLD_REPEAT reports a withheld core again after 10 ms. (R102, R114, R139, R147, R148, R155, R156, R158,
R159, R261) -/
def Obligations.ReplaysAndArbitrations : Prop :=
  (∀ dt lcn fetched r0 rc d x s, endingReplay s lcn = some (rc, d) → slice s (sliceOfLcn s lcn) = some x →
    (Machine.core s rc).test = none →
    let k := sliceOfLcn s lcn
    let r := formedResult s k d.tile r0
    let same := d.stale = false ∧ fetched = inputWords d.tile ∧ ∀ w ∈ fetched, wordPoison w = false
    ∃ t, exec (.replayComplete dt lcn fetched r0) s = .next t ∧
      (same → sobj t k (key 0x2607 1) 0 = sobj s k (key 0x2607 1) 0 + 1 ∧
        (∀ g, d.group = some g → g ∈ (lcnRec t lcn).verdicts) ∧
        (resultsMatch s d.tile d.result r = true → sobj t k (key 0x2607 2) 0 = sobj s k (key 0x2607 2) 0 + 1 ∧
          (d.unchecked = false → d.group ≠ none → coreOf s lcn = some d.original →
            (lcnRec s lcn).lastMatch = none → (lcnRec t lcn).lastMatch = some (d.progress, d.endPt))) ∧
        (resultsMatch s d.tile d.result r = false → d.unchecked = false →
          sobj t k (key 0x2607 3) 0 = sobj s k (key 0x2607 3) 0 + 1 ∧
          (∃ e ∈ t.tieBreaks, e.2.desc = d ∧ e.2.replay = r ∧ e.2.replayCore = rc) ∧
          (coreOf s lcn = some d.original → (Machine.core t d.original).withheld = true ∧
            ((Machine.core s d.original).withheld = false → (Machine.core t d.original).tile = none)))) ∧
      (fetched ≠ inputWords d.tile → sobj t k (key 0x2607 4) 0 = sobj s k (key 0x2607 4) 0 + 1 ∧
        sobj t k (key 0x2607 1) 0 = sobj s k (key 0x2607 1) 0 ∧
        (d.unchecked = false → d.group ≠ none → (lcnRec t lcn).makeUp = true)) ∧ t = { elapse dt s with dies := t.dies, fields := t.fields, units := t.units, lcns := t.lcns, cores := t.cores, clusters := t.clusters, slices := t.slices, recomputes := t.recomputes, tieBreaks := t.tieBreaks, turn := t.turn, objs := t.objs }) ∧
  (∀ dt lcn r0 current n x y s, oldestEntry s.tieBreaks lcn = some (n, x) → slice s (sliceOfLcn s lcn) = some y →
    frozen s = false → (∀ p ∈ [x.desc.original, x.replayCore], aCore s p = true) →
    let k := sliceOfLcn s lcn
    let r := formedResult s k x.desc.tile r0
    ∃ t, exec (.tieBreakComplete dt lcn r0 current) s = .next t ∧ (∀ e ∈ t.tieBreaks, e.1 ≠ n) ∧
      sobj t k (key 0x2609 1) 0 = lcn ∧ sobj t k (key 0x2609 2) 0 = x.replayCore ∧
      sobj t k (key 0x2609 3) 0 = x.desc.progress ∧
      (resultsMatch s x.desc.tile x.replay r = true → sobj t k (key 0x2609 4) 0 = 0 ∧
        Charged t x.desc.original 0x10 0x2601) ∧
      (resultsMatch s x.desc.tile x.replay r = false → resultsMatch s x.desc.tile x.desc.result r = true →
        sobj t k (key 0x2609 4) 0 = 1 ∧ sobj t k (key 0x2607 7) 0 = sobj s k (key 0x2607 7) 0 + 1 ∧
        Charged t x.replayCore 0x04 0 ∧
        (coreOf s lcn = some x.desc.original → stateOf s x.desc.original ≠ .quarantined →
          (Machine.core t x.desc.original).withheld = false)) ∧
      (resultsMatch s x.desc.tile x.replay r = false → resultsMatch s x.desc.tile x.desc.result r = false →
        sobj t k (key 0x2609 4) 0 = 2 ∧ sobj t k (key 0x2607 8) 0 = sobj s k (key 0x2607 8) 0 + 1 ∧
        Charged t x.desc.original 0x10 0x2601) ∧ t = { elapse dt s with dies := t.dies, fields := t.fields, lcns := t.lcns, cores := t.cores, clusters := t.clusters, slices := t.slices, tieBreaks := t.tieBreaks, turn := t.turn, objs := t.objs }) ∧
  (∀ dt lcn group a x s, tget (lcnRec s lcn).groupEnds group = some a → a ≤ pt (elapse dt s) →
    slice s (sliceOfLcn s lcn) = some x →
    let k := sliceOfLcn s lcn
    ∃ t y, exec (.replayGroupEnd dt lcn group) s = .next t ∧ slice t k = some y ∧
      tget (lcnRec t lcn).groupEnds group = none ∧ group ∉ (lcnRec t lcn).verdicts ∧
      (group ∈ (lcnRec s lcn).verdicts → (lcnRec t lcn).short = false ∧ lcn ∉ y.short) ∧
      (group ∉ (lcnRec s lcn).verdicts → (lcnRec t lcn).short = true ∧ lcn ∈ y.short ∧
        sobj t k (key 0x2607 9) 0 = sobj s k (key 0x2607 9) 0 + 1) ∧
      (sliceLive x = true → y.boundState = boundStateOf t y) ∧ t = { elapse dt s with dies := t.dies, lcns := t.lcns, slices := t.slices, turn := t.turn }) ∧
  (∀ dt lcn l0 f0 a b start tile other x s, pairCores s lcn = some (a, b) →
    (Machine.core s a).tile = some (start, tile) → (Machine.core s b).tile = some other →
    tile.kind ≠ .move → slice s (sliceOfLcn s lcn) = some x →
    let k := sliceOfLcn s lcn
    let leader := formedResult s k tile l0
    let follower := formedResult s k tile f0
    ∃ t, exec (.fullPairTileEnd dt lcn l0 f0) s = .next t ∧
      (∀ l ∈ [lcn, lcn + 1], (lcnRec t l).progress = (if tile.kind = .ineligible then (lcnRec s l).progress
        else ((lcnRec s l).progress + 1) % 2 ^ 64)) ∧
      (resultsMatch s tile leader follower = true → OutputsHeld t a tile true) ∧
      (resultsMatch s tile leader follower = false →
        sobj t k (key 0x2608 1) 0 = sobj s k (key 0x2608 1) 0 + 1 ∧ (Machine.core t a).withheld = true ∧
        (Machine.core t b).withheld = true ∧
        (∃ e ∈ t.thirds, e.2.desc.original = a ∧ e.2.replayCore = b ∧ e.2.desc.tile = tile)) ∧
      t = { elapse dt s with dies := t.dies, fields := t.fields, lcns := t.lcns, cores := t.cores, clusters := t.clusters, slices := t.slices, thirds := t.thirds, views := t.views, turn := t.turn, objs := t.objs, free := t.free }) ∧
  (∀ dt lcn r0 current n x y s, oldestEntry s.thirds lcn = some (n, x) → slice s (sliceOfLcn s lcn) = some y →
    frozen s = false → (∀ p ∈ [x.desc.original, x.replayCore], aCore s p = true) →
    let k := sliceOfLcn s lcn
    let r := formedResult s k x.desc.tile r0
    ∃ t, exec (.thirdExecutionComplete dt lcn r0 current) s = .next t ∧ (∀ e ∈ t.thirds, e.1 ≠ n) ∧
      (resultsMatch s x.desc.tile x.desc.result r = true → Charged t x.replayCore 0x11 0 ∧
        (Machine.core t x.desc.original).withheld = false) ∧
      (resultsMatch s x.desc.tile x.desc.result r = false → resultsMatch s x.desc.tile x.replay r = true →
        Charged t x.desc.original 0x11 0x2602 ∧ (Machine.core t x.replayCore).withheld = false) ∧
      (resultsMatch s x.desc.tile x.desc.result r = false → resultsMatch s x.desc.tile x.replay r = false →
        Charged t x.desc.original 0x11 0x2602 ∧ Charged t x.replayCore 0x11 0 ∧
        sobj t k (key 0x2608 2) 0 = sobj s k (key 0x2608 2) 0 + 1) ∧ t = { elapse dt s with dies := t.dies, fields := t.fields, lcns := t.lcns, cores := t.cores, clusters := t.clusters, slices := t.slices, thirds := t.thirds, turn := t.turn, objs := t.objs }) ∧
  (∀ dt (u : Pua) a s, (Machine.core s u.toNat).withheldAt = some a → (Machine.core s u.toNat).withheld = true →
    a + 10000000 ≤ s.now + dt → (∀ e ∈ s.tieBreaks, e.2.desc.original ≠ u.toNat) →
    (∀ e ∈ s.thirds, e.2.desc.original ≠ u.toNat ∧ e.2.replayCore ≠ u.toNat) → eventWaits s u.toNat = false →
    (unitRec s u.toNat).open_ = false → inService (stateOf s u.toNat) = true → aCore s u.toNat = true →
    (∀ l, lcnOfCore s u.toNat = some l → lcnMode s l ≠ .full) →
    ∃ t, exec (.withholdRepeat dt u) s = .next t ∧ Charged t u.toNat 0x10 0 ∧ t = { elapse dt s with dies := t.dies, fields := t.fields, clusters := t.clusters, turn := t.turn })

/-- BLOCK_ARRIVAL of a good block writes it re-tagged; a first mismatch counts, opens a refetch and asks for it; a
stale block only counts; a reply from before a reset is dropped and counted. BLOCK_ARRIVAL_TIMEOUT of an open
transfer asks for the next of three refetches, and then reports the path; of a block that broke off, it is a
mismatch: the transfer opens and one refetch is asked for. REPAIR_WAIT_EXPIRY poisons the block on its path.
OUTBOUND_BLOCK_SEND counts a block that its word fits, and holds one back that it does not. SRAM_PARITY_ERROR
charges the core with cause 0x06 and holds the block back. (R169, R176, R177, R178, R179, R180, R187, R282) -/
def Obligations.BlocksArrive : Prop :=
  (∀ dt tr w payload x s, tr.toHost = false → tr.epoch % 4 = coreEpoch s tr.receiver.toNat →
    tr.block < 12 → tr.block ∉ (Machine.core s tr.receiver.toNat).pins → tget s.transfers tr.id = none → slice s tr.destSlice = some x →
    let gen := tableGeneration s tr.sourceSlice (receiverTable tr none s.variant)
    let mine := tableGeneration s tr.destSlice (receiverTable tr none s.variant)
    let verdict := arrivalTest gen tr.sourceSlice (checkingOn s tr.destSlice) w payload
    ∃ t, exec (.blockArrival dt tr w payload) s = .next t ∧
      (verdict = .good ∨ verdict = .poisoned →
        tget (Machine.core t tr.receiver.toNat).sram tr.block = some ⟨retag w tr.destSlice mine, true, none, some tr⟩ ∧
        sobj t tr.destSlice (key 0x2706 1) 0 = sobj s tr.destSlice (key 0x2706 1) 0 + 1 ∧
        t.transfers = tdel s.transfers tr.id) ∧
      (verdict = .mismatch → (∃ o, tget t.transfers tr.id = some o ∧ o.transfer = tr ∧ o.refetches = 1) ∧
        .refetch tr.id ∈ t.output ∧ sobj t tr.destSlice (key 0x2706 2) 0 = sobj s tr.destSlice (key 0x2706 2) 0 + 1 ∧
        sobj t tr.destSlice (key 0x2706 3) 0 = sobj s tr.destSlice (key 0x2706 3) 0 + 1) ∧
      (verdict = .stale → sobj t tr.destSlice (key 0x2706 8) 0 = sobj s tr.destSlice (key 0x2706 8) 0 + 1 ∧
        obj t (key 0x2707 7) 0 = obj s (key 0x2707 7) 0 + 1 ∧ t.cores = s.cores) ∧ t = { elapse dt s with dies := t.dies, fields := t.fields, lcns := t.lcns, cores := t.cores, clusters := t.clusters, slices := t.slices, transfers := t.transfers, follows := t.follows, inFlight := t.inFlight, dram := t.dram, views := t.views, turn := t.turn, objs := t.objs, output := t.output }) ∧
  (∀ dt tr w payload s, tr.toHost = false → tr.epoch % 4 ≠ coreEpoch s tr.receiver.toNat →
    ∃ t, exec (.blockArrival dt tr w payload) s = .next t ∧ obj t (key 0x2C15 0) 0 = obj s (key 0x2C15 0) 0 + 1 ∧
      t = { elapse dt s with objs := t.objs, inFlight := t.inFlight }) ∧
  (∀ dt tr addr o s, tget s.transfers tr.id = some o → o.transfer.id = tr.id → o.repairFrom = none →
    o.repairing = false → o.started + obj s (key 0x2704 0) 2000 * 1000 ≤ s.now + dt →
    ∃ t y, exec (.blockArrivalTimeout dt tr addr) s = .next t ∧ tget t.transfers tr.id = some y ∧
      y.transfer = o.transfer ∧
      (o.refetches < 3 → y.refetches = o.refetches + 1 ∧ y.started = s.now + dt ∧ y.repairFrom = none ∧
        t.output = s.output ++ [.refetch tr.id]) ∧
      (3 ≤ o.refetches → y.repairFrom = some (s.now + dt) ∧ y.unit = pathUnit o.transfer (followed s tr.id)) ∧
      t = { elapse dt s with dies := t.dies, fields := t.fields, lcns := t.lcns, cores := t.cores, clusters := t.clusters, slices := t.slices, transfers := t.transfers, follows := t.follows, inFlight := t.inFlight, dram := t.dram, views := t.views, turn := t.turn, objs := t.objs, output := t.output }) ∧
  (∀ dt tr addr x s, tget s.transfers tr.id = none → slice s tr.destSlice = some x →
    addr ≠ none ∨ tr.toHost = true ∨ tr.epoch % 4 = coreEpoch s tr.receiver.toNat →
    ∃ t o, exec (.blockArrivalTimeout dt tr addr) s = .next t ∧ tget t.transfers tr.id = some o ∧ o.transfer = tr ∧
      o.addr = addr ∧ o.refetches = 1 ∧ .refetch tr.id ∈ t.output ∧
      sobj t tr.destSlice (key 0x2706 2) 0 = sobj s tr.destSlice (key 0x2706 2) 0 + 1 ∧ t = { elapse dt s with dies := t.dies, fields := t.fields, lcns := t.lcns, cores := t.cores, clusters := t.clusters, slices := t.slices, transfers := t.transfers, follows := t.follows, inFlight := t.inFlight, dram := t.dram, views := t.views, turn := t.turn, objs := t.objs, output := t.output }) ∧
  (∀ dt id o a x s, tget s.transfers id = some o → o.transfer.id = id → o.repairFrom = some a → o.repairing = false →
    a + obj s (key 0x2705 0) 50 * 1000000 ≤ s.now + dt → o.addr = none → o.transfer.toHost = false →
    slice s o.transfer.destSlice = some x → o.transfer.block < 12 →
    o.transfer.block ∉ (Machine.core s o.transfer.receiver.toNat).pins →
    ∃ t b, exec (.repairWaitExpiry dt id) s = .next t ∧
      tget (Machine.core t o.transfer.receiver.toNat).sram o.transfer.block = some b ∧ wordPoison b.word = true ∧
      t.transfers = tdel s.transfers id ∧ obj t (key 0x2708 5) 0 = 2 ∧
      sobj t o.transfer.destSlice (key 0x2706 6) 0 = sobj s o.transfer.destSlice (key 0x2706 6) 0 + 1 ∧
      t = { elapse dt s with dies := t.dies, fields := t.fields, lcns := t.lcns, cores := t.cores, clusters := t.clusters, slices := t.slices, transfers := t.transfers, follows := t.follows, inFlight := t.inFlight, dram := t.dram, views := t.views, turn := t.turn, objs := t.objs, output := t.output }) ∧
  (∀ dt (u : Pua) block payload b s, tget (Machine.core s u.toNat).sram block = some b → b.released = true →
    ∃ t, exec (.outboundBlockSend dt u block payload) s = .next t ∧
      (checkFits b.word payload = true → tgetD (Machine.core t u.toNat).counters 4 0 = tgetD (Machine.core s u.toNat).counters 4 0 + 1 ∧
        (Machine.core t u.toNat).sram = (Machine.core s u.toNat).sram) ∧
      (checkFits b.word payload = false →
        tget (Machine.core t u.toNat).sram block = some { b with released := false } ∧
        (∀ x, slice s (sliceOfUnit s u.toNat) = some x → sobj t (sliceOfUnit s u.toNat) (key 0x2706 9) 0 =
          sobj s (sliceOfUnit s u.toNat) (key 0x2706 9) 0 + 1)) ∧ t = { elapse dt s with dies := t.dies, fields := t.fields, lcns := t.lcns, cores := t.cores, clusters := t.clusters, slices := t.slices, recomputes := t.recomputes, transfers := t.transfers, follows := t.follows, inFlight := t.inFlight, dram := t.dram, views := t.views, turn := t.turn, objs := t.objs, output := t.output }) ∧
  (∀ dt (u : Pua) block b s, tget (Machine.core s u.toNat).sram block = some b → aCore s u.toNat = true →
    ∃ t, exec (.sramParityError dt u block) s = .next t ∧ Charged t u.toNat 0x06 0 ∧
      tget (Machine.core t u.toNat).sram block = some { b with released := false } ∧ t = { elapse dt s with dies := t.dies, fields := t.fields, lcns := t.lcns, cores := t.cores, clusters := t.clusters, slices := t.slices, recomputes := t.recomputes, transfers := t.transfers, follows := t.follows, inFlight := t.inFlight, dram := t.dram, views := t.views, turn := t.turn, objs := t.objs, output := t.output })

/-- DRAM_READ of data that fit leaves every block as it is; an uncorrectable read, or two that do not fit, poison
the block, and the pseudo-channel is charged with cause 0x0A. DRAM_WRITE stores a good block. LOST_STACK_REQUEST
counts the read or the write. SEAM_BLOCK_CHECK marks the last good or the first failing point; its 33rd transfer
passes unseen. HOST_INGRESS stores a block with a word of the slice, and HOST_PARTIAL_WRITE merges bytes into a
good one whose data fit; both answer an error to a slice that does not run. (R172, R174, R175, R184, R185, R187,
R248) -/
def Obligations.MemoryBlocksAndTheHost : Prop :=
  (∀ dt a first second uncorrectable corrected s, answersLost s a = false → (dramBlock s a).irregular = false →
    unitField (dramUnit s a) < s.fields.length → puaKind (dramUnit s a) = 4 →
    let w := (dramBlock s a).word
    ∃ t, exec (.dramRead dt a first second uncorrectable corrected) s = .next t ∧
      (uncorrectable = false → checkFits w first = true ∨ checkFits w second = true → t.dram = s.dram) ∧
      (uncorrectable = true ∨ (checkFits w first = false ∧ checkFits w second = false) →
        wordPoison (dramBlock t a).word = true ∧ (dramBlock t a).payload = (dramBlock s a).payload ∧
        (∀ x, dramKey x ≠ dramKey a → dramBlock t x = dramBlock s x) ∧
        (∃ e ∈ (field t (unitField (dramUnit s a))).queue, e.kind = .charge ∧ e.cause = 0x0A ∧ e.code = 0x2702 ∧
          e.pua = dramUnit s a)) ∧
      (uncorrectable = true → obj t (key 0x2707 3) 0 = obj s (key 0x2707 3) 0 + 1) ∧
      (uncorrectable = false → checkFits w first = false → checkFits w second = false →
        obj t (key 0x2707 4) 0 = obj s (key 0x2707 4) 0 + 1) ∧
      (uncorrectable = false → checkFits w first = false → checkFits w second = true →
        obj t (key 0x2707 8) 0 = obj s (key 0x2707 8) 0 + 1) ∧ t = { elapse dt s with dies := t.dies, fields := t.fields, clusters := t.clusters, slices := t.slices, dram := t.dram, views := t.views, turn := t.turn, objs := t.objs, free := t.free }) ∧
  (∀ dt a tr w payload s, answersLost s a = false → tr.toHost = false → tget s.transfers tr.id = none →
    arrivalTest (tableGeneration s tr.sourceSlice (receiverTable tr (some a) s.variant)) tr.sourceSlice
      (checkingOn s tr.destSlice) w payload = .good →
    ∃ t, exec (.dramWrite dt a tr w payload) s = .next t ∧
      dramBlock t a = ⟨retag w tr.destSlice (tableGeneration s tr.destSlice (receiverTable tr (some a) s.variant)),
        payload, false⟩ ∧ (∀ x, dramKey x ≠ dramKey a → dramBlock t x = dramBlock s x) ∧ t = { elapse dt s with dies := t.dies, fields := t.fields, lcns := t.lcns, cores := t.cores, clusters := t.clusters, slices := t.slices, transfers := t.transfers, follows := t.follows, inFlight := t.inFlight, dram := t.dram, views := t.views, turn := t.turn, objs := t.objs, output := t.output }) ∧
  (∀ dt a write k gen s, answersLost s a = true →
    ∃ t, exec (.lostStackRequest dt a write k gen) s = .next t ∧
      obj t (key 0x2707 (if write then 6 else 5)) 0 = obj s (key 0x2707 (if write then 6 else 5)) 0 + 1 ∧
      (write = true → t = { elapse dt s with objs := t.objs }) ∧ t = { elapse dt s with dies := t.dies, fields := t.fields, clusters := t.clusters, turn := t.turn, objs := t.objs }) ∧
  (∀ dt (point : Pua) id w payload s,
    let p := point.toNat
    let fits := wordReserved w = 0 ∧ wordFormat w ≠ 0xA ∧ wordFormat w ≠ 0xB ∧ checkFits w payload = true
    ∃ t, exec (.seamBlockCheck dt point id w payload) s = .next t ∧
      (32 ≤ s.inFlight.countP (fun e => e.1 = p) → obj t (key 0x2707 2) 0 = obj s (key 0x2707 2) 0 + 1 ∧
        t.inFlight = s.inFlight) ∧
      (s.inFlight.countP (fun e => e.1 = p) < 32 → t.inFlight = s.inFlight ++ [(p, id)] ∧
        (fits → followed t id = { followed s id with lastGood := p, unseen := 0xFFFFFFFF } ∧ t.objs = s.objs) ∧
        (¬ fits → (followed t id).firstFail =
            (if (followed s id).firstFail = 0xFFFFFFFF then p else (followed s id).firstFail) ∧
          obj t (key 0x2707 1) 0 = obj s (key 0x2707 1) 0 + 1)) ∧ t = { elapse dt s with dies := t.dies, fields := t.fields, clusters := t.clusters, follows := t.follows, inFlight := t.inFlight, turn := t.turn, objs := t.objs }) ∧
  (∀ dt a k fmt payload x s, slice s k = some x →
    ∃ t, exec (.hostIngress dt a k fmt payload) s = .next t ∧
      (x.life = .running → answersLost s a = false → fmt ≤ 9 →
        dramBlock t a = ⟨streamerWord (payloadCheck payload) (generation s k) fmt k 0 0, payload, false⟩ ∧
        (∀ y, dramKey y ≠ dramKey a → dramBlock t y = dramBlock s y) ∧ t.output = s.output) ∧
      (x.life ≠ .running → t.output = s.output ++ [.hostError (dramKey a)] ∧
        t = { elapse dt s with output := t.output }) ∧ t = { elapse dt s with dies := t.dies, slices := t.slices, dram := t.dram, views := t.views, turn := t.turn, output := t.output }) ∧
  (∀ dt a k offset bytes x s, slice s k = some x →
    checkFits (dramBlock s a).word (dramBlock s a).payload = true →
    let b := dramBlock s a
    let merged := fitBytes 4096 (b.payload.take offset ++ bytes ++ b.payload.drop (offset + bytes.length))
    ∃ t, exec (.hostPartialWrite dt a k offset bytes) s = .next t ∧
      (x.life = .running → answersLost s a = false →
        arrivalTest (generation s k) k (checkingOn s k) b.word b.payload = .good →
        dramBlock t a = ⟨streamerWord (payloadCheck merged) (generation s k) (wordFormat b.word) k 0 0, merged, false⟩ ∧
        t.output = s.output) ∧
      (x.life ≠ .running ∨ arrivalTest (generation s k) k (checkingOn s k) b.word b.payload = .poisoned →
        t.output = s.output ++ [.hostError (dramKey a)] ∧ t.dram = s.dram) ∧ t = { elapse dt s with dies := t.dies, fields := t.fields, clusters := t.clusters, slices := t.slices, dram := t.dram, views := t.views, turn := t.turn, objs := t.objs, output := t.output })

/-- IDLE_SLOT_START begins the slot in a field whose keeper stands in it; IDLE_SLOT_END ends those whose end the
field's keeper has reached, and then a one-shot notice. TEST_TILE_START on an allowed free core makes it a test
target, with its partner in a random-operand test; its entry is the Field Agent's own. TEST_TILE_END: a random-
operand match frees both cores; a known-answer entry fails only after its rerun (cause 0x12), which waits where
it may not start; a checker that does not tell clean from injected runs is charged to its Bridle with cause
0x13; a margin failure after its rerun at +100 MHz is outcome 1. TEST_THIRD_RUN_END charges the core, the
partner or both. FORCED_CHECKER_SLOT takes the next logical core that issues. TEST_OVERDUE counts a core once.
(R194, R199, R203, R204, R206, R209, R210, R211, R213, R214, R216, R217) -/
def Obligations.TestsInTheField : Prop :=
  (∀ dt k id x n f e s, slice s k = some x →
    x.notices.find? (fun n => n.notice.id = id && n.revoked.isNone) = some n → f ∈ noticeFields s n.notice →
    tget n.running f = none → slotAt n.periodic n.notice (fieldTime (elapse dt s) f) = some e →
    ∃ t y, exec (.idleSlotStart dt k id) s = .next t ∧ slice t k = some y ∧
      (∃ m ∈ y.notices, m.notice = n.notice ∧ m.periodic = n.periodic ∧ tget m.running f = some e) ∧
      (∀ m ∈ x.notices, m ≠ n → m ∈ y.notices) ∧
      (∃ g ∈ noticeFields s n.notice, sobj t k (key 0x280A 3) 0 = fieldTime (elapse dt s) g) ∧ t = { elapse dt s with fields := t.fields, slices := t.slices, turn := t.turn }) ∧
  (∀ dt k id x s, slice s k = some x →
    ∃ t y, exec (.idleSlotEnd dt k id) s = .next t ∧ slice t k = some y ∧
      (∀ m ∈ y.notices, m.notice.id = id → (∀ q ∈ m.running, fieldTime (elapse dt s) q.1 < q.2) ∧
        (m.running = [] → m.periodic = false → ∃ f ∈ noticeFields (elapse dt s) m.notice,
          fieldTime (elapse dt s) f < m.notice.start + m.notice.length)) ∧
      (∀ m ∈ x.notices, m.notice.id ≠ id → m ∈ y.notices) ∧ t = { elapse dt s with slices := t.slices, turn := t.turn }) ∧
  (∀ dt test s,
    let p := test.core.toNat
    let ck := puaClusterKey p
    let code := fmaxEntry s p (field s (puaFieldIdx p)).step
    let mhz := if test.kind = 3 then freqOfCode code else coreMhz s p
    let answer := nextAnswer s p test.kind
    let known := test.kind = 1 ∨ test.kind = 4
    let entry := if known then (answer.getD (0, 0)).1 else 0
    puaValid s.variant p = true → puaKind p = 0 → test.kind ≤ 4 → coreFree s p = true → testTargets s ck = [] →
    mayStart (elapse dt s) p test.kind entry mhz = true → outranked (elapse dt s) p test.kind = false →
    (known → answer ≠ none) → (test.kind = 3 → code ≤ 28 ∧ changeNear (elapse dt s) p = false) →
    ∃ t, exec (.testTileStart dt test) s = .next t ∧
      (∀ q, test.kind = 0 →
        choosePartner (elapse dt s) p (test.partner.map (·.toNat)) [p] (coreMhz s p) = some q →
        ∃ r, (Machine.core t p).test = some r ∧ (Machine.core t q).test = some r ∧ r.test.core = test.core ∧ r.test.kind = 0 ∧
          r.test.entry = (randomWord (field s (puaFieldIdx p)).testSeed p (Machine.core s p).randoms 0).toNat ∧
          r.started = pt (elapse dt s) ∧ r.reruns = 0) ∧
      (test.kind ≠ 0 → ∃ r, (Machine.core t p).test = some r ∧ r.test.core = test.core ∧ r.test.kind = test.kind ∧
          r.started = pt (elapse dt s) ∧ r.reruns = (if known then (answer.getD (0, 0)).2 else 0) ∧
          r.test.entry = (if test.kind = 2 then checkerEntry s ck else if test.kind = 3 then 0xE0 else entry)) ∧
      t = { elapse dt s with fields := t.fields, cores := t.cores, clusters := t.clusters, turn := t.turn, free := t.free }) ∧
  (∀ dt (u : Pua) expected signature clean injected r s, (Machine.core s u.toNat).test = some r → r.test.core = u →
    r.third = none → (Machine.core s u.toNat).tile = none → frozen s = false → aCore s u.toNat = true →
    let p := u.toNat
    let a := knownAnswer s (puaFieldIdx p) r.test.entry
    let pass := if r.test.kind = 4 then expected = signature else a.signature = signature
    let known := r.test.kind = 1 ∨ r.test.kind = 4
    let again := (Machine.core s p).heldTile = none ∧
      mayStart (elapse dt s) p r.test.kind r.test.entry (coreMhz s p) = true
    ∃ t, exec (.testTileEnd dt u expected signature clean injected) s = .next t ∧
      (∀ q, r.test.kind = 0 → r.test.partner = some q → expected = signature → (Machine.core t p).test = none ∧
        (Machine.core t q.toNat).test = none ∧ obj t (key 0x2806 1) 0 = obj s (key 0x2806 1) 0 + 1) ∧
      (known → ¬ pass → r.reruns = 0 → again →
        (Machine.core t p).test = some { r with reruns := 1, started := pt (elapse dt s) }) ∧
      (known → ¬ pass → r.reruns = 0 → ¬ again →
        (Machine.core t p).test = none ∧ (Machine.core t p).rerun = some (r.test.kind, r.test.entry)) ∧
      (r.test.kind = 1 → pass → (Machine.core t p).test = none ∧ tgetD (Machine.core t p).lastTests 16 0 = r.test.entry) ∧
      (known → ¬ (r.test.kind = 1 ∧ 0xC0 ≤ r.test.entry) → ¬ pass → 0 < r.reruns →
        (Machine.core t p).test = none ∧ Charged t p 0x12 0x2801 ∧ obj t (key 0x2806 2) 0 = obj s (key 0x2806 2) 0 + 1) ∧
      (r.test.kind = 2 → (Machine.core t p).test = none ∧ obj t (key 0x2806 8) 0 = obj s (key 0x2806 8) 0 + 1 ∧
        (cluster t (puaClusterKey p)).lastChecker = fieldTime (elapse dt s) (puaFieldIdx p) ∧
        (checkerWorks a clean injected = false → obj t (key 0x2806 7) 0 = obj s (key 0x2806 7) 0 + 1 ∧
          Charged t (clusterPua 7 (puaClusterKey p)) 0x13 0x2801)) ∧
      (r.test.kind = 3 → ¬ pass → 0 < r.reruns → r.offset = 100 → (Machine.core t p).test = none ∧
        (fmaxRec t p).outcome = 1 ∧ (fmaxRec t p).tests = satAdd 32 (fmaxRec s p).tests 1) ∧ t = { elapse dt s with dies := t.dies, fields := t.fields, fmax := t.fmax, lcns := t.lcns, cores := t.cores, clusters := t.clusters, slices := t.slices, views := t.views, turn := t.turn, screens := t.screens, objs := t.objs, free := t.free }) ∧
  (∀ dt (u : Pua) signature x c r q s,
    s.cores.find? (fun e => match e.2.test with
      | some r => r.test.core = u && r.third = some e.1
      | none => false) = some (x, c) → c.test = some r → r.test.partner = some q →
    aCore s u.toNat = true → aCore s q.toNat = true →
    ∃ t, exec (.testThirdRunEnd dt u signature) s = .next t ∧ (Machine.core t x).test = none ∧
      obj t (key 0x2806 1) 0 = obj s (key 0x2806 1) 0 + 1 ∧
      (r.partner = some signature → Charged t u.toNat 0x12 0x2801) ∧
      (r.partner ≠ some signature → r.core = some signature → Charged t q.toNat 0x12 0x2801) ∧
      (r.partner ≠ some signature → r.core ≠ some signature → Charged t u.toNat 0x12 0x2801 ∧
        Charged t q.toNat 0x12 0x2801 ∧ obj t (key 0x2806 2) 0 = obj s (key 0x2806 2) 0 + 2) ∧
      t = { elapse dt s with dies := t.dies, fields := t.fields, lcns := t.lcns, cores := t.cores, clusters := t.clusters, slices := t.slices, views := t.views, turn := t.turn, objs := t.objs }) ∧
  (∀ dt (b : Pua) l i p s,
    let ck := puaClusterKey b.toNat
    logicalOf s ck = some l → forcedCore s ck l = some (i, p) →
    (cluster s ck).lastChecker + 50000000000 ≤ fieldTime (elapse dt s) (ckField ck) → sliceOfLogical s l ≠ 0 →
    inService (stateOf s (clusterPua 7 ck)) = true → fieldTests (elapse dt s) (ckField ck) = true →
    testTargets s ck = [] →
    ∃ t r, exec (.forcedCheckerSlot dt b) s = .next t ∧ (Machine.core t p).test = some r ∧ r.forced = true ∧ r.test.kind = 2 ∧
      r.test.entry = checkerEntry s ck ∧ 4 ∈ (cluster t ck).holds ∧ (cluster t ck).forcedNext = (i + 1) % 16 ∧
      obj t (key 0x2806 9) 0 = obj s (key 0x2806 9) 0 + 1 ∧ t = { elapse dt s with fields := t.fields, cores := t.cores, clusters := t.clusters, turn := t.turn, objs := t.objs, free := t.free }) ∧
  (∀ dt (u : Pua) j s, puaValid s.variant u.toNat = true → puaKind u.toNat = 0 → usable (stateOf s u.toNat) = true →
    (Machine.core s u.toNat).overdue = false → j ∈ [0, 1, 3] →
    5 * testInterval s u.toNat j < testAge (elapse dt s) u.toNat j →
    ∃ t, exec (.testOverdue dt u) s = .next t ∧ (Machine.core t u.toNat).overdue = true ∧
      obj t (key 0x2806 12) 0 = obj s (key 0x2806 12) 0 + 1 ∧ t = { elapse dt s with cores := t.cores, turn := t.turn, objs := t.objs })

/-- FMAX_CHANGE_REQUEST takes the entry at the head of the die's handling queue. With outcome 2 or 3 every current
entry of the core at the failing step and above falls by one or two codes (below 400 MHz it becomes unusable,
0xFF); object 0x2806:06 counts it and the lowering count of the core goes up. With outcome 1 the fmax table
stays and 0x2806:04 counts. (R218, R220, R222) -/
def Obligations.MarginFailureLowersFmax : Prop :=
  ∀ dt d ev rest s, (die s d).recovering = none → (die s d).handling = ev :: rest → ev.kind = .fmax →
    let step := leNat (ev.payload.take 1)
    let outcome := leNat ((ev.payload.drop 1).take 1)
    ∃ t, exec (.fmaxChangeRequest dt d) s = .next t ∧ (die t d).handling = rest ∧
      (outcome ≤ 1 → t.fmax = s.fmax ∧ obj t (key 0x2806 4) 0 = obj s (key 0x2806 4) 0 + 1) ∧
      (2 ≤ outcome →
        (fmaxRec t ev.pua).current = lowerEntries step (outcome - 1) (fmaxRec s ev.pua).current ∧
        (fmaxRec t ev.pua).lowerings = satAdd 8 (fmaxRec s ev.pua).lowerings 1 ∧
        (∀ p, p ≠ ev.pua → fmaxRec t p = fmaxRec s p) ∧
        obj t (key 0x2806 6) 0 = obj s (key 0x2806 6) 0 + 1) ∧ t = { elapse dt s with dies := t.dies, fields := t.fields, units := t.units, fmax := t.fmax, lcnMap := t.lcnMap, clusterMap := t.clusterMap, lanes := t.lanes, channels := t.channels, zports := t.zports, lostSlots := t.lostSlots, cores := t.cores, clusters := t.clusters, slices := t.slices, copies := t.copies, commits := t.commits, nextCommit := t.nextCommit, ports := t.ports, turn := t.turn, screens := t.screens, objs := t.objs, output := t.output }

/-- SHORT_BUCKET_ROLL drops the buckets older than the short window of every unit and SERVICE_DAY_ROLL shifts the
long ones of a die. WATCH_RELEASE makes a Watched unit Healthy. QUARANTINE_HOLD_END makes it Screening below the
retire count and Retired at it. SCREEN_COMPLETE makes it Spare-Ready or Retired. PSEUDO_CHANNEL_COPY_END asks
for the commit that moves the slot. ROUTER_PROBE_TIMEOUT charges the router with cause 0x19. SCREEN_COMPLETE
passes only once the items of the screen are done. STORE_RECORD_WRITE keeps every changed record of the die on
each usable chip select and brings its copy of the package-scoped records up to date; while writes are suspended
nothing is kept. SERVICE_SECONDS_SAVE saves the seconds. (R228, R232, R234, R236, R237, R238, R240, R247, R472) -/
def Obligations.UnitRecordsOverTime : Prop :=
  (∀ dt s,
    let keep := fun (b : Nat × Nat) =>
      decide (pt (elapse dt s) - pt (elapse dt s) % bucketNs s < b.1 + 10 * bucketNs s)
    ∃ t, exec (.shortBucketRoll dt) s = .next t ∧
      (∀ p, unitRec t p = { unitRec s p with short := (unitRec s p).short.filter keep }) ∧ t = { elapse dt s with units := t.units, turn := t.turn }) ∧
  (∀ dt d s, ∃ t, exec (.serviceDayRoll dt d) s = .next t ∧
    (∀ e ∈ s.units, puaDie e.1 = d → (e.1, rollLong e.2 (serviceDay (elapse dt s) d)) ∈ t.units) ∧
    (∀ e ∈ s.units, puaDie e.1 ≠ d → e ∈ t.units) ∧ t = { elapse dt s with units := t.units, turn := t.turn }) ∧
  (∀ dt (u : Pua) a s, (unitRec s u.toNat).lastPoints = some a → stateOf s u.toNat = .watched →
    gondolaActs s u.toNat = true → (unitRec s u.toNat).open_ = false → a + obj s (key 0x2902 0) 86400 * 1000000000 ≤ pt (elapse dt s) →
    ∃ t, exec (.watchRelease dt u) s = .next t ∧ stateOf t u.toNat = .healthy ∧ (unitRec t u.toNat).cause = 0x1E ∧
      (∀ p, p ≠ u.toNat → unitRec t p = unitRec s p) ∧ t = { elapse dt s with dies := t.dies, fields := t.fields, units := t.units, turn := t.turn, screens := t.screens, objs := t.objs }) ∧
  (∀ dt (u : Pua) a s, (unitRec s u.toNat).holdFrom = some a → stateOf s u.toNat = .quarantined →
    gondolaActs s u.toNat = true → (unitRec s u.toNat).holdPaused = false → (unitRec s u.toNat).open_ = false →
    a + obj s (key 0x2903 0) 600 * 1000000000 ≤ pt (elapse dt s) →
    ∃ t, exec (.quarantineHoldEnd dt u) s = .next t ∧
      stateOf t u.toNat = (if (unitRec s u.toNat).lifetime < obj s (key 0x2904 0) 3 then .screening else .retired) ∧
      (unitRec t u.toNat).cause = 0x1F ∧ (∀ p, p ≠ u.toNat → unitRec t p = unitRec s p) ∧ t = { elapse dt s with dies := t.dies, fields := t.fields, units := t.units, turn := t.turn, screens := t.screens, objs := t.objs }) ∧
  (∀ dt (u : Pua) pass s, screenRuns (elapse dt s) u.toNat = true → stateOf s u.toNat = .screening →
    gondolaActs s u.toNat = true → (pass = true → screenDone (elapse dt s) u.toNat = true) →
    ∃ t, exec (.screenComplete dt u pass) s = .next t ∧
      stateOf t u.toNat = (if pass then .spareReady else .retired) ∧
      (unitRec t u.toNat).cause = (if pass then 0x20 else 0x1A) ∧
      (∀ p, p ≠ u.toNat → unitRec t p = unitRec s p) ∧ t = { elapse dt s with dies := t.dies, fields := t.fields, units := t.units, lcnMap := t.lcnMap, clusterMap := t.clusterMap, lanes := t.lanes, channels := t.channels, zports := t.zports, lostSlots := t.lostSlots, clusters := t.clusters, commits := t.commits, nextCommit := t.nextCommit, turn := t.turn, screens := t.screens, objs := t.objs }) ∧
  (∀ dt (u : Pua) c slot s,
    let st := puaDie u.toNat * 16 + puaCluster u.toNat
    s.copies.find? (fun c => c.stack = st && c.failing = puaSub u.toNat && puaKind u.toNat = 4) = some c →
    slotOfChannel s st c.failing = some slot → gondolaActs s u.toNat = true → (∀ c ∈ s.commits, c.id ≠ s.nextCommit) →
    ∃ t x, exec (.pseudoChannelCopyEnd dt u) s = .next t ∧ c ∉ t.copies ∧ t.commits = s.commits ++ [x] ∧
      x.bindings = [.channel st slot c.failing c.spare] ∧ x.quarantines = [(u.toNat, c.cause)] ∧
      t = { elapse dt s with dies := t.dies, clusters := t.clusters, copies := t.copies, commits := t.commits, nextCommit := t.nextCommit, turn := t.turn }) ∧
  (∀ dt (u : Pua) s, puaKind u.toNat = 1 → puaFieldIdx u.toNat < 24 → puaFieldIdx u.toNat < s.fields.length →
    (field s (puaFieldIdx u.toNat)).power = 2 →
    ∃ t, exec (.routerProbeTimeout dt u) s = .next t ∧ Charged t u.toNat 0x19 0 ∧ t = { elapse dt s with dies := t.dies, fields := t.fields, clusters := t.clusters, turn := t.turn }) ∧
  (∀ dt d s, (die s d).suspended = false → (s.units.map (·.1)).Nodup →
    ∃ t, exec (.storeRecordWrite dt d) s = .next t ∧
      (∀ p, puaDie p = d → (unitRec s p).dirty = true → recordsFrozen (elapse dt s) d = false →
        (∀ cs < 2, cs ∉ (die s d).reel.unusable → tget (storeOn t cs).units p = some (unitRec s p)) ∧
        unitRec t p = { unitRec s p with dirty := false }) ∧
      (d < s.dies.length → (die s d).status ≠ 2 → (die s d).rawBase = none → (die t d).copy.valid = true ∧
        (die t d).copy.objs = s.objs.filter (fun e => storeKept e.1) ∧ (die t d).copy.images = s.images ∧
        (die t d).copy.keys = s.keys ∧ (die t d).copy.checkpoint = s.seqr.checkpoint ∧
        (die t d).copy.zports = s.zports) ∧
      (∀ cs < 2, cs ∉ (die s d).reel.unusable → (die s d).rawBase = none →
        tget (storeOn t cs).nodes d = some (die s d).node) ∧ t = { elapse dt s with dies := t.dies, units := t.units, fmax := t.fmax, kept := t.kept, keptB := t.keptB, turn := t.turn }) ∧
  (∀ dt d s, (die s d).suspended = true → exec (.storeRecordWrite dt d) s = .next (elapse dt s)) ∧
  (∀ dt d s, (die s d).suspended = false → recordsFrozen (elapse dt s) d = false → d < s.dies.length →
    ∃ t, exec (.serviceSecondsSave dt d) s = .next t ∧
      (die t d).serviceSaved = (die s d).service.read (s.now + dt) / 1000000000 ∧ t = { elapse dt s with dies := t.dies, kept := t.kept, keptB := t.keptB, turn := t.turn })

/-- An accepted MODE_FLOOR_WRITE, ROLE_DEFAULT_MODE_WRITE, MODE_OVERRIDE_WRITE, SEED_MODE_WRITE or
STREAMER_CHECKING_WRITE keeps its value, is answered with success (the package-scoped ones with their number),
and after the first three every live slice that has issued no tile runs the mode that floor, override and role
ask for. CLEAR_MODEL_FLAG clears the flag, and every live slice has the bound state of R114. (R53, R116, R119,
R120, R121, R134, R191, R467) -/
def Obligations.ScreeningPolicyIsWritten : Prop :=
  (∀ dt p value s, accepted (elapse dt s) p 0x2400 0 value = true →
    ∃ t, exec (.modeFloorWrite dt p value) s = .next t ∧ Answered t p 0x2400 0 true ∧
      obj t (key 0x2400 0) 0 = leNat value ∧
      (∀ k y, slice t k = some y → sliceLive y = true → y.issued = false → y.mode = wantedMode t y) ∧
      t = { elapse dt s with seqr := t.seqr, dies := t.dies, slices := t.slices, qualifying := t.qualifying, paths := t.paths, undefinedCases := t.undefinedCases, objs := t.objs }) ∧
  (∀ dt p sub value s, accepted (elapse dt s) p 0x2401 sub value = true →
    ∃ t, exec (.roleDefaultModeWrite dt p sub value) s = .next t ∧ Answered t p 0x2401 sub true ∧
      obj t (key 0x2401 sub) 0 = leNat value ∧
      (∀ k y, slice t k = some y → sliceLive y = true → y.issued = false → y.mode = wantedMode t y) ∧
      t = { elapse dt s with seqr := t.seqr, dies := t.dies, slices := t.slices, qualifying := t.qualifying, paths := t.paths, undefinedCases := t.undefinedCases, objs := t.objs }) ∧
  (∀ dt p value x s, accepted (elapse dt s) p 0x2404 1 value = true → slice s (selectedSlice s p) = some x →
    ∃ t, exec (.modeOverrideWrite dt p value) s = .next t ∧ Answered t p 0x2404 1 false ∧
      sobj t (selectedSlice s p) (key 0x2404 1) 0xFF = leNat value ∧
      (∀ y, slice t (selectedSlice s p) = some y → sliceLive y = true → y.issued = false →
        y.mode = wantedMode t y) ∧ t = { elapse dt s with dies := t.dies, slices := t.slices, qualifying := t.qualifying, paths := t.paths }) ∧
  (∀ dt p value s, accepted (elapse dt s) p 0x2407 4 value = true → s.modelFlag = true →
    ∃ t, exec (.clearModelFlag dt p value) s = .next t ∧ Answered t p 0x2407 4 true ∧ t.modelFlag = false ∧
      (∀ k y, slice t k = some y → sliceLive y = true → y.boundState = boundStateOf t y) ∧
      t = { elapse dt s with seqr := t.seqr, dies := t.dies, slices := t.slices, model := t.model, modelIndex := t.modelIndex, modelFlag := t.modelFlag, paths := t.paths, ports := t.ports, output := t.output }) ∧
  (∀ dt p value x s, accepted (elapse dt s) p 0x2503 0 value = true → slice s (selectedSlice s p) = some x →
    ∃ t, exec (.seedModeWrite dt p value) s = .next t ∧ Answered t p 0x2503 0 false ∧
      sobj t (selectedSlice s p) (key 0x2503 0) 0 = leNat value ∧
      (sobj s (selectedSlice s p) (key 0x2503 0) 0 ≠ leNat value → seedDie s (selectedSlice s p) < s.dies.length →
        ∃ e ∈ (die t (seedDie s (selectedSlice s p))).local_, e.code = 0x2502 ∧ e.slice = selectedSlice s p) ∧
      t = { elapse dt s with dies := t.dies, slices := t.slices, paths := t.paths }) ∧
  (∀ dt p value x s, accepted (elapse dt s) p 0x2702 0 value = true → slice s (selectedSlice s p) = some x →
    ∃ t, exec (.streamerCheckingWrite dt p value) s = .next t ∧ Answered t p 0x2702 0 false ∧
      sobj t (selectedSlice s p) (key 0x2702 0) 1 = leNat value ∧
      (∀ y, slice t (selectedSlice s p) = some y → sliceLive y = true → y.boundState = boundStateOf t y) ∧
      t = { elapse dt s with dies := t.dies, slices := t.slices, paths := t.paths })

/-- An accepted cursor write moves the path's cursor. FMAX_RECORD_WRITE replaces the entries and counts of the unit
at the cursor. A forced action or exchange on a unit whose handling is open waits; otherwise FORCED_RETIRE
retires a usable core, the two re-admissions bring a quarantined, retired or absent unit to Screening (the
second also clears its lifetime count), what R256 does not allow is refused with 0x08000022, and UNIT_EXCHANGE
asks for the commit. RESET_REQUEST starts the reset of the domain. (R219, R222, R256, R257, R264, R287, R432) -/
def Obligations.UnitsAreCommanded : Prop :=
  (∀ dt p lcn s, accepted (elapse dt s) p 0x2A01 1 (leBytes 4 lcn) = true →
    ∃ t, exec (.unitCursorByLcn dt p lcn) s = .next t ∧ Answered t p 0x2A01 1 false ∧
      (path t p).cursorLcn = some (lcn % 2 ^ 32) ∧ (path t p).cursorPua = none ∧ t = { elapse dt s with dies := t.dies, paths := t.paths }) ∧
  (∀ dt p (u : Pua) s, accepted (elapse dt s) p 0x2A01 2 (leBytes 4 u.toNat) = true →
    ∃ t, exec (.unitCursorByPua dt p u) s = .next t ∧ Answered t p 0x2A01 2 false ∧
      (path t p).cursorLcn = none ∧ (path t p).cursorPua = some u.toNat ∧ cursorUnit t p = some u.toNat ∧ t = { elapse dt s with dies := t.dies, paths := t.paths }) ∧
  (∀ dt p data u s, accepted (elapse dt s) p 0x2A06 0 data = true → cursorUnit s p = some u →
    ∃ t, exec (.fmaxRecordWrite dt p data) s = .next t ∧ Answered t p 0x2A06 0 false ∧
      (fmaxRec t u).current = (data.take 16).map (·.toNat) ∧
      (fmaxRec t u).characterised = (fmaxRec s u).characterised ∧ (fmaxRec t u).dirty = true ∧
      (∀ x, x ≠ u → fmaxRec t x = fmaxRec s x) ∧ t = { elapse dt s with dies := t.dies, fields := t.fields, fmax := t.fmax, cores := t.cores, slices := t.slices, paths := t.paths, undefinedCases := t.undefinedCases, output := t.output }) ∧
  (∀ dt p u s, cursorUnit s p = some u →
    let go := fun (v : Nat) (t : State) =>
      ((unitRec s u).open_ = true → t.forced = s.forced ++ [⟨p, 0x2A09, v, u⟩] ∧ t.units = s.units) ∧ t = { elapse dt s with dies := t.dies, fields := t.fields, units := t.units, lcnMap := t.lcnMap, clusterMap := t.clusterMap, lanes := t.lanes, channels := t.channels, zports := t.zports, lostSlots := t.lostSlots, cores := t.cores, clusters := t.clusters, slices := t.slices, copies := t.copies, commits := t.commits, nextCommit := t.nextCommit, paths := t.paths, forced := t.forced, screens := t.screens, objs := t.objs }
    let refused := fun (t : State) => ∃ r, (path t p).response = some r ∧ r.status = 0x08000022 ∧ t.units = s.units
    let back := stateOf s u = .quarantined ∨ stateOf s u = .retired ∨ stateOf s u = .absent
    (accepted (elapse dt s) p 0x2A09 0 [1] = true → ∃ t, exec (.forcedRetire dt p) s = .next t ∧ go 1 t ∧
      ((unitRec s u).open_ = false → puaKind u = 0 → usable (stateOf s u) = true →
        stateOf t u = .retired ∧ Answered t p 0x2A09 0 false) ∧
      ((unitRec s u).open_ = false → stateOf s u = .retired → refused t)) ∧
    (accepted (elapse dt s) p 0x2A09 0 [2] = true → ∃ t, exec (.forcedReadmit dt p) s = .next t ∧ go 2 t ∧
      ((unitRec s u).open_ = false → back → stateOf t u = .screening ∧
        (unitRec t u).lifetime = (unitRec s u).lifetime ∧ Answered t p 0x2A09 0 false) ∧
      ((unitRec s u).open_ = false → ¬ back → refused t)) ∧
    (accepted (elapse dt s) p 0x2A09 0 [3] = true → ∃ t, exec (.forcedReadmitClear dt p) s = .next t ∧ go 3 t ∧
      ((unitRec s u).open_ = false → back → stateOf t u = .screening ∧ (unitRec t u).lifetime = 0 ∧
        Answered t p 0x2A09 0 false) ∧
      ((unitRec s u).open_ = false → ¬ back → refused t))) ∧
  (∀ dt p (sp : Pua) u b s, accepted (elapse dt s) p 0x2A0A 0 (leBytes 4 sp.toNat) = true → cursorUnit s p = some u →
    (unitRec s u).open_ = false → channelExchange s u sp.toNat = false →
    exchangeBinding s u sp.toNat = some b → bindingsValid s [b] = true → (∀ c ∈ s.commits, c.id ≠ s.nextCommit) →
    ∃ t c, exec (.unitExchange dt p sp) s = .next t ∧ Answered t p 0x2A0A 0 false ∧ t.commits = s.commits ++ [c] ∧
      c.bindings = [b] ∧ c.units = [u, sp.toNat] ∧ (unitRec t u).open_ = true ∧ (unitRec t sp.toNat).open_ = true ∧
      t = { elapse dt s with dies := t.dies, fields := t.fields, units := t.units, lcnMap := t.lcnMap, clusterMap := t.clusterMap, lanes := t.lanes, channels := t.channels, zports := t.zports, lostSlots := t.lostSlots, cores := t.cores, clusters := t.clusters, slices := t.slices, copies := t.copies, commits := t.commits, nextCommit := t.nextCommit, paths := t.paths, forced := t.forced, screens := t.screens, objs := t.objs }) ∧
  (∀ dt p value u s, accepted (elapse dt s) p 0x2C0A 0 value = true → cursorUnit s p = some u →
    puaDie u < s.dies.length → puaFieldIdx u < s.fields.length →
    ∃ t, exec (.resetRequest dt p value) s = .next t ∧ Answered t p 0x2C0A 0 false ∧
      (leNat value < 6 ∨ leNat value = 7 ∨ s.variant = .dh25 →
        runningReset t (leNat value) u = some ⟨leNat value, s.now + dt, true, false⟩) ∧
      (leNat value = 6 → s.variant = .dh100 → (die t (puaDie u)).resetRun = some ⟨6, s.now + dt, true, true⟩) ∧
      t = { elapse dt s with dies := t.dies, fields := t.fields, cores := t.cores, clusters := t.clusters, slices := t.slices, recomputes := t.recomputes, tieBreaks := t.tieBreaks, thirds := t.thirds, commits := t.commits, nextCommit := t.nextCommit, packageReset := t.packageReset, paths := t.paths, ports := t.ports, traces := t.traces, views := t.views })

/-- An accepted ORDERLY_RIPCORD_REQUEST with none under way starts one with that target whose stop count is the
announced one. REQUESTED_FREQUENCY_WRITE, OPERATOR_STEP_CAP_WRITE and RESERVOIR_ARMING_WRITE keep their values.
TRAY_LATCH_CLEAR clears the latch of that input on every die. (R293, R294, R305, R318, R334, R467) -/
def Obligations.SuppliesAreCommanded : Prop :=
  (∀ dt p value s, accepted (elapse dt s) p 0x2C13 1 value = true → s.ripcord.state = 0 →
    ∃ t, exec (.orderlyRipcordRequest dt p value) s = .next t ∧ Answered t p 0x2C13 1 true ∧ t.ripcord.state = 1 ∧
      t.ripcord.target = leNat value ∧ t.ripcord.reason = 6 ∧ t.ripcord.stop = changeCountAfter (pt (elapse dt s)) ∧
      t = { elapse dt s with seqr := t.seqr, dies := t.dies, ripcord := t.ripcord, paths := t.paths, objs := t.objs }) ∧
  (∀ dt p value x s, accepted (elapse dt s) p 0x3010 0 value = true → slice s (selectedSlice s p) = some x →
    ∃ t, exec (.requestedFrequencyWrite dt p value) s = .next t ∧ Answered t p 0x3010 0 false ∧
      sobj t (selectedSlice s p) (key 0x3010 0) 0 = leNat value ∧ t = { elapse dt s with dies := t.dies, fields := t.fields, cores := t.cores, slices := t.slices, paths := t.paths, output := t.output }) ∧
  (∀ dt p value s, accepted (elapse dt s) p 0x3003 0 value = true →
    ∃ t, exec (.operatorStepCapWrite dt p value) s = .next t ∧ Answered t p 0x3003 0 true ∧
      obj t (key 0x3003 0) 15 = leNat value ∧ t = { elapse dt s with seqr := t.seqr, dies := t.dies, fields := t.fields, cores := t.cores, slices := t.slices, paths := t.paths, objs := t.objs, output := t.output }) ∧
  (∀ dt p value s, accepted (elapse dt s) p 0x3030 0 value = true →
    ∃ t, exec (.reservoirArmingWrite dt p value) s = .next t ∧ Answered t p 0x3030 0 true ∧
      obj t (key 0x3030 0) 0 = leNat value ∧ t = { elapse dt s with seqr := t.seqr, dies := t.dies, paths := t.paths, objs := t.objs, output := t.output, free := t.free }) ∧
  (∀ dt p sub value s, accepted (elapse dt s) p 0x3061 sub value = true →
    ∃ t, exec (.trayLatchClear dt p sub value) s = .next t ∧ Answered t p 0x3061 sub false ∧
      (∀ d ∈ dieIdxs s, (trayInput t d (sub - 1)).latched = false) ∧
      (∀ d j, j ≠ sub - 1 → trayInput t d j = trayInput s d j) ∧ t = { elapse dt s with keepers := t.keepers, dies := t.dies, fields := t.fields, cores := t.cores, clusters := t.clusters, paths := t.paths, output := t.output })

/-- An accepted IMAGE_WRITE fills the slot that is not committed and makes it trial; COMMIT_TRIAL_IMAGE makes it
committed and the committed one previous. REEL_CLEAR opens a clear on the die. RETURN_STATE_SET and
RETURN_STATE_CLEAR set it on every die. KEY_WRITE keeps the key and ends the sessions of its class.
RAW_STORE_WRITE changes the bytes at its address. ERROR_FIELD_CLEAR empties the error field.
NEXT_READABLE_RECORD answers the next record that the requester may read and moves the selector past it. (R370,
R395, R397, R399, R461, R462, R464) -/
def Obligations.StoreAndFirmwareAreCommanded : Prop :=
  (∀ dt p version image s, accepted (elapse dt s) p 0x3422 0 image = true → s.images.length = 2 →
    ∃ t, exec (.imageWrite dt p version image) s = .next t ∧ Answered t p 0x3422 0 true ∧ t.trialReached = true ∧
      (let i := if (s.images.getD 0 ⟨0, 0, []⟩).state = 2 then 1 else 0
       t.images = s.images.set i ⟨1, version, image⟩) ∧ t = { elapse dt s with seqr := t.seqr, dies := t.dies, paths := t.paths, images := t.images, trialReached := t.trialReached }) ∧
  (∀ dt p value s, accepted (elapse dt s) p 0x3423 0 value = true →
    ∃ t, exec (.commitTrialImage dt p value) s = .next t ∧ Answered t p 0x3423 0 true ∧
      (∀ i < s.images.length, (t.images.getD i ⟨0, 0, []⟩).image = (s.images.getD i ⟨0, 0, []⟩).image ∧
        (t.images.getD i ⟨0, 0, []⟩).state = (match (s.images.getD i ⟨0, 0, []⟩).state with
          | 1 => 2
          | 2 => 4
          | n => n)) ∧ t = { elapse dt s with seqr := t.seqr, dies := t.dies, paths := t.paths, images := t.images }) ∧
  (∀ dt p value s, accepted (elapse dt s) p 0x3808 0 value = true → leNat value - 1 < s.dies.length →
    let d := leNat value - 1
    ∃ t, exec (.reelClear dt p value) s = .next t ∧ Answered t p 0x3808 0 true ∧
      (∃ n, (die t d).reel.clearOpen = some (obj s (key 0x2101 0) 0, n, pathCode p) ∧ t.seqr.next = n + 1) ∧
      (die t d).reel.clearCount = ((die s d).reel.clearCount + 1) % 65536 ∧ (die t d).reel.current = none ∧
      (∀ x, x ≠ d → (die t x).reel = (die s x).reel) ∧ t = { elapse dt s with seqr := t.seqr, dies := t.dies, paths := t.paths }) ∧
  (∀ dt p s, accepted (elapse dt s) p 0x380C 0 [1] = true →
    ∃ t, exec (.returnStateSet dt p) s = .next t ∧ Answered t p 0x380C 0 true ∧ (∀ x ∈ t.dies, x.reel.returned = true) ∧
      t = { elapse dt s with seqr := t.seqr, dies := t.dies, paths := t.paths, undefinedCases := t.undefinedCases, free := t.free }) ∧
  (∀ dt p s, accepted (elapse dt s) p 0x380C 0 [0] = true →
    ∃ t, exec (.returnStateClear dt p) s = .next t ∧ Answered t p 0x380C 0 true ∧
      (∀ x ∈ t.dies, x.reel.returned = false) ∧ t = { elapse dt s with seqr := t.seqr, dies := t.dies, paths := t.paths, undefinedCases := t.undefinedCases, free := t.free }) ∧
  (∀ dt p sub k s, accepted (elapse dt s) p 0x3F10 sub k = true →
    ∃ t, exec (.keyWrite dt p sub k) s = .next t ∧ Answered t p 0x3F10 sub true ∧ keyOf t sub = k ∧
      (∀ q, (path t q).session.code = sub → sub = 0) ∧ t = { elapse dt s with seqr := t.seqr, dies := t.dies, paths := t.paths, keys := t.keys }) ∧
  (∀ dt p data s, accepted (elapse dt s) p 0x3F30 2 data = true → sel s p 0x3F30 3 < s.dies.length →
    let d := sel s p 0x3F30 3
    ∃ t, exec (.rawStoreWrite dt p data) s = .next t ∧ Answered t p 0x3F30 2 false ∧
      (∀ i < data.length, memGet (die t d).store (sel s p 0x3F30 1 + i) = data[i]?) ∧
      (∀ a, a < sel s p 0x3F30 1 ∨ sel s p 0x3F30 1 + data.length ≤ a →
        memGet (die t d).store a = memGet (die s d).store a) ∧
      (∀ x, x ≠ d → (die t x).store = (die s x).store) ∧ t = { elapse dt s with dies := t.dies, dram := t.dram, paths := t.paths, kept := t.kept, keptB := t.keptB, undefinedCases := t.undefinedCases, free := t.free }) ∧
  (∀ dt p value s, accepted (elapse dt s) p 0x1003 0 value = true →
    ∃ t, exec (.errorFieldClear dt p value) s = .next t ∧ Answered t p 0x1003 0 false ∧
      (die t (pathDie p)).errors = [] ∧ t = { elapse dt s with dies := t.dies, paths := t.paths }) ∧
  (∀ dt p i s, readable (elapse dt s) p 0x3806 0 64 = true →
    firstFrom 1048576 (sel s p 0x3804 0) (mayReadRecord (elapse dt s) p) = some i →
    ∃ t, exec (.nextReadableRecord dt p) s = .next t ∧ sel t p 0x3804 0 = min 1048575 (i + 1) ∧
      (path t p).response = some ⟨0x3806, 0, 0, (selectedRecord s p i).take 64, 0⟩ ∧ t = { elapse dt s with dies := t.dies, paths := t.paths })

/-- COUNTER_READ answers the counter's value in 8 bytes. SNAPSHOT_REQUEST with no snapshot open opens one for the
announced change count. TRACE_ARM_BY_LCN and TRACE_ARM_BY_PUA arm the selected slot for the requester.
SLOT_START schedules the requester's armed slots for the announced change count, SLOT_STOP its running ones,
SLOT_FREE frees its stopped ones; the slots of other owners stay as they are. NEXT_READABLE_CHUNK answers the
next chunk that the requester may read and moves the index past it. (R408, R411, R413, R414, R416, R424) -/
def Obligations.CountersAndTraceAreCommanded : Prop :=
  (∀ dt p v s, readable (elapse dt s) p 0x3A03 0 8 = true →
    counterValue (elapse dt s) p (sel s p 0x3A01 0) (heldClass (elapse dt s) p false = 1) = some v →
    ∃ t, exec (.counterRead dt p) s = .next t ∧
      (path t p).response = some ⟨0x3A03, 0, 0, (fitNumber (key 0x3A03 0) 8 v).take 8, 0⟩ ∧ t.free = s.free + 1 ∧
      t = { elapse dt s with dies := t.dies, paths := t.paths, views := t.views, free := t.free }) ∧
  (∀ dt p value s, accepted (elapse dt s) p 0x3A04 1 value = true → s.snapshot = none →
    ∃ t, exec (.snapshotRequest dt p value) s = .next t ∧ Answered t p 0x3A04 1 true ∧
      t.snapshot = some ⟨changeCountAfter (pt (elapse dt s)), [pathKey p], false⟩ ∧
      t = { elapse dt s with seqr := t.seqr, dies := t.dies, paths := t.paths, snapshot := t.snapshot }) ∧
  (∀ dt p lcn s, accepted (elapse dt s) p 0x3B03 0 (leBytes 4 lcn) = true →
    ∃ t x, exec (.traceArmByLcn dt p lcn) s = .next t ∧ Answered t p 0x3B03 0 false ∧
      tget t.traces (selectedSlot s p) = some x ∧ x.state = 1 ∧ x.owner = armOwner (elapse dt s) p ∧
      x.logical = some (lcn % 2 ^ 32 / 16) ∧ x.content = 3 ∧ x.stopMask = 7 ∧
      (∀ k, k ≠ selectedSlot s p → tget t.traces k = tget s.traces k) ∧ t = { elapse dt s with dies := t.dies, paths := t.paths, traces := t.traces }) ∧
  (∀ dt p (u : Pua) s, accepted (elapse dt s) p 0x3B04 0 (leBytes 4 u.toNat) = true →
    ∃ t x, exec (.traceArmByPua dt p u) s = .next t ∧ Answered t p 0x3B04 0 false ∧
      tget t.traces (selectedSlot s p) = some x ∧ x.state = 1 ∧ x.owner = armOwner (elapse dt s) p ∧
      x.logical = none ∧ x.target = puaClusterKey u.toNat ∧
      (∀ k, k ≠ selectedSlot s p → tget t.traces k = tget s.traces k) ∧ t = { elapse dt s with dies := t.dies, paths := t.paths, traces := t.traces }) ∧
  (∀ dt p k x s, tget s.traces k = some x →
    let mine := armOwner (elapse dt s) p = 0 ∨ x.owner = armOwner (elapse dt s) p
    let c := changeCountAfter (pt (elapse dt s))
    (accepted (elapse dt s) p 0x3B06 0 [1] = true → ∃ t, exec (.slotStart dt p) s = .next t ∧
      Answered t p 0x3B06 0 true ∧
      tget t.traces k = some (if mine ∧ x.state = 1 then { x with scheduled := some (c, true) } else x) ∧
      t = { elapse dt s with seqr := t.seqr, dies := t.dies, paths := t.paths, traces := t.traces }) ∧
    (accepted (elapse dt s) p 0x3B06 0 [2] = true → ∃ t, exec (.slotStop dt p) s = .next t ∧
      Answered t p 0x3B06 0 true ∧
      tget t.traces k = some (if mine ∧ x.state = 2 then { x with scheduled := some (c, false) } else x) ∧
      t = { elapse dt s with seqr := t.seqr, dies := t.dies, paths := t.paths, traces := t.traces }) ∧
    (accepted (elapse dt s) p 0x3B06 0 [3] = true → ∃ t y, exec (.slotFree dt p) s = .next t ∧
      Answered t p 0x3B06 0 false ∧ tget t.traces k = some y ∧
      (mine → x.state = 3 → y.state = 0 ∧ y.owner = 0 ∧ y.logical = none) ∧ (¬ mine ∨ x.state ≠ 3 → y = x) ∧
      t = { elapse dt s with dies := t.dies, paths := t.paths, traces := t.traces })) ∧
  (∀ dt p i s, readable (elapse dt s) p 0x3B08 3 4096 = true →
    firstFrom 16384 (sel s p 0x3B08 1) (fun i => mayReadChunk (elapse dt s) p i &&
      (tget (die s (sel s p 0x3B01 0)).traceRegion i).isSome) = some i →
    ∃ t, exec (.nextReadableChunk dt p) s = .next t ∧ sel t p 0x3B08 1 = min 16383 (i + 1) ∧
      (path t p).response = some ⟨0x3B08, 3, 0, (traceChunk s (sel s p 0x3B01 0) i).take 4096, 0⟩ ∧ t = { elapse dt s with dies := t.dies, paths := t.paths })

/-- NONCE_READ outside back-off answers a fresh nonce (a free value) that stays valid for 10 s; where R457 names a
reason it is refused with 0x08000022 and counted. RESPONSE_WRITE with the right response counts, spends the
nonce and grants the session for its lease or one write for 10 s; a wrong one is refused with 0x08000020 and
counted. END_SESSION and LEASE_EXPIRY end the session; NONCE_EXPIRY, GRANT_EXPIRY and BACKOFF_END drop what has
run out. (R456, R457, R458, R459, R460) -/
def Obligations.AuthorisationExchange : Prop :=
  (∀ dt p s, readable (elapse dt s) p 0x3F02 0 8 = true → inBackoff (elapse dt s) p = false →
    let a := requestedAction s p
    ∃ t, exec (.nonceRead dt p) s = .next t ∧
      (nonceReason s p a.1 a.2.1 a.2.2 = 0 →
        (path t p).nonce = some ((Config.freeWord s.free).toNat, a.1, a.2.1, a.2.2, s.now + dt + 10000000000) ∧
        (path t p).response = some ⟨0x3F02, 0, 0, leBytes 8 (Config.freeWord s.free).toNat, 0⟩ ∧ t.free = s.free + 1) ∧
      (nonceReason s p a.1 a.2.1 a.2.2 ≠ 0 → (path t p).nonce = (path s p).nonce ∧
        (∃ r, (path t p).response = some r ∧ r.status = 0x08000022) ∧
        obj t (key 0x3F07 2) 0 = obj s (key 0x3F07 2) 0 + 1 ∧ t.free = s.free) ∧ t = { elapse dt s with dies := t.dies, paths := t.paths, ports := t.ports, objs := t.objs, output := t.output, free := t.free }) ∧
  (∀ dt p data n s, accepted (elapse dt s) p 0x3F03 0 data = true → validNonce (elapse dt s) p = some n →
    let right := (hmac (keyOf s n.2.2.2) (leBytes 8 n.1 ++ leBytes 2 n.2.1 ++ leBytes 4 n.2.2.1)).take 8
    ∃ t, exec (.responseWrite dt p data) s = .next t ∧ (path t p).nonce = none ∧
      (data = right → Answered t p 0x3F03 0 false ∧ obj t (key 0x3F07 1) 0 = obj s (key 0x3F07 1) 0 + 1 ∧
        (n.2.1 ≤ 4 → (path t p).session = Class.ofCode n.2.2.2 ∧
          (path t p).lease = s.now + dt + obj s (key 0x3F05 0) 600 * 1000000000) ∧
        (4 < n.2.1 → (path t p).grants = (path s p).grants ++
          [⟨n.2.1, n.2.2.1, Class.ofCode n.2.2.2, s.now + dt + 10000000000⟩])) ∧
      (data ≠ right → (∃ r, (path t p).response = some r ∧ r.status = 0x08000020) ∧
        obj t (key 0x3F07 2) 0 = obj s (key 0x3F07 2) 0 + 1 ∧ (path t p).session = (path s p).session ∧
        (path t p).grants = (path s p).grants) ∧ t = { elapse dt s with dies := t.dies, paths := t.paths, ports := t.ports, objs := t.objs, output := t.output }) ∧
  (∀ dt p value s, accepted (elapse dt s) p 0x3F04 1 value = true →
    ∃ t, exec (.endSession dt p value) s = .next t ∧ Answered t p 0x3F04 1 false ∧ (path t p).session = .none ∧
      (∀ q, pathKey q ≠ pathKey p → path t q = path s q) ∧ t = { elapse dt s with dies := t.dies, paths := t.paths }) ∧
  (∀ dt p s, (path s p).lease ≤ s.now + dt →
    ∃ t, exec (.leaseExpiry dt p) s = .next t ∧ (path t p).session = .none ∧ (path t p).grants = (path s p).grants ∧
      (∀ q, pathKey q ≠ pathKey p → path t q = path s q) ∧ t = { elapse dt s with paths := t.paths, turn := t.turn }) ∧
  (∀ dt p n s, (path s p).nonce = some n →
    ∃ t, exec (.nonceExpiry dt p) s = .next t ∧
      (path t p).nonce = (if s.now + dt ≤ n.2.2.2.2 then some n else none) ∧ t = { elapse dt s with paths := t.paths, turn := t.turn }) ∧
  (∀ dt p s, ∃ t, exec (.grantExpiry dt p) s = .next t ∧
    (path t p).grants = (path s p).grants.filter (fun g => decide (s.now + dt ≤ g.until_)) ∧ t = { elapse dt s with paths := t.paths, turn := t.turn }) ∧
  (∀ dt p a s, (path s p).backoff = some a →
    ∃ t, exec (.backoffEnd dt p) s = .next t ∧
      (path t p).backoff = (if s.now + dt < a + 60000000000 then some a else none) ∧ t = { elapse dt s with paths := t.paths, turn := t.turn })

/-- OBJECT_WRITE answers the first abort code that applies and changes nothing else; an accepted write is answered
with success. SDO_INITIATE serves an expedited download at once and opens a transfer for a segmented one;
SDO_SEGMENT gathers its bytes, and serves the last one; segments of an upload carry 7 bytes each; SDO_TIMEOUT
after 1 s aborts. A mailbox request with its check is served when its Gondola serves (a plain one reaches no
DOMAIN above 32 bytes), and waits in its slot otherwise. A bulk read also sends the bytes to the host.
MAILBOX_BIND and MAILBOX_UNBIND set the binding. (R286, R439, R440, R450, R451, R452, R453, R467) -/
def Obligations.TransfersAndMailboxes : Prop :=
  (∀ dt p index sub data ab s, pathServed (elapse dt s) p = true →
    judgeWrite (elapse dt s) p index sub data = some ab →
    ∃ t, exec (.objectWrite dt p index sub data) s = .next t ∧ (path t p).response = some ⟨index, sub, ab, [], 0⟩ ∧
      (∀ d, die t d = { die s d with coresAwake := (die t d).coresAwake }) ∧
      (∀ q, pathKey q ≠ pathKey p → path t q = path s q) ∧ t = { elapse dt s with dies := t.dies, paths := t.paths }) ∧
  (∀ dt p index sub data r s, accepted (elapse dt s) p index sub data = true → objRow index sub = some r →
    index ∉ [0x3F03, 0x2A09, 0x2A0A] →
    ∃ t, exec (.objectWrite dt p index sub data) s = .next t ∧
      (∃ x, (path t p).response = some x ∧ x.index = index ∧ x.sub = sub ∧ x.status = 0) ∧ t = { elapse dt s with keepers := t.keepers, seqr := t.seqr, dies := t.dies, fields := t.fields, units := t.units, fmax := t.fmax, lcnMap := t.lcnMap, clusterMap := t.clusterMap, lanes := t.lanes, channels := t.channels, zports := t.zports, lostSlots := t.lostSlots, cores := t.cores, clusters := t.clusters, slices := t.slices, recomputes := t.recomputes, tieBreaks := t.tieBreaks, thirds := t.thirds, dram := t.dram, copies := t.copies, commits := t.commits, nextCommit := t.nextCommit, ripcord := t.ripcord, model := t.model, modelIndex := t.modelIndex, modelFlag := t.modelFlag, qualifying := t.qualifying, packageReset := t.packageReset, paths := t.paths, forced := t.forced, ports := t.ports, mailboxes := t.mailboxes, requests := t.requests, snapshot := t.snapshot, traces := t.traces, views := t.views, images := t.images, trialReached := t.trialReached, keys := t.keys, kept := t.kept, keptB := t.keptB, turn := t.turn, screens := t.screens, undefinedCases := t.undefinedCases, objs := t.objs, output := t.output, free := t.free }) ∧
  (∀ dt p index sub size data s, index ∉ [0x3F03, 0x2A09, 0x2A0A] →
    accepted (setSdo p none (elapse dt s)) p index sub data = true →
    ∃ t, exec (.sdoInitiate dt p true index sub size (some data)) s = .next t ∧ (path t p).sdo = none ∧
      (∃ x, (path t p).response = some x ∧ x.index = index ∧ x.sub = sub ∧ x.status = 0) ∧ t = { elapse dt s with keepers := t.keepers, seqr := t.seqr, dies := t.dies, fields := t.fields, units := t.units, fmax := t.fmax, lcnMap := t.lcnMap, clusterMap := t.clusterMap, lanes := t.lanes, channels := t.channels, zports := t.zports, lostSlots := t.lostSlots, cores := t.cores, clusters := t.clusters, slices := t.slices, recomputes := t.recomputes, tieBreaks := t.tieBreaks, thirds := t.thirds, dram := t.dram, copies := t.copies, commits := t.commits, nextCommit := t.nextCommit, ripcord := t.ripcord, model := t.model, modelIndex := t.modelIndex, modelFlag := t.modelFlag, qualifying := t.qualifying, packageReset := t.packageReset, paths := t.paths, forced := t.forced, ports := t.ports, mailboxes := t.mailboxes, snapshot := t.snapshot, traces := t.traces, views := t.views, images := t.images, trialReached := t.trialReached, keys := t.keys, kept := t.kept, keptB := t.keptB, turn := t.turn, screens := t.screens, undefinedCases := t.undefinedCases, objs := t.objs, output := t.output, free := t.free }) ∧
  (∀ dt p index sub size s, pathServed (elapse dt s) p = true →
    judgeInitiate (setSdo p none (elapse dt s)) p index sub = none →
    ∃ t x, exec (.sdoInitiate dt p true index sub size none) s = .next t ∧ (path t p).sdo = some x ∧
      x.download = true ∧ x.index = index ∧ x.sub = sub ∧ x.size = size ∧ x.bytes = [] ∧
      x.lastSegment = s.now + dt ∧ x.cls = sessionOf (elapse dt s) p ∧ t = { elapse dt s with dies := t.dies, paths := t.paths }) ∧
  (∀ dt p data x s, pathServed (elapse dt s) p = true → (path s p).sdo = some x →
    s.now + dt ≤ x.lastSegment + 1000000000 → x.download = true →
    ∃ t, exec (.sdoSegment dt p data false) s = .next t ∧ (path t p).response = some ⟨x.index, x.sub, 0, [], 0⟩ ∧
      (path t p).sdo = some { x with bytes := x.bytes ++ data, lastSegment := s.now + dt } ∧ t = { elapse dt s with dies := t.dies, paths := t.paths }) ∧
  (∀ dt p data x r s, pathServed (elapse dt s) p = true → (path s p).sdo = some x →
    s.now + dt ≤ x.lastSegment + 1000000000 → x.download = true →
    x.size = (x.bytes ++ data).length → x.index ∉ [0x3F03, 0x2A09, 0x2A0A] →
    judgeWrite (asInitiated p x (setSdo p none (elapse dt s))) p x.index x.sub (x.bytes ++ data) = none →
    objRow x.index x.sub = some r →
    packageWrite r x.sub (leNat (x.bytes ++ data)) = false ∨ sequencerFree s = true →
    ∃ t, exec (.sdoSegment dt p data true) s = .next t ∧ (path t p).sdo = none ∧
      (∃ y, (path t p).response = some y ∧ y.index = x.index ∧ y.sub = x.sub ∧ y.status = 0) ∧ t = { elapse dt s with keepers := t.keepers, seqr := t.seqr, dies := t.dies, fields := t.fields, units := t.units, fmax := t.fmax, lcnMap := t.lcnMap, clusterMap := t.clusterMap, lanes := t.lanes, channels := t.channels, zports := t.zports, lostSlots := t.lostSlots, cores := t.cores, clusters := t.clusters, slices := t.slices, recomputes := t.recomputes, tieBreaks := t.tieBreaks, thirds := t.thirds, dram := t.dram, copies := t.copies, commits := t.commits, nextCommit := t.nextCommit, ripcord := t.ripcord, model := t.model, modelIndex := t.modelIndex, modelFlag := t.modelFlag, qualifying := t.qualifying, packageReset := t.packageReset, paths := t.paths, forced := t.forced, ports := t.ports, mailboxes := t.mailboxes, snapshot := t.snapshot, traces := t.traces, views := t.views, images := t.images, trialReached := t.trialReached, keys := t.keys, kept := t.kept, keptB := t.keptB, turn := t.turn, screens := t.screens, undefinedCases := t.undefinedCases, objs := t.objs, output := t.output, free := t.free }) ∧
  (∀ dt p data last x s, pathServed (elapse dt s) p = true → (path s p).sdo = some x →
    s.now + dt ≤ x.lastSegment + 1000000000 → x.download = false →
    ∃ t, exec (.sdoSegment dt p data last) s = .next t ∧
      (path t p).response = some ⟨x.index, x.sub, 0, if last then x.bytes else x.bytes.take 7, 0⟩ ∧
      (path t p).sdo = (if last ∨ x.bytes.length ≤ 7 then none
        else some { x with bytes := x.bytes.drop 7, lastSegment := s.now + dt }) ∧ t = { elapse dt s with dies := t.dies, paths := t.paths }) ∧
  (∀ dt p x s, (path s p).sdo = some x → x.lastSegment + 1000000000 ≤ s.now + dt →
    ∃ t, exec (.sdoTimeout dt p) s = .next t ∧ (path t p).sdo = none ∧
      (path t p).response = some ⟨x.index, x.sub, 0x05040000, [], 0⟩ ∧ t = { elapse dt s with paths := t.paths, turn := t.turn }) ∧
  (∀ dt m r s, crc32c (requestBytes r) = r.check → 1 ≤ r.length → r.length ≤ 32 →
    let named := modMailbox m (fun x => { x with op := r.op, tag := r.tag }) (elapse dt s)
    (r.op = 2 → longDomain r.index r.sub = false →
      accepted named (.mailbox m) r.index r.sub ((fitBytes 32 r.data).take r.length) = true →
      r.index ∉ [0x3F03, 0x2A09, 0x2A0A] →
      ∃ t x, exec (.mailboxWrite dt m r) s = .next t ∧ (mailbox t m).op = 2 ∧ (mailbox t m).tag = r.tag ∧
        (path t (.mailbox m)).response = some x ∧ x.index = r.index ∧ x.sub = r.sub ∧ x.status = 0 ∧
        t = { elapse dt s with keepers := t.keepers, seqr := t.seqr, dies := t.dies, fields := t.fields, units := t.units, fmax := t.fmax, lcnMap := t.lcnMap, clusterMap := t.clusterMap, lanes := t.lanes, channels := t.channels, zports := t.zports, lostSlots := t.lostSlots, cores := t.cores, clusters := t.clusters, slices := t.slices, recomputes := t.recomputes, tieBreaks := t.tieBreaks, thirds := t.thirds, dram := t.dram, copies := t.copies, commits := t.commits, nextCommit := t.nextCommit, ripcord := t.ripcord, model := t.model, modelIndex := t.modelIndex, modelFlag := t.modelFlag, qualifying := t.qualifying, packageReset := t.packageReset, paths := t.paths, forced := t.forced, ports := t.ports, mailboxes := t.mailboxes, requests := t.requests, snapshot := t.snapshot, traces := t.traces, views := t.views, images := t.images, trialReached := t.trialReached, keys := t.keys, kept := t.kept, keptB := t.keptB, turn := t.turn, screens := t.screens, undefinedCases := t.undefinedCases, objs := t.objs, output := t.output, free := t.free }) ∧
    (∀ row b, r.op = 1 → readable named (.mailbox m) r.index r.sub r.length = true → objRow r.index r.sub = some row →
      longDomain r.index r.sub = false → r.index ∉ [0x3F02, 0x3806, 0x3B08, 0x3A03] →
      objectBytes named (.mailbox m) row r.sub r.length = some b →
      ∃ t, exec (.mailboxRead dt m r) s = .next t ∧ (mailbox t m).op = 1 ∧
        (path t (.mailbox m)).response = some ⟨r.index, r.sub, 0, b.take r.length, 0⟩ ∧ t = { elapse dt s with keepers := t.keepers, seqr := t.seqr, dies := t.dies, fields := t.fields, units := t.units, fmax := t.fmax, lcnMap := t.lcnMap, clusterMap := t.clusterMap, lanes := t.lanes, channels := t.channels, zports := t.zports, lostSlots := t.lostSlots, cores := t.cores, clusters := t.clusters, slices := t.slices, recomputes := t.recomputes, tieBreaks := t.tieBreaks, thirds := t.thirds, dram := t.dram, copies := t.copies, commits := t.commits, nextCommit := t.nextCommit, ripcord := t.ripcord, model := t.model, modelIndex := t.modelIndex, modelFlag := t.modelFlag, qualifying := t.qualifying, packageReset := t.packageReset, paths := t.paths, forced := t.forced, ports := t.ports, mailboxes := t.mailboxes, requests := t.requests, snapshot := t.snapshot, traces := t.traces, views := t.views, images := t.images, trialReached := t.trialReached, keys := t.keys, kept := t.kept, keptB := t.keptB, turn := t.turn, screens := t.screens, undefinedCases := t.undefinedCases, objs := t.objs, output := t.output, free := t.free })) ∧
  (∀ dt m r host s, crc32c (requestBytes r) = r.check → 1 ≤ r.length → r.length ≤ 16777216 → r.hostAddr % 4096 = 0 →
    let named := modMailbox m (fun x => { x with op := r.op, tag := r.tag }) (elapse dt s)
    (r.op = 6 → accepted named (.mailbox m) r.index r.sub (host.take r.length) = true →
      r.index ∉ [0x3F03, 0x2A09, 0x2A0A] →
      ∃ t x, exec (.mailboxBulkWrite dt m r host) s = .next t ∧
        (path t (.mailbox m)).response = some x ∧ x.index = r.index ∧ x.sub = r.sub ∧ x.status = 0 ∧
        t = { elapse dt s with keepers := t.keepers, seqr := t.seqr, dies := t.dies, fields := t.fields, units := t.units, fmax := t.fmax, lcnMap := t.lcnMap, clusterMap := t.clusterMap, lanes := t.lanes, channels := t.channels, zports := t.zports, lostSlots := t.lostSlots, cores := t.cores, clusters := t.clusters, slices := t.slices, recomputes := t.recomputes, tieBreaks := t.tieBreaks, thirds := t.thirds, dram := t.dram, copies := t.copies, commits := t.commits, nextCommit := t.nextCommit, ripcord := t.ripcord, model := t.model, modelIndex := t.modelIndex, modelFlag := t.modelFlag, qualifying := t.qualifying, packageReset := t.packageReset, paths := t.paths, forced := t.forced, ports := t.ports, mailboxes := t.mailboxes, requests := t.requests, snapshot := t.snapshot, traces := t.traces, views := t.views, images := t.images, trialReached := t.trialReached, keys := t.keys, kept := t.kept, keptB := t.keptB, turn := t.turn, screens := t.screens, undefinedCases := t.undefinedCases, objs := t.objs, output := t.output, free := t.free }) ∧
    (∀ row b, r.op = 5 → readable named (.mailbox m) r.index r.sub r.length = true → objRow r.index r.sub = some row →
      r.index ∉ [0x3F02, 0x3806, 0x3B08, 0x3A03] → objectBytes named (.mailbox m) row r.sub r.length = some b →
      ∃ t, exec (.mailboxBulkRead dt m r) s = .next t ∧
        t.output = s.output ++ [.hostData m (b.take r.length)] ∧ t = { elapse dt s with keepers := t.keepers, seqr := t.seqr, dies := t.dies, fields := t.fields, units := t.units, fmax := t.fmax, lcnMap := t.lcnMap, clusterMap := t.clusterMap, lanes := t.lanes, channels := t.channels, zports := t.zports, lostSlots := t.lostSlots, cores := t.cores, clusters := t.clusters, slices := t.slices, recomputes := t.recomputes, tieBreaks := t.tieBreaks, thirds := t.thirds, dram := t.dram, copies := t.copies, commits := t.commits, nextCommit := t.nextCommit, ripcord := t.ripcord, model := t.model, modelIndex := t.modelIndex, modelFlag := t.modelFlag, qualifying := t.qualifying, packageReset := t.packageReset, paths := t.paths, forced := t.forced, ports := t.ports, mailboxes := t.mailboxes, requests := t.requests, snapshot := t.snapshot, traces := t.traces, views := t.views, images := t.images, trialReached := t.trialReached, keys := t.keys, kept := t.kept, keptB := t.keptB, turn := t.turn, screens := t.screens, undefinedCases := t.undefinedCases, objs := t.objs, output := t.output, free := t.free })) ∧
  (∀ dt m r s, pathExists s (.mailbox m) = true → pathServed (elapse dt s) (.mailbox m) = false →
    (∀ x ∈ s.requests, x.1 ≠ m) →
    exec (.mailboxRead dt m r) s = .next { elapse dt s with requests := s.requests ++ [(m, r, [])] } ∧
    exec (.mailboxWrite dt m r) s = .next { elapse dt s with requests := s.requests ++ [(m, r, [])] }) ∧
  (∀ dt p k s, accepted (elapse dt s) p 0x3F20 2 (leBytes 2 k) = true → k % 65536 ≠ 0 →
    let m := sel s p 0x3F20 1
    ∃ t, exec (.mailboxBind dt p k) s = .next t ∧ Answered t p 0x3F20 2 false ∧ (mailbox t m).bound = k % 65536 ∧
      (mailbox t m).queue = [] ∧ (path t (.mailbox m)).session = .none ∧ (path t (.mailbox m)).grants = [] ∧
      (∀ x, x ≠ m → mailbox t x = mailbox s x) ∧ t = { elapse dt s with dies := t.dies, paths := t.paths, mailboxes := t.mailboxes, snapshot := t.snapshot }) ∧
  (∀ dt p s, accepted (elapse dt s) p 0x3F20 2 (leBytes 2 0) = true →
    let m := sel s p 0x3F20 1
    ∃ t, exec (.mailboxUnbind dt p) s = .next t ∧ Answered t p 0x3F20 2 false ∧ (mailbox t m).bound = 0 ∧
      (mailbox t m).queue = (mailbox s m).queue ∧ (path t (.mailbox m)).session = .none ∧
      (∀ x, x ≠ m → mailbox t x = mailbox s x) ∧ t = { elapse dt s with dies := t.dies, paths := t.paths, mailboxes := t.mailboxes, snapshot := t.snapshot })

/-- An idle notice that the Field Agents accept is answered with success; its id is published, and while its first
slot lies ahead in every field of its scope it is kept without a slot in progress. A revoke ends the named
notices of the slice (IDLE_NOTICE_REVOKE_ALL every one): what remains of them is a running slot. RESET_COMPLETE
within the recovery time of a domain that may return ends its reset and counts it. (R197, R198, R199, R200,
R279, R283, R285) -/
def Obligations.IdleNoticesAndReturns : Prop :=
  (∀ dt p n x s, pathServed (elapse dt s) p = true → slice s n.slice = some x →
    (∀ f ∈ noticeFields s n, fieldTime (elapse dt s) f < n.start) →
    (noticeAccepted (elapse dt s) p false n = true → noticeFields s n ≠ [] →
      ∃ t y, exec (.idleNoticeOneShot dt p n) s = .next t ∧ Answered t p 0 0 false ∧ slice t n.slice = some y ∧
        y.notices = x.notices ++ [⟨n, false, [], none⟩] ∧ sobj t n.slice (key 0x280A 2) 0 = n.id ∧
        t = { elapse dt s with slices := t.slices, paths := t.paths, requests := t.requests, turn := t.turn, free := t.free }) ∧
    (noticeAccepted (elapse dt s) p true n = true →
      ∃ t y, exec (.idleNoticePeriodic dt p n) s = .next t ∧ Answered t p 0 0 false ∧ slice t n.slice = some y ∧
        y.notices = x.notices ++ [⟨n, true, [], none⟩] ∧ sobj t n.slice (key 0x280A 2) 0 = n.id ∧
        t = { elapse dt s with slices := t.slices, paths := t.paths, requests := t.requests, turn := t.turn, free := t.free })) ∧
  (∀ dt p n x s, pathServed (elapse dt s) p = true → slice s n.slice = some x →
    noticeAccepted (elapse dt s) p false n = false →
    ∃ t, exec (.idleNoticeOneShot dt p n) s = .next t ∧
      sobj t n.slice (key 0x2806 11) 0 = sobj s n.slice (key 0x2806 11) 0 + 1 ∧
      (∀ y, slice t n.slice = some y → y.notices = x.notices) ∧ t = { elapse dt s with slices := t.slices, paths := t.paths, requests := t.requests, turn := t.turn, free := t.free }) ∧
  (∀ dt p k id x s, pathServed (elapse dt s) p = true → slice s k = some x → sliceLive x = true →
    pathObserves (elapse dt s) p k = true →
    (∃ t y, exec (.idleNoticeRevoke dt p k id) s = .next t ∧ Answered t p 0 0 false ∧ slice t k = some y ∧
      (∀ m ∈ y.notices, m.notice.id = id → m.revoked.isSome = true ∧ m.running ≠ []) ∧
      (∀ m ∈ x.notices, m.notice.id ≠ id → m.revoked = none → m ∈ y.notices) ∧ t = { elapse dt s with slices := t.slices, paths := t.paths, requests := t.requests, turn := t.turn, free := t.free }) ∧
    (∃ t y, exec (.idleNoticeRevokeAll dt p k) s = .next t ∧ Answered t p 0 0 false ∧ slice t k = some y ∧
      (∀ m ∈ y.notices, m.revoked.isSome = true ∧ m.running ≠ []) ∧ t = { elapse dt s with slices := t.slices, paths := t.paths, requests := t.requests, turn := t.turn, free := t.free })) ∧
  (∀ dt (u : Pua) code r s, runningReset s code u.toNat = some r → s.now + dt ≤ r.started + recoveryLimit code →
    canReturn s code u.toNat = true → code ≠ 3 ∨ s.requests = [] →
    ∃ t, exec (.resetComplete dt u code) s = .next t ∧ runningReset t code u.toNat = none ∧
      obj t (key 0x2C09 (r.code + 1)) 0 = obj s (key 0x2C09 (r.code + 1)) 0 + 1 ∧ t = { elapse dt s with keepers := t.keepers, seqr := t.seqr, dies := t.dies, fields := t.fields, units := t.units, fmax := t.fmax, lcnMap := t.lcnMap, clusterMap := t.clusterMap, lanes := t.lanes, channels := t.channels, zports := t.zports, lostSlots := t.lostSlots, lcns := t.lcns, cores := t.cores, clusters := t.clusters, slices := t.slices, recomputes := t.recomputes, tieBreaks := t.tieBreaks, thirds := t.thirds, dram := t.dram, copies := t.copies, commits := t.commits, nextCommit := t.nextCommit, ripcord := t.ripcord, model := t.model, modelIndex := t.modelIndex, modelFlag := t.modelFlag, qualifying := t.qualifying, packageReset := t.packageReset, paths := t.paths, forced := t.forced, ports := t.ports, mailboxes := t.mailboxes, requests := t.requests, snapshot := t.snapshot, traces := t.traces, views := t.views, images := t.images, trialReached := t.trialReached, keys := t.keys, kept := t.kept, keptB := t.keptB, turn := t.turn, screens := t.screens, undefinedCases := t.undefinedCases, objs := t.objs, output := t.output, free := t.free })

/-- STAGE_RUN on a die that may run the stage runs it: S0 of the first die begins a new run with the unit records of
the chip selects that the Gondolas read, no slice and no package-scoped value, S1 reads and clears the end mark
and the test results, S2 on the Anchor's die takes the valid package-scoped copy with the highest write count
and the run number after its own, and resumes numbering held at the resume position. STAGE_COMPLETE on a stage
that may end writes the die's report; STAGE_ADVANCE starts the next stage on every die in service.
STAGE_LIMIT_EXPIRY sets result bit 4, and at S3 leaves the fields off that still ramp. ANCHOR_READY_TIMEOUT
gives CD1 the role. TRIAL_COMMIT_TIMEOUT commits the trial image. (R9, R54, R69, R94, R347, R351, R352, R355,
R370, R504) -/
def Obligations.StagesRunAndEnd : Prop :=
  (∀ dt d f s, d < s.variant.dies → d < s.dies.length → (die s d).vaon = true →
    (∀ e ∈ dieIdxs s, (die s e).stage = 0 ∧ (die s e).stageRan = false) →
    ∃ t, exec (.stageRun dt d 0 f) s = .next t ∧ (die t d).stage = 0 ∧ (die t d).stageRan = true ∧ t.slices = [] ∧
      t.units = (mergedStore s).units.map (fun e => (e.1, e.2.restart)) ∧ t.objs = [] ∧ t.variant = s.variant ∧
      t.pending = s.pending ∧ t.now = s.now + dt ∧ t.kept = s.kept ∧ (die t d).store = (die s d).store) ∧
  (∀ dt d f s, d < s.variant.dies → d < s.dies.length → (die s d).status = 1 → (die s d).stage = 0 →
    (die s d).stageDone = true → (die s d).fastReset = false →
    ∃ t, exec (.stageRun dt d 1 f) s = .next t ∧ (die t d).stage = 1 ∧ (die t d).stageRan = true ∧
      (die t d).stageDone = false ∧ (die t d).endMark = 0 ∧ (die t d).markRead = (die s d).endMark ∧
      (die t d).testResults = [] ∧ (d = 0 → (die s 0).anchorSel = true → t.ptStarted = true) ∧
      t.variant = s.variant ∧ t.pending = s.pending ∧ t.now = s.now + dt) ∧
  (∀ dt d n f s, d < s.variant.dies → d < s.dies.length → (die s d).status = 1 → (die s d).stage = n → 2 ≤ n → n ≤ 8 →
    (die s d).stageRan = false → (die s d).fastReset = false → (∀ r ∈ s.requests, r.1 / 256 ≠ d) →
    n ≠ 2 ∨ d = s.anchorDie ∨ (die s s.anchorDie).stageRan = true ∨ 2 < (die s s.anchorDie).stage →
    ∃ t, exec (.stageRun dt d n f) s = .next t ∧ (die t d).stage = n ∧ (die t d).stageRan = true ∧
      (n = 2 → (die t d).dictionary = true) ∧
      (∀ c, n = 2 → d = s.anchorDie → f.detail ≠ 4 → bestCopy s = some c →
        t.seqr.next = resumePosition (loadCopy c s) ∧ t.seqr.held = true ∧
        obj t (key 0x2101 0) 0 = (obj (loadCopy c s) (key 0x2101 0) 0 + 1) % 2 ^ 32) ∧
      t.variant = s.variant ∧ t.pending = s.pending ∧ t.now = s.now + dt) ∧
  (∀ dt d n f s, d < s.variant.dies → d < s.dies.length → (die s d).status = 1 → (die s d).stage = n →
    (die s d).stageRan = true → (die s d).stageDone = false → stageEnds s d n = true →
    ∃ t r, exec (.stageComplete dt d n f) s = .next t ∧ (die t d).stageDone = true ∧
      tget (die t d).reports n = some r ∧ r.expected = stageUnits n ∧ t.variant = s.variant ∧ t.pending = s.pending ∧
      t.now = s.now + dt) ∧
  (∀ dt d n f s, stageEnds s d n = false → n ≠ 3 →
    exec (.stageComplete dt d n f) s = .next (elapse dt s)) ∧
  (∀ dt n s,
    let live := (dieIdxs s).filter fun d => (die s d).status = 1
    s.ptStarted = true → s.anchorReady = true ∨ s.anchorDie = 1 → live ≠ [] → 1 ≤ n → n < 8 →
    (∀ d ∈ live, (die s d).stage = n ∧ (die s d).stageDone = true) →
    ∃ t, exec (.stageAdvance dt) s = .next t ∧
      (∀ d ∈ live, d < s.dies.length → (die t d).stage = n + 1 ∧ (die t d).stageRan = false ∧
        (die t d).stageDone = false ∧ (die t d).stageStart = s.now + dt) ∧
      (∀ d, d ∉ live → die t d = die s d) ∧ t = { elapse dt s with dies := t.dies, turn := t.turn }) ∧
  (∀ dt s, s.variant = .dh100 → s.reference = true → s.anchorReady = false → s.anchorDie ≠ 1 → (die s 1).status = 1 → (die s 1).stage = 1 →
    (die s 1).leftS0 + 500000000 ≤ s.now + dt →
    ∃ t, exec (.anchorReadyTimeout dt) s = .next t ∧ t.anchorDie = 1 ∧ t.standby = false ∧ t.ptStarted = true ∧
      (keeper t 1).running = true ∧ pt t = 0 ∧ t = { elapse dt s with ptStarted := t.ptStarted, anchorDie := t.anchorDie, standby := t.standby, takenOver := t.takenOver, keepers := t.keepers, dies := t.dies, turn := t.turn }) ∧
  (∀ dt d n s, (die s d).status = 1 → (die s d).stage = n → (die s d).stageRan = true → (die s d).stageDone = false →
    1 ≤ n → n < 8 → (die s d).stageStart + stageLimit s d ≤ s.now + dt → d < s.dies.length →
    ∃ t, exec (.stageLimitExpiry dt d n) s = .next t ∧ (die t d).draft.result.testBit 4 = true ∧
      (n ≠ 3 → t = { elapse dt s with dies := t.dies }) ∧
      (n = 3 → ∀ i < 6, d * 6 + i < s.fields.length → (field s (d * 6 + i)).power = 1 →
        (field t (d * 6 + i)).power = 3) ∧ t = { elapse dt s with keepers := t.keepers, dies := t.dies, fields := t.fields, unreachable := t.unreachable, clusters := t.clusters, commits := t.commits, nextCommit := t.nextCommit, turn := t.turn, objs := t.objs, output := t.output }) ∧
  (∀ dt s, (s.images.getD s.imageInUse ⟨0, 0, []⟩).state = 1 →
    (∀ d ∈ dieIdxs s, (die s d).status ≠ 1 ∨ atS8 (die s d) = true) → s.ptStarted = true →
    obj s (key 0x3408 2) (pt (elapse dt s)) + 3600000000000 ≤ pt (elapse dt s) →
    ∃ t, exec (.trialCommitTimeout dt) s = .next t ∧
      (∀ i < s.images.length, (t.images.getD i ⟨0, 0, []⟩).state = (match (s.images.getD i ⟨0, 0, []⟩).state with
        | 1 => 2
        | 2 => 4
        | n => n)) ∧ t = { elapse dt s with images := t.images, turn := t.turn })

/-- FIELD_AGENT_REGISTRATION and BRIDLE_REGISTRATION at their stage put a registration into the unit's Field Agent
queue. The arbiter serves it into the discovery table: a planned Field Agent or Bridle is registered, one that
is Absent in the plan is an anomaly and goes to Screening with its flag; neither becomes an event.
BRIDLE_MISSING_DEADLINE 10 ms after its release, with no registration on its way, makes the Bridle Absent.
SELF_TEST_START begins test slice 0 of a die at the change count of all dies; TEST_SLICE_END enters the failure
of a unit that is not in Screening, makes the screened units that passed Spare-Ready and starts the next slice;
TEST_SLICE_BUDGET_EXPIRY starts it too, and the record is not complete. That registrations wait for the arbiter
and that one count serves every die are read from the rules (log entries 197, 200). (R236, R358, R359, R363,
R374, R375, R376, R379) -/
def Obligations.DiscoveryAndTheSelfTest : Prop :=
  (∀ dt (u : Pua) s, let p := u.toNat
    puaDie p < s.variant.dies → (die s (puaDie p)).status = 1 → (die s (puaDie p)).stage = 2 →
    (die s (puaDie p)).stageRan = true → (die s (puaDie p)).stageDone = false → puaField p < 6 →
    puaFieldIdx p < s.fields.length →
    ∃ t e, exec (.fieldAgentRegistration dt u) s = .next t ∧ e.registers = some (0, 0) ∧ e.pua = p ∧
      (field t (puaFieldIdx p)).queue = (field s (puaFieldIdx p)).queue ++ [e] ∧
      t = { elapse dt s with fields := t.fields, clusters := t.clusters }) ∧
  (∀ dt (u : Pua) ports control s, let p := u.toNat
    puaDie p < s.variant.dies → (die s (puaDie p)).stage = 3 → (die s (puaDie p)).stageRan = true →
    (die s (puaDie p)).stageDone = false → puaValid s.variant p = true → puaKind p = 7 →
    stateOf s p = .absent ∨ siteOfCluster (puaCluster p) / 100 < (field s (puaFieldIdx p)).group →
    puaFieldIdx p < s.fields.length →
    ∃ t e, exec (.bridleRegistration dt u ports control) s = .next t ∧
      e.registers = some (ports % 2 ^ 17, control) ∧ e.pua = p ∧
      (field t (puaFieldIdx p)).queue = (field s (puaFieldIdx p)).queue ++ [e] ∧
      t = { elapse dt s with fields := t.fields, clusters := t.clusters }) ∧
  (∀ dt d i e ports control s, d < s.dies.length → sequencerFree s = true ∨ (die s d).toAnchor = [] →
    (((List.range 7).map fun i => ((die s d).arbiterLast + 1 + i) % 7).find? fun i => (inputHead s d i).isSome) = some i →
    inputHead s d i = some e → e.registers = some (ports, control) →
    ∃ t, exec (.arbiterForward dt d) s = .next t ∧ (die t d).arbiterLast = i ∧
      (∀ x, (die t x).toAnchor = (die s x).toAnchor ∧ (die t x).handling = (die s x).handling) ∧
      (puaValid s.variant e.pua = true → stateOf s e.pua ≠ .absent → puaKind e.pua = 8 →
        puaFieldIdx e.pua < s.fields.length → (field t (puaFieldIdx e.pua)).registered = true) ∧
      (puaValid s.variant e.pua = true → stateOf s e.pua ≠ .absent → puaKind e.pua = 7 →
        (cluster s (puaClusterKey e.pua)).registered = false →
        (cluster t (puaClusterKey e.pua)).registered = true ∧ (cluster t (puaClusterKey e.pua)).ports = ports ∧
        (cluster t (puaClusterKey e.pua)).controlCore = control ∧ t.units = s.units) ∧
      (stateOf s e.pua = .absent → stateOf t e.pua = .screening ∧ (unitRec t e.pua).flags.testBit 0 = true)) ∧
  (∀ dt (u : Pua) a s, let p := u.toNat
    puaValid s.variant p = true → puaKind p = 7 → (die s (puaDie p)).stage = 3 → (die s (puaDie p)).stageDone = false →
    (field s (puaFieldIdx p)).releases[siteOfCluster (puaCluster p) / 100]? = some a → a + 10000000 ≤ s.now + dt →
    (cluster s (puaClusterKey p)).registered = false → stateOf s p ≠ .absent → puaDie p < s.dies.length →
    ((field s (puaFieldIdx p)).queue.any fun e => e.registers.isSome && e.pua = p) = false →
    ∃ t, exec (.bridleMissingDeadline dt u) s = .next t ∧ stateOf t p = .absent ∧ (unitRec t p).cause = 0x1C ∧
      (3, p, 0x1C) ∈ (die t (puaDie p)).toBind ∧ (∀ q, q ≠ p → unitRec t q = unitRec s q) ∧
      t = { elapse dt s with dies := t.dies, fields := t.fields, units := t.units, turn := t.turn, screens := t.screens, objs := t.objs }) ∧
  (∀ dt d s, shutdownReady s = true → selfTestDue s = true → d < s.variant.dies → (die s d).status = 1 →
    (die s d).testSlice = none → testing s = false ∨ (die s d).testDone = [] → d < s.dies.length →
    ∃ t a, exec (.selfTestStart dt d) s = .next t ∧ (die t d).testSlice = some (0, a) ∧
      a = (if testing s = true then max (s.now + dt) (die s d).testStart
        else s.now + dt + (changeCountAfter (pt (elapse dt s)) - pt (elapse dt s))) ∧
      (die t d).testDone = [] ∧ (die t d).testExpired = false ∧ testing t = true ∧ t = { elapse dt s with dies := t.dies, kept := t.kept, keptB := t.keptB, turn := t.turn, objs := t.objs, free := t.free }) ∧
  (∀ dt d i a (u : Pua) test lane s, (die s d).testSlice = some (i, a) → a ≤ s.now + dt → s.now + dt ≤ a + testBudget s → d < s.dies.length →
    stateOf s u.toNat ≠ .screening → (die s d).testResults.length < 1024 →
    ∃ t, exec (.testSliceEnd dt d i [(u, test, lane)] 0 []) s = .next t ∧
      (die t d).testDone = (die s d).testDone ++ [i] ∧
      (die t d).testSlice = (nextTestSlice s i).map (fun j => (j, s.now + dt)) ∧
      (die t d).testResults = (die s d).testResults ++
        [resultEntry u.toNat (testClass i) test lane (obj s (key 0x2101 0) 0)] ∧
      (∀ p, stateOf s p = .screening → testedIn d i p = true → stateOf t p = .spareReady) ∧ t = { elapse dt s with keepers := t.keepers, dies := t.dies, fields := t.fields, units := t.units, lcnMap := t.lcnMap, clusterMap := t.clusterMap, lanes := t.lanes, channels := t.channels, zports := t.zports, lostSlots := t.lostSlots, clusters := t.clusters, commits := t.commits, nextCommit := t.nextCommit, ripcord := t.ripcord, kept := t.kept, keptB := t.keptB, turn := t.turn, screens := t.screens, objs := t.objs, output := t.output }) ∧
  (∀ dt d i a s, (die s d).testSlice = some (i, a) → a + testBudget s ≤ s.now + dt → d < s.dies.length →
    ∃ t, exec (.testSliceBudgetExpiry dt d i) s = .next t ∧ (die t d).testDone = (die s d).testDone ++ [i] ∧
      (die t d).testExpired = true ∧ (die t d).testSlice = (nextTestSlice s i).map (fun j => (j, s.now + dt)) ∧
      t = { elapse dt s with keepers := t.keepers, dies := t.dies, fields := t.fields, clusters := t.clusters, ripcord := t.ripcord, kept := t.kept, keptB := t.keptB, turn := t.turn, objs := t.objs, output := t.output })

/-- A PUA is the sum of its fields at bits 30, 27, 17, 12, 8 and 0, each field of an address built from fields in
width reads back, two addresses with equal fields are equal, and the address of a unit has die 0-3, field 0-5,
cluster 0-831 or 0x3FF, core 0-16 or 31 and kind 0-8. (R5) -/
def Obligations.PuaLayout : Prop :=
  (∀ d f c k u n, d < 4 → f < 8 → c < 1024 → k < 32 → u < 16 → n < 256 →
    mkPua d f c k u n < 2 ^ 32 ∧ puaDie (mkPua d f c k u n) = d ∧ puaField (mkPua d f c k u n) = f ∧
    puaCluster (mkPua d f c k u n) = c ∧ puaCore (mkPua d f c k u n) = k ∧ puaKind (mkPua d f c k u n) = u ∧
    puaSub (mkPua d f c k u n) = n) ∧
  (∀ p, p < 2 ^ 32 → p = mkPua (puaDie p) (puaField p) (puaCluster p) (puaCore p) (puaKind p) (puaSub p)) ∧
  (∀ p : Pua, puaDie p.toNat = (p.extractLsb' 30 2).toNat ∧ puaField p.toNat = (p.extractLsb' 27 3).toNat ∧
    puaCluster p.toNat = (p.extractLsb' 17 10).toNat ∧ puaCore p.toNat = (p.extractLsb' 12 5).toNat ∧
    puaKind p.toNat = (p.extractLsb' 8 4).toNat ∧ puaSub p.toNat = (p.extractLsb' 0 8).toNat) ∧
  (∀ v p, puaValid v p = true → p < 2 ^ 32 ∧ puaDie p ≤ 3 ∧ puaField p ≤ 5 ∧ (puaCluster p ≤ 831 ∨ puaCluster p = 0x3FF) ∧
    (puaCore p ≤ 16 ∨ puaCore p = 31) ∧ puaKind p ≤ 8)

/-- The LCN of a die, field, logical cluster and logical core lies below 307,200 in the DH-100 and 76,800 in the
DH-25, every number below that is the LCN of exactly one place, and the core that serves an LCN is the PUA that
the map holds for it while its field is not dark; a package as manufactured maps every LCN to its core of R20.
(R7) -/
def Obligations.LogicalCoreNumbers : Prop :=
  (∀ (v : Variant) d f c k, d < v.dies → f < 6 → c < 800 → k < 16 → ((d * 6 + f) * 800 + c) * 16 + k < v.lcns ∧
    lcnCluster (((d * 6 + f) * 800 + c) * 16 + k) = (d * 6 + f) * 800 + c) ∧
  Variant.dh100.lcns = 307200 ∧ Variant.dh25.lcns = 76800 ∧
  (∀ (v : Variant) n, n < v.lcns → ∃ d f c k, d < v.dies ∧ f < 6 ∧ c < 800 ∧ k < 16 ∧ n = ((d * 6 + f) * 800 + c) * 16 + k) ∧
  (∀ d f c k d' f' c' k', f < 6 → c < 800 → k < 16 → f' < 6 → c' < 800 → k' < 16 →
    ((d * 6 + f) * 800 + c) * 16 + k = ((d' * 6 + f') * 800 + c') * 16 + k' → d = d' ∧ f = f' ∧ c = c' ∧ k = k') ∧
  (∀ s n p, tget s.lcnMap n = some (some p) → (field s (n / 12800)).power ≠ 3 → coreOf s n = some p) ∧
  (∀ d f c k, d < 4 → f < 6 → c < 800 → k < 16 →
    coreOf State.reset (((d * 6 + f) * 800 + c) * 16 + k) = some (mkPua d f (homeOfSite c) k 0 0))

/-- Site s of field f of die d lies at X = 40 (f mod 2) + s mod 40, Y = 20 (f div 2) + s div 40, Z = d, on the torus
of 80 by 60; no two sites share a coordinate and every coordinate of a die is a site. The home cluster of site s
has the number s plus the bay-hosting sites below s; the sites 25k + 18 host a bay with the next number, 26k +
19; these are the 832 clusters of a field, each at one site. (R18) -/
def Obligations.SitesAndCoordinates : Prop :=
  (∀ d f s, f < 6 → s < 800 →
    siteCoord (d * 6 + f) s = (40 * (f % 2) + s % 40, 20 * (f / 2) + s / 40, d) ∧
    (siteCoord (d * 6 + f) s).1 < 80 ∧ (siteCoord (d * 6 + f) s).2.1 < 60 ∧
    coordSite (siteCoord (d * 6 + f) s).1 (siteCoord (d * 6 + f) s).2.1 (siteCoord (d * 6 + f) s).2.2 = (d * 6 + f, s)) ∧
  (∀ x y z, x < 80 → y < 60 → siteCoord (coordSite x y z).1 (coordSite x y z).2 = (x, y, z) ∧
    (coordSite x y z).1 / 6 = z ∧ (coordSite x y z).2 < 800) ∧
  (∀ s, homeOfSite s = s + (List.range s).countP (fun i => siteHasBay i)) ∧
  (∀ s, s < 800 → (siteHasBay s = true ↔ ∃ k, k < 32 ∧ s = 25 * k + 18)) ∧
  (∀ k, homeOfSite (25 * k + 18) + 1 = 26 * k + 19 ∧ isBay (26 * k + 19) = true ∧
    siteOfCluster (26 * k + 19) = 25 * k + 18) ∧
  (∀ s, isBay (homeOfSite s) = false ∧ siteOfCluster (homeOfSite s) = s) ∧
  (∀ c, c < 832 → siteOfCluster c < 800 ∧
    (isBay c = false → homeOfSite (siteOfCluster c) = c) ∧
    (isBay c = true → siteHasBay (siteOfCluster c) = true ∧ homeOfSite (siteOfCluster c) + 1 = c)) ∧
  (∀ s, s < 800 → homeOfSite s < 832)

/-- For an origin on the torus and extents 1-80, 1-60 and 1-4, a coordinate of the torus lies in the box exactly if
it is (x0 + i) mod 80, (y0 + j) mod 60, (z0 + k) mod 4 for some i < w, j < h, k < d; a router that belongs to a
slice lies in its box, and one in no box belongs to slice 0x000; moving the box and the router alike along an
axis changes nothing. (R33, R34, R18) -/
def Obligations.BoxesOfTheTorus : Prop :=
  (∀ x0 y0 z0 w h d x y z, x0 < 80 → y0 < 60 → z0 < 4 → x < 80 → y < 60 → z < 4 →
    1 ≤ w → w ≤ 80 → 1 ≤ h → h ≤ 60 → 1 ≤ d → d ≤ 4 →
    (inBox (x0, y0, z0) (w, h, d) (x, y, z) = true ↔
      ∃ i j k, i < w ∧ j < h ∧ k < d ∧ x = (x0 + i) % 80 ∧ y = (y0 + j) % 60 ∧ z = (z0 + k) % 4)) ∧
  (∀ s c, sliceAt s c ≠ 0 → ∃ e ∈ s.slices, e.1 = sliceAt s c ∧ e.2.life ≠ .ended ∧ inBox e.2.origin e.2.extent c = true) ∧
  (∀ s c, (∀ e ∈ s.slices, e.2.life ≠ .ended → inBox e.2.origin e.2.extent c = false) → sliceAt s c = 0) ∧
  (∀ x0 y0 z0 e x y z a b, x0 < 80 → y0 < 60 → x < 80 → y < 60 →
    inBox ((x0 + a) % 80, (y0 + b) % 60, z0) e ((x + a) % 80, (y + b) % 60, z) = inBox (x0, y0, z0) e (x, y, z))

/-- The peer of Z port q of die d is Z port 4 + q of die (d + 1) mod 4 and the other way round, so the eight ports
of four dies form 16 links; and a link is up at one end exactly if it is up at the other: it is up only while
neither of its two ports has left service for a fault. (R25) -/
def Obligations.BridgeLinksHaveTwoEnds : Prop :=
  (∀ d q, d < 4 → q < 4 → bridgePeer (portPua d q) = portPua ((d + 1) % 4) (4 + q) ∧
    bridgePeer (portPua ((d + 1) % 4) (4 + q)) = portPua d q) ∧
  ((List.range 4).flatMap fun d => (List.range 8).map fun q =>
    min (portPua d q) (bridgePeer (portPua d q))).eraseDups.length = 16 ∧
  (∀ s d q, d < 4 → q < 4 →
    bridgeUp s d q = (inService (stateOf s (portPua d q)) && inService (stateOf s (portPua ((d + 1) % 4) (4 + q)))) ∧
    bridgeUp s ((d + 1) % 4) (4 + q) = bridgeUp s d q)

/-- The four modes have the codes 0 to 3. While no undefined case of the stored policy is in force and the stored
codes are mode codes, the mode that a slice asks for has the higher of two codes: the floor at 0x2400, and the
override at 0x2404:01 or, where that is 0xFF, the role default at 0x2401. A write of the floor gives every live
slice that has issued no tile that mode at once. (R119) -/
def Obligations.ModeInForceOfASlice : Prop :=
  (Mode.observe.code = 0 ∧ Mode.standard.code = 1 ∧ Mode.strict.code = 2 ∧ Mode.full.code = 3 ∧
    ∀ m : Mode, Mode.ofCode m.code = m) ∧
  (∀ s x, undefinedCase s 117 = false → obj s (key 0x2400 0) 0 ≤ 3 →
    (tgetD x.objs (key 0x2404 1) 0xFF ≤ 3 ∨ tgetD x.objs (key 0x2404 1) 0xFF = 0xFF ∧ roleDefault s x.role ≤ 3) →
    (wantedMode s x).code = max (obj s (key 0x2400 0) 0)
      (if tgetD x.objs (key 0x2404 1) 0xFF = 0xFF then roleDefault s x.role else tgetD x.objs (key 0x2404 1) 0xFF)) ∧
  (∀ x, x.switches = [] → modeInForce x = x.mode) ∧
  (∀ dt p value s, accepted (elapse dt s) p 0x2400 0 value = true →
    ∃ t, exec (.modeFloorWrite dt p value) s = .next t ∧
      ∀ k y, slice t k = some y → sliceLive y = true → y.issued = false → y.mode = wantedMode t y)

/-- A vector of n entries has n of them, each -3, -1, 1 or 3; entry i is read from bits [2(i mod 32) + 1 : 2(i mod
32)] of word i div 32 of its words, bit 0 the sign and bit 1 the magnitude, so that each of the four values has
one of the four patterns; a shorter vector is the first entries of the longer; pair p of a tile draws its left
vector of m entries from word 8p and its right vector of n entries from word 8p + 4 of its draw. (R131) -/
def Obligations.WeightVectors : Prop :=
  (∀ seed lcn count q n, (weights seed lcn count q n).length = n ∧
    (∀ w ∈ weights seed lcn count q n, w = -3 ∨ w = -1 ∨ w = 1 ∨ w = 3) ∧
    (∀ i (h : i < (weights seed lcn count q n).length), (weights seed lcn count q n)[i] =
      (if (randomWord seed lcn count (q + i / 32)).getLsbD (2 * (i % 32) + 1) then 3 else 1) *
      (if (randomWord seed lcn count (q + i / 32)).getLsbD (2 * (i % 32)) then -1 else 1)) ∧
    (∀ m, m ≤ n → weights seed lcn count q m = (weights seed lcn count q n).take m)) ∧
  (∀ w, w ∈ [-3, -1, 1, 3] → ∃ b, b < 4 ∧ weightOf b = w ∧ ∀ c, c < 4 → weightOf c = w → c = b) ∧
  (∀ seed lcn count base p t, tileFormat t = 6 → projectPair seed lcn count base p t =
    some (projectInt t (weights seed lcn count (base + 8 * p) t.m) (weights seed lcn count (base + 8 * p + 4) t.n))) ∧
  (∀ seed lcn count base p t o, tileFormat t ≠ 6 → floatOperands t = some o → projectPair seed lcn count base p t =
    projectFloat t o (weights seed lcn count (base + 8 * p) t.m) (weights seed lcn count (base + 8 * p + 4) t.n))

/-- A word is its check at [63:32], generation at [31:24], format at [23:20], slice id at [19:8], reserved bits at
[7:2], derived at [1] and poison at [0]; a word made from fields returns each of them, with reserved bits 0. A
producer that poisons a block complements its check and sets bit 0. With checking on and the slice and
generation those of the receiver, a block with bit 0 set and legal other bits arrives poisoned exactly if its
check is the complement of the CRC-32C of its payload; else it is a mismatch. (R162, R164) -/
def Obligations.StreamerWordLayout : Prop :=
  (∀ w : Word64, w.toNat = wordCheck w * 2 ^ 32 + wordGeneration w * 2 ^ 24 + wordFormat w * 2 ^ 20 + wordSlice w * 2 ^ 8 +
    wordReserved w * 4 + wordDerived w * 2 + (if wordPoison w then 1 else 0) ∧
    wordCheck w < 2 ^ 32 ∧ wordGeneration w < 256 ∧ wordFormat w < 16 ∧ wordSlice w < 4096 ∧ wordReserved w < 64 ∧
    wordDerived w < 2) ∧
  (∀ c g f k d p, c < 2 ^ 32 → g < 256 → f < 16 → k < 4096 → d < 2 → p < 2 →
    wordCheck (streamerWord c g f k d p) = c ∧ wordGeneration (streamerWord c g f k d p) = g ∧
    wordFormat (streamerWord c g f k d p) = f ∧ wordSlice (streamerWord c g f k d p) = k ∧
    wordReserved (streamerWord c g f k d p) = 0 ∧ wordDerived (streamerWord c g f k d p) = d ∧
    wordPoison (streamerWord c g f k d p) = decide (p = 1)) ∧
  (∀ w payload, checkFits w payload = true ↔
    wordCheck w = if wordPoison w then (~~~ (crc32c payload)).toNat else (crc32c payload).toNat) ∧
  (∀ g f k d payload, g < 256 → f < 16 → k < 4096 → d < 2 →
    checkFits (streamerWord (2 ^ 32 - 1 - payloadCheck payload) g f k d 1) payload = true) ∧
  (∀ g f k d, wordPoison (poisonWord g f k d) = true ∧ wordCheck (poisonWord g f k d) = 2 ^ 32 - 1 - zeroCheck) ∧
  (∀ g k w payload, wordSlice w = k → wordGeneration w = g → wordPoison w = true →
    (arrivalTest g k true w payload = .poisoned ↔ wordReserved w = 0 ∧ wordFormat w ≠ 0xA ∧ wordFormat w ≠ 0xB ∧
      wordCheck w = (~~~ (crc32c payload)).toNat) ∧
    (wordCheck w ≠ (~~~ (crc32c payload)).toNat → arrivalTest g k true w payload = .mismatch))

/-- REEL_RECORD_WRITE at index 1,048,574 leaves the next index at 1,048,575 and raises the full record. At index
1,048,575 no record starts but the full one; once that index is written no record starts, and a record placed in
the Reel is lost: it counts, and what the chip selects hold, the next index and the queue stay. A run of losses
of a full Reel never raises a loss record. (R390) -/
def Obligations.FullReelKeepsItsLastIndex : Prop :=
  (∀ dt d e s, d < s.dies.length → d < 4 → (die s d).reel.current = some e → (die s d).reel.next = 1048574 →
    ∃ t, exec (.reelRecordWrite dt d) s = .next t ∧ (die t d).reel.next = 1048575 ∧ (die t d).reel.queue = [] ∧
      (die t d).reel.current = none ∧
      ∃ f, Raised s t d f ∧ f.code = 0x3807 ∧ f.pua = diePua d ∧ f.payload = leBytes 8 e.event.pt) ∧
  (∀ b r x, r.next = 1048575 → r.relocating = false → r.current = none → (startRecord b r).current = some x → x.event.code = 0x3807) ∧
  (∀ b r, 1048576 ≤ r.next → startRecord b r = r) ∧
  (∀ now b x r, reelUsable r = true → (1048576 ≤ r.next ∨ r.next = 1048575 ∧ x.event.code ≠ 0x3807) →
    (placeRecord now b x r).lost = r.lost + 1 ∧ (placeRecord now b x r).lastLost = now ∧
    (placeRecord now b x r).losingFull = true ∧
    (placeRecord now b x r).cs0 = r.cs0 ∧ (placeRecord now b x r).cs1 = r.cs1 ∧ (placeRecord now b x r).next = r.next ∧
    (placeRecord now b x r).queue = r.queue ∧ (placeRecord now b x r).hold = r.hold ∧
    (placeRecord now b x r).current = r.current) ∧
  (∀ d s, (die s d).reel.losingFull = true ∨ 1048575 ≤ (die s d).reel.next → ∀ x, (die (endLosses d s) x).local_ = (die s x).local_)

/-- KEY_WRITE that is accepted leaves the 32 bytes as the key of its class for the whole package and the keys of the
other classes as they were; no path keeps a session of the class, and the sessions of other classes stay; the
serving die raises an event of code 0x3F01 whose fields do not depend on the key. A read of 0x3F10 at any sub
that holds a key is refused, so no object returns one. (R461) -/
def Obligations.KeyWriteStoresAndEndsSessions : Prop :=
  (∀ dt p sub k s, accepted (elapse dt s) p 0x3F10 sub k = true → pathDie p < s.dies.length →
    k.length = 32 ∧ ∃ t, exec (.keyWrite dt p sub k) s = .next t ∧ keyOf t sub = k ∧
      (∀ c, c ≠ sub → keyOf t c = keyOf s c) ∧
      (∀ q, (path t q).session.code ≠ sub) ∧
      (∀ q, (path s q).session.code ≠ sub → (path t q).session = (path s q).session) ∧
      ∃ f ∈ (die t (pathDie p)).local_, f.code = 0x3F01 ∧
        f.payload = authPayload p 0x3F10 (if sub = 4 then 4 else 3) (0xFFFFFFF0 + sub) 0) ∧
  (∀ s p sub n, sub ≠ 0 → (judgeRead s p 0x3F10 sub n).isSome = true) ∧
  (∀ s p n, judgeRead s p 0x3F10 0 n = none → (objRow 0x3F10 0).any (·.size = 1) = true)

/-- EVENT_HANDLING of an event charged to a unit in Quarantined, Retired or Absent takes the entry off the queue and
leaves every unit record, map, slice, cluster, core and commit as it was. The record of the event does not
depend on the unit: SEQUENCE_RETURN of its number places it in the Reel whatever the state of the unit. (R230) -/
def Obligations.ChargesToUnitsOutOfService : Prop :=
  (∀ dt d e rest s, d < s.dies.length → (die s d).recovering = none → (die s d).handling = e :: rest → e.kind = .charge →
    stateOf s e.pua ∈ [.quarantined, .retired, .absent] →
    ∃ t, exec (.eventHandling dt d) s = .next t ∧ (die t d).handling = rest ∧
      t = { elapse dt s with dies := t.dies, ports := t.ports, output := t.output }) ∧
  (∀ dt d n rest s, d < s.dies.length → (die s d).returns = n :: rest → n.event.kind = .charge → n.event.code ≠ 0 →
    n.event.scope = 0 → n.event.die = d →
    (die s d).suspended = false → reelUsable (die s d).reel = true → (die s d).reel.next < fullIndex →
    (die s d).reel.queue.length < 1024 →
    ∃ t, exec (.sequenceReturn dt d) s = .next t ∧
      ∃ x ∈ (die t d).reel.current.toList ++ (die t d).reel.queue, x.event = n.event ∧ x.position = n.position)

/-- An address of a store that no raw write has set holds no byte. Writing a byte or a run of bytes makes those
addresses read the bytes written and leaves every other address, keeps the canonical form, and two stores in
that form that read alike at every address are equal. That the bytes of raw writes are held beside the records
is the model's (log entries 102 and 103). (R462, R485) -/
def Obligations.StoreBytesAreMemory : Prop :=
  (∀ a, memGet [] a = none) ∧
  (∀ m a b, Memory.wf m = true → Memory.wf (memPut m a b) = true ∧ memGet (memPut m a b) a = some b ∧
    ∀ x, x ≠ a → memGet (memPut m a b) x = memGet m x) ∧
  (∀ m a bs, Memory.wf m = true → Memory.wf (memPutAll m a bs) = true ∧ memRead (memPutAll m a bs) a bs.length = bs.map some ∧
    ∀ x, x < a ∨ a + bs.length ≤ x → memGet (memPutAll m a bs) x = memGet m x) ∧
  (∀ m n, Memory.wf m = true → Memory.wf n = true → (∀ a, memGet m a = memGet n a) → m = n)

/-- State.reset waits in stage S0 on every die, with every unit as at manufacture, every Reel empty on chip select 0
and erased through 1,048,575, every field off, no slice, no commit, no transfer, no session, an empty sequencer,
the first image slot committed, and an empty queue. The variant is the DH-100 and the clock starts at 0 (model's
choices, log entries 2 and 3); every other register without a value in the manual is zero, as log entry 3 says.
(R1, R20, R54, R239, R347, R383, R394) -/
def Obligations.ResetState : Prop :=
  (∀ d, d < 4 → (die State.reset d).stage = 0 ∧ (die State.reset d).status = 1 ∧ (die State.reset d).stageRan = false ∧
    (die State.reset d).reel.active = 0 ∧ (die State.reset d).reel.next = 0 ∧
    (die State.reset d).reel.erasedThrough = some 1048575 ∧
    (∀ cs i, reelBytes State.reset d cs i = List.replicate 64 0xFF) ∧ (die State.reset d).store = [] ∧
    (die State.reset d).aonLost = true) ∧
  (∀ f, f < 24 → (field State.reset f).power = 0 ∧ (field State.reset f).phases = List.range 24 ∧
    (field State.reset f).phaseCap = 0xFF) ∧
  (∀ p, unitRec State.reset p = UnitRec.manufacture p ∧ fmaxRec State.reset p = FmaxRec.manufacture) ∧
  (∀ k d, obj State.reset k d = d) ∧ (∀ k, slice State.reset k = none) ∧ (∀ p, sessionOf State.reset p = .none) ∧
  State.reset.variant = .dh100 ∧ State.reset.now = 0 ∧ State.reset.commits = [] ∧ State.reset.transfers = [] ∧
  State.reset.seqr = ⟨0, 0, none, false, 0, 0, []⟩ ∧ State.reset.images.map (·.state) = [2, 0] ∧ State.reset.pending = []

/-- With command c at the front of the queue and rest behind it, a step is exec of c on the state whose queue is
rest. On an empty queue the block idles and nothing changes (the model's choice, log entry 11). (R3, R12) -/
def Obligations.StepRunsTheFrontCommand : Prop :=
  (∀ s c rest, s.pending = c :: rest → step s = exec c { s with pending := rest }) ∧
  (∀ s, s.pending = [] → step s = .next s) ∧
  (∀ s c, step { s with pending := c :: s.pending } = exec c s)

/-- Every command of the table answers a next state from every state; a misuse is answered by an abort code or
changes nothing. So the block takes any sequence of commands, and every step is safe. (R441, R467, R508) -/
def Obligations.EveryCommandCompletes : Prop :=
  (∀ c s, ∃ t, exec c s = .next t) ∧ (∀ s, Safe (step s))

/-- From every state that holds every die and every field of its variant and whose stores are in canonical form, a
step answers a state of which the same holds. The variant never changes, the clock of the block moves on by the
time that the command carries, and the queue loses its first command and no other. (R1, R20, R485, R508) -/
def Obligations.EveryCommandKeepsTheInvariant : Prop :=
  (∀ s t, WellKept s → step s = .next t → WellKept t) ∧
  (∀ s c rest t, s.pending = c :: rest → step s = .next t →
    t.variant = s.variant ∧ t.now = s.now + c.dt ∧ t.pending = rest)

/-- State.reset holds every die and every field of its variant, and every store of it is in canonical form. (R1,
R20, R485) -/
def Obligations.InvariantHoldsAtReset : Prop :=
  WellKept State.reset

/-- SNAPSHOT_LATCH of a scheduled snapshot, once PT has reached C + 32, answers the state in which it is latched and
every requesting path shows state 2. SNAPSHOT_GATHER_COMPLETE of a latched snapshot, while no Gondola recovers,
answers the state with one more snapshot number; each requesting path shows state 3 with that number, C and C +
32, and its results are those that were latched for it. No die, field, unit, slice or object changes. (R411,
R427) -/
def Obligations.SnapshotCommandsComplete : Prop :=
  (∀ dt n s, s.snapshot = some n → n.latched = false → n.count + 32 ≤ pt (elapse dt s) →
    ∃ t, exec (.snapshotLatch dt) s = .next t ∧ t.snapshot = some { n with latched := true } ∧
      t.snapshots = s.snapshots ∧ t.free = s.free + 1 ∧
      (∀ k ∈ n.paths, ∀ y, (path s (pathOfKey k)).snapshot = some y →
        ∃ z, (path t (pathOfKey k)).snapshot = some z ∧ z.1 = 2 ∧ z.2 = y.2) ∧
      t = { elapse dt s with paths := t.paths, snapshot := t.snapshot, views := t.views, turn := t.turn, free := t.free }) ∧
  (∀ dt n s, s.snapshot = some n → n.latched = true → (∀ x ∈ s.dies, x.recovering = none) → n.paths.Nodup →
    ∃ t, exec (.snapshotGatherComplete dt) s = .next t ∧ t.snapshots = s.snapshots + 1 ∧ t.free = s.free ∧
      (∀ k ∈ n.paths, (path t (pathOfKey k)).latched = (path s (pathOfKey k)).gathered ∧
        (path t (pathOfKey k)).gathered = [] ∧ (path t (pathOfKey k)).waitingSnapshot = false) ∧
      t = { elapse dt s with paths := t.paths, snapshot := t.snapshot, snapshots := t.snapshots, turn := t.turn })

/-- TAP_BYPASS is decoded at any time. While the self-test does not run, TAP_IDCODE (whose IDCODE the port of a die
of the variant shifts out) and TAP_SAMPLE_PRELOAD are decoded; in the return state under a Maker session
TAP_EXTEST, TAP_AC_EXTEST, TAP_INTEST and TAP_PRIVATE of every code are decoded too, and a private one enters a
private test mode. Other dies stay. (R503) -/
def Obligations.TestAccessPortInstructionsComplete : Prop :=
  (∀ dt d s, d < s.dies.length →
    ∃ t, exec (.tapBypass dt d) s = .next t ∧ (die t d).tap = 0 ∧ (∀ x, x ≠ d → die t x = die s x) ∧
      t = { elapse dt s with dies := t.dies, turn := t.turn }) ∧
  (∀ dt d s, d < s.dies.length → d < s.variant.dies → testRuns s d = false →
    ∃ t, exec (.tapIdcode dt d) s = .next t ∧ (die t d).tap = 1 ∧
      t.output = s.output ++ [.idcode d (idcode s.variant)] ∧ (∀ x, x ≠ d → die t x = die s x) ∧ t = { elapse dt s with dies := t.dies, turn := t.turn, output := t.output }) ∧
  (∀ dt d s, d < s.dies.length → testRuns s d = false →
    ∃ t, exec (.tapSamplePreload dt d) s = .next t ∧ (die t d).tap = 2 ∧ (∀ x, x ≠ d → die t x = die s x) ∧
      t = { elapse dt s with dies := t.dies, turn := t.turn }) ∧
  (∀ dt d s, d < s.dies.length → testRuns s d = false → tapOpen (elapse dt s) = true →
    (∃ t, exec (.tapExtest dt d) s = .next t ∧ (die t d).tap = 3 ∧ (∀ x, x ≠ d → die t x = die s x) ∧
      t = { elapse dt s with dies := t.dies, turn := t.turn }) ∧
    (∃ t, exec (.tapAcExtest dt d) s = .next t ∧ (die t d).tap = 4 ∧ (∀ x, x ≠ d → die t x = die s x) ∧
      t = { elapse dt s with dies := t.dies, turn := t.turn }) ∧
    (∃ t, exec (.tapIntest dt d) s = .next t ∧ (die t d).tap = 5 ∧ (∀ x, x ≠ d → die t x = die s x) ∧
      t = { elapse dt s with dies := t.dies, turn := t.turn }) ∧
    (∀ code, ∃ t, exec (.tapPrivate dt d code) s = .next t ∧ (die t d).tap = 6 + code ∧ t.privateMode = true ∧
      (∀ x, x ≠ d → die t x = die s x) ∧ t = { elapse dt s with dies := t.dies, privateMode := t.privateMode, turn := t.turn }))
end

