-- ==== Sys2Proof/Laws/State.lean ====
section
/-!
SUPPORT. What each update of the state leaves alone and what it makes of the field that it changes, field by field.
-/
namespace Sys2Proof.Machine
variable (s : State)

/-! ### elapse -/
section
variable (dt : Nat)
@[simp] theorem elapse_variant : (elapse dt s).variant = s.variant := rfl
theorem elapse_now : (elapse dt s).now = s.now + dt := rfl
@[simp] theorem elapse_ptStarted : (elapse dt s).ptStarted = s.ptStarted := rfl
@[simp] theorem elapse_anchorDie : (elapse dt s).anchorDie = s.anchorDie := rfl
@[simp] theorem elapse_standby : (elapse dt s).standby = s.standby := rfl
@[simp] theorem elapse_takenOver : (elapse dt s).takenOver = s.takenOver := rfl
@[simp] theorem elapse_anchorReady : (elapse dt s).anchorReady = s.anchorReady := rfl
@[simp] theorem elapse_reference : (elapse dt s).reference = s.reference := rfl
@[simp] theorem elapse_referenceLostAt : (elapse dt s).referenceLostAt = s.referenceLostAt := rfl
@[simp] theorem elapse_keepers : (elapse dt s).keepers = s.keepers := rfl
@[simp] theorem elapse_seqr : (elapse dt s).seqr = s.seqr := rfl
@[simp] theorem elapse_dies : (elapse dt s).dies = s.dies := rfl
@[simp] theorem elapse_fields : (elapse dt s).fields = s.fields := rfl
@[simp] theorem elapse_units : (elapse dt s).units = s.units := rfl
@[simp] theorem elapse_fmax : (elapse dt s).fmax = s.fmax := rfl
@[simp] theorem elapse_lcnMap : (elapse dt s).lcnMap = s.lcnMap := rfl
@[simp] theorem elapse_clusterMap : (elapse dt s).clusterMap = s.clusterMap := rfl
@[simp] theorem elapse_lanes : (elapse dt s).lanes = s.lanes := rfl
@[simp] theorem elapse_channels : (elapse dt s).channels = s.channels := rfl
@[simp] theorem elapse_zports : (elapse dt s).zports = s.zports := rfl
@[simp] theorem elapse_lostSlots : (elapse dt s).lostSlots = s.lostSlots := rfl
@[simp] theorem elapse_unreachable : (elapse dt s).unreachable = s.unreachable := rfl
@[simp] theorem elapse_lcns : (elapse dt s).lcns = s.lcns := rfl
@[simp] theorem elapse_cores : (elapse dt s).cores = s.cores := rfl
@[simp] theorem elapse_clusters : (elapse dt s).clusters = s.clusters := rfl
@[simp] theorem elapse_slices : (elapse dt s).slices = s.slices := rfl
@[simp] theorem elapse_generations : (elapse dt s).generations = s.generations := rfl
@[simp] theorem elapse_recomputes : (elapse dt s).recomputes = s.recomputes := rfl
@[simp] theorem elapse_tieBreaks : (elapse dt s).tieBreaks = s.tieBreaks := rfl
@[simp] theorem elapse_thirds : (elapse dt s).thirds = s.thirds := rfl
@[simp] theorem elapse_transfers : (elapse dt s).transfers = s.transfers := rfl
@[simp] theorem elapse_follows : (elapse dt s).follows = s.follows := rfl
@[simp] theorem elapse_inFlight : (elapse dt s).inFlight = s.inFlight := rfl
@[simp] theorem elapse_dram : (elapse dt s).dram = s.dram := rfl
@[simp] theorem elapse_copies : (elapse dt s).copies = s.copies := rfl
@[simp] theorem elapse_changes : (elapse dt s).changes = s.changes := rfl
@[simp] theorem elapse_changeHold : (elapse dt s).changeHold = s.changeHold := rfl
@[simp] theorem elapse_nextChange : (elapse dt s).nextChange = s.nextChange := rfl
@[simp] theorem elapse_commits : (elapse dt s).commits = s.commits := rfl
@[simp] theorem elapse_nextCommit : (elapse dt s).nextCommit = s.nextCommit := rfl
@[simp] theorem elapse_ripcord : (elapse dt s).ripcord = s.ripcord := rfl
@[simp] theorem elapse_model : (elapse dt s).model = s.model := rfl
@[simp] theorem elapse_modelIndex : (elapse dt s).modelIndex = s.modelIndex := rfl
@[simp] theorem elapse_modelFlag : (elapse dt s).modelFlag = s.modelFlag := rfl
@[simp] theorem elapse_qualifying : (elapse dt s).qualifying = s.qualifying := rfl
@[simp] theorem elapse_powerHistory : (elapse dt s).powerHistory = s.powerHistory := rfl
@[simp] theorem elapse_powerLowFrom : (elapse dt s).powerLowFrom = s.powerLowFrom := rfl
@[simp] theorem elapse_powerOverFrom : (elapse dt s).powerOverFrom = s.powerOverFrom := rfl
@[simp] theorem elapse_powerStack : (elapse dt s).powerStack = s.powerStack := rfl
@[simp] theorem elapse_packageReset : (elapse dt s).packageReset = s.packageReset := rfl
@[simp] theorem elapse_paths : (elapse dt s).paths = s.paths := rfl
@[simp] theorem elapse_forced : (elapse dt s).forced = s.forced := rfl
@[simp] theorem elapse_ports : (elapse dt s).ports = s.ports := rfl
@[simp] theorem elapse_mailboxes : (elapse dt s).mailboxes = s.mailboxes := rfl
@[simp] theorem elapse_requests : (elapse dt s).requests = s.requests := rfl
@[simp] theorem elapse_snapshot : (elapse dt s).snapshot = s.snapshot := rfl
@[simp] theorem elapse_snapshots : (elapse dt s).snapshots = s.snapshots := rfl
@[simp] theorem elapse_traces : (elapse dt s).traces = s.traces := rfl
@[simp] theorem elapse_views : (elapse dt s).views = s.views := rfl
@[simp] theorem elapse_images : (elapse dt s).images = s.images := rfl
@[simp] theorem elapse_imageInUse : (elapse dt s).imageInUse = s.imageInUse := rfl
@[simp] theorem elapse_imageFallback : (elapse dt s).imageFallback = s.imageFallback := rfl
@[simp] theorem elapse_trialReached : (elapse dt s).trialReached = s.trialReached := rfl
@[simp] theorem elapse_privateMode : (elapse dt s).privateMode = s.privateMode := rfl
@[simp] theorem elapse_retained : (elapse dt s).retained = s.retained := rfl
@[simp] theorem elapse_startKind : (elapse dt s).startKind = s.startKind := rfl
@[simp] theorem elapse_keys : (elapse dt s).keys = s.keys := rfl
@[simp] theorem elapse_kept : (elapse dt s).kept = s.kept := rfl
@[simp] theorem elapse_keptB : (elapse dt s).keptB = s.keptB := rfl
@[simp] theorem elapse_freqs : (elapse dt s).freqs = s.freqs := rfl
@[simp] theorem elapse_crossings : (elapse dt s).crossings = s.crossings := rfl
theorem elapse_turn : (elapse dt s).turn = s.turn + 1 := rfl
@[simp] theorem elapse_screens : (elapse dt s).screens = s.screens := rfl
@[simp] theorem elapse_undefinedCases : (elapse dt s).undefinedCases = s.undefinedCases := rfl
@[simp] theorem elapse_objs : (elapse dt s).objs = s.objs := rfl
@[simp] theorem elapse_output : (elapse dt s).output = s.output := rfl
@[simp] theorem elapse_free : (elapse dt s).free = s.free := rfl
@[simp] theorem elapse_pending : (elapse dt s).pending = s.pending := rfl
end

/-! ### modKeeper -/
section
variable (k : Nat) (f : Keeper → Keeper)
@[simp] theorem modKeeper_variant : (modKeeper k f s).variant = s.variant := rfl
@[simp] theorem modKeeper_now : (modKeeper k f s).now = s.now := rfl
@[simp] theorem modKeeper_ptStarted : (modKeeper k f s).ptStarted = s.ptStarted := rfl
@[simp] theorem modKeeper_anchorDie : (modKeeper k f s).anchorDie = s.anchorDie := rfl
@[simp] theorem modKeeper_standby : (modKeeper k f s).standby = s.standby := rfl
@[simp] theorem modKeeper_takenOver : (modKeeper k f s).takenOver = s.takenOver := rfl
@[simp] theorem modKeeper_anchorReady : (modKeeper k f s).anchorReady = s.anchorReady := rfl
@[simp] theorem modKeeper_reference : (modKeeper k f s).reference = s.reference := rfl
@[simp] theorem modKeeper_referenceLostAt : (modKeeper k f s).referenceLostAt = s.referenceLostAt := rfl
theorem modKeeper_keepers : (modKeeper k f s).keepers = tmod s.keepers k Keeper.reset f := rfl
@[simp] theorem modKeeper_seqr : (modKeeper k f s).seqr = s.seqr := rfl
@[simp] theorem modKeeper_dies : (modKeeper k f s).dies = s.dies := rfl
@[simp] theorem modKeeper_fields : (modKeeper k f s).fields = s.fields := rfl
@[simp] theorem modKeeper_units : (modKeeper k f s).units = s.units := rfl
@[simp] theorem modKeeper_fmax : (modKeeper k f s).fmax = s.fmax := rfl
@[simp] theorem modKeeper_lcnMap : (modKeeper k f s).lcnMap = s.lcnMap := rfl
@[simp] theorem modKeeper_clusterMap : (modKeeper k f s).clusterMap = s.clusterMap := rfl
@[simp] theorem modKeeper_lanes : (modKeeper k f s).lanes = s.lanes := rfl
@[simp] theorem modKeeper_channels : (modKeeper k f s).channels = s.channels := rfl
@[simp] theorem modKeeper_zports : (modKeeper k f s).zports = s.zports := rfl
@[simp] theorem modKeeper_lostSlots : (modKeeper k f s).lostSlots = s.lostSlots := rfl
@[simp] theorem modKeeper_unreachable : (modKeeper k f s).unreachable = s.unreachable := rfl
@[simp] theorem modKeeper_lcns : (modKeeper k f s).lcns = s.lcns := rfl
@[simp] theorem modKeeper_cores : (modKeeper k f s).cores = s.cores := rfl
@[simp] theorem modKeeper_clusters : (modKeeper k f s).clusters = s.clusters := rfl
@[simp] theorem modKeeper_slices : (modKeeper k f s).slices = s.slices := rfl
@[simp] theorem modKeeper_generations : (modKeeper k f s).generations = s.generations := rfl
@[simp] theorem modKeeper_recomputes : (modKeeper k f s).recomputes = s.recomputes := rfl
@[simp] theorem modKeeper_tieBreaks : (modKeeper k f s).tieBreaks = s.tieBreaks := rfl
@[simp] theorem modKeeper_thirds : (modKeeper k f s).thirds = s.thirds := rfl
@[simp] theorem modKeeper_transfers : (modKeeper k f s).transfers = s.transfers := rfl
@[simp] theorem modKeeper_follows : (modKeeper k f s).follows = s.follows := rfl
@[simp] theorem modKeeper_inFlight : (modKeeper k f s).inFlight = s.inFlight := rfl
@[simp] theorem modKeeper_dram : (modKeeper k f s).dram = s.dram := rfl
@[simp] theorem modKeeper_copies : (modKeeper k f s).copies = s.copies := rfl
@[simp] theorem modKeeper_changes : (modKeeper k f s).changes = s.changes := rfl
@[simp] theorem modKeeper_changeHold : (modKeeper k f s).changeHold = s.changeHold := rfl
@[simp] theorem modKeeper_nextChange : (modKeeper k f s).nextChange = s.nextChange := rfl
@[simp] theorem modKeeper_commits : (modKeeper k f s).commits = s.commits := rfl
@[simp] theorem modKeeper_nextCommit : (modKeeper k f s).nextCommit = s.nextCommit := rfl
@[simp] theorem modKeeper_ripcord : (modKeeper k f s).ripcord = s.ripcord := rfl
@[simp] theorem modKeeper_model : (modKeeper k f s).model = s.model := rfl
@[simp] theorem modKeeper_modelIndex : (modKeeper k f s).modelIndex = s.modelIndex := rfl
@[simp] theorem modKeeper_modelFlag : (modKeeper k f s).modelFlag = s.modelFlag := rfl
@[simp] theorem modKeeper_qualifying : (modKeeper k f s).qualifying = s.qualifying := rfl
@[simp] theorem modKeeper_powerHistory : (modKeeper k f s).powerHistory = s.powerHistory := rfl
@[simp] theorem modKeeper_powerLowFrom : (modKeeper k f s).powerLowFrom = s.powerLowFrom := rfl
@[simp] theorem modKeeper_powerOverFrom : (modKeeper k f s).powerOverFrom = s.powerOverFrom := rfl
@[simp] theorem modKeeper_powerStack : (modKeeper k f s).powerStack = s.powerStack := rfl
@[simp] theorem modKeeper_packageReset : (modKeeper k f s).packageReset = s.packageReset := rfl
@[simp] theorem modKeeper_paths : (modKeeper k f s).paths = s.paths := rfl
@[simp] theorem modKeeper_forced : (modKeeper k f s).forced = s.forced := rfl
@[simp] theorem modKeeper_ports : (modKeeper k f s).ports = s.ports := rfl
@[simp] theorem modKeeper_mailboxes : (modKeeper k f s).mailboxes = s.mailboxes := rfl
@[simp] theorem modKeeper_requests : (modKeeper k f s).requests = s.requests := rfl
@[simp] theorem modKeeper_snapshot : (modKeeper k f s).snapshot = s.snapshot := rfl
@[simp] theorem modKeeper_snapshots : (modKeeper k f s).snapshots = s.snapshots := rfl
@[simp] theorem modKeeper_traces : (modKeeper k f s).traces = s.traces := rfl
@[simp] theorem modKeeper_views : (modKeeper k f s).views = s.views := rfl
@[simp] theorem modKeeper_images : (modKeeper k f s).images = s.images := rfl
@[simp] theorem modKeeper_imageInUse : (modKeeper k f s).imageInUse = s.imageInUse := rfl
@[simp] theorem modKeeper_imageFallback : (modKeeper k f s).imageFallback = s.imageFallback := rfl
@[simp] theorem modKeeper_trialReached : (modKeeper k f s).trialReached = s.trialReached := rfl
@[simp] theorem modKeeper_privateMode : (modKeeper k f s).privateMode = s.privateMode := rfl
@[simp] theorem modKeeper_retained : (modKeeper k f s).retained = s.retained := rfl
@[simp] theorem modKeeper_startKind : (modKeeper k f s).startKind = s.startKind := rfl
@[simp] theorem modKeeper_keys : (modKeeper k f s).keys = s.keys := rfl
@[simp] theorem modKeeper_kept : (modKeeper k f s).kept = s.kept := rfl
@[simp] theorem modKeeper_keptB : (modKeeper k f s).keptB = s.keptB := rfl
@[simp] theorem modKeeper_freqs : (modKeeper k f s).freqs = s.freqs := rfl
@[simp] theorem modKeeper_crossings : (modKeeper k f s).crossings = s.crossings := rfl
@[simp] theorem modKeeper_turn : (modKeeper k f s).turn = s.turn := rfl
@[simp] theorem modKeeper_screens : (modKeeper k f s).screens = s.screens := rfl
@[simp] theorem modKeeper_undefinedCases : (modKeeper k f s).undefinedCases = s.undefinedCases := rfl
@[simp] theorem modKeeper_objs : (modKeeper k f s).objs = s.objs := rfl
@[simp] theorem modKeeper_output : (modKeeper k f s).output = s.output := rfl
@[simp] theorem modKeeper_free : (modKeeper k f s).free = s.free := rfl
@[simp] theorem modKeeper_pending : (modKeeper k f s).pending = s.pending := rfl
end

/-! ### modDie -/
section
variable (d : Nat) (f : Die → Die)
@[simp] theorem modDie_variant : (modDie d f s).variant = s.variant := rfl
@[simp] theorem modDie_now : (modDie d f s).now = s.now := rfl
@[simp] theorem modDie_ptStarted : (modDie d f s).ptStarted = s.ptStarted := rfl
@[simp] theorem modDie_anchorDie : (modDie d f s).anchorDie = s.anchorDie := rfl
@[simp] theorem modDie_standby : (modDie d f s).standby = s.standby := rfl
@[simp] theorem modDie_takenOver : (modDie d f s).takenOver = s.takenOver := rfl
@[simp] theorem modDie_anchorReady : (modDie d f s).anchorReady = s.anchorReady := rfl
@[simp] theorem modDie_reference : (modDie d f s).reference = s.reference := rfl
@[simp] theorem modDie_referenceLostAt : (modDie d f s).referenceLostAt = s.referenceLostAt := rfl
@[simp] theorem modDie_keepers : (modDie d f s).keepers = s.keepers := rfl
@[simp] theorem modDie_seqr : (modDie d f s).seqr = s.seqr := rfl
theorem modDie_dies : (modDie d f s).dies = s.dies.modify d f := rfl
@[simp] theorem modDie_fields : (modDie d f s).fields = s.fields := rfl
@[simp] theorem modDie_units : (modDie d f s).units = s.units := rfl
@[simp] theorem modDie_fmax : (modDie d f s).fmax = s.fmax := rfl
@[simp] theorem modDie_lcnMap : (modDie d f s).lcnMap = s.lcnMap := rfl
@[simp] theorem modDie_clusterMap : (modDie d f s).clusterMap = s.clusterMap := rfl
@[simp] theorem modDie_lanes : (modDie d f s).lanes = s.lanes := rfl
@[simp] theorem modDie_channels : (modDie d f s).channels = s.channels := rfl
@[simp] theorem modDie_zports : (modDie d f s).zports = s.zports := rfl
@[simp] theorem modDie_lostSlots : (modDie d f s).lostSlots = s.lostSlots := rfl
@[simp] theorem modDie_unreachable : (modDie d f s).unreachable = s.unreachable := rfl
@[simp] theorem modDie_lcns : (modDie d f s).lcns = s.lcns := rfl
@[simp] theorem modDie_cores : (modDie d f s).cores = s.cores := rfl
@[simp] theorem modDie_clusters : (modDie d f s).clusters = s.clusters := rfl
@[simp] theorem modDie_slices : (modDie d f s).slices = s.slices := rfl
@[simp] theorem modDie_generations : (modDie d f s).generations = s.generations := rfl
@[simp] theorem modDie_recomputes : (modDie d f s).recomputes = s.recomputes := rfl
@[simp] theorem modDie_tieBreaks : (modDie d f s).tieBreaks = s.tieBreaks := rfl
@[simp] theorem modDie_thirds : (modDie d f s).thirds = s.thirds := rfl
@[simp] theorem modDie_transfers : (modDie d f s).transfers = s.transfers := rfl
@[simp] theorem modDie_follows : (modDie d f s).follows = s.follows := rfl
@[simp] theorem modDie_inFlight : (modDie d f s).inFlight = s.inFlight := rfl
@[simp] theorem modDie_dram : (modDie d f s).dram = s.dram := rfl
@[simp] theorem modDie_copies : (modDie d f s).copies = s.copies := rfl
@[simp] theorem modDie_changes : (modDie d f s).changes = s.changes := rfl
@[simp] theorem modDie_changeHold : (modDie d f s).changeHold = s.changeHold := rfl
@[simp] theorem modDie_nextChange : (modDie d f s).nextChange = s.nextChange := rfl
@[simp] theorem modDie_commits : (modDie d f s).commits = s.commits := rfl
@[simp] theorem modDie_nextCommit : (modDie d f s).nextCommit = s.nextCommit := rfl
@[simp] theorem modDie_ripcord : (modDie d f s).ripcord = s.ripcord := rfl
@[simp] theorem modDie_model : (modDie d f s).model = s.model := rfl
@[simp] theorem modDie_modelIndex : (modDie d f s).modelIndex = s.modelIndex := rfl
@[simp] theorem modDie_modelFlag : (modDie d f s).modelFlag = s.modelFlag := rfl
@[simp] theorem modDie_qualifying : (modDie d f s).qualifying = s.qualifying := rfl
@[simp] theorem modDie_powerHistory : (modDie d f s).powerHistory = s.powerHistory := rfl
@[simp] theorem modDie_powerLowFrom : (modDie d f s).powerLowFrom = s.powerLowFrom := rfl
@[simp] theorem modDie_powerOverFrom : (modDie d f s).powerOverFrom = s.powerOverFrom := rfl
@[simp] theorem modDie_powerStack : (modDie d f s).powerStack = s.powerStack := rfl
@[simp] theorem modDie_packageReset : (modDie d f s).packageReset = s.packageReset := rfl
@[simp] theorem modDie_paths : (modDie d f s).paths = s.paths := rfl
@[simp] theorem modDie_forced : (modDie d f s).forced = s.forced := rfl
@[simp] theorem modDie_ports : (modDie d f s).ports = s.ports := rfl
@[simp] theorem modDie_mailboxes : (modDie d f s).mailboxes = s.mailboxes := rfl
@[simp] theorem modDie_requests : (modDie d f s).requests = s.requests := rfl
@[simp] theorem modDie_snapshot : (modDie d f s).snapshot = s.snapshot := rfl
@[simp] theorem modDie_snapshots : (modDie d f s).snapshots = s.snapshots := rfl
@[simp] theorem modDie_traces : (modDie d f s).traces = s.traces := rfl
@[simp] theorem modDie_views : (modDie d f s).views = s.views := rfl
@[simp] theorem modDie_images : (modDie d f s).images = s.images := rfl
@[simp] theorem modDie_imageInUse : (modDie d f s).imageInUse = s.imageInUse := rfl
@[simp] theorem modDie_imageFallback : (modDie d f s).imageFallback = s.imageFallback := rfl
@[simp] theorem modDie_trialReached : (modDie d f s).trialReached = s.trialReached := rfl
@[simp] theorem modDie_privateMode : (modDie d f s).privateMode = s.privateMode := rfl
@[simp] theorem modDie_retained : (modDie d f s).retained = s.retained := rfl
@[simp] theorem modDie_startKind : (modDie d f s).startKind = s.startKind := rfl
@[simp] theorem modDie_keys : (modDie d f s).keys = s.keys := rfl
@[simp] theorem modDie_kept : (modDie d f s).kept = s.kept := rfl
@[simp] theorem modDie_keptB : (modDie d f s).keptB = s.keptB := rfl
@[simp] theorem modDie_freqs : (modDie d f s).freqs = s.freqs := rfl
@[simp] theorem modDie_crossings : (modDie d f s).crossings = s.crossings := rfl
@[simp] theorem modDie_turn : (modDie d f s).turn = s.turn := rfl
@[simp] theorem modDie_screens : (modDie d f s).screens = s.screens := rfl
@[simp] theorem modDie_undefinedCases : (modDie d f s).undefinedCases = s.undefinedCases := rfl
@[simp] theorem modDie_objs : (modDie d f s).objs = s.objs := rfl
@[simp] theorem modDie_output : (modDie d f s).output = s.output := rfl
@[simp] theorem modDie_free : (modDie d f s).free = s.free := rfl
@[simp] theorem modDie_pending : (modDie d f s).pending = s.pending := rfl
end

/-! ### modField -/
section
variable (d : Nat) (f : Field → Field)
@[simp] theorem modField_variant : (modField d f s).variant = s.variant := rfl
@[simp] theorem modField_now : (modField d f s).now = s.now := rfl
@[simp] theorem modField_ptStarted : (modField d f s).ptStarted = s.ptStarted := rfl
@[simp] theorem modField_anchorDie : (modField d f s).anchorDie = s.anchorDie := rfl
@[simp] theorem modField_standby : (modField d f s).standby = s.standby := rfl
@[simp] theorem modField_takenOver : (modField d f s).takenOver = s.takenOver := rfl
@[simp] theorem modField_anchorReady : (modField d f s).anchorReady = s.anchorReady := rfl
@[simp] theorem modField_reference : (modField d f s).reference = s.reference := rfl
@[simp] theorem modField_referenceLostAt : (modField d f s).referenceLostAt = s.referenceLostAt := rfl
@[simp] theorem modField_keepers : (modField d f s).keepers = s.keepers := rfl
@[simp] theorem modField_seqr : (modField d f s).seqr = s.seqr := rfl
@[simp] theorem modField_dies : (modField d f s).dies = s.dies := rfl
theorem modField_fields : (modField d f s).fields = s.fields.modify d f := rfl
@[simp] theorem modField_units : (modField d f s).units = s.units := rfl
@[simp] theorem modField_fmax : (modField d f s).fmax = s.fmax := rfl
@[simp] theorem modField_lcnMap : (modField d f s).lcnMap = s.lcnMap := rfl
@[simp] theorem modField_clusterMap : (modField d f s).clusterMap = s.clusterMap := rfl
@[simp] theorem modField_lanes : (modField d f s).lanes = s.lanes := rfl
@[simp] theorem modField_channels : (modField d f s).channels = s.channels := rfl
@[simp] theorem modField_zports : (modField d f s).zports = s.zports := rfl
@[simp] theorem modField_lostSlots : (modField d f s).lostSlots = s.lostSlots := rfl
@[simp] theorem modField_unreachable : (modField d f s).unreachable = s.unreachable := rfl
@[simp] theorem modField_lcns : (modField d f s).lcns = s.lcns := rfl
@[simp] theorem modField_cores : (modField d f s).cores = s.cores := rfl
@[simp] theorem modField_clusters : (modField d f s).clusters = s.clusters := rfl
@[simp] theorem modField_slices : (modField d f s).slices = s.slices := rfl
@[simp] theorem modField_generations : (modField d f s).generations = s.generations := rfl
@[simp] theorem modField_recomputes : (modField d f s).recomputes = s.recomputes := rfl
@[simp] theorem modField_tieBreaks : (modField d f s).tieBreaks = s.tieBreaks := rfl
@[simp] theorem modField_thirds : (modField d f s).thirds = s.thirds := rfl
@[simp] theorem modField_transfers : (modField d f s).transfers = s.transfers := rfl
@[simp] theorem modField_follows : (modField d f s).follows = s.follows := rfl
@[simp] theorem modField_inFlight : (modField d f s).inFlight = s.inFlight := rfl
@[simp] theorem modField_dram : (modField d f s).dram = s.dram := rfl
@[simp] theorem modField_copies : (modField d f s).copies = s.copies := rfl
@[simp] theorem modField_changes : (modField d f s).changes = s.changes := rfl
@[simp] theorem modField_changeHold : (modField d f s).changeHold = s.changeHold := rfl
@[simp] theorem modField_nextChange : (modField d f s).nextChange = s.nextChange := rfl
@[simp] theorem modField_commits : (modField d f s).commits = s.commits := rfl
@[simp] theorem modField_nextCommit : (modField d f s).nextCommit = s.nextCommit := rfl
@[simp] theorem modField_ripcord : (modField d f s).ripcord = s.ripcord := rfl
@[simp] theorem modField_model : (modField d f s).model = s.model := rfl
@[simp] theorem modField_modelIndex : (modField d f s).modelIndex = s.modelIndex := rfl
@[simp] theorem modField_modelFlag : (modField d f s).modelFlag = s.modelFlag := rfl
@[simp] theorem modField_qualifying : (modField d f s).qualifying = s.qualifying := rfl
@[simp] theorem modField_powerHistory : (modField d f s).powerHistory = s.powerHistory := rfl
@[simp] theorem modField_powerLowFrom : (modField d f s).powerLowFrom = s.powerLowFrom := rfl
@[simp] theorem modField_powerOverFrom : (modField d f s).powerOverFrom = s.powerOverFrom := rfl
@[simp] theorem modField_powerStack : (modField d f s).powerStack = s.powerStack := rfl
@[simp] theorem modField_packageReset : (modField d f s).packageReset = s.packageReset := rfl
@[simp] theorem modField_paths : (modField d f s).paths = s.paths := rfl
@[simp] theorem modField_forced : (modField d f s).forced = s.forced := rfl
@[simp] theorem modField_ports : (modField d f s).ports = s.ports := rfl
@[simp] theorem modField_mailboxes : (modField d f s).mailboxes = s.mailboxes := rfl
@[simp] theorem modField_requests : (modField d f s).requests = s.requests := rfl
@[simp] theorem modField_snapshot : (modField d f s).snapshot = s.snapshot := rfl
@[simp] theorem modField_snapshots : (modField d f s).snapshots = s.snapshots := rfl
@[simp] theorem modField_traces : (modField d f s).traces = s.traces := rfl
@[simp] theorem modField_views : (modField d f s).views = s.views := rfl
@[simp] theorem modField_images : (modField d f s).images = s.images := rfl
@[simp] theorem modField_imageInUse : (modField d f s).imageInUse = s.imageInUse := rfl
@[simp] theorem modField_imageFallback : (modField d f s).imageFallback = s.imageFallback := rfl
@[simp] theorem modField_trialReached : (modField d f s).trialReached = s.trialReached := rfl
@[simp] theorem modField_privateMode : (modField d f s).privateMode = s.privateMode := rfl
@[simp] theorem modField_retained : (modField d f s).retained = s.retained := rfl
@[simp] theorem modField_startKind : (modField d f s).startKind = s.startKind := rfl
@[simp] theorem modField_keys : (modField d f s).keys = s.keys := rfl
@[simp] theorem modField_kept : (modField d f s).kept = s.kept := rfl
@[simp] theorem modField_keptB : (modField d f s).keptB = s.keptB := rfl
@[simp] theorem modField_freqs : (modField d f s).freqs = s.freqs := rfl
@[simp] theorem modField_crossings : (modField d f s).crossings = s.crossings := rfl
@[simp] theorem modField_turn : (modField d f s).turn = s.turn := rfl
@[simp] theorem modField_screens : (modField d f s).screens = s.screens := rfl
@[simp] theorem modField_undefinedCases : (modField d f s).undefinedCases = s.undefinedCases := rfl
@[simp] theorem modField_objs : (modField d f s).objs = s.objs := rfl
@[simp] theorem modField_output : (modField d f s).output = s.output := rfl
@[simp] theorem modField_free : (modField d f s).free = s.free := rfl
@[simp] theorem modField_pending : (modField d f s).pending = s.pending := rfl
end

/-! ### modUnit -/
section
variable (k : Nat) (f : UnitRec → UnitRec)
@[simp] theorem modUnit_variant : (modUnit k f s).variant = s.variant := rfl
@[simp] theorem modUnit_now : (modUnit k f s).now = s.now := rfl
@[simp] theorem modUnit_ptStarted : (modUnit k f s).ptStarted = s.ptStarted := rfl
@[simp] theorem modUnit_anchorDie : (modUnit k f s).anchorDie = s.anchorDie := rfl
@[simp] theorem modUnit_standby : (modUnit k f s).standby = s.standby := rfl
@[simp] theorem modUnit_takenOver : (modUnit k f s).takenOver = s.takenOver := rfl
@[simp] theorem modUnit_anchorReady : (modUnit k f s).anchorReady = s.anchorReady := rfl
@[simp] theorem modUnit_reference : (modUnit k f s).reference = s.reference := rfl
@[simp] theorem modUnit_referenceLostAt : (modUnit k f s).referenceLostAt = s.referenceLostAt := rfl
@[simp] theorem modUnit_keepers : (modUnit k f s).keepers = s.keepers := rfl
@[simp] theorem modUnit_seqr : (modUnit k f s).seqr = s.seqr := rfl
@[simp] theorem modUnit_dies : (modUnit k f s).dies = s.dies := rfl
@[simp] theorem modUnit_fields : (modUnit k f s).fields = s.fields := rfl
theorem modUnit_units : (modUnit k f s).units = tmod s.units k (UnitRec.manufacture k) f := rfl
@[simp] theorem modUnit_fmax : (modUnit k f s).fmax = s.fmax := rfl
@[simp] theorem modUnit_lcnMap : (modUnit k f s).lcnMap = s.lcnMap := rfl
@[simp] theorem modUnit_clusterMap : (modUnit k f s).clusterMap = s.clusterMap := rfl
@[simp] theorem modUnit_lanes : (modUnit k f s).lanes = s.lanes := rfl
@[simp] theorem modUnit_channels : (modUnit k f s).channels = s.channels := rfl
@[simp] theorem modUnit_zports : (modUnit k f s).zports = s.zports := rfl
@[simp] theorem modUnit_lostSlots : (modUnit k f s).lostSlots = s.lostSlots := rfl
@[simp] theorem modUnit_unreachable : (modUnit k f s).unreachable = s.unreachable := rfl
@[simp] theorem modUnit_lcns : (modUnit k f s).lcns = s.lcns := rfl
@[simp] theorem modUnit_cores : (modUnit k f s).cores = s.cores := rfl
@[simp] theorem modUnit_clusters : (modUnit k f s).clusters = s.clusters := rfl
@[simp] theorem modUnit_slices : (modUnit k f s).slices = s.slices := rfl
@[simp] theorem modUnit_generations : (modUnit k f s).generations = s.generations := rfl
@[simp] theorem modUnit_recomputes : (modUnit k f s).recomputes = s.recomputes := rfl
@[simp] theorem modUnit_tieBreaks : (modUnit k f s).tieBreaks = s.tieBreaks := rfl
@[simp] theorem modUnit_thirds : (modUnit k f s).thirds = s.thirds := rfl
@[simp] theorem modUnit_transfers : (modUnit k f s).transfers = s.transfers := rfl
@[simp] theorem modUnit_follows : (modUnit k f s).follows = s.follows := rfl
@[simp] theorem modUnit_inFlight : (modUnit k f s).inFlight = s.inFlight := rfl
@[simp] theorem modUnit_dram : (modUnit k f s).dram = s.dram := rfl
@[simp] theorem modUnit_copies : (modUnit k f s).copies = s.copies := rfl
@[simp] theorem modUnit_changes : (modUnit k f s).changes = s.changes := rfl
@[simp] theorem modUnit_changeHold : (modUnit k f s).changeHold = s.changeHold := rfl
@[simp] theorem modUnit_nextChange : (modUnit k f s).nextChange = s.nextChange := rfl
@[simp] theorem modUnit_commits : (modUnit k f s).commits = s.commits := rfl
@[simp] theorem modUnit_nextCommit : (modUnit k f s).nextCommit = s.nextCommit := rfl
@[simp] theorem modUnit_ripcord : (modUnit k f s).ripcord = s.ripcord := rfl
@[simp] theorem modUnit_model : (modUnit k f s).model = s.model := rfl
@[simp] theorem modUnit_modelIndex : (modUnit k f s).modelIndex = s.modelIndex := rfl
@[simp] theorem modUnit_modelFlag : (modUnit k f s).modelFlag = s.modelFlag := rfl
@[simp] theorem modUnit_qualifying : (modUnit k f s).qualifying = s.qualifying := rfl
@[simp] theorem modUnit_powerHistory : (modUnit k f s).powerHistory = s.powerHistory := rfl
@[simp] theorem modUnit_powerLowFrom : (modUnit k f s).powerLowFrom = s.powerLowFrom := rfl
@[simp] theorem modUnit_powerOverFrom : (modUnit k f s).powerOverFrom = s.powerOverFrom := rfl
@[simp] theorem modUnit_powerStack : (modUnit k f s).powerStack = s.powerStack := rfl
@[simp] theorem modUnit_packageReset : (modUnit k f s).packageReset = s.packageReset := rfl
@[simp] theorem modUnit_paths : (modUnit k f s).paths = s.paths := rfl
@[simp] theorem modUnit_forced : (modUnit k f s).forced = s.forced := rfl
@[simp] theorem modUnit_ports : (modUnit k f s).ports = s.ports := rfl
@[simp] theorem modUnit_mailboxes : (modUnit k f s).mailboxes = s.mailboxes := rfl
@[simp] theorem modUnit_requests : (modUnit k f s).requests = s.requests := rfl
@[simp] theorem modUnit_snapshot : (modUnit k f s).snapshot = s.snapshot := rfl
@[simp] theorem modUnit_snapshots : (modUnit k f s).snapshots = s.snapshots := rfl
@[simp] theorem modUnit_traces : (modUnit k f s).traces = s.traces := rfl
@[simp] theorem modUnit_views : (modUnit k f s).views = s.views := rfl
@[simp] theorem modUnit_images : (modUnit k f s).images = s.images := rfl
@[simp] theorem modUnit_imageInUse : (modUnit k f s).imageInUse = s.imageInUse := rfl
@[simp] theorem modUnit_imageFallback : (modUnit k f s).imageFallback = s.imageFallback := rfl
@[simp] theorem modUnit_trialReached : (modUnit k f s).trialReached = s.trialReached := rfl
@[simp] theorem modUnit_privateMode : (modUnit k f s).privateMode = s.privateMode := rfl
@[simp] theorem modUnit_retained : (modUnit k f s).retained = s.retained := rfl
@[simp] theorem modUnit_startKind : (modUnit k f s).startKind = s.startKind := rfl
@[simp] theorem modUnit_keys : (modUnit k f s).keys = s.keys := rfl
@[simp] theorem modUnit_kept : (modUnit k f s).kept = s.kept := rfl
@[simp] theorem modUnit_keptB : (modUnit k f s).keptB = s.keptB := rfl
@[simp] theorem modUnit_freqs : (modUnit k f s).freqs = s.freqs := rfl
@[simp] theorem modUnit_crossings : (modUnit k f s).crossings = s.crossings := rfl
@[simp] theorem modUnit_turn : (modUnit k f s).turn = s.turn := rfl
@[simp] theorem modUnit_screens : (modUnit k f s).screens = s.screens := rfl
@[simp] theorem modUnit_undefinedCases : (modUnit k f s).undefinedCases = s.undefinedCases := rfl
@[simp] theorem modUnit_objs : (modUnit k f s).objs = s.objs := rfl
@[simp] theorem modUnit_output : (modUnit k f s).output = s.output := rfl
@[simp] theorem modUnit_free : (modUnit k f s).free = s.free := rfl
@[simp] theorem modUnit_pending : (modUnit k f s).pending = s.pending := rfl
end

/-! ### modFmax -/
section
variable (k : Nat) (f : FmaxRec → FmaxRec)
@[simp] theorem modFmax_variant : (modFmax k f s).variant = s.variant := rfl
@[simp] theorem modFmax_now : (modFmax k f s).now = s.now := rfl
@[simp] theorem modFmax_ptStarted : (modFmax k f s).ptStarted = s.ptStarted := rfl
@[simp] theorem modFmax_anchorDie : (modFmax k f s).anchorDie = s.anchorDie := rfl
@[simp] theorem modFmax_standby : (modFmax k f s).standby = s.standby := rfl
@[simp] theorem modFmax_takenOver : (modFmax k f s).takenOver = s.takenOver := rfl
@[simp] theorem modFmax_anchorReady : (modFmax k f s).anchorReady = s.anchorReady := rfl
@[simp] theorem modFmax_reference : (modFmax k f s).reference = s.reference := rfl
@[simp] theorem modFmax_referenceLostAt : (modFmax k f s).referenceLostAt = s.referenceLostAt := rfl
@[simp] theorem modFmax_keepers : (modFmax k f s).keepers = s.keepers := rfl
@[simp] theorem modFmax_seqr : (modFmax k f s).seqr = s.seqr := rfl
@[simp] theorem modFmax_dies : (modFmax k f s).dies = s.dies := rfl
@[simp] theorem modFmax_fields : (modFmax k f s).fields = s.fields := rfl
@[simp] theorem modFmax_units : (modFmax k f s).units = s.units := rfl
theorem modFmax_fmax : (modFmax k f s).fmax = tmod s.fmax k FmaxRec.manufacture f := rfl
@[simp] theorem modFmax_lcnMap : (modFmax k f s).lcnMap = s.lcnMap := rfl
@[simp] theorem modFmax_clusterMap : (modFmax k f s).clusterMap = s.clusterMap := rfl
@[simp] theorem modFmax_lanes : (modFmax k f s).lanes = s.lanes := rfl
@[simp] theorem modFmax_channels : (modFmax k f s).channels = s.channels := rfl
@[simp] theorem modFmax_zports : (modFmax k f s).zports = s.zports := rfl
@[simp] theorem modFmax_lostSlots : (modFmax k f s).lostSlots = s.lostSlots := rfl
@[simp] theorem modFmax_unreachable : (modFmax k f s).unreachable = s.unreachable := rfl
@[simp] theorem modFmax_lcns : (modFmax k f s).lcns = s.lcns := rfl
@[simp] theorem modFmax_cores : (modFmax k f s).cores = s.cores := rfl
@[simp] theorem modFmax_clusters : (modFmax k f s).clusters = s.clusters := rfl
@[simp] theorem modFmax_slices : (modFmax k f s).slices = s.slices := rfl
@[simp] theorem modFmax_generations : (modFmax k f s).generations = s.generations := rfl
@[simp] theorem modFmax_recomputes : (modFmax k f s).recomputes = s.recomputes := rfl
@[simp] theorem modFmax_tieBreaks : (modFmax k f s).tieBreaks = s.tieBreaks := rfl
@[simp] theorem modFmax_thirds : (modFmax k f s).thirds = s.thirds := rfl
@[simp] theorem modFmax_transfers : (modFmax k f s).transfers = s.transfers := rfl
@[simp] theorem modFmax_follows : (modFmax k f s).follows = s.follows := rfl
@[simp] theorem modFmax_inFlight : (modFmax k f s).inFlight = s.inFlight := rfl
@[simp] theorem modFmax_dram : (modFmax k f s).dram = s.dram := rfl
@[simp] theorem modFmax_copies : (modFmax k f s).copies = s.copies := rfl
@[simp] theorem modFmax_changes : (modFmax k f s).changes = s.changes := rfl
@[simp] theorem modFmax_changeHold : (modFmax k f s).changeHold = s.changeHold := rfl
@[simp] theorem modFmax_nextChange : (modFmax k f s).nextChange = s.nextChange := rfl
@[simp] theorem modFmax_commits : (modFmax k f s).commits = s.commits := rfl
@[simp] theorem modFmax_nextCommit : (modFmax k f s).nextCommit = s.nextCommit := rfl
@[simp] theorem modFmax_ripcord : (modFmax k f s).ripcord = s.ripcord := rfl
@[simp] theorem modFmax_model : (modFmax k f s).model = s.model := rfl
@[simp] theorem modFmax_modelIndex : (modFmax k f s).modelIndex = s.modelIndex := rfl
@[simp] theorem modFmax_modelFlag : (modFmax k f s).modelFlag = s.modelFlag := rfl
@[simp] theorem modFmax_qualifying : (modFmax k f s).qualifying = s.qualifying := rfl
@[simp] theorem modFmax_powerHistory : (modFmax k f s).powerHistory = s.powerHistory := rfl
@[simp] theorem modFmax_powerLowFrom : (modFmax k f s).powerLowFrom = s.powerLowFrom := rfl
@[simp] theorem modFmax_powerOverFrom : (modFmax k f s).powerOverFrom = s.powerOverFrom := rfl
@[simp] theorem modFmax_powerStack : (modFmax k f s).powerStack = s.powerStack := rfl
@[simp] theorem modFmax_packageReset : (modFmax k f s).packageReset = s.packageReset := rfl
@[simp] theorem modFmax_paths : (modFmax k f s).paths = s.paths := rfl
@[simp] theorem modFmax_forced : (modFmax k f s).forced = s.forced := rfl
@[simp] theorem modFmax_ports : (modFmax k f s).ports = s.ports := rfl
@[simp] theorem modFmax_mailboxes : (modFmax k f s).mailboxes = s.mailboxes := rfl
@[simp] theorem modFmax_requests : (modFmax k f s).requests = s.requests := rfl
@[simp] theorem modFmax_snapshot : (modFmax k f s).snapshot = s.snapshot := rfl
@[simp] theorem modFmax_snapshots : (modFmax k f s).snapshots = s.snapshots := rfl
@[simp] theorem modFmax_traces : (modFmax k f s).traces = s.traces := rfl
@[simp] theorem modFmax_views : (modFmax k f s).views = s.views := rfl
@[simp] theorem modFmax_images : (modFmax k f s).images = s.images := rfl
@[simp] theorem modFmax_imageInUse : (modFmax k f s).imageInUse = s.imageInUse := rfl
@[simp] theorem modFmax_imageFallback : (modFmax k f s).imageFallback = s.imageFallback := rfl
@[simp] theorem modFmax_trialReached : (modFmax k f s).trialReached = s.trialReached := rfl
@[simp] theorem modFmax_privateMode : (modFmax k f s).privateMode = s.privateMode := rfl
@[simp] theorem modFmax_retained : (modFmax k f s).retained = s.retained := rfl
@[simp] theorem modFmax_startKind : (modFmax k f s).startKind = s.startKind := rfl
@[simp] theorem modFmax_keys : (modFmax k f s).keys = s.keys := rfl
@[simp] theorem modFmax_kept : (modFmax k f s).kept = s.kept := rfl
@[simp] theorem modFmax_keptB : (modFmax k f s).keptB = s.keptB := rfl
@[simp] theorem modFmax_freqs : (modFmax k f s).freqs = s.freqs := rfl
@[simp] theorem modFmax_crossings : (modFmax k f s).crossings = s.crossings := rfl
@[simp] theorem modFmax_turn : (modFmax k f s).turn = s.turn := rfl
@[simp] theorem modFmax_screens : (modFmax k f s).screens = s.screens := rfl
@[simp] theorem modFmax_undefinedCases : (modFmax k f s).undefinedCases = s.undefinedCases := rfl
@[simp] theorem modFmax_objs : (modFmax k f s).objs = s.objs := rfl
@[simp] theorem modFmax_output : (modFmax k f s).output = s.output := rfl
@[simp] theorem modFmax_free : (modFmax k f s).free = s.free := rfl
@[simp] theorem modFmax_pending : (modFmax k f s).pending = s.pending := rfl
end

/-! ### modCore -/
section
variable (k : Nat) (f : Core → Core)
@[simp] theorem modCore_variant : (modCore k f s).variant = s.variant := rfl
@[simp] theorem modCore_now : (modCore k f s).now = s.now := rfl
@[simp] theorem modCore_ptStarted : (modCore k f s).ptStarted = s.ptStarted := rfl
@[simp] theorem modCore_anchorDie : (modCore k f s).anchorDie = s.anchorDie := rfl
@[simp] theorem modCore_standby : (modCore k f s).standby = s.standby := rfl
@[simp] theorem modCore_takenOver : (modCore k f s).takenOver = s.takenOver := rfl
@[simp] theorem modCore_anchorReady : (modCore k f s).anchorReady = s.anchorReady := rfl
@[simp] theorem modCore_reference : (modCore k f s).reference = s.reference := rfl
@[simp] theorem modCore_referenceLostAt : (modCore k f s).referenceLostAt = s.referenceLostAt := rfl
@[simp] theorem modCore_keepers : (modCore k f s).keepers = s.keepers := rfl
@[simp] theorem modCore_seqr : (modCore k f s).seqr = s.seqr := rfl
@[simp] theorem modCore_dies : (modCore k f s).dies = s.dies := rfl
@[simp] theorem modCore_fields : (modCore k f s).fields = s.fields := rfl
@[simp] theorem modCore_units : (modCore k f s).units = s.units := rfl
@[simp] theorem modCore_fmax : (modCore k f s).fmax = s.fmax := rfl
@[simp] theorem modCore_lcnMap : (modCore k f s).lcnMap = s.lcnMap := rfl
@[simp] theorem modCore_clusterMap : (modCore k f s).clusterMap = s.clusterMap := rfl
@[simp] theorem modCore_lanes : (modCore k f s).lanes = s.lanes := rfl
@[simp] theorem modCore_channels : (modCore k f s).channels = s.channels := rfl
@[simp] theorem modCore_zports : (modCore k f s).zports = s.zports := rfl
@[simp] theorem modCore_lostSlots : (modCore k f s).lostSlots = s.lostSlots := rfl
@[simp] theorem modCore_unreachable : (modCore k f s).unreachable = s.unreachable := rfl
@[simp] theorem modCore_lcns : (modCore k f s).lcns = s.lcns := rfl
theorem modCore_cores : (modCore k f s).cores = tmod s.cores k Core.empty f := rfl
@[simp] theorem modCore_clusters : (modCore k f s).clusters = s.clusters := rfl
@[simp] theorem modCore_slices : (modCore k f s).slices = s.slices := rfl
@[simp] theorem modCore_generations : (modCore k f s).generations = s.generations := rfl
@[simp] theorem modCore_recomputes : (modCore k f s).recomputes = s.recomputes := rfl
@[simp] theorem modCore_tieBreaks : (modCore k f s).tieBreaks = s.tieBreaks := rfl
@[simp] theorem modCore_thirds : (modCore k f s).thirds = s.thirds := rfl
@[simp] theorem modCore_transfers : (modCore k f s).transfers = s.transfers := rfl
@[simp] theorem modCore_follows : (modCore k f s).follows = s.follows := rfl
@[simp] theorem modCore_inFlight : (modCore k f s).inFlight = s.inFlight := rfl
@[simp] theorem modCore_dram : (modCore k f s).dram = s.dram := rfl
@[simp] theorem modCore_copies : (modCore k f s).copies = s.copies := rfl
@[simp] theorem modCore_changes : (modCore k f s).changes = s.changes := rfl
@[simp] theorem modCore_changeHold : (modCore k f s).changeHold = s.changeHold := rfl
@[simp] theorem modCore_nextChange : (modCore k f s).nextChange = s.nextChange := rfl
@[simp] theorem modCore_commits : (modCore k f s).commits = s.commits := rfl
@[simp] theorem modCore_nextCommit : (modCore k f s).nextCommit = s.nextCommit := rfl
@[simp] theorem modCore_ripcord : (modCore k f s).ripcord = s.ripcord := rfl
@[simp] theorem modCore_model : (modCore k f s).model = s.model := rfl
@[simp] theorem modCore_modelIndex : (modCore k f s).modelIndex = s.modelIndex := rfl
@[simp] theorem modCore_modelFlag : (modCore k f s).modelFlag = s.modelFlag := rfl
@[simp] theorem modCore_qualifying : (modCore k f s).qualifying = s.qualifying := rfl
@[simp] theorem modCore_powerHistory : (modCore k f s).powerHistory = s.powerHistory := rfl
@[simp] theorem modCore_powerLowFrom : (modCore k f s).powerLowFrom = s.powerLowFrom := rfl
@[simp] theorem modCore_powerOverFrom : (modCore k f s).powerOverFrom = s.powerOverFrom := rfl
@[simp] theorem modCore_powerStack : (modCore k f s).powerStack = s.powerStack := rfl
@[simp] theorem modCore_packageReset : (modCore k f s).packageReset = s.packageReset := rfl
@[simp] theorem modCore_paths : (modCore k f s).paths = s.paths := rfl
@[simp] theorem modCore_forced : (modCore k f s).forced = s.forced := rfl
@[simp] theorem modCore_ports : (modCore k f s).ports = s.ports := rfl
@[simp] theorem modCore_mailboxes : (modCore k f s).mailboxes = s.mailboxes := rfl
@[simp] theorem modCore_requests : (modCore k f s).requests = s.requests := rfl
@[simp] theorem modCore_snapshot : (modCore k f s).snapshot = s.snapshot := rfl
@[simp] theorem modCore_snapshots : (modCore k f s).snapshots = s.snapshots := rfl
@[simp] theorem modCore_traces : (modCore k f s).traces = s.traces := rfl
@[simp] theorem modCore_views : (modCore k f s).views = s.views := rfl
@[simp] theorem modCore_images : (modCore k f s).images = s.images := rfl
@[simp] theorem modCore_imageInUse : (modCore k f s).imageInUse = s.imageInUse := rfl
@[simp] theorem modCore_imageFallback : (modCore k f s).imageFallback = s.imageFallback := rfl
@[simp] theorem modCore_trialReached : (modCore k f s).trialReached = s.trialReached := rfl
@[simp] theorem modCore_privateMode : (modCore k f s).privateMode = s.privateMode := rfl
@[simp] theorem modCore_retained : (modCore k f s).retained = s.retained := rfl
@[simp] theorem modCore_startKind : (modCore k f s).startKind = s.startKind := rfl
@[simp] theorem modCore_keys : (modCore k f s).keys = s.keys := rfl
@[simp] theorem modCore_kept : (modCore k f s).kept = s.kept := rfl
@[simp] theorem modCore_keptB : (modCore k f s).keptB = s.keptB := rfl
@[simp] theorem modCore_freqs : (modCore k f s).freqs = s.freqs := rfl
@[simp] theorem modCore_crossings : (modCore k f s).crossings = s.crossings := rfl
@[simp] theorem modCore_turn : (modCore k f s).turn = s.turn := rfl
@[simp] theorem modCore_screens : (modCore k f s).screens = s.screens := rfl
@[simp] theorem modCore_undefinedCases : (modCore k f s).undefinedCases = s.undefinedCases := rfl
@[simp] theorem modCore_objs : (modCore k f s).objs = s.objs := rfl
@[simp] theorem modCore_output : (modCore k f s).output = s.output := rfl
@[simp] theorem modCore_free : (modCore k f s).free = s.free := rfl
@[simp] theorem modCore_pending : (modCore k f s).pending = s.pending := rfl
end

/-! ### modCluster -/
section
variable (k : Nat) (f : Cluster → Cluster)
@[simp] theorem modCluster_variant : (modCluster k f s).variant = s.variant := rfl
@[simp] theorem modCluster_now : (modCluster k f s).now = s.now := rfl
@[simp] theorem modCluster_ptStarted : (modCluster k f s).ptStarted = s.ptStarted := rfl
@[simp] theorem modCluster_anchorDie : (modCluster k f s).anchorDie = s.anchorDie := rfl
@[simp] theorem modCluster_standby : (modCluster k f s).standby = s.standby := rfl
@[simp] theorem modCluster_takenOver : (modCluster k f s).takenOver = s.takenOver := rfl
@[simp] theorem modCluster_anchorReady : (modCluster k f s).anchorReady = s.anchorReady := rfl
@[simp] theorem modCluster_reference : (modCluster k f s).reference = s.reference := rfl
@[simp] theorem modCluster_referenceLostAt : (modCluster k f s).referenceLostAt = s.referenceLostAt := rfl
@[simp] theorem modCluster_keepers : (modCluster k f s).keepers = s.keepers := rfl
@[simp] theorem modCluster_seqr : (modCluster k f s).seqr = s.seqr := rfl
@[simp] theorem modCluster_dies : (modCluster k f s).dies = s.dies := rfl
@[simp] theorem modCluster_fields : (modCluster k f s).fields = s.fields := rfl
@[simp] theorem modCluster_units : (modCluster k f s).units = s.units := rfl
@[simp] theorem modCluster_fmax : (modCluster k f s).fmax = s.fmax := rfl
@[simp] theorem modCluster_lcnMap : (modCluster k f s).lcnMap = s.lcnMap := rfl
@[simp] theorem modCluster_clusterMap : (modCluster k f s).clusterMap = s.clusterMap := rfl
@[simp] theorem modCluster_lanes : (modCluster k f s).lanes = s.lanes := rfl
@[simp] theorem modCluster_channels : (modCluster k f s).channels = s.channels := rfl
@[simp] theorem modCluster_zports : (modCluster k f s).zports = s.zports := rfl
@[simp] theorem modCluster_lostSlots : (modCluster k f s).lostSlots = s.lostSlots := rfl
@[simp] theorem modCluster_unreachable : (modCluster k f s).unreachable = s.unreachable := rfl
@[simp] theorem modCluster_lcns : (modCluster k f s).lcns = s.lcns := rfl
@[simp] theorem modCluster_cores : (modCluster k f s).cores = s.cores := rfl
theorem modCluster_clusters : (modCluster k f s).clusters = tmod s.clusters k Cluster.empty f := rfl
@[simp] theorem modCluster_slices : (modCluster k f s).slices = s.slices := rfl
@[simp] theorem modCluster_generations : (modCluster k f s).generations = s.generations := rfl
@[simp] theorem modCluster_recomputes : (modCluster k f s).recomputes = s.recomputes := rfl
@[simp] theorem modCluster_tieBreaks : (modCluster k f s).tieBreaks = s.tieBreaks := rfl
@[simp] theorem modCluster_thirds : (modCluster k f s).thirds = s.thirds := rfl
@[simp] theorem modCluster_transfers : (modCluster k f s).transfers = s.transfers := rfl
@[simp] theorem modCluster_follows : (modCluster k f s).follows = s.follows := rfl
@[simp] theorem modCluster_inFlight : (modCluster k f s).inFlight = s.inFlight := rfl
@[simp] theorem modCluster_dram : (modCluster k f s).dram = s.dram := rfl
@[simp] theorem modCluster_copies : (modCluster k f s).copies = s.copies := rfl
@[simp] theorem modCluster_changes : (modCluster k f s).changes = s.changes := rfl
@[simp] theorem modCluster_changeHold : (modCluster k f s).changeHold = s.changeHold := rfl
@[simp] theorem modCluster_nextChange : (modCluster k f s).nextChange = s.nextChange := rfl
@[simp] theorem modCluster_commits : (modCluster k f s).commits = s.commits := rfl
@[simp] theorem modCluster_nextCommit : (modCluster k f s).nextCommit = s.nextCommit := rfl
@[simp] theorem modCluster_ripcord : (modCluster k f s).ripcord = s.ripcord := rfl
@[simp] theorem modCluster_model : (modCluster k f s).model = s.model := rfl
@[simp] theorem modCluster_modelIndex : (modCluster k f s).modelIndex = s.modelIndex := rfl
@[simp] theorem modCluster_modelFlag : (modCluster k f s).modelFlag = s.modelFlag := rfl
@[simp] theorem modCluster_qualifying : (modCluster k f s).qualifying = s.qualifying := rfl
@[simp] theorem modCluster_powerHistory : (modCluster k f s).powerHistory = s.powerHistory := rfl
@[simp] theorem modCluster_powerLowFrom : (modCluster k f s).powerLowFrom = s.powerLowFrom := rfl
@[simp] theorem modCluster_powerOverFrom : (modCluster k f s).powerOverFrom = s.powerOverFrom := rfl
@[simp] theorem modCluster_powerStack : (modCluster k f s).powerStack = s.powerStack := rfl
@[simp] theorem modCluster_packageReset : (modCluster k f s).packageReset = s.packageReset := rfl
@[simp] theorem modCluster_paths : (modCluster k f s).paths = s.paths := rfl
@[simp] theorem modCluster_forced : (modCluster k f s).forced = s.forced := rfl
@[simp] theorem modCluster_ports : (modCluster k f s).ports = s.ports := rfl
@[simp] theorem modCluster_mailboxes : (modCluster k f s).mailboxes = s.mailboxes := rfl
@[simp] theorem modCluster_requests : (modCluster k f s).requests = s.requests := rfl
@[simp] theorem modCluster_snapshot : (modCluster k f s).snapshot = s.snapshot := rfl
@[simp] theorem modCluster_snapshots : (modCluster k f s).snapshots = s.snapshots := rfl
@[simp] theorem modCluster_traces : (modCluster k f s).traces = s.traces := rfl
@[simp] theorem modCluster_views : (modCluster k f s).views = s.views := rfl
@[simp] theorem modCluster_images : (modCluster k f s).images = s.images := rfl
@[simp] theorem modCluster_imageInUse : (modCluster k f s).imageInUse = s.imageInUse := rfl
@[simp] theorem modCluster_imageFallback : (modCluster k f s).imageFallback = s.imageFallback := rfl
@[simp] theorem modCluster_trialReached : (modCluster k f s).trialReached = s.trialReached := rfl
@[simp] theorem modCluster_privateMode : (modCluster k f s).privateMode = s.privateMode := rfl
@[simp] theorem modCluster_retained : (modCluster k f s).retained = s.retained := rfl
@[simp] theorem modCluster_startKind : (modCluster k f s).startKind = s.startKind := rfl
@[simp] theorem modCluster_keys : (modCluster k f s).keys = s.keys := rfl
@[simp] theorem modCluster_kept : (modCluster k f s).kept = s.kept := rfl
@[simp] theorem modCluster_keptB : (modCluster k f s).keptB = s.keptB := rfl
@[simp] theorem modCluster_freqs : (modCluster k f s).freqs = s.freqs := rfl
@[simp] theorem modCluster_crossings : (modCluster k f s).crossings = s.crossings := rfl
@[simp] theorem modCluster_turn : (modCluster k f s).turn = s.turn := rfl
@[simp] theorem modCluster_screens : (modCluster k f s).screens = s.screens := rfl
@[simp] theorem modCluster_undefinedCases : (modCluster k f s).undefinedCases = s.undefinedCases := rfl
@[simp] theorem modCluster_objs : (modCluster k f s).objs = s.objs := rfl
@[simp] theorem modCluster_output : (modCluster k f s).output = s.output := rfl
@[simp] theorem modCluster_free : (modCluster k f s).free = s.free := rfl
@[simp] theorem modCluster_pending : (modCluster k f s).pending = s.pending := rfl
end

/-! ### modLcn -/
section
variable (k : Nat) (f : LcnRec → LcnRec)
@[simp] theorem modLcn_variant : (modLcn k f s).variant = s.variant := rfl
@[simp] theorem modLcn_now : (modLcn k f s).now = s.now := rfl
@[simp] theorem modLcn_ptStarted : (modLcn k f s).ptStarted = s.ptStarted := rfl
@[simp] theorem modLcn_anchorDie : (modLcn k f s).anchorDie = s.anchorDie := rfl
@[simp] theorem modLcn_standby : (modLcn k f s).standby = s.standby := rfl
@[simp] theorem modLcn_takenOver : (modLcn k f s).takenOver = s.takenOver := rfl
@[simp] theorem modLcn_anchorReady : (modLcn k f s).anchorReady = s.anchorReady := rfl
@[simp] theorem modLcn_reference : (modLcn k f s).reference = s.reference := rfl
@[simp] theorem modLcn_referenceLostAt : (modLcn k f s).referenceLostAt = s.referenceLostAt := rfl
@[simp] theorem modLcn_keepers : (modLcn k f s).keepers = s.keepers := rfl
@[simp] theorem modLcn_seqr : (modLcn k f s).seqr = s.seqr := rfl
@[simp] theorem modLcn_dies : (modLcn k f s).dies = s.dies := rfl
@[simp] theorem modLcn_fields : (modLcn k f s).fields = s.fields := rfl
@[simp] theorem modLcn_units : (modLcn k f s).units = s.units := rfl
@[simp] theorem modLcn_fmax : (modLcn k f s).fmax = s.fmax := rfl
@[simp] theorem modLcn_lcnMap : (modLcn k f s).lcnMap = s.lcnMap := rfl
@[simp] theorem modLcn_clusterMap : (modLcn k f s).clusterMap = s.clusterMap := rfl
@[simp] theorem modLcn_lanes : (modLcn k f s).lanes = s.lanes := rfl
@[simp] theorem modLcn_channels : (modLcn k f s).channels = s.channels := rfl
@[simp] theorem modLcn_zports : (modLcn k f s).zports = s.zports := rfl
@[simp] theorem modLcn_lostSlots : (modLcn k f s).lostSlots = s.lostSlots := rfl
@[simp] theorem modLcn_unreachable : (modLcn k f s).unreachable = s.unreachable := rfl
theorem modLcn_lcns : (modLcn k f s).lcns = tmod s.lcns k LcnRec.empty f := rfl
@[simp] theorem modLcn_cores : (modLcn k f s).cores = s.cores := rfl
@[simp] theorem modLcn_clusters : (modLcn k f s).clusters = s.clusters := rfl
@[simp] theorem modLcn_slices : (modLcn k f s).slices = s.slices := rfl
@[simp] theorem modLcn_generations : (modLcn k f s).generations = s.generations := rfl
@[simp] theorem modLcn_recomputes : (modLcn k f s).recomputes = s.recomputes := rfl
@[simp] theorem modLcn_tieBreaks : (modLcn k f s).tieBreaks = s.tieBreaks := rfl
@[simp] theorem modLcn_thirds : (modLcn k f s).thirds = s.thirds := rfl
@[simp] theorem modLcn_transfers : (modLcn k f s).transfers = s.transfers := rfl
@[simp] theorem modLcn_follows : (modLcn k f s).follows = s.follows := rfl
@[simp] theorem modLcn_inFlight : (modLcn k f s).inFlight = s.inFlight := rfl
@[simp] theorem modLcn_dram : (modLcn k f s).dram = s.dram := rfl
@[simp] theorem modLcn_copies : (modLcn k f s).copies = s.copies := rfl
@[simp] theorem modLcn_changes : (modLcn k f s).changes = s.changes := rfl
@[simp] theorem modLcn_changeHold : (modLcn k f s).changeHold = s.changeHold := rfl
@[simp] theorem modLcn_nextChange : (modLcn k f s).nextChange = s.nextChange := rfl
@[simp] theorem modLcn_commits : (modLcn k f s).commits = s.commits := rfl
@[simp] theorem modLcn_nextCommit : (modLcn k f s).nextCommit = s.nextCommit := rfl
@[simp] theorem modLcn_ripcord : (modLcn k f s).ripcord = s.ripcord := rfl
@[simp] theorem modLcn_model : (modLcn k f s).model = s.model := rfl
@[simp] theorem modLcn_modelIndex : (modLcn k f s).modelIndex = s.modelIndex := rfl
@[simp] theorem modLcn_modelFlag : (modLcn k f s).modelFlag = s.modelFlag := rfl
@[simp] theorem modLcn_qualifying : (modLcn k f s).qualifying = s.qualifying := rfl
@[simp] theorem modLcn_powerHistory : (modLcn k f s).powerHistory = s.powerHistory := rfl
@[simp] theorem modLcn_powerLowFrom : (modLcn k f s).powerLowFrom = s.powerLowFrom := rfl
@[simp] theorem modLcn_powerOverFrom : (modLcn k f s).powerOverFrom = s.powerOverFrom := rfl
@[simp] theorem modLcn_powerStack : (modLcn k f s).powerStack = s.powerStack := rfl
@[simp] theorem modLcn_packageReset : (modLcn k f s).packageReset = s.packageReset := rfl
@[simp] theorem modLcn_paths : (modLcn k f s).paths = s.paths := rfl
@[simp] theorem modLcn_forced : (modLcn k f s).forced = s.forced := rfl
@[simp] theorem modLcn_ports : (modLcn k f s).ports = s.ports := rfl
@[simp] theorem modLcn_mailboxes : (modLcn k f s).mailboxes = s.mailboxes := rfl
@[simp] theorem modLcn_requests : (modLcn k f s).requests = s.requests := rfl
@[simp] theorem modLcn_snapshot : (modLcn k f s).snapshot = s.snapshot := rfl
@[simp] theorem modLcn_snapshots : (modLcn k f s).snapshots = s.snapshots := rfl
@[simp] theorem modLcn_traces : (modLcn k f s).traces = s.traces := rfl
@[simp] theorem modLcn_views : (modLcn k f s).views = s.views := rfl
@[simp] theorem modLcn_images : (modLcn k f s).images = s.images := rfl
@[simp] theorem modLcn_imageInUse : (modLcn k f s).imageInUse = s.imageInUse := rfl
@[simp] theorem modLcn_imageFallback : (modLcn k f s).imageFallback = s.imageFallback := rfl
@[simp] theorem modLcn_trialReached : (modLcn k f s).trialReached = s.trialReached := rfl
@[simp] theorem modLcn_privateMode : (modLcn k f s).privateMode = s.privateMode := rfl
@[simp] theorem modLcn_retained : (modLcn k f s).retained = s.retained := rfl
@[simp] theorem modLcn_startKind : (modLcn k f s).startKind = s.startKind := rfl
@[simp] theorem modLcn_keys : (modLcn k f s).keys = s.keys := rfl
@[simp] theorem modLcn_kept : (modLcn k f s).kept = s.kept := rfl
@[simp] theorem modLcn_keptB : (modLcn k f s).keptB = s.keptB := rfl
@[simp] theorem modLcn_freqs : (modLcn k f s).freqs = s.freqs := rfl
@[simp] theorem modLcn_crossings : (modLcn k f s).crossings = s.crossings := rfl
@[simp] theorem modLcn_turn : (modLcn k f s).turn = s.turn := rfl
@[simp] theorem modLcn_screens : (modLcn k f s).screens = s.screens := rfl
@[simp] theorem modLcn_undefinedCases : (modLcn k f s).undefinedCases = s.undefinedCases := rfl
@[simp] theorem modLcn_objs : (modLcn k f s).objs = s.objs := rfl
@[simp] theorem modLcn_output : (modLcn k f s).output = s.output := rfl
@[simp] theorem modLcn_free : (modLcn k f s).free = s.free := rfl
@[simp] theorem modLcn_pending : (modLcn k f s).pending = s.pending := rfl
end

/-! ### modSlice -/
section
variable (k : Nat) (f : Slice → Slice)
@[simp] theorem modSlice_variant : (modSlice k f s).variant = s.variant := rfl
@[simp] theorem modSlice_now : (modSlice k f s).now = s.now := rfl
@[simp] theorem modSlice_ptStarted : (modSlice k f s).ptStarted = s.ptStarted := rfl
@[simp] theorem modSlice_anchorDie : (modSlice k f s).anchorDie = s.anchorDie := rfl
@[simp] theorem modSlice_standby : (modSlice k f s).standby = s.standby := rfl
@[simp] theorem modSlice_takenOver : (modSlice k f s).takenOver = s.takenOver := rfl
@[simp] theorem modSlice_anchorReady : (modSlice k f s).anchorReady = s.anchorReady := rfl
@[simp] theorem modSlice_reference : (modSlice k f s).reference = s.reference := rfl
@[simp] theorem modSlice_referenceLostAt : (modSlice k f s).referenceLostAt = s.referenceLostAt := rfl
@[simp] theorem modSlice_keepers : (modSlice k f s).keepers = s.keepers := rfl
@[simp] theorem modSlice_seqr : (modSlice k f s).seqr = s.seqr := rfl
@[simp] theorem modSlice_dies : (modSlice k f s).dies = s.dies := rfl
@[simp] theorem modSlice_fields : (modSlice k f s).fields = s.fields := rfl
@[simp] theorem modSlice_units : (modSlice k f s).units = s.units := rfl
@[simp] theorem modSlice_fmax : (modSlice k f s).fmax = s.fmax := rfl
@[simp] theorem modSlice_lcnMap : (modSlice k f s).lcnMap = s.lcnMap := rfl
@[simp] theorem modSlice_clusterMap : (modSlice k f s).clusterMap = s.clusterMap := rfl
@[simp] theorem modSlice_lanes : (modSlice k f s).lanes = s.lanes := rfl
@[simp] theorem modSlice_channels : (modSlice k f s).channels = s.channels := rfl
@[simp] theorem modSlice_zports : (modSlice k f s).zports = s.zports := rfl
@[simp] theorem modSlice_lostSlots : (modSlice k f s).lostSlots = s.lostSlots := rfl
@[simp] theorem modSlice_unreachable : (modSlice k f s).unreachable = s.unreachable := rfl
@[simp] theorem modSlice_lcns : (modSlice k f s).lcns = s.lcns := rfl
@[simp] theorem modSlice_cores : (modSlice k f s).cores = s.cores := rfl
@[simp] theorem modSlice_clusters : (modSlice k f s).clusters = s.clusters := rfl
theorem modSlice_slices : (modSlice k f s).slices = tupd s.slices k f := rfl
@[simp] theorem modSlice_generations : (modSlice k f s).generations = s.generations := rfl
@[simp] theorem modSlice_recomputes : (modSlice k f s).recomputes = s.recomputes := rfl
@[simp] theorem modSlice_tieBreaks : (modSlice k f s).tieBreaks = s.tieBreaks := rfl
@[simp] theorem modSlice_thirds : (modSlice k f s).thirds = s.thirds := rfl
@[simp] theorem modSlice_transfers : (modSlice k f s).transfers = s.transfers := rfl
@[simp] theorem modSlice_follows : (modSlice k f s).follows = s.follows := rfl
@[simp] theorem modSlice_inFlight : (modSlice k f s).inFlight = s.inFlight := rfl
@[simp] theorem modSlice_dram : (modSlice k f s).dram = s.dram := rfl
@[simp] theorem modSlice_copies : (modSlice k f s).copies = s.copies := rfl
@[simp] theorem modSlice_changes : (modSlice k f s).changes = s.changes := rfl
@[simp] theorem modSlice_changeHold : (modSlice k f s).changeHold = s.changeHold := rfl
@[simp] theorem modSlice_nextChange : (modSlice k f s).nextChange = s.nextChange := rfl
@[simp] theorem modSlice_commits : (modSlice k f s).commits = s.commits := rfl
@[simp] theorem modSlice_nextCommit : (modSlice k f s).nextCommit = s.nextCommit := rfl
@[simp] theorem modSlice_ripcord : (modSlice k f s).ripcord = s.ripcord := rfl
@[simp] theorem modSlice_model : (modSlice k f s).model = s.model := rfl
@[simp] theorem modSlice_modelIndex : (modSlice k f s).modelIndex = s.modelIndex := rfl
@[simp] theorem modSlice_modelFlag : (modSlice k f s).modelFlag = s.modelFlag := rfl
@[simp] theorem modSlice_qualifying : (modSlice k f s).qualifying = s.qualifying := rfl
@[simp] theorem modSlice_powerHistory : (modSlice k f s).powerHistory = s.powerHistory := rfl
@[simp] theorem modSlice_powerLowFrom : (modSlice k f s).powerLowFrom = s.powerLowFrom := rfl
@[simp] theorem modSlice_powerOverFrom : (modSlice k f s).powerOverFrom = s.powerOverFrom := rfl
@[simp] theorem modSlice_powerStack : (modSlice k f s).powerStack = s.powerStack := rfl
@[simp] theorem modSlice_packageReset : (modSlice k f s).packageReset = s.packageReset := rfl
@[simp] theorem modSlice_paths : (modSlice k f s).paths = s.paths := rfl
@[simp] theorem modSlice_forced : (modSlice k f s).forced = s.forced := rfl
@[simp] theorem modSlice_ports : (modSlice k f s).ports = s.ports := rfl
@[simp] theorem modSlice_mailboxes : (modSlice k f s).mailboxes = s.mailboxes := rfl
@[simp] theorem modSlice_requests : (modSlice k f s).requests = s.requests := rfl
@[simp] theorem modSlice_snapshot : (modSlice k f s).snapshot = s.snapshot := rfl
@[simp] theorem modSlice_snapshots : (modSlice k f s).snapshots = s.snapshots := rfl
@[simp] theorem modSlice_traces : (modSlice k f s).traces = s.traces := rfl
@[simp] theorem modSlice_views : (modSlice k f s).views = s.views := rfl
@[simp] theorem modSlice_images : (modSlice k f s).images = s.images := rfl
@[simp] theorem modSlice_imageInUse : (modSlice k f s).imageInUse = s.imageInUse := rfl
@[simp] theorem modSlice_imageFallback : (modSlice k f s).imageFallback = s.imageFallback := rfl
@[simp] theorem modSlice_trialReached : (modSlice k f s).trialReached = s.trialReached := rfl
@[simp] theorem modSlice_privateMode : (modSlice k f s).privateMode = s.privateMode := rfl
@[simp] theorem modSlice_retained : (modSlice k f s).retained = s.retained := rfl
@[simp] theorem modSlice_startKind : (modSlice k f s).startKind = s.startKind := rfl
@[simp] theorem modSlice_keys : (modSlice k f s).keys = s.keys := rfl
@[simp] theorem modSlice_kept : (modSlice k f s).kept = s.kept := rfl
@[simp] theorem modSlice_keptB : (modSlice k f s).keptB = s.keptB := rfl
@[simp] theorem modSlice_freqs : (modSlice k f s).freqs = s.freqs := rfl
@[simp] theorem modSlice_crossings : (modSlice k f s).crossings = s.crossings := rfl
@[simp] theorem modSlice_turn : (modSlice k f s).turn = s.turn := rfl
@[simp] theorem modSlice_screens : (modSlice k f s).screens = s.screens := rfl
@[simp] theorem modSlice_undefinedCases : (modSlice k f s).undefinedCases = s.undefinedCases := rfl
@[simp] theorem modSlice_objs : (modSlice k f s).objs = s.objs := rfl
@[simp] theorem modSlice_output : (modSlice k f s).output = s.output := rfl
@[simp] theorem modSlice_free : (modSlice k f s).free = s.free := rfl
@[simp] theorem modSlice_pending : (modSlice k f s).pending = s.pending := rfl
end

/-! ### setObj -/
section
variable (k : Nat) (v : Nat)
@[simp] theorem setObj_variant : (setObj k v s).variant = s.variant := rfl
@[simp] theorem setObj_now : (setObj k v s).now = s.now := rfl
@[simp] theorem setObj_ptStarted : (setObj k v s).ptStarted = s.ptStarted := rfl
@[simp] theorem setObj_anchorDie : (setObj k v s).anchorDie = s.anchorDie := rfl
@[simp] theorem setObj_standby : (setObj k v s).standby = s.standby := rfl
@[simp] theorem setObj_takenOver : (setObj k v s).takenOver = s.takenOver := rfl
@[simp] theorem setObj_anchorReady : (setObj k v s).anchorReady = s.anchorReady := rfl
@[simp] theorem setObj_reference : (setObj k v s).reference = s.reference := rfl
@[simp] theorem setObj_referenceLostAt : (setObj k v s).referenceLostAt = s.referenceLostAt := rfl
@[simp] theorem setObj_keepers : (setObj k v s).keepers = s.keepers := rfl
@[simp] theorem setObj_seqr : (setObj k v s).seqr = s.seqr := rfl
@[simp] theorem setObj_dies : (setObj k v s).dies = s.dies := rfl
@[simp] theorem setObj_fields : (setObj k v s).fields = s.fields := rfl
@[simp] theorem setObj_units : (setObj k v s).units = s.units := rfl
@[simp] theorem setObj_fmax : (setObj k v s).fmax = s.fmax := rfl
@[simp] theorem setObj_lcnMap : (setObj k v s).lcnMap = s.lcnMap := rfl
@[simp] theorem setObj_clusterMap : (setObj k v s).clusterMap = s.clusterMap := rfl
@[simp] theorem setObj_lanes : (setObj k v s).lanes = s.lanes := rfl
@[simp] theorem setObj_channels : (setObj k v s).channels = s.channels := rfl
@[simp] theorem setObj_zports : (setObj k v s).zports = s.zports := rfl
@[simp] theorem setObj_lostSlots : (setObj k v s).lostSlots = s.lostSlots := rfl
@[simp] theorem setObj_unreachable : (setObj k v s).unreachable = s.unreachable := rfl
@[simp] theorem setObj_lcns : (setObj k v s).lcns = s.lcns := rfl
@[simp] theorem setObj_cores : (setObj k v s).cores = s.cores := rfl
@[simp] theorem setObj_clusters : (setObj k v s).clusters = s.clusters := rfl
@[simp] theorem setObj_slices : (setObj k v s).slices = s.slices := rfl
@[simp] theorem setObj_generations : (setObj k v s).generations = s.generations := rfl
@[simp] theorem setObj_recomputes : (setObj k v s).recomputes = s.recomputes := rfl
@[simp] theorem setObj_tieBreaks : (setObj k v s).tieBreaks = s.tieBreaks := rfl
@[simp] theorem setObj_thirds : (setObj k v s).thirds = s.thirds := rfl
@[simp] theorem setObj_transfers : (setObj k v s).transfers = s.transfers := rfl
@[simp] theorem setObj_follows : (setObj k v s).follows = s.follows := rfl
@[simp] theorem setObj_inFlight : (setObj k v s).inFlight = s.inFlight := rfl
@[simp] theorem setObj_dram : (setObj k v s).dram = s.dram := rfl
@[simp] theorem setObj_copies : (setObj k v s).copies = s.copies := rfl
@[simp] theorem setObj_changes : (setObj k v s).changes = s.changes := rfl
@[simp] theorem setObj_changeHold : (setObj k v s).changeHold = s.changeHold := rfl
@[simp] theorem setObj_nextChange : (setObj k v s).nextChange = s.nextChange := rfl
@[simp] theorem setObj_commits : (setObj k v s).commits = s.commits := rfl
@[simp] theorem setObj_nextCommit : (setObj k v s).nextCommit = s.nextCommit := rfl
@[simp] theorem setObj_ripcord : (setObj k v s).ripcord = s.ripcord := rfl
@[simp] theorem setObj_model : (setObj k v s).model = s.model := rfl
@[simp] theorem setObj_modelIndex : (setObj k v s).modelIndex = s.modelIndex := rfl
@[simp] theorem setObj_modelFlag : (setObj k v s).modelFlag = s.modelFlag := rfl
@[simp] theorem setObj_qualifying : (setObj k v s).qualifying = s.qualifying := rfl
@[simp] theorem setObj_powerHistory : (setObj k v s).powerHistory = s.powerHistory := rfl
@[simp] theorem setObj_powerLowFrom : (setObj k v s).powerLowFrom = s.powerLowFrom := rfl
@[simp] theorem setObj_powerOverFrom : (setObj k v s).powerOverFrom = s.powerOverFrom := rfl
@[simp] theorem setObj_powerStack : (setObj k v s).powerStack = s.powerStack := rfl
@[simp] theorem setObj_packageReset : (setObj k v s).packageReset = s.packageReset := rfl
@[simp] theorem setObj_paths : (setObj k v s).paths = s.paths := rfl
@[simp] theorem setObj_forced : (setObj k v s).forced = s.forced := rfl
@[simp] theorem setObj_ports : (setObj k v s).ports = s.ports := rfl
@[simp] theorem setObj_mailboxes : (setObj k v s).mailboxes = s.mailboxes := rfl
@[simp] theorem setObj_requests : (setObj k v s).requests = s.requests := rfl
@[simp] theorem setObj_snapshot : (setObj k v s).snapshot = s.snapshot := rfl
@[simp] theorem setObj_snapshots : (setObj k v s).snapshots = s.snapshots := rfl
@[simp] theorem setObj_traces : (setObj k v s).traces = s.traces := rfl
@[simp] theorem setObj_views : (setObj k v s).views = s.views := rfl
@[simp] theorem setObj_images : (setObj k v s).images = s.images := rfl
@[simp] theorem setObj_imageInUse : (setObj k v s).imageInUse = s.imageInUse := rfl
@[simp] theorem setObj_imageFallback : (setObj k v s).imageFallback = s.imageFallback := rfl
@[simp] theorem setObj_trialReached : (setObj k v s).trialReached = s.trialReached := rfl
@[simp] theorem setObj_privateMode : (setObj k v s).privateMode = s.privateMode := rfl
@[simp] theorem setObj_retained : (setObj k v s).retained = s.retained := rfl
@[simp] theorem setObj_startKind : (setObj k v s).startKind = s.startKind := rfl
@[simp] theorem setObj_keys : (setObj k v s).keys = s.keys := rfl
@[simp] theorem setObj_kept : (setObj k v s).kept = s.kept := rfl
@[simp] theorem setObj_keptB : (setObj k v s).keptB = s.keptB := rfl
@[simp] theorem setObj_freqs : (setObj k v s).freqs = s.freqs := rfl
@[simp] theorem setObj_crossings : (setObj k v s).crossings = s.crossings := rfl
@[simp] theorem setObj_turn : (setObj k v s).turn = s.turn := rfl
@[simp] theorem setObj_screens : (setObj k v s).screens = s.screens := rfl
@[simp] theorem setObj_undefinedCases : (setObj k v s).undefinedCases = s.undefinedCases := rfl
theorem setObj_objs : (setObj k v s).objs = tset s.objs k v := rfl
@[simp] theorem setObj_output : (setObj k v s).output = s.output := rfl
@[simp] theorem setObj_free : (setObj k v s).free = s.free := rfl
@[simp] theorem setObj_pending : (setObj k v s).pending = s.pending := rfl
end

/-! ### addObj -/
section
variable (k : Nat) (v : Nat)
@[simp] theorem addObj_variant : (addObj k v s).variant = s.variant := rfl
@[simp] theorem addObj_now : (addObj k v s).now = s.now := rfl
@[simp] theorem addObj_ptStarted : (addObj k v s).ptStarted = s.ptStarted := rfl
@[simp] theorem addObj_anchorDie : (addObj k v s).anchorDie = s.anchorDie := rfl
@[simp] theorem addObj_standby : (addObj k v s).standby = s.standby := rfl
@[simp] theorem addObj_takenOver : (addObj k v s).takenOver = s.takenOver := rfl
@[simp] theorem addObj_anchorReady : (addObj k v s).anchorReady = s.anchorReady := rfl
@[simp] theorem addObj_reference : (addObj k v s).reference = s.reference := rfl
@[simp] theorem addObj_referenceLostAt : (addObj k v s).referenceLostAt = s.referenceLostAt := rfl
@[simp] theorem addObj_keepers : (addObj k v s).keepers = s.keepers := rfl
@[simp] theorem addObj_seqr : (addObj k v s).seqr = s.seqr := rfl
@[simp] theorem addObj_dies : (addObj k v s).dies = s.dies := rfl
@[simp] theorem addObj_fields : (addObj k v s).fields = s.fields := rfl
@[simp] theorem addObj_units : (addObj k v s).units = s.units := rfl
@[simp] theorem addObj_fmax : (addObj k v s).fmax = s.fmax := rfl
@[simp] theorem addObj_lcnMap : (addObj k v s).lcnMap = s.lcnMap := rfl
@[simp] theorem addObj_clusterMap : (addObj k v s).clusterMap = s.clusterMap := rfl
@[simp] theorem addObj_lanes : (addObj k v s).lanes = s.lanes := rfl
@[simp] theorem addObj_channels : (addObj k v s).channels = s.channels := rfl
@[simp] theorem addObj_zports : (addObj k v s).zports = s.zports := rfl
@[simp] theorem addObj_lostSlots : (addObj k v s).lostSlots = s.lostSlots := rfl
@[simp] theorem addObj_unreachable : (addObj k v s).unreachable = s.unreachable := rfl
@[simp] theorem addObj_lcns : (addObj k v s).lcns = s.lcns := rfl
@[simp] theorem addObj_cores : (addObj k v s).cores = s.cores := rfl
@[simp] theorem addObj_clusters : (addObj k v s).clusters = s.clusters := rfl
@[simp] theorem addObj_slices : (addObj k v s).slices = s.slices := rfl
@[simp] theorem addObj_generations : (addObj k v s).generations = s.generations := rfl
@[simp] theorem addObj_recomputes : (addObj k v s).recomputes = s.recomputes := rfl
@[simp] theorem addObj_tieBreaks : (addObj k v s).tieBreaks = s.tieBreaks := rfl
@[simp] theorem addObj_thirds : (addObj k v s).thirds = s.thirds := rfl
@[simp] theorem addObj_transfers : (addObj k v s).transfers = s.transfers := rfl
@[simp] theorem addObj_follows : (addObj k v s).follows = s.follows := rfl
@[simp] theorem addObj_inFlight : (addObj k v s).inFlight = s.inFlight := rfl
@[simp] theorem addObj_dram : (addObj k v s).dram = s.dram := rfl
@[simp] theorem addObj_copies : (addObj k v s).copies = s.copies := rfl
@[simp] theorem addObj_changes : (addObj k v s).changes = s.changes := rfl
@[simp] theorem addObj_changeHold : (addObj k v s).changeHold = s.changeHold := rfl
@[simp] theorem addObj_nextChange : (addObj k v s).nextChange = s.nextChange := rfl
@[simp] theorem addObj_commits : (addObj k v s).commits = s.commits := rfl
@[simp] theorem addObj_nextCommit : (addObj k v s).nextCommit = s.nextCommit := rfl
@[simp] theorem addObj_ripcord : (addObj k v s).ripcord = s.ripcord := rfl
@[simp] theorem addObj_model : (addObj k v s).model = s.model := rfl
@[simp] theorem addObj_modelIndex : (addObj k v s).modelIndex = s.modelIndex := rfl
@[simp] theorem addObj_modelFlag : (addObj k v s).modelFlag = s.modelFlag := rfl
@[simp] theorem addObj_qualifying : (addObj k v s).qualifying = s.qualifying := rfl
@[simp] theorem addObj_powerHistory : (addObj k v s).powerHistory = s.powerHistory := rfl
@[simp] theorem addObj_powerLowFrom : (addObj k v s).powerLowFrom = s.powerLowFrom := rfl
@[simp] theorem addObj_powerOverFrom : (addObj k v s).powerOverFrom = s.powerOverFrom := rfl
@[simp] theorem addObj_powerStack : (addObj k v s).powerStack = s.powerStack := rfl
@[simp] theorem addObj_packageReset : (addObj k v s).packageReset = s.packageReset := rfl
@[simp] theorem addObj_paths : (addObj k v s).paths = s.paths := rfl
@[simp] theorem addObj_forced : (addObj k v s).forced = s.forced := rfl
@[simp] theorem addObj_ports : (addObj k v s).ports = s.ports := rfl
@[simp] theorem addObj_mailboxes : (addObj k v s).mailboxes = s.mailboxes := rfl
@[simp] theorem addObj_requests : (addObj k v s).requests = s.requests := rfl
@[simp] theorem addObj_snapshot : (addObj k v s).snapshot = s.snapshot := rfl
@[simp] theorem addObj_snapshots : (addObj k v s).snapshots = s.snapshots := rfl
@[simp] theorem addObj_traces : (addObj k v s).traces = s.traces := rfl
@[simp] theorem addObj_views : (addObj k v s).views = s.views := rfl
@[simp] theorem addObj_images : (addObj k v s).images = s.images := rfl
@[simp] theorem addObj_imageInUse : (addObj k v s).imageInUse = s.imageInUse := rfl
@[simp] theorem addObj_imageFallback : (addObj k v s).imageFallback = s.imageFallback := rfl
@[simp] theorem addObj_trialReached : (addObj k v s).trialReached = s.trialReached := rfl
@[simp] theorem addObj_privateMode : (addObj k v s).privateMode = s.privateMode := rfl
@[simp] theorem addObj_retained : (addObj k v s).retained = s.retained := rfl
@[simp] theorem addObj_startKind : (addObj k v s).startKind = s.startKind := rfl
@[simp] theorem addObj_keys : (addObj k v s).keys = s.keys := rfl
@[simp] theorem addObj_kept : (addObj k v s).kept = s.kept := rfl
@[simp] theorem addObj_keptB : (addObj k v s).keptB = s.keptB := rfl
@[simp] theorem addObj_freqs : (addObj k v s).freqs = s.freqs := rfl
@[simp] theorem addObj_crossings : (addObj k v s).crossings = s.crossings := rfl
@[simp] theorem addObj_turn : (addObj k v s).turn = s.turn := rfl
@[simp] theorem addObj_screens : (addObj k v s).screens = s.screens := rfl
@[simp] theorem addObj_undefinedCases : (addObj k v s).undefinedCases = s.undefinedCases := rfl
theorem addObj_objs : (addObj k v s).objs = tmod s.objs k 0 (· + v) := rfl
@[simp] theorem addObj_output : (addObj k v s).output = s.output := rfl
@[simp] theorem addObj_free : (addObj k v s).free = s.free := rfl
@[simp] theorem addObj_pending : (addObj k v s).pending = s.pending := rfl
end

/-! ### maxObj -/
section
variable (k : Nat) (v : Nat)
@[simp] theorem maxObj_variant : (maxObj k v s).variant = s.variant := rfl
@[simp] theorem maxObj_now : (maxObj k v s).now = s.now := rfl
@[simp] theorem maxObj_ptStarted : (maxObj k v s).ptStarted = s.ptStarted := rfl
@[simp] theorem maxObj_anchorDie : (maxObj k v s).anchorDie = s.anchorDie := rfl
@[simp] theorem maxObj_standby : (maxObj k v s).standby = s.standby := rfl
@[simp] theorem maxObj_takenOver : (maxObj k v s).takenOver = s.takenOver := rfl
@[simp] theorem maxObj_anchorReady : (maxObj k v s).anchorReady = s.anchorReady := rfl
@[simp] theorem maxObj_reference : (maxObj k v s).reference = s.reference := rfl
@[simp] theorem maxObj_referenceLostAt : (maxObj k v s).referenceLostAt = s.referenceLostAt := rfl
@[simp] theorem maxObj_keepers : (maxObj k v s).keepers = s.keepers := rfl
@[simp] theorem maxObj_seqr : (maxObj k v s).seqr = s.seqr := rfl
@[simp] theorem maxObj_dies : (maxObj k v s).dies = s.dies := rfl
@[simp] theorem maxObj_fields : (maxObj k v s).fields = s.fields := rfl
@[simp] theorem maxObj_units : (maxObj k v s).units = s.units := rfl
@[simp] theorem maxObj_fmax : (maxObj k v s).fmax = s.fmax := rfl
@[simp] theorem maxObj_lcnMap : (maxObj k v s).lcnMap = s.lcnMap := rfl
@[simp] theorem maxObj_clusterMap : (maxObj k v s).clusterMap = s.clusterMap := rfl
@[simp] theorem maxObj_lanes : (maxObj k v s).lanes = s.lanes := rfl
@[simp] theorem maxObj_channels : (maxObj k v s).channels = s.channels := rfl
@[simp] theorem maxObj_zports : (maxObj k v s).zports = s.zports := rfl
@[simp] theorem maxObj_lostSlots : (maxObj k v s).lostSlots = s.lostSlots := rfl
@[simp] theorem maxObj_unreachable : (maxObj k v s).unreachable = s.unreachable := rfl
@[simp] theorem maxObj_lcns : (maxObj k v s).lcns = s.lcns := rfl
@[simp] theorem maxObj_cores : (maxObj k v s).cores = s.cores := rfl
@[simp] theorem maxObj_clusters : (maxObj k v s).clusters = s.clusters := rfl
@[simp] theorem maxObj_slices : (maxObj k v s).slices = s.slices := rfl
@[simp] theorem maxObj_generations : (maxObj k v s).generations = s.generations := rfl
@[simp] theorem maxObj_recomputes : (maxObj k v s).recomputes = s.recomputes := rfl
@[simp] theorem maxObj_tieBreaks : (maxObj k v s).tieBreaks = s.tieBreaks := rfl
@[simp] theorem maxObj_thirds : (maxObj k v s).thirds = s.thirds := rfl
@[simp] theorem maxObj_transfers : (maxObj k v s).transfers = s.transfers := rfl
@[simp] theorem maxObj_follows : (maxObj k v s).follows = s.follows := rfl
@[simp] theorem maxObj_inFlight : (maxObj k v s).inFlight = s.inFlight := rfl
@[simp] theorem maxObj_dram : (maxObj k v s).dram = s.dram := rfl
@[simp] theorem maxObj_copies : (maxObj k v s).copies = s.copies := rfl
@[simp] theorem maxObj_changes : (maxObj k v s).changes = s.changes := rfl
@[simp] theorem maxObj_changeHold : (maxObj k v s).changeHold = s.changeHold := rfl
@[simp] theorem maxObj_nextChange : (maxObj k v s).nextChange = s.nextChange := rfl
@[simp] theorem maxObj_commits : (maxObj k v s).commits = s.commits := rfl
@[simp] theorem maxObj_nextCommit : (maxObj k v s).nextCommit = s.nextCommit := rfl
@[simp] theorem maxObj_ripcord : (maxObj k v s).ripcord = s.ripcord := rfl
@[simp] theorem maxObj_model : (maxObj k v s).model = s.model := rfl
@[simp] theorem maxObj_modelIndex : (maxObj k v s).modelIndex = s.modelIndex := rfl
@[simp] theorem maxObj_modelFlag : (maxObj k v s).modelFlag = s.modelFlag := rfl
@[simp] theorem maxObj_qualifying : (maxObj k v s).qualifying = s.qualifying := rfl
@[simp] theorem maxObj_powerHistory : (maxObj k v s).powerHistory = s.powerHistory := rfl
@[simp] theorem maxObj_powerLowFrom : (maxObj k v s).powerLowFrom = s.powerLowFrom := rfl
@[simp] theorem maxObj_powerOverFrom : (maxObj k v s).powerOverFrom = s.powerOverFrom := rfl
@[simp] theorem maxObj_powerStack : (maxObj k v s).powerStack = s.powerStack := rfl
@[simp] theorem maxObj_packageReset : (maxObj k v s).packageReset = s.packageReset := rfl
@[simp] theorem maxObj_paths : (maxObj k v s).paths = s.paths := rfl
@[simp] theorem maxObj_forced : (maxObj k v s).forced = s.forced := rfl
@[simp] theorem maxObj_ports : (maxObj k v s).ports = s.ports := rfl
@[simp] theorem maxObj_mailboxes : (maxObj k v s).mailboxes = s.mailboxes := rfl
@[simp] theorem maxObj_requests : (maxObj k v s).requests = s.requests := rfl
@[simp] theorem maxObj_snapshot : (maxObj k v s).snapshot = s.snapshot := rfl
@[simp] theorem maxObj_snapshots : (maxObj k v s).snapshots = s.snapshots := rfl
@[simp] theorem maxObj_traces : (maxObj k v s).traces = s.traces := rfl
@[simp] theorem maxObj_views : (maxObj k v s).views = s.views := rfl
@[simp] theorem maxObj_images : (maxObj k v s).images = s.images := rfl
@[simp] theorem maxObj_imageInUse : (maxObj k v s).imageInUse = s.imageInUse := rfl
@[simp] theorem maxObj_imageFallback : (maxObj k v s).imageFallback = s.imageFallback := rfl
@[simp] theorem maxObj_trialReached : (maxObj k v s).trialReached = s.trialReached := rfl
@[simp] theorem maxObj_privateMode : (maxObj k v s).privateMode = s.privateMode := rfl
@[simp] theorem maxObj_retained : (maxObj k v s).retained = s.retained := rfl
@[simp] theorem maxObj_startKind : (maxObj k v s).startKind = s.startKind := rfl
@[simp] theorem maxObj_keys : (maxObj k v s).keys = s.keys := rfl
@[simp] theorem maxObj_kept : (maxObj k v s).kept = s.kept := rfl
@[simp] theorem maxObj_keptB : (maxObj k v s).keptB = s.keptB := rfl
@[simp] theorem maxObj_freqs : (maxObj k v s).freqs = s.freqs := rfl
@[simp] theorem maxObj_crossings : (maxObj k v s).crossings = s.crossings := rfl
@[simp] theorem maxObj_turn : (maxObj k v s).turn = s.turn := rfl
@[simp] theorem maxObj_screens : (maxObj k v s).screens = s.screens := rfl
@[simp] theorem maxObj_undefinedCases : (maxObj k v s).undefinedCases = s.undefinedCases := rfl
theorem maxObj_objs : (maxObj k v s).objs = tmod s.objs k 0 (max v) := rfl
@[simp] theorem maxObj_output : (maxObj k v s).output = s.output := rfl
@[simp] theorem maxObj_free : (maxObj k v s).free = s.free := rfl
@[simp] theorem maxObj_pending : (maxObj k v s).pending = s.pending := rfl
end

/-! ### setSobj -/
section
variable (k : Nat) (i : Nat) (v : Nat)
@[simp] theorem setSobj_variant : (setSobj k i v s).variant = s.variant := rfl
@[simp] theorem setSobj_now : (setSobj k i v s).now = s.now := rfl
@[simp] theorem setSobj_ptStarted : (setSobj k i v s).ptStarted = s.ptStarted := rfl
@[simp] theorem setSobj_anchorDie : (setSobj k i v s).anchorDie = s.anchorDie := rfl
@[simp] theorem setSobj_standby : (setSobj k i v s).standby = s.standby := rfl
@[simp] theorem setSobj_takenOver : (setSobj k i v s).takenOver = s.takenOver := rfl
@[simp] theorem setSobj_anchorReady : (setSobj k i v s).anchorReady = s.anchorReady := rfl
@[simp] theorem setSobj_reference : (setSobj k i v s).reference = s.reference := rfl
@[simp] theorem setSobj_referenceLostAt : (setSobj k i v s).referenceLostAt = s.referenceLostAt := rfl
@[simp] theorem setSobj_keepers : (setSobj k i v s).keepers = s.keepers := rfl
@[simp] theorem setSobj_seqr : (setSobj k i v s).seqr = s.seqr := rfl
@[simp] theorem setSobj_dies : (setSobj k i v s).dies = s.dies := rfl
@[simp] theorem setSobj_fields : (setSobj k i v s).fields = s.fields := rfl
@[simp] theorem setSobj_units : (setSobj k i v s).units = s.units := rfl
@[simp] theorem setSobj_fmax : (setSobj k i v s).fmax = s.fmax := rfl
@[simp] theorem setSobj_lcnMap : (setSobj k i v s).lcnMap = s.lcnMap := rfl
@[simp] theorem setSobj_clusterMap : (setSobj k i v s).clusterMap = s.clusterMap := rfl
@[simp] theorem setSobj_lanes : (setSobj k i v s).lanes = s.lanes := rfl
@[simp] theorem setSobj_channels : (setSobj k i v s).channels = s.channels := rfl
@[simp] theorem setSobj_zports : (setSobj k i v s).zports = s.zports := rfl
@[simp] theorem setSobj_lostSlots : (setSobj k i v s).lostSlots = s.lostSlots := rfl
@[simp] theorem setSobj_unreachable : (setSobj k i v s).unreachable = s.unreachable := rfl
@[simp] theorem setSobj_lcns : (setSobj k i v s).lcns = s.lcns := rfl
@[simp] theorem setSobj_cores : (setSobj k i v s).cores = s.cores := rfl
@[simp] theorem setSobj_clusters : (setSobj k i v s).clusters = s.clusters := rfl
@[simp] theorem setSobj_generations : (setSobj k i v s).generations = s.generations := rfl
@[simp] theorem setSobj_recomputes : (setSobj k i v s).recomputes = s.recomputes := rfl
@[simp] theorem setSobj_tieBreaks : (setSobj k i v s).tieBreaks = s.tieBreaks := rfl
@[simp] theorem setSobj_thirds : (setSobj k i v s).thirds = s.thirds := rfl
@[simp] theorem setSobj_transfers : (setSobj k i v s).transfers = s.transfers := rfl
@[simp] theorem setSobj_follows : (setSobj k i v s).follows = s.follows := rfl
@[simp] theorem setSobj_inFlight : (setSobj k i v s).inFlight = s.inFlight := rfl
@[simp] theorem setSobj_dram : (setSobj k i v s).dram = s.dram := rfl
@[simp] theorem setSobj_copies : (setSobj k i v s).copies = s.copies := rfl
@[simp] theorem setSobj_changes : (setSobj k i v s).changes = s.changes := rfl
@[simp] theorem setSobj_changeHold : (setSobj k i v s).changeHold = s.changeHold := rfl
@[simp] theorem setSobj_nextChange : (setSobj k i v s).nextChange = s.nextChange := rfl
@[simp] theorem setSobj_commits : (setSobj k i v s).commits = s.commits := rfl
@[simp] theorem setSobj_nextCommit : (setSobj k i v s).nextCommit = s.nextCommit := rfl
@[simp] theorem setSobj_ripcord : (setSobj k i v s).ripcord = s.ripcord := rfl
@[simp] theorem setSobj_model : (setSobj k i v s).model = s.model := rfl
@[simp] theorem setSobj_modelIndex : (setSobj k i v s).modelIndex = s.modelIndex := rfl
@[simp] theorem setSobj_modelFlag : (setSobj k i v s).modelFlag = s.modelFlag := rfl
@[simp] theorem setSobj_qualifying : (setSobj k i v s).qualifying = s.qualifying := rfl
@[simp] theorem setSobj_powerHistory : (setSobj k i v s).powerHistory = s.powerHistory := rfl
@[simp] theorem setSobj_powerLowFrom : (setSobj k i v s).powerLowFrom = s.powerLowFrom := rfl
@[simp] theorem setSobj_powerOverFrom : (setSobj k i v s).powerOverFrom = s.powerOverFrom := rfl
@[simp] theorem setSobj_powerStack : (setSobj k i v s).powerStack = s.powerStack := rfl
@[simp] theorem setSobj_packageReset : (setSobj k i v s).packageReset = s.packageReset := rfl
@[simp] theorem setSobj_paths : (setSobj k i v s).paths = s.paths := rfl
@[simp] theorem setSobj_forced : (setSobj k i v s).forced = s.forced := rfl
@[simp] theorem setSobj_ports : (setSobj k i v s).ports = s.ports := rfl
@[simp] theorem setSobj_mailboxes : (setSobj k i v s).mailboxes = s.mailboxes := rfl
@[simp] theorem setSobj_requests : (setSobj k i v s).requests = s.requests := rfl
@[simp] theorem setSobj_snapshot : (setSobj k i v s).snapshot = s.snapshot := rfl
@[simp] theorem setSobj_snapshots : (setSobj k i v s).snapshots = s.snapshots := rfl
@[simp] theorem setSobj_traces : (setSobj k i v s).traces = s.traces := rfl
@[simp] theorem setSobj_views : (setSobj k i v s).views = s.views := rfl
@[simp] theorem setSobj_images : (setSobj k i v s).images = s.images := rfl
@[simp] theorem setSobj_imageInUse : (setSobj k i v s).imageInUse = s.imageInUse := rfl
@[simp] theorem setSobj_imageFallback : (setSobj k i v s).imageFallback = s.imageFallback := rfl
@[simp] theorem setSobj_trialReached : (setSobj k i v s).trialReached = s.trialReached := rfl
@[simp] theorem setSobj_privateMode : (setSobj k i v s).privateMode = s.privateMode := rfl
@[simp] theorem setSobj_retained : (setSobj k i v s).retained = s.retained := rfl
@[simp] theorem setSobj_startKind : (setSobj k i v s).startKind = s.startKind := rfl
@[simp] theorem setSobj_keys : (setSobj k i v s).keys = s.keys := rfl
@[simp] theorem setSobj_kept : (setSobj k i v s).kept = s.kept := rfl
@[simp] theorem setSobj_keptB : (setSobj k i v s).keptB = s.keptB := rfl
@[simp] theorem setSobj_freqs : (setSobj k i v s).freqs = s.freqs := rfl
@[simp] theorem setSobj_crossings : (setSobj k i v s).crossings = s.crossings := rfl
@[simp] theorem setSobj_turn : (setSobj k i v s).turn = s.turn := rfl
@[simp] theorem setSobj_screens : (setSobj k i v s).screens = s.screens := rfl
@[simp] theorem setSobj_undefinedCases : (setSobj k i v s).undefinedCases = s.undefinedCases := rfl
@[simp] theorem setSobj_objs : (setSobj k i v s).objs = s.objs := rfl
@[simp] theorem setSobj_output : (setSobj k i v s).output = s.output := rfl
@[simp] theorem setSobj_free : (setSobj k i v s).free = s.free := rfl
@[simp] theorem setSobj_pending : (setSobj k i v s).pending = s.pending := rfl
end

/-! ### addSobj -/
section
variable (k : Nat) (i : Nat) (v : Nat)
@[simp] theorem addSobj_variant : (addSobj k i v s).variant = s.variant := rfl
@[simp] theorem addSobj_now : (addSobj k i v s).now = s.now := rfl
@[simp] theorem addSobj_ptStarted : (addSobj k i v s).ptStarted = s.ptStarted := rfl
@[simp] theorem addSobj_anchorDie : (addSobj k i v s).anchorDie = s.anchorDie := rfl
@[simp] theorem addSobj_standby : (addSobj k i v s).standby = s.standby := rfl
@[simp] theorem addSobj_takenOver : (addSobj k i v s).takenOver = s.takenOver := rfl
@[simp] theorem addSobj_anchorReady : (addSobj k i v s).anchorReady = s.anchorReady := rfl
@[simp] theorem addSobj_reference : (addSobj k i v s).reference = s.reference := rfl
@[simp] theorem addSobj_referenceLostAt : (addSobj k i v s).referenceLostAt = s.referenceLostAt := rfl
@[simp] theorem addSobj_keepers : (addSobj k i v s).keepers = s.keepers := rfl
@[simp] theorem addSobj_seqr : (addSobj k i v s).seqr = s.seqr := rfl
@[simp] theorem addSobj_dies : (addSobj k i v s).dies = s.dies := rfl
@[simp] theorem addSobj_fields : (addSobj k i v s).fields = s.fields := rfl
@[simp] theorem addSobj_units : (addSobj k i v s).units = s.units := rfl
@[simp] theorem addSobj_fmax : (addSobj k i v s).fmax = s.fmax := rfl
@[simp] theorem addSobj_lcnMap : (addSobj k i v s).lcnMap = s.lcnMap := rfl
@[simp] theorem addSobj_clusterMap : (addSobj k i v s).clusterMap = s.clusterMap := rfl
@[simp] theorem addSobj_lanes : (addSobj k i v s).lanes = s.lanes := rfl
@[simp] theorem addSobj_channels : (addSobj k i v s).channels = s.channels := rfl
@[simp] theorem addSobj_zports : (addSobj k i v s).zports = s.zports := rfl
@[simp] theorem addSobj_lostSlots : (addSobj k i v s).lostSlots = s.lostSlots := rfl
@[simp] theorem addSobj_unreachable : (addSobj k i v s).unreachable = s.unreachable := rfl
@[simp] theorem addSobj_lcns : (addSobj k i v s).lcns = s.lcns := rfl
@[simp] theorem addSobj_cores : (addSobj k i v s).cores = s.cores := rfl
@[simp] theorem addSobj_clusters : (addSobj k i v s).clusters = s.clusters := rfl
@[simp] theorem addSobj_generations : (addSobj k i v s).generations = s.generations := rfl
@[simp] theorem addSobj_recomputes : (addSobj k i v s).recomputes = s.recomputes := rfl
@[simp] theorem addSobj_tieBreaks : (addSobj k i v s).tieBreaks = s.tieBreaks := rfl
@[simp] theorem addSobj_thirds : (addSobj k i v s).thirds = s.thirds := rfl
@[simp] theorem addSobj_transfers : (addSobj k i v s).transfers = s.transfers := rfl
@[simp] theorem addSobj_follows : (addSobj k i v s).follows = s.follows := rfl
@[simp] theorem addSobj_inFlight : (addSobj k i v s).inFlight = s.inFlight := rfl
@[simp] theorem addSobj_dram : (addSobj k i v s).dram = s.dram := rfl
@[simp] theorem addSobj_copies : (addSobj k i v s).copies = s.copies := rfl
@[simp] theorem addSobj_changes : (addSobj k i v s).changes = s.changes := rfl
@[simp] theorem addSobj_changeHold : (addSobj k i v s).changeHold = s.changeHold := rfl
@[simp] theorem addSobj_nextChange : (addSobj k i v s).nextChange = s.nextChange := rfl
@[simp] theorem addSobj_commits : (addSobj k i v s).commits = s.commits := rfl
@[simp] theorem addSobj_nextCommit : (addSobj k i v s).nextCommit = s.nextCommit := rfl
@[simp] theorem addSobj_ripcord : (addSobj k i v s).ripcord = s.ripcord := rfl
@[simp] theorem addSobj_model : (addSobj k i v s).model = s.model := rfl
@[simp] theorem addSobj_modelIndex : (addSobj k i v s).modelIndex = s.modelIndex := rfl
@[simp] theorem addSobj_modelFlag : (addSobj k i v s).modelFlag = s.modelFlag := rfl
@[simp] theorem addSobj_qualifying : (addSobj k i v s).qualifying = s.qualifying := rfl
@[simp] theorem addSobj_powerHistory : (addSobj k i v s).powerHistory = s.powerHistory := rfl
@[simp] theorem addSobj_powerLowFrom : (addSobj k i v s).powerLowFrom = s.powerLowFrom := rfl
@[simp] theorem addSobj_powerOverFrom : (addSobj k i v s).powerOverFrom = s.powerOverFrom := rfl
@[simp] theorem addSobj_powerStack : (addSobj k i v s).powerStack = s.powerStack := rfl
@[simp] theorem addSobj_packageReset : (addSobj k i v s).packageReset = s.packageReset := rfl
@[simp] theorem addSobj_paths : (addSobj k i v s).paths = s.paths := rfl
@[simp] theorem addSobj_forced : (addSobj k i v s).forced = s.forced := rfl
@[simp] theorem addSobj_ports : (addSobj k i v s).ports = s.ports := rfl
@[simp] theorem addSobj_mailboxes : (addSobj k i v s).mailboxes = s.mailboxes := rfl
@[simp] theorem addSobj_requests : (addSobj k i v s).requests = s.requests := rfl
@[simp] theorem addSobj_snapshot : (addSobj k i v s).snapshot = s.snapshot := rfl
@[simp] theorem addSobj_snapshots : (addSobj k i v s).snapshots = s.snapshots := rfl
@[simp] theorem addSobj_traces : (addSobj k i v s).traces = s.traces := rfl
@[simp] theorem addSobj_views : (addSobj k i v s).views = s.views := rfl
@[simp] theorem addSobj_images : (addSobj k i v s).images = s.images := rfl
@[simp] theorem addSobj_imageInUse : (addSobj k i v s).imageInUse = s.imageInUse := rfl
@[simp] theorem addSobj_imageFallback : (addSobj k i v s).imageFallback = s.imageFallback := rfl
@[simp] theorem addSobj_trialReached : (addSobj k i v s).trialReached = s.trialReached := rfl
@[simp] theorem addSobj_privateMode : (addSobj k i v s).privateMode = s.privateMode := rfl
@[simp] theorem addSobj_retained : (addSobj k i v s).retained = s.retained := rfl
@[simp] theorem addSobj_startKind : (addSobj k i v s).startKind = s.startKind := rfl
@[simp] theorem addSobj_keys : (addSobj k i v s).keys = s.keys := rfl
@[simp] theorem addSobj_kept : (addSobj k i v s).kept = s.kept := rfl
@[simp] theorem addSobj_keptB : (addSobj k i v s).keptB = s.keptB := rfl
@[simp] theorem addSobj_freqs : (addSobj k i v s).freqs = s.freqs := rfl
@[simp] theorem addSobj_crossings : (addSobj k i v s).crossings = s.crossings := rfl
@[simp] theorem addSobj_turn : (addSobj k i v s).turn = s.turn := rfl
@[simp] theorem addSobj_screens : (addSobj k i v s).screens = s.screens := rfl
@[simp] theorem addSobj_undefinedCases : (addSobj k i v s).undefinedCases = s.undefinedCases := rfl
@[simp] theorem addSobj_objs : (addSobj k i v s).objs = s.objs := rfl
@[simp] theorem addSobj_output : (addSobj k i v s).output = s.output := rfl
@[simp] theorem addSobj_free : (addSobj k i v s).free = s.free := rfl
@[simp] theorem addSobj_pending : (addSobj k i v s).pending = s.pending := rfl
end

/-! ### modPath -/
section
variable (p : Path) (f : PathState → PathState)
@[simp] theorem modPath_variant : (modPath p f s).variant = s.variant := rfl
@[simp] theorem modPath_now : (modPath p f s).now = s.now := rfl
@[simp] theorem modPath_ptStarted : (modPath p f s).ptStarted = s.ptStarted := rfl
@[simp] theorem modPath_anchorDie : (modPath p f s).anchorDie = s.anchorDie := rfl
@[simp] theorem modPath_standby : (modPath p f s).standby = s.standby := rfl
@[simp] theorem modPath_takenOver : (modPath p f s).takenOver = s.takenOver := rfl
@[simp] theorem modPath_anchorReady : (modPath p f s).anchorReady = s.anchorReady := rfl
@[simp] theorem modPath_reference : (modPath p f s).reference = s.reference := rfl
@[simp] theorem modPath_referenceLostAt : (modPath p f s).referenceLostAt = s.referenceLostAt := rfl
@[simp] theorem modPath_keepers : (modPath p f s).keepers = s.keepers := rfl
@[simp] theorem modPath_seqr : (modPath p f s).seqr = s.seqr := rfl
@[simp] theorem modPath_dies : (modPath p f s).dies = s.dies := rfl
@[simp] theorem modPath_fields : (modPath p f s).fields = s.fields := rfl
@[simp] theorem modPath_units : (modPath p f s).units = s.units := rfl
@[simp] theorem modPath_fmax : (modPath p f s).fmax = s.fmax := rfl
@[simp] theorem modPath_lcnMap : (modPath p f s).lcnMap = s.lcnMap := rfl
@[simp] theorem modPath_clusterMap : (modPath p f s).clusterMap = s.clusterMap := rfl
@[simp] theorem modPath_lanes : (modPath p f s).lanes = s.lanes := rfl
@[simp] theorem modPath_channels : (modPath p f s).channels = s.channels := rfl
@[simp] theorem modPath_zports : (modPath p f s).zports = s.zports := rfl
@[simp] theorem modPath_lostSlots : (modPath p f s).lostSlots = s.lostSlots := rfl
@[simp] theorem modPath_unreachable : (modPath p f s).unreachable = s.unreachable := rfl
@[simp] theorem modPath_lcns : (modPath p f s).lcns = s.lcns := rfl
@[simp] theorem modPath_cores : (modPath p f s).cores = s.cores := rfl
@[simp] theorem modPath_clusters : (modPath p f s).clusters = s.clusters := rfl
@[simp] theorem modPath_slices : (modPath p f s).slices = s.slices := rfl
@[simp] theorem modPath_generations : (modPath p f s).generations = s.generations := rfl
@[simp] theorem modPath_recomputes : (modPath p f s).recomputes = s.recomputes := rfl
@[simp] theorem modPath_tieBreaks : (modPath p f s).tieBreaks = s.tieBreaks := rfl
@[simp] theorem modPath_thirds : (modPath p f s).thirds = s.thirds := rfl
@[simp] theorem modPath_transfers : (modPath p f s).transfers = s.transfers := rfl
@[simp] theorem modPath_follows : (modPath p f s).follows = s.follows := rfl
@[simp] theorem modPath_inFlight : (modPath p f s).inFlight = s.inFlight := rfl
@[simp] theorem modPath_dram : (modPath p f s).dram = s.dram := rfl
@[simp] theorem modPath_copies : (modPath p f s).copies = s.copies := rfl
@[simp] theorem modPath_changes : (modPath p f s).changes = s.changes := rfl
@[simp] theorem modPath_changeHold : (modPath p f s).changeHold = s.changeHold := rfl
@[simp] theorem modPath_nextChange : (modPath p f s).nextChange = s.nextChange := rfl
@[simp] theorem modPath_commits : (modPath p f s).commits = s.commits := rfl
@[simp] theorem modPath_nextCommit : (modPath p f s).nextCommit = s.nextCommit := rfl
@[simp] theorem modPath_ripcord : (modPath p f s).ripcord = s.ripcord := rfl
@[simp] theorem modPath_model : (modPath p f s).model = s.model := rfl
@[simp] theorem modPath_modelIndex : (modPath p f s).modelIndex = s.modelIndex := rfl
@[simp] theorem modPath_modelFlag : (modPath p f s).modelFlag = s.modelFlag := rfl
@[simp] theorem modPath_qualifying : (modPath p f s).qualifying = s.qualifying := rfl
@[simp] theorem modPath_powerHistory : (modPath p f s).powerHistory = s.powerHistory := rfl
@[simp] theorem modPath_powerLowFrom : (modPath p f s).powerLowFrom = s.powerLowFrom := rfl
@[simp] theorem modPath_powerOverFrom : (modPath p f s).powerOverFrom = s.powerOverFrom := rfl
@[simp] theorem modPath_powerStack : (modPath p f s).powerStack = s.powerStack := rfl
@[simp] theorem modPath_packageReset : (modPath p f s).packageReset = s.packageReset := rfl
theorem modPath_paths : (modPath p f s).paths = tmod s.paths (pathKey p) PathState.empty f := rfl
@[simp] theorem modPath_forced : (modPath p f s).forced = s.forced := rfl
@[simp] theorem modPath_ports : (modPath p f s).ports = s.ports := rfl
@[simp] theorem modPath_mailboxes : (modPath p f s).mailboxes = s.mailboxes := rfl
@[simp] theorem modPath_requests : (modPath p f s).requests = s.requests := rfl
@[simp] theorem modPath_snapshot : (modPath p f s).snapshot = s.snapshot := rfl
@[simp] theorem modPath_snapshots : (modPath p f s).snapshots = s.snapshots := rfl
@[simp] theorem modPath_traces : (modPath p f s).traces = s.traces := rfl
@[simp] theorem modPath_views : (modPath p f s).views = s.views := rfl
@[simp] theorem modPath_images : (modPath p f s).images = s.images := rfl
@[simp] theorem modPath_imageInUse : (modPath p f s).imageInUse = s.imageInUse := rfl
@[simp] theorem modPath_imageFallback : (modPath p f s).imageFallback = s.imageFallback := rfl
@[simp] theorem modPath_trialReached : (modPath p f s).trialReached = s.trialReached := rfl
@[simp] theorem modPath_privateMode : (modPath p f s).privateMode = s.privateMode := rfl
@[simp] theorem modPath_retained : (modPath p f s).retained = s.retained := rfl
@[simp] theorem modPath_startKind : (modPath p f s).startKind = s.startKind := rfl
@[simp] theorem modPath_keys : (modPath p f s).keys = s.keys := rfl
@[simp] theorem modPath_kept : (modPath p f s).kept = s.kept := rfl
@[simp] theorem modPath_keptB : (modPath p f s).keptB = s.keptB := rfl
@[simp] theorem modPath_freqs : (modPath p f s).freqs = s.freqs := rfl
@[simp] theorem modPath_crossings : (modPath p f s).crossings = s.crossings := rfl
@[simp] theorem modPath_turn : (modPath p f s).turn = s.turn := rfl
@[simp] theorem modPath_screens : (modPath p f s).screens = s.screens := rfl
@[simp] theorem modPath_undefinedCases : (modPath p f s).undefinedCases = s.undefinedCases := rfl
@[simp] theorem modPath_objs : (modPath p f s).objs = s.objs := rfl
@[simp] theorem modPath_output : (modPath p f s).output = s.output := rfl
@[simp] theorem modPath_free : (modPath p f s).free = s.free := rfl
@[simp] theorem modPath_pending : (modPath p f s).pending = s.pending := rfl
end

/-! ### respond -/
section
variable (p : Path) (i : Nat) (j : Nat) (k : Nat) (bs : List Byte) (v : Nat)
@[simp] theorem respond_variant : (respond p i j k bs v s).variant = s.variant := rfl
@[simp] theorem respond_now : (respond p i j k bs v s).now = s.now := rfl
@[simp] theorem respond_ptStarted : (respond p i j k bs v s).ptStarted = s.ptStarted := rfl
@[simp] theorem respond_anchorDie : (respond p i j k bs v s).anchorDie = s.anchorDie := rfl
@[simp] theorem respond_standby : (respond p i j k bs v s).standby = s.standby := rfl
@[simp] theorem respond_takenOver : (respond p i j k bs v s).takenOver = s.takenOver := rfl
@[simp] theorem respond_anchorReady : (respond p i j k bs v s).anchorReady = s.anchorReady := rfl
@[simp] theorem respond_reference : (respond p i j k bs v s).reference = s.reference := rfl
@[simp] theorem respond_referenceLostAt : (respond p i j k bs v s).referenceLostAt = s.referenceLostAt := rfl
@[simp] theorem respond_keepers : (respond p i j k bs v s).keepers = s.keepers := rfl
@[simp] theorem respond_seqr : (respond p i j k bs v s).seqr = s.seqr := rfl
@[simp] theorem respond_dies : (respond p i j k bs v s).dies = s.dies := rfl
@[simp] theorem respond_fields : (respond p i j k bs v s).fields = s.fields := rfl
@[simp] theorem respond_units : (respond p i j k bs v s).units = s.units := rfl
@[simp] theorem respond_fmax : (respond p i j k bs v s).fmax = s.fmax := rfl
@[simp] theorem respond_lcnMap : (respond p i j k bs v s).lcnMap = s.lcnMap := rfl
@[simp] theorem respond_clusterMap : (respond p i j k bs v s).clusterMap = s.clusterMap := rfl
@[simp] theorem respond_lanes : (respond p i j k bs v s).lanes = s.lanes := rfl
@[simp] theorem respond_channels : (respond p i j k bs v s).channels = s.channels := rfl
@[simp] theorem respond_zports : (respond p i j k bs v s).zports = s.zports := rfl
@[simp] theorem respond_lostSlots : (respond p i j k bs v s).lostSlots = s.lostSlots := rfl
@[simp] theorem respond_unreachable : (respond p i j k bs v s).unreachable = s.unreachable := rfl
@[simp] theorem respond_lcns : (respond p i j k bs v s).lcns = s.lcns := rfl
@[simp] theorem respond_cores : (respond p i j k bs v s).cores = s.cores := rfl
@[simp] theorem respond_clusters : (respond p i j k bs v s).clusters = s.clusters := rfl
@[simp] theorem respond_slices : (respond p i j k bs v s).slices = s.slices := rfl
@[simp] theorem respond_generations : (respond p i j k bs v s).generations = s.generations := rfl
@[simp] theorem respond_recomputes : (respond p i j k bs v s).recomputes = s.recomputes := rfl
@[simp] theorem respond_tieBreaks : (respond p i j k bs v s).tieBreaks = s.tieBreaks := rfl
@[simp] theorem respond_thirds : (respond p i j k bs v s).thirds = s.thirds := rfl
@[simp] theorem respond_transfers : (respond p i j k bs v s).transfers = s.transfers := rfl
@[simp] theorem respond_follows : (respond p i j k bs v s).follows = s.follows := rfl
@[simp] theorem respond_inFlight : (respond p i j k bs v s).inFlight = s.inFlight := rfl
@[simp] theorem respond_dram : (respond p i j k bs v s).dram = s.dram := rfl
@[simp] theorem respond_copies : (respond p i j k bs v s).copies = s.copies := rfl
@[simp] theorem respond_changes : (respond p i j k bs v s).changes = s.changes := rfl
@[simp] theorem respond_changeHold : (respond p i j k bs v s).changeHold = s.changeHold := rfl
@[simp] theorem respond_nextChange : (respond p i j k bs v s).nextChange = s.nextChange := rfl
@[simp] theorem respond_commits : (respond p i j k bs v s).commits = s.commits := rfl
@[simp] theorem respond_nextCommit : (respond p i j k bs v s).nextCommit = s.nextCommit := rfl
@[simp] theorem respond_ripcord : (respond p i j k bs v s).ripcord = s.ripcord := rfl
@[simp] theorem respond_model : (respond p i j k bs v s).model = s.model := rfl
@[simp] theorem respond_modelIndex : (respond p i j k bs v s).modelIndex = s.modelIndex := rfl
@[simp] theorem respond_modelFlag : (respond p i j k bs v s).modelFlag = s.modelFlag := rfl
@[simp] theorem respond_qualifying : (respond p i j k bs v s).qualifying = s.qualifying := rfl
@[simp] theorem respond_powerHistory : (respond p i j k bs v s).powerHistory = s.powerHistory := rfl
@[simp] theorem respond_powerLowFrom : (respond p i j k bs v s).powerLowFrom = s.powerLowFrom := rfl
@[simp] theorem respond_powerOverFrom : (respond p i j k bs v s).powerOverFrom = s.powerOverFrom := rfl
@[simp] theorem respond_powerStack : (respond p i j k bs v s).powerStack = s.powerStack := rfl
@[simp] theorem respond_packageReset : (respond p i j k bs v s).packageReset = s.packageReset := rfl
@[simp] theorem respond_forced : (respond p i j k bs v s).forced = s.forced := rfl
@[simp] theorem respond_ports : (respond p i j k bs v s).ports = s.ports := rfl
@[simp] theorem respond_mailboxes : (respond p i j k bs v s).mailboxes = s.mailboxes := rfl
@[simp] theorem respond_requests : (respond p i j k bs v s).requests = s.requests := rfl
@[simp] theorem respond_snapshot : (respond p i j k bs v s).snapshot = s.snapshot := rfl
@[simp] theorem respond_snapshots : (respond p i j k bs v s).snapshots = s.snapshots := rfl
@[simp] theorem respond_traces : (respond p i j k bs v s).traces = s.traces := rfl
@[simp] theorem respond_views : (respond p i j k bs v s).views = s.views := rfl
@[simp] theorem respond_images : (respond p i j k bs v s).images = s.images := rfl
@[simp] theorem respond_imageInUse : (respond p i j k bs v s).imageInUse = s.imageInUse := rfl
@[simp] theorem respond_imageFallback : (respond p i j k bs v s).imageFallback = s.imageFallback := rfl
@[simp] theorem respond_trialReached : (respond p i j k bs v s).trialReached = s.trialReached := rfl
@[simp] theorem respond_privateMode : (respond p i j k bs v s).privateMode = s.privateMode := rfl
@[simp] theorem respond_retained : (respond p i j k bs v s).retained = s.retained := rfl
@[simp] theorem respond_startKind : (respond p i j k bs v s).startKind = s.startKind := rfl
@[simp] theorem respond_keys : (respond p i j k bs v s).keys = s.keys := rfl
@[simp] theorem respond_kept : (respond p i j k bs v s).kept = s.kept := rfl
@[simp] theorem respond_keptB : (respond p i j k bs v s).keptB = s.keptB := rfl
@[simp] theorem respond_freqs : (respond p i j k bs v s).freqs = s.freqs := rfl
@[simp] theorem respond_crossings : (respond p i j k bs v s).crossings = s.crossings := rfl
@[simp] theorem respond_turn : (respond p i j k bs v s).turn = s.turn := rfl
@[simp] theorem respond_screens : (respond p i j k bs v s).screens = s.screens := rfl
@[simp] theorem respond_undefinedCases : (respond p i j k bs v s).undefinedCases = s.undefinedCases := rfl
@[simp] theorem respond_objs : (respond p i j k bs v s).objs = s.objs := rfl
@[simp] theorem respond_output : (respond p i j k bs v s).output = s.output := rfl
@[simp] theorem respond_free : (respond p i j k bs v s).free = s.free := rfl
@[simp] theorem respond_pending : (respond p i j k bs v s).pending = s.pending := rfl
end

/-! ### modPort -/
section
variable (k : Nat) (f : Port → Port)
@[simp] theorem modPort_variant : (modPort k f s).variant = s.variant := rfl
@[simp] theorem modPort_now : (modPort k f s).now = s.now := rfl
@[simp] theorem modPort_ptStarted : (modPort k f s).ptStarted = s.ptStarted := rfl
@[simp] theorem modPort_anchorDie : (modPort k f s).anchorDie = s.anchorDie := rfl
@[simp] theorem modPort_standby : (modPort k f s).standby = s.standby := rfl
@[simp] theorem modPort_takenOver : (modPort k f s).takenOver = s.takenOver := rfl
@[simp] theorem modPort_anchorReady : (modPort k f s).anchorReady = s.anchorReady := rfl
@[simp] theorem modPort_reference : (modPort k f s).reference = s.reference := rfl
@[simp] theorem modPort_referenceLostAt : (modPort k f s).referenceLostAt = s.referenceLostAt := rfl
@[simp] theorem modPort_keepers : (modPort k f s).keepers = s.keepers := rfl
@[simp] theorem modPort_seqr : (modPort k f s).seqr = s.seqr := rfl
@[simp] theorem modPort_dies : (modPort k f s).dies = s.dies := rfl
@[simp] theorem modPort_fields : (modPort k f s).fields = s.fields := rfl
@[simp] theorem modPort_units : (modPort k f s).units = s.units := rfl
@[simp] theorem modPort_fmax : (modPort k f s).fmax = s.fmax := rfl
@[simp] theorem modPort_lcnMap : (modPort k f s).lcnMap = s.lcnMap := rfl
@[simp] theorem modPort_clusterMap : (modPort k f s).clusterMap = s.clusterMap := rfl
@[simp] theorem modPort_lanes : (modPort k f s).lanes = s.lanes := rfl
@[simp] theorem modPort_channels : (modPort k f s).channels = s.channels := rfl
@[simp] theorem modPort_zports : (modPort k f s).zports = s.zports := rfl
@[simp] theorem modPort_lostSlots : (modPort k f s).lostSlots = s.lostSlots := rfl
@[simp] theorem modPort_unreachable : (modPort k f s).unreachable = s.unreachable := rfl
@[simp] theorem modPort_lcns : (modPort k f s).lcns = s.lcns := rfl
@[simp] theorem modPort_cores : (modPort k f s).cores = s.cores := rfl
@[simp] theorem modPort_clusters : (modPort k f s).clusters = s.clusters := rfl
@[simp] theorem modPort_slices : (modPort k f s).slices = s.slices := rfl
@[simp] theorem modPort_generations : (modPort k f s).generations = s.generations := rfl
@[simp] theorem modPort_recomputes : (modPort k f s).recomputes = s.recomputes := rfl
@[simp] theorem modPort_tieBreaks : (modPort k f s).tieBreaks = s.tieBreaks := rfl
@[simp] theorem modPort_thirds : (modPort k f s).thirds = s.thirds := rfl
@[simp] theorem modPort_transfers : (modPort k f s).transfers = s.transfers := rfl
@[simp] theorem modPort_follows : (modPort k f s).follows = s.follows := rfl
@[simp] theorem modPort_inFlight : (modPort k f s).inFlight = s.inFlight := rfl
@[simp] theorem modPort_dram : (modPort k f s).dram = s.dram := rfl
@[simp] theorem modPort_copies : (modPort k f s).copies = s.copies := rfl
@[simp] theorem modPort_changes : (modPort k f s).changes = s.changes := rfl
@[simp] theorem modPort_changeHold : (modPort k f s).changeHold = s.changeHold := rfl
@[simp] theorem modPort_nextChange : (modPort k f s).nextChange = s.nextChange := rfl
@[simp] theorem modPort_commits : (modPort k f s).commits = s.commits := rfl
@[simp] theorem modPort_nextCommit : (modPort k f s).nextCommit = s.nextCommit := rfl
@[simp] theorem modPort_ripcord : (modPort k f s).ripcord = s.ripcord := rfl
@[simp] theorem modPort_model : (modPort k f s).model = s.model := rfl
@[simp] theorem modPort_modelIndex : (modPort k f s).modelIndex = s.modelIndex := rfl
@[simp] theorem modPort_modelFlag : (modPort k f s).modelFlag = s.modelFlag := rfl
@[simp] theorem modPort_qualifying : (modPort k f s).qualifying = s.qualifying := rfl
@[simp] theorem modPort_powerHistory : (modPort k f s).powerHistory = s.powerHistory := rfl
@[simp] theorem modPort_powerLowFrom : (modPort k f s).powerLowFrom = s.powerLowFrom := rfl
@[simp] theorem modPort_powerOverFrom : (modPort k f s).powerOverFrom = s.powerOverFrom := rfl
@[simp] theorem modPort_powerStack : (modPort k f s).powerStack = s.powerStack := rfl
@[simp] theorem modPort_packageReset : (modPort k f s).packageReset = s.packageReset := rfl
@[simp] theorem modPort_paths : (modPort k f s).paths = s.paths := rfl
@[simp] theorem modPort_forced : (modPort k f s).forced = s.forced := rfl
theorem modPort_ports : (modPort k f s).ports = tmod s.ports k Port.empty f := rfl
@[simp] theorem modPort_mailboxes : (modPort k f s).mailboxes = s.mailboxes := rfl
@[simp] theorem modPort_requests : (modPort k f s).requests = s.requests := rfl
@[simp] theorem modPort_snapshot : (modPort k f s).snapshot = s.snapshot := rfl
@[simp] theorem modPort_snapshots : (modPort k f s).snapshots = s.snapshots := rfl
@[simp] theorem modPort_traces : (modPort k f s).traces = s.traces := rfl
@[simp] theorem modPort_views : (modPort k f s).views = s.views := rfl
@[simp] theorem modPort_images : (modPort k f s).images = s.images := rfl
@[simp] theorem modPort_imageInUse : (modPort k f s).imageInUse = s.imageInUse := rfl
@[simp] theorem modPort_imageFallback : (modPort k f s).imageFallback = s.imageFallback := rfl
@[simp] theorem modPort_trialReached : (modPort k f s).trialReached = s.trialReached := rfl
@[simp] theorem modPort_privateMode : (modPort k f s).privateMode = s.privateMode := rfl
@[simp] theorem modPort_retained : (modPort k f s).retained = s.retained := rfl
@[simp] theorem modPort_startKind : (modPort k f s).startKind = s.startKind := rfl
@[simp] theorem modPort_keys : (modPort k f s).keys = s.keys := rfl
@[simp] theorem modPort_kept : (modPort k f s).kept = s.kept := rfl
@[simp] theorem modPort_keptB : (modPort k f s).keptB = s.keptB := rfl
@[simp] theorem modPort_freqs : (modPort k f s).freqs = s.freqs := rfl
@[simp] theorem modPort_crossings : (modPort k f s).crossings = s.crossings := rfl
@[simp] theorem modPort_turn : (modPort k f s).turn = s.turn := rfl
@[simp] theorem modPort_screens : (modPort k f s).screens = s.screens := rfl
@[simp] theorem modPort_undefinedCases : (modPort k f s).undefinedCases = s.undefinedCases := rfl
@[simp] theorem modPort_objs : (modPort k f s).objs = s.objs := rfl
@[simp] theorem modPort_output : (modPort k f s).output = s.output := rfl
@[simp] theorem modPort_free : (modPort k f s).free = s.free := rfl
@[simp] theorem modPort_pending : (modPort k f s).pending = s.pending := rfl
end

/-! ### modMailbox -/
section
variable (k : Nat) (f : Mailbox → Mailbox)
@[simp] theorem modMailbox_variant : (modMailbox k f s).variant = s.variant := rfl
@[simp] theorem modMailbox_now : (modMailbox k f s).now = s.now := rfl
@[simp] theorem modMailbox_ptStarted : (modMailbox k f s).ptStarted = s.ptStarted := rfl
@[simp] theorem modMailbox_anchorDie : (modMailbox k f s).anchorDie = s.anchorDie := rfl
@[simp] theorem modMailbox_standby : (modMailbox k f s).standby = s.standby := rfl
@[simp] theorem modMailbox_takenOver : (modMailbox k f s).takenOver = s.takenOver := rfl
@[simp] theorem modMailbox_anchorReady : (modMailbox k f s).anchorReady = s.anchorReady := rfl
@[simp] theorem modMailbox_reference : (modMailbox k f s).reference = s.reference := rfl
@[simp] theorem modMailbox_referenceLostAt : (modMailbox k f s).referenceLostAt = s.referenceLostAt := rfl
@[simp] theorem modMailbox_keepers : (modMailbox k f s).keepers = s.keepers := rfl
@[simp] theorem modMailbox_seqr : (modMailbox k f s).seqr = s.seqr := rfl
@[simp] theorem modMailbox_dies : (modMailbox k f s).dies = s.dies := rfl
@[simp] theorem modMailbox_fields : (modMailbox k f s).fields = s.fields := rfl
@[simp] theorem modMailbox_units : (modMailbox k f s).units = s.units := rfl
@[simp] theorem modMailbox_fmax : (modMailbox k f s).fmax = s.fmax := rfl
@[simp] theorem modMailbox_lcnMap : (modMailbox k f s).lcnMap = s.lcnMap := rfl
@[simp] theorem modMailbox_clusterMap : (modMailbox k f s).clusterMap = s.clusterMap := rfl
@[simp] theorem modMailbox_lanes : (modMailbox k f s).lanes = s.lanes := rfl
@[simp] theorem modMailbox_channels : (modMailbox k f s).channels = s.channels := rfl
@[simp] theorem modMailbox_zports : (modMailbox k f s).zports = s.zports := rfl
@[simp] theorem modMailbox_lostSlots : (modMailbox k f s).lostSlots = s.lostSlots := rfl
@[simp] theorem modMailbox_unreachable : (modMailbox k f s).unreachable = s.unreachable := rfl
@[simp] theorem modMailbox_lcns : (modMailbox k f s).lcns = s.lcns := rfl
@[simp] theorem modMailbox_cores : (modMailbox k f s).cores = s.cores := rfl
@[simp] theorem modMailbox_clusters : (modMailbox k f s).clusters = s.clusters := rfl
@[simp] theorem modMailbox_slices : (modMailbox k f s).slices = s.slices := rfl
@[simp] theorem modMailbox_generations : (modMailbox k f s).generations = s.generations := rfl
@[simp] theorem modMailbox_recomputes : (modMailbox k f s).recomputes = s.recomputes := rfl
@[simp] theorem modMailbox_tieBreaks : (modMailbox k f s).tieBreaks = s.tieBreaks := rfl
@[simp] theorem modMailbox_thirds : (modMailbox k f s).thirds = s.thirds := rfl
@[simp] theorem modMailbox_transfers : (modMailbox k f s).transfers = s.transfers := rfl
@[simp] theorem modMailbox_follows : (modMailbox k f s).follows = s.follows := rfl
@[simp] theorem modMailbox_inFlight : (modMailbox k f s).inFlight = s.inFlight := rfl
@[simp] theorem modMailbox_dram : (modMailbox k f s).dram = s.dram := rfl
@[simp] theorem modMailbox_copies : (modMailbox k f s).copies = s.copies := rfl
@[simp] theorem modMailbox_changes : (modMailbox k f s).changes = s.changes := rfl
@[simp] theorem modMailbox_changeHold : (modMailbox k f s).changeHold = s.changeHold := rfl
@[simp] theorem modMailbox_nextChange : (modMailbox k f s).nextChange = s.nextChange := rfl
@[simp] theorem modMailbox_commits : (modMailbox k f s).commits = s.commits := rfl
@[simp] theorem modMailbox_nextCommit : (modMailbox k f s).nextCommit = s.nextCommit := rfl
@[simp] theorem modMailbox_ripcord : (modMailbox k f s).ripcord = s.ripcord := rfl
@[simp] theorem modMailbox_model : (modMailbox k f s).model = s.model := rfl
@[simp] theorem modMailbox_modelIndex : (modMailbox k f s).modelIndex = s.modelIndex := rfl
@[simp] theorem modMailbox_modelFlag : (modMailbox k f s).modelFlag = s.modelFlag := rfl
@[simp] theorem modMailbox_qualifying : (modMailbox k f s).qualifying = s.qualifying := rfl
@[simp] theorem modMailbox_powerHistory : (modMailbox k f s).powerHistory = s.powerHistory := rfl
@[simp] theorem modMailbox_powerLowFrom : (modMailbox k f s).powerLowFrom = s.powerLowFrom := rfl
@[simp] theorem modMailbox_powerOverFrom : (modMailbox k f s).powerOverFrom = s.powerOverFrom := rfl
@[simp] theorem modMailbox_powerStack : (modMailbox k f s).powerStack = s.powerStack := rfl
@[simp] theorem modMailbox_packageReset : (modMailbox k f s).packageReset = s.packageReset := rfl
@[simp] theorem modMailbox_paths : (modMailbox k f s).paths = s.paths := rfl
@[simp] theorem modMailbox_forced : (modMailbox k f s).forced = s.forced := rfl
@[simp] theorem modMailbox_ports : (modMailbox k f s).ports = s.ports := rfl
theorem modMailbox_mailboxes : (modMailbox k f s).mailboxes = tmod s.mailboxes k Mailbox.empty f := rfl
@[simp] theorem modMailbox_requests : (modMailbox k f s).requests = s.requests := rfl
@[simp] theorem modMailbox_snapshot : (modMailbox k f s).snapshot = s.snapshot := rfl
@[simp] theorem modMailbox_snapshots : (modMailbox k f s).snapshots = s.snapshots := rfl
@[simp] theorem modMailbox_traces : (modMailbox k f s).traces = s.traces := rfl
@[simp] theorem modMailbox_views : (modMailbox k f s).views = s.views := rfl
@[simp] theorem modMailbox_images : (modMailbox k f s).images = s.images := rfl
@[simp] theorem modMailbox_imageInUse : (modMailbox k f s).imageInUse = s.imageInUse := rfl
@[simp] theorem modMailbox_imageFallback : (modMailbox k f s).imageFallback = s.imageFallback := rfl
@[simp] theorem modMailbox_trialReached : (modMailbox k f s).trialReached = s.trialReached := rfl
@[simp] theorem modMailbox_privateMode : (modMailbox k f s).privateMode = s.privateMode := rfl
@[simp] theorem modMailbox_retained : (modMailbox k f s).retained = s.retained := rfl
@[simp] theorem modMailbox_startKind : (modMailbox k f s).startKind = s.startKind := rfl
@[simp] theorem modMailbox_keys : (modMailbox k f s).keys = s.keys := rfl
@[simp] theorem modMailbox_kept : (modMailbox k f s).kept = s.kept := rfl
@[simp] theorem modMailbox_keptB : (modMailbox k f s).keptB = s.keptB := rfl
@[simp] theorem modMailbox_freqs : (modMailbox k f s).freqs = s.freqs := rfl
@[simp] theorem modMailbox_crossings : (modMailbox k f s).crossings = s.crossings := rfl
@[simp] theorem modMailbox_turn : (modMailbox k f s).turn = s.turn := rfl
@[simp] theorem modMailbox_screens : (modMailbox k f s).screens = s.screens := rfl
@[simp] theorem modMailbox_undefinedCases : (modMailbox k f s).undefinedCases = s.undefinedCases := rfl
@[simp] theorem modMailbox_objs : (modMailbox k f s).objs = s.objs := rfl
@[simp] theorem modMailbox_output : (modMailbox k f s).output = s.output := rfl
@[simp] theorem modMailbox_free : (modMailbox k f s).free = s.free := rfl
@[simp] theorem modMailbox_pending : (modMailbox k f s).pending = s.pending := rfl
end

/-! ### emit -/
section
variable (o : Output)
@[simp] theorem emit_variant : (emit o s).variant = s.variant := rfl
@[simp] theorem emit_now : (emit o s).now = s.now := rfl
@[simp] theorem emit_ptStarted : (emit o s).ptStarted = s.ptStarted := rfl
@[simp] theorem emit_anchorDie : (emit o s).anchorDie = s.anchorDie := rfl
@[simp] theorem emit_standby : (emit o s).standby = s.standby := rfl
@[simp] theorem emit_takenOver : (emit o s).takenOver = s.takenOver := rfl
@[simp] theorem emit_anchorReady : (emit o s).anchorReady = s.anchorReady := rfl
@[simp] theorem emit_reference : (emit o s).reference = s.reference := rfl
@[simp] theorem emit_referenceLostAt : (emit o s).referenceLostAt = s.referenceLostAt := rfl
@[simp] theorem emit_keepers : (emit o s).keepers = s.keepers := rfl
@[simp] theorem emit_seqr : (emit o s).seqr = s.seqr := rfl
@[simp] theorem emit_dies : (emit o s).dies = s.dies := rfl
@[simp] theorem emit_fields : (emit o s).fields = s.fields := rfl
@[simp] theorem emit_units : (emit o s).units = s.units := rfl
@[simp] theorem emit_fmax : (emit o s).fmax = s.fmax := rfl
@[simp] theorem emit_lcnMap : (emit o s).lcnMap = s.lcnMap := rfl
@[simp] theorem emit_clusterMap : (emit o s).clusterMap = s.clusterMap := rfl
@[simp] theorem emit_lanes : (emit o s).lanes = s.lanes := rfl
@[simp] theorem emit_channels : (emit o s).channels = s.channels := rfl
@[simp] theorem emit_zports : (emit o s).zports = s.zports := rfl
@[simp] theorem emit_lostSlots : (emit o s).lostSlots = s.lostSlots := rfl
@[simp] theorem emit_unreachable : (emit o s).unreachable = s.unreachable := rfl
@[simp] theorem emit_lcns : (emit o s).lcns = s.lcns := rfl
@[simp] theorem emit_cores : (emit o s).cores = s.cores := rfl
@[simp] theorem emit_clusters : (emit o s).clusters = s.clusters := rfl
@[simp] theorem emit_slices : (emit o s).slices = s.slices := rfl
@[simp] theorem emit_generations : (emit o s).generations = s.generations := rfl
@[simp] theorem emit_recomputes : (emit o s).recomputes = s.recomputes := rfl
@[simp] theorem emit_tieBreaks : (emit o s).tieBreaks = s.tieBreaks := rfl
@[simp] theorem emit_thirds : (emit o s).thirds = s.thirds := rfl
@[simp] theorem emit_transfers : (emit o s).transfers = s.transfers := rfl
@[simp] theorem emit_follows : (emit o s).follows = s.follows := rfl
@[simp] theorem emit_inFlight : (emit o s).inFlight = s.inFlight := rfl
@[simp] theorem emit_dram : (emit o s).dram = s.dram := rfl
@[simp] theorem emit_copies : (emit o s).copies = s.copies := rfl
@[simp] theorem emit_changes : (emit o s).changes = s.changes := rfl
@[simp] theorem emit_changeHold : (emit o s).changeHold = s.changeHold := rfl
@[simp] theorem emit_nextChange : (emit o s).nextChange = s.nextChange := rfl
@[simp] theorem emit_commits : (emit o s).commits = s.commits := rfl
@[simp] theorem emit_nextCommit : (emit o s).nextCommit = s.nextCommit := rfl
@[simp] theorem emit_ripcord : (emit o s).ripcord = s.ripcord := rfl
@[simp] theorem emit_model : (emit o s).model = s.model := rfl
@[simp] theorem emit_modelIndex : (emit o s).modelIndex = s.modelIndex := rfl
@[simp] theorem emit_modelFlag : (emit o s).modelFlag = s.modelFlag := rfl
@[simp] theorem emit_qualifying : (emit o s).qualifying = s.qualifying := rfl
@[simp] theorem emit_powerHistory : (emit o s).powerHistory = s.powerHistory := rfl
@[simp] theorem emit_powerLowFrom : (emit o s).powerLowFrom = s.powerLowFrom := rfl
@[simp] theorem emit_powerOverFrom : (emit o s).powerOverFrom = s.powerOverFrom := rfl
@[simp] theorem emit_powerStack : (emit o s).powerStack = s.powerStack := rfl
@[simp] theorem emit_packageReset : (emit o s).packageReset = s.packageReset := rfl
@[simp] theorem emit_paths : (emit o s).paths = s.paths := rfl
@[simp] theorem emit_forced : (emit o s).forced = s.forced := rfl
@[simp] theorem emit_ports : (emit o s).ports = s.ports := rfl
@[simp] theorem emit_mailboxes : (emit o s).mailboxes = s.mailboxes := rfl
@[simp] theorem emit_requests : (emit o s).requests = s.requests := rfl
@[simp] theorem emit_snapshot : (emit o s).snapshot = s.snapshot := rfl
@[simp] theorem emit_snapshots : (emit o s).snapshots = s.snapshots := rfl
@[simp] theorem emit_traces : (emit o s).traces = s.traces := rfl
@[simp] theorem emit_views : (emit o s).views = s.views := rfl
@[simp] theorem emit_images : (emit o s).images = s.images := rfl
@[simp] theorem emit_imageInUse : (emit o s).imageInUse = s.imageInUse := rfl
@[simp] theorem emit_imageFallback : (emit o s).imageFallback = s.imageFallback := rfl
@[simp] theorem emit_trialReached : (emit o s).trialReached = s.trialReached := rfl
@[simp] theorem emit_privateMode : (emit o s).privateMode = s.privateMode := rfl
@[simp] theorem emit_retained : (emit o s).retained = s.retained := rfl
@[simp] theorem emit_startKind : (emit o s).startKind = s.startKind := rfl
@[simp] theorem emit_keys : (emit o s).keys = s.keys := rfl
@[simp] theorem emit_kept : (emit o s).kept = s.kept := rfl
@[simp] theorem emit_keptB : (emit o s).keptB = s.keptB := rfl
@[simp] theorem emit_freqs : (emit o s).freqs = s.freqs := rfl
@[simp] theorem emit_crossings : (emit o s).crossings = s.crossings := rfl
@[simp] theorem emit_turn : (emit o s).turn = s.turn := rfl
@[simp] theorem emit_screens : (emit o s).screens = s.screens := rfl
@[simp] theorem emit_undefinedCases : (emit o s).undefinedCases = s.undefinedCases := rfl
@[simp] theorem emit_objs : (emit o s).objs = s.objs := rfl
theorem emit_output : (emit o s).output = s.output ++ [o] := rfl
@[simp] theorem emit_free : (emit o s).free = s.free := rfl
@[simp] theorem emit_pending : (emit o s).pending = s.pending := rfl
end

/-! ### raiseLocal -/
section
variable (d : Nat) (e : Event)
@[simp] theorem raiseLocal_variant : (raiseLocal d e s).variant = s.variant := rfl
@[simp] theorem raiseLocal_now : (raiseLocal d e s).now = s.now := rfl
@[simp] theorem raiseLocal_ptStarted : (raiseLocal d e s).ptStarted = s.ptStarted := rfl
@[simp] theorem raiseLocal_anchorDie : (raiseLocal d e s).anchorDie = s.anchorDie := rfl
@[simp] theorem raiseLocal_standby : (raiseLocal d e s).standby = s.standby := rfl
@[simp] theorem raiseLocal_takenOver : (raiseLocal d e s).takenOver = s.takenOver := rfl
@[simp] theorem raiseLocal_anchorReady : (raiseLocal d e s).anchorReady = s.anchorReady := rfl
@[simp] theorem raiseLocal_reference : (raiseLocal d e s).reference = s.reference := rfl
@[simp] theorem raiseLocal_referenceLostAt : (raiseLocal d e s).referenceLostAt = s.referenceLostAt := rfl
@[simp] theorem raiseLocal_keepers : (raiseLocal d e s).keepers = s.keepers := rfl
@[simp] theorem raiseLocal_seqr : (raiseLocal d e s).seqr = s.seqr := rfl
@[simp] theorem raiseLocal_fields : (raiseLocal d e s).fields = s.fields := rfl
@[simp] theorem raiseLocal_units : (raiseLocal d e s).units = s.units := rfl
@[simp] theorem raiseLocal_fmax : (raiseLocal d e s).fmax = s.fmax := rfl
@[simp] theorem raiseLocal_lcnMap : (raiseLocal d e s).lcnMap = s.lcnMap := rfl
@[simp] theorem raiseLocal_clusterMap : (raiseLocal d e s).clusterMap = s.clusterMap := rfl
@[simp] theorem raiseLocal_lanes : (raiseLocal d e s).lanes = s.lanes := rfl
@[simp] theorem raiseLocal_channels : (raiseLocal d e s).channels = s.channels := rfl
@[simp] theorem raiseLocal_zports : (raiseLocal d e s).zports = s.zports := rfl
@[simp] theorem raiseLocal_lostSlots : (raiseLocal d e s).lostSlots = s.lostSlots := rfl
@[simp] theorem raiseLocal_unreachable : (raiseLocal d e s).unreachable = s.unreachable := rfl
@[simp] theorem raiseLocal_lcns : (raiseLocal d e s).lcns = s.lcns := rfl
@[simp] theorem raiseLocal_cores : (raiseLocal d e s).cores = s.cores := rfl
@[simp] theorem raiseLocal_clusters : (raiseLocal d e s).clusters = s.clusters := rfl
@[simp] theorem raiseLocal_slices : (raiseLocal d e s).slices = s.slices := rfl
@[simp] theorem raiseLocal_generations : (raiseLocal d e s).generations = s.generations := rfl
@[simp] theorem raiseLocal_recomputes : (raiseLocal d e s).recomputes = s.recomputes := rfl
@[simp] theorem raiseLocal_tieBreaks : (raiseLocal d e s).tieBreaks = s.tieBreaks := rfl
@[simp] theorem raiseLocal_thirds : (raiseLocal d e s).thirds = s.thirds := rfl
@[simp] theorem raiseLocal_transfers : (raiseLocal d e s).transfers = s.transfers := rfl
@[simp] theorem raiseLocal_follows : (raiseLocal d e s).follows = s.follows := rfl
@[simp] theorem raiseLocal_inFlight : (raiseLocal d e s).inFlight = s.inFlight := rfl
@[simp] theorem raiseLocal_dram : (raiseLocal d e s).dram = s.dram := rfl
@[simp] theorem raiseLocal_copies : (raiseLocal d e s).copies = s.copies := rfl
@[simp] theorem raiseLocal_changes : (raiseLocal d e s).changes = s.changes := rfl
@[simp] theorem raiseLocal_changeHold : (raiseLocal d e s).changeHold = s.changeHold := rfl
@[simp] theorem raiseLocal_nextChange : (raiseLocal d e s).nextChange = s.nextChange := rfl
@[simp] theorem raiseLocal_commits : (raiseLocal d e s).commits = s.commits := rfl
@[simp] theorem raiseLocal_nextCommit : (raiseLocal d e s).nextCommit = s.nextCommit := rfl
@[simp] theorem raiseLocal_ripcord : (raiseLocal d e s).ripcord = s.ripcord := rfl
@[simp] theorem raiseLocal_model : (raiseLocal d e s).model = s.model := rfl
@[simp] theorem raiseLocal_modelIndex : (raiseLocal d e s).modelIndex = s.modelIndex := rfl
@[simp] theorem raiseLocal_modelFlag : (raiseLocal d e s).modelFlag = s.modelFlag := rfl
@[simp] theorem raiseLocal_qualifying : (raiseLocal d e s).qualifying = s.qualifying := rfl
@[simp] theorem raiseLocal_powerHistory : (raiseLocal d e s).powerHistory = s.powerHistory := rfl
@[simp] theorem raiseLocal_powerLowFrom : (raiseLocal d e s).powerLowFrom = s.powerLowFrom := rfl
@[simp] theorem raiseLocal_powerOverFrom : (raiseLocal d e s).powerOverFrom = s.powerOverFrom := rfl
@[simp] theorem raiseLocal_powerStack : (raiseLocal d e s).powerStack = s.powerStack := rfl
@[simp] theorem raiseLocal_packageReset : (raiseLocal d e s).packageReset = s.packageReset := rfl
@[simp] theorem raiseLocal_paths : (raiseLocal d e s).paths = s.paths := rfl
@[simp] theorem raiseLocal_forced : (raiseLocal d e s).forced = s.forced := rfl
@[simp] theorem raiseLocal_ports : (raiseLocal d e s).ports = s.ports := rfl
@[simp] theorem raiseLocal_mailboxes : (raiseLocal d e s).mailboxes = s.mailboxes := rfl
@[simp] theorem raiseLocal_requests : (raiseLocal d e s).requests = s.requests := rfl
@[simp] theorem raiseLocal_snapshot : (raiseLocal d e s).snapshot = s.snapshot := rfl
@[simp] theorem raiseLocal_snapshots : (raiseLocal d e s).snapshots = s.snapshots := rfl
@[simp] theorem raiseLocal_traces : (raiseLocal d e s).traces = s.traces := rfl
@[simp] theorem raiseLocal_views : (raiseLocal d e s).views = s.views := rfl
@[simp] theorem raiseLocal_images : (raiseLocal d e s).images = s.images := rfl
@[simp] theorem raiseLocal_imageInUse : (raiseLocal d e s).imageInUse = s.imageInUse := rfl
@[simp] theorem raiseLocal_imageFallback : (raiseLocal d e s).imageFallback = s.imageFallback := rfl
@[simp] theorem raiseLocal_trialReached : (raiseLocal d e s).trialReached = s.trialReached := rfl
@[simp] theorem raiseLocal_privateMode : (raiseLocal d e s).privateMode = s.privateMode := rfl
@[simp] theorem raiseLocal_retained : (raiseLocal d e s).retained = s.retained := rfl
@[simp] theorem raiseLocal_startKind : (raiseLocal d e s).startKind = s.startKind := rfl
@[simp] theorem raiseLocal_keys : (raiseLocal d e s).keys = s.keys := rfl
@[simp] theorem raiseLocal_kept : (raiseLocal d e s).kept = s.kept := rfl
@[simp] theorem raiseLocal_keptB : (raiseLocal d e s).keptB = s.keptB := rfl
@[simp] theorem raiseLocal_freqs : (raiseLocal d e s).freqs = s.freqs := rfl
@[simp] theorem raiseLocal_crossings : (raiseLocal d e s).crossings = s.crossings := rfl
@[simp] theorem raiseLocal_turn : (raiseLocal d e s).turn = s.turn := rfl
@[simp] theorem raiseLocal_screens : (raiseLocal d e s).screens = s.screens := rfl
@[simp] theorem raiseLocal_undefinedCases : (raiseLocal d e s).undefinedCases = s.undefinedCases := rfl
@[simp] theorem raiseLocal_objs : (raiseLocal d e s).objs = s.objs := rfl
@[simp] theorem raiseLocal_output : (raiseLocal d e s).output = s.output := rfl
@[simp] theorem raiseLocal_free : (raiseLocal d e s).free = s.free := rfl
@[simp] theorem raiseLocal_pending : (raiseLocal d e s).pending = s.pending := rfl
end

/-! ### takePosition -/
section
@[simp] theorem takePosition_variant : (takePosition s).variant = s.variant := rfl
@[simp] theorem takePosition_now : (takePosition s).now = s.now := rfl
@[simp] theorem takePosition_ptStarted : (takePosition s).ptStarted = s.ptStarted := rfl
@[simp] theorem takePosition_anchorDie : (takePosition s).anchorDie = s.anchorDie := rfl
@[simp] theorem takePosition_standby : (takePosition s).standby = s.standby := rfl
@[simp] theorem takePosition_takenOver : (takePosition s).takenOver = s.takenOver := rfl
@[simp] theorem takePosition_anchorReady : (takePosition s).anchorReady = s.anchorReady := rfl
@[simp] theorem takePosition_reference : (takePosition s).reference = s.reference := rfl
@[simp] theorem takePosition_referenceLostAt : (takePosition s).referenceLostAt = s.referenceLostAt := rfl
@[simp] theorem takePosition_keepers : (takePosition s).keepers = s.keepers := rfl
@[simp] theorem takePosition_dies : (takePosition s).dies = s.dies := rfl
@[simp] theorem takePosition_fields : (takePosition s).fields = s.fields := rfl
@[simp] theorem takePosition_units : (takePosition s).units = s.units := rfl
@[simp] theorem takePosition_fmax : (takePosition s).fmax = s.fmax := rfl
@[simp] theorem takePosition_lcnMap : (takePosition s).lcnMap = s.lcnMap := rfl
@[simp] theorem takePosition_clusterMap : (takePosition s).clusterMap = s.clusterMap := rfl
@[simp] theorem takePosition_lanes : (takePosition s).lanes = s.lanes := rfl
@[simp] theorem takePosition_channels : (takePosition s).channels = s.channels := rfl
@[simp] theorem takePosition_zports : (takePosition s).zports = s.zports := rfl
@[simp] theorem takePosition_lostSlots : (takePosition s).lostSlots = s.lostSlots := rfl
@[simp] theorem takePosition_unreachable : (takePosition s).unreachable = s.unreachable := rfl
@[simp] theorem takePosition_lcns : (takePosition s).lcns = s.lcns := rfl
@[simp] theorem takePosition_cores : (takePosition s).cores = s.cores := rfl
@[simp] theorem takePosition_clusters : (takePosition s).clusters = s.clusters := rfl
@[simp] theorem takePosition_slices : (takePosition s).slices = s.slices := rfl
@[simp] theorem takePosition_generations : (takePosition s).generations = s.generations := rfl
@[simp] theorem takePosition_recomputes : (takePosition s).recomputes = s.recomputes := rfl
@[simp] theorem takePosition_tieBreaks : (takePosition s).tieBreaks = s.tieBreaks := rfl
@[simp] theorem takePosition_thirds : (takePosition s).thirds = s.thirds := rfl
@[simp] theorem takePosition_transfers : (takePosition s).transfers = s.transfers := rfl
@[simp] theorem takePosition_follows : (takePosition s).follows = s.follows := rfl
@[simp] theorem takePosition_inFlight : (takePosition s).inFlight = s.inFlight := rfl
@[simp] theorem takePosition_dram : (takePosition s).dram = s.dram := rfl
@[simp] theorem takePosition_copies : (takePosition s).copies = s.copies := rfl
@[simp] theorem takePosition_changes : (takePosition s).changes = s.changes := rfl
@[simp] theorem takePosition_changeHold : (takePosition s).changeHold = s.changeHold := rfl
@[simp] theorem takePosition_nextChange : (takePosition s).nextChange = s.nextChange := rfl
@[simp] theorem takePosition_commits : (takePosition s).commits = s.commits := rfl
@[simp] theorem takePosition_nextCommit : (takePosition s).nextCommit = s.nextCommit := rfl
@[simp] theorem takePosition_ripcord : (takePosition s).ripcord = s.ripcord := rfl
@[simp] theorem takePosition_model : (takePosition s).model = s.model := rfl
@[simp] theorem takePosition_modelIndex : (takePosition s).modelIndex = s.modelIndex := rfl
@[simp] theorem takePosition_modelFlag : (takePosition s).modelFlag = s.modelFlag := rfl
@[simp] theorem takePosition_qualifying : (takePosition s).qualifying = s.qualifying := rfl
@[simp] theorem takePosition_powerHistory : (takePosition s).powerHistory = s.powerHistory := rfl
@[simp] theorem takePosition_powerLowFrom : (takePosition s).powerLowFrom = s.powerLowFrom := rfl
@[simp] theorem takePosition_powerOverFrom : (takePosition s).powerOverFrom = s.powerOverFrom := rfl
@[simp] theorem takePosition_powerStack : (takePosition s).powerStack = s.powerStack := rfl
@[simp] theorem takePosition_packageReset : (takePosition s).packageReset = s.packageReset := rfl
@[simp] theorem takePosition_paths : (takePosition s).paths = s.paths := rfl
@[simp] theorem takePosition_forced : (takePosition s).forced = s.forced := rfl
@[simp] theorem takePosition_ports : (takePosition s).ports = s.ports := rfl
@[simp] theorem takePosition_mailboxes : (takePosition s).mailboxes = s.mailboxes := rfl
@[simp] theorem takePosition_requests : (takePosition s).requests = s.requests := rfl
@[simp] theorem takePosition_snapshot : (takePosition s).snapshot = s.snapshot := rfl
@[simp] theorem takePosition_snapshots : (takePosition s).snapshots = s.snapshots := rfl
@[simp] theorem takePosition_traces : (takePosition s).traces = s.traces := rfl
@[simp] theorem takePosition_views : (takePosition s).views = s.views := rfl
@[simp] theorem takePosition_images : (takePosition s).images = s.images := rfl
@[simp] theorem takePosition_imageInUse : (takePosition s).imageInUse = s.imageInUse := rfl
@[simp] theorem takePosition_imageFallback : (takePosition s).imageFallback = s.imageFallback := rfl
@[simp] theorem takePosition_trialReached : (takePosition s).trialReached = s.trialReached := rfl
@[simp] theorem takePosition_privateMode : (takePosition s).privateMode = s.privateMode := rfl
@[simp] theorem takePosition_retained : (takePosition s).retained = s.retained := rfl
@[simp] theorem takePosition_startKind : (takePosition s).startKind = s.startKind := rfl
@[simp] theorem takePosition_keys : (takePosition s).keys = s.keys := rfl
@[simp] theorem takePosition_kept : (takePosition s).kept = s.kept := rfl
@[simp] theorem takePosition_keptB : (takePosition s).keptB = s.keptB := rfl
@[simp] theorem takePosition_freqs : (takePosition s).freqs = s.freqs := rfl
@[simp] theorem takePosition_crossings : (takePosition s).crossings = s.crossings := rfl
@[simp] theorem takePosition_turn : (takePosition s).turn = s.turn := rfl
@[simp] theorem takePosition_screens : (takePosition s).screens = s.screens := rfl
@[simp] theorem takePosition_undefinedCases : (takePosition s).undefinedCases = s.undefinedCases := rfl
@[simp] theorem takePosition_objs : (takePosition s).objs = s.objs := rfl
@[simp] theorem takePosition_output : (takePosition s).output = s.output := rfl
@[simp] theorem takePosition_free : (takePosition s).free = s.free := rfl
@[simp] theorem takePosition_pending : (takePosition s).pending = s.pending := rfl
end

/-! ### takeWord -/
section
@[simp] theorem takeWord_variant : (takeWord s).2.variant = s.variant := rfl
@[simp] theorem takeWord_now : (takeWord s).2.now = s.now := rfl
@[simp] theorem takeWord_ptStarted : (takeWord s).2.ptStarted = s.ptStarted := rfl
@[simp] theorem takeWord_anchorDie : (takeWord s).2.anchorDie = s.anchorDie := rfl
@[simp] theorem takeWord_standby : (takeWord s).2.standby = s.standby := rfl
@[simp] theorem takeWord_takenOver : (takeWord s).2.takenOver = s.takenOver := rfl
@[simp] theorem takeWord_anchorReady : (takeWord s).2.anchorReady = s.anchorReady := rfl
@[simp] theorem takeWord_reference : (takeWord s).2.reference = s.reference := rfl
@[simp] theorem takeWord_referenceLostAt : (takeWord s).2.referenceLostAt = s.referenceLostAt := rfl
@[simp] theorem takeWord_keepers : (takeWord s).2.keepers = s.keepers := rfl
@[simp] theorem takeWord_seqr : (takeWord s).2.seqr = s.seqr := rfl
@[simp] theorem takeWord_dies : (takeWord s).2.dies = s.dies := rfl
@[simp] theorem takeWord_fields : (takeWord s).2.fields = s.fields := rfl
@[simp] theorem takeWord_units : (takeWord s).2.units = s.units := rfl
@[simp] theorem takeWord_fmax : (takeWord s).2.fmax = s.fmax := rfl
@[simp] theorem takeWord_lcnMap : (takeWord s).2.lcnMap = s.lcnMap := rfl
@[simp] theorem takeWord_clusterMap : (takeWord s).2.clusterMap = s.clusterMap := rfl
@[simp] theorem takeWord_lanes : (takeWord s).2.lanes = s.lanes := rfl
@[simp] theorem takeWord_channels : (takeWord s).2.channels = s.channels := rfl
@[simp] theorem takeWord_zports : (takeWord s).2.zports = s.zports := rfl
@[simp] theorem takeWord_lostSlots : (takeWord s).2.lostSlots = s.lostSlots := rfl
@[simp] theorem takeWord_unreachable : (takeWord s).2.unreachable = s.unreachable := rfl
@[simp] theorem takeWord_lcns : (takeWord s).2.lcns = s.lcns := rfl
@[simp] theorem takeWord_cores : (takeWord s).2.cores = s.cores := rfl
@[simp] theorem takeWord_clusters : (takeWord s).2.clusters = s.clusters := rfl
@[simp] theorem takeWord_slices : (takeWord s).2.slices = s.slices := rfl
@[simp] theorem takeWord_generations : (takeWord s).2.generations = s.generations := rfl
@[simp] theorem takeWord_recomputes : (takeWord s).2.recomputes = s.recomputes := rfl
@[simp] theorem takeWord_tieBreaks : (takeWord s).2.tieBreaks = s.tieBreaks := rfl
@[simp] theorem takeWord_thirds : (takeWord s).2.thirds = s.thirds := rfl
@[simp] theorem takeWord_transfers : (takeWord s).2.transfers = s.transfers := rfl
@[simp] theorem takeWord_follows : (takeWord s).2.follows = s.follows := rfl
@[simp] theorem takeWord_inFlight : (takeWord s).2.inFlight = s.inFlight := rfl
@[simp] theorem takeWord_dram : (takeWord s).2.dram = s.dram := rfl
@[simp] theorem takeWord_copies : (takeWord s).2.copies = s.copies := rfl
@[simp] theorem takeWord_changes : (takeWord s).2.changes = s.changes := rfl
@[simp] theorem takeWord_changeHold : (takeWord s).2.changeHold = s.changeHold := rfl
@[simp] theorem takeWord_nextChange : (takeWord s).2.nextChange = s.nextChange := rfl
@[simp] theorem takeWord_commits : (takeWord s).2.commits = s.commits := rfl
@[simp] theorem takeWord_nextCommit : (takeWord s).2.nextCommit = s.nextCommit := rfl
@[simp] theorem takeWord_ripcord : (takeWord s).2.ripcord = s.ripcord := rfl
@[simp] theorem takeWord_model : (takeWord s).2.model = s.model := rfl
@[simp] theorem takeWord_modelIndex : (takeWord s).2.modelIndex = s.modelIndex := rfl
@[simp] theorem takeWord_modelFlag : (takeWord s).2.modelFlag = s.modelFlag := rfl
@[simp] theorem takeWord_qualifying : (takeWord s).2.qualifying = s.qualifying := rfl
@[simp] theorem takeWord_powerHistory : (takeWord s).2.powerHistory = s.powerHistory := rfl
@[simp] theorem takeWord_powerLowFrom : (takeWord s).2.powerLowFrom = s.powerLowFrom := rfl
@[simp] theorem takeWord_powerOverFrom : (takeWord s).2.powerOverFrom = s.powerOverFrom := rfl
@[simp] theorem takeWord_powerStack : (takeWord s).2.powerStack = s.powerStack := rfl
@[simp] theorem takeWord_packageReset : (takeWord s).2.packageReset = s.packageReset := rfl
@[simp] theorem takeWord_paths : (takeWord s).2.paths = s.paths := rfl
@[simp] theorem takeWord_forced : (takeWord s).2.forced = s.forced := rfl
@[simp] theorem takeWord_ports : (takeWord s).2.ports = s.ports := rfl
@[simp] theorem takeWord_mailboxes : (takeWord s).2.mailboxes = s.mailboxes := rfl
@[simp] theorem takeWord_requests : (takeWord s).2.requests = s.requests := rfl
@[simp] theorem takeWord_snapshot : (takeWord s).2.snapshot = s.snapshot := rfl
@[simp] theorem takeWord_snapshots : (takeWord s).2.snapshots = s.snapshots := rfl
@[simp] theorem takeWord_traces : (takeWord s).2.traces = s.traces := rfl
@[simp] theorem takeWord_views : (takeWord s).2.views = s.views := rfl
@[simp] theorem takeWord_images : (takeWord s).2.images = s.images := rfl
@[simp] theorem takeWord_imageInUse : (takeWord s).2.imageInUse = s.imageInUse := rfl
@[simp] theorem takeWord_imageFallback : (takeWord s).2.imageFallback = s.imageFallback := rfl
@[simp] theorem takeWord_trialReached : (takeWord s).2.trialReached = s.trialReached := rfl
@[simp] theorem takeWord_privateMode : (takeWord s).2.privateMode = s.privateMode := rfl
@[simp] theorem takeWord_retained : (takeWord s).2.retained = s.retained := rfl
@[simp] theorem takeWord_startKind : (takeWord s).2.startKind = s.startKind := rfl
@[simp] theorem takeWord_keys : (takeWord s).2.keys = s.keys := rfl
@[simp] theorem takeWord_kept : (takeWord s).2.kept = s.kept := rfl
@[simp] theorem takeWord_keptB : (takeWord s).2.keptB = s.keptB := rfl
@[simp] theorem takeWord_freqs : (takeWord s).2.freqs = s.freqs := rfl
@[simp] theorem takeWord_crossings : (takeWord s).2.crossings = s.crossings := rfl
@[simp] theorem takeWord_turn : (takeWord s).2.turn = s.turn := rfl
@[simp] theorem takeWord_screens : (takeWord s).2.screens = s.screens := rfl
@[simp] theorem takeWord_undefinedCases : (takeWord s).2.undefinedCases = s.undefinedCases := rfl
@[simp] theorem takeWord_objs : (takeWord s).2.objs = s.objs := rfl
@[simp] theorem takeWord_output : (takeWord s).2.output = s.output := rfl
theorem takeWord_free : (takeWord s).2.free = s.free + 1 := rfl
@[simp] theorem takeWord_pending : (takeWord s).2.pending = s.pending := rfl
end

/-! ### takeNat -/
section
@[simp] theorem takeNat_variant : (takeNat s).2.variant = s.variant := rfl
@[simp] theorem takeNat_now : (takeNat s).2.now = s.now := rfl
@[simp] theorem takeNat_ptStarted : (takeNat s).2.ptStarted = s.ptStarted := rfl
@[simp] theorem takeNat_anchorDie : (takeNat s).2.anchorDie = s.anchorDie := rfl
@[simp] theorem takeNat_standby : (takeNat s).2.standby = s.standby := rfl
@[simp] theorem takeNat_takenOver : (takeNat s).2.takenOver = s.takenOver := rfl
@[simp] theorem takeNat_anchorReady : (takeNat s).2.anchorReady = s.anchorReady := rfl
@[simp] theorem takeNat_reference : (takeNat s).2.reference = s.reference := rfl
@[simp] theorem takeNat_referenceLostAt : (takeNat s).2.referenceLostAt = s.referenceLostAt := rfl
@[simp] theorem takeNat_keepers : (takeNat s).2.keepers = s.keepers := rfl
@[simp] theorem takeNat_seqr : (takeNat s).2.seqr = s.seqr := rfl
@[simp] theorem takeNat_dies : (takeNat s).2.dies = s.dies := rfl
@[simp] theorem takeNat_fields : (takeNat s).2.fields = s.fields := rfl
@[simp] theorem takeNat_units : (takeNat s).2.units = s.units := rfl
@[simp] theorem takeNat_fmax : (takeNat s).2.fmax = s.fmax := rfl
@[simp] theorem takeNat_lcnMap : (takeNat s).2.lcnMap = s.lcnMap := rfl
@[simp] theorem takeNat_clusterMap : (takeNat s).2.clusterMap = s.clusterMap := rfl
@[simp] theorem takeNat_lanes : (takeNat s).2.lanes = s.lanes := rfl
@[simp] theorem takeNat_channels : (takeNat s).2.channels = s.channels := rfl
@[simp] theorem takeNat_zports : (takeNat s).2.zports = s.zports := rfl
@[simp] theorem takeNat_lostSlots : (takeNat s).2.lostSlots = s.lostSlots := rfl
@[simp] theorem takeNat_unreachable : (takeNat s).2.unreachable = s.unreachable := rfl
@[simp] theorem takeNat_lcns : (takeNat s).2.lcns = s.lcns := rfl
@[simp] theorem takeNat_cores : (takeNat s).2.cores = s.cores := rfl
@[simp] theorem takeNat_clusters : (takeNat s).2.clusters = s.clusters := rfl
@[simp] theorem takeNat_slices : (takeNat s).2.slices = s.slices := rfl
@[simp] theorem takeNat_generations : (takeNat s).2.generations = s.generations := rfl
@[simp] theorem takeNat_recomputes : (takeNat s).2.recomputes = s.recomputes := rfl
@[simp] theorem takeNat_tieBreaks : (takeNat s).2.tieBreaks = s.tieBreaks := rfl
@[simp] theorem takeNat_thirds : (takeNat s).2.thirds = s.thirds := rfl
@[simp] theorem takeNat_transfers : (takeNat s).2.transfers = s.transfers := rfl
@[simp] theorem takeNat_follows : (takeNat s).2.follows = s.follows := rfl
@[simp] theorem takeNat_inFlight : (takeNat s).2.inFlight = s.inFlight := rfl
@[simp] theorem takeNat_dram : (takeNat s).2.dram = s.dram := rfl
@[simp] theorem takeNat_copies : (takeNat s).2.copies = s.copies := rfl
@[simp] theorem takeNat_changes : (takeNat s).2.changes = s.changes := rfl
@[simp] theorem takeNat_changeHold : (takeNat s).2.changeHold = s.changeHold := rfl
@[simp] theorem takeNat_nextChange : (takeNat s).2.nextChange = s.nextChange := rfl
@[simp] theorem takeNat_commits : (takeNat s).2.commits = s.commits := rfl
@[simp] theorem takeNat_nextCommit : (takeNat s).2.nextCommit = s.nextCommit := rfl
@[simp] theorem takeNat_ripcord : (takeNat s).2.ripcord = s.ripcord := rfl
@[simp] theorem takeNat_model : (takeNat s).2.model = s.model := rfl
@[simp] theorem takeNat_modelIndex : (takeNat s).2.modelIndex = s.modelIndex := rfl
@[simp] theorem takeNat_modelFlag : (takeNat s).2.modelFlag = s.modelFlag := rfl
@[simp] theorem takeNat_qualifying : (takeNat s).2.qualifying = s.qualifying := rfl
@[simp] theorem takeNat_powerHistory : (takeNat s).2.powerHistory = s.powerHistory := rfl
@[simp] theorem takeNat_powerLowFrom : (takeNat s).2.powerLowFrom = s.powerLowFrom := rfl
@[simp] theorem takeNat_powerOverFrom : (takeNat s).2.powerOverFrom = s.powerOverFrom := rfl
@[simp] theorem takeNat_powerStack : (takeNat s).2.powerStack = s.powerStack := rfl
@[simp] theorem takeNat_packageReset : (takeNat s).2.packageReset = s.packageReset := rfl
@[simp] theorem takeNat_paths : (takeNat s).2.paths = s.paths := rfl
@[simp] theorem takeNat_forced : (takeNat s).2.forced = s.forced := rfl
@[simp] theorem takeNat_ports : (takeNat s).2.ports = s.ports := rfl
@[simp] theorem takeNat_mailboxes : (takeNat s).2.mailboxes = s.mailboxes := rfl
@[simp] theorem takeNat_requests : (takeNat s).2.requests = s.requests := rfl
@[simp] theorem takeNat_snapshot : (takeNat s).2.snapshot = s.snapshot := rfl
@[simp] theorem takeNat_snapshots : (takeNat s).2.snapshots = s.snapshots := rfl
@[simp] theorem takeNat_traces : (takeNat s).2.traces = s.traces := rfl
@[simp] theorem takeNat_views : (takeNat s).2.views = s.views := rfl
@[simp] theorem takeNat_images : (takeNat s).2.images = s.images := rfl
@[simp] theorem takeNat_imageInUse : (takeNat s).2.imageInUse = s.imageInUse := rfl
@[simp] theorem takeNat_imageFallback : (takeNat s).2.imageFallback = s.imageFallback := rfl
@[simp] theorem takeNat_trialReached : (takeNat s).2.trialReached = s.trialReached := rfl
@[simp] theorem takeNat_privateMode : (takeNat s).2.privateMode = s.privateMode := rfl
@[simp] theorem takeNat_retained : (takeNat s).2.retained = s.retained := rfl
@[simp] theorem takeNat_startKind : (takeNat s).2.startKind = s.startKind := rfl
@[simp] theorem takeNat_keys : (takeNat s).2.keys = s.keys := rfl
@[simp] theorem takeNat_kept : (takeNat s).2.kept = s.kept := rfl
@[simp] theorem takeNat_keptB : (takeNat s).2.keptB = s.keptB := rfl
@[simp] theorem takeNat_freqs : (takeNat s).2.freqs = s.freqs := rfl
@[simp] theorem takeNat_crossings : (takeNat s).2.crossings = s.crossings := rfl
@[simp] theorem takeNat_turn : (takeNat s).2.turn = s.turn := rfl
@[simp] theorem takeNat_screens : (takeNat s).2.screens = s.screens := rfl
@[simp] theorem takeNat_undefinedCases : (takeNat s).2.undefinedCases = s.undefinedCases := rfl
@[simp] theorem takeNat_objs : (takeNat s).2.objs = s.objs := rfl
@[simp] theorem takeNat_output : (takeNat s).2.output = s.output := rfl
theorem takeNat_free : (takeNat s).2.free = s.free + 1 := rfl
@[simp] theorem takeNat_pending : (takeNat s).2.pending = s.pending := rfl
end

/-! ### takeBit -/
section
@[simp] theorem takeBit_variant : (takeBit s).2.variant = s.variant := rfl
@[simp] theorem takeBit_now : (takeBit s).2.now = s.now := rfl
@[simp] theorem takeBit_ptStarted : (takeBit s).2.ptStarted = s.ptStarted := rfl
@[simp] theorem takeBit_anchorDie : (takeBit s).2.anchorDie = s.anchorDie := rfl
@[simp] theorem takeBit_standby : (takeBit s).2.standby = s.standby := rfl
@[simp] theorem takeBit_takenOver : (takeBit s).2.takenOver = s.takenOver := rfl
@[simp] theorem takeBit_anchorReady : (takeBit s).2.anchorReady = s.anchorReady := rfl
@[simp] theorem takeBit_reference : (takeBit s).2.reference = s.reference := rfl
@[simp] theorem takeBit_referenceLostAt : (takeBit s).2.referenceLostAt = s.referenceLostAt := rfl
@[simp] theorem takeBit_keepers : (takeBit s).2.keepers = s.keepers := rfl
@[simp] theorem takeBit_seqr : (takeBit s).2.seqr = s.seqr := rfl
@[simp] theorem takeBit_dies : (takeBit s).2.dies = s.dies := rfl
@[simp] theorem takeBit_fields : (takeBit s).2.fields = s.fields := rfl
@[simp] theorem takeBit_units : (takeBit s).2.units = s.units := rfl
@[simp] theorem takeBit_fmax : (takeBit s).2.fmax = s.fmax := rfl
@[simp] theorem takeBit_lcnMap : (takeBit s).2.lcnMap = s.lcnMap := rfl
@[simp] theorem takeBit_clusterMap : (takeBit s).2.clusterMap = s.clusterMap := rfl
@[simp] theorem takeBit_lanes : (takeBit s).2.lanes = s.lanes := rfl
@[simp] theorem takeBit_channels : (takeBit s).2.channels = s.channels := rfl
@[simp] theorem takeBit_zports : (takeBit s).2.zports = s.zports := rfl
@[simp] theorem takeBit_lostSlots : (takeBit s).2.lostSlots = s.lostSlots := rfl
@[simp] theorem takeBit_unreachable : (takeBit s).2.unreachable = s.unreachable := rfl
@[simp] theorem takeBit_lcns : (takeBit s).2.lcns = s.lcns := rfl
@[simp] theorem takeBit_cores : (takeBit s).2.cores = s.cores := rfl
@[simp] theorem takeBit_clusters : (takeBit s).2.clusters = s.clusters := rfl
@[simp] theorem takeBit_slices : (takeBit s).2.slices = s.slices := rfl
@[simp] theorem takeBit_generations : (takeBit s).2.generations = s.generations := rfl
@[simp] theorem takeBit_recomputes : (takeBit s).2.recomputes = s.recomputes := rfl
@[simp] theorem takeBit_tieBreaks : (takeBit s).2.tieBreaks = s.tieBreaks := rfl
@[simp] theorem takeBit_thirds : (takeBit s).2.thirds = s.thirds := rfl
@[simp] theorem takeBit_transfers : (takeBit s).2.transfers = s.transfers := rfl
@[simp] theorem takeBit_follows : (takeBit s).2.follows = s.follows := rfl
@[simp] theorem takeBit_inFlight : (takeBit s).2.inFlight = s.inFlight := rfl
@[simp] theorem takeBit_dram : (takeBit s).2.dram = s.dram := rfl
@[simp] theorem takeBit_copies : (takeBit s).2.copies = s.copies := rfl
@[simp] theorem takeBit_changes : (takeBit s).2.changes = s.changes := rfl
@[simp] theorem takeBit_changeHold : (takeBit s).2.changeHold = s.changeHold := rfl
@[simp] theorem takeBit_nextChange : (takeBit s).2.nextChange = s.nextChange := rfl
@[simp] theorem takeBit_commits : (takeBit s).2.commits = s.commits := rfl
@[simp] theorem takeBit_nextCommit : (takeBit s).2.nextCommit = s.nextCommit := rfl
@[simp] theorem takeBit_ripcord : (takeBit s).2.ripcord = s.ripcord := rfl
@[simp] theorem takeBit_model : (takeBit s).2.model = s.model := rfl
@[simp] theorem takeBit_modelIndex : (takeBit s).2.modelIndex = s.modelIndex := rfl
@[simp] theorem takeBit_modelFlag : (takeBit s).2.modelFlag = s.modelFlag := rfl
@[simp] theorem takeBit_qualifying : (takeBit s).2.qualifying = s.qualifying := rfl
@[simp] theorem takeBit_powerHistory : (takeBit s).2.powerHistory = s.powerHistory := rfl
@[simp] theorem takeBit_powerLowFrom : (takeBit s).2.powerLowFrom = s.powerLowFrom := rfl
@[simp] theorem takeBit_powerOverFrom : (takeBit s).2.powerOverFrom = s.powerOverFrom := rfl
@[simp] theorem takeBit_powerStack : (takeBit s).2.powerStack = s.powerStack := rfl
@[simp] theorem takeBit_packageReset : (takeBit s).2.packageReset = s.packageReset := rfl
@[simp] theorem takeBit_paths : (takeBit s).2.paths = s.paths := rfl
@[simp] theorem takeBit_forced : (takeBit s).2.forced = s.forced := rfl
@[simp] theorem takeBit_ports : (takeBit s).2.ports = s.ports := rfl
@[simp] theorem takeBit_mailboxes : (takeBit s).2.mailboxes = s.mailboxes := rfl
@[simp] theorem takeBit_requests : (takeBit s).2.requests = s.requests := rfl
@[simp] theorem takeBit_snapshot : (takeBit s).2.snapshot = s.snapshot := rfl
@[simp] theorem takeBit_snapshots : (takeBit s).2.snapshots = s.snapshots := rfl
@[simp] theorem takeBit_traces : (takeBit s).2.traces = s.traces := rfl
@[simp] theorem takeBit_views : (takeBit s).2.views = s.views := rfl
@[simp] theorem takeBit_images : (takeBit s).2.images = s.images := rfl
@[simp] theorem takeBit_imageInUse : (takeBit s).2.imageInUse = s.imageInUse := rfl
@[simp] theorem takeBit_imageFallback : (takeBit s).2.imageFallback = s.imageFallback := rfl
@[simp] theorem takeBit_trialReached : (takeBit s).2.trialReached = s.trialReached := rfl
@[simp] theorem takeBit_privateMode : (takeBit s).2.privateMode = s.privateMode := rfl
@[simp] theorem takeBit_retained : (takeBit s).2.retained = s.retained := rfl
@[simp] theorem takeBit_startKind : (takeBit s).2.startKind = s.startKind := rfl
@[simp] theorem takeBit_keys : (takeBit s).2.keys = s.keys := rfl
@[simp] theorem takeBit_kept : (takeBit s).2.kept = s.kept := rfl
@[simp] theorem takeBit_keptB : (takeBit s).2.keptB = s.keptB := rfl
@[simp] theorem takeBit_freqs : (takeBit s).2.freqs = s.freqs := rfl
@[simp] theorem takeBit_crossings : (takeBit s).2.crossings = s.crossings := rfl
@[simp] theorem takeBit_turn : (takeBit s).2.turn = s.turn := rfl
@[simp] theorem takeBit_screens : (takeBit s).2.screens = s.screens := rfl
@[simp] theorem takeBit_undefinedCases : (takeBit s).2.undefinedCases = s.undefinedCases := rfl
@[simp] theorem takeBit_objs : (takeBit s).2.objs = s.objs := rfl
@[simp] theorem takeBit_output : (takeBit s).2.output = s.output := rfl
theorem takeBit_free : (takeBit s).2.free = s.free + 1 := rfl
@[simp] theorem takeBit_pending : (takeBit s).2.pending = s.pending := rfl
end

/-! ### leaveCase -/
section
variable (k : Nat)
@[simp] theorem leaveCase_variant : (leaveCase k s).variant = s.variant := rfl
@[simp] theorem leaveCase_now : (leaveCase k s).now = s.now := rfl
@[simp] theorem leaveCase_ptStarted : (leaveCase k s).ptStarted = s.ptStarted := rfl
@[simp] theorem leaveCase_anchorDie : (leaveCase k s).anchorDie = s.anchorDie := rfl
@[simp] theorem leaveCase_standby : (leaveCase k s).standby = s.standby := rfl
@[simp] theorem leaveCase_takenOver : (leaveCase k s).takenOver = s.takenOver := rfl
@[simp] theorem leaveCase_anchorReady : (leaveCase k s).anchorReady = s.anchorReady := rfl
@[simp] theorem leaveCase_reference : (leaveCase k s).reference = s.reference := rfl
@[simp] theorem leaveCase_referenceLostAt : (leaveCase k s).referenceLostAt = s.referenceLostAt := rfl
@[simp] theorem leaveCase_keepers : (leaveCase k s).keepers = s.keepers := rfl
@[simp] theorem leaveCase_seqr : (leaveCase k s).seqr = s.seqr := rfl
@[simp] theorem leaveCase_dies : (leaveCase k s).dies = s.dies := rfl
@[simp] theorem leaveCase_fields : (leaveCase k s).fields = s.fields := rfl
@[simp] theorem leaveCase_units : (leaveCase k s).units = s.units := rfl
@[simp] theorem leaveCase_fmax : (leaveCase k s).fmax = s.fmax := rfl
@[simp] theorem leaveCase_lcnMap : (leaveCase k s).lcnMap = s.lcnMap := rfl
@[simp] theorem leaveCase_clusterMap : (leaveCase k s).clusterMap = s.clusterMap := rfl
@[simp] theorem leaveCase_lanes : (leaveCase k s).lanes = s.lanes := rfl
@[simp] theorem leaveCase_channels : (leaveCase k s).channels = s.channels := rfl
@[simp] theorem leaveCase_zports : (leaveCase k s).zports = s.zports := rfl
@[simp] theorem leaveCase_lostSlots : (leaveCase k s).lostSlots = s.lostSlots := rfl
@[simp] theorem leaveCase_unreachable : (leaveCase k s).unreachable = s.unreachable := rfl
@[simp] theorem leaveCase_lcns : (leaveCase k s).lcns = s.lcns := rfl
@[simp] theorem leaveCase_cores : (leaveCase k s).cores = s.cores := rfl
@[simp] theorem leaveCase_clusters : (leaveCase k s).clusters = s.clusters := rfl
@[simp] theorem leaveCase_slices : (leaveCase k s).slices = s.slices := rfl
@[simp] theorem leaveCase_generations : (leaveCase k s).generations = s.generations := rfl
@[simp] theorem leaveCase_recomputes : (leaveCase k s).recomputes = s.recomputes := rfl
@[simp] theorem leaveCase_tieBreaks : (leaveCase k s).tieBreaks = s.tieBreaks := rfl
@[simp] theorem leaveCase_thirds : (leaveCase k s).thirds = s.thirds := rfl
@[simp] theorem leaveCase_transfers : (leaveCase k s).transfers = s.transfers := rfl
@[simp] theorem leaveCase_follows : (leaveCase k s).follows = s.follows := rfl
@[simp] theorem leaveCase_inFlight : (leaveCase k s).inFlight = s.inFlight := rfl
@[simp] theorem leaveCase_dram : (leaveCase k s).dram = s.dram := rfl
@[simp] theorem leaveCase_copies : (leaveCase k s).copies = s.copies := rfl
@[simp] theorem leaveCase_changes : (leaveCase k s).changes = s.changes := rfl
@[simp] theorem leaveCase_changeHold : (leaveCase k s).changeHold = s.changeHold := rfl
@[simp] theorem leaveCase_nextChange : (leaveCase k s).nextChange = s.nextChange := rfl
@[simp] theorem leaveCase_commits : (leaveCase k s).commits = s.commits := rfl
@[simp] theorem leaveCase_nextCommit : (leaveCase k s).nextCommit = s.nextCommit := rfl
@[simp] theorem leaveCase_ripcord : (leaveCase k s).ripcord = s.ripcord := rfl
@[simp] theorem leaveCase_model : (leaveCase k s).model = s.model := rfl
@[simp] theorem leaveCase_modelIndex : (leaveCase k s).modelIndex = s.modelIndex := rfl
@[simp] theorem leaveCase_modelFlag : (leaveCase k s).modelFlag = s.modelFlag := rfl
@[simp] theorem leaveCase_qualifying : (leaveCase k s).qualifying = s.qualifying := rfl
@[simp] theorem leaveCase_powerHistory : (leaveCase k s).powerHistory = s.powerHistory := rfl
@[simp] theorem leaveCase_powerLowFrom : (leaveCase k s).powerLowFrom = s.powerLowFrom := rfl
@[simp] theorem leaveCase_powerOverFrom : (leaveCase k s).powerOverFrom = s.powerOverFrom := rfl
@[simp] theorem leaveCase_powerStack : (leaveCase k s).powerStack = s.powerStack := rfl
@[simp] theorem leaveCase_packageReset : (leaveCase k s).packageReset = s.packageReset := rfl
@[simp] theorem leaveCase_paths : (leaveCase k s).paths = s.paths := rfl
@[simp] theorem leaveCase_forced : (leaveCase k s).forced = s.forced := rfl
@[simp] theorem leaveCase_ports : (leaveCase k s).ports = s.ports := rfl
@[simp] theorem leaveCase_mailboxes : (leaveCase k s).mailboxes = s.mailboxes := rfl
@[simp] theorem leaveCase_requests : (leaveCase k s).requests = s.requests := rfl
@[simp] theorem leaveCase_snapshot : (leaveCase k s).snapshot = s.snapshot := rfl
@[simp] theorem leaveCase_snapshots : (leaveCase k s).snapshots = s.snapshots := rfl
@[simp] theorem leaveCase_traces : (leaveCase k s).traces = s.traces := rfl
@[simp] theorem leaveCase_views : (leaveCase k s).views = s.views := rfl
@[simp] theorem leaveCase_images : (leaveCase k s).images = s.images := rfl
@[simp] theorem leaveCase_imageInUse : (leaveCase k s).imageInUse = s.imageInUse := rfl
@[simp] theorem leaveCase_imageFallback : (leaveCase k s).imageFallback = s.imageFallback := rfl
@[simp] theorem leaveCase_trialReached : (leaveCase k s).trialReached = s.trialReached := rfl
@[simp] theorem leaveCase_privateMode : (leaveCase k s).privateMode = s.privateMode := rfl
@[simp] theorem leaveCase_retained : (leaveCase k s).retained = s.retained := rfl
@[simp] theorem leaveCase_startKind : (leaveCase k s).startKind = s.startKind := rfl
@[simp] theorem leaveCase_keys : (leaveCase k s).keys = s.keys := rfl
@[simp] theorem leaveCase_kept : (leaveCase k s).kept = s.kept := rfl
@[simp] theorem leaveCase_keptB : (leaveCase k s).keptB = s.keptB := rfl
@[simp] theorem leaveCase_freqs : (leaveCase k s).freqs = s.freqs := rfl
@[simp] theorem leaveCase_crossings : (leaveCase k s).crossings = s.crossings := rfl
@[simp] theorem leaveCase_turn : (leaveCase k s).turn = s.turn := rfl
@[simp] theorem leaveCase_screens : (leaveCase k s).screens = s.screens := rfl
theorem leaveCase_undefinedCases : (leaveCase k s).undefinedCases = s.undefinedCases.filter (· ≠ k) := rfl
@[simp] theorem leaveCase_objs : (leaveCase k s).objs = s.objs := rfl
@[simp] theorem leaveCase_output : (leaveCase k s).output = s.output := rfl
@[simp] theorem leaveCase_free : (leaveCase k s).free = s.free := rfl
@[simp] theorem leaveCase_pending : (leaveCase k s).pending = s.pending := rfl
end

end Sys2Proof.Machine
end

