-- ==== Sys2Proof/Laws/Ops.lean ====
section
/-!
SUPPORT. What the shared operations do, said once: tables, the bytes of the store, and the records that are read
after they have been changed.
-/
namespace Sys2Proof.Machine

/-! ### Tables -/

theorem tget_tset_same {α : Type} (t : Tab α) (k : Nat) (v : α) : tget (tset t k v) k = some v := by
  induction t with
  | nil => simp [tset, tget]
  | cons e r ih =>
    obtain ⟨k', v'⟩ := e
    simp only [tset]
    split
    · simp [tget]
    · split
      · simp [tget]
      · rename_i h1 h2
        have : k' ≠ k := fun h => h2 h.symm
        simp [tget, this, ih]

theorem tget_tset_ne {α : Type} (t : Tab α) {k j : Nat} (v : α) (h : j ≠ k) : tget (tset t k v) j = tget t j := by
  have hk : k ≠ j := fun e => h e.symm
  induction t with
  | nil => simp [tset, tget, hk]
  | cons e r ih =>
    obtain ⟨k', v'⟩ := e
    simp only [tset]
    split
    · simp [tget, hk]
    · split
      · rename_i h1 h2
        subst h2
        simp [tget, hk]
      · simp only [tget]
        split
        · rfl
        · exact ih

theorem tget_tset {α : Type} (t : Tab α) (k j : Nat) (v : α) : tget (tset t k v) j = if j = k then some v else tget t j := by
  by_cases h : j = k
  · subst h; simp [tget_tset_same]
  · simp [tget_tset_ne t v h, h]

@[simp] theorem tgetD_tset_same {α : Type} (t : Tab α) (k : Nat) (v d : α) : tgetD (tset t k v) k d = v := by
  simp [tgetD, tget_tset_same]

theorem tgetD_tset_ne {α : Type} (t : Tab α) {k j : Nat} (v d : α) (h : j ≠ k) : tgetD (tset t k v) j d = tgetD t j d := by
  simp [tgetD, tget_tset_ne t v h]

@[simp] theorem tgetD_tmod_same {α : Type} (t : Tab α) (k : Nat) (d : α) (f : α → α) :
    tgetD (tmod t k d f) k d = f (tgetD t k d) := by
  simp [tmod]

theorem tgetD_tmod_ne {α : Type} (t : Tab α) {k j : Nat} (d e : α) (f : α → α) (h : j ≠ k) :
    tgetD (tmod t k d f) j e = tgetD t j e := by
  simp [tmod, tgetD_tset_ne _ _ _ h]

theorem tget_tupd_same {α : Type} (t : Tab α) (k : Nat) (f : α → α) : tget (tupd t k f) k = (tget t k).map f := by
  induction t with
  | nil => rfl
  | cons e r ih =>
    obtain ⟨k', v'⟩ := e
    simp only [tupd, List.map_cons, tget]
    by_cases h : k' = k
    · simp [h]
    · simp only [h, if_false]
      exact ih

theorem tget_tupd_ne {α : Type} (t : Tab α) {k j : Nat} (f : α → α) (h : j ≠ k) : tget (tupd t k f) j = tget t j := by
  induction t with
  | nil => rfl
  | cons e r ih =>
    obtain ⟨k', v'⟩ := e
    simp only [tupd, List.map_cons, tget]
    by_cases h1 : k' = k
    · subst h1
      have : ¬ k' = j := fun e => h e.symm
      simp only [if_true, this, if_false]
      exact ih
    · simp only [h1, if_false]
      split
      · rfl
      · exact ih

/-- The entry that the nth place of a changed list holds. -/
theorem getD_modify {α : Type} (l : List α) (d e : Nat) (f : α → α) (x : α) :
    (l.modify d f).getD e x = if d = e ∧ e < l.length then f (l.getD e x) else l.getD e x := by
  simp only [List.getD_eq_getElem?_getD, List.getElem?_modify]
  by_cases hd : d = e <;> by_cases he : e < l.length
  · subst hd; simp [he]
  · subst hd; simp [he]
  · simp [hd]
  · simp [hd]

/-! ### Records after a change -/
section
variable (s : State)

theorem die_modDie (d e : Nat) (f : Die → Die) :
    die (modDie d f s) e = if d = e ∧ e < s.dies.length then f (die s e) else die s e := by
  exact getD_modify s.dies d e f Die.reset
theorem die_modDie_same {d : Nat} (f : Die → Die) (h : d < s.dies.length) : die (modDie d f s) d = f (die s d) := by
  simp [die_modDie, h]
theorem die_modDie_ne {d e : Nat} (f : Die → Die) (h : e ≠ d) : die (modDie d f s) e = die s e := by
  have : d ≠ e := fun x => h x.symm
  simp [die_modDie, this]
theorem field_modField (d e : Nat) (f : Field → Field) :
    field (modField d f s) e = if d = e ∧ e < s.fields.length then f (field s e) else field s e := by
  exact getD_modify s.fields d e f Field.reset
theorem field_modField_same {d : Nat} (f : Field → Field) (h : d < s.fields.length) :
    field (modField d f s) d = f (field s d) := by
  simp [field_modField, h]
theorem field_modField_ne {d e : Nat} (f : Field → Field) (h : e ≠ d) : field (modField d f s) e = field s e := by
  have : d ≠ e := fun x => h x.symm
  simp [field_modField, this]
@[simp] theorem dies_length_modDie (d : Nat) (f : Die → Die) : (modDie d f s).dies.length = s.dies.length := by
  simp [modDie]
@[simp] theorem fields_length_modField (d : Nat) (f : Field → Field) : (modField d f s).fields.length = s.fields.length := by
  simp [modField]
@[simp] theorem unitRec_modUnit_same (p : Nat) (f : UnitRec → UnitRec) : unitRec (modUnit p f s) p = f (unitRec s p) := by
  simp [unitRec, modUnit]
theorem unitRec_modUnit_ne {p q : Nat} (f : UnitRec → UnitRec) (h : q ≠ p) : unitRec (modUnit p f s) q = unitRec s q := by
  simp [unitRec, modUnit, tgetD_tmod_ne _ _ _ _ h]
@[simp] theorem core_modCore_same (p : Nat) (f : Core → Core) : core (modCore p f s) p = f (core s p) := by
  simp [core, modCore]
theorem core_modCore_ne {p q : Nat} (f : Core → Core) (h : q ≠ p) : core (modCore p f s) q = core s q := by
  simp [core, modCore, tgetD_tmod_ne _ _ _ _ h]
@[simp] theorem cluster_modCluster_same (p : Nat) (f : Cluster → Cluster) :
    cluster (modCluster p f s) p = f (cluster s p) := by
  simp [cluster, modCluster]
theorem cluster_modCluster_ne {p q : Nat} (f : Cluster → Cluster) (h : q ≠ p) :
    cluster (modCluster p f s) q = cluster s q := by
  simp [cluster, modCluster, tgetD_tmod_ne _ _ _ _ h]
@[simp] theorem lcnRec_modLcn_same (p : Nat) (f : LcnRec → LcnRec) : lcnRec (modLcn p f s) p = f (lcnRec s p) := by
  simp [lcnRec, modLcn]
theorem lcnRec_modLcn_ne {p q : Nat} (f : LcnRec → LcnRec) (h : q ≠ p) : lcnRec (modLcn p f s) q = lcnRec s q := by
  simp [lcnRec, modLcn, tgetD_tmod_ne _ _ _ _ h]
theorem slice_modSlice_same (k : Nat) (f : Slice → Slice) : slice (modSlice k f s) k = (slice s k).map f := by
  simp [slice, modSlice, tget_tupd_same]
theorem slice_modSlice_ne {k j : Nat} (f : Slice → Slice) (h : j ≠ k) : slice (modSlice k f s) j = slice s j := by
  simp [slice, modSlice, tget_tupd_ne _ _ h]
@[simp] theorem obj_setObj_same (k v d : Nat) : obj (setObj k v s) k d = v := by
  simp [obj, setObj]
theorem obj_setObj_ne {k j : Nat} (v d : Nat) (h : j ≠ k) : obj (setObj k v s) j d = obj s j d := by
  simp [obj, setObj, tgetD_tset_ne _ _ _ h]
@[simp] theorem obj_addObj_same (k n : Nat) : obj (addObj k n s) k 0 = obj s k 0 + n := by
  simp [obj, addObj]
theorem obj_addObj_ne {k j : Nat} (n d : Nat) (h : j ≠ k) : obj (addObj k n s) j d = obj s j d := by
  simp [obj, addObj, tgetD_tmod_ne _ _ _ _ h]
@[simp] theorem port_modPort_same (k : Nat) (f : Port → Port) : port (modPort k f s) k = f (port s k) := by
  simp [port, modPort]
theorem port_modPort_ne {k j : Nat} (f : Port → Port) (h : j ≠ k) : port (modPort k f s) j = port s j := by
  simp [port, modPort, tgetD_tmod_ne _ _ _ _ h]
@[simp] theorem mailbox_modMailbox_same (k : Nat) (f : Mailbox → Mailbox) :
    mailbox (modMailbox k f s) k = f (mailbox s k) := by
  simp [mailbox, modMailbox]
theorem mailbox_modMailbox_ne {k j : Nat} (f : Mailbox → Mailbox) (h : j ≠ k) :
    mailbox (modMailbox k f s) j = mailbox s j := by
  simp [mailbox, modMailbox, tgetD_tmod_ne _ _ _ _ h]
@[simp] theorem path_modPath_same (p : Path) (f : PathState → PathState) : path (modPath p f s) p = f (path s p) := by
  simp [path, modPath]
theorem path_modPath_ne {p q : Path} (f : PathState → PathState) (h : pathKey q ≠ pathKey p) :
    path (modPath p f s) q = path s q := by
  simp [path, modPath, tgetD_tmod_ne _ _ _ _ h]
@[simp] theorem keeper_modKeeper_same (k : Nat) (f : Keeper → Keeper) : keeper (modKeeper k f s) k = f (keeper s k) := by
  simp [keeper, modKeeper]
theorem keeper_modKeeper_ne {k j : Nat} (f : Keeper → Keeper) (h : j ≠ k) : keeper (modKeeper k f s) j = keeper s j := by
  simp [keeper, modKeeper, tgetD_tmod_ne _ _ _ _ h]
end

/-! ### The bytes of the store -/

theorem memWfFrom_memPut (a : Nat) (b : Byte) : ∀ (m : List Host.Cell) (lo : Nat), lo ≤ a → memWfFrom lo m = true →
    memWfFrom lo (memPut m a b) = true := by
  intro m
  induction m with
  | nil => intro lo h _; simp [memPut, memWfFrom, h]
  | cons e r ih =>
    obtain ⟨a', b'⟩ := e
    intro lo h w
    simp only [memWfFrom, Bool.and_eq_true, decide_eq_true_eq] at w
    simp only [memPut]
    split
    · simp only [memWfFrom, Bool.and_eq_true, decide_eq_true_eq]
      exact ⟨h, by omega, w.2⟩
    · split
      · subst_vars
        simp only [memWfFrom, Bool.and_eq_true, decide_eq_true_eq]
        exact ⟨h, w.2⟩
      · simp only [memWfFrom, Bool.and_eq_true, decide_eq_true_eq]
        exact ⟨w.1, ih _ (by omega) w.2⟩

/-- Writing a byte keeps the canonical form. -/
theorem wf_memPut {m : List Host.Cell} (a : Nat) (b : Byte) (h : Memory.wf m = true) : Memory.wf (memPut m a b) = true :=
  memWfFrom_memPut a b m 0 (Nat.zero_le a) h

/-- Writing bytes keeps the canonical form. -/
theorem wf_memPutAll (bs : List Byte) : ∀ {m : List Host.Cell} (a : Nat), Memory.wf m = true →
    Memory.wf (memPutAll m a bs) = true := by
  induction bs with
  | nil => intro m a h; exact h
  | cons b r ih => intro m a h; exact ih (a + 1) (wf_memPut a b h)

theorem memWfFrom_mono (m : List Host.Cell) : ∀ {a b : Nat}, a ≤ b → memWfFrom b m = true → memWfFrom a m = true := by
  cases m with
  | nil => intro a b _ _; rfl
  | cons c r =>
    intro a b h g
    simp only [memWfFrom, Bool.and_eq_true, decide_eq_true_eq] at g ⊢
    exact ⟨by omega, g.2⟩
/-- Dropping cells keeps the canonical form. -/
theorem wf_filter {m : List Host.Cell} (f : Host.Cell → Bool) (h : Memory.wf m = true) : Memory.wf (m.filter f) = true := by
  suffices ∀ (m : List Host.Cell) (a : Nat), memWfFrom a m = true → memWfFrom a (m.filter f) = true from this m 0 h
  intro m
  induction m with
  | nil => intro a h; exact h
  | cons c r ih =>
    intro a h
    simp only [memWfFrom, Bool.and_eq_true] at h
    simp only [List.filter_cons]
    split
    · simp only [memWfFrom, Bool.and_eq_true]
      exact ⟨h.1, ih _ h.2⟩
    · exact memWfFrom_mono _ (by simp only [decide_eq_true_eq] at h; omega) (ih _ h.2)

/-- The stores of a package after reset are in canonical form. -/
theorem wf_reset : ∀ x ∈ State.reset.dies, Memory.wf x.store = true := by decide

/-- Reading after a write of one byte. -/
theorem memGet_memPut (a : Nat) (b : Byte) (x : Nat) : ∀ m : List Host.Cell,
    memGet (memPut m a b) x = if x = a then some b else memGet m x := by
  intro m
  induction m with
  | nil =>
    by_cases h : x = a
    · simp [memPut, memGet, h]
    · simp [memPut, memGet, h, Ne.symm h]
  | cons e r ih =>
    obtain ⟨a', b'⟩ := e
    simp only [memPut]
    split
    · by_cases h : x = a
      · simp [memGet, h]
      · simp [memGet, h, Ne.symm h]
    · split
      · subst_vars
        by_cases h : x = a'
        · simp [memGet, h]
        · simp [memGet, h, Ne.symm h]
      · simp only [memGet, ih]
        by_cases h : a' = x
        · have : x ≠ a := by omega
          simp [h, this]
        · simp [h]

/-- Bytes outside a run of written bytes stay. -/
theorem memGet_memPutAll_outside (bs : List Byte) : ∀ {m : List Host.Cell} (a x : Nat),
    (x < a ∨ a + bs.length ≤ x) → memGet (memPutAll m a bs) x = memGet m x := by
  induction bs with
  | nil => intros; rfl
  | cons b r ih =>
    intro m a x hx
    simp only [List.length_cons] at hx
    have hne : x ≠ a := by omega
    show memGet (memPutAll (memPut m a b) (a + 1) r) x = _
    rw [ih (a + 1) x (by omega), memGet_memPut a b]
    simp [hne]

end Sys2Proof.Machine
end

