-- ==== Sys2Proof/Laws/Keeps.lean ====
section
/-!
SUPPORT. What every operation and every command keeps: the variant, the queue, the clock (but for the time that a
command takes), the dies and fields of the variant, and stores in canonical form. One lemma for each operation (`kept_…`) and one for
each command (`ends_…`); they are what the invariant of the certificates rests on.
-/
namespace Sys2Proof.Machine

/-- `t` keeps of `s` what no operation changes, and stores in canonical form stay so. -/
structure Keeps (s t : State) : Prop where
  variant : t.variant = s.variant
  now : t.now = s.now
  pending : t.pending = s.pending
  fields : 6 * s.variant.dies ≤ s.fields.length → 6 * s.variant.dies ≤ t.fields.length
  dies : s.variant.dies ≤ s.dies.length → s.variant.dies ≤ t.dies.length
  stores : (∀ x ∈ s.dies, Memory.wf x.store = true) → ∀ x ∈ t.dies, Memory.wf x.store = true

theorem Keeps.refl (s : State) : Keeps s s := ⟨rfl, rfl, rfl, fun h => h, fun h => h, fun h => h⟩
theorem Keeps.trans {s t u : State} (h : Keeps s t) (g : Keeps t u) : Keeps s u :=
  ⟨g.variant.trans h.variant, g.now.trans h.now, g.pending.trans h.pending,
   fun w => h.variant ▸ g.fields (h.variant.symm ▸ h.fields w),
   fun w => h.variant ▸ g.dies (h.variant.symm ▸ h.dies w), fun w => g.stores (h.stores w)⟩
theorem Keeps.ite {s a b : State} {c : Prop} [Decidable c] (h : c → Keeps s a) (g : ¬ c → Keeps s b) :
    Keeps s (if c then a else b) := by
  split
  · exact h ‹_›
  · exact g ‹_›
theorem Keeps.ite1 {s : State} {α : Type} {a b : α × State} {c : Prop} [Decidable c] (h : c → Keeps s a.2)
    (g : ¬ c → Keeps s b.2) : Keeps s (if c then a else b).2 := by
  split
  · exact h ‹_›
  · exact g ‹_›
theorem Keeps.ite2 {s : State} {α β : Type} {a b : α × β × State} {c : Prop} [Decidable c] (h : c → Keeps s a.2.2)
    (g : ¬ c → Keeps s b.2.2) : Keeps s (if c then a else b).2.2 := by
  split
  · exact h ‹_›
  · exact g ‹_›
theorem Keeps.snd {s e : State} {α : Type} {a : α} (h : Keeps s e) : Keeps s (a, e).2 := h
theorem Keeps.snd2 {s : State} {α β : Type} {a : α} {e : β × State} (h : Keeps s e.2) : Keeps s (a, e).2.2 := h
theorem Keeps.of_eq1 {s a : State} {α : Type} {x : α} {e : α × State} (h : e = (x, a)) (k : Keeps s e.2) : Keeps s a := by
  subst h
  exact k
theorem Keeps.of_eq2 {s a : State} {α β : Type} {x : α} {y : β} {e : α × β × State} (h : e = (x, y, a))
    (k : Keeps s e.2.2) : Keeps s a := by
  subst h
  exact k
theorem Keeps.foldl {α : Type} {f : State → α → State} (h : ∀ x a, Keeps x (f x a)) {l : List α} :
    ∀ {s e : State}, Keeps s e → Keeps s (l.foldl f e) := by
  induction l with
  | nil => intro s e g; exact g
  | cons a r ih => intro s e g; exact ih (g.trans (h e a))
theorem Keeps.update {s e : State} {a2 : Bool} {a3 : Nat} {a4 : Bool} {a5 : Bool} {a6 : Bool} {a7 : Bool} {a8 : Nat} {a9 : Tab Keeper} {a10 : Sequencer} {a13 : Tab UnitRec} {a14 : Tab FmaxRec} {a15 : Tab (Option Nat)} {a16 : Tab (Option Nat)} {a17 : Tab Nat} {a18 : Tab Nat} {a19 : Tab Nat} {a20 : Tab Nat} {a21 : List Nat} {a22 : Tab LcnRec} {a23 : Tab Core} {a24 : Tab Cluster} {a25 : Tab Slice} {a26 : Tab Nat} {a27 : Tab Recompute} {a28 : Tab Arbitration} {a29 : Tab Arbitration} {a30 : Tab OpenTransfer} {a31 : Tab Followed} {a32 : List (Nat × Nat)} {a33 : Tab DramBlock} {a34 : List Copy} {a35 : List Change} {a36 : List Nat} {a37 : Nat} {a38 : List Commit} {a39 : Nat} {a40 : Ripcord} {a41 : List Nat} {a42 : Nat} {a43 : Bool} {a44 : Stopwatch} {a45 : List Nat} {a46 : Option Nat} {a47 : Option Nat} {a48 : List Nat} {a49 : Option ResetRun} {a50 : Tab PathState} {a51 : List Forced} {a52 : Tab Port} {a53 : Tab Mailbox} {a54 : List (Nat × MailReq × List Byte)} {a55 : Option Snapshot} {a56 : Nat} {a57 : Tab TraceSlot} {a58 : Tab Nat} {a59 : List ImageSlot} {a60 : Nat} {a61 : Bool} {a62 : Bool} {a63 : Bool} {a64 : Bool} {a65 : StartKind} {a66 : Tab (List Byte)} {a67 : Stored} {a68 : Stored} {a69 : Tab Nat} {a70 : Tab Nat} {a71 : Nat} {a72 : Tab Screen} {a73 : List Nat} {a74 : Tab Nat} {a75 : List Output} {a76 : Nat} (h : Keeps s e) :
    Keeps s ⟨e.variant, e.now, a2, a3, a4, a5, a6, a7, a8, a9, a10, e.dies, e.fields, a13, a14, a15, a16, a17, a18, a19, a20, a21, a22, a23, a24, a25, a26, a27, a28, a29, a30, a31, a32, a33, a34, a35, a36, a37, a38, a39, a40, a41, a42, a43, a44, a45, a46, a47, a48, a49, a50, a51, a52, a53, a54, a55, a56, a57, a58, a59, a60, a61, a62, a63, a64, a65, a66, a67, a68, a69, a70, a71, a72, a73, a74, a75, a76, e.pending⟩ :=
  h.trans ⟨rfl, rfl, rfl, fun w => w, fun w => w, fun w => w⟩
theorem Keeps.update_whole {s e : State} {a2 : Bool} {a3 : Nat} {a4 : Bool} {a5 : Bool} {a6 : Bool} {a7 : Bool} {a8 : Nat} {a9 : Tab Keeper} {a10 : Sequencer} {a11 : List Die} {a12 : List Field} {a13 : Tab UnitRec} {a14 : Tab FmaxRec} {a15 : Tab (Option Nat)} {a16 : Tab (Option Nat)} {a17 : Tab Nat} {a18 : Tab Nat} {a19 : Tab Nat} {a20 : Tab Nat} {a21 : List Nat} {a22 : Tab LcnRec} {a23 : Tab Core} {a24 : Tab Cluster} {a25 : Tab Slice} {a26 : Tab Nat} {a27 : Tab Recompute} {a28 : Tab Arbitration} {a29 : Tab Arbitration} {a30 : Tab OpenTransfer} {a31 : Tab Followed} {a32 : List (Nat × Nat)} {a33 : Tab DramBlock} {a34 : List Copy} {a35 : List Change} {a36 : List Nat} {a37 : Nat} {a38 : List Commit} {a39 : Nat} {a40 : Ripcord} {a41 : List Nat} {a42 : Nat} {a43 : Bool} {a44 : Stopwatch} {a45 : List Nat} {a46 : Option Nat} {a47 : Option Nat} {a48 : List Nat} {a49 : Option ResetRun} {a50 : Tab PathState} {a51 : List Forced} {a52 : Tab Port} {a53 : Tab Mailbox} {a54 : List (Nat × MailReq × List Byte)} {a55 : Option Snapshot} {a56 : Nat} {a57 : Tab TraceSlot} {a58 : Tab Nat} {a59 : List ImageSlot} {a60 : Nat} {a61 : Bool} {a62 : Bool} {a63 : Bool} {a64 : Bool} {a65 : StartKind} {a66 : Tab (List Byte)} {a67 : Stored} {a68 : Stored} {a69 : Tab Nat} {a70 : Tab Nat} {a71 : Nat} {a72 : Tab Screen} {a73 : List Nat} {a74 : Tab Nat} {a75 : List Output} {a76 : Nat} (h : Keeps s e)
    (hf : a12.length = e.fields.length) (hd : a11.length = e.dies.length)
    (hs : (∀ x ∈ e.dies, Memory.wf x.store = true) → ∀ x ∈ a11, Memory.wf x.store = true) :
    Keeps s ⟨e.variant, e.now, a2, a3, a4, a5, a6, a7, a8, a9, a10, a11, a12, a13, a14, a15, a16, a17, a18, a19, a20, a21, a22, a23, a24, a25, a26, a27, a28, a29, a30, a31, a32, a33, a34, a35, a36, a37, a38, a39, a40, a41, a42, a43, a44, a45, a46, a47, a48, a49, a50, a51, a52, a53, a54, a55, a56, a57, a58, a59, a60, a61, a62, a63, a64, a65, a66, a67, a68, a69, a70, a71, a72, a73, a74, a75, a76, e.pending⟩ :=
  h.trans ⟨rfl, rfl, rfl, fun w => w.trans_eq hf.symm, fun w => w.trans_eq hd.symm, hs⟩
theorem Keeps.map_stores {l : List Die} {g : Die → Die} (h : ∀ x, (g x).store = x.store)
    (w : ∀ x ∈ l, Memory.wf x.store = true) : ∀ x ∈ l.map g, Memory.wf x.store = true := by
  intro x hx
  obtain ⟨y, hy, rfl⟩ := List.mem_map.1 hx
  rw [h]
  exact w y hy
theorem mem_modify {α : Type} {f : α → α} : ∀ {l : List α} {d : Nat} {x : α}, x ∈ l.modify d f → x ∈ l ∨ ∃ y ∈ l, x = f y := by
  intro l
  induction l with
  | nil => intro d x h; cases d <;> simp at h
  | cons a r ih =>
    intro d x h
    cases d with
    | zero =>
      rcases List.mem_cons.1 h with h | h
      · exact .inr ⟨a, List.mem_cons_self, h⟩
      · exact .inl (List.mem_cons_of_mem _ h)
    | succ n =>
      rcases List.mem_cons.1 h with h | h
      · exact .inl (h ▸ List.mem_cons_self)
      · rcases ih h with g | ⟨y, hy, e⟩
        · exact .inl (List.mem_cons_of_mem _ g)
        · exact .inr ⟨y, List.mem_cons_of_mem _ hy, e⟩
/-- Whatever a command answers keeps what it starts from. -/
def Ends (s : State) (o : Result) : Prop := ∀ t, o = .next t → Keeps s t
theorem Ends.done {s e : State} (h : Keeps s e) : Ends s (done e) := by
  intro t g
  cases g
  exact h
theorem Ends.ite {s : State} {a b : Result} {c : Prop} [Decidable c] (h : c → Ends s a) (g : ¬ c → Ends s b) :
    Ends s (if c then a else b) := by
  split
  · exact h ‹_›
  · exact g ‹_›

end Sys2Proof.Machine
end

