-- ==== Sys2Proof/Laws/Kept/Ops.lean ====
section
/-!
SUPPORT. What the operations and commands of Machine/Ops.lean keep (see Laws/Keeps.lean).
-/
namespace Sys2Proof.Machine

theorem kept_setObj (k : Nat) (v : Nat) (s0 : State) : Keeps s0 (setObj k v s0) := by
  unfold setObj
  refine Keeps.update ?_
  exact Keeps.refl _

theorem kept_modPath (p : Path) (f : PathState → PathState) (s0 : State) : Keeps s0 (modPath p f s0) := by
  unfold modPath
  refine Keeps.update ?_
  exact Keeps.refl _

theorem kept_respond (p : Path) (index : Nat) (sub : Nat) (status : Nat) (data : List Byte) (position : Nat) (s0 : State) : Keeps s0 (respond p index sub status data position s0) := by
  unfold respond
  refine Keeps.trans ?_ (kept_modPath _ _ _)
  exact Keeps.refl _

theorem kept_consumeGrant (p : Path) (action : Nat) (target : Nat) (s0 : State) : Keeps s0 (consumeGrant p action target s0) := by
  unfold consumeGrant
  extract_lets +onlyGivenNames -underBinder -merge -useContext v0
  refine Keeps.trans ?_ (kept_modPath _ _ _)
  exact Keeps.refl _

theorem kept_modUnit (p : Nat) (f : UnitRec → UnitRec) (s0 : State) : Keeps s0 (modUnit p f s0) := by
  unfold modUnit
  refine Keeps.update ?_
  exact Keeps.refl _

theorem kept_setObjs (l : List (Nat × Nat)) (s0 : State) : Keeps s0 (setObjs l s0) := by
  unfold setObjs
  refine Keeps.foldl (fun s0 a => ?_) ?_
  · try beta_reduce
    refine Keeps.trans ?_ (kept_setObj _ _ _)
    exact Keeps.refl _
  · exact Keeps.refl _

theorem kept_modField (i : Nat) (f : Field → Field) (s0 : State) : Keeps s0 (modField i f s0) :=
  ⟨rfl, rfl, rfl, fun w => by simpa [modField] using w, fun w => w, fun w => w⟩

theorem kept_modDie (d : Nat) (f : Die → Die) (s0 : State) (h : ∀ x, (f x).store = x.store) : Keeps s0 (modDie d f s0) := by
  refine ⟨rfl, rfl, rfl, fun w => w, fun w => by simpa [modDie] using w, fun w x hx => ?_⟩
  rcases mem_modify hx with g | ⟨y, hy, rfl⟩
  · exact w x g
  · rw [h]
    exact w y hy
theorem kept_modDie_store (d : Nat) (f : Die → Die) (s0 : State)
    (h : ∀ x, Memory.wf x.store = true → Memory.wf (f x).store = true) : Keeps s0 (modDie d f s0) := by
  refine ⟨rfl, rfl, rfl, fun w => w, fun w => by simpa [modDie] using w, fun w x hx => ?_⟩
  rcases mem_modify hx with g | ⟨y, hy, rfl⟩
  · exact w x g
  · exact h y (w y hy)

theorem kept_raiseLocal (d : Nat) (e : Event) (s0 : State) : Keeps s0 (raiseLocal d e s0) := by
  unfold raiseLocal
  extract_lets +onlyGivenNames -underBinder -merge -useContext v0
  refine Keeps.trans ?_ (kept_modDie _ _ _ (fun x => ?_))
  · exact Keeps.refl _
  · first | rfl | ((try dsimp only); (repeat' split) <;> rfl)

theorem kept_recordSeq (code : Nat) (p : Nat) (sl : Nat) (payload : List Byte) (keys : List (Nat × Nat)) (s0 : State) : Keeps s0 (recordSeq code p sl payload keys s0) := by
  unfold recordSeq
  extract_lets +onlyGivenNames -underBinder -merge -useContext w0_0 v0
  try clear_value v0
  refine Keeps.trans ?_ (kept_raiseLocal _ _ _)
  exact Keeps.refl _

theorem kept_modSlice (k : Nat) (f : Slice → Slice) (s0 : State) : Keeps s0 (modSlice k f s0) := by
  unfold modSlice
  refine Keeps.update ?_
  exact Keeps.refl _

theorem kept_modCluster (ck : Nat) (f : Cluster → Cluster) (s0 : State) : Keeps s0 (modCluster ck f s0) := by
  unfold modCluster
  refine Keeps.update ?_
  exact Keeps.refl _

theorem kept_syncWindow (ck : Nat) (s0 : State) : Keeps s0 (syncWindow ck s0) := by
  unfold syncWindow
  extract_lets +onlyGivenNames -underBinder -merge -useContext v0
  try clear_value v0
  refine Keeps.trans ?_ (kept_modCluster _ _ _)
  exact Keeps.refl _

theorem kept_holdCluster (r : Nat) (ck : Nat) (s0 : State) : Keeps s0 (holdCluster r ck s0) := by
  unfold holdCluster
  refine Keeps.trans ?_ (kept_syncWindow _ _)
  refine Keeps.trans ?_ (kept_modCluster _ _ _)
  exact Keeps.refl _

theorem kept_addObj (k : Nat) (n : Nat) (s0 : State) : Keeps s0 (addObj k n s0) := by
  unfold addObj
  refine Keeps.update ?_
  exact Keeps.refl _

theorem kept_recordVia (via : Nat) (d : Nat) (code : Nat) (p : Nat) (sl : Nat) (payload : List Byte) (s0 : State) : Keeps s0 (recordVia via d code p sl payload s0) := by
  unfold recordVia
  refine Keeps.trans ?_ (kept_raiseLocal _ _ _)
  exact Keeps.refl _

theorem kept_freeCluster (r : Nat) (ck : Nat) (s0 : State) : Keeps s0 (freeCluster r ck s0) := by
  unfold freeCluster
  refine Keeps.trans ?_ (kept_syncWindow _ _)
  refine Keeps.trans ?_ (kept_modCluster _ _ _)
  exact Keeps.refl _

theorem kept_modCore (p : Nat) (f : Core → Core) (s0 : State) : Keeps s0 (modCore p f s0) := by
  unfold modCore
  refine Keeps.update ?_
  exact Keeps.refl _

theorem kept_syncWindows (s0 : State) : Keeps s0 (syncWindows s0) := by
  unfold syncWindows
  refine Keeps.foldl (fun s0 a => ?_) ?_
  · try beta_reduce
    refine Keeps.trans ?_ (kept_syncWindow _ _)
    exact Keeps.refl _
  · exact Keeps.refl _

theorem kept_holdField (r : Nat) (f : Nat) (s0 : State) : Keeps s0 (holdField r f s0) := by
  unfold holdField
  refine Keeps.trans ?_ (kept_syncWindows _)
  refine Keeps.trans ?_ (kept_modField _ _ _)
  exact Keeps.refl _

theorem kept_wakeGondola (d : Nat) (s0 : State) : Keeps s0 (wakeGondola d s0) := by
  unfold wakeGondola
  refine Keeps.trans ?_ (kept_modDie _ _ _ (fun x => ?_))
  · exact Keeps.refl _
  · first | rfl | ((try dsimp only); (repeat' split) <;> rfl)

theorem kept_recordAt (d : Nat) (code : Nat) (p : Nat) (sl : Nat) (payload : List Byte) (s0 : State) : Keeps s0 (recordAt d code p sl payload s0) := by
  unfold recordAt
  refine Keeps.trans ?_ (kept_raiseLocal _ _ _)
  exact Keeps.refl _

theorem kept_emit (o : Output) (s0 : State) : Keeps s0 (emit o s0) := by
  unfold emit
  refine Keeps.update ?_
  exact Keeps.refl _

theorem kept_setSobj (sl : Nat) (k : Nat) (v : Nat) (s0 : State) : Keeps s0 (setSobj sl k v s0) := by
  unfold setSobj
  refine Keeps.trans ?_ (kept_modSlice _ _ _)
  exact Keeps.refl _

theorem kept_setSobjs (sl : Nat) (l : List (Nat × Nat)) (s0 : State) : Keeps s0 (setSobjs sl l s0) := by
  unfold setSobjs
  refine Keeps.foldl (fun s0 a => ?_) ?_
  · try beta_reduce
    refine Keeps.trans ?_ (kept_setSobj _ _ _ _)
    exact Keeps.refl _
  · exact Keeps.refl _

theorem kept_noteEvent (d : Nat) (code : Nat) (sl : Nat) (note : List Byte) (s0 : State) : Keeps s0 (noteEvent d code sl note s0) := by
  unfold noteEvent
  refine Keeps.trans ?_ (kept_raiseLocal _ _ _)
  exact Keeps.refl _

theorem kept_addSobj (sl : Nat) (k : Nat) (n : Nat) (s0 : State) : Keeps s0 (addSobj sl k n s0) := by
  unfold addSobj
  refine Keeps.trans ?_ (kept_modSlice _ _ _)
  exact Keeps.refl _

theorem kept_editStores (d : Nat) (f : Stored → Stored) (s0 : State) : Keeps s0 (editStores d f s0) := by
  unfold editStores
  extract_lets +onlyGivenNames -underBinder -merge -useContext v0
  try clear_value v0
  refine Keeps.update ?_
  exact Keeps.refl _

theorem kept_modKeeper (k : Nat) (f : Keeper → Keeper) (s0 : State) : Keeps s0 (modKeeper k f s0) := by
  unfold modKeeper
  refine Keeps.update ?_
  exact Keeps.refl _

theorem kept_stopKeeper (k : Nat) (s0 : State) : Keeps s0 (stopKeeper k s0) := by
  unfold stopKeeper
  refine Keeps.trans ?_ (kept_modKeeper _ _ _)
  exact Keeps.refl _

theorem kept_record (code : Nat) (p : Nat) (sl : Nat) (payload : List Byte) (s0 : State) : Keeps s0 (record code p sl payload s0) := by
  unfold record
  extract_lets +onlyGivenNames -underBinder -merge -useContext v0
  try clear_value v0
  refine Keeps.trans ?_ (kept_raiseLocal _ _ _)
  exact Keeps.refl _

theorem kept_recordPkg (code : Nat) (payload : List Byte) (s0 : State) : Keeps s0 (recordPkg code payload s0) := by
  unfold recordPkg
  refine Keeps.trans ?_ (kept_record _ _ _ _ _)
  exact Keeps.refl _

theorem kept_editCopies (f : PackageCopy → PackageCopy) (s0 : State) : Keeps s0 (editCopies f s0) := by
  unfold editCopies
  extract_lets +onlyGivenNames -underBinder -merge -useContext v0
  refine Keeps.update_whole ?_ ?_ ?_ ?_
  · exact Keeps.refl _
  · first | rfl | simp
  · first | rfl | simp
  · first | exact fun h => h | exact Keeps.map_stores (fun x => by first | rfl | (dsimp only; split <;> rfl) | (split <;> rfl) | (simp +zetaDelta only []; first | rfl | (split <;> rfl)) | simp)

theorem kept_leaveCase (rule : Nat) (s0 : State) : Keeps s0 (leaveCase rule s0) := by
  unfold leaveCase
  refine Keeps.update ?_
  exact Keeps.refl _

theorem kept_enterCase (rule : Nat) (s0 : State) : Keeps s0 (enterCase rule s0) := by
  unfold enterCase
  refine Keeps.ite (fun _ => ?_) (fun _ => ?_)
  · exact Keeps.refl _
  · refine Keeps.update ?_
    exact Keeps.refl _

theorem kept_takePosition (s0 : State) : Keeps s0 (takePosition s0) := by
  unfold takePosition
  extract_lets +onlyGivenNames -underBinder -merge -useContext v0
  try clear_value v0
  extract_lets +onlyGivenNames -underBinder -merge -useContext v2
  try clear_value v2
  extract_lets +onlyGivenNames -underBinder -merge -useContext w4_0 v4
  try clear_value v4
  refine Keeps.update ?_
  exact Keeps.refl _

theorem kept_mirrorEvent (n : Numbered) (s0 : State) : Keeps s0 (mirrorEvent n s0) := by
  unfold mirrorEvent
  refine Keeps.ite (fun _ => ?_) (fun _ => ?_)
  · refine Keeps.update ?_
    exact Keeps.refl _
  · exact Keeps.refl _

theorem kept_returnEverywhere (n : Numbered) (s0 : State) : Keeps s0 (returnEverywhere n s0) := by
  unfold returnEverywhere
  refine Keeps.foldl (fun s0 a => ?_) ?_
  · try beta_reduce
    refine Keeps.ite (fun _ => ?_) (fun _ => ?_)
    · exact Keeps.refl _
    · refine Keeps.trans ?_ (kept_modDie _ _ _ (fun x => ?_))
      · exact Keeps.refl _
      · first | rfl | ((try dsimp only); (repeat' split) <;> rfl)
  · refine Keeps.trans ?_ (kept_mirrorEvent _ _)
    exact Keeps.refl _

theorem kept_eraEvent (s0 : State) : Keeps s0 (eraEvent s0) := by
  unfold eraEvent
  refine Keeps.ite (fun _ => ?_) (fun _ => ?_)
  · extract_lets +onlyGivenNames -underBinder -merge -useContext v2
    try clear_value v2
    refine Keeps.trans ?_ (kept_takePosition _)
    refine Keeps.trans ?_ (kept_returnEverywhere _ _)
    exact Keeps.refl _
  · exact Keeps.refl _

theorem kept_modPort (k : Nat) (f : Port → Port) (s0 : State) : Keeps s0 (modPort k f s0) := by
  unfold modPort
  refine Keeps.update ?_
  exact Keeps.refl _

theorem kept_emcyPort (d : Nat) (b : Bool) (data : List Byte) (s0 : State) : Keeps s0 (emcyPort d b data s0) := by
  unfold emcyPort
  extract_lets +onlyGivenNames -underBinder -merge -useContext v0
  try clear_value v0
  extract_lets +onlyGivenNames -underBinder -merge -useContext v2
  try clear_value v2
  refine Keeps.ite (fun _ => ?_) (fun _ => ?_)
  · exact Keeps.refl _
  · extract_lets +onlyGivenNames -underBinder -merge -useContext v8
    try clear_value v8
    extract_lets +onlyGivenNames -underBinder -merge -useContext v10
    try clear_value v10
    refine Keeps.ite (fun _ => ?_) (fun _ => ?_)
    · refine Keeps.trans ?_ (kept_emit _ _)
      refine Keeps.trans ?_ (kept_modPort _ _ _)
      exact Keeps.refl _
    · refine Keeps.trans ?_ (kept_modPort _ _ _)
      exact Keeps.refl _

theorem kept_emcy (d : Nat) (code : Nat) (detail : Nat) (seq : Nat) (s0 : State) : Keeps s0 (emcy d code detail seq s0) := by
  unfold emcy
  extract_lets +onlyGivenNames -underBinder -merge -useContext v0
  try clear_value v0
  extract_lets +onlyGivenNames -underBinder -merge -useContext v2
  have h_v2 : Keeps s0 v2 := by
    unfold v2
    refine Keeps.trans ?_ (kept_modDie _ _ _ (fun x => ?_))
    · exact Keeps.refl _
    · first | rfl | ((try dsimp only); (repeat' split) <;> rfl)
  try clear_value v2
  refine Keeps.trans ?_ (kept_emcyPort _ _ _ _)
  refine Keeps.trans ?_ (kept_emcyPort _ _ _ _)
  exact h_v2

theorem kept_takeNat (s0 : State) : Keeps s0 (takeNat s0).2 := by
  unfold takeNat
  refine Keeps.snd ?_
  refine Keeps.update ?_
  exact Keeps.refl _

theorem kept_modMailbox (n : Nat) (f : Mailbox → Mailbox) (s0 : State) : Keeps s0 (modMailbox n f s0) := by
  unfold modMailbox
  refine Keeps.update ?_
  exact Keeps.refl _

theorem kept_notify (x : Notification) (s0 : State) : Keeps s0 (notify x s0) := by
  unfold notify
  refine Keeps.foldl (fun s0 a => ?_) ?_
  · try beta_reduce
    refine Keeps.trans ?_ (kept_modDie _ _ _ (fun x => ?_))
    · refine Keeps.trans ?_ (kept_modMailbox _ _ _)
      exact Keeps.refl _
    · first | rfl | ((try dsimp only); (repeat' split) <;> rfl)
  · exact Keeps.refl _

theorem kept_drainBridles (n f : Nat) (s0 : State) : Keeps s0 (drainBridles n f s0) := by
  induction n generalizing s0 with
  | zero => exact Keeps.refl _
  | succ n ih =>
    unfold drainBridles
    refine Keeps.ite (fun _ => Keeps.refl _) (fun _ => ?_)
    split
    · exact Keeps.refl _
    · split
      · exact Keeps.refl _
      · refine Keeps.trans ?_ (ih _)
        refine Keeps.ite (fun _ => ?_) (fun _ => ?_)
        · exact (kept_modField _ _ _).trans ((kept_modCluster _ _ _).trans (kept_freeCluster _ _ _))
        · exact (kept_modField _ _ _).trans (kept_modCluster _ _ _)

theorem kept_enterField (f : Nat) (e : Event) (s0 : State) : Keeps s0 (enterField f e s0) := by
  unfold enterField
  extract_lets +onlyGivenNames -underBinder -merge -useContext v0
  have h_v0 : Keeps s0 v0 := by
    unfold v0
    refine Keeps.trans ?_ (kept_modField _ _ _)
    exact Keeps.refl _
  try clear_value v0
  refine Keeps.ite (fun _ => ?_) (fun _ => ?_)
  · refine Keeps.trans ?_ (kept_holdField _ _ _)
    exact h_v0
  · exact h_v0

theorem kept_raise (reporter : Nat) (e : Event) (s0 : State) : Keeps s0 (raise reporter e s0) := by
  unfold raise
  split
  · extract_lets +onlyGivenNames -underBinder -merge -useContext v2
    try clear_value v2
    extract_lets +onlyGivenNames -underBinder -merge -useContext v4
    have h_v4 : Keeps s0 v4 := by
      unfold v4
      refine Keeps.trans ?_ (kept_modCluster _ _ _)
      exact Keeps.refl _
    try clear_value v4
    extract_lets +onlyGivenNames -underBinder -merge -useContext v10
    have h_v10 : Keeps s0 v10 := by
      unfold v10
      refine Keeps.trans ?_ (kept_drainBridles _ _ _)
      exact h_v4
    try clear_value v10
    extract_lets +onlyGivenNames -underBinder -merge -useContext v16
    have h_v16 : Keeps s0 v16 := by
      unfold v16
      refine Keeps.ite (fun _ => ?_) (fun _ => ?_)
      · refine Keeps.trans ?_ (kept_holdCluster _ _ _)
        exact h_v10
      · exact h_v10
    try clear_value v16
    refine Keeps.ite (fun _ => ?_) (fun _ => ?_)
    · refine Keeps.trans ?_ (kept_holdField _ _ _)
      exact h_v16
    · exact h_v16
  · extract_lets +onlyGivenNames -underBinder -merge -useContext v33
    try clear_value v33
    extract_lets +onlyGivenNames -underBinder -merge -useContext v35
    have h_v35 : Keeps s0 v35 := by
      unfold v35
      refine Keeps.trans ?_ (kept_modCluster _ _ _)
      exact Keeps.refl _
    try clear_value v35
    extract_lets +onlyGivenNames -underBinder -merge -useContext v41
    have h_v41 : Keeps s0 v41 := by
      unfold v41
      refine Keeps.trans ?_ (kept_drainBridles _ _ _)
      exact h_v35
    try clear_value v41
    extract_lets +onlyGivenNames -underBinder -merge -useContext v47
    have h_v47 : Keeps s0 v47 := by
      unfold v47
      refine Keeps.ite (fun _ => ?_) (fun _ => ?_)
      · refine Keeps.trans ?_ (kept_holdCluster _ _ _)
        exact h_v41
      · exact h_v41
    try clear_value v47
    refine Keeps.ite (fun _ => ?_) (fun _ => ?_)
    · refine Keeps.trans ?_ (kept_holdField _ _ _)
      exact h_v47
    · exact h_v47
  · extract_lets +onlyGivenNames -underBinder -merge -useContext v64
    try clear_value v64
    extract_lets +onlyGivenNames -underBinder -merge -useContext v66
    have h_v66 : Keeps s0 v66 := by
      unfold v66
      refine Keeps.trans ?_ (kept_modCluster _ _ _)
      exact Keeps.refl _
    try clear_value v66
    extract_lets +onlyGivenNames -underBinder -merge -useContext v72
    have h_v72 : Keeps s0 v72 := by
      unfold v72
      refine Keeps.trans ?_ (kept_drainBridles _ _ _)
      exact h_v66
    try clear_value v72
    extract_lets +onlyGivenNames -underBinder -merge -useContext v78
    have h_v78 : Keeps s0 v78 := by
      unfold v78
      refine Keeps.ite (fun _ => ?_) (fun _ => ?_)
      · refine Keeps.trans ?_ (kept_holdCluster _ _ _)
        exact h_v72
      · exact h_v72
    try clear_value v78
    refine Keeps.ite (fun _ => ?_) (fun _ => ?_)
    · refine Keeps.trans ?_ (kept_holdField _ _ _)
      exact h_v78
    · exact h_v78
  · extract_lets +onlyGivenNames -underBinder -merge -useContext v95
    try clear_value v95
    extract_lets +onlyGivenNames -underBinder -merge -useContext v97
    have h_v97 : Keeps s0 v97 := by
      unfold v97
      refine Keeps.trans ?_ (kept_modCluster _ _ _)
      exact Keeps.refl _
    try clear_value v97
    extract_lets +onlyGivenNames -underBinder -merge -useContext v103
    have h_v103 : Keeps s0 v103 := by
      unfold v103
      refine Keeps.trans ?_ (kept_drainBridles _ _ _)
      exact h_v97
    try clear_value v103
    extract_lets +onlyGivenNames -underBinder -merge -useContext v109
    have h_v109 : Keeps s0 v109 := by
      unfold v109
      refine Keeps.ite (fun _ => ?_) (fun _ => ?_)
      · refine Keeps.trans ?_ (kept_holdCluster _ _ _)
        exact h_v103
      · exact h_v103
    try clear_value v109
    refine Keeps.ite (fun _ => ?_) (fun _ => ?_)
    · refine Keeps.trans ?_ (kept_holdField _ _ _)
      exact h_v109
    · exact h_v109
  · refine Keeps.trans ?_ (kept_enterField _ _ _)
    exact Keeps.refl _
  · refine Keeps.trans ?_ (kept_enterField _ _ _)
    exact Keeps.refl _
  · refine Keeps.trans ?_ (kept_enterField _ _ _)
    exact Keeps.refl _
  · refine Keeps.trans ?_ (kept_enterField _ _ _)
    exact Keeps.refl _
  · refine Keeps.trans ?_ (kept_enterField _ _ _)
    exact Keeps.refl _
  · refine Keeps.trans ?_ (kept_raiseLocal _ _ _)
    exact Keeps.refl _

theorem kept_maxObj (k : Nat) (n : Nat) (s0 : State) : Keeps s0 (maxObj k n s0) := by
  unfold maxObj
  refine Keeps.update ?_
  exact Keeps.refl _

theorem kept_modLcn (l : Nat) (f : LcnRec → LcnRec) (s0 : State) : Keeps s0 (modLcn l f s0) := by
  unfold modLcn
  refine Keeps.update ?_
  exact Keeps.refl _

theorem kept_setSram (p : Nat) (n : Nat) (b : SramBlock) (s0 : State) : Keeps s0 (setSram p n b s0) := by
  unfold setSram
  refine Keeps.ite (fun _ => ?_) (fun _ => ?_)
  · refine Keeps.trans ?_ (kept_modCore _ _ _)
    exact Keeps.refl _
  · exact Keeps.refl _

theorem kept_issuePosition (s0 : State) : Keeps s0 (issuePosition s0) := by
  unfold issuePosition
  refine Keeps.trans ?_ (kept_eraEvent _)
  refine Keeps.trans ?_ (kept_takePosition _)
  refine Keeps.trans ?_ (kept_eraEvent _)
  exact Keeps.refl _

theorem kept_refreshError (d : Nat) (s0 : State) : Keeps s0 (refreshError d s0) := by
  unfold refreshError
  extract_lets +onlyGivenNames -underBinder -merge -useContext v0
  try clear_value v0
  extract_lets +onlyGivenNames -underBinder -merge -useContext v2
  try clear_value v2
  extract_lets +onlyGivenNames -underBinder -merge -useContext v4
  have h_v4 : Keeps s0 v4 := by
    unfold v4
    refine Keeps.trans ?_ (kept_modDie _ _ _ (fun x => ?_))
    · exact Keeps.refl _
    · first | rfl | ((try dsimp only); (repeat' split) <;> rfl)
  try clear_value v4
  refine Keeps.ite (fun _ => ?_) (fun _ => ?_)
  · refine Keeps.trans ?_ (kept_emcy _ _ _ _ _)
    exact h_v4
  · exact h_v4

theorem kept_refreshErrors (s0 : State) : Keeps s0 (refreshErrors s0) := by
  unfold refreshErrors
  refine Keeps.foldl (fun s0 a => ?_) ?_
  · try beta_reduce
    refine Keeps.trans ?_ (kept_refreshError _ _)
    exact Keeps.refl _
  · exact Keeps.refl _

theorem kept_startKeeper (k : Nat) (s0 : State) : Keeps s0 (startKeeper k s0) := by
  unfold startKeeper
  refine Keeps.trans ?_ (kept_modKeeper _ _ _)
  exact Keeps.refl _

theorem kept_emcyEvent (d : Nat) (code : Nat) (detail : Nat) (s0 : State) : Keeps s0 (emcyEvent d code detail s0) := by
  unfold emcyEvent
  refine Keeps.trans ?_ (kept_raiseLocal _ _ _)
  exact Keeps.refl _

theorem kept_freeField (r : Nat) (f : Nat) (s0 : State) : Keeps s0 (freeField r f s0) := by
  unfold freeField
  refine Keeps.trans ?_ (kept_syncWindows _)
  refine Keeps.trans ?_ (kept_modField _ _ _)
  exact Keeps.refl _

theorem kept_setFreqs (cks : List Nat) (mhz : Nat) (s0 : State) : Keeps s0 (setFreqs cks mhz s0) := by
  unfold setFreqs
  refine Keeps.update ?_
  exact Keeps.refl _

theorem kept_refreshFreq (k : Nat) (s0 : State) : Keeps s0 (refreshFreq k s0) := by
  unfold refreshFreq
  extract_lets +onlyGivenNames -underBinder -merge -useContext v0
  try clear_value v0
  refine Keeps.trans ?_ (kept_modSlice _ _ _)
  exact Keeps.refl _

theorem kept_setFieldFreq (mhz : Nat) (f : Nat) (s0 : State) : Keeps s0 (setFieldFreq mhz f s0) := by
  unfold setFieldFreq
  refine Keeps.trans ?_ (kept_modField _ _ _)
  refine Keeps.update ?_
  exact Keeps.refl _

theorem kept_takeBit (s0 : State) : Keeps s0 (takeBit s0).2 := by
  unfold takeBit
  refine Keeps.snd ?_
  refine Keeps.update ?_
  exact Keeps.refl _

theorem kept_takeWord (s0 : State) : Keeps s0 (takeWord s0).2 := by
  unfold takeWord
  refine Keeps.snd ?_
  refine Keeps.update ?_
  exact Keeps.refl _

theorem kept_settleMirror (n : Numbered) (s0 : State) : Keeps s0 (settleMirror n s0) := by
  unfold settleMirror
  refine Keeps.ite (fun _ => ?_) (fun _ => ?_)
  · exact Keeps.refl _
  · refine Keeps.update ?_
    exact Keeps.refl _

theorem kept_wakeAgents (fs : List Nat) (s0 : State) : Keeps s0 (wakeAgents fs s0) := by
  unfold wakeAgents
  refine Keeps.foldl (fun s0 a => ?_) ?_
  · try beta_reduce
    refine Keeps.trans ?_ (kept_modField _ _ _)
    exact Keeps.refl _
  · exact Keeps.refl _

theorem kept_recordAtSeq (d : Nat) (code : Nat) (p : Nat) (sl : Nat) (payload : List Byte) (keys : List (Nat × Nat)) (s0 : State) : Keeps s0 (recordAtSeq d code p sl payload keys s0) := by
  unfold recordAtSeq
  refine Keeps.trans ?_ (kept_raiseLocal _ _ _)
  exact Keeps.refl _

end Sys2Proof.Machine
end

