-- ==== Sys2Proof/Laws/Kept/Trace.lean ====
section
/-!
SUPPORT. What the operations and commands of Machine/Trace.lean keep (see Laws/Keeps.lean).
-/
namespace Sys2Proof.Machine

theorem kept_modTrace (k : Nat) (f : TraceSlot → TraceSlot) (s0 : State) : Keeps s0 (modTrace k f s0) := by
  unfold modTrace
  refine Keeps.update ?_
  exact Keeps.refl _

theorem kept_appendWords (k : Nat) (now : Nat) (ws : List Word64) (s0 : State) : Keeps s0 (appendWords k now ws s0) := by
  unfold appendWords
  refine Keeps.trans ?_ (kept_modTrace _ _ _)
  exact Keeps.refl _

theorem kept_countView (sl : Nat) (unit : Nat) (id : Nat) (n : Nat) (s0 : State) : Keeps s0 (countView sl unit id n s0) := by
  unfold countView
  refine Keeps.ite (fun _ => ?_) (fun _ => ?_)
  · exact Keeps.refl _
  · refine Keeps.update ?_
    exact Keeps.refl _

theorem kept_countDie (d : Nat) (sl : Nat) (id : Nat) (n : Nat) (s0 : State) : Keeps s0 (countDie d sl id n s0) := by
  unfold countDie
  refine Keeps.trans ?_ (kept_countView _ _ _ _ _)
  refine Keeps.trans ?_ (kept_modDie _ _ _ (fun x => ?_))
  · exact Keeps.refl _
  · first | rfl | ((try dsimp only); (repeat' split) <;> rfl)

theorem kept_countCore (p : Nat) (id : Nat) (n : Nat) (s0 : State) : Keeps s0 (countCore p id n s0) := by
  unfold countCore
  extract_lets +onlyGivenNames -underBinder -merge -useContext v0
  have h_v0 : Keeps s0 v0 := by
    unfold v0
    refine Keeps.trans ?_ (kept_modCore _ _ _)
    exact Keeps.refl _
  try clear_value v0
  split
  · refine Keeps.trans ?_ (kept_countView _ _ _ _ _)
    exact h_v0
  · exact h_v0

theorem kept_writeDrop (k : Nat) (s0 : State) : Keeps s0 (writeDrop k s0) := by
  unfold writeDrop
  split
  · exact Keeps.refl _
  · split
    · exact Keeps.refl _
    · refine Keeps.ite (fun _ => ?_) (fun _ => ?_)
      · exact Keeps.refl _
      · extract_lets +onlyGivenNames -underBinder -merge -useContext v12
        try clear_value v12
        extract_lets +onlyGivenNames -underBinder -merge -useContext v14
        try clear_value v14
        extract_lets +onlyGivenNames -underBinder -merge -useContext v16
        have h_v16 : Keeps s0 v16 := by
          unfold v16
          refine Keeps.trans ?_ (kept_modDie _ _ _ (fun x => ?_))
          · exact Keeps.refl _
          · first | rfl | ((try dsimp only); (repeat' split) <;> rfl)
        try clear_value v16
        refine Keeps.trans ?_ (kept_modTrace _ _ _)
        exact h_v16

theorem kept_closeChunk (k : Nat) (s0 : State) : Keeps s0 (closeChunk k s0) := by
  unfold closeChunk
  refine Keeps.trans ?_ (kept_modTrace _ _ _)
  exact Keeps.refl _

theorem kept_countField (f : Nat) (sl : Nat) (id : Nat) (n : Nat) (s0 : State) : Keeps s0 (countField f sl id n s0) := by
  unfold countField
  refine Keeps.trans ?_ (kept_countView _ _ _ _ _)
  refine Keeps.trans ?_ (kept_modField _ _ _)
  exact Keeps.refl _

theorem kept_queueTrace (ck : Nat) (n : Nat) (s0 : State) : Keeps s0 (queueTrace ck n s0) := by
  unfold queueTrace
  extract_lets +onlyGivenNames -underBinder -merge -useContext v0
  try clear_value v0
  extract_lets +onlyGivenNames -underBinder -merge -useContext v2
  try clear_value v2
  refine Keeps.trans ?_ (kept_modCluster _ _ _)
  exact Keeps.refl _

theorem kept_losePacket (k : Nat) (now : Nat) (s0 : State) : Keeps s0 (losePacket k now s0) := by
  unfold losePacket
  split
  · exact Keeps.refl _
  · refine Keeps.trans ?_ (kept_countField _ _ _ _ _)
    refine Keeps.trans ?_ (kept_modTrace _ _ _)
    exact Keeps.refl _

theorem kept_putWords (k : Nat) (now : Nat) (ws : List Word64) (s0 : State) : Keeps s0 (putWords k now ws s0) := by
  unfold putWords
  split
  · exact Keeps.refl _
  · extract_lets +onlyGivenNames -underBinder -merge -useContext v4
    try clear_value v4
    extract_lets +onlyGivenNames -underBinder -merge -useContext v6
    try clear_value v6
    extract_lets +onlyGivenNames -underBinder -merge -useContext v8
    try clear_value v8
    extract_lets +onlyGivenNames -underBinder -merge -useContext v10
    try clear_value v10
    refine Keeps.ite (fun _ => ?_) (fun _ => ?_)
    · refine Keeps.trans ?_ (kept_losePacket _ _ _)
      exact Keeps.refl _
    · extract_lets +onlyGivenNames -underBinder -merge -useContext v17
      have h_v17 : Keeps s0 v17 := by
        unfold v17
        refine Keeps.trans ?_ (kept_queueTrace _ _ _)
        exact Keeps.refl _
      try clear_value v17
      extract_lets +onlyGivenNames -underBinder -merge -useContext v23
      have h_v23 : Keeps s0 v23 := by
        unfold v23
        refine Keeps.ite (fun _ => ?_) (fun _ => ?_)
        · refine Keeps.trans ?_ (kept_closeChunk _ _)
          exact h_v17
        · exact h_v17
      try clear_value v23
      split
      · exact h_v23
      · refine Keeps.ite (fun _ => ?_) (fun _ => ?_)
        · refine Keeps.trans ?_ (kept_losePacket _ _ _)
          exact h_v23
        · extract_lets +onlyGivenNames -underBinder -merge -useContext v42
          have h_v42 : Keeps s0 v42 := by
            unfold v42
            refine Keeps.trans ?_ (kept_appendWords _ _ _ _)
            refine Keeps.trans ?_ (kept_modTrace _ _ _)
            exact h_v23
          try clear_value v42
          extract_lets +onlyGivenNames -underBinder -merge -useContext v49
          have h_v49 : Keeps s0 v49 := by
            unfold v49
            refine Keeps.trans ?_ (kept_countField _ _ _ _ _)
            exact h_v42
          try clear_value v49
          split
          · refine Keeps.ite (fun _ => ?_) (fun _ => ?_)
            · refine Keeps.trans ?_ (kept_closeChunk _ _)
              exact h_v49
            · exact h_v49
          · exact h_v49

theorem kept_putPacket (k : Nat) (type : Nat) (body : Nat) (ext : List Nat) (s0 : State) : Keeps s0 (putPacket k type body ext s0) := by
  unfold putPacket
  split
  · exact Keeps.refl _
  · extract_lets +onlyGivenNames -underBinder -merge -useContext v4
    try clear_value v4
    extract_lets +onlyGivenNames -underBinder -merge -useContext v6
    try clear_value v6
    extract_lets +onlyGivenNames -underBinder -merge -useContext v8
    try clear_value v8
    extract_lets +onlyGivenNames -underBinder -merge -useContext v10
    try clear_value v10
    extract_lets +onlyGivenNames -underBinder -merge -useContext v12
    try clear_value v12
    extract_lets +onlyGivenNames -underBinder -merge -useContext v14
    try clear_value v14
    extract_lets +onlyGivenNames -underBinder -merge -useContext v16
    refine Keeps.ite (fun _ => ?_) (fun _ => ?_)
    · refine Keeps.trans ?_ (kept_putWords _ _ _ _)
      refine Keeps.ite (fun _ => ?_) (fun _ => ?_)
      · refine Keeps.trans ?_ (kept_closeChunk _ _)
        exact Keeps.refl _
      · exact Keeps.refl _
    · extract_lets +onlyGivenNames -underBinder -merge -useContext v27
      have h_v27 : Keeps s0 v27 := by
        unfold v27
        refine Keeps.ite (fun _ => ?_) (fun _ => ?_)
        · refine Keeps.trans ?_ (kept_putWords _ _ _ _)
          exact Keeps.refl _
        · exact Keeps.refl _
      try clear_value v27
      refine Keeps.trans ?_ (kept_putWords _ _ _ _)
      exact h_v27

theorem kept_flushOutcomes (k : Nat) (s0 : State) : Keeps s0 (flushOutcomes k s0) := by
  unfold flushOutcomes
  split
  · exact Keeps.refl _
  · refine Keeps.ite (fun _ => ?_) (fun _ => ?_)
    · exact Keeps.refl _
    · extract_lets +onlyGivenNames -underBinder -merge -useContext v8
      try clear_value v8
      refine Keeps.trans ?_ (kept_putPacket _ _ _ _ _)
      refine Keeps.trans ?_ (kept_modTrace _ _ _)
      exact Keeps.refl _

theorem kept_stopSlot (k : Nat) (cause : Nat) (s0 : State) : Keeps s0 (stopSlot k cause s0) := by
  unfold stopSlot
  split
  · exact Keeps.refl _
  · refine Keeps.ite (fun _ => ?_) (fun _ => ?_)
    · exact Keeps.refl _
    · extract_lets +onlyGivenNames -underBinder -merge -useContext v8
      have h_v8 : Keeps s0 v8 := by
        unfold v8
        refine Keeps.trans ?_ (kept_closeChunk _ _)
        refine Keeps.trans ?_ (kept_flushOutcomes _ _)
        exact Keeps.refl _
      try clear_value v8
      extract_lets +onlyGivenNames -underBinder -merge -useContext v15
      have h_v15 : Keeps s0 v15 := by
        unfold v15
        refine Keeps.trans ?_ (kept_modTrace _ _ _)
        exact h_v8
      try clear_value v15
      split
      · refine Keeps.ite (fun _ => ?_) (fun _ => ?_)
        · refine Keeps.trans ?_ (kept_writeDrop _ _)
          exact h_v15
        · exact h_v15
      · exact h_v15

theorem kept_stopSlots (pick : Nat → TraceSlot → Bool) (cause : Nat) (s0 : State) : Keeps s0 (stopSlots pick cause s0) := by
  unfold stopSlots
  refine Keeps.foldl (fun s0 a => ?_) ?_
  · try beta_reduce
    refine Keeps.trans ?_ (kept_stopSlot _ _ _)
    exact Keeps.refl _
  · exact Keeps.refl _

theorem kept_putSync (k : Nat) (s0 : State) : Keeps s0 (putSync k s0) := by
  unfold putSync
  split
  · exact Keeps.refl _
  · extract_lets +onlyGivenNames -underBinder -merge -useContext v4
    try clear_value v4
    refine Keeps.ite (fun _ => ?_) (fun _ => ?_)
    · exact Keeps.refl _
    · refine Keeps.trans ?_ (kept_putWords _ _ _ _)
      exact Keeps.refl _

theorem kept_traceClusterEvent (ck : Nat) (event : Nat) (s0 : State) : Keeps s0 (traceClusterEvent ck event s0) := by
  unfold traceClusterEvent
  refine Keeps.foldl (fun s0 a => ?_) ?_
  · try beta_reduce
    extract_lets +onlyGivenNames -underBinder -merge -useContext v3
    have h_v3 : Keeps s0 v3 := by
      unfold v3
      refine Keeps.trans ?_ (kept_putPacket _ _ _ _ _)
      refine Keeps.trans ?_ (kept_flushOutcomes _ _)
      exact Keeps.refl _
    try clear_value v3
    refine Keeps.ite (fun _ => ?_) (fun _ => ?_)
    · exact h_v3
    · refine Keeps.trans ?_ (kept_putSync _ _)
      exact h_v3
  · exact Keeps.refl _

theorem kept_clearViews (sl : Nat) (s0 : State) : Keeps s0 (clearViews sl s0) := by
  unfold clearViews
  refine Keeps.update ?_
  exact Keeps.refl _

theorem kept_traceEvent (ck : Nat) (type : Nat) (body : Nat) (bit : Nat) (s0 : State) : Keeps s0 (traceEvent ck type body bit s0) := by
  unfold traceEvent
  refine Keeps.foldl (fun s0 a => ?_) ?_
  · try beta_reduce
    refine Keeps.trans ?_ (kept_putPacket _ _ _ _ _)
    refine Keeps.trans ?_ (kept_flushOutcomes _ _)
    exact Keeps.refl _
  · exact Keeps.refl _

theorem kept_countCluster (ck : Nat) (id : Nat) (n : Nat) (s0 : State) : Keeps s0 (countCluster ck id n s0) := by
  unfold countCluster
  extract_lets +onlyGivenNames -underBinder -merge -useContext v0
  have h_v0 : Keeps s0 v0 := by
    unfold v0
    refine Keeps.trans ?_ (kept_modCluster _ _ _)
    exact Keeps.refl _
  try clear_value v0
  split
  · refine Keeps.trans ?_ (kept_countView _ _ _ _ _)
    exact h_v0
  · exact h_v0

theorem kept_cutTraces (s0 : State) : Keeps s0 (cutTraces s0) := by
  unfold cutTraces
  refine Keeps.update ?_
  exact Keeps.refl _

theorem kept_stopTraced (ck : Nat) (bit : Nat) (cause : Nat) (s0 : State) : Keeps s0 (stopTraced ck bit cause s0) := by
  unfold stopTraced
  refine Keeps.trans ?_ (kept_stopSlots _ _ _)
  exact Keeps.refl _

theorem kept_dropChunk (k : Nat) (first : Nat) (s0 : State) : Keeps s0 (dropChunk k first s0) := by
  unfold dropChunk
  split
  · exact Keeps.refl _
  · refine Keeps.trans ?_ (kept_countDie _ _ _ _ _)
    refine Keeps.trans ?_ (kept_modTrace _ _ _)
    exact Keeps.refl _

theorem ends_execSlotSwitch (dt : Nat) (d : Nat) (slot : Nat) (s0 : State) : Ends (elapse dt s0) (execSlotSwitch dt d slot s0) := by
  unfold execSlotSwitch
  extract_lets +onlyGivenNames -underBinder -merge -useContext v0
  have h_v0 : Keeps (elapse dt s0) v0 := by
    unfold v0
    exact Keeps.refl _
  try clear_value v0
  extract_lets +onlyGivenNames -underBinder -merge -useContext v5
  try clear_value v5
  refine Ends.done ?_
  split
  · exact h_v0
  · split
    · exact h_v0
    · extract_lets +onlyGivenNames -underBinder -merge -useContext v16
      try clear_value v16
      refine Keeps.ite (fun _ => ?_) (fun _ => ?_)
      · exact h_v0
      · refine Keeps.ite (fun _ => ?_) (fun _ => ?_)
        · refine Keeps.trans ?_ (kept_modTrace _ _ _)
          exact h_v0
        · refine Keeps.trans ?_ (kept_stopSlot _ _ _)
          refine Keeps.trans ?_ (kept_modTrace _ _ _)
          exact h_v0

theorem ends_execChunkIdleTimeout (dt : Nat) (d : Nat) (slot : Nat) (s0 : State) : Ends (elapse dt s0) (execChunkIdleTimeout dt d slot s0) := by
  unfold execChunkIdleTimeout
  extract_lets +onlyGivenNames -underBinder -merge -useContext v0
  have h_v0 : Keeps (elapse dt s0) v0 := by
    unfold v0
    exact Keeps.refl _
  try clear_value v0
  extract_lets +onlyGivenNames -underBinder -merge -useContext v5
  try clear_value v5
  refine Ends.done ?_
  split
  · exact h_v0
  · refine Keeps.ite (fun _ => ?_) (fun _ => ?_)
    · refine Keeps.trans ?_ (kept_closeChunk _ _)
      exact h_v0
    · exact h_v0

theorem ends_execTraceFlushTimeout (dt : Nat) (d : Nat) (slot : Nat) (s0 : State) : Ends (elapse dt s0) (execTraceFlushTimeout dt d slot s0) := by
  unfold execTraceFlushTimeout
  extract_lets +onlyGivenNames -underBinder -merge -useContext v0
  have h_v0 : Keeps (elapse dt s0) v0 := by
    unfold v0
    exact Keeps.refl _
  try clear_value v0
  extract_lets +onlyGivenNames -underBinder -merge -useContext v5
  try clear_value v5
  refine Ends.done ?_
  split
  · exact h_v0
  · refine Keeps.ite (fun _ => ?_) (fun _ => ?_)
    · refine Keeps.trans ?_ (kept_flushOutcomes _ _)
      exact h_v0
    · exact h_v0

theorem kept_traceRebound (before : State) (s0 : State) : Keeps s0 (traceRebound before s0) := by
  unfold traceRebound
  refine Keeps.foldl (fun s0 a => ?_) ?_
  · try beta_reduce
    split
    · refine Keeps.trans ?_ (kept_putSync _ _)
      refine Keeps.trans ?_ (kept_putPacket _ _ _ _ _)
      refine Keeps.trans ?_ (kept_flushOutcomes _ _)
      exact Keeps.refl _
    · exact Keeps.refl _
  · exact Keeps.refl _

theorem kept_storeChunk (k : Nat) (first : Nat) (bytes : List Byte) (s0 : State) : Keeps s0 (storeChunk k first bytes s0) := by
  unfold storeChunk
  extract_lets +onlyGivenNames -underBinder -merge -useContext v0
  try clear_value v0
  extract_lets +onlyGivenNames -underBinder -merge -useContext v2
  try clear_value v2
  split
  · exact Keeps.refl _
  · refine Keeps.ite (fun _ => ?_) (fun _ => ?_)
    · refine Keeps.trans ?_ (kept_dropChunk _ _ _)
      exact Keeps.refl _
    · refine Keeps.ite (fun _ => ?_) (fun _ => ?_)
      · refine Keeps.trans ?_ (kept_dropChunk _ _ _)
        exact Keeps.refl _
      · refine Keeps.trans ?_ (kept_countDie _ _ _ _ _)
        refine Keeps.trans ?_ (kept_modDie _ _ _ (fun x => ?_))
        · exact Keeps.refl _
        · first | rfl | ((try dsimp only); (repeat' split) <;> rfl)

theorem ends_execTracePacket (dt : Nat) (d : Nat) (slot : Nat) (packet : Packet) (s0 : State) : Ends (elapse dt s0) (execTracePacket dt d slot packet s0) := by
  unfold execTracePacket
  extract_lets +onlyGivenNames -underBinder -merge -useContext v0
  have h_v0 : Keeps (elapse dt s0) v0 := by
    unfold v0
    exact Keeps.refl _
  try clear_value v0
  extract_lets +onlyGivenNames -underBinder -merge -useContext v5
  try clear_value v5
  refine Ends.done ?_
  split
  · exact h_v0
  · extract_lets +onlyGivenNames -underBinder -merge -useContext v12
    try clear_value v12
    refine Keeps.ite (fun _ => ?_) (fun _ => ?_)
    · exact h_v0
    · refine Keeps.ite (fun _ => ?_) (fun _ => ?_)
      · extract_lets +onlyGivenNames -underBinder -merge -useContext v20
        try clear_value v20
        extract_lets +onlyGivenNames -underBinder -merge -useContext v22
        try clear_value v22
        extract_lets +onlyGivenNames -underBinder -merge -useContext v24
        have h_v24 : Keeps (elapse dt s0) v24 := by
          unfold v24
          refine Keeps.trans ?_ (kept_modTrace _ _ _)
          exact h_v0
        try clear_value v24
        refine Keeps.ite (fun _ => ?_) (fun _ => ?_)
        · exact h_v24
        · extract_lets +onlyGivenNames -underBinder -merge -useContext v34
          try clear_value v34
          extract_lets +onlyGivenNames -underBinder -merge -useContext v36
          have h_v36 : Keeps (elapse dt s0) v36 := by
            unfold v36
            refine Keeps.trans ?_ (kept_flushOutcomes _ _)
            refine Keeps.trans ?_ (kept_modTrace _ _ _)
            exact h_v24
          try clear_value v36
          refine Keeps.trans ?_ (kept_modTrace _ _ _)
          exact h_v36
      · refine Keeps.trans ?_ (kept_putPacket _ _ _ _ _)
        refine Keeps.trans ?_ (kept_flushOutcomes _ _)
        exact h_v0

end Sys2Proof.Machine
end

