-- ==== Sys2Proof/Laws/Kept/Steps.lean ====
section
/-!
SUPPORT. What the operations and commands of Machine/Steps.lean keep (see Laws/Keeps.lean).
-/
namespace Sys2Proof.Machine

theorem kept_discardMargins (pick : Nat → Bool) (s0 : State) : Keeps s0 (discardMargins pick s0) := by
  unfold discardMargins
  extract_lets +onlyGivenNames -underBinder -merge -useContext v0
  refine Keeps.update ?_
  exact Keeps.refl _

theorem kept_discardMargin (f : Nat) (s0 : State) : Keeps s0 (discardMargin f s0) := by
  unfold discardMargin
  refine Keeps.trans ?_ (kept_discardMargins _ _)
  exact Keeps.refl _

theorem kept_writeVoltage (f : Nat) (e : Nat) (s0 : State) : Keeps s0 (writeVoltage f e s0) := by
  unfold writeVoltage
  refine Keeps.ite (fun _ => ?_) (fun _ => ?_)
  · exact Keeps.refl _
  · extract_lets +onlyGivenNames -underBinder -merge -useContext v4
    have h_v4 : Keeps s0 v4 := by
      unfold v4
      refine Keeps.trans ?_ (kept_discardMargin _ _)
      refine Keeps.trans ?_ (kept_emit _ _)
      exact Keeps.refl _
    try clear_value v4
    refine Keeps.trans ?_ (kept_modField _ _ _)
    exact h_v4

theorem kept_lowerVoltages (fs : List Nat) (s0 : State) : Keeps s0 (lowerVoltages fs s0) := by
  unfold lowerVoltages
  refine Keeps.ite (fun _ => ?_) (fun _ => ?_)
  · exact Keeps.refl _
  · refine Keeps.foldl (fun s0 a => ?_) ?_
    · try beta_reduce
      split
      · refine Keeps.trans ?_ (kept_writeVoltage _ _ _)
        exact Keeps.refl _
      · exact Keeps.refl _
    · exact Keeps.refl _

theorem kept_grantSlice (fs : List Nat) (e : Nat) (required : Bool) (k : Nat) (s0 : State) : Keeps s0 (grantSlice fs e required k s0) := by
  unfold grantSlice
  split
  · exact Keeps.refl _
  · extract_lets +onlyGivenNames -underBinder -merge -useContext v4
    try clear_value v4
    extract_lets +onlyGivenNames -underBinder -merge -useContext v6
    try clear_value v6
    extract_lets +onlyGivenNames -underBinder -merge -useContext v8
    try clear_value v8
    extract_lets +onlyGivenNames -underBinder -merge -useContext v10
    have h_v10 : Keeps s0 v10 := by
      unfold v10
      refine Keeps.trans ?_ (kept_setSobjs _ _ _)
      exact Keeps.refl _
    try clear_value v10
    extract_lets +onlyGivenNames -underBinder -merge -useContext v16
    have h_v16 : Keeps s0 v16 := by
      unfold v16
      refine Keeps.ite (fun _ => ?_) (fun _ => ?_)
      · refine Keeps.trans ?_ (kept_noteEvent _ _ _ _ _)
        exact h_v10
      · exact h_v10
    try clear_value v16
    refine Keeps.ite (fun _ => ?_) (fun _ => ?_)
    · refine Keeps.trans ?_ (kept_modSlice _ _ _)
      exact h_v16
    · refine Keeps.trans ?_ (kept_modSlice _ _ _)
      exact h_v16

theorem kept_recomputeGroup (required : Bool) (f : Nat) (s0 : State) : Keeps s0 (recomputeGroup required f s0) := by
  unfold recomputeGroup
  extract_lets +onlyGivenNames -underBinder -merge -useContext v0
  try clear_value v0
  extract_lets +onlyGivenNames -underBinder -merge -useContext v2
  try clear_value v2
  extract_lets +onlyGivenNames -underBinder -merge -useContext v4
  have h_v4 : Keeps s0 v4 := by
    unfold v4
    refine Keeps.foldl (fun s0 a => ?_) ?_
    · try beta_reduce
      refine Keeps.trans ?_ (kept_grantSlice _ _ _ _ _)
      exact Keeps.refl _
    · exact Keeps.refl _
  try clear_value v4
  extract_lets +onlyGivenNames -underBinder -merge -useContext v15
  have h_v15 : Keeps s0 v15 := by
    unfold v15
    refine Keeps.foldl (fun s0 a => ?_) ?_
    · try beta_reduce
      extract_lets +onlyGivenNames -underBinder -merge -useContext v21
      try clear_value v21
      refine Keeps.ite (fun _ => ?_) (fun _ => ?_)
      · exact Keeps.refl _
      · refine Keeps.ite (fun _ => ?_) (fun _ => ?_)
        · refine Keeps.trans ?_ (kept_modField _ _ _)
          exact Keeps.refl _
        · refine Keeps.ite (fun _ => ?_) (fun _ => ?_)
          · refine Keeps.trans ?_ (kept_writeVoltage _ _ _)
            exact Keeps.refl _
          · extract_lets +onlyGivenNames -underBinder -merge -useContext v37
            have h_v37 : Keeps s0 v37 := by
              unfold v37
              refine Keeps.ite (fun _ => ?_) (fun _ => ?_)
              · refine Keeps.trans ?_ (kept_writeVoltage _ _ _)
                exact Keeps.refl _
              · exact Keeps.refl _
            try clear_value v37
            refine Keeps.trans ?_ (kept_modField _ _ _)
            exact h_v37
    · exact h_v4
  try clear_value v15
  refine Keeps.trans ?_ (kept_lowerVoltages _ _)
  exact h_v15

theorem kept_recomputeGroups (required : Bool) (fs : List Nat) (s0 : State) : Keeps s0 (recomputeGroups required fs s0) := by
  unfold recomputeGroups
  generalize ([] : List Nat) = seen
  induction fs generalizing s0 seen with
  | nil => exact Keeps.refl _
  | cons f r ih =>
    simp only [List.foldl_cons]
    by_cases h : seen.contains f = true
    · simp only [h, if_true]
      exact ih _ _
    · simp only [h]
      exact (kept_recomputeGroup _ _ _).trans (ih _ _)

theorem kept_announceChange (c : Change) (st : Nat) (s0 : State) : Keeps s0 (announceChange c st s0) := by
  unfold announceChange
  refine Keeps.trans ?_ (kept_setObjs _ _)
  refine Keeps.trans ?_ (kept_emit _ _)
  exact Keeps.refl _

theorem kept_modFmax (p : Nat) (f : FmaxRec → FmaxRec) (s0 : State) : Keeps s0 (modFmax p f s0) := by
  unfold modFmax
  refine Keeps.update ?_
  exact Keeps.refl _

theorem kept_scheduleChange (sl : Nat) (mask : Nat) (code : Nat) (required : Bool) (s0 : State) : Keeps s0 (scheduleChange sl mask code required s0) := by
  unfold scheduleChange
  extract_lets +onlyGivenNames -underBinder -merge -useContext v0
  try clear_value v0
  extract_lets +onlyGivenNames -underBinder -merge -useContext v2
  try clear_value v2
  extract_lets +onlyGivenNames -underBinder -merge -useContext v4
  try clear_value v4
  refine Keeps.trans ?_ (kept_announceChange _ _ _)
  extract_lets +onlyGivenNames -underBinder -merge -useContext v7
  have h_v7 : Keeps s0 v7 := by
    unfold v7
    refine Keeps.trans ?_ (kept_issuePosition _)
    exact Keeps.refl _
  try clear_value v7
  refine Keeps.update ?_
  exact h_v7

theorem kept_moveChange (id : Nat) (s0 : State) : Keeps s0 (moveChange id s0) := by
  unfold moveChange
  split
  · exact Keeps.refl _
  · extract_lets +onlyGivenNames -underBinder -merge -useContext v4
    try clear_value v4
    extract_lets +onlyGivenNames -underBinder -merge -useContext v6
    try clear_value v6
    extract_lets +onlyGivenNames -underBinder -merge -useContext v8
    have h_v8 : Keeps s0 v8 := by
      unfold v8
      refine Keeps.update ?_
      exact Keeps.refl _
    try clear_value v8
    refine Keeps.foldl (fun s0 a => ?_) ?_
    · try beta_reduce
      refine Keeps.ite (fun _ => ?_) (fun _ => ?_)
      · exact Keeps.refl _
      · refine Keeps.ite (fun _ => ?_) (fun _ => ?_)
        · refine Keeps.trans ?_ (kept_announceChange _ _ _)
          exact Keeps.refl _
        · exact Keeps.refl _
    · split
      · refine Keeps.trans ?_ (kept_announceChange _ _ _)
        exact h_v8
      · exact h_v8

theorem kept_showChange (id : Nat) (vals : List (Nat × Nat)) (s0 : State) : Keeps s0 (showChange id vals s0) := by
  unfold showChange
  refine Keeps.ite (fun _ => ?_) (fun _ => ?_)
  · refine Keeps.trans ?_ (kept_setObjs _ _)
    exact Keeps.refl _
  · exact Keeps.refl _

theorem kept_postponeChange (id : Nat) (fields : List Nat) (s0 : State) : Keeps s0 (postponeChange id fields s0) := by
  unfold postponeChange
  split
  · exact Keeps.refl _
  · refine Keeps.ite (fun _ => ?_) (fun _ => ?_)
    · extract_lets +onlyGivenNames -underBinder -merge -useContext v6
      have h_v6 : Keeps s0 v6 := by
        unfold v6
        refine Keeps.update ?_
        exact Keeps.refl _
      try clear_value v6
      extract_lets +onlyGivenNames -underBinder -merge -useContext v12
      have h_v12 : Keeps s0 v12 := by
        unfold v12
        refine Keeps.trans ?_ (kept_showChange _ _ _)
        exact h_v6
      try clear_value v12
      extract_lets +onlyGivenNames -underBinder -merge -useContext v18
      have h_v18 : Keeps s0 v18 := by
        unfold v18
        refine Keeps.trans ?_ (kept_recordPkg _ _ _)
        exact h_v12
      try clear_value v18
      refine Keeps.ite (fun _ => ?_) (fun _ => ?_)
      · refine Keeps.trans ?_ (kept_modSlice _ _ _)
        exact h_v18
      · exact h_v18
    · extract_lets +onlyGivenNames -underBinder -merge -useContext v31
      have h_v31 : Keeps s0 v31 := by
        unfold v31
        refine Keeps.trans ?_ (kept_moveChange _ _)
        exact Keeps.refl _
      try clear_value v31
      refine Keeps.trans ?_ (kept_recordPkg _ _ _)
      exact h_v31

end Sys2Proof.Machine
end

