-- ==== Sys2Proof/Laws/Kept/Classify.lean ====
section
/-!
SUPPORT. What the operations and commands of Machine/Classify.lean keep (see Laws/Keeps.lean).
-/
namespace Sys2Proof.Machine

theorem kept_restartIdle (p : Nat) (s0 : State) : Keeps s0 (restartIdle p s0) := by
  unfold restartIdle
  refine Keeps.ite (fun _ => ?_) (fun _ => ?_)
  · exact Keeps.refl _
  · refine Keeps.trans ?_ (kept_modField _ _ _)
    exact Keeps.refl _

theorem kept_openScreen (p : Nat) (new : UnitState) (s0 : State) : Keeps s0 (openScreen p new s0) := by
  unfold openScreen
  extract_lets +onlyGivenNames -underBinder -merge -useContext v0
  have h_v0 : Keeps s0 v0 := by
    unfold v0
    refine Keeps.ite (fun _ => ?_) (fun _ => ?_)
    · refine Keeps.trans ?_ (kept_restartIdle _ _)
      exact Keeps.refl _
    · exact Keeps.refl _
  try clear_value v0
  extract_lets +onlyGivenNames -underBinder -merge -useContext v10
  try clear_value v10
  refine Keeps.update ?_
  exact h_v0

theorem kept_changeState (p : Nat) (new : UnitState) (cause : Nat) (s0 : State) : Keeps s0 (changeState p new cause s0) := by
  unfold changeState
  extract_lets +onlyGivenNames -underBinder -merge -useContext v0
  try clear_value v0
  extract_lets +onlyGivenNames -underBinder -merge -useContext v2
  try clear_value v2
  extract_lets +onlyGivenNames -underBinder -merge -useContext v4
  try clear_value v4
  extract_lets +onlyGivenNames -underBinder -merge -useContext v6
  try clear_value v6
  extract_lets +onlyGivenNames -underBinder -merge -useContext v8
  have h_v8 : Keeps s0 v8 := by
    unfold v8
    refine Keeps.trans ?_ (kept_setObjs _ _)
    exact Keeps.refl _
  try clear_value v8
  extract_lets +onlyGivenNames -underBinder -merge -useContext v14
  have h_v14 : Keeps s0 v14 := by
    unfold v14
    refine Keeps.trans ?_ (kept_modUnit _ _ _)
    refine Keeps.trans ?_ (kept_openScreen _ _ _)
    exact h_v8
  try clear_value v14
  refine Keeps.trans ?_ (kept_recordSeq _ _ _ _ _ _)
  exact h_v14

theorem kept_stopSlice (k : Nat) (s0 : State) : Keeps s0 (stopSlice k s0) := by
  unfold stopSlice
  refine Keeps.foldl (fun s0 a => ?_) ?_
  · try beta_reduce
    refine Keeps.trans ?_ (kept_holdCluster _ _ _)
    exact Keeps.refl _
  · refine Keeps.trans ?_ (kept_modSlice _ _ _)
    exact Keeps.refl _

theorem kept_raiseEnd (via : Nat) (k : Nat) (s0 : State) : Keeps s0 (raiseEnd via k s0) := by
  unfold raiseEnd
  refine Keeps.trans ?_ (kept_raiseLocal _ _ _)
  exact Keeps.refl _

theorem kept_endSlice (via : Nat) (k : Nat) (s0 : State) : Keeps s0 (endSlice via k s0) := by
  unfold endSlice
  split
  · exact Keeps.refl _
  · refine Keeps.ite (fun _ => ?_) (fun _ => ?_)
    · exact Keeps.refl _
    · refine Keeps.trans ?_ (kept_raiseEnd _ _ _)
      refine Keeps.trans ?_ (kept_stopSlice _ _)
      exact Keeps.refl _

theorem kept_capacityEvent (via : Nat) (k : Nat) (fieldIdx : Nat) (cause : Nat) (s0 : State) : Keeps s0 (capacityEvent via k fieldIdx cause s0) := by
  unfold capacityEvent
  extract_lets +onlyGivenNames -underBinder -merge -useContext v0
  have h_v0 : Keeps s0 v0 := by
    unfold v0
    refine Keeps.trans ?_ (kept_addObj _ _ _)
    exact Keeps.refl _
  try clear_value v0
  refine Keeps.trans ?_ (kept_recordVia _ _ _ _ _ _ _)
  exact h_v0

theorem kept_setOpen (p : Nat) (b : Bool) (s0 : State) : Keeps s0 (setOpen p b s0) := by
  unfold setOpen
  refine Keeps.trans ?_ (kept_modUnit _ _ _)
  exact Keeps.refl _

theorem kept_modCommit (id : Nat) (f : Commit → Commit) (s0 : State) : Keeps s0 (modCommit id f s0) := by
  unfold modCommit
  refine Keeps.update ?_
  exact Keeps.refl _

theorem kept_scheduleCommit (id : Nat) (s0 : State) : Keeps s0 (scheduleCommit id s0) := by
  unfold scheduleCommit
  split
  · exact Keeps.refl _
  · extract_lets +onlyGivenNames -underBinder -merge -useContext v4
    have h_v4 : Keeps s0 v4 := by
      unfold v4
      refine Keeps.update ?_
      exact Keeps.refl _
    try clear_value v4
    extract_lets +onlyGivenNames -underBinder -merge -useContext v10
    try clear_value v10
    extract_lets +onlyGivenNames -underBinder -merge -useContext v12
    try clear_value v12
    refine Keeps.foldl (fun s0 a => ?_) ?_
    · try beta_reduce
      refine Keeps.trans ?_ (kept_modCluster _ _ _)
      exact Keeps.refl _
    · refine Keeps.trans ?_ (kept_modCommit _ _ _)
      exact Keeps.refl _

theorem kept_requestCommit (bs : List Binding) (quarantines : List (Nat × Nat)) (units : List Nat) (cause : Nat) (s0 : State) : Keeps s0 (requestCommit bs quarantines units cause s0) := by
  unfold requestCommit
  refine Keeps.ite (fun _ => ?_) (fun _ => ?_)
  · exact Keeps.refl _
  · extract_lets +onlyGivenNames -underBinder -merge -useContext v4
    try clear_value v4
    extract_lets +onlyGivenNames -underBinder -merge -useContext v6
    try clear_value v6
    extract_lets +onlyGivenNames -underBinder -merge -useContext v8
    have h_v8 : Keeps s0 v8 := by
      unfold v8
      refine Keeps.update ?_
      exact Keeps.refl _
    try clear_value v8
    refine Keeps.ite (fun _ => ?_) (fun _ => ?_)
    · refine Keeps.trans ?_ (kept_scheduleCommit _ _)
      exact h_v8
    · refine Keeps.trans ?_ (kept_raiseLocal _ _ _)
      exact h_v8

theorem kept_bridgeOut (p : Nat) (cause : Nat) (s0 : State) : Keeps s0 (bridgeOut p cause s0) := by
  unfold bridgeOut
  refine Keeps.ite (fun _ => ?_) (fun _ => ?_)
  · exact Keeps.refl _
  · extract_lets +onlyGivenNames -underBinder -merge -useContext v4
    try clear_value v4
    extract_lets +onlyGivenNames -underBinder -merge -useContext v6
    try clear_value v6
    extract_lets +onlyGivenNames -underBinder -merge -useContext v8
    try clear_value v8
    extract_lets +onlyGivenNames -underBinder -merge -useContext v10
    extract_lets +onlyGivenNames -underBinder -merge -useContext v11
    try clear_value v11
    extract_lets +onlyGivenNames -underBinder -merge -useContext v13
    try clear_value v13
    extract_lets +onlyGivenNames -underBinder -merge -useContext v15
    try clear_value v15
    extract_lets +onlyGivenNames -underBinder -merge -useContext v17
    try clear_value v17
    extract_lets +onlyGivenNames -underBinder -merge -useContext v19
    try clear_value v19
    extract_lets +onlyGivenNames -underBinder -merge -useContext v21
    try clear_value v21
    extract_lets +onlyGivenNames -underBinder -merge -useContext v23
    have h_v23 : Keeps s0 v23 := by
      unfold v23
      refine Keeps.trans ?_ (kept_setOpen _ _ _)
      refine Keeps.trans ?_ (kept_setOpen _ _ _)
      exact Keeps.refl _
    try clear_value v23
    extract_lets +onlyGivenNames -underBinder -merge -useContext v30
    try clear_value v30
    extract_lets +onlyGivenNames -underBinder -merge -useContext v32
    have h_v32 : Keeps s0 v32 := by
      unfold v32
      refine Keeps.foldl (fun s0 a => ?_) ?_
      · try beta_reduce
        refine Keeps.trans ?_ (kept_endSlice _ _ _)
        refine Keeps.trans ?_ (kept_capacityEvent _ _ _ _ _)
        exact Keeps.refl _
      · exact h_v23
    try clear_value v32
    refine Keeps.trans ?_ (kept_requestCommit _ _ _ _ _)
    exact h_v32

theorem kept_syncCoreHolds (ck : Nat) (s0 : State) : Keeps s0 (syncCoreHolds ck s0) := by
  unfold syncCoreHolds
  extract_lets +onlyGivenNames -underBinder -merge -useContext v0
  try clear_value v0
  extract_lets +onlyGivenNames -underBinder -merge -useContext v2
  try unfold v2
  try beta_reduce
  refine Keeps.ite (fun _ => ?_) (fun _ => ?_)
  · try unfold v2
    try beta_reduce
    refine Keeps.ite (fun _ => ?_) (fun _ => ?_)
    · try unfold v2
      try beta_reduce
      refine Keeps.ite (fun _ => ?_) (fun _ => ?_)
      · try unfold v2
        try beta_reduce
        refine Keeps.ite (fun _ => ?_) (fun _ => ?_)
        · exact Keeps.refl _
        · refine Keeps.ite (fun _ => ?_) (fun _ => ?_)
          · refine Keeps.trans ?_ (kept_holdCluster _ _ _)
            exact Keeps.refl _
          · refine Keeps.trans ?_ (kept_freeCluster _ _ _)
            exact Keeps.refl _
      · refine Keeps.ite (fun _ => ?_) (fun _ => ?_)
        · refine Keeps.trans ?_ (kept_holdCluster _ _ _)
          try unfold v2
          try beta_reduce
          refine Keeps.ite (fun _ => ?_) (fun _ => ?_)
          · exact Keeps.refl _
          · refine Keeps.ite (fun _ => ?_) (fun _ => ?_)
            · refine Keeps.trans ?_ (kept_holdCluster _ _ _)
              exact Keeps.refl _
            · refine Keeps.trans ?_ (kept_freeCluster _ _ _)
              exact Keeps.refl _
        · refine Keeps.trans ?_ (kept_freeCluster _ _ _)
          try unfold v2
          try beta_reduce
          refine Keeps.ite (fun _ => ?_) (fun _ => ?_)
          · exact Keeps.refl _
          · refine Keeps.ite (fun _ => ?_) (fun _ => ?_)
            · refine Keeps.trans ?_ (kept_holdCluster _ _ _)
              exact Keeps.refl _
            · refine Keeps.trans ?_ (kept_freeCluster _ _ _)
              exact Keeps.refl _
    · refine Keeps.ite (fun _ => ?_) (fun _ => ?_)
      · refine Keeps.trans ?_ (kept_holdCluster _ _ _)
        try unfold v2
        try beta_reduce
        refine Keeps.ite (fun _ => ?_) (fun _ => ?_)
        · try unfold v2
          try beta_reduce
          refine Keeps.ite (fun _ => ?_) (fun _ => ?_)
          · exact Keeps.refl _
          · refine Keeps.ite (fun _ => ?_) (fun _ => ?_)
            · refine Keeps.trans ?_ (kept_holdCluster _ _ _)
              exact Keeps.refl _
            · refine Keeps.trans ?_ (kept_freeCluster _ _ _)
              exact Keeps.refl _
        · refine Keeps.ite (fun _ => ?_) (fun _ => ?_)
          · refine Keeps.trans ?_ (kept_holdCluster _ _ _)
            try unfold v2
            try beta_reduce
            refine Keeps.ite (fun _ => ?_) (fun _ => ?_)
            · exact Keeps.refl _
            · refine Keeps.ite (fun _ => ?_) (fun _ => ?_)
              · refine Keeps.trans ?_ (kept_holdCluster _ _ _)
                exact Keeps.refl _
              · refine Keeps.trans ?_ (kept_freeCluster _ _ _)
                exact Keeps.refl _
          · refine Keeps.trans ?_ (kept_freeCluster _ _ _)
            try unfold v2
            try beta_reduce
            refine Keeps.ite (fun _ => ?_) (fun _ => ?_)
            · exact Keeps.refl _
            · refine Keeps.ite (fun _ => ?_) (fun _ => ?_)
              · refine Keeps.trans ?_ (kept_holdCluster _ _ _)
                exact Keeps.refl _
              · refine Keeps.trans ?_ (kept_freeCluster _ _ _)
                exact Keeps.refl _
      · refine Keeps.trans ?_ (kept_freeCluster _ _ _)
        try unfold v2
        try beta_reduce
        refine Keeps.ite (fun _ => ?_) (fun _ => ?_)
        · try unfold v2
          try beta_reduce
          refine Keeps.ite (fun _ => ?_) (fun _ => ?_)
          · exact Keeps.refl _
          · refine Keeps.ite (fun _ => ?_) (fun _ => ?_)
            · refine Keeps.trans ?_ (kept_holdCluster _ _ _)
              exact Keeps.refl _
            · refine Keeps.trans ?_ (kept_freeCluster _ _ _)
              exact Keeps.refl _
        · refine Keeps.ite (fun _ => ?_) (fun _ => ?_)
          · refine Keeps.trans ?_ (kept_holdCluster _ _ _)
            try unfold v2
            try beta_reduce
            refine Keeps.ite (fun _ => ?_) (fun _ => ?_)
            · exact Keeps.refl _
            · refine Keeps.ite (fun _ => ?_) (fun _ => ?_)
              · refine Keeps.trans ?_ (kept_holdCluster _ _ _)
                exact Keeps.refl _
              · refine Keeps.trans ?_ (kept_freeCluster _ _ _)
                exact Keeps.refl _
          · refine Keeps.trans ?_ (kept_freeCluster _ _ _)
            try unfold v2
            try beta_reduce
            refine Keeps.ite (fun _ => ?_) (fun _ => ?_)
            · exact Keeps.refl _
            · refine Keeps.ite (fun _ => ?_) (fun _ => ?_)
              · refine Keeps.trans ?_ (kept_holdCluster _ _ _)
                exact Keeps.refl _
              · refine Keeps.trans ?_ (kept_freeCluster _ _ _)
                exact Keeps.refl _
  · refine Keeps.ite (fun _ => ?_) (fun _ => ?_)
    · refine Keeps.trans ?_ (kept_holdCluster _ _ _)
      try unfold v2
      try beta_reduce
      refine Keeps.ite (fun _ => ?_) (fun _ => ?_)
      · try unfold v2
        try beta_reduce
        refine Keeps.ite (fun _ => ?_) (fun _ => ?_)
        · try unfold v2
          try beta_reduce
          refine Keeps.ite (fun _ => ?_) (fun _ => ?_)
          · exact Keeps.refl _
          · refine Keeps.ite (fun _ => ?_) (fun _ => ?_)
            · refine Keeps.trans ?_ (kept_holdCluster _ _ _)
              exact Keeps.refl _
            · refine Keeps.trans ?_ (kept_freeCluster _ _ _)
              exact Keeps.refl _
        · refine Keeps.ite (fun _ => ?_) (fun _ => ?_)
          · refine Keeps.trans ?_ (kept_holdCluster _ _ _)
            try unfold v2
            try beta_reduce
            refine Keeps.ite (fun _ => ?_) (fun _ => ?_)
            · exact Keeps.refl _
            · refine Keeps.ite (fun _ => ?_) (fun _ => ?_)
              · refine Keeps.trans ?_ (kept_holdCluster _ _ _)
                exact Keeps.refl _
              · refine Keeps.trans ?_ (kept_freeCluster _ _ _)
                exact Keeps.refl _
          · refine Keeps.trans ?_ (kept_freeCluster _ _ _)
            try unfold v2
            try beta_reduce
            refine Keeps.ite (fun _ => ?_) (fun _ => ?_)
            · exact Keeps.refl _
            · refine Keeps.ite (fun _ => ?_) (fun _ => ?_)
              · refine Keeps.trans ?_ (kept_holdCluster _ _ _)
                exact Keeps.refl _
              · refine Keeps.trans ?_ (kept_freeCluster _ _ _)
                exact Keeps.refl _
      · refine Keeps.ite (fun _ => ?_) (fun _ => ?_)
        · refine Keeps.trans ?_ (kept_holdCluster _ _ _)
          try unfold v2
          try beta_reduce
          refine Keeps.ite (fun _ => ?_) (fun _ => ?_)
          · try unfold v2
            try beta_reduce
            refine Keeps.ite (fun _ => ?_) (fun _ => ?_)
            · exact Keeps.refl _
            · refine Keeps.ite (fun _ => ?_) (fun _ => ?_)
              · refine Keeps.trans ?_ (kept_holdCluster _ _ _)
                exact Keeps.refl _
              · refine Keeps.trans ?_ (kept_freeCluster _ _ _)
                exact Keeps.refl _
          · refine Keeps.ite (fun _ => ?_) (fun _ => ?_)
            · refine Keeps.trans ?_ (kept_holdCluster _ _ _)
              try unfold v2
              try beta_reduce
              refine Keeps.ite (fun _ => ?_) (fun _ => ?_)
              · exact Keeps.refl _
              · refine Keeps.ite (fun _ => ?_) (fun _ => ?_)
                · refine Keeps.trans ?_ (kept_holdCluster _ _ _)
                  exact Keeps.refl _
                · refine Keeps.trans ?_ (kept_freeCluster _ _ _)
                  exact Keeps.refl _
            · refine Keeps.trans ?_ (kept_freeCluster _ _ _)
              try unfold v2
              try beta_reduce
              refine Keeps.ite (fun _ => ?_) (fun _ => ?_)
              · exact Keeps.refl _
              · refine Keeps.ite (fun _ => ?_) (fun _ => ?_)
                · refine Keeps.trans ?_ (kept_holdCluster _ _ _)
                  exact Keeps.refl _
                · refine Keeps.trans ?_ (kept_freeCluster _ _ _)
                  exact Keeps.refl _
        · refine Keeps.trans ?_ (kept_freeCluster _ _ _)
          try unfold v2
          try beta_reduce
          refine Keeps.ite (fun _ => ?_) (fun _ => ?_)
          · try unfold v2
            try beta_reduce
            refine Keeps.ite (fun _ => ?_) (fun _ => ?_)
            · exact Keeps.refl _
            · refine Keeps.ite (fun _ => ?_) (fun _ => ?_)
              · refine Keeps.trans ?_ (kept_holdCluster _ _ _)
                exact Keeps.refl _
              · refine Keeps.trans ?_ (kept_freeCluster _ _ _)
                exact Keeps.refl _
          · refine Keeps.ite (fun _ => ?_) (fun _ => ?_)
            · refine Keeps.trans ?_ (kept_holdCluster _ _ _)
              try unfold v2
              try beta_reduce
              refine Keeps.ite (fun _ => ?_) (fun _ => ?_)
              · exact Keeps.refl _
              · refine Keeps.ite (fun _ => ?_) (fun _ => ?_)
                · refine Keeps.trans ?_ (kept_holdCluster _ _ _)
                  exact Keeps.refl _
                · refine Keeps.trans ?_ (kept_freeCluster _ _ _)
                  exact Keeps.refl _
            · refine Keeps.trans ?_ (kept_freeCluster _ _ _)
              try unfold v2
              try beta_reduce
              refine Keeps.ite (fun _ => ?_) (fun _ => ?_)
              · exact Keeps.refl _
              · refine Keeps.ite (fun _ => ?_) (fun _ => ?_)
                · refine Keeps.trans ?_ (kept_holdCluster _ _ _)
                  exact Keeps.refl _
                · refine Keeps.trans ?_ (kept_freeCluster _ _ _)
                  exact Keeps.refl _
    · refine Keeps.trans ?_ (kept_freeCluster _ _ _)
      try unfold v2
      try beta_reduce
      refine Keeps.ite (fun _ => ?_) (fun _ => ?_)
      · try unfold v2
        try beta_reduce
        refine Keeps.ite (fun _ => ?_) (fun _ => ?_)
        · try unfold v2
          try beta_reduce
          refine Keeps.ite (fun _ => ?_) (fun _ => ?_)
          · exact Keeps.refl _
          · refine Keeps.ite (fun _ => ?_) (fun _ => ?_)
            · refine Keeps.trans ?_ (kept_holdCluster _ _ _)
              exact Keeps.refl _
            · refine Keeps.trans ?_ (kept_freeCluster _ _ _)
              exact Keeps.refl _
        · refine Keeps.ite (fun _ => ?_) (fun _ => ?_)
          · refine Keeps.trans ?_ (kept_holdCluster _ _ _)
            try unfold v2
            try beta_reduce
            refine Keeps.ite (fun _ => ?_) (fun _ => ?_)
            · exact Keeps.refl _
            · refine Keeps.ite (fun _ => ?_) (fun _ => ?_)
              · refine Keeps.trans ?_ (kept_holdCluster _ _ _)
                exact Keeps.refl _
              · refine Keeps.trans ?_ (kept_freeCluster _ _ _)
                exact Keeps.refl _
          · refine Keeps.trans ?_ (kept_freeCluster _ _ _)
            try unfold v2
            try beta_reduce
            refine Keeps.ite (fun _ => ?_) (fun _ => ?_)
            · exact Keeps.refl _
            · refine Keeps.ite (fun _ => ?_) (fun _ => ?_)
              · refine Keeps.trans ?_ (kept_holdCluster _ _ _)
                exact Keeps.refl _
              · refine Keeps.trans ?_ (kept_freeCluster _ _ _)
                exact Keeps.refl _
      · refine Keeps.ite (fun _ => ?_) (fun _ => ?_)
        · refine Keeps.trans ?_ (kept_holdCluster _ _ _)
          try unfold v2
          try beta_reduce
          refine Keeps.ite (fun _ => ?_) (fun _ => ?_)
          · try unfold v2
            try beta_reduce
            refine Keeps.ite (fun _ => ?_) (fun _ => ?_)
            · exact Keeps.refl _
            · refine Keeps.ite (fun _ => ?_) (fun _ => ?_)
              · refine Keeps.trans ?_ (kept_holdCluster _ _ _)
                exact Keeps.refl _
              · refine Keeps.trans ?_ (kept_freeCluster _ _ _)
                exact Keeps.refl _
          · refine Keeps.ite (fun _ => ?_) (fun _ => ?_)
            · refine Keeps.trans ?_ (kept_holdCluster _ _ _)
              try unfold v2
              try beta_reduce
              refine Keeps.ite (fun _ => ?_) (fun _ => ?_)
              · exact Keeps.refl _
              · refine Keeps.ite (fun _ => ?_) (fun _ => ?_)
                · refine Keeps.trans ?_ (kept_holdCluster _ _ _)
                  exact Keeps.refl _
                · refine Keeps.trans ?_ (kept_freeCluster _ _ _)
                  exact Keeps.refl _
            · refine Keeps.trans ?_ (kept_freeCluster _ _ _)
              try unfold v2
              try beta_reduce
              refine Keeps.ite (fun _ => ?_) (fun _ => ?_)
              · exact Keeps.refl _
              · refine Keeps.ite (fun _ => ?_) (fun _ => ?_)
                · refine Keeps.trans ?_ (kept_holdCluster _ _ _)
                  exact Keeps.refl _
                · refine Keeps.trans ?_ (kept_freeCluster _ _ _)
                  exact Keeps.refl _
        · refine Keeps.trans ?_ (kept_freeCluster _ _ _)
          try unfold v2
          try beta_reduce
          refine Keeps.ite (fun _ => ?_) (fun _ => ?_)
          · try unfold v2
            try beta_reduce
            refine Keeps.ite (fun _ => ?_) (fun _ => ?_)
            · exact Keeps.refl _
            · refine Keeps.ite (fun _ => ?_) (fun _ => ?_)
              · refine Keeps.trans ?_ (kept_holdCluster _ _ _)
                exact Keeps.refl _
              · refine Keeps.trans ?_ (kept_freeCluster _ _ _)
                exact Keeps.refl _
          · refine Keeps.ite (fun _ => ?_) (fun _ => ?_)
            · refine Keeps.trans ?_ (kept_holdCluster _ _ _)
              try unfold v2
              try beta_reduce
              refine Keeps.ite (fun _ => ?_) (fun _ => ?_)
              · exact Keeps.refl _
              · refine Keeps.ite (fun _ => ?_) (fun _ => ?_)
                · refine Keeps.trans ?_ (kept_holdCluster _ _ _)
                  exact Keeps.refl _
                · refine Keeps.trans ?_ (kept_freeCluster _ _ _)
                  exact Keeps.refl _
            · refine Keeps.trans ?_ (kept_freeCluster _ _ _)
              try unfold v2
              try beta_reduce
              refine Keeps.ite (fun _ => ?_) (fun _ => ?_)
              · exact Keeps.refl _
              · refine Keeps.ite (fun _ => ?_) (fun _ => ?_)
                · refine Keeps.trans ?_ (kept_holdCluster _ _ _)
                  exact Keeps.refl _
                · refine Keeps.trans ?_ (kept_freeCluster _ _ _)
                  exact Keeps.refl _

theorem kept_withholdCore (p : Nat) (s0 : State) : Keeps s0 (withholdCore p s0) := by
  unfold withholdCore
  extract_lets +onlyGivenNames -underBinder -merge -useContext v0
  refine Keeps.trans ?_ (kept_syncCoreHolds _ _)
  refine Keeps.trans ?_ (kept_modCore _ _ _)
  exact Keeps.refl _

theorem kept_rebindCluster (l : Nat) (ck : Nat) (toBallast : Bool) (units : List Nat) (cause : Nat) (s0 : State) : Keeps s0 (rebindCluster l ck toBallast units cause s0) := by
  unfold rebindCluster
  extract_lets +onlyGivenNames -underBinder -merge -useContext v0
  try clear_value v0
  extract_lets +onlyGivenNames -underBinder -merge -useContext v2
  try clear_value v2
  extract_lets +onlyGivenNames -underBinder -merge -useContext v4
  try clear_value v4
  extract_lets +onlyGivenNames -underBinder -merge -useContext v6
  have h_v6 : Keeps s0 v6 := by
    unfold v6
    refine Keeps.trans ?_ (kept_addObj _ _ _)
    exact Keeps.refl _
  try clear_value v6
  extract_lets +onlyGivenNames -underBinder -merge -useContext v12
  have h_v12 : Keeps s0 v12 := by
    unfold v12
    refine Keeps.trans ?_ (kept_requestCommit _ _ _ _ _)
    exact h_v6
  try clear_value v12
  split
  · exact h_v12
  · refine Keeps.ite (fun _ => ?_) (fun _ => ?_)
    · exact h_v12
    · refine Keeps.trans ?_ (kept_capacityEvent _ _ _ _ _)
      exact h_v12

theorem kept_clusterOut (ck : Nat) (units : List Nat) (cause : Nat) (s0 : State) : Keeps s0 (clusterOut ck units cause s0) := by
  unfold clusterOut
  split
  · refine Keeps.trans ?_ (kept_rebindCluster _ _ _ _ _ _)
    refine Keeps.foldl (fun s0 a => ?_) ?_
    · try beta_reduce
      refine Keeps.trans ?_ (kept_setOpen _ _ _)
      exact Keeps.refl _
    · refine Keeps.foldl (fun s0 a => ?_) ?_
      · try beta_reduce
        refine Keeps.trans ?_ (kept_withholdCore _ _)
        exact Keeps.refl _
      · exact Keeps.refl _
  · exact Keeps.refl _

theorem kept_applyMap (b : Binding) (s0 : State) : Keeps s0 (applyMap b s0) := by
  unfold applyMap
  split
  · refine Keeps.update ?_
    exact Keeps.refl _
  · refine Keeps.update ?_
    exact Keeps.refl _
  · extract_lets +onlyGivenNames -underBinder -merge -useContext v8
    try clear_value v8
    extract_lets +onlyGivenNames -underBinder -merge -useContext v10
    try clear_value v10
    refine Keeps.update ?_
    exact Keeps.refl _
  · refine Keeps.update ?_
    exact Keeps.refl _
  · refine Keeps.update ?_
    exact Keeps.refl _
  · refine Keeps.update ?_
    exact Keeps.refl _
  · refine Keeps.update ?_
    exact Keeps.refl _
  · exact Keeps.refl _
  · exact Keeps.refl _

theorem kept_pendingMaps (s0 : State) : Keeps s0 (pendingMaps s0) := by
  unfold pendingMaps
  refine Keeps.foldl (fun s0 a => ?_) ?_
  · try beta_reduce
    refine Keeps.trans ?_ (kept_applyMap _ _)
    exact Keeps.refl _
  · exact Keeps.refl _

theorem kept_endInvalid (fieldIdx : Nat) (cause : Nat) (s0 : State) : Keeps s0 (endInvalid fieldIdx cause s0) := by
  unfold endInvalid
  extract_lets +onlyGivenNames -underBinder -merge -useContext v0
  have h_v0 : Keeps s0 v0 := by
    unfold v0
    refine Keeps.trans ?_ (kept_pendingMaps _)
    exact Keeps.refl _
  try clear_value v0
  refine Keeps.foldl (fun s0 a => ?_) ?_
  · try beta_reduce
    refine Keeps.trans ?_ (kept_endSlice _ _ _)
    refine Keeps.trans ?_ (kept_capacityEvent _ _ _ _ _)
    exact Keeps.refl _
  · exact Keeps.refl _

theorem kept_routerOut (p : Nat) (cause : Nat) (s0 : State) : Keeps s0 (routerOut p cause s0) := by
  unfold routerOut
  extract_lets +onlyGivenNames -underBinder -merge -useContext v0
  try clear_value v0
  extract_lets +onlyGivenNames -underBinder -merge -useContext v2
  try clear_value v2
  extract_lets +onlyGivenNames -underBinder -merge -useContext v4
  have h_v4 : Keeps s0 v4 := by
    unfold v4
    refine Keeps.foldl (fun s0 a => ?_) ?_
    · try beta_reduce
      refine Keeps.trans ?_ (kept_modUnit _ _ _)
      exact Keeps.refl _
    · exact Keeps.refl _
  try clear_value v4
  extract_lets +onlyGivenNames -underBinder -merge -useContext v15
  have h_v15 : Keeps s0 v15 := by
    unfold v15
    refine Keeps.trans ?_ (kept_requestCommit _ _ _ _ _)
    refine Keeps.trans ?_ (kept_setOpen _ _ _)
    exact h_v4
  try clear_value v15
  refine Keeps.trans ?_ (kept_endInvalid _ _ _)
  refine Keeps.foldl (fun s0 a => ?_) ?_
  · try beta_reduce
    refine Keeps.trans ?_ (kept_clusterOut _ _ _ _)
    exact Keeps.refl _
  · exact h_v15

theorem kept_dropBinding (b : Binding) (s0 : State) : Keeps s0 (dropBinding b s0) := by
  unfold dropBinding
  extract_lets +onlyGivenNames -underBinder -merge -useContext v0
  try clear_value v0
  refine Keeps.update ?_
  exact Keeps.refl _

theorem kept_publishSwap (lcn : Nat) (w : Nat) (sp : Nat) (outcome : Nat) (s0 : State) : Keeps s0 (publishSwap lcn w sp outcome s0) := by
  unfold publishSwap
  extract_lets +onlyGivenNames -underBinder -merge -useContext v0
  have h_v0 : Keeps s0 v0 := by
    unfold v0
    refine Keeps.trans ?_ (kept_addObj _ _ _)
    exact Keeps.refl _
  try clear_value v0
  extract_lets +onlyGivenNames -underBinder -merge -useContext v6
  have h_v6 : Keeps s0 v6 := by
    unfold v6
    refine Keeps.trans ?_ (kept_setObjs _ _)
    exact h_v0
  try clear_value v6
  refine Keeps.trans ?_ (kept_recordSeq _ _ _ _ _ _)
  exact h_v6

theorem kept_laneOut (p : Nat) (cause : Nat) (s0 : State) : Keeps s0 (laneOut p cause s0) := by
  unfold laneOut
  extract_lets +onlyGivenNames -underBinder -merge -useContext v0
  try clear_value v0
  extract_lets +onlyGivenNames -underBinder -merge -useContext v2
  try clear_value v2
  split
  · exact Keeps.refl _
  · extract_lets +onlyGivenNames -underBinder -merge -useContext v8
    try clear_value v8
    extract_lets +onlyGivenNames -underBinder -merge -useContext v10
    have h_v10 : Keeps s0 v10 := by
      unfold v10
      refine Keeps.trans ?_ (kept_setOpen _ _ _)
      exact Keeps.refl _
    try clear_value v10
    extract_lets +onlyGivenNames -underBinder -merge -useContext v16
    have h_v16 : Keeps s0 v16 := by
      unfold v16
      refine Keeps.trans ?_ (kept_requestCommit _ _ _ _ _)
      exact h_v10
    try clear_value v16
    split
    · exact h_v16
    · extract_lets +onlyGivenNames -underBinder -merge -useContext v26
      try clear_value v26
      refine Keeps.foldl (fun s0 a => ?_) ?_
      · try beta_reduce
        refine Keeps.trans ?_ (kept_endSlice _ _ _)
        refine Keeps.trans ?_ (kept_capacityEvent _ _ _ _ _)
        exact Keeps.refl _
      · exact h_v16

theorem kept_dropSwap (ck : Nat) (s0 : State) : Keeps s0 (dropSwap ck s0) := by
  unfold dropSwap
  extract_lets +onlyGivenNames -underBinder -merge -useContext v0
  try clear_value v0
  refine Keeps.foldl (fun s0 a => ?_) ?_
  · try beta_reduce
    split
    · refine Keeps.trans ?_ (kept_publishSwap _ _ _ _ _)
      refine Keeps.trans ?_ (kept_setOpen _ _ _)
      refine Keeps.trans ?_ (kept_setOpen _ _ _)
      refine Keeps.trans ?_ (kept_dropBinding _ _)
      exact Keeps.refl _
    · exact Keeps.refl _
  · exact Keeps.refl _

theorem kept_rebindCore (p : Nat) (lcn : Nat) (cause : Nat) (s0 : State) : Keeps s0 (rebindCore p lcn cause s0) := by
  unfold rebindCore
  extract_lets +onlyGivenNames -underBinder -merge -useContext v0
  try clear_value v0
  extract_lets +onlyGivenNames -underBinder -merge -useContext v2
  have h_v2 : Keeps s0 v2 := by
    unfold v2
    refine Keeps.trans ?_ (kept_setOpen _ _ _)
    refine Keeps.trans ?_ (kept_withholdCore _ _)
    refine Keeps.trans ?_ (kept_dropSwap _ _)
    exact Keeps.refl _
  try clear_value v2
  split
  · refine Keeps.ite (fun _ => ?_) (fun _ => ?_)
    · refine Keeps.trans ?_ (kept_requestCommit _ _ _ _ _)
      exact h_v2
    · refine Keeps.trans ?_ (kept_rebindCluster _ _ _ _ _ _)
      refine Keeps.trans ?_ (kept_addObj _ _ _)
      exact h_v2
  · refine Keeps.trans ?_ (kept_rebindCluster _ _ _ _ _ _)
    exact h_v2

theorem kept_rechoose (p : Nat) (s0 : State) : Keeps s0 (rechoose p s0) := by
  unfold rechoose
  extract_lets +onlyGivenNames -underBinder -merge -useContext v0
  try clear_value v0
  refine Keeps.foldl (fun s0 a => ?_) ?_
  · try beta_reduce
    extract_lets +onlyGivenNames -underBinder -merge -useContext v5
    have h_v5 : Keeps s0 v5 := by
      unfold v5
      refine Keeps.trans ?_ (kept_dropBinding _ _)
      exact Keeps.refl _
    try clear_value v5
    split
    · refine Keeps.trans ?_ (kept_rebindCore _ _ _ _)
      exact h_v5
    · refine Keeps.trans ?_ (kept_setOpen _ _ _)
      refine Keeps.trans ?_ (kept_setOpen _ _ _)
      refine Keeps.ite (fun _ => ?_) (fun _ => ?_)
      · refine Keeps.trans ?_ (kept_publishSwap _ _ _ _ _)
        exact h_v5
      · exact h_v5
    · refine Keeps.trans ?_ (kept_laneOut _ _ _)
      exact h_v5
    · refine Keeps.trans ?_ (kept_rebindCluster _ _ _ _ _ _)
      exact h_v5
    · exact h_v5
  · exact Keeps.refl _

theorem kept_toQuarantined (p : Nat) (cause : Nat) (s0 : State) : Keeps s0 (toQuarantined p cause s0) := by
  unfold toQuarantined
  refine Keeps.ite (fun _ => ?_) (fun _ => ?_)
  · refine Keeps.trans ?_ (kept_changeState _ _ _ _)
    exact Keeps.refl _
  · exact Keeps.refl _

theorem kept_assignAdoptive (ck : Nat) (s0 : State) : Keeps s0 (assignAdoptive ck s0) := by
  unfold assignAdoptive
  refine Keeps.ite (fun _ => ?_) (fun _ => ?_)
  · refine Keeps.trans ?_ (kept_modCluster _ _ _)
    exact Keeps.refl _
  · refine Keeps.ite (fun _ => ?_) (fun _ => ?_)
    · refine Keeps.ite (fun _ => ?_) (fun _ => ?_)
      · refine Keeps.trans ?_ (kept_modCluster _ _ _)
        exact Keeps.refl _
      · exact Keeps.refl _
    · refine Keeps.trans ?_ (kept_modCluster _ _ _)
      exact Keeps.refl _

theorem kept_refreshAdoptive (s0 : State) : Keeps s0 (refreshAdoptive s0) := by
  unfold refreshAdoptive
  refine Keeps.foldl (fun s0 a => ?_) ?_
  · try beta_reduce
    refine Keeps.trans ?_ (kept_assignAdoptive _ _)
    exact Keeps.refl _
  · exact Keeps.refl _

theorem kept_spareMove (p : Nat) (s0 : State) : Keeps s0 (spareMove p s0) := by
  unfold spareMove
  extract_lets +onlyGivenNames -underBinder -merge -useContext v0
  try clear_value v0
  refine Keeps.ite (fun _ => ?_) (fun _ => ?_)
  · refine Keeps.trans ?_ (kept_modUnit _ _ _)
    exact Keeps.refl _
  · exact Keeps.refl _

theorem kept_moveReplays (p : Nat) (s0 : State) : Keeps s0 (moveReplays p s0) := by
  unfold moveReplays
  extract_lets +onlyGivenNames -underBinder -merge -useContext v0
  try clear_value v0
  refine Keeps.foldl (fun s0 a => ?_) ?_
  · try beta_reduce
    extract_lets +onlyGivenNames -underBinder -merge -useContext v5
    try clear_value v5
    split
    · refine Keeps.trans ?_ (kept_spareMove _ _)
      refine Keeps.trans ?_ (kept_modCore _ _ _)
      exact Keeps.refl _
    · refine Keeps.trans ?_ (kept_modCluster _ _ _)
      exact Keeps.refl _
  · refine Keeps.trans ?_ (kept_modCore _ _ _)
    exact Keeps.refl _

theorem kept_leaveReplayRole (p : Nat) (s0 : State) : Keeps s0 (leaveReplayRole p s0) := by
  unfold leaveReplayRole
  refine Keeps.trans ?_ (kept_moveReplays _ _)
  refine Keeps.trans ?_ (kept_refreshAdoptive _)
  refine Keeps.trans ?_ (kept_assignAdoptive _ _)
  exact Keeps.refl _

theorem kept_loseSlot (stackKey : Nat) (slot : Nat) (cause : Nat) (unit : Nat) (s0 : State) : Keeps s0 (loseSlot stackKey slot cause unit s0) := by
  unfold loseSlot
  extract_lets +onlyGivenNames -underBinder -merge -useContext v0
  have h_v0 : Keeps s0 v0 := by
    unfold v0
    refine Keeps.trans ?_ (kept_requestCommit _ _ _ _ _)
    exact Keeps.refl _
  try clear_value v0
  extract_lets +onlyGivenNames -underBinder -merge -useContext v6
  try clear_value v6
  refine Keeps.foldl (fun s0 a => ?_) ?_
  · try beta_reduce
    refine Keeps.trans ?_ (kept_capacityEvent _ _ _ _ _)
    exact Keeps.refl _
  · exact h_v0

theorem kept_channelOut (t : UnitState) (p : Nat) (cause : Nat) (s0 : State) : Keeps s0 (channelOut t p cause s0) := by
  unfold channelOut
  extract_lets +onlyGivenNames -underBinder -merge -useContext v0
  try clear_value v0
  split
  · refine Keeps.trans ?_ (kept_modUnit _ _ _)
    refine Keeps.update ?_
    exact Keeps.refl _
  · refine Keeps.trans ?_ (kept_loseSlot _ _ _ _ _)
    refine Keeps.trans ?_ (kept_changeState _ _ _ _)
    exact Keeps.refl _
  · refine Keeps.trans ?_ (kept_changeState _ _ _ _)
    exact Keeps.refl _

theorem kept_bindPlace (p : Nat) (place : Nat) (s0 : State) : Keeps s0 (bindPlace p place s0) := by
  unfold bindPlace
  refine Keeps.trans ?_ (kept_modUnit _ _ _)
  exact Keeps.refl _

theorem kept_leaveService (t : UnitState) (p : Nat) (cause : Nat) (s0 : State) : Keeps s0 (leaveService t p cause s0) := by
  unfold leaveService
  extract_lets +onlyGivenNames -underBinder -merge -useContext v0
  try clear_value v0
  refine Keeps.ite (fun _ => ?_) (fun _ => ?_)
  · refine Keeps.trans ?_ (kept_changeState _ _ _ _)
    exact Keeps.refl _
  · split
    · extract_lets +onlyGivenNames -underBinder -merge -useContext v9
      try clear_value v9
      extract_lets +onlyGivenNames -underBinder -merge -useContext v11
      have h_v11 : Keeps s0 v11 := by
        unfold v11
        refine Keeps.trans ?_ (kept_changeState _ _ _ _)
        exact Keeps.refl _
      try clear_value v11
      split
      · refine Keeps.trans ?_ (kept_rebindCore _ _ _ _)
        exact h_v11
      · refine Keeps.trans ?_ (kept_rechoose _ _)
        refine Keeps.trans ?_ (kept_leaveReplayRole _ _)
        exact h_v11
    · extract_lets +onlyGivenNames -underBinder -merge -useContext v26
      have h_v26 : Keeps s0 v26 := by
        unfold v26
        refine Keeps.trans ?_ (kept_rechoose _ _)
        refine Keeps.trans ?_ (kept_changeState _ _ _ _)
        exact Keeps.refl _
      try clear_value v26
      refine Keeps.ite (fun _ => ?_) (fun _ => ?_)
      · extract_lets +onlyGivenNames -underBinder -merge -useContext v35
        try clear_value v35
        extract_lets +onlyGivenNames -underBinder -merge -useContext v37
        try clear_value v37
        refine Keeps.trans ?_ (kept_clusterOut _ _ _ _)
        refine Keeps.ite (fun _ => ?_) (fun _ => ?_)
        · refine Keeps.foldl (fun s0 a => ?_) ?_
          · try beta_reduce
            refine Keeps.trans ?_ (kept_toQuarantined _ _ _)
            exact Keeps.refl _
          · exact h_v26
        · exact h_v26
      · refine Keeps.trans ?_ (kept_routerOut _ _ _)
        exact h_v26
    · refine Keeps.trans ?_ (kept_laneOut _ _ _)
      refine Keeps.trans ?_ (kept_rechoose _ _)
      refine Keeps.trans ?_ (kept_changeState _ _ _ _)
      exact Keeps.refl _
    · refine Keeps.trans ?_ (kept_bridgeOut _ _ _)
      refine Keeps.foldl (fun s0 a => ?_) ?_
      · try beta_reduce
        refine Keeps.trans ?_ (kept_changeState _ _ _ _)
        exact Keeps.refl _
      · exact Keeps.refl _
    · refine Keeps.ite (fun _ => ?_) (fun _ => ?_)
      · extract_lets +onlyGivenNames -underBinder -merge -useContext v71
        try clear_value v71
        extract_lets +onlyGivenNames -underBinder -merge -useContext v73
        have h_v73 : Keeps s0 v73 := by
          unfold v73
          refine Keeps.trans ?_ (kept_changeState _ _ _ _)
          exact Keeps.refl _
        try clear_value v73
        split
        · extract_lets +onlyGivenNames -underBinder -merge -useContext v81
          have h_v81 : Keeps s0 v81 := by
            unfold v81
            refine Keeps.update ?_
            exact h_v73
          try clear_value v81
          split
          · refine Keeps.trans ?_ (kept_loseSlot _ _ _ _ _)
            refine Keeps.trans ?_ (kept_changeState _ _ _ _)
            refine Keeps.trans ?_ (kept_modUnit _ _ _)
            exact h_v81
          · exact h_v81
        · exact h_v73
      · refine Keeps.trans ?_ (kept_channelOut _ _ _ _)
        exact Keeps.refl _
    · extract_lets +onlyGivenNames -underBinder -merge -useContext v101
      try clear_value v101
      extract_lets +onlyGivenNames -underBinder -merge -useContext v103
      try clear_value v103
      extract_lets +onlyGivenNames -underBinder -merge -useContext v105
      try clear_value v105
      extract_lets +onlyGivenNames -underBinder -merge -useContext v107
      have h_v107 : Keeps s0 v107 := by
        unfold v107
        refine Keeps.ite (fun _ => ?_) (fun _ => ?_)
        · refine Keeps.foldl (fun s0 a => ?_) ?_
          · try beta_reduce
            refine Keeps.trans ?_ (kept_toQuarantined _ _ _)
            exact Keeps.refl _
          · exact Keeps.refl _
        · refine Keeps.trans ?_ (kept_changeState _ _ _ _)
          exact Keeps.refl _
      try clear_value v107
      extract_lets +onlyGivenNames -underBinder -merge -useContext v123
      have h_v123 : Keeps s0 v123 := by
        unfold v123
        refine Keeps.trans ?_ (kept_rechoose _ _)
        exact h_v107
      try clear_value v123
      refine Keeps.ite (fun _ => ?_) (fun _ => ?_)
      · refine Keeps.trans ?_ (kept_clusterOut _ _ _ _)
        exact h_v123
      · exact h_v123
    · extract_lets +onlyGivenNames -underBinder -merge -useContext v136
      try clear_value v136
      extract_lets +onlyGivenNames -underBinder -merge -useContext v138
      try clear_value v138
      extract_lets +onlyGivenNames -underBinder -merge -useContext v140
      try clear_value v140
      extract_lets +onlyGivenNames -underBinder -merge -useContext v142
      have h_v142 : Keeps s0 v142 := by
        unfold v142
        refine Keeps.ite (fun _ => ?_) (fun _ => ?_)
        · refine Keeps.foldl (fun s0 a => ?_) ?_
          · try beta_reduce
            refine Keeps.trans ?_ (kept_toQuarantined _ _ _)
            exact Keeps.refl _
          · exact Keeps.refl _
        · refine Keeps.trans ?_ (kept_changeState _ _ _ _)
          exact Keeps.refl _
      try clear_value v142
      extract_lets +onlyGivenNames -underBinder -merge -useContext v158
      have h_v158 : Keeps s0 v158 := by
        unfold v158
        refine Keeps.trans ?_ (kept_rechoose _ _)
        exact h_v142
      try clear_value v158
      refine Keeps.ite (fun _ => ?_) (fun _ => ?_)
      · refine Keeps.trans ?_ (kept_clusterOut _ _ _ _)
        exact h_v158
      · exact h_v158
    · refine Keeps.trans ?_ (kept_bindPlace _ _ _)
      refine Keeps.trans ?_ (kept_changeState _ _ _ _)
      exact Keeps.refl _
    · refine Keeps.trans ?_ (kept_changeState _ _ _ _)
      exact Keeps.refl _

theorem kept_addPoints (p : Nat) (n : Nat) (s0 : State) : Keeps s0 (addPoints p n s0) := by
  unfold addPoints
  extract_lets +onlyGivenNames -underBinder -merge -useContext v0
  try clear_value v0
  extract_lets +onlyGivenNames -underBinder -merge -useContext v2
  try clear_value v2
  refine Keeps.trans ?_ (kept_modUnit _ _ _)
  exact Keeps.refl _

theorem kept_countCause (cause : Nat) (p : Nat) (s0 : State) : Keeps s0 (countCause cause p s0) := by
  unfold countCause
  split
  · refine Keeps.trans ?_ (kept_modUnit _ _ _)
    exact Keeps.refl _
  · refine Keeps.trans ?_ (kept_addPoints _ _ _)
    exact Keeps.refl _

theorem kept_overtake (p : Nat) (s0 : State) : Keeps s0 (overtake p s0) := by
  unfold overtake
  extract_lets +onlyGivenNames -underBinder -merge -useContext v0
  try clear_value v0
  refine Keeps.trans ?_ (kept_modUnit _ _ _)
  refine Keeps.update ?_
  exact Keeps.refl _

theorem kept_takeOut (p : Nat) (cause : Nat) (s0 : State) : Keeps s0 (takeOut p cause s0) := by
  unfold takeOut
  extract_lets +onlyGivenNames -underBinder -merge -useContext v0
  try clear_value v0
  refine Keeps.ite (fun _ => ?_) (fun _ => ?_)
  · refine Keeps.trans ?_ (kept_changeState _ _ _ _)
    exact Keeps.refl _
  · refine Keeps.ite (fun _ => ?_) (fun _ => ?_)
    · refine Keeps.trans ?_ (kept_leaveService _ _ _ _)
      exact Keeps.refl _
    · exact Keeps.refl _

theorem kept_chargeUnit (e : Event) (s0 : State) : Keeps s0 (chargeUnit e s0) := by
  unfold chargeUnit
  extract_lets +onlyGivenNames -underBinder -merge -useContext v0
  try clear_value v0
  extract_lets +onlyGivenNames -underBinder -merge -useContext v2
  try clear_value v2
  split
  · exact Keeps.refl _
  · exact Keeps.refl _
  · exact Keeps.refl _
  · extract_lets +onlyGivenNames -underBinder -merge -useContext v12
    try clear_value v12
    extract_lets +onlyGivenNames -underBinder -merge -useContext v14
    extract_lets +onlyGivenNames -underBinder -merge -useContext v15
    have h_v15 : Keeps s0 v15 := by
      unfold v15
      refine Keeps.foldl (fun s0 a => ?_) ?_
      · try beta_reduce
        refine Keeps.trans ?_ (kept_countCause _ _ _)
        exact Keeps.refl _
      · exact Keeps.refl _
    try clear_value v15
    refine Keeps.ite (fun _ => ?_) (fun _ => ?_)
    · split
      · try unfold v14
        try beta_reduce
        refine Keeps.foldl (fun s0 a => ?_) ?_
        · try beta_reduce
          refine Keeps.trans ?_ (kept_takeOut _ _ _)
          exact Keeps.refl _
        · exact h_v15
      · refine Keeps.ite (fun _ => ?_) (fun _ => ?_)
        · refine Keeps.trans ?_ (kept_overtake _ _)
          exact h_v15
        · exact h_v15
    · refine Keeps.ite (fun _ => ?_) (fun _ => ?_)
      · try unfold v14
        try beta_reduce
        refine Keeps.foldl (fun s0 a => ?_) ?_
        · try beta_reduce
          refine Keeps.trans ?_ (kept_takeOut _ _ _)
          exact Keeps.refl _
        · exact h_v15
      · extract_lets +onlyGivenNames -underBinder -merge -useContext v59
        try clear_value v59
        extract_lets +onlyGivenNames -underBinder -merge -useContext v61
        try clear_value v61
        refine Keeps.ite (fun _ => ?_) (fun _ => ?_)
        · try unfold v14
          try beta_reduce
          refine Keeps.foldl (fun s0 a => ?_) ?_
          · try beta_reduce
            refine Keeps.trans ?_ (kept_takeOut _ _ _)
            exact Keeps.refl _
          · exact h_v15
        · refine Keeps.ite (fun _ => ?_) (fun _ => ?_)
          · refine Keeps.foldl (fun s0 a => ?_) ?_
            · try beta_reduce
              refine Keeps.trans ?_ (kept_changeState _ _ _ _)
              exact Keeps.refl _
            · exact h_v15
          · exact h_v15

theorem kept_endStall (p : Nat) (s0 : State) : Keeps s0 (endStall p s0) := by
  unfold endStall
  split
  · exact Keeps.refl _
  · extract_lets +onlyGivenNames -underBinder -merge -useContext v4
    try clear_value v4
    extract_lets +onlyGivenNames -underBinder -merge -useContext v6
    have h_v6 : Keeps s0 v6 := by
      unfold v6
      refine Keeps.trans ?_ (kept_modCore _ _ _)
      refine Keeps.trans ?_ (kept_maxObj _ _ _)
      exact Keeps.refl _
    try clear_value v6
    refine Keeps.ite (fun _ => ?_) (fun _ => ?_)
    · refine Keeps.trans ?_ (kept_addObj _ _ _)
      exact h_v6
    · exact h_v6

theorem kept_startTile (lcn : Nat) (p : Nat) (t : Tile) (s0 : State) : Keeps s0 (startTile lcn p t s0) := by
  unfold startTile
  extract_lets +onlyGivenNames -underBinder -merge -useContext v0
  try clear_value v0
  extract_lets +onlyGivenNames -underBinder -merge -useContext v2
  try clear_value v2
  extract_lets +onlyGivenNames -underBinder -merge -useContext v4
  try clear_value v4
  extract_lets +onlyGivenNames -underBinder -merge -useContext v6
  have h_v6 : Keeps s0 v6 := by
    unfold v6
    refine Keeps.trans ?_ (kept_endStall _ _)
    refine Keeps.trans ?_ (kept_modCore _ _ _)
    exact Keeps.refl _
  try clear_value v6
  refine Keeps.trans ?_ (kept_modLcn _ _ _)
  exact h_v6

theorem kept_bindUnit (p : Nat) (place : Nat) (s0 : State) : Keeps s0 (bindUnit p place s0) := by
  unfold bindUnit
  extract_lets +onlyGivenNames -underBinder -merge -useContext v0
  have h_v0 : Keeps s0 v0 := by
    unfold v0
    refine Keeps.trans ?_ (kept_bindPlace _ _ _)
    exact Keeps.refl _
  try clear_value v0
  refine Keeps.ite (fun _ => ?_) (fun _ => ?_)
  · refine Keeps.trans ?_ (kept_changeState _ _ _ _)
    exact h_v0
  · exact h_v0

theorem kept_checkStack (j : Nat) (s0 : State) : Keeps s0 (checkStack j s0) := by
  unfold checkStack
  extract_lets +onlyGivenNames -underBinder -merge -useContext v0
  try clear_value v0
  extract_lets +onlyGivenNames -underBinder -merge -useContext v2
  refine Keeps.ite (fun _ => ?_) (fun _ => ?_)
  · exact Keeps.refl _
  · refine Keeps.ite (fun _ => ?_) (fun _ => ?_)
    · extract_lets +onlyGivenNames -underBinder -merge -useContext v9
      have h_v9 : Keeps s0 v9 := by
        unfold v9
        refine Keeps.update ?_
        exact Keeps.refl _
      try clear_value v9
      extract_lets +onlyGivenNames -underBinder -merge -useContext v15
      try clear_value v15
      extract_lets +onlyGivenNames -underBinder -merge -useContext v17
      have h_v17 : Keeps s0 v17 := by
        unfold v17
        refine Keeps.foldl (fun s0 a => ?_) ?_
        · try beta_reduce
          refine Keeps.trans ?_ (kept_capacityEvent _ _ _ _ _)
          exact Keeps.refl _
        · exact h_v9
      try clear_value v17
      refine Keeps.trans ?_ (kept_requestCommit _ _ _ _ _)
      exact h_v17
    · exact Keeps.refl _

theorem kept_checkStacks (s0 : State) : Keeps s0 (checkStacks s0) := by
  unfold checkStacks
  refine Keeps.foldl (fun s0 a => ?_) ?_
  · try beta_reduce
    refine Keeps.trans ?_ (kept_checkStack _ _)
    exact Keeps.refl _
  · exact Keeps.refl _

theorem kept_handBlocks (old : Nat) (new : Nat) (s0 : State) : Keeps s0 (handBlocks old new s0) := by
  unfold handBlocks
  extract_lets +onlyGivenNames -underBinder -merge -useContext v0
  try clear_value v0
  extract_lets +onlyGivenNames -underBinder -merge -useContext v2
  have h_v2 : Keeps s0 v2 := by
    unfold v2
    refine Keeps.trans ?_ (kept_modCore _ _ _)
    refine Keeps.update ?_
    exact Keeps.refl _
  try clear_value v2
  refine Keeps.trans ?_ (kept_modCore _ _ _)
  exact h_v2

theorem kept_recomputeLcn (lcn : Nat) (s0 : State) : Keeps s0 (recomputeLcn lcn s0) := by
  unfold recomputeLcn
  refine Keeps.trans ?_ (kept_recomputeGroup _ _ _)
  exact Keeps.refl _

theorem kept_rebindLcn (lcn : Nat) (running : Bool) (s0 : State) : Keeps s0 (rebindLcn lcn running s0) := by
  unfold rebindLcn
  refine Keeps.trans ?_ (kept_modLcn _ _ _)
  exact Keeps.refl _

theorem kept_toBallast (p : Nat) (cause : Nat) (s0 : State) : Keeps s0 (toBallast p cause s0) := by
  unfold toBallast
  extract_lets +onlyGivenNames -underBinder -merge -useContext v0
  have h_v0 : Keeps s0 v0 := by
    unfold v0
    refine Keeps.trans ?_ (kept_bindPlace _ _ _)
    exact Keeps.refl _
  try clear_value v0
  refine Keeps.ite (fun _ => ?_) (fun _ => ?_)
  · refine Keeps.trans ?_ (kept_changeState _ _ _ _)
    exact h_v0
  · exact h_v0

theorem kept_handover (lcn : Nat) (old : Nat) (new : Nat) (s0 : State) : Keeps s0 (handover lcn old new s0) := by
  unfold handover
  extract_lets +onlyGivenNames -underBinder -merge -useContext v0
  try clear_value v0
  extract_lets +onlyGivenNames -underBinder -merge -useContext v2
  have h_v2 : Keeps s0 v2 := by
    unfold v2
    refine Keeps.trans ?_ (kept_modCore _ _ _)
    refine Keeps.trans ?_ (kept_handBlocks _ _ _)
    exact Keeps.refl _
  try clear_value v2
  extract_lets +onlyGivenNames -underBinder -merge -useContext v9
  have h_v9 : Keeps s0 v9 := by
    unfold v9
    refine Keeps.trans ?_ (kept_modCore _ _ _)
    exact h_v2
  try clear_value v9
  extract_lets +onlyGivenNames -underBinder -merge -useContext v15
  have h_v15 : Keeps s0 v15 := by
    unfold v15
    refine Keeps.trans ?_ (kept_syncCoreHolds _ _)
    refine Keeps.trans ?_ (kept_addObj _ _ _)
    refine Keeps.trans ?_ (kept_rebindLcn _ _ _)
    exact h_v9
  try clear_value v15
  split
  · exact h_v15
  · refine Keeps.trans ?_ (kept_startTile _ _ _ _)
    exact h_v15

theorem kept_landBinding (cause : Nat) (b : Binding) (s0 : State) : Keeps s0 (landBinding cause b s0) := by
  unfold landBinding
  split
  · extract_lets +onlyGivenNames -underBinder -merge -useContext v2
    have h_v2 : Keeps s0 v2 := by
      unfold v2
      refine Keeps.trans ?_ (kept_applyMap _ _)
      exact Keeps.refl _
    try clear_value v2
    extract_lets +onlyGivenNames -underBinder -merge -useContext v8
    have h_v8 : Keeps s0 v8 := by
      unfold v8
      refine Keeps.trans ?_ (kept_leaveReplayRole _ _)
      refine Keeps.trans ?_ (kept_bindUnit _ _ _)
      refine Keeps.trans ?_ (kept_bindPlace _ _ _)
      exact h_v2
    try clear_value v8
    refine Keeps.trans ?_ (kept_recomputeLcn _ _)
    refine Keeps.trans ?_ (kept_handover _ _ _ _)
    exact h_v8
  · extract_lets +onlyGivenNames -underBinder -merge -useContext v20
    have h_v20 : Keeps s0 v20 := by
      unfold v20
      refine Keeps.trans ?_ (kept_applyMap _ _)
      exact Keeps.refl _
    try clear_value v20
    extract_lets +onlyGivenNames -underBinder -merge -useContext v26
    have h_v26 : Keeps s0 v26 := by
      unfold v26
      refine Keeps.trans ?_ (kept_leaveReplayRole _ _)
      refine Keeps.trans ?_ (kept_bindUnit _ _ _)
      refine Keeps.trans ?_ (kept_toBallast _ _ _)
      exact h_v20
    try clear_value v26
    extract_lets +onlyGivenNames -underBinder -merge -useContext v34
    try clear_value v34
    extract_lets +onlyGivenNames -underBinder -merge -useContext v36
    have h_v36 : Keeps s0 v36 := by
      unfold v36
      refine Keeps.trans ?_ (kept_rebindLcn _ _ _)
      refine Keeps.trans ?_ (kept_handBlocks _ _ _)
      exact h_v26
    try clear_value v36
    extract_lets +onlyGivenNames -underBinder -merge -useContext v43
    have h_v43 : Keeps s0 v43 := by
      unfold v43
      refine Keeps.trans ?_ (kept_modCore _ _ _)
      exact h_v36
    try clear_value v43
    extract_lets +onlyGivenNames -underBinder -merge -useContext v49
    have h_v49 : Keeps s0 v49 := by
      unfold v49
      split
      · refine Keeps.ite (fun _ => ?_) (fun _ => ?_)
        · refine Keeps.trans ?_ (kept_modCore _ _ _)
          exact h_v43
        · refine Keeps.trans ?_ (kept_startTile _ _ _ _)
          exact h_v43
      · exact h_v43
    try clear_value v49
    extract_lets +onlyGivenNames -underBinder -merge -useContext v64
    have h_v64 : Keeps s0 v64 := by
      unfold v64
      refine Keeps.trans ?_ (kept_recomputeLcn _ _)
      refine Keeps.trans ?_ (kept_syncCoreHolds _ _)
      exact h_v49
    try clear_value v64
    refine Keeps.ite (fun _ => ?_) (fun _ => ?_)
    · exact h_v64
    · extract_lets +onlyGivenNames -underBinder -merge -useContext v75
      have h_v75 : Keeps s0 v75 := by
        unfold v75
        refine Keeps.trans ?_ (kept_modUnit _ _ _)
        refine Keeps.trans ?_ (kept_modFmax _ _ _)
        exact h_v64
      try clear_value v75
      refine Keeps.trans ?_ (kept_publishSwap _ _ _ _ _)
      refine Keeps.trans ?_ (kept_modCluster _ _ _)
      exact h_v75
  · extract_lets +onlyGivenNames -underBinder -merge -useContext v86
    try clear_value v86
    extract_lets +onlyGivenNames -underBinder -merge -useContext v88
    have h_v88 : Keeps s0 v88 := by
      unfold v88
      refine Keeps.trans ?_ (kept_applyMap _ _)
      exact Keeps.refl _
    try clear_value v88
    extract_lets +onlyGivenNames -underBinder -merge -useContext v94
    extract_lets +onlyGivenNames -underBinder -merge -useContext v95
    have h_v95 : Keeps s0 v95 := by
      unfold v95
      refine Keeps.foldl (fun s0 a => ?_) ?_
      · try beta_reduce
        refine Keeps.ite (fun _ => ?_) (fun _ => ?_)
        · refine Keeps.trans ?_ (kept_toBallast _ _ _)
          exact Keeps.refl _
        · refine Keeps.trans ?_ (kept_bindPlace _ _ _)
          exact Keeps.refl _
      · exact h_v88
    try clear_value v95
    extract_lets +onlyGivenNames -underBinder -merge -useContext v111
    have h_v111 : Keeps s0 v111 := by
      unfold v111
      refine Keeps.foldl (fun s0 a => ?_) ?_
      · try beta_reduce
        refine Keeps.ite (fun _ => ?_) (fun _ => ?_)
        · refine Keeps.trans ?_ (kept_toBallast _ _ _)
          exact Keeps.refl _
        · refine Keeps.trans ?_ (kept_bindPlace _ _ _)
          exact Keeps.refl _
      · exact h_v95
    try clear_value v111
    split
    · exact h_v111
    · extract_lets +onlyGivenNames -underBinder -merge -useContext v131
      have h_v131 : Keeps s0 v131 := by
        unfold v131
        split
        · refine Keeps.trans ?_ (kept_setFreqs _ _ _)
          exact h_v111
        · exact h_v111
      try clear_value v131
      extract_lets +onlyGivenNames -underBinder -merge -useContext v141
      have h_v141 : Keeps s0 v141 := by
        unfold v141
        refine Keeps.foldl (fun s0 a => ?_) ?_
        · try beta_reduce
          refine Keeps.trans ?_ (kept_bindUnit _ _ _)
          exact Keeps.refl _
        · exact h_v131
      try clear_value v141
      extract_lets +onlyGivenNames -underBinder -merge -useContext v152
      have h_v152 : Keeps s0 v152 := by
        unfold v152
        refine Keeps.foldl (fun s0 a => ?_) ?_
        · try beta_reduce
          split
          · refine Keeps.trans ?_ (kept_handover _ _ _ _)
            refine Keeps.trans ?_ (kept_bindUnit _ _ _)
            exact Keeps.refl _
          · refine Keeps.trans ?_ (kept_rebindLcn _ _ _)
            refine Keeps.trans ?_ (kept_bindUnit _ _ _)
            exact Keeps.refl _
          · exact Keeps.refl _
        · exact h_v141
      try clear_value v152
      refine Keeps.trans ?_ (kept_recomputeLcn _ _)
      refine Keeps.trans ?_ (kept_refreshAdoptive _)
      refine Keeps.trans ?_ (kept_assignAdoptive _ _)
      refine Keeps.trans ?_ (kept_modCluster _ _ _)
      exact h_v152
  · extract_lets +onlyGivenNames -underBinder -merge -useContext v178
    have h_v178 : Keeps s0 v178 := by
      unfold v178
      refine Keeps.trans ?_ (kept_toBallast _ _ _)
      refine Keeps.trans ?_ (kept_applyMap _ _)
      exact Keeps.refl _
    try clear_value v178
    split
    · refine Keeps.trans ?_ (kept_bindUnit _ _ _)
      exact h_v178
    · exact h_v178
  · refine Keeps.trans ?_ (kept_bindUnit _ _ _)
    refine Keeps.trans ?_ (kept_bindPlace _ _ _)
    refine Keeps.trans ?_ (kept_applyMap _ _)
    exact Keeps.refl _
  · refine Keeps.ite (fun _ => ?_) (fun _ => ?_)
    · extract_lets +onlyGivenNames -underBinder -merge -useContext v199
      refine Keeps.foldl (fun s0 a => ?_) ?_
      · unfold v199
        beta_reduce
        refine Keeps.trans ?_ (kept_modUnit _ _ _)
        exact Keeps.refl _
      · refine Keeps.trans ?_ (kept_bindUnit _ _ _)
        exact Keeps.refl _
    · exact Keeps.refl _
  · refine Keeps.trans ?_ (kept_applyMap _ _)
    exact Keeps.refl _
  · refine Keeps.trans ?_ (kept_applyMap _ _)
    exact Keeps.refl _
  · refine Keeps.trans ?_ (kept_applyMap _ _)
    exact Keeps.refl _

theorem kept_landCommit (c : Commit) (s0 : State) : Keeps s0 (landCommit c s0) := by
  unfold landCommit
  extract_lets +onlyGivenNames -underBinder -merge -useContext v0
  have h_v0 : Keeps s0 v0 := by
    unfold v0
    refine Keeps.update ?_
    exact Keeps.refl _
  try clear_value v0
  extract_lets +onlyGivenNames -underBinder -merge -useContext v6
  have h_v6 : Keeps s0 v6 := by
    unfold v6
    refine Keeps.foldl (fun s0 a => ?_) ?_
    · try beta_reduce
      refine Keeps.trans ?_ (kept_landBinding _ _ _)
      exact Keeps.refl _
    · exact h_v0
  try clear_value v6
  extract_lets +onlyGivenNames -underBinder -merge -useContext v17
  have h_v17 : Keeps s0 v17 := by
    unfold v17
    refine Keeps.foldl (fun s0 a => ?_) ?_
    · try beta_reduce
      refine Keeps.trans ?_ (kept_changeState _ _ _ _)
      refine Keeps.trans ?_ (kept_modUnit _ _ _)
      exact Keeps.refl _
    · exact h_v6
  try clear_value v17
  extract_lets +onlyGivenNames -underBinder -merge -useContext v29
  have h_v29 : Keeps s0 v29 := by
    unfold v29
    refine Keeps.foldl (fun s0 a => ?_) ?_
    · try beta_reduce
      refine Keeps.trans ?_ (kept_modUnit _ _ _)
      exact Keeps.refl _
    · exact h_v17
  try clear_value v29
  extract_lets +onlyGivenNames -underBinder -merge -useContext v40
  try clear_value v40
  extract_lets +onlyGivenNames -underBinder -merge -useContext v42
  have h_v42 : Keeps s0 v42 := by
    unfold v42
    refine Keeps.foldl (fun s0 a => ?_) ?_
    · try beta_reduce
      refine Keeps.trans ?_ (kept_recordAt _ _ _ _ _ _)
      exact Keeps.refl _
    · exact h_v29
  try clear_value v42
  extract_lets +onlyGivenNames -underBinder -merge -useContext v53
  have h_v53 : Keeps s0 v53 := by
    unfold v53
    refine Keeps.ite (fun _ => ?_) (fun _ => ?_)
    · exact h_v42
    · refine Keeps.trans ?_ (kept_addObj _ _ _)
      exact h_v42
  try clear_value v53
  refine Keeps.trans ?_ (kept_checkStacks _)
  exact h_v53

theorem kept_refreshSlow (s0 : State) : Keeps s0 (refreshSlow s0) := by
  unfold refreshSlow
  refine Keeps.foldl (fun s0 a => ?_) ?_
  · try beta_reduce
    extract_lets +onlyGivenNames -underBinder -merge -useContext v3
    try clear_value v3
    extract_lets +onlyGivenNames -underBinder -merge -useContext v5
    try clear_value v5
    refine Keeps.ite (fun _ => ?_) (fun _ => ?_)
    · exact Keeps.refl _
    · refine Keeps.trans ?_ (kept_leaveReplayRole _ _)
      exact Keeps.refl _
  · exact Keeps.refl _

end Sys2Proof.Machine
end

