-- ==== Sys2Proof/Laws/Kept/Forced.lean ====
section
/-!
SUPPORT. What the operations and commands of Machine/Forced.lean keep (see Laws/Keeps.lean).
-/
namespace Sys2Proof.Machine

theorem kept_markForced (p : Nat) (s0 : State) : Keeps s0 (markForced p s0) := by
  unfold markForced
  refine Keeps.trans ?_ (kept_modUnit _ _ _)
  exact Keeps.refl _

theorem kept_forceUnit {p v : Nat} {s t : State} (h : forceUnit p v s = some t) : Keeps s t := by
  unfold forceUnit at h
  have up : Keeps s (let s := markForced p s
      let s := if v = 3 then modUnit p (fun r => { r with lifetime := 0 }) s else s
      changeState p .screening 0x1B s) := by
    refine Keeps.trans ?_ (kept_changeState _ _ _ _)
    refine Keeps.ite (fun _ => ?_) (fun _ => ?_)
    · exact (kept_markForced _ _).trans (kept_modUnit _ _ _)
    · exact kept_markForced _ _
  split at h
  · cases h
  · cases h
    exact (kept_markForced _ _).trans (kept_leaveService _ _ _ _)
  · cases h
    exact up
  · cases h
    exact up
  · cases h
    exact up
  · cases h
theorem kept_exchangeUnits {w sp : Nat} {s t : State} (h : exchangeUnits w sp s = some t) : Keeps s t := by
  unfold exchangeUnits at h
  split at h
  · cases h
    exact kept_channelOut _ _ _ _
  · split at h
    · cases h
    · split at h
      · cases h
        exact ((kept_setOpen _ _ _).trans (kept_setOpen _ _ _)).trans (kept_requestCommit _ _ _ _ _)
      · cases h
theorem kept_actForced (x : Forced) (s0 : State) : Keeps s0 (actForced x s0) := by
  unfold actForced
  split
  · rename_i t h
    refine Keeps.trans (Keeps.trans ?_ (kept_consumeGrant _ _ _ _)) (kept_respond _ _ _ _ _ _ _)
    split at h
    · exact kept_forceUnit h
    · exact kept_exchangeUnits h
  · exact kept_respond _ _ _ _ _ _ _

theorem kept_requestForced (x : Forced) (s0 : State) : Keeps s0 (requestForced x s0) := by
  unfold requestForced
  refine Keeps.ite (fun _ => ?_) (fun _ => ?_)
  · refine Keeps.update ?_
    exact Keeps.refl _
  · refine Keeps.trans ?_ (kept_actForced _ _)
    exact Keeps.refl _

theorem kept_serveForced (s0 : State) : Keeps s0 (serveForced s0) := by
  unfold serveForced
  extract_lets +onlyGivenNames -underBinder -merge -useContext v0
  try clear_value v0
  refine Keeps.foldl (fun s0 a => ?_) ?_
  · try beta_reduce
    refine Keeps.trans ?_ (kept_actForced _ _)
    exact Keeps.refl _
  · refine Keeps.update ?_
    exact Keeps.refl _

end Sys2Proof.Machine
end

