-- ==== Sys2Proof/Laws/Kept/Screening.lean ====
section
/-!
SUPPORT. What the operations and commands of Machine/Screening.lean keep (see Laws/Keeps.lean).
-/
namespace Sys2Proof.Machine

theorem kept_refreshBound (k : Nat) (s0 : State) : Keeps s0 (refreshBound k s0) := by
  unfold refreshBound
  split
  · exact Keeps.refl _
  · extract_lets +onlyGivenNames -underBinder -merge -useContext v4
    try clear_value v4
    refine Keeps.ite (fun _ => ?_) (fun _ => ?_)
    · exact Keeps.refl _
    · extract_lets +onlyGivenNames -underBinder -merge -useContext v10
      have h_v10 : Keeps s0 v10 := by
        unfold v10
        refine Keeps.trans ?_ (kept_modSlice _ _ _)
        exact Keeps.refl _
      try clear_value v10
      refine Keeps.trans ?_ (kept_recordAt _ _ _ _ _ _)
      exact h_v10

theorem kept_syncQualifying (s0 : State) : Keeps s0 (syncQualifying s0) := by
  unfold syncQualifying
  extract_lets +onlyGivenNames -underBinder -merge -useContext v0
  try clear_value v0
  refine Keeps.update ?_
  exact Keeps.refl _

theorem kept_applyMode (k : Nat) (s0 : State) : Keeps s0 (applyMode k s0) := by
  unfold applyMode
  split
  · exact Keeps.refl _
  · refine Keeps.ite (fun _ => ?_) (fun _ => ?_)
    · exact Keeps.refl _
    · extract_lets +onlyGivenNames -underBinder -merge -useContext v8
      try clear_value v8
      extract_lets +onlyGivenNames -underBinder -merge -useContext v10
      try clear_value v10
      refine Keeps.ite (fun _ => ?_) (fun _ => ?_)
      · refine Keeps.trans ?_ (kept_refreshBound _ _)
        refine Keeps.trans ?_ (kept_syncQualifying _)
        refine Keeps.trans ?_ (kept_modSlice _ _ _)
        exact Keeps.refl _
      · refine Keeps.ite (fun _ => ?_) (fun _ => ?_)
        · refine Keeps.trans ?_ (kept_modSlice _ _ _)
          exact Keeps.refl _
        · extract_lets +onlyGivenNames -underBinder -merge -useContext v24
          try clear_value v24
          extract_lets +onlyGivenNames -underBinder -merge -useContext v26
          try clear_value v26
          extract_lets +onlyGivenNames -underBinder -merge -useContext v28
          try clear_value v28
          extract_lets +onlyGivenNames -underBinder -merge -useContext v30
          have h_v30 : Keeps s0 v30 := by
            unfold v30
            refine Keeps.trans ?_ (kept_modSlice _ _ _)
            exact Keeps.refl _
          try clear_value v30
          refine Keeps.ite (fun _ => ?_) (fun _ => ?_)
          · exact h_v30
          · refine Keeps.trans ?_ (kept_refreshBound _ _)
            refine Keeps.trans ?_ (kept_syncQualifying _)
            refine Keeps.trans ?_ (kept_modSlice _ _ _)
            exact h_v30

theorem kept_applyModes (s0 : State) : Keeps s0 (applyModes s0) := by
  unfold applyModes
  refine Keeps.foldl (fun s0 a => ?_) ?_
  · try beta_reduce
    refine Keeps.trans ?_ (kept_applyMode _ _)
    exact Keeps.refl _
  · exact Keeps.refl _

theorem kept_refreshBounds (s0 : State) : Keeps s0 (refreshBounds s0) := by
  unfold refreshBounds
  refine Keeps.foldl (fun s0 a => ?_) ?_
  · try beta_reduce
    refine Keeps.trans ?_ (kept_refreshBound _ _)
    exact Keeps.refl _
  · exact Keeps.refl _

theorem kept_checkModel (s0 : State) : Keeps s0 (checkModel s0) := by
  unfold checkModel
  refine Keeps.ite (fun _ => ?_) (fun _ => ?_)
  · extract_lets +onlyGivenNames -underBinder -merge -useContext v2
    have h_v2 : Keeps s0 v2 := by
      unfold v2
      refine Keeps.update ?_
      exact Keeps.refl _
    try clear_value v2
    refine Keeps.trans ?_ (kept_refreshErrors _)
    refine Keeps.trans ?_ (kept_refreshBounds _)
    refine Keeps.trans ?_ (kept_recordPkg _ _ _)
    exact h_v2
  · exact Keeps.refl _

theorem kept_cutProgress (ck : Nat) (s0 : State) : Keeps s0 (cutProgress ck s0) := by
  unfold cutProgress
  split
  · exact Keeps.refl _
  · extract_lets +onlyGivenNames -underBinder -merge -useContext v4
    refine Keeps.update ?_
    exact Keeps.refl _

theorem kept_rollModel (s0 : State) : Keeps s0 (rollModel s0) := by
  unfold rollModel
  extract_lets +onlyGivenNames -underBinder -merge -useContext v0
  try clear_value v0
  refine Keeps.ite (fun _ => ?_) (fun _ => ?_)
  · exact Keeps.refl _
  · refine Keeps.update ?_
    exact Keeps.refl _

theorem kept_countDetection (hour : Nat) (s0 : State) : Keeps s0 (countDetection hour s0) := by
  unfold countDetection
  extract_lets +onlyGivenNames -underBinder -merge -useContext v0
  have h_v0 : Keeps s0 v0 := by
    unfold v0
    refine Keeps.trans ?_ (kept_rollModel _)
    exact Keeps.refl _
  try clear_value v0
  refine Keeps.trans ?_ (kept_checkModel _)
  refine Keeps.update ?_
  exact h_v0

theorem kept_endSwitch (k : Nat) (s0 : State) : Keeps s0 (endSwitch k s0) := by
  unfold endSwitch
  split
  · exact Keeps.refl _
  · extract_lets +onlyGivenNames -underBinder -merge -useContext v4
    try clear_value v4
    refine Keeps.trans ?_ (kept_refreshBound _ _)
    refine Keeps.trans ?_ (kept_syncQualifying _)
    refine Keeps.trans ?_ (kept_modSlice _ _ _)
    exact Keeps.refl _

theorem ends_execIneligibleQuietTimeout (dt : Nat) (k : Nat) (s0 : State) : Ends (elapse dt s0) (execIneligibleQuietTimeout dt k s0) := by
  unfold execIneligibleQuietTimeout
  extract_lets +onlyGivenNames -underBinder -merge -useContext v0
  have h_v0 : Keeps (elapse dt s0) v0 := by
    unfold v0
    exact Keeps.refl _
  try clear_value v0
  refine Ends.done ?_
  split
  · exact h_v0
  · split
    · refine Keeps.ite (fun _ => ?_) (fun _ => ?_)
      · refine Keeps.trans ?_ (kept_refreshBound _ _)
        refine Keeps.trans ?_ (kept_modSlice _ _ _)
        exact h_v0
      · exact h_v0
    · exact h_v0

theorem ends_execModelBucketRoll (dt : Nat) (s0 : State) : Ends (elapse dt s0) (execModelBucketRoll dt s0) := by
  unfold execModelBucketRoll
  refine Ends.done ?_
  refine Keeps.trans ?_ (kept_checkModel _)
  refine Keeps.trans ?_ (kept_rollModel _)
  exact Keeps.refl _

theorem ends_execModeSwitch (dt : Nat) (slice_ : Nat) (ck : Nat) (s0 : State) : Ends (elapse dt s0) (execModeSwitch dt slice_ ck s0) := by
  unfold execModeSwitch
  extract_lets +onlyGivenNames -underBinder -merge -useContext v0
  have h_v0 : Keeps (elapse dt s0) v0 := by
    unfold v0
    exact Keeps.refl _
  try clear_value v0
  refine Ends.done ?_
  split
  · exact h_v0
  · extract_lets +onlyGivenNames -underBinder -merge -useContext v10
    try clear_value v10
    extract_lets +onlyGivenNames -underBinder -merge -useContext v12
    try clear_value v12
    extract_lets +onlyGivenNames -underBinder -merge -useContext v14
    extract_lets +onlyGivenNames -underBinder -merge -useContext v15
    refine Keeps.ite (fun _ => ?_) (fun _ => ?_)
    · refine Keeps.trans ?_ (kept_endSwitch _ _)
      refine Keeps.trans ?_ (kept_cutProgress _ _)
      refine Keeps.trans ?_ (kept_modSlice _ _ _)
      exact h_v0
    · exact h_v0

end Sys2Proof.Machine
end

