-- ==== Sys2Proof/Laws/Kept/Reel.lean ====
section
/-!
SUPPORT. What the operations and commands of Machine/Reel.lean keep (see Laws/Keeps.lean).
-/
namespace Sys2Proof.Machine

theorem kept_modReel (d : Nat) (f : Reel → Reel) (s0 : State) : Keeps s0 (modReel d f s0) := by
  unfold modReel
  refine Keeps.trans ?_ (kept_modDie _ _ _ (fun x => ?_))
  · exact Keeps.refl _
  · first | rfl | ((try dsimp only); (repeat' split) <;> rfl)

theorem kept_endLosses (d : Nat) (s0 : State) : Keeps s0 (endLosses d s0) := by
  unfold endLosses
  extract_lets +onlyGivenNames -underBinder -merge -useContext v0
  try clear_value v0
  extract_lets +onlyGivenNames -underBinder -merge -useContext v2
  try clear_value v2
  split
  · exact Keeps.refl _
  · refine Keeps.ite (fun _ => ?_) (fun _ => ?_)
    · exact Keeps.refl _
    · extract_lets +onlyGivenNames -underBinder -merge -useContext v12
      have h_v12 : Keeps s0 v12 := by
        unfold v12
        refine Keeps.trans ?_ (kept_modReel _ _ _)
        exact Keeps.refl _
      try clear_value v12
      refine Keeps.ite (fun _ => ?_) (fun _ => ?_)
      · exact h_v12
      · refine Keeps.trans ?_ (kept_record _ _ _ _ _)
        exact h_v12

theorem ends_execReelRecordWrite (dt : Nat) (d : Nat) (s0 : State) : Ends (elapse dt s0) (execReelRecordWrite dt d s0) := by
  unfold execReelRecordWrite
  extract_lets +onlyGivenNames -underBinder -merge -useContext v0
  have h_v0 : Keeps (elapse dt s0) v0 := by
    unfold v0
    exact Keeps.refl _
  try clear_value v0
  extract_lets +onlyGivenNames -underBinder -merge -useContext v5
  try clear_value v5
  refine Ends.done ?_
  split
  · exact h_v0
  · extract_lets +onlyGivenNames -underBinder -merge -useContext v12
    extract_lets +onlyGivenNames -underBinder -merge -useContext v13
    have h_v13 : Keeps (elapse dt s0) v13 := by
      unfold v13
      refine Keeps.trans ?_ (kept_modReel _ _ _)
      exact h_v0
    try clear_value v13
    extract_lets +onlyGivenNames -underBinder -merge -useContext w19_0 w19_1 v19
    have h_w19_1 : Keeps (elapse dt s0) w19_1 := by
      unfold w19_1
      refine Keeps.trans ?_ (kept_modReel _ _ _)
      exact h_v13
    have h_v19 : Keeps (elapse dt s0) v19 := by
      unfold v19
      refine Keeps.ite (fun _ => ?_) (fun _ => ?_)
      · refine Keeps.trans ?_ (kept_record _ _ _ _ _)
        exact h_w19_1
      · exact h_v13
    try clear_value v19
    refine Keeps.trans ?_ (kept_endLosses _ _)
    refine Keeps.trans ?_ (kept_refreshError _ _)
    refine Keeps.trans ?_ (kept_modReel _ _ _)
    exact h_v19

theorem kept_reelPlace (d : Nat) (n : Numbered) (s0 : State) : Keeps s0 (reelPlace d n s0) := by
  unfold reelPlace
  extract_lets +onlyGivenNames -underBinder -merge -useContext v0
  try clear_value v0
  extract_lets +onlyGivenNames -underBinder -merge -useContext v2
  try clear_value v2
  refine Keeps.trans ?_ (kept_endLosses _ _)
  refine Keeps.trans ?_ (kept_refreshError _ _)
  refine Keeps.trans ?_ (kept_modReel _ _ _)
  exact Keeps.refl _

theorem kept_finishClear (d : Nat) (restart : Nat) (s0 : State) : Keeps s0 (finishClear d restart s0) := by
  unfold finishClear
  extract_lets +onlyGivenNames -underBinder -merge -useContext v0
  try clear_value v0
  split
  · exact Keeps.refl _
  · extract_lets +onlyGivenNames -underBinder -merge -useContext v6
    try clear_value v6
    extract_lets +onlyGivenNames -underBinder -merge -useContext v8
    try clear_value v8
    extract_lets +onlyGivenNames -underBinder -merge -useContext w10_0 v10
    try clear_value v10
    extract_lets +onlyGivenNames -underBinder -merge -useContext v12
    have h_v12 : Keeps s0 v12 := by
      unfold v12
      refine Keeps.trans ?_ (kept_modDie _ _ _ (fun x => ?_))
      · exact Keeps.refl _
      · first | rfl | ((try dsimp only); (repeat' split) <;> rfl)
    try clear_value v12
    refine Keeps.trans ?_ (kept_refreshError _ _)
    refine Keeps.trans ?_ (kept_leaveCase _ _)
    exact h_v12

theorem ends_execReelEraseComplete (dt : Nat) (d : Nat) (s0 : State) : Ends (elapse dt s0) (execReelEraseComplete dt d s0) := by
  unfold execReelEraseComplete
  extract_lets +onlyGivenNames -underBinder -merge -useContext v0
  have h_v0 : Keeps (elapse dt s0) v0 := by
    unfold v0
    exact Keeps.refl _
  try clear_value v0
  extract_lets +onlyGivenNames -underBinder -merge -useContext v5
  try clear_value v5
  refine Ends.done ?_
  refine Keeps.ite (fun _ => ?_) (fun _ => ?_)
  · exact h_v0
  · refine Keeps.ite (fun _ => ?_) (fun _ => ?_)
    · refine Keeps.trans ?_ (kept_finishClear _ _ _)
      exact h_v0
    · split
      · exact h_v0
      · refine Keeps.ite (fun _ => ?_) (fun _ => ?_)
        · refine Keeps.trans ?_ (kept_modReel _ _ _)
          exact h_v0
        · exact h_v0

theorem kept_reelFail (d : Nat) (cs : Nat) (cause : Nat) (s0 : State) : Keeps s0 (reelFail d cs cause s0) := by
  unfold reelFail
  extract_lets +onlyGivenNames -underBinder -merge -useContext v0
  try clear_value v0
  refine Keeps.ite (fun _ => ?_) (fun _ => ?_)
  · exact Keeps.refl _
  · extract_lets +onlyGivenNames -underBinder -merge -useContext v6
    have h_v6 : Keeps s0 v6 := by
      unfold v6
      refine Keeps.trans ?_ (kept_modReel _ _ _)
      exact Keeps.refl _
    try clear_value v6
    refine Keeps.ite (fun _ => ?_) (fun _ => ?_)
    · refine Keeps.trans ?_ (kept_refreshError _ _)
      exact h_v6
    · refine Keeps.ite (fun _ => ?_) (fun _ => ?_)
      · extract_lets +onlyGivenNames -underBinder -merge -useContext v19
        try clear_value v19
        extract_lets +onlyGivenNames -underBinder -merge -useContext v21
        have h_v21 : Keeps s0 v21 := by
          unfold v21
          refine Keeps.trans ?_ (kept_modReel _ _ _)
          exact h_v6
        try clear_value v21
        refine Keeps.trans ?_ (kept_refreshError _ _)
        refine Keeps.trans ?_ (kept_emcyEvent _ _ _ _)
        exact h_v21
      · extract_lets +onlyGivenNames -underBinder -merge -useContext v31
        have h_v31 : Keeps s0 v31 := by
          unfold v31
          refine Keeps.trans ?_ (kept_modReel _ _ _)
          exact h_v6
        try clear_value v31
        extract_lets +onlyGivenNames -underBinder -merge -useContext v37
        have h_v37 : Keeps s0 v37 := by
          unfold v37
          refine Keeps.trans ?_ (kept_record _ _ _ _ _)
          exact h_v31
        try clear_value v37
        refine Keeps.trans ?_ (kept_refreshError _ _)
        exact h_v37

theorem ends_execStoreSilentTimeout (dt : Nat) (d : Nat) (cs : Nat) (s0 : State) : Ends (elapse dt s0) (execStoreSilentTimeout dt d cs s0) := by
  unfold execStoreSilentTimeout
  refine Ends.done ?_
  refine Keeps.trans ?_ (kept_reelFail _ _ _ _)
  exact Keeps.refl _

theorem ends_execStoreOperationFailure (dt : Nat) (d : Nat) (cs : Nat) (_address : Nat) (s0 : State) : Ends (elapse dt s0) (execStoreOperationFailure dt d cs _address s0) := by
  unfold execStoreOperationFailure
  refine Ends.done ?_
  refine Keeps.trans ?_ (kept_reelFail _ _ _ _)
  exact Keeps.refl _

end Sys2Proof.Machine
end

