-- ==== Sys2Proof/Laws/Kept/Events.lean ====
section
/-!
SUPPORT. What the operations and commands of Machine/Events.lean keep (see Laws/Keeps.lean).
-/
namespace Sys2Proof.Machine

theorem kept_anchorAtStart (cause : Nat) (s0 : State) : Keeps s0 (anchorAtStart cause s0) := by
  unfold anchorAtStart
  extract_lets +onlyGivenNames -underBinder -merge -useContext v0
  have h_v0 : Keeps s0 v0 := by
    unfold v0
    refine Keeps.update ?_
    exact Keeps.refl _
  try clear_value v0
  refine Keeps.trans ?_ (kept_raiseLocal _ _ _)
  exact h_v0

theorem kept_rescheduleRequests (s0 : State) : Keeps s0 (rescheduleRequests s0) := by
  unfold rescheduleRequests
  extract_lets +onlyGivenNames -underBinder -merge -useContext v0
  try clear_value v0
  refine Keeps.update ?_
  exact Keeps.refl _

theorem kept_restartSpanning (s0 : State) : Keeps s0 (restartSpanning s0) := by
  unfold restartSpanning
  refine Keeps.update ?_
  exact Keeps.refl _

theorem kept_rescheduleCommits (s0 : State) : Keeps s0 (rescheduleCommits s0) := by
  unfold rescheduleCommits
  refine Keeps.foldl (fun s0 a => ?_) ?_
  · try beta_reduce
    extract_lets +onlyGivenNames -underBinder -merge -useContext v3
    have h_v3 : Keeps s0 v3 := by
      unfold v3
      refine Keeps.update ?_
      exact Keeps.refl _
    try clear_value v3
    extract_lets +onlyGivenNames -underBinder -merge -useContext v9
    try clear_value v9
    extract_lets +onlyGivenNames -underBinder -merge -useContext v11
    try clear_value v11
    refine Keeps.ite (fun _ => ?_) (fun _ => ?_)
    · exact Keeps.refl _
    · refine Keeps.update ?_
      exact Keeps.refl _
  · exact Keeps.refl _

theorem kept_anchorTakeover (cause : Nat) (s0 : State) : Keeps s0 (anchorTakeover cause s0) := by
  unfold anchorTakeover
  extract_lets +onlyGivenNames -underBinder -merge -useContext v0
  try clear_value v0
  extract_lets +onlyGivenNames -underBinder -merge -useContext w2_0 v2
  have h_v2 : Keeps s0 v2 := by
    unfold v2
    refine Keeps.update_whole ?_ ?_ ?_ ?_
    · exact Keeps.refl _
    · first | rfl | simp
    · first | rfl | simp
    · first | exact fun h => h | exact Keeps.map_stores (fun x => by first | rfl | (dsimp only; split <;> rfl) | (split <;> rfl) | (simp +zetaDelta only []; first | rfl | (split <;> rfl)) | simp)
  try clear_value v2
  extract_lets +onlyGivenNames -underBinder -merge -useContext v15
  have h_v15 : Keeps s0 v15 := by
    unfold v15
    refine Keeps.trans ?_ (kept_eraEvent _)
    exact h_v2
  try clear_value v15
  extract_lets +onlyGivenNames -underBinder -merge -useContext v21
  try clear_value v21
  extract_lets +onlyGivenNames -underBinder -merge -useContext v23
  have h_v23 : Keeps s0 v23 := by
    unfold v23
    refine Keeps.trans ?_ (kept_restartSpanning _)
    refine Keeps.trans ?_ (kept_rescheduleRequests _)
    exact h_v15
  try clear_value v23
  refine Keeps.trans ?_ (kept_eraEvent _)
  refine Keeps.trans ?_ (kept_rescheduleCommits _)
  refine Keeps.trans ?_ (kept_takePosition _)
  refine Keeps.trans ?_ (kept_returnEverywhere _ _)
  exact h_v23

theorem kept_setCapturePosition (e : Event) (position : Nat) (s0 : State) : Keeps s0 (setCapturePosition e position s0) := by
  unfold setCapturePosition
  extract_lets +onlyGivenNames -underBinder -merge -useContext v0
  refine Keeps.update_whole ?_ ?_ ?_ ?_
  · exact Keeps.refl _
  · first | rfl | simp
  · first | rfl | simp
  · first | exact fun h => h | exact Keeps.map_stores (fun x => by first | rfl | (dsimp only; split <;> rfl) | (split <;> rfl) | (simp +zetaDelta only []; first | rfl | (split <;> rfl)) | simp)

theorem kept_unbindSlice (k : Nat) (s0 : State) : Keeps s0 (unbindSlice k s0) := by
  unfold unbindSlice
  refine Keeps.update ?_
  exact Keeps.refl _

theorem kept_applyReturn (d : Nat) (n : Numbered) (s0 : State) : Keeps s0 (applyReturn d n s0) := by
  unfold applyReturn
  extract_lets +onlyGivenNames -underBinder -merge -useContext v0
  try clear_value v0
  extract_lets +onlyGivenNames -underBinder -merge -useContext v2
  try clear_value v2
  extract_lets +onlyGivenNames -underBinder -merge -useContext v4
  have h_v4 : Keeps s0 v4 := by
    unfold v4
    refine Keeps.foldl (fun s0 a => ?_) ?_
    · try beta_reduce
      refine Keeps.ite (fun _ => ?_) (fun _ => ?_)
      · refine Keeps.trans ?_ (kept_setObj _ _ _)
        exact Keeps.refl _
      · refine Keeps.trans ?_ (kept_setSobj _ _ _ _)
        exact Keeps.refl _
    · exact Keeps.refl _
  try clear_value v4
  extract_lets +onlyGivenNames -underBinder -merge -useContext v20
  have h_v20 : Keeps s0 v20 := by
    unfold v20
    refine Keeps.foldl (fun s0 a => ?_) ?_
    · try beta_reduce
      refine Keeps.trans ?_ (kept_modUnit _ _ _)
      exact Keeps.refl _
    · exact h_v4
  try clear_value v20
  extract_lets +onlyGivenNames -underBinder -merge -useContext v31
  have h_v31 : Keeps s0 v31 := by
    unfold v31
    refine Keeps.ite (fun _ => ?_) (fun _ => ?_)
    · refine Keeps.trans ?_ (kept_modUnit _ _ _)
      exact h_v20
    · exact h_v20
  try clear_value v31
  extract_lets +onlyGivenNames -underBinder -merge -useContext v41
  have h_v41 : Keeps s0 v41 := by
    unfold v41
    split
    · refine Keeps.ite (fun _ => ?_) (fun _ => ?_)
      · refine Keeps.foldl (fun s0 a => ?_) ?_
        · try beta_reduce
          refine Keeps.ite (fun _ => ?_) (fun _ => ?_)
          · refine Keeps.trans ?_ (kept_emcy _ _ _ _ _)
            exact Keeps.refl _
          · exact Keeps.refl _
        · exact h_v31
      · refine Keeps.trans ?_ (kept_emcy _ _ _ _ _)
        exact h_v31
    · exact h_v31
  try clear_value v41
  extract_lets +onlyGivenNames -underBinder -merge -useContext v65
  have h_v65 : Keeps s0 v65 := by
    unfold v65
    refine Keeps.trans ?_ (kept_setCapturePosition _ _ _)
    exact h_v41
  try clear_value v65
  extract_lets +onlyGivenNames -underBinder -merge -useContext v71
  have h_v71 : Keeps s0 v71 := by
    unfold v71
    refine Keeps.ite (fun _ => ?_) (fun _ => ?_)
    · exact h_v65
    · refine Keeps.trans ?_ (kept_notify _ _)
      exact h_v65
  try clear_value v71
  extract_lets +onlyGivenNames -underBinder -merge -useContext v81
  have h_v81 : Keeps s0 v81 := by
    unfold v81
    refine Keeps.ite (fun _ => ?_) (fun _ => ?_)
    · refine Keeps.trans ?_ (kept_unbindSlice _ _)
      exact h_v71
    · exact h_v71
  try clear_value v81
  refine Keeps.trans ?_ (kept_modDie _ _ _ (fun x => ?_))
  · exact h_v81
  · first | rfl | ((try dsimp only); (repeat' split) <;> rfl)

theorem kept_giveNumber (d : Nat) (e : Event) (s0 : State) : Keeps s0 (giveNumber d e s0) := by
  unfold giveNumber
  extract_lets +onlyGivenNames -underBinder -merge -useContext v0
  try clear_value v0
  extract_lets +onlyGivenNames -underBinder -merge -useContext v2
  have h_v2 : Keeps s0 v2 := by
    unfold v2
    refine Keeps.foldl (fun s0 a => ?_) ?_
    · try beta_reduce
      refine Keeps.trans ?_ (kept_modDie _ _ _ (fun x => ?_))
      · exact Keeps.refl _
      · first | rfl | ((try dsimp only); (repeat' split) <;> rfl)
    · refine Keeps.trans ?_ (kept_mirrorEvent _ _)
      refine Keeps.trans ?_ (kept_takePosition _)
      exact Keeps.refl _
  try clear_value v2
  extract_lets +onlyGivenNames -underBinder -merge -useContext v18
  have h_v18 : Keeps s0 v18 := by
    unfold v18
    split
    · refine Keeps.ite (fun _ => ?_) (fun _ => ?_)
      · refine Keeps.trans ?_ (kept_raiseEnd _ _ _)
        exact h_v2
      · exact h_v2
    · exact h_v2
  try clear_value v18
  split
  · refine Keeps.trans ?_ (kept_scheduleCommit _ _)
    exact h_v18
  · exact h_v18

theorem kept_issueNumber (d : Nat) (e : Event) (s0 : State) : Keeps s0 (issueNumber d e s0) := by
  unfold issueNumber
  refine Keeps.trans ?_ (kept_eraEvent _)
  refine Keeps.trans ?_ (kept_giveNumber _ _ _)
  refine Keeps.trans ?_ (kept_eraEvent _)
  exact Keeps.refl _

theorem kept_numberDirect (d : Nat) (e : Event) (s0 : State) : Keeps s0 (numberDirect d e s0) := by
  unfold numberDirect
  refine Keeps.trans ?_ (kept_issueNumber _ _ _)
  refine Keeps.trans ?_ (kept_modDie _ _ _ (fun x => ?_))
  · exact Keeps.refl _
  · first | rfl | ((try dsimp only); (repeat' split) <;> rfl)

theorem kept_startPt (k : Nat) (s0 : State) : Keeps s0 (startPt k s0) := by
  unfold startPt
  extract_lets +onlyGivenNames -underBinder -merge -useContext v0
  have h_v0 : Keeps s0 v0 := by
    unfold v0
    refine Keeps.trans ?_ (kept_modKeeper _ _ _)
    exact Keeps.refl _
  try clear_value v0
  refine Keeps.update ?_
  exact h_v0

theorem kept_takeRole (cause : Nat) (s0 : State) : Keeps s0 (takeRole cause s0) := by
  unfold takeRole
  extract_lets +onlyGivenNames -underBinder -merge -useContext v0
  have h_v0 : Keeps s0 v0 := by
    unfold v0
    refine Keeps.ite (fun _ => ?_) (fun _ => ?_)
    · refine Keeps.trans ?_ (kept_anchorTakeover _ _)
      exact Keeps.refl _
    · refine Keeps.trans ?_ (kept_anchorAtStart _ _)
      exact Keeps.refl _
  try clear_value v0
  refine Keeps.ite (fun _ => ?_) (fun _ => ?_)
  · exact h_v0
  · refine Keeps.trans ?_ (kept_startPt _ _)
    exact h_v0

theorem kept_endOverflow (d : Nat) (s0 : State) : Keeps s0 (endOverflow d s0) := by
  unfold endOverflow
  extract_lets +onlyGivenNames -underBinder -merge -useContext v0
  try clear_value v0
  split
  · exact Keeps.refl _
  · refine Keeps.ite (fun _ => ?_) (fun _ => ?_)
    · exact Keeps.refl _
    · extract_lets +onlyGivenNames -underBinder -merge -useContext v10
      have h_v10 : Keeps s0 v10 := by
        unfold v10
        refine Keeps.trans ?_ (kept_modDie _ _ _ (fun x => ?_))
        · exact Keeps.refl _
        · first | rfl | ((try dsimp only); (repeat' split) <;> rfl)
      try clear_value v10
      refine Keeps.trans ?_ (kept_refreshError _ _)
      refine Keeps.trans ?_ (kept_record _ _ _ _ _)
      exact h_v10

theorem kept_enterHandling (d : Nat) (e : Event) (s0 : State) : Keeps s0 (enterHandling d e s0) := by
  unfold enterHandling
  extract_lets +onlyGivenNames -underBinder -merge -useContext v0
  try clear_value v0
  extract_lets +onlyGivenNames -underBinder -merge -useContext v2
  try clear_value v2
  refine Keeps.ite (fun _ => ?_) (fun _ => ?_)
  · extract_lets +onlyGivenNames -underBinder -merge -useContext v6
    try clear_value v6
    extract_lets +onlyGivenNames -underBinder -merge -useContext v8
    have h_v8 : Keeps s0 v8 := by
      unfold v8
      refine Keeps.trans ?_ (kept_modDie _ _ _ (fun x => ?_))
      · exact Keeps.refl _
      · first | rfl | ((try dsimp only); (repeat' split) <;> rfl)
    try clear_value v8
    refine Keeps.ite (fun _ => ?_) (fun _ => ?_)
    · refine Keeps.trans ?_ (kept_refreshError _ _)
      refine Keeps.trans ?_ (kept_emcy _ _ _ _ _)
      refine Keeps.trans ?_ (kept_modDie _ _ _ (fun x => ?_))
      · exact h_v8
      · first | rfl | ((try dsimp only); (repeat' split) <;> rfl)
    · exact h_v8
  · refine Keeps.trans ?_ (kept_modDie _ _ _ (fun x => ?_))
    · exact Keeps.refl _
    · first | rfl | ((try dsimp only); (repeat' split) <;> rfl)

theorem kept_numberFrom (d : Nat) (s0 : State) : Keeps s0 (numberFrom d s0) := by
  unfold numberFrom
  split
  · exact Keeps.refl _
  · extract_lets +onlyGivenNames -underBinder -merge -useContext v4
    have h_v4 : Keeps s0 v4 := by
      unfold v4
      refine Keeps.trans ?_ (kept_eraEvent _)
      exact Keeps.refl _
    try clear_value v4
    refine Keeps.ite (fun _ => ?_) (fun _ => ?_)
    · exact h_v4
    · extract_lets +onlyGivenNames -underBinder -merge -useContext v14
      have h_v14 : Keeps s0 v14 := by
        unfold v14
        refine Keeps.trans ?_ (kept_issueNumber _ _ _)
        refine Keeps.trans ?_ (kept_modDie _ _ _ (fun x => ?_))
        · exact h_v4
        · first | rfl | ((try dsimp only); (repeat' split) <;> rfl)
      try clear_value v14
      split
      · refine Keeps.trans ?_ (kept_countDetection _ _)
        exact h_v14
      · exact h_v14

theorem ends_execEventSequence (dt : Nat) (s0 : State) : Ends (elapse dt s0) (execEventSequence dt s0) := by
  unfold execEventSequence
  extract_lets +onlyGivenNames -underBinder -merge -useContext v0
  have h_v0 : Keeps (elapse dt s0) v0 := by
    unfold v0
    exact Keeps.refl _
  try clear_value v0
  extract_lets +onlyGivenNames -underBinder -merge -useContext v5
  try clear_value v5
  extract_lets +onlyGivenNames -underBinder -merge -useContext v7
  try clear_value v7
  refine Ends.done ?_
  refine Keeps.ite (fun _ => ?_) (fun _ => ?_)
  · extract_lets +onlyGivenNames -underBinder -merge -useContext v12
    have h_v12 : Keeps (elapse dt s0) v12 := by
      unfold v12
      refine Keeps.foldl (fun s0 a => ?_) ?_
      · try beta_reduce
        refine Keeps.trans ?_ (kept_numberFrom _ _)
        exact Keeps.refl _
      · exact h_v0
    try clear_value v12
    refine Keeps.update ?_
    exact h_v12
  · exact h_v0

theorem ends_execEventReport (dt : Nat) (reporter : Pua) (event : EventReport) (s0 : State) : Ends (elapse dt s0) (execEventReport dt reporter event s0) := by
  unfold execEventReport
  extract_lets +onlyGivenNames -underBinder -merge -useContext v0
  have h_v0 : Keeps (elapse dt s0) v0 := by
    unfold v0
    exact Keeps.refl _
  try clear_value v0
  refine Ends.done ?_
  refine Keeps.trans ?_ (kept_raise _ _ _)
  exact h_v0

theorem ends_execSequenceReturn (dt : Nat) (d : Nat) (s0 : State) : Ends (elapse dt s0) (execSequenceReturn dt d s0) := by
  unfold execSequenceReturn
  extract_lets +onlyGivenNames -underBinder -merge -useContext v0
  have h_v0 : Keeps (elapse dt s0) v0 := by
    unfold v0
    exact Keeps.refl _
  try clear_value v0
  refine Ends.done ?_
  split
  · exact h_v0
  · extract_lets +onlyGivenNames -underBinder -merge -useContext v10
    have h_v10 : Keeps (elapse dt s0) v10 := by
      unfold v10
      refine Keeps.trans ?_ (kept_settleMirror _ _)
      refine Keeps.trans ?_ (kept_modDie _ _ _ (fun x => ?_))
      · exact h_v0
      · first | rfl | ((try dsimp only); (repeat' split) <;> rfl)
    try clear_value v10
    extract_lets +onlyGivenNames -underBinder -merge -useContext v20
    have h_v20 : Keeps (elapse dt s0) v20 := by
      unfold v20
      refine Keeps.ite (fun _ => ?_) (fun _ => ?_)
      · refine Keeps.trans ?_ (kept_applyReturn _ _ _)
        exact h_v10
      · exact h_v10
    try clear_value v20
    extract_lets +onlyGivenNames -underBinder -merge -useContext v30
    try clear_value v30
    extract_lets +onlyGivenNames -underBinder -merge -useContext v32
    try clear_value v32
    refine Keeps.ite (fun _ => ?_) (fun _ => ?_)
    · refine Keeps.trans ?_ (kept_reelPlace _ _ _)
      exact h_v20
    · exact h_v20

theorem kept_popHandling (d : Nat) (s0 : State) : Keeps s0 (popHandling d s0) := by
  unfold popHandling
  refine Keeps.trans ?_ (kept_endOverflow _ _)
  refine Keeps.trans ?_ (kept_modDie _ _ _ (fun x => ?_))
  · exact Keeps.refl _
  · first | rfl | ((try dsimp only); (repeat' split) <;> rfl)

theorem ends_execEventHandling (dt : Nat) (d : Nat) (s0 : State) : Ends (elapse dt s0) (execEventHandling dt d s0) := by
  unfold execEventHandling
  extract_lets +onlyGivenNames -underBinder -merge -useContext v0
  have h_v0 : Keeps (elapse dt s0) v0 := by
    unfold v0
    exact Keeps.refl _
  try clear_value v0
  refine Ends.done ?_
  refine Keeps.ite (fun _ => ?_) (fun _ => ?_)
  · exact h_v0
  · split
    · exact h_v0
    · split
      · refine Keeps.ite (fun _ => ?_) (fun _ => ?_)
        · refine Keeps.trans ?_ (kept_chargeUnit _ _)
          refine Keeps.trans ?_ (kept_popHandling _ _)
          exact h_v0
        · refine Keeps.trans ?_ (kept_enterHandling _ _ _)
          refine Keeps.trans ?_ (kept_popHandling _ _)
          exact h_v0
      · refine Keeps.trans ?_ (kept_popHandling _ _)
        exact h_v0
      · exact h_v0
      · exact h_v0

theorem ends_execCheckpointWriteComplete (dt : Nat) (s0 : State) : Ends (elapse dt s0) (execCheckpointWriteComplete dt s0) := by
  unfold execCheckpointWriteComplete
  extract_lets +onlyGivenNames -underBinder -merge -useContext v0
  have h_v0 : Keeps (elapse dt s0) v0 := by
    unfold v0
    exact Keeps.refl _
  try clear_value v0
  refine Ends.done ?_
  split
  · exact h_v0
  · refine Keeps.ite (fun _ => ?_) (fun _ => ?_)
    · exact h_v0
    · refine Keeps.trans ?_ (kept_eraEvent _)
      refine Keeps.trans ?_ (kept_editCopies _ _)
      refine Keeps.update ?_
      exact h_v0

theorem kept_takeInput (d : Nat) (i : Nat) (s0 : State) : Keeps s0 (takeInput d i s0) := by
  unfold takeInput
  refine Keeps.ite (fun _ => ?_) (fun _ => ?_)
  · extract_lets +onlyGivenNames -underBinder -merge -useContext v2
    try clear_value v2
    extract_lets +onlyGivenNames -underBinder -merge -useContext v4
    have h_v4 : Keeps s0 v4 := by
      unfold v4
      refine Keeps.trans ?_ (kept_drainBridles _ _ _)
      refine Keeps.trans ?_ (kept_modField _ _ _)
      exact Keeps.refl _
    try clear_value v4
    refine Keeps.ite (fun _ => ?_) (fun _ => ?_)
    · refine Keeps.trans ?_ (kept_freeField _ _ _)
      exact h_v4
    · exact h_v4
  · refine Keeps.trans ?_ (kept_modDie _ _ _ (fun x => ?_))
    · exact Keeps.refl _
    · first | rfl | ((try dsimp only); (repeat' split) <;> rfl)

end Sys2Proof.Machine
end

