-- ==== Sys2Proof/Laws/Kept/Teardown.lean ====
section
/-!
SUPPORT. What the operations and commands of Machine/Teardown.lean keep (see Laws/Keeps.lean).
-/
namespace Sys2Proof.Machine

theorem kept_abortTest (s0 : State) : Keeps s0 (abortTest s0) := by
  unfold abortTest
  refine Keeps.ite (fun _ => ?_) (fun _ => ?_)
  · exact Keeps.refl _
  · extract_lets +onlyGivenNames -underBinder -merge -useContext v4
    refine Keeps.trans ?_ (kept_setObj _ _ _)
    refine Keeps.update_whole ?_ ?_ ?_ ?_
    · exact Keeps.refl _
    · first | rfl | simp
    · first | rfl | simp
    · first | exact fun h => h | exact Keeps.map_stores (fun x => by first | rfl | (dsimp only; split <;> rfl) | (split <;> rfl) | (simp +zetaDelta only []; first | rfl | (split <;> rfl)) | simp)

theorem kept_captureRecord (d : Nat) (c : Capture) (s0 : State) : Keeps s0 (captureRecord d c s0) := by
  unfold captureRecord
  refine Keeps.trans ?_ (kept_recordAt _ _ _ _ _ _)
  exact Keeps.refl _

theorem kept_startCapture (d : Nat) (code : Nat) (reason : Nat) (consistency : Nat) (domain : Nat) (sections : Nat) (units : List Nat) (cut : Nat) (event : Option Event) (s0 : State) : Keeps s0 (startCapture d code reason consistency domain sections units cut event s0) := by
  unfold startCapture
  refine Keeps.ite (fun _ => ?_) (fun _ => ?_)
  · refine Keeps.trans ?_ (kept_captureRecord _ _ _)
    exact Keeps.refl _
  · refine Keeps.trans ?_ (kept_modDie _ _ _ (fun x => ?_))
    · exact Keeps.refl _
    · first | rfl | ((try dsimp only); (repeat' split) <;> rfl)

theorem kept_saveTraining (d : Nat) (units : Option (List Nat)) (s0 : State) : Keeps s0 (saveTraining d units s0) := by
  unfold saveTraining
  extract_lets +onlyGivenNames -underBinder -merge -useContext v0
  try clear_value v0
  extract_lets +onlyGivenNames -underBinder -merge -useContext v2
  try clear_value v2
  extract_lets +onlyGivenNames -underBinder -merge -useContext v4
  try clear_value v4
  extract_lets +onlyGivenNames -underBinder -merge -useContext v6
  have h_v6 : Keeps s0 v6 := by
    unfold v6
    refine Keeps.trans ?_ (kept_modDie _ _ _ (fun x => ?_))
    · exact Keeps.refl _
    · first | rfl | ((try dsimp only); (repeat' split) <;> rfl)
  try clear_value v6
  extract_lets +onlyGivenNames -underBinder -merge -useContext v15
  have h_v15 : Keeps s0 v15 := by
    unfold v15
    refine Keeps.trans ?_ (kept_setObj _ _ _)
    exact h_v6
  try clear_value v15
  refine Keeps.ite (fun _ => ?_) (fun _ => ?_)
  · exact h_v15
  · refine Keeps.trans ?_ (kept_editStores _ _ _)
    exact h_v15

theorem kept_railOff (f : Nat) (p : Nat) (s0 : State) : Keeps s0 (railOff f p s0) := by
  unfold railOff
  extract_lets +onlyGivenNames -underBinder -merge -useContext v0
  have h_v0 : Keeps s0 v0 := by
    unfold v0
    refine Keeps.ite (fun _ => ?_) (fun _ => ?_)
    · exact Keeps.refl _
    · refine Keeps.foldl (fun s0 a => ?_) ?_
      · try beta_reduce
        refine Keeps.trans ?_ (kept_modField _ _ _)
        exact Keeps.refl _
      · exact Keeps.refl _
  try clear_value v0
  extract_lets +onlyGivenNames -underBinder -merge -useContext v15
  have h_v15 : Keeps s0 v15 := by
    unfold v15
    refine Keeps.trans ?_ (kept_emit _ _)
    refine Keeps.trans ?_ (kept_holdField _ _ _)
    exact h_v0
  try clear_value v15
  refine Keeps.trans ?_ (kept_stopKeeper _ _)
  refine Keeps.trans ?_ (kept_modField _ _ _)
  exact h_v15

theorem kept_reachTarget (s0 : State) : Keeps s0 (reachTarget s0) := by
  unfold reachTarget
  extract_lets +onlyGivenNames -underBinder -merge -useContext w0_0 v0
  have h_v0 : Keeps s0 v0 := by
    unfold v0
    refine Keeps.update ?_
    exact Keeps.refl _
  try clear_value v0
  refine Keeps.ite (fun _ => ?_) (fun _ => ?_)
  · exact h_v0
  · refine Keeps.foldl (fun s0 a => ?_) ?_
    · try beta_reduce
      refine Keeps.ite (fun _ => ?_) (fun _ => ?_)
      · exact Keeps.refl _
      · refine Keeps.trans ?_ (kept_railOff _ _ _)
        exact Keeps.refl _
    · exact h_v0

theorem kept_selfTestRecord (complete : Nat) (longest : Nat) (s0 : State) : Keeps s0 (selfTestRecord complete longest s0) := by
  unfold selfTestRecord
  refine Keeps.ite (fun _ => ?_) (fun _ => ?_)
  · exact Keeps.refl _
  · extract_lets +onlyGivenNames -underBinder -merge -useContext v4
    try clear_value v4
    extract_lets +onlyGivenNames -underBinder -merge -useContext v6
    try clear_value v6
    extract_lets +onlyGivenNames -underBinder -merge -useContext w8_0 w8_1 v8
    have h_v8 : Keeps s0 v8 := by
      unfold v8
      refine Keeps.update ?_
      exact Keeps.refl _
    try clear_value v8
    extract_lets +onlyGivenNames -underBinder -merge -useContext v14
    try clear_value v14
    refine Keeps.trans ?_ (kept_recordPkg _ _ _)
    exact h_v8

theorem kept_endShutdown (s0 : State) : Keeps s0 (endShutdown s0) := by
  unfold endShutdown
  refine Keeps.ite (fun _ => ?_) (fun _ => ?_)
  · exact Keeps.refl _
  · refine Keeps.ite (fun _ => ?_) (fun _ => ?_)
    · refine Keeps.trans ?_ (kept_reachTarget _)
      exact Keeps.refl _
    · refine Keeps.ite (fun _ => ?_) (fun _ => ?_)
      · exact Keeps.refl _
      · extract_lets +onlyGivenNames -underBinder -merge -useContext v13
        have h_v13 : Keeps s0 v13 := by
          unfold v13
          refine Keeps.foldl (fun s0 a => ?_) ?_
          · try beta_reduce
            refine Keeps.trans ?_ (kept_saveTraining _ _ _)
            exact Keeps.refl _
          · exact Keeps.refl _
        try clear_value v13
        refine Keeps.trans ?_ (kept_reachTarget _)
        refine Keeps.ite (fun _ => ?_) (fun _ => ?_)
        · exact h_v13
        · refine Keeps.trans ?_ (kept_setObj _ _ _)
          refine Keeps.trans ?_ (kept_selfTestRecord _ _ _)
          exact h_v13

theorem kept_carry (k : Nat) (point : Nat) (s0 : State) : Keeps s0 (carry k point s0) := by
  unfold carry
  refine Keeps.trans ?_ (kept_modSlice _ _ _)
  exact Keeps.refl _

theorem kept_refreshReservoirs (fs : List Nat) (s0 : State) : Keeps s0 (refreshReservoirs fs s0) := by
  unfold refreshReservoirs
  refine Keeps.foldl (fun s0 a => ?_) ?_
  · try beta_reduce
    extract_lets +onlyGivenNames -underBinder -merge -useContext v3
    try clear_value v3
    extract_lets +onlyGivenNames -underBinder -merge -useContext v5
    try clear_value v5
    refine Keeps.ite (fun _ => ?_) (fun _ => ?_)
    · exact Keeps.refl _
    · split
      · rename_i hq_
        have hk_ : Keeps s0 _ := Keeps.of_eq1 hq_ (by
          refine Keeps.trans ?_ (kept_takeNat _)
          exact Keeps.refl _
          )
        refine Keeps.trans ?_ (kept_emit _ _)
        exact hk_
  · exact Keeps.refl _

theorem kept_refreshIdle (fs : List Nat) (s0 : State) : Keeps s0 (refreshIdle fs s0) := by
  unfold refreshIdle
  refine Keeps.foldl (fun s0 a => ?_) ?_
  · try beta_reduce
    extract_lets +onlyGivenNames -underBinder -merge -useContext v3
    try clear_value v3
    refine Keeps.trans ?_ (kept_modField _ _ _)
    exact Keeps.refl _
  · exact Keeps.refl _

theorem kept_placeRegion (d : Nat) (r : Nat) (s0 : State) : Keeps s0 (placeRegion d r s0) := by
  unfold placeRegion
  split
  · exact Keeps.refl _
  · extract_lets +onlyGivenNames -underBinder -merge -useContext v4
    have h_v4 : Keeps s0 v4 := by
      unfold v4
      refine Keeps.trans ?_ (kept_modDie _ _ _ (fun x => ?_))
      · exact Keeps.refl _
      · first | rfl | ((try dsimp only); (repeat' split) <;> rfl)
    try clear_value v4
    extract_lets +onlyGivenNames -underBinder -merge -useContext v13
    extract_lets +onlyGivenNames -underBinder -merge -useContext v14
    have h_v14 : Keeps s0 v14 := by
      unfold v14
      refine Keeps.ite (fun _ => ?_) (fun _ => ?_)
      · refine Keeps.update ?_
        exact h_v4
      · exact h_v4
    try clear_value v14
    refine Keeps.trans ?_ (kept_capacityEvent _ _ _ _ _)
    exact h_v14

theorem kept_loseRegion (d : Nat) (r : Nat) (s0 : State) : Keeps s0 (loseRegion d r s0) := by
  unfold loseRegion
  extract_lets +onlyGivenNames -underBinder -merge -useContext v0
  have h_v0 : Keeps s0 v0 := by
    unfold v0
    refine Keeps.trans ?_ (kept_modDie _ _ _ (fun x => ?_))
    · exact Keeps.refl _
    · first | rfl | ((try dsimp only); (repeat' split) <;> rfl)
  try clear_value v0
  split
  · extract_lets +onlyGivenNames -underBinder -merge -useContext v11
    try clear_value v11
    refine Keeps.trans ?_ (kept_modDie _ _ _ (fun x => ?_))
    · exact h_v0
    · first | rfl | ((try dsimp only); (repeat' split) <;> rfl)
  · refine Keeps.trans ?_ (kept_modDie _ _ _ (fun x => ?_))
    · exact h_v0
    · first | rfl | ((try dsimp only); (repeat' split) <;> rfl)
  · exact h_v0

theorem kept_refreshRegions (s0 : State) : Keeps s0 (refreshRegions s0) := by
  unfold refreshRegions
  refine Keeps.foldl (fun s0 a => ?_) ?_
  · try beta_reduce
    refine Keeps.foldl (fun s0 a => ?_) ?_
    · try beta_reduce
      split
      · refine Keeps.ite (fun _ => ?_) (fun _ => ?_)
        · refine Keeps.trans ?_ (kept_placeRegion _ _ _)
          refine Keeps.trans ?_ (kept_loseRegion _ _ _)
          exact Keeps.refl _
        · exact Keeps.refl _
      · refine Keeps.trans ?_ (kept_placeRegion _ _ _)
        exact Keeps.refl _
    · exact Keeps.refl _
  · exact Keeps.refl _

theorem kept_clearLcns (k : Nat) (s0 : State) : Keeps s0 (clearLcns k s0) := by
  unfold clearLcns
  extract_lets +onlyGivenNames -underBinder -merge -useContext v0
  refine Keeps.update ?_
  exact Keeps.refl _

theorem kept_clearClusters (k : Nat) (s0 : State) : Keeps s0 (clearClusters k s0) := by
  unfold clearClusters
  extract_lets +onlyGivenNames -underBinder -merge -useContext v0
  extract_lets +onlyGivenNames -underBinder -merge -useContext v1
  extract_lets +onlyGivenNames -underBinder -merge -useContext v2
  try clear_value v2
  extract_lets +onlyGivenNames -underBinder -merge -useContext v4
  have h_v4 : Keeps s0 v4 := by
    unfold v4
    refine Keeps.update ?_
    exact Keeps.refl _
  try clear_value v4
  extract_lets +onlyGivenNames -underBinder -merge -useContext v10
  have h_v10 : Keeps s0 v10 := by
    unfold v10
    refine Keeps.foldl (fun s0 a => ?_) ?_
    · try beta_reduce
      refine Keeps.trans ?_ (kept_spareMove _ _)
      exact Keeps.refl _
    · exact h_v4
  try clear_value v10
  refine Keeps.foldl (fun s0 a => ?_) ?_
  · try beta_reduce
    refine Keeps.trans ?_ (kept_freeCluster _ _ _)
    refine Keeps.trans ?_ (kept_modCluster _ _ _)
    exact Keeps.refl _
  · refine Keeps.trans ?_ (kept_clearLcns _ _)
    exact h_v10

theorem kept_endTeardown (k : Nat) (timedOut : Bool) (s0 : State) : Keeps s0 (endTeardown k timedOut s0) := by
  unfold endTeardown
  split
  · exact Keeps.refl _
  · split
    · exact Keeps.refl _
    · extract_lets +onlyGivenNames -underBinder -merge -useContext v8
      try clear_value v8
      extract_lets +onlyGivenNames -underBinder -merge -useContext v10
      try clear_value v10
      extract_lets +onlyGivenNames -underBinder -merge -useContext v12
      try clear_value v12
      extract_lets +onlyGivenNames -underBinder -merge -useContext v14
      have h_v14 : Keeps s0 v14 := by
        unfold v14
        refine Keeps.trans ?_ (kept_clearClusters _ _)
        exact Keeps.refl _
      try clear_value v14
      extract_lets +onlyGivenNames -underBinder -merge -useContext v20
      try clear_value v20
      extract_lets +onlyGivenNames -underBinder -merge -useContext v22
      have h_v22 : Keeps s0 v22 := by
        unfold v22
        refine Keeps.update ?_
        exact h_v14
      try clear_value v22
      extract_lets +onlyGivenNames -underBinder -merge -useContext v28
      have h_v28 : Keeps s0 v28 := by
        unfold v28
        refine Keeps.trans ?_ (kept_recordAt _ _ _ _ _ _)
        exact h_v22
      try clear_value v28
      extract_lets +onlyGivenNames -underBinder -merge -useContext v34
      have h_v34 : Keeps s0 v34 := by
        unfold v34
        refine Keeps.trans ?_ (kept_modSlice _ _ _)
        exact h_v28
      try clear_value v34
      extract_lets +onlyGivenNames -underBinder -merge -useContext v40
      have h_v40 : Keeps s0 v40 := by
        unfold v40
        refine Keeps.trans ?_ (kept_addObj _ _ _)
        refine Keeps.trans ?_ (kept_maxObj _ _ _)
        exact h_v34
      try clear_value v40
      extract_lets +onlyGivenNames -underBinder -merge -useContext v47
      have h_v47 : Keeps s0 v47 := by
        unfold v47
        refine Keeps.ite (fun _ => ?_) (fun _ => ?_)
        · refine Keeps.trans ?_ (kept_addObj _ _ _)
          exact h_v40
        · exact h_v40
      try clear_value v47
      extract_lets +onlyGivenNames -underBinder -merge -useContext v57
      have h_v57 : Keeps s0 v57 := by
        unfold v57
        refine Keeps.foldl (fun s0 a => ?_) ?_
        · try beta_reduce
          refine Keeps.trans ?_ (kept_assignAdoptive _ _)
          exact Keeps.refl _
        · exact h_v47
      try clear_value v57
      extract_lets +onlyGivenNames -underBinder -merge -useContext v68
      have h_v68 : Keeps s0 v68 := by
        unfold v68
        refine Keeps.trans ?_ (kept_refreshIdle _ _)
        refine Keeps.trans ?_ (kept_refreshReservoirs _ _)
        refine Keeps.trans ?_ (kept_recomputeGroups _ _ _)
        exact h_v57
      try clear_value v68
      refine Keeps.trans ?_ (kept_endShutdown _)
      refine Keeps.trans ?_ (kept_refreshRegions _)
      refine Keeps.trans ?_ (kept_syncQualifying _)
      exact h_v68

theorem kept_checkQuiesce (k : Nat) (s0 : State) : Keeps s0 (checkQuiesce k s0) := by
  unfold checkQuiesce
  split
  · exact Keeps.refl _
  · refine Keeps.ite (fun _ => ?_) (fun _ => ?_)
    · refine Keeps.trans ?_ (kept_endTeardown _ _ _)
      exact Keeps.refl _
    · exact Keeps.refl _

theorem kept_checkLoaded (k : Nat) (s0 : State) : Keeps s0 (checkLoaded k s0) := by
  unfold checkLoaded
  split
  · exact Keeps.refl _
  · refine Keeps.ite (fun _ => ?_) (fun _ => ?_)
    · refine Keeps.trans ?_ (kept_checkQuiesce _ _)
      refine Keeps.trans ?_ (kept_modSlice _ _ _)
      exact Keeps.refl _
    · exact Keeps.refl _

theorem kept_beginTeardown (k : Nat) (s0 : State) : Keeps s0 (beginTeardown k s0) := by
  unfold beginTeardown
  split
  · exact Keeps.refl _
  · refine Keeps.ite (fun _ => ?_) (fun _ => ?_)
    · exact Keeps.refl _
    · extract_lets +onlyGivenNames -underBinder -merge -useContext v8
      have h_v8 : Keeps s0 v8 := by
        unfold v8
        refine Keeps.ite (fun _ => ?_) (fun _ => ?_)
        · exact Keeps.refl _
        · refine Keeps.trans ?_ (kept_stopSlice _ _)
          exact Keeps.refl _
      try clear_value v8
      extract_lets +onlyGivenNames -underBinder -merge -useContext v18
      extract_lets +onlyGivenNames -underBinder -merge -useContext v19
      have h_v19 : Keeps s0 v19 := by
        unfold v19
        refine Keeps.update ?_
        exact h_v8
      try clear_value v19
      extract_lets +onlyGivenNames -underBinder -merge -useContext v25
      have h_v25 : Keeps s0 v25 := by
        unfold v25
        refine Keeps.trans ?_ (kept_stopSlots _ _ _)
        exact h_v19
      try clear_value v25
      extract_lets +onlyGivenNames -underBinder -merge -useContext v31
      have h_v31 : Keeps s0 v31 := by
        unfold v31
        refine Keeps.ite (fun _ => ?_) (fun _ => ?_)
        · refine Keeps.trans ?_ (kept_issuePosition _)
          exact h_v25
        · exact h_v25
      try clear_value v31
      extract_lets +onlyGivenNames -underBinder -merge -useContext v41
      have h_v41 : Keeps s0 v41 := by
        unfold v41
        refine Keeps.update ?_
        exact h_v31
      try clear_value v41
      refine Keeps.trans ?_ (kept_checkLoaded _ _)
      refine Keeps.trans ?_ (kept_modSlice _ _ _)
      exact h_v41

theorem kept_voidCaptures (s0 : State) : Keeps s0 (voidCaptures s0) := by
  unfold voidCaptures
  refine Keeps.foldl (fun s0 a => ?_) ?_
  · try beta_reduce
    extract_lets +onlyGivenNames -underBinder -merge -useContext v3
    try clear_value v3
    extract_lets +onlyGivenNames -underBinder -merge -useContext v5
    have h_v5 : Keeps s0 v5 := by
      unfold v5
      refine Keeps.trans ?_ (kept_modDie _ _ _ (fun x => ?_))
      · exact Keeps.refl _
      · first | rfl | ((try dsimp only); (repeat' split) <;> rfl)
    try clear_value v5
    refine Keeps.foldl (fun s0 a => ?_) ?_
    · try beta_reduce
      refine Keeps.trans ?_ (kept_captureRecord _ _ _)
      exact Keeps.refl _
    · exact h_v5
  · exact Keeps.refl _

theorem ends_execGenerationLoadAck (dt : Nat) (k : Nat) (table : Nat) (s0 : State) : Ends (elapse dt s0) (execGenerationLoadAck dt k table s0) := by
  unfold execGenerationLoadAck
  extract_lets +onlyGivenNames -underBinder -merge -useContext v0
  have h_v0 : Keeps (elapse dt s0) v0 := by
    unfold v0
    exact Keeps.refl _
  try clear_value v0
  extract_lets +onlyGivenNames -underBinder -merge -useContext v5
  refine Ends.done ?_
  refine Keeps.trans ?_ (kept_checkLoaded _ _)
  refine Keeps.trans ?_ (kept_modSlice _ _ _)
  exact h_v0

theorem ends_execQuiesceMarkArrival (dt : Nat) (k : Nat) (point : Pua) (s0 : State) : Ends (elapse dt s0) (execQuiesceMarkArrival dt k point s0) := by
  unfold execQuiesceMarkArrival
  extract_lets +onlyGivenNames -underBinder -merge -useContext v0
  have h_v0 : Keeps (elapse dt s0) v0 := by
    unfold v0
    exact Keeps.refl _
  try clear_value v0
  extract_lets +onlyGivenNames -underBinder -merge -useContext v5
  refine Ends.done ?_
  refine Keeps.trans ?_ (kept_checkQuiesce _ _)
  refine Keeps.trans ?_ (kept_modSlice _ _ _)
  exact h_v0

theorem ends_execZeroFillComplete (dt : Nat) (k : Nat) (stack : Nat) (s0 : State) : Ends (elapse dt s0) (execZeroFillComplete dt k stack s0) := by
  unfold execZeroFillComplete
  extract_lets +onlyGivenNames -underBinder -merge -useContext v0
  have h_v0 : Keeps (elapse dt s0) v0 := by
    unfold v0
    exact Keeps.refl _
  try clear_value v0
  refine Ends.done ?_
  split
  · exact h_v0
  · extract_lets +onlyGivenNames -underBinder -merge -useContext v10
    try clear_value v10
    refine Keeps.ite (fun _ => ?_) (fun _ => ?_)
    · exact h_v0
    · extract_lets +onlyGivenNames -underBinder -merge -useContext v16
      try clear_value v16
      extract_lets +onlyGivenNames -underBinder -merge -useContext v18
      have h_v18 : Keeps (elapse dt s0) v18 := by
        unfold v18
        refine Keeps.trans ?_ (kept_modSlice _ _ _)
        exact h_v0
      try clear_value v18
      extract_lets +onlyGivenNames -underBinder -merge -useContext v24
      have h_v24 : Keeps (elapse dt s0) v24 := by
        unfold v24
        refine Keeps.foldl (fun s0 a => ?_) ?_
        · try beta_reduce
          extract_lets +onlyGivenNames -underBinder -merge -useContext v30
          try clear_value v30
          extract_lets +onlyGivenNames -underBinder -merge -useContext v32
          have h_v32 : Keeps s0 v32 := by
            unfold v32
            refine Keeps.update ?_
            exact Keeps.refl _
          try clear_value v32
          refine Keeps.ite (fun _ => ?_) (fun _ => ?_)
          · refine Keeps.trans ?_ (kept_recordAt _ _ _ _ _ _)
            exact h_v32
          · exact h_v32
        · exact h_v18
      try clear_value v24
      refine Keeps.trans ?_ (kept_refreshIdle _ _)
      refine Keeps.trans ?_ (kept_refreshRegions _)
      exact h_v24

theorem ends_execQuiesceMarkSend (dt : Nat) (k : Nat) (point : Pua) (injected : Nat) (ejected : Nat) (s0 : State) : Ends (elapse dt s0) (execQuiesceMarkSend dt k point injected ejected s0) := by
  unfold execQuiesceMarkSend
  extract_lets +onlyGivenNames -underBinder -merge -useContext v0
  have h_v0 : Keeps (elapse dt s0) v0 := by
    unfold v0
    exact Keeps.refl _
  try clear_value v0
  extract_lets +onlyGivenNames -underBinder -merge -useContext v5
  refine Ends.done ?_
  refine Keeps.trans ?_ (kept_modSlice _ _ _)
  exact h_v0

theorem ends_execSliceTeardown (dt : Nat) (k : Nat) (s0 : State) : Ends (elapse dt s0) (execSliceTeardown dt k s0) := by
  unfold execSliceTeardown
  refine Ends.done ?_
  refine Keeps.trans ?_ (kept_beginTeardown _ _)
  exact Keeps.refl _

theorem ends_execQuiesceTimeout (dt : Nat) (k : Nat) (s0 : State) : Ends (elapse dt s0) (execQuiesceTimeout dt k s0) := by
  unfold execQuiesceTimeout
  extract_lets +onlyGivenNames -underBinder -merge -useContext v0
  have h_v0 : Keeps (elapse dt s0) v0 := by
    unfold v0
    exact Keeps.refl _
  try clear_value v0
  refine Ends.done ?_
  split
  · exact h_v0
  · refine Keeps.ite (fun _ => ?_) (fun _ => ?_)
    · refine Keeps.trans ?_ (kept_endTeardown _ _ _)
      exact h_v0
    · exact h_v0

theorem kept_powerDown (f : Nat) (s0 : State) : Keeps s0 (powerDown f s0) := by
  unfold powerDown
  refine Keeps.ite (fun _ => ?_) (fun _ => ?_)
  · refine Keeps.trans ?_ (kept_refreshReservoirs _ _)
    refine Keeps.trans ?_ (kept_railOff _ _ _)
    exact Keeps.refl _
  · exact Keeps.refl _

theorem ends_execChunkDrain (dt : Nat) (d : Nat) (slot : Nat) (s0 : State) : Ends (elapse dt s0) (execChunkDrain dt d slot s0) := by
  unfold execChunkDrain
  extract_lets +onlyGivenNames -underBinder -merge -useContext v0
  have h_v0 : Keeps (elapse dt s0) v0 := by
    unfold v0
    exact Keeps.refl _
  try clear_value v0
  extract_lets +onlyGivenNames -underBinder -merge -useContext v5
  try clear_value v5
  refine Ends.done ?_
  refine Keeps.ite (fun _ => ?_) (fun _ => ?_)
  · exact h_v0
  · split
    · exact h_v0
    · split
      · exact h_v0
      · extract_lets +onlyGivenNames -underBinder -merge -useContext v20
        have h_v20 : Keeps (elapse dt s0) v20 := by
          unfold v20
          refine Keeps.trans ?_ (kept_storeChunk _ _ _ _)
          refine Keeps.trans ?_ (kept_modTrace _ _ _)
          exact h_v0
        try clear_value v20
        refine Keeps.trans ?_ (kept_endShutdown _)
        refine Keeps.ite (fun _ => ?_) (fun _ => ?_)
        · refine Keeps.trans ?_ (kept_writeDrop _ _)
          exact h_v20
        · exact h_v20

end Sys2Proof.Machine
end

