-- ==== Sys2Proof/Laws/Kept/Ripcord.lean ====
section
/-!
SUPPORT. What the operations and commands of Machine/Ripcord.lean keep (see Laws/Keeps.lean).
-/
namespace Sys2Proof.Machine

theorem kept_actRipcord (d : Nat) (s0 : State) : Keeps s0 (actRipcord d s0) := by
  unfold actRipcord
  refine Keeps.ite (fun _ => ?_) (fun _ => ?_)
  · exact Keeps.refl _
  · extract_lets +onlyGivenNames -underBinder -merge -useContext v4
    try clear_value v4
    extract_lets +onlyGivenNames -underBinder -merge -useContext w6_0 v6
    have h_v6 : Keeps s0 v6 := by
      unfold v6
      refine Keeps.trans ?_ (kept_wakeGondola _ _)
      refine Keeps.update ?_
      exact Keeps.refl _
    try clear_value v6
    extract_lets +onlyGivenNames -underBinder -merge -useContext v13
    have h_v13 : Keeps s0 v13 := by
      unfold v13
      refine Keeps.foldl (fun s0 a => ?_) ?_
      · try beta_reduce
        refine Keeps.trans ?_ (kept_holdField _ _ _)
        exact Keeps.refl _
      · exact h_v6
    try clear_value v13
    extract_lets +onlyGivenNames -underBinder -merge -useContext v24
    try clear_value v24
    extract_lets +onlyGivenNames -underBinder -merge -useContext v26
    try clear_value v26
    refine Keeps.ite (fun _ => ?_) (fun _ => ?_)
    · exact h_v13
    · extract_lets +onlyGivenNames -underBinder -merge -useContext v32
      try clear_value v32
      refine Keeps.trans ?_ (kept_startCapture _ _ _ _ _ _ _ _ _ _)
      exact h_v13

theorem kept_captureDomain (code : Nat) (p : Nat) (reason : Nat) (e : Option Event) (s0 : State) : Keeps s0 (captureDomain code p reason e s0) := by
  unfold captureDomain
  refine Keeps.ite (fun _ => ?_) (fun _ => ?_)
  · exact Keeps.refl _
  · extract_lets +onlyGivenNames -underBinder -merge -useContext v4
    extract_lets +onlyGivenNames -underBinder -merge -useContext v5
    have h_v5 : Keeps s0 v5 := by
      unfold v5
      refine Keeps.trans ?_ (kept_stopSlots _ _ _)
      exact Keeps.refl _
    try clear_value v5
    refine Keeps.trans ?_ (kept_startCapture _ _ _ _ _ _ _ _ _ _)
    exact h_v5

theorem kept_chargeBridle (ck : Nat) (s0 : State) : Keeps s0 (chargeBridle ck s0) := by
  unfold chargeBridle
  extract_lets +onlyGivenNames -underBinder -merge -useContext v0
  try clear_value v0
  extract_lets +onlyGivenNames -underBinder -merge -useContext v2
  split
  · exact Keeps.refl _
  · exact Keeps.refl _
  · exact Keeps.refl _
  · refine Keeps.foldl (fun s0 a => ?_) ?_
    · unfold v2
      beta_reduce
      refine Keeps.ite (fun _ => ?_) (fun _ => ?_)
      · refine Keeps.trans ?_ (kept_modUnit _ _ _)
        refine Keeps.trans ?_ (kept_changeState _ _ _ _)
        exact Keeps.refl _
      · refine Keeps.ite (fun _ => ?_) (fun _ => ?_)
        · refine Keeps.trans ?_ (kept_changeState _ _ _ _)
          exact Keeps.refl _
        · exact Keeps.refl _
    · refine Keeps.trans ?_ (kept_countCause _ _ _)
      exact Keeps.refl _

theorem kept_dropFieldCommits (f : Nat) (s0 : State) : Keeps s0 (dropFieldCommits f s0) := by
  unfold dropFieldCommits
  extract_lets +onlyGivenNames -underBinder -merge -useContext v0
  refine Keeps.update ?_
  exact Keeps.refl _

theorem kept_quietField (f : Nat) (s0 : State) : Keeps s0 (quietField f s0) := by
  unfold quietField
  refine Keeps.update ?_
  exact Keeps.refl _

theorem kept_goDark (f : Nat) (s0 : State) : Keeps s0 (goDark f s0) := by
  unfold goDark
  refine Keeps.ite (fun _ => ?_) (fun _ => ?_)
  · exact Keeps.refl _
  · extract_lets +onlyGivenNames -underBinder -merge -useContext v4
    have h_v4 : Keeps s0 v4 := by
      unfold v4
      refine Keeps.foldl (fun s0 a => ?_) ?_
      · try beta_reduce
        split
        · refine Keeps.trans ?_ (kept_stopSlot _ _ _)
          refine Keeps.trans ?_ (kept_traceClusterEvent _ _ _)
          exact Keeps.refl _
        · refine Keeps.trans ?_ (kept_stopSlot _ _ _)
          exact Keeps.refl _
      · exact Keeps.refl _
    try clear_value v4
    extract_lets +onlyGivenNames -underBinder -merge -useContext v21
    have h_v21 : Keeps s0 v21 := by
      unfold v21
      refine Keeps.trans ?_ (kept_railOff _ _ _)
      exact h_v4
    try clear_value v21
    extract_lets +onlyGivenNames -underBinder -merge -useContext v27
    have h_v27 : Keeps s0 v27 := by
      unfold v27
      refine Keeps.trans ?_ (kept_record _ _ _ _ _)
      exact h_v21
    try clear_value v27
    extract_lets +onlyGivenNames -underBinder -merge -useContext v33
    have h_v33 : Keeps s0 v33 := by
      unfold v33
      refine Keeps.foldl (fun s0 a => ?_) ?_
      · try beta_reduce
        refine Keeps.trans ?_ (kept_capacityEvent _ _ _ _ _)
        exact Keeps.refl _
      · exact h_v27
    try clear_value v33
    extract_lets +onlyGivenNames -underBinder -merge -useContext v44
    have h_v44 : Keeps s0 v44 := by
      unfold v44
      refine Keeps.trans ?_ (kept_quietField _ _)
      refine Keeps.trans ?_ (kept_dropFieldCommits _ _)
      exact h_v33
    try clear_value v44
    extract_lets +onlyGivenNames -underBinder -merge -useContext v51
    have h_v51 : Keeps s0 v51 := by
      unfold v51
      refine Keeps.foldl (fun s0 a => ?_) ?_
      · try beta_reduce
        refine Keeps.trans ?_ (kept_checkQuiesce _ _)
        exact Keeps.refl _
      · exact h_v44
    try clear_value v51
    refine Keeps.trans ?_ (kept_refreshErrors _)
    refine Keeps.trans ?_ (kept_refreshRegions _)
    refine Keeps.trans ?_ (kept_checkStacks _)
    refine Keeps.trans ?_ (kept_endInvalid _ _ _)
    exact h_v51

theorem kept_countReset (code : Nat) (p : Nat) (s0 : State) : Keeps s0 (countReset code p s0) := by
  unfold countReset
  extract_lets +onlyGivenNames -underBinder -merge -useContext v0
  try clear_value v0
  extract_lets +onlyGivenNames -underBinder -merge -useContext v2
  try clear_value v2
  refine Keeps.trans ?_ (kept_modDie _ _ _ (fun x => ?_))
  · exact Keeps.refl _
  · first | rfl | ((try dsimp only); (repeat' split) <;> rfl)

theorem kept_dropRecoveries (of : Nat → Bool) (s0 : State) : Keeps s0 (dropRecoveries of s0) := by
  unfold dropRecoveries
  refine Keeps.update ?_
  exact Keeps.refl _

theorem kept_staleDescriptors (of : Nat → Bool) (s0 : State) : Keeps s0 (staleDescriptors of s0) := by
  unfold staleDescriptors
  extract_lets +onlyGivenNames -underBinder -merge -useContext v0
  refine Keeps.update ?_
  exact Keeps.refl _

theorem kept_resetCluster (ck : Nat) (s0 : State) : Keeps s0 (resetCluster ck s0) := by
  unfold resetCluster
  extract_lets +onlyGivenNames -underBinder -merge -useContext v0
  have h_v0 : Keeps s0 v0 := by
    unfold v0
    refine Keeps.foldl (fun s0 a => ?_) ?_
    · try beta_reduce
      refine Keeps.trans ?_ (kept_modCore _ _ _)
      exact Keeps.refl _
    · exact Keeps.refl _
  try clear_value v0
  extract_lets +onlyGivenNames -underBinder -merge -useContext v11
  have h_v11 : Keeps s0 v11 := by
    unfold v11
    refine Keeps.trans ?_ (kept_dropRecoveries _ _)
    refine Keeps.trans ?_ (kept_staleDescriptors _ _)
    exact h_v0
  try clear_value v11
  refine Keeps.trans ?_ (kept_traceClusterEvent _ _ _)
  refine Keeps.trans ?_ (kept_syncCoreHolds _ _)
  refine Keeps.trans ?_ (kept_holdCluster _ _ _)
  refine Keeps.trans ?_ (kept_modCluster _ _ _)
  exact h_v11

theorem kept_resetFieldClusters (f : Nat) (s0 : State) : Keeps s0 (resetFieldClusters f s0) := by
  unfold resetFieldClusters
  extract_lets +onlyGivenNames -underBinder -merge -useContext v0
  have h_v0 : Keeps s0 v0 := by
    unfold v0
    refine Keeps.foldl (fun s0 a => ?_) ?_
    · try beta_reduce
      refine Keeps.trans ?_ (kept_traceClusterEvent _ _ _)
      exact Keeps.refl _
    · exact Keeps.refl _
  try clear_value v0
  extract_lets +onlyGivenNames -underBinder -merge -useContext v11
  have h_v11 : Keeps s0 v11 := by
    unfold v11
    refine Keeps.update ?_
    exact h_v0
  try clear_value v11
  extract_lets +onlyGivenNames -underBinder -merge -useContext v17
  have h_v17 : Keeps s0 v17 := by
    unfold v17
    refine Keeps.trans ?_ (kept_modField _ _ _)
    exact h_v11
  try clear_value v17
  refine Keeps.trans ?_ (kept_holdField _ _ _)
  refine Keeps.trans ?_ (kept_dropRecoveries _ _)
  refine Keeps.trans ?_ (kept_staleDescriptors _ _)
  exact h_v17

theorem kept_resetDieClusters (d : Nat) (s0 : State) : Keeps s0 (resetDieClusters d s0) := by
  unfold resetDieClusters
  refine Keeps.foldl (fun s0 a => ?_) ?_
  · try beta_reduce
    refine Keeps.trans ?_ (kept_resetFieldClusters _ _)
    exact Keeps.refl _
  · exact Keeps.refl _

theorem kept_resetCore (p : Nat) (s0 : State) : Keeps s0 (resetCore p s0) := by
  unfold resetCore
  extract_lets +onlyGivenNames -underBinder -merge -useContext v0
  have h_v0 : Keeps s0 v0 := by
    unfold v0
    refine Keeps.trans ?_ (kept_modCore _ _ _)
    exact Keeps.refl _
  try clear_value v0
  refine Keeps.trans ?_ (kept_syncCoreHolds _ _)
  refine Keeps.trans ?_ (kept_dropRecoveries _ _)
  refine Keeps.trans ?_ (kept_staleDescriptors _ _)
  exact h_v0

theorem kept_startReset (code : Nat) (p : Nat) (requested : Bool) (s0 : State) : Keeps s0 (startReset code p requested s0) := by
  unfold startReset
  extract_lets +onlyGivenNames -underBinder -merge -useContext v0
  try clear_value v0
  extract_lets +onlyGivenNames -underBinder -merge -useContext v2
  have h_v2 : Keeps s0 v2 := by
    unfold v2
    refine Keeps.foldl (fun s0 a => ?_) ?_
    · try beta_reduce
      refine Keeps.trans ?_ (kept_endSlice _ _ _)
      exact Keeps.refl _
    · exact Keeps.refl _
  try clear_value v2
  extract_lets +onlyGivenNames -underBinder -merge -useContext v13
  try clear_value v13
  extract_lets +onlyGivenNames -underBinder -merge -useContext v15
  try clear_value v15
  extract_lets +onlyGivenNames -underBinder -merge -useContext v17
  try clear_value v17
  split
  · refine Keeps.trans ?_ (kept_modCore _ _ _)
    refine Keeps.trans ?_ (kept_resetCore _ _)
    exact h_v2
  · refine Keeps.trans ?_ (kept_modCluster _ _ _)
    refine Keeps.trans ?_ (kept_resetCluster _ _)
    exact h_v2
  · refine Keeps.trans ?_ (kept_modField _ _ _)
    exact h_v2
  · refine Keeps.trans ?_ (kept_modDie _ _ _ (fun x => ?_))
    · exact h_v2
    · first | rfl | ((try dsimp only); (repeat' split) <;> rfl)
  · refine Keeps.trans ?_ (kept_modField _ _ _)
    refine Keeps.trans ?_ (kept_resetFieldClusters _ _)
    exact h_v2
  · refine Keeps.ite (fun _ => ?_) (fun _ => ?_)
    · extract_lets +onlyGivenNames -underBinder -merge -useContext v44
      have h_v44 : Keeps s0 v44 := by
        unfold v44
        refine Keeps.trans ?_ (kept_requestCommit _ _ _ _ _)
        exact h_v2
      try clear_value v44
      refine Keeps.trans ?_ (kept_modDie _ _ _ (fun x => ?_))
      · exact h_v44
      · first | rfl | ((try dsimp only); (repeat' split) <;> rfl)
    · refine Keeps.trans ?_ (kept_modDie _ _ _ (fun x => ?_))
      · refine Keeps.trans ?_ (kept_resetDieClusters _ _)
        exact h_v2
      · first | rfl | ((try dsimp only); (repeat' split) <;> rfl)
  · refine Keeps.ite (fun _ => ?_) (fun _ => ?_)
    · extract_lets +onlyGivenNames -underBinder -merge -useContext v65
      have h_v65 : Keeps s0 v65 := by
        unfold v65
        refine Keeps.trans ?_ (kept_requestCommit _ _ _ _ _)
        exact h_v2
      try clear_value v65
      refine Keeps.trans ?_ (kept_modDie _ _ _ (fun x => ?_))
      · exact h_v65
      · first | rfl | ((try dsimp only); (repeat' split) <;> rfl)
    · refine Keeps.trans ?_ (kept_modDie _ _ _ (fun x => ?_))
      · refine Keeps.trans ?_ (kept_resetDieClusters _ _)
        exact h_v2
      · first | rfl | ((try dsimp only); (repeat' split) <;> rfl)
  · extract_lets +onlyGivenNames -underBinder -merge -useContext v84
    have h_v84 : Keeps s0 v84 := by
      unfold v84
      refine Keeps.foldl (fun s0 a => ?_) ?_
      · try beta_reduce
        refine Keeps.trans ?_ (kept_resetDieClusters _ _)
        exact Keeps.refl _
      · exact h_v2
    try clear_value v84
    extract_lets +onlyGivenNames -underBinder -merge -useContext v95
    extract_lets +onlyGivenNames -underBinder -merge -useContext v96
    refine Keeps.update_whole ?_ ?_ ?_ ?_
    · exact h_v84
    · first | rfl | simp
    · first | rfl | simp
    · first | exact fun h => h | exact Keeps.map_stores (fun x => by first | rfl | (dsimp only; split <;> rfl) | (split <;> rfl) | (simp +zetaDelta only []; first | rfl | (split <;> rfl)) | simp)

theorem kept_noteOutOfService (code : Nat) (p : Nat) (s0 : State) : Keeps s0 (noteOutOfService code p s0) := by
  unfold noteOutOfService
  extract_lets +onlyGivenNames -underBinder -merge -useContext v0
  try clear_value v0
  extract_lets +onlyGivenNames -underBinder -merge -useContext v2
  have h_v2 : Keeps s0 v2 := by
    unfold v2
    refine Keeps.trans ?_ (kept_setObjs _ _)
    refine Keeps.trans ?_ (kept_addObj _ _ _)
    exact Keeps.refl _
  try clear_value v2
  extract_lets +onlyGivenNames -underBinder -merge -useContext w9_0 v9
  try clear_value v9
  refine Keeps.trans ?_ (kept_raiseLocal _ _ _)
  exact h_v2

theorem kept_quarantineBridles (f : Nat) (s0 : State) : Keeps s0 (quarantineBridles f s0) := by
  unfold quarantineBridles
  refine Keeps.foldl (fun s0 a => ?_) ?_
  · try beta_reduce
    refine Keeps.trans ?_ (kept_chargeBridle _ _)
    exact Keeps.refl _
  · exact Keeps.refl _

theorem kept_fenceField (f : Nat) (s0 : State) : Keeps s0 (fenceField f s0) := by
  unfold fenceField
  refine Keeps.trans ?_ (kept_quarantineBridles _ _)
  refine Keeps.trans ?_ (kept_goDark _ _)
  refine Keeps.trans ?_ (kept_modField _ _ _)
  exact Keeps.refl _

theorem kept_fenceDie (d : Nat) (bridles : Bool) (s0 : State) : Keeps s0 (fenceDie d bridles s0) := by
  unfold fenceDie
  refine Keeps.ite (fun _ => ?_) (fun _ => ?_)
  · exact Keeps.refl _
  · extract_lets +onlyGivenNames -underBinder -merge -useContext v4
    have h_v4 : Keeps s0 v4 := by
      unfold v4
      refine Keeps.trans ?_ (kept_modDie _ _ _ (fun x => ?_))
      · refine Keeps.update ?_
        exact Keeps.refl _
      · first | rfl | ((try dsimp only); (repeat' split) <;> rfl)
    try clear_value v4
    extract_lets +onlyGivenNames -underBinder -merge -useContext v14
    have h_v14 : Keeps s0 v14 := by
      unfold v14
      refine Keeps.foldl (fun s0 a => ?_) ?_
      · try beta_reduce
        extract_lets +onlyGivenNames -underBinder -merge -useContext v20
        try clear_value v20
        refine Keeps.ite (fun _ => ?_) (fun _ => ?_)
        · refine Keeps.trans ?_ (kept_fenceField _ _)
          exact Keeps.refl _
        · refine Keeps.trans ?_ (kept_goDark _ _)
          refine Keeps.trans ?_ (kept_modField _ _ _)
          exact Keeps.refl _
      · exact h_v4
    try clear_value v14
    refine Keeps.trans ?_ (kept_refreshError _ _)
    refine Keeps.trans ?_ (kept_emcyEvent _ _ _ _)
    exact h_v14

theorem kept_ripcordRecord (d : Nat) (kind : Nat) (reason : Nat) (stop : Nat) (target : Nat) (cause : Nat) (s0 : State) : Keeps s0 (ripcordRecord d kind reason stop target cause s0) := by
  unfold ripcordRecord
  extract_lets +onlyGivenNames -underBinder -merge -useContext v0
  have h_v0 : Keeps s0 v0 := by
    unfold v0
    refine Keeps.trans ?_ (kept_setObjs _ _)
    exact Keeps.refl _
  try clear_value v0
  extract_lets +onlyGivenNames -underBinder -merge -useContext w6_0 v6
  try clear_value v6
  refine Keeps.trans ?_ (kept_raiseLocal _ _ _)
  exact h_v0

theorem kept_emergency (d : Nat) (cause : Nat) (s0 : State) : Keeps s0 (emergency d cause s0) := by
  unfold emergency
  refine Keeps.ite (fun _ => ?_) (fun _ => ?_)
  · refine Keeps.ite (fun _ => ?_) (fun _ => ?_)
    · refine Keeps.trans ?_ (kept_voidCaptures _)
      exact Keeps.refl _
    · exact Keeps.refl _
  · extract_lets +onlyGivenNames -underBinder -merge -useContext v9
    extract_lets +onlyGivenNames -underBinder -merge -useContext v10
    have h_v10 : Keeps s0 v10 := by
      unfold v10
      refine Keeps.trans ?_ (kept_abortTest _)
      refine Keeps.trans ?_ (kept_cutTraces _)
      refine Keeps.trans ?_ (kept_voidCaptures _)
      refine Keeps.update_whole ?_ ?_ ?_ ?_
      · exact Keeps.refl _
      · first | rfl | simp
      · first | rfl | simp
      · first | exact fun h => h | exact Keeps.map_stores (fun x => by first | rfl | (dsimp only; split <;> rfl) | (split <;> rfl) | (simp +zetaDelta only []; first | rfl | (split <;> rfl)) | simp)
    try clear_value v10
    extract_lets +onlyGivenNames -underBinder -merge -useContext w26_0 v26
    have h_v26 : Keeps s0 v26 := by
      unfold v26
      refine Keeps.update ?_
      exact h_v10
    try clear_value v26
    refine Keeps.trans ?_ (kept_actRipcord _ _)
    refine Keeps.trans ?_ (kept_ripcordRecord _ _ _ _ _ _ _)
    exact h_v26

theorem kept_gondolaOut (d : Nat) (s0 : State) : Keeps s0 (gondolaOut d s0) := by
  unfold gondolaOut
  refine Keeps.ite (fun _ => ?_) (fun _ => ?_)
  · refine Keeps.trans ?_ (kept_emergency _ _ _)
    exact Keeps.refl _
  · refine Keeps.ite (fun _ => ?_) (fun _ => ?_)
    · refine Keeps.trans ?_ (kept_fenceDie _ _ _)
      exact Keeps.refl _
    · refine Keeps.ite (fun _ => ?_) (fun _ => ?_)
      · refine Keeps.trans ?_ (kept_fenceDie _ _ _)
        refine Keeps.trans ?_ (kept_takeRole _ _)
        exact Keeps.refl _
      · extract_lets +onlyGivenNames -underBinder -merge -useContext v16
        have h_v16 : Keeps s0 v16 := by
          unfold v16
          refine Keeps.trans ?_ (kept_fenceDie _ _ _)
          exact Keeps.refl _
        try clear_value v16
        split
        · refine Keeps.trans ?_ (kept_emergency _ _ _)
          exact h_v16
        · exact h_v16

theorem kept_decideReset (code : Nat) (p : Nat) (reason : Nat) (e : Option Event) (s0 : State) : Keeps s0 (decideReset code p reason e s0) := by
  unfold decideReset
  refine Keeps.ite (fun _ => ?_) (fun _ => ?_)
  · extract_lets +onlyGivenNames -underBinder -merge -useContext v2
    have h_v2 : Keeps s0 v2 := by
      unfold v2
      refine Keeps.trans ?_ (kept_noteOutOfService _ _ _)
      exact Keeps.refl _
    try clear_value v2
    split
    · extract_lets +onlyGivenNames -underBinder -merge -useContext v10
      try clear_value v10
      refine Keeps.trans ?_ (kept_chargeUnit _ _)
      exact h_v2
    · refine Keeps.trans ?_ (kept_fenceField _ _)
      exact h_v2
    · refine Keeps.trans ?_ (kept_fenceField _ _)
      exact h_v2
    · refine Keeps.trans ?_ (kept_gondolaOut _ _)
      refine Keeps.trans ?_ (kept_modDie _ _ _ (fun x => ?_))
      · exact h_v2
      · first | rfl | ((try dsimp only); (repeat' split) <;> rfl)
    · refine Keeps.trans ?_ (kept_gondolaOut _ _)
      exact h_v2
  · refine Keeps.trans ?_ (kept_startReset _ _ _ _)
    refine Keeps.trans ?_ (kept_countReset _ _ _)
    refine Keeps.trans ?_ (kept_captureDomain _ _ _ _ _)
    exact Keeps.refl _

theorem kept_decideCoreReset (p : Nat) (s0 : State) : Keeps s0 (decideCoreReset p s0) := by
  unfold decideCoreReset
  refine Keeps.ite (fun _ => ?_) (fun _ => ?_)
  · refine Keeps.trans ?_ (kept_decideReset _ _ _ _ _)
    exact Keeps.refl _
  · refine Keeps.trans ?_ (kept_startReset _ _ _ _)
    refine Keeps.trans ?_ (kept_countReset _ _ _)
    exact Keeps.refl _

theorem kept_decidePackage (p : Nat) (s0 : State) : Keeps s0 (decidePackage p s0) := by
  unfold decidePackage
  refine Keeps.trans ?_ (kept_startReset _ _ _ _)
  refine Keeps.trans ?_ (kept_countReset _ _ _)
  exact Keeps.refl _

theorem kept_orderly (request : Nat) (target : Nat) (s0 : State) : Keeps s0 (orderly request target s0) := by
  unfold orderly
  refine Keeps.ite (fun _ => ?_) (fun _ => ?_)
  · exact Keeps.refl _
  · extract_lets +onlyGivenNames -underBinder -merge -useContext v4
    try clear_value v4
    extract_lets +onlyGivenNames -underBinder -merge -useContext w6_0 v6
    have h_v6 : Keeps s0 v6 := by
      unfold v6
      refine Keeps.update ?_
      exact Keeps.refl _
    try clear_value v6
    refine Keeps.trans ?_ (kept_ripcordRecord _ _ _ _ _ _ _)
    exact h_v6

end Sys2Proof.Machine
end

