-- ==== Sys2Proof/Laws/Kept/Hangs.lean ====
section
/-!
SUPPORT. What the operations and commands of Machine/Hangs.lean keep (see Laws/Keeps.lean).
-/
namespace Sys2Proof.Machine

theorem kept_afterCut (s0 : State) : Keeps s0 (afterCut s0) := by
  unfold afterCut
  refine Keeps.ite (fun _ => ?_) (fun _ => ?_)
  · extract_lets +onlyGivenNames -underBinder -merge -useContext v2
    extract_lets +onlyGivenNames -underBinder -merge -useContext v3
    have h_v3 : Keeps s0 v3 := by
      unfold v3
      refine Keeps.update_whole ?_ ?_ ?_ ?_
      · exact Keeps.refl _
      · first | rfl | simp
      · first | rfl | simp
      · first | exact fun h => h | exact Keeps.map_stores (fun x => by first | rfl | (dsimp only; split <;> rfl) | (split <;> rfl) | (simp +zetaDelta only []; first | rfl | (split <;> rfl)) | simp)
    try clear_value v3
    refine Keeps.trans ?_ (kept_endShutdown _)
    refine Keeps.foldl (fun s0 a => ?_) ?_
    · try beta_reduce
      refine Keeps.trans ?_ (kept_endSlice _ _ _)
      exact Keeps.refl _
    · exact h_v3
  · exact Keeps.refl _

theorem kept_progressEvent (ck : Nat) (s0 : State) : Keeps s0 (progressEvent ck s0) := by
  unfold progressEvent
  extract_lets +onlyGivenNames -underBinder -merge -useContext v0
  try clear_value v0
  refine Keeps.trans ?_ (kept_syncWindow _ _)
  refine Keeps.trans ?_ (kept_modCluster _ _ _)
  exact Keeps.refl _

theorem kept_commandTile (ck : Nat) (id : Nat) (core : Nat) (s0 : State) : Keeps s0 (commandTile ck id core s0) := by
  unfold commandTile
  extract_lets +onlyGivenNames -underBinder -merge -useContext v0
  refine Keeps.trans ?_ (kept_syncWindow _ _)
  refine Keeps.trans ?_ (kept_modCluster _ _ _)
  exact Keeps.refl _

theorem kept_endGrants (d : Nat) (s0 : State) : Keeps s0 (endGrants d s0) := by
  unfold endGrants
  extract_lets +onlyGivenNames -underBinder -merge -useContext v0
  refine Keeps.update ?_
  exact Keeps.refl _

theorem kept_restartCommands (ck : Nat) (s0 : State) : Keeps s0 (restartCommands ck s0) := by
  unfold restartCommands
  extract_lets +onlyGivenNames -underBinder -merge -useContext v0
  try clear_value v0
  extract_lets +onlyGivenNames -underBinder -merge -useContext v2
  try clear_value v2
  extract_lets +onlyGivenNames -underBinder -merge -useContext v4
  try clear_value v4
  split
  · exact Keeps.refl _
  · refine Keeps.ite (fun _ => ?_) (fun _ => ?_)
    · exact Keeps.refl _
    · extract_lets +onlyGivenNames -underBinder -merge -useContext v14
      extract_lets +onlyGivenNames -underBinder -merge -useContext v15
      have h_v15 : Keeps s0 v15 := by
        unfold v15
        refine Keeps.trans ?_ (kept_modCluster _ _ _)
        exact Keeps.refl _
      try clear_value v15
      extract_lets +onlyGivenNames -underBinder -merge -useContext v21
      have h_v21 : Keeps s0 v21 := by
        unfold v21
        refine Keeps.trans ?_ (kept_traceEvent _ _ _ _ _)
        refine Keeps.trans ?_ (kept_addSobj _ _ _ _)
        exact h_v15
      try clear_value v21
      refine Keeps.ite (fun _ => ?_) (fun _ => ?_)
      · exact h_v21
      · refine Keeps.trans ?_ (kept_enterCase _ _)
        exact h_v21

theorem kept_cutField (f : Nat) (s0 : State) : Keeps s0 (cutField f s0) := by
  unfold cutField
  extract_lets +onlyGivenNames -underBinder -merge -useContext v0
  refine Keeps.update ?_
  exact Keeps.refl _

theorem kept_returnField (f : Nat) (s0 : State) : Keeps s0 (returnField f s0) := by
  unfold returnField
  extract_lets +onlyGivenNames -underBinder -merge -useContext v0
  have h_v0 : Keeps s0 v0 := by
    unfold v0
    refine Keeps.trans ?_ (kept_freeField _ _ _)
    refine Keeps.trans ?_ (kept_cutField _ _)
    exact Keeps.refl _
  try clear_value v0
  refine Keeps.foldl (fun s0 a => ?_) ?_
  · try beta_reduce
    refine Keeps.trans ?_ (kept_traceClusterEvent _ _ _)
    exact Keeps.refl _
  · exact h_v0

theorem kept_returnDomain (code : Nat) (p : Nat) (s0 : State) : Keeps s0 (returnDomain code p s0) := by
  unfold returnDomain
  extract_lets +onlyGivenNames -underBinder -merge -useContext v0
  try clear_value v0
  split
  · extract_lets +onlyGivenNames -underBinder -merge -useContext v4
    try clear_value v4
    extract_lets +onlyGivenNames -underBinder -merge -useContext v6
    have h_v6 : Keeps s0 v6 := by
      unfold v6
      refine Keeps.trans ?_ (kept_freeCluster _ _ _)
      refine Keeps.trans ?_ (kept_freeCluster _ _ _)
      refine Keeps.trans ?_ (kept_cutProgress _ _)
      exact Keeps.refl _
    try clear_value v6
    refine Keeps.trans ?_ (kept_progressEvent _ _)
    refine Keeps.trans ?_ (kept_restartCommands _ _)
    refine Keeps.trans ?_ (kept_traceClusterEvent _ _ _)
    exact h_v6
  · extract_lets +onlyGivenNames -underBinder -merge -useContext v19
    have h_v19 : Keeps s0 v19 := by
      unfold v19
      refine Keeps.foldl (fun s0 a => ?_) ?_
      · try beta_reduce
        refine Keeps.trans ?_ (kept_freeField _ _ _)
        exact Keeps.refl _
      · exact Keeps.refl _
    try clear_value v19
    refine Keeps.trans ?_ (kept_emcyEvent _ _ _ _)
    refine Keeps.trans ?_ (kept_endGrants _ _)
    exact h_v19
  · refine Keeps.trans ?_ (kept_returnField _ _)
    exact Keeps.refl _
  · refine Keeps.foldl (fun s0 a => ?_) ?_
    · try beta_reduce
      refine Keeps.trans ?_ (kept_returnField _ _)
      exact Keeps.refl _
    · exact Keeps.refl _
  · refine Keeps.foldl (fun s0 a => ?_) ?_
    · try beta_reduce
      refine Keeps.trans ?_ (kept_returnField _ _)
      exact Keeps.refl _
    · exact Keeps.refl _
  · refine Keeps.foldl (fun s0 a => ?_) ?_
    · try beta_reduce
      refine Keeps.trans ?_ (kept_returnField _ _)
      exact Keeps.refl _
    · exact Keeps.refl _
  · exact Keeps.refl _

theorem kept_endRun (code : Nat) (p : Nat) (s0 : State) : Keeps s0 (endRun code p s0) := by
  unfold endRun
  split
  · refine Keeps.trans ?_ (kept_modCore _ _ _)
    exact Keeps.refl _
  · refine Keeps.trans ?_ (kept_modCluster _ _ _)
    exact Keeps.refl _
  · refine Keeps.trans ?_ (kept_modField _ _ _)
    exact Keeps.refl _
  · refine Keeps.trans ?_ (kept_modField _ _ _)
    exact Keeps.refl _
  · refine Keeps.update ?_
    exact Keeps.refl _
  · refine Keeps.trans ?_ (kept_modDie _ _ _ (fun x => ?_))
    · exact Keeps.refl _
    · first | rfl | ((try dsimp only); (repeat' split) <;> rfl)

theorem kept_resetRecord (r : ResetRun) (p : Nat) (outcome : Nat) (s0 : State) : Keeps s0 (resetRecord r p outcome s0) := by
  unfold resetRecord
  extract_lets +onlyGivenNames -underBinder -merge -useContext v0
  try clear_value v0
  refine Keeps.trans ?_ (kept_record _ _ _ _ _)
  refine Keeps.trans ?_ (kept_addObj _ _ _)
  exact Keeps.refl _

theorem kept_completeReset (p : Nat) (code : Nat) (s0 : State) : Keeps s0 (completeReset p code s0) := by
  unfold completeReset
  split
  · exact Keeps.refl _
  · refine Keeps.ite (fun _ => ?_) (fun _ => ?_)
    · exact Keeps.refl _
    · refine Keeps.trans ?_ (kept_returnDomain _ _ _)
      refine Keeps.trans ?_ (kept_endRun _ _ _)
      refine Keeps.trans ?_ (kept_resetRecord _ _ _ _)
      exact Keeps.refl _

theorem kept_cutCommits (stop : Nat) (s0 : State) : Keeps s0 (cutCommits stop s0) := by
  unfold cutCommits
  refine Keeps.foldl (fun s0 a => ?_) ?_
  · try beta_reduce
    refine Keeps.ite (fun _ => ?_) (fun _ => ?_)
    · refine Keeps.trans ?_ (kept_landCommit _ _)
      exact Keeps.refl _
    · extract_lets +onlyGivenNames -underBinder -merge -useContext v8
      have h_v8 : Keeps s0 v8 := by
        unfold v8
        refine Keeps.update ?_
        exact Keeps.refl _
      try clear_value v8
      refine Keeps.foldl (fun s0 a => ?_) ?_
      · try beta_reduce
        refine Keeps.trans ?_ (kept_setOpen _ _ _)
        exact Keeps.refl _
      · exact h_v8
  · exact Keeps.refl _

theorem kept_declareHang (ck : Nat) (s0 : State) : Keeps s0 (declareHang ck s0) := by
  unfold declareHang
  extract_lets +onlyGivenNames -underBinder -merge -useContext v0
  try clear_value v0
  refine Keeps.ite (fun _ => ?_) (fun _ => ?_)
  · exact Keeps.refl _
  · extract_lets +onlyGivenNames -underBinder -merge -useContext v6
    try clear_value v6
    extract_lets +onlyGivenNames -underBinder -merge -useContext v8
    try clear_value v8
    extract_lets +onlyGivenNames -underBinder -merge -useContext v10
    have h_v10 : Keeps s0 v10 := by
      unfold v10
      refine Keeps.trans ?_ (kept_modCluster _ _ _)
      refine Keeps.trans ?_ (kept_holdCluster _ _ _)
      exact Keeps.refl _
    try clear_value v10
    extract_lets +onlyGivenNames -underBinder -merge -useContext v17
    have h_v17 : Keeps s0 v17 := by
      unfold v17
      refine Keeps.trans ?_ (kept_syncWindow _ _)
      exact h_v10
    try clear_value v17
    extract_lets +onlyGivenNames -underBinder -merge -useContext v23
    have h_v23 : Keeps s0 v23 := by
      unfold v23
      refine Keeps.trans ?_ (kept_setSobjs _ _ _)
      refine Keeps.trans ?_ (kept_addSobj _ _ _ _)
      exact h_v17
    try clear_value v23
    extract_lets +onlyGivenNames -underBinder -merge -useContext v30
    have h_v30 : Keeps s0 v30 := by
      unfold v30
      refine Keeps.trans ?_ (kept_modSlice _ _ _)
      exact h_v23
    try clear_value v30
    refine Keeps.trans ?_ (kept_raise _ _ _)
    refine Keeps.trans ?_ (kept_stopTraced _ _ _ _)
    exact h_v30

theorem ends_execRipcordArrival (dt : Nat) (d : Nat) (_byWire : Bool) (s0 : State) : Ends (elapse dt s0) (execRipcordArrival dt d _byWire s0) := by
  unfold execRipcordArrival
  extract_lets +onlyGivenNames -underBinder -merge -useContext v0
  have h_v0 : Keeps (elapse dt s0) v0 := by
    unfold v0
    exact Keeps.refl _
  try clear_value v0
  refine Ends.done ?_
  refine Keeps.ite (fun _ => ?_) (fun _ => ?_)
  · refine Keeps.trans ?_ (kept_actRipcord _ _)
    exact h_v0
  · exact h_v0

theorem ends_execFieldAgentHeartbeatTimeout (dt : Nat) (agent : Pua) (s0 : State) : Ends (elapse dt s0) (execFieldAgentHeartbeatTimeout dt agent s0) := by
  unfold execFieldAgentHeartbeatTimeout
  extract_lets +onlyGivenNames -underBinder -merge -useContext v0
  have h_v0 : Keeps (elapse dt s0) v0 := by
    unfold v0
    exact Keeps.refl _
  try clear_value v0
  extract_lets +onlyGivenNames -underBinder -merge -useContext v5
  try clear_value v5
  refine Ends.done ?_
  refine Keeps.ite (fun _ => ?_) (fun _ => ?_)
  · exact h_v0
  · refine Keeps.ite (fun _ => ?_) (fun _ => ?_)
    · exact h_v0
    · refine Keeps.trans ?_ (kept_decideReset _ _ _ _ _)
      exact h_v0

theorem kept_gondolaFault (d : Nat) (s0 : State) : Keeps s0 (gondolaFault d s0) := by
  unfold gondolaFault
  refine Keeps.ite (fun _ => ?_) (fun _ => ?_)
  · exact Keeps.refl _
  · refine Keeps.trans ?_ (kept_decideReset _ _ _ _ _)
    exact Keeps.refl _

theorem ends_execGondolaWatchdogTimeout (dt : Nat) (d : Nat) (s0 : State) : Ends (elapse dt s0) (execGondolaWatchdogTimeout dt d s0) := by
  unfold execGondolaWatchdogTimeout
  refine Ends.done ?_
  refine Keeps.trans ?_ (kept_gondolaFault _ _)
  exact Keeps.refl _

theorem ends_execLockstepDisagreement (dt : Nat) (d : Nat) (s0 : State) : Ends (elapse dt s0) (execLockstepDisagreement dt d s0) := by
  unfold execLockstepDisagreement
  extract_lets +onlyGivenNames -underBinder -merge -useContext v0
  have h_v0 : Keeps (elapse dt s0) v0 := by
    unfold v0
    exact Keeps.refl _
  try clear_value v0
  extract_lets +onlyGivenNames -underBinder -merge -useContext v5
  have h_v5 : Keeps (elapse dt s0) v5 := by
    unfold v5
    refine Keeps.ite (fun _ => ?_) (fun _ => ?_)
    · refine Keeps.foldl (fun s0 a => ?_) ?_
      · try beta_reduce
        refine Keeps.trans ?_ (kept_holdField _ _ _)
        exact Keeps.refl _
      · exact h_v0
    · exact h_v0
  try clear_value v5
  refine Ends.done ?_
  refine Keeps.trans ?_ (kept_gondolaFault _ _)
  exact h_v5

theorem ends_execTransitDrainEnd (dt : Nat) (d : Nat) (s0 : State) : Ends (elapse dt s0) (execTransitDrainEnd dt d s0) := by
  unfold execTransitDrainEnd
  extract_lets +onlyGivenNames -underBinder -merge -useContext v0
  have h_v0 : Keeps (elapse dt s0) v0 := by
    unfold v0
    exact Keeps.refl _
  try clear_value v0
  refine Ends.done ?_
  split
  · refine Keeps.ite (fun _ => ?_) (fun _ => ?_)
    · refine Keeps.trans ?_ (kept_modDie _ _ _ (fun x => ?_))
      · refine Keeps.trans ?_ (kept_resetDieClusters _ _)
        exact h_v0
      · first | rfl | ((try dsimp only); (repeat' split) <;> rfl)
    · exact h_v0
  · exact h_v0

theorem ends_execSyncObjectSignal (dt : Nat) (cluster_ : Pua) (object : Nat) (s0 : State) : Ends (elapse dt s0) (execSyncObjectSignal dt cluster_ object s0) := by
  unfold execSyncObjectSignal
  extract_lets +onlyGivenNames -underBinder -merge -useContext v0
  have h_v0 : Keeps (elapse dt s0) v0 := by
    unfold v0
    exact Keeps.refl _
  try clear_value v0
  extract_lets +onlyGivenNames -underBinder -merge -useContext v5
  try clear_value v5
  extract_lets +onlyGivenNames -underBinder -merge -useContext v7
  have h_v7 : Keeps (elapse dt s0) v7 := by
    unfold v7
    refine Keeps.trans ?_ (kept_modCluster _ _ _)
    exact h_v0
  try clear_value v7
  extract_lets +onlyGivenNames -underBinder -merge -useContext v13
  have h_v13 : Keeps (elapse dt s0) v13 := by
    unfold v13
    refine Keeps.trans ?_ (kept_traceEvent _ _ _ _ _)
    refine Keeps.trans ?_ (kept_countCluster _ _ _ _)
    exact h_v7
  try clear_value v13
  refine Ends.done ?_
  refine Keeps.trans ?_ (kept_progressEvent _ _)
  exact h_v13

theorem ends_execLockstepFaultNotice (dt : Nat) (s0 : State) : Ends (elapse dt s0) (execLockstepFaultNotice dt s0) := by
  unfold execLockstepFaultNotice
  extract_lets +onlyGivenNames -underBinder -merge -useContext v0
  have h_v0 : Keeps (elapse dt s0) v0 := by
    unfold v0
    exact Keeps.refl _
  try clear_value v0
  refine Ends.done ?_
  refine Keeps.ite (fun _ => ?_) (fun _ => ?_)
  · refine Keeps.trans ?_ (kept_gondolaFault _ _)
    refine Keeps.trans ?_ (kept_takeRole _ _)
    exact h_v0
  · exact h_v0

theorem ends_execResetTimeout (dt : Nat) (domain : Pua) (code : Nat) (s0 : State) : Ends (elapse dt s0) (execResetTimeout dt domain code s0) := by
  unfold execResetTimeout
  extract_lets +onlyGivenNames -underBinder -merge -useContext v0
  have h_v0 : Keeps (elapse dt s0) v0 := by
    unfold v0
    exact Keeps.refl _
  try clear_value v0
  extract_lets +onlyGivenNames -underBinder -merge -useContext v5
  try clear_value v5
  refine Ends.done ?_
  split
  · exact h_v0
  · refine Keeps.ite (fun _ => ?_) (fun _ => ?_)
    · exact h_v0
    · refine Keeps.ite (fun _ => ?_) (fun _ => ?_)
      · exact h_v0
      · extract_lets +onlyGivenNames -underBinder -merge -useContext v20
        have h_v20 : Keeps (elapse dt s0) v20 := by
          unfold v20
          refine Keeps.trans ?_ (kept_endRun _ _ _)
          refine Keeps.trans ?_ (kept_resetRecord _ _ _ _)
          exact h_v0
        try clear_value v20
        split
        · refine Keeps.trans ?_ (kept_gondolaOut _ _)
          refine Keeps.trans ?_ (kept_noteOutOfService _ _ _)
          refine Keeps.trans ?_ (kept_modDie _ _ _ (fun x => ?_))
          · exact h_v20
          · first | rfl | ((try dsimp only); (repeat' split) <;> rfl)
        · refine Keeps.trans ?_ (kept_decidePackage _ _)
          exact h_v20
        · refine Keeps.update_whole ?_ ?_ ?_ ?_
          · exact h_v20
          · first | rfl | simp
          · first | rfl | simp
          · first | exact fun h => h | exact Keeps.map_stores (fun x => by first | rfl | (dsimp only; split <;> rfl) | (split <;> rfl) | (simp +zetaDelta only []; first | rfl | (split <;> rfl)) | simp)
        · refine Keeps.trans ?_ (kept_decideReset _ _ _ _ _)
          exact h_v20

theorem ends_execBridleProbe (dt : Nat) (bridle : Pua) (s0 : State) : Ends (elapse dt s0) (execBridleProbe dt bridle s0) := by
  unfold execBridleProbe
  extract_lets +onlyGivenNames -underBinder -merge -useContext v0
  have h_v0 : Keeps (elapse dt s0) v0 := by
    unfold v0
    exact Keeps.refl _
  try clear_value v0
  refine Ends.done ?_
  refine Keeps.trans ?_ (kept_modCluster _ _ _)
  exact h_v0

theorem ends_execProgressWindowExpiry (dt : Nat) (cluster_ : Pua) (s0 : State) : Ends (elapse dt s0) (execProgressWindowExpiry dt cluster_ s0) := by
  unfold execProgressWindowExpiry
  extract_lets +onlyGivenNames -underBinder -merge -useContext v0
  have h_v0 : Keeps (elapse dt s0) v0 := by
    unfold v0
    exact Keeps.refl _
  try clear_value v0
  extract_lets +onlyGivenNames -underBinder -merge -useContext v5
  try clear_value v5
  extract_lets +onlyGivenNames -underBinder -merge -useContext v7
  try clear_value v7
  refine Ends.done ?_
  refine Keeps.ite (fun _ => ?_) (fun _ => ?_)
  · refine Keeps.trans ?_ (kept_declareHang _ _)
    exact h_v0
  · exact h_v0

theorem kept_stopResets (s0 : State) : Keeps s0 (stopResets s0) := by
  unfold stopResets
  refine Keeps.update_whole ?_ ?_ ?_ ?_
  · exact Keeps.refl _
  · first | rfl | simp
  · first | rfl | simp
  · first | exact fun h => h | exact Keeps.map_stores (fun x => by first | rfl | (dsimp only; split <;> rfl) | (split <;> rfl) | (simp +zetaDelta only []; first | rfl | (split <;> rfl)) | simp)

theorem ends_execStopCountCut (dt : Nat) (landed : Nat) (s0 : State) : Ends (elapse dt s0) (execStopCountCut dt landed s0) := by
  unfold execStopCountCut
  extract_lets +onlyGivenNames -underBinder -merge -useContext v0
  have h_v0 : Keeps (elapse dt s0) v0 := by
    unfold v0
    exact Keeps.refl _
  try clear_value v0
  refine Ends.done ?_
  refine Keeps.ite (fun _ => ?_) (fun _ => ?_)
  · exact h_v0
  · extract_lets +onlyGivenNames -underBinder -merge -useContext v10
    try clear_value v10
    extract_lets +onlyGivenNames -underBinder -merge -useContext w12_0 v12
    have h_v12 : Keeps (elapse dt s0) v12 := by
      unfold v12
      refine Keeps.update ?_
      exact h_v0
    try clear_value v12
    extract_lets +onlyGivenNames -underBinder -merge -useContext v18
    have h_v18 : Keeps (elapse dt s0) v18 := by
      unfold v18
      refine Keeps.trans ?_ (kept_cutCommits _ _)
      refine Keeps.trans ?_ (kept_stopResets _)
      exact h_v12
    try clear_value v18
    extract_lets +onlyGivenNames -underBinder -merge -useContext v25
    have h_v25 : Keeps (elapse dt s0) v25 := by
      unfold v25
      refine Keeps.foldl (fun s0 a => ?_) ?_
      · try beta_reduce
        refine Keeps.trans ?_ (kept_holdField _ _ _)
        exact Keeps.refl _
      · exact h_v18
    try clear_value v25
    extract_lets +onlyGivenNames -underBinder -merge -useContext v36
    have h_v36 : Keeps (elapse dt s0) v36 := by
      unfold v36
      refine Keeps.trans ?_ (kept_stopSlots _ _ _)
      exact h_v25
    try clear_value v36
    extract_lets +onlyGivenNames -underBinder -merge -useContext v42
    have h_v42 : Keeps (elapse dt s0) v42 := by
      unfold v42
      refine Keeps.foldl (fun s0 a => ?_) ?_
      · try beta_reduce
        refine Keeps.ite (fun _ => ?_) (fun _ => ?_)
        · exact Keeps.refl _
        · extract_lets +onlyGivenNames -underBinder -merge -useContext v52
          try clear_value v52
          refine Keeps.trans ?_ (kept_startCapture _ _ _ _ _ _ _ _ _ _)
          exact Keeps.refl _
      · exact h_v36
    try clear_value v42
    extract_lets +onlyGivenNames -underBinder -merge -useContext v59
    try clear_value v59
    extract_lets +onlyGivenNames -underBinder -merge -useContext v61
    have h_v61 : Keeps (elapse dt s0) v61 := by
      unfold v61
      refine Keeps.update_whole ?_ ?_ ?_ ?_
      · exact h_v42
      · first | rfl | simp
      · first | rfl | simp
      · first | exact fun h => h | exact Keeps.map_stores (fun x => by first | rfl | (dsimp only; split <;> rfl) | (split <;> rfl) | (simp +zetaDelta only []; first | rfl | (split <;> rfl)) | simp)
    try clear_value v61
    refine Keeps.trans ?_ (kept_afterCut _)
    exact h_v61

theorem ends_execCommandComplete (dt : Nat) (cluster_ : Pua) (id : Nat) (s0 : State) : Ends (elapse dt s0) (execCommandComplete dt cluster_ id s0) := by
  unfold execCommandComplete
  extract_lets +onlyGivenNames -underBinder -merge -useContext v0
  have h_v0 : Keeps (elapse dt s0) v0 := by
    unfold v0
    exact Keeps.refl _
  try clear_value v0
  extract_lets +onlyGivenNames -underBinder -merge -useContext v5
  try clear_value v5
  refine Ends.done ?_
  refine Keeps.ite (fun _ => ?_) (fun _ => ?_)
  · extract_lets +onlyGivenNames -underBinder -merge -useContext v10
    have h_v10 : Keeps (elapse dt s0) v10 := by
      unfold v10
      refine Keeps.trans ?_ (kept_modCluster _ _ _)
      exact h_v0
    try clear_value v10
    extract_lets +onlyGivenNames -underBinder -merge -useContext v16
    have h_v16 : Keeps (elapse dt s0) v16 := by
      unfold v16
      refine Keeps.trans ?_ (kept_traceEvent _ _ _ _ _)
      refine Keeps.trans ?_ (kept_countCluster _ _ _ _)
      exact h_v10
    try clear_value v16
    refine Keeps.trans ?_ (kept_progressEvent _ _)
    exact h_v16
  · exact h_v0

theorem ends_execCaptureComplete (dt : Nat) (d : Nat) (s0 : State) : Ends (elapse dt s0) (execCaptureComplete dt d s0) := by
  unfold execCaptureComplete
  extract_lets +onlyGivenNames -underBinder -merge -useContext v0
  have h_v0 : Keeps (elapse dt s0) v0 := by
    unfold v0
    exact Keeps.refl _
  try clear_value v0
  refine Ends.done ?_
  split
  · exact h_v0
  · extract_lets +onlyGivenNames -underBinder -merge -useContext v10
    try clear_value v10
    extract_lets +onlyGivenNames -underBinder -merge -useContext v12
    have h_v12 : Keeps (elapse dt s0) v12 := by
      unfold v12
      refine Keeps.trans ?_ (kept_modDie _ _ _ (fun x => ?_))
      · exact h_v0
      · first | rfl | ((try dsimp only); (repeat' split) <;> rfl)
    try clear_value v12
    extract_lets +onlyGivenNames -underBinder -merge -useContext v21
    have h_v21 : Keeps (elapse dt s0) v21 := by
      unfold v21
      refine Keeps.trans ?_ (kept_captureRecord _ _ _)
      exact h_v12
    try clear_value v21
    refine Keeps.ite (fun _ => ?_) (fun _ => ?_)
    · refine Keeps.trans ?_ (kept_afterCut _)
      exact h_v21
    · exact h_v21

theorem ends_execCommandAccept (dt : Nat) (cluster_ : Pua) (command : Command) (s0 : State) : Ends (elapse dt s0) (execCommandAccept dt cluster_ command s0) := by
  unfold execCommandAccept
  extract_lets +onlyGivenNames -underBinder -merge -useContext v0
  have h_v0 : Keeps (elapse dt s0) v0 := by
    unfold v0
    exact Keeps.refl _
  try clear_value v0
  extract_lets +onlyGivenNames -underBinder -merge -useContext v5
  try clear_value v5
  extract_lets +onlyGivenNames -underBinder -merge -useContext v7
  try clear_value v7
  extract_lets +onlyGivenNames -underBinder -merge -useContext v9
  try clear_value v9
  extract_lets +onlyGivenNames -underBinder -merge -useContext v11
  try clear_value v11
  extract_lets +onlyGivenNames -underBinder -merge -useContext v13
  have h_v13 : Keeps (elapse dt s0) v13 := by
    unfold v13
    refine Keeps.trans ?_ (kept_modCluster _ _ _)
    exact h_v0
  try clear_value v13
  extract_lets +onlyGivenNames -underBinder -merge -useContext v19
  have h_v19 : Keeps (elapse dt s0) v19 := by
    unfold v19
    refine Keeps.ite (fun _ => ?_) (fun _ => ?_)
    · refine Keeps.trans ?_ (kept_modCluster _ _ _)
      exact h_v13
    · exact h_v13
  try clear_value v19
  extract_lets +onlyGivenNames -underBinder -merge -useContext v29
  have h_v29 : Keeps (elapse dt s0) v29 := by
    unfold v29
    refine Keeps.trans ?_ (kept_traceEvent _ _ _ _ _)
    refine Keeps.trans ?_ (kept_countCluster _ _ _ _)
    exact h_v19
  try clear_value v29
  refine Ends.done ?_
  refine Keeps.trans ?_ (kept_syncWindow _ _)
  exact h_v29

theorem ends_execCommandTimeout (dt : Nat) (cluster_ : Pua) (id : Nat) (core : Option Nat) (s0 : State) : Ends (elapse dt s0) (execCommandTimeout dt cluster_ id core s0) := by
  unfold execCommandTimeout
  extract_lets +onlyGivenNames -underBinder -merge -useContext v0
  have h_v0 : Keeps (elapse dt s0) v0 := by
    unfold v0
    exact Keeps.refl _
  try clear_value v0
  extract_lets +onlyGivenNames -underBinder -merge -useContext v5
  try clear_value v5
  extract_lets +onlyGivenNames -underBinder -merge -useContext v7
  try clear_value v7
  refine Ends.done ?_
  split
  · exact h_v0
  · extract_lets +onlyGivenNames -underBinder -merge -useContext v14
    try clear_value v14
    refine Keeps.ite (fun _ => ?_) (fun _ => ?_)
    · exact h_v0
    · split
      · refine Keeps.ite (fun _ => ?_) (fun _ => ?_)
        · refine Keeps.trans ?_ (kept_declareHang _ _)
          exact h_v0
        · exact h_v0
      · split
        · exact h_v0
        · refine Keeps.ite (fun _ => ?_) (fun _ => ?_)
          · exact h_v0
          · refine Keeps.ite (fun _ => ?_) (fun _ => ?_)
            · refine Keeps.trans ?_ (kept_declareHang _ _)
              exact h_v0
            · extract_lets +onlyGivenNames -underBinder -merge -useContext v42
              try clear_value v42
              extract_lets +onlyGivenNames -underBinder -merge -useContext v44
              try clear_value v44
              extract_lets +onlyGivenNames -underBinder -merge -useContext v46
              try clear_value v46
              extract_lets +onlyGivenNames -underBinder -merge -useContext v48
              try clear_value v48
              extract_lets +onlyGivenNames -underBinder -merge -useContext w50_0 v50
              try clear_value v50
              extract_lets +onlyGivenNames -underBinder -merge -useContext v52
              have h_v52 : Keeps (elapse dt s0) v52 := by
                unfold v52
                refine Keeps.trans ?_ (kept_setSobjs _ _ _)
                refine Keeps.trans ?_ (kept_addSobj _ _ _ _)
                exact h_v0
              try clear_value v52
              extract_lets +onlyGivenNames -underBinder -merge -useContext v59
              extract_lets +onlyGivenNames -underBinder -merge -useContext v60
              have h_v60 : Keeps (elapse dt s0) v60 := by
                unfold v60
                refine Keeps.trans ?_ (kept_modCluster _ _ _)
                exact h_v52
              try clear_value v60
              refine Keeps.trans ?_ (kept_syncWindow _ _)
              refine Keeps.trans ?_ (kept_decideCoreReset _ _)
              refine Keeps.trans ?_ (kept_raise _ _ _)
              exact h_v60

theorem ends_execHangReportRepeat (dt : Nat) (cluster_ : Pua) (s0 : State) : Ends (elapse dt s0) (execHangReportRepeat dt cluster_ s0) := by
  unfold execHangReportRepeat
  extract_lets +onlyGivenNames -underBinder -merge -useContext v0
  have h_v0 : Keeps (elapse dt s0) v0 := by
    unfold v0
    exact Keeps.refl _
  try clear_value v0
  extract_lets +onlyGivenNames -underBinder -merge -useContext v5
  try clear_value v5
  extract_lets +onlyGivenNames -underBinder -merge -useContext v7
  try clear_value v7
  refine Ends.done ?_
  split
  · exact h_v0
  · refine Keeps.ite (fun _ => ?_) (fun _ => ?_)
    · exact h_v0
    · refine Keeps.trans ?_ (kept_raise _ _ _)
      refine Keeps.trans ?_ (kept_modCluster _ _ _)
      exact h_v0

theorem kept_settleCommands (ck : Nat) (k : Nat) (s0 : State) : Keeps s0 (settleCommands ck k s0) := by
  unfold settleCommands
  extract_lets +onlyGivenNames -underBinder -merge -useContext v0
  try clear_value v0
  split
  · exact Keeps.refl _
  · refine Keeps.ite (fun _ => ?_) (fun _ => ?_)
    · refine Keeps.trans ?_ (kept_modCluster _ _ _)
      refine Keeps.trans ?_ (kept_setSobj _ _ _ _)
      exact Keeps.refl _
    · extract_lets +onlyGivenNames -underBinder -merge -useContext v12
      try clear_value v12
      extract_lets +onlyGivenNames -underBinder -merge -useContext v14
      have h_v14 : Keeps s0 v14 := by
        unfold v14
        refine Keeps.trans ?_ (kept_modCluster _ _ _)
        exact Keeps.refl _
      try clear_value v14
      extract_lets +onlyGivenNames -underBinder -merge -useContext v20
      have h_v20 : Keeps s0 v20 := by
        unfold v20
        refine Keeps.trans ?_ (kept_traceEvent _ _ _ _ _)
        exact h_v14
      try clear_value v20
      extract_lets +onlyGivenNames -underBinder -merge -useContext v26
      have h_v26 : Keeps s0 v26 := by
        unfold v26
        refine Keeps.trans ?_ (kept_setSobj _ _ _ _)
        refine Keeps.trans ?_ (kept_addSobj _ _ _ _)
        exact h_v20
      try clear_value v26
      refine Keeps.trans ?_ (kept_recordAt _ _ _ _ _ _)
      exact h_v26

theorem kept_sliceHang (k : Nat) (hung : List Nat) (e : Event) (s0 : State) : Keeps s0 (sliceHang k hung e s0) := by
  unfold sliceHang
  extract_lets +onlyGivenNames -underBinder -merge -useContext v0
  try clear_value v0
  extract_lets +onlyGivenNames -underBinder -merge -useContext v2
  try clear_value v2
  extract_lets +onlyGivenNames -underBinder -merge -useContext v4
  have h_v4 : Keeps s0 v4 := by
    unfold v4
    refine Keeps.foldl (fun s0 a => ?_) ?_
    · try beta_reduce
      extract_lets +onlyGivenNames -underBinder -merge -useContext v10
      try clear_value v10
      split
      · exact Keeps.refl _
      · extract_lets +onlyGivenNames -underBinder -merge -useContext v16
        have h_v16 : Keeps s0 v16 := by
          unfold v16
          refine Keeps.foldl (fun s0 a => ?_) ?_
          · try beta_reduce
            refine Keeps.trans ?_ (kept_stopTraced _ _ _ _)
            exact Keeps.refl _
          · exact Keeps.refl _
        try clear_value v16
        refine Keeps.trans ?_ (kept_startCapture _ _ _ _ _ _ _ _ _ _)
        exact h_v16
    · exact Keeps.refl _
  try clear_value v4
  extract_lets +onlyGivenNames -underBinder -merge -useContext v32
  have h_v32 : Keeps s0 v32 := by
    unfold v32
    refine Keeps.trans ?_ (kept_recordVia _ _ _ _ _ _ _)
    refine Keeps.trans ?_ (kept_addObj _ _ _)
    refine Keeps.trans ?_ (kept_setSobj _ _ _ _)
    exact h_v4
  try clear_value v32
  extract_lets +onlyGivenNames -underBinder -merge -useContext v40
  have h_v40 : Keeps s0 v40 := by
    unfold v40
    refine Keeps.foldl (fun s0 a => ?_) ?_
    · try beta_reduce
      refine Keeps.trans ?_ (kept_modCluster _ _ _)
      exact Keeps.refl _
    · exact h_v32
  try clear_value v40
  refine Keeps.trans ?_ (kept_endSlice _ _ _)
  refine Keeps.trans ?_ (kept_modSlice _ _ _)
  exact h_v40

theorem ends_execHangHandling (dt : Nat) (d : Nat) (s0 : State) : Ends (elapse dt s0) (execHangHandling dt d s0) := by
  unfold execHangHandling
  extract_lets +onlyGivenNames -underBinder -merge -useContext v0
  have h_v0 : Keeps (elapse dt s0) v0 := by
    unfold v0
    exact Keeps.refl _
  try clear_value v0
  refine Ends.done ?_
  refine Keeps.ite (fun _ => ?_) (fun _ => ?_)
  · exact h_v0
  · split
    · exact h_v0
    · refine Keeps.ite (fun _ => ?_) (fun _ => ?_)
      · exact h_v0
      · extract_lets +onlyGivenNames -underBinder -merge -useContext v18
        have h_v18 : Keeps (elapse dt s0) v18 := by
          unfold v18
          refine Keeps.trans ?_ (kept_popHandling _ _)
          exact h_v0
        try clear_value v18
        extract_lets +onlyGivenNames -underBinder -merge -useContext v24
        try clear_value v24
        extract_lets +onlyGivenNames -underBinder -merge -useContext v26
        try clear_value v26
        refine Keeps.ite (fun _ => ?_) (fun _ => ?_)
        · exact h_v18
        · extract_lets +onlyGivenNames -underBinder -merge -useContext v32
          try clear_value v32
          refine Keeps.ite (fun _ => ?_) (fun _ => ?_)
          · refine Keeps.trans ?_ (kept_sliceHang _ _ _ _)
            exact h_v18
          · extract_lets +onlyGivenNames -underBinder -merge -useContext v39
            have h_v39 : Keeps (elapse dt s0) v39 := by
              unfold v39
              refine Keeps.trans ?_ (kept_modCluster _ _ _)
              exact h_v18
            try clear_value v39
            refine Keeps.trans ?_ (kept_settleCommands _ _ _)
            refine Keeps.trans ?_ (kept_decideReset _ _ _ _ _)
            exact h_v39

theorem ends_execBridleProbeTimeout (dt : Nat) (bridle : Pua) (s0 : State) : Ends (elapse dt s0) (execBridleProbeTimeout dt bridle s0) := by
  unfold execBridleProbeTimeout
  extract_lets +onlyGivenNames -underBinder -merge -useContext v0
  have h_v0 : Keeps (elapse dt s0) v0 := by
    unfold v0
    exact Keeps.refl _
  try clear_value v0
  extract_lets +onlyGivenNames -underBinder -merge -useContext v5
  try clear_value v5
  refine Ends.done ?_
  split
  · exact h_v0
  · refine Keeps.ite (fun _ => ?_) (fun _ => ?_)
    · refine Keeps.trans ?_ (kept_decideReset _ _ _ _ _)
      refine Keeps.trans ?_ (kept_modCluster _ _ _)
      exact h_v0
    · exact h_v0

end Sys2Proof.Machine
end

