-- ==== Sys2Proof/Laws/Kept/Supply.lean ====
section
/-!
SUPPORT. What the operations and commands of Machine/Supply.lean keep (see Laws/Keeps.lean).
-/
namespace Sys2Proof.Machine

theorem kept_modTray (d : Nat) (i : Nat) (f : TrayInput → TrayInput) (s0 : State) : Keeps s0 (modTray d i f s0) := by
  unfold modTray
  refine Keeps.trans ?_ (kept_modDie _ _ _ (fun x => ?_))
  · exact Keeps.refl _
  · first | rfl | ((try dsimp only); (repeat' split) <;> rfl)

theorem kept_setSupply (d : Nat) (new : Nat) (s0 : State) : Keeps s0 (setSupply d new s0) := by
  unfold setSupply
  extract_lets +onlyGivenNames -underBinder -merge -useContext v0
  try clear_value v0
  refine Keeps.ite (fun _ => ?_) (fun _ => ?_)
  · exact Keeps.refl _
  · extract_lets +onlyGivenNames -underBinder -merge -useContext v6
    have h_v6 : Keeps s0 v6 := by
      unfold v6
      refine Keeps.trans ?_ (kept_modDie _ _ _ (fun x => ?_))
      · exact Keeps.refl _
      · first | rfl | ((try dsimp only); (repeat' split) <;> rfl)
    try clear_value v6
    refine Keeps.trans ?_ (kept_refreshErrors _)
    refine Keeps.trans ?_ (kept_record _ _ _ _ _)
    exact h_v6

theorem ends_execSupplyStateRelease (dt : Nat) (d : Nat) (s0 : State) : Ends (elapse dt s0) (execSupplyStateRelease dt d s0) := by
  unfold execSupplyStateRelease
  extract_lets +onlyGivenNames -underBinder -merge -useContext v0
  have h_v0 : Keeps (elapse dt s0) v0 := by
    unfold v0
    exact Keeps.refl _
  try clear_value v0
  refine Ends.done ?_
  split
  · refine Keeps.ite (fun _ => ?_) (fun _ => ?_)
    · refine Keeps.trans ?_ (kept_setSupply _ _ _)
      exact h_v0
    · exact h_v0
  · exact h_v0

theorem ends_execAlwaysOnSupplyRise (dt : Nat) (d : Nat) (s0 : State) : Ends (elapse dt s0) (execAlwaysOnSupplyRise dt d s0) := by
  unfold execAlwaysOnSupplyRise
  extract_lets +onlyGivenNames -underBinder -merge -useContext v0
  have h_v0 : Keeps (elapse dt s0) v0 := by
    unfold v0
    exact Keeps.refl _
  try clear_value v0
  refine Ends.done ?_
  refine Keeps.ite (fun _ => ?_) (fun _ => ?_)
  · exact h_v0
  · extract_lets +onlyGivenNames -underBinder -merge -useContext v10
    try clear_value v10
    extract_lets +onlyGivenNames -underBinder -merge -useContext v12
    have h_v12 : Keeps (elapse dt s0) v12 := by
      unfold v12
      refine Keeps.trans ?_ (kept_modDie _ _ _ (fun x => ?_))
      · exact h_v0
      · first | rfl | ((try dsimp only); (repeat' split) <;> rfl)
    try clear_value v12
    refine Keeps.ite (fun _ => ?_) (fun _ => ?_)
    · exact h_v12
    · refine Keeps.trans ?_ (kept_modDie _ _ _ (fun x => ?_))
      · exact h_v12
      · first | rfl | ((try dsimp only); (repeat' split) <;> rfl)

theorem kept_suspendWrites (d : Nat) (s0 : State) : Keeps s0 (suspendWrites d s0) := by
  unfold suspendWrites
  refine Keeps.ite (fun _ => ?_) (fun _ => ?_)
  · exact Keeps.refl _
  · extract_lets +onlyGivenNames -underBinder -merge -useContext v4
    try clear_value v4
    extract_lets +onlyGivenNames -underBinder -merge -useContext v6
    have h_v6 : Keeps s0 v6 := by
      unfold v6
      refine Keeps.trans ?_ (kept_modDie _ _ _ (fun x => ?_))
      · exact Keeps.refl _
      · first | rfl | ((try dsimp only); (repeat' split) <;> rfl)
    try clear_value v6
    refine Keeps.trans ?_ (kept_refreshError _ _)
    refine Keeps.trans ?_ (kept_addObj _ _ _)
    exact h_v6

theorem kept_lowInput (d : Nat) (mv : Nat) (s0 : State) : Keeps s0 (lowInput d mv s0) := by
  unfold lowInput
  refine Keeps.ite (fun _ => ?_) (fun _ => ?_)
  · exact Keeps.refl _
  · extract_lets +onlyGivenNames -underBinder -merge -useContext v4
    have h_v4 : Keeps s0 v4 := by
      unfold v4
      refine Keeps.trans ?_ (kept_modDie _ _ _ (fun x => ?_))
      · exact Keeps.refl _
      · first | rfl | ((try dsimp only); (repeat' split) <;> rfl)
    try clear_value v4
    refine Keeps.ite (fun _ => ?_) (fun _ => ?_)
    · extract_lets +onlyGivenNames -underBinder -merge -useContext v15
      have h_v15 : Keeps s0 v15 := by
        unfold v15
        refine Keeps.trans ?_ (kept_setSupply _ _ _)
        refine Keeps.trans ?_ (kept_suspendWrites _ _)
        exact h_v4
      try clear_value v15
      refine Keeps.ite (fun _ => ?_) (fun _ => ?_)
      · refine Keeps.trans ?_ (kept_reachTarget _)
        refine Keeps.trans ?_ (kept_abortTest _)
        exact h_v15
      · refine Keeps.trans ?_ (kept_orderly _ _ _)
        exact h_v15
    · refine Keeps.ite (fun _ => ?_) (fun _ => ?_)
      · refine Keeps.trans ?_ (kept_setSupply _ _ _)
        refine Keeps.trans ?_ (kept_suspendWrites _ _)
        exact h_v4
      · exact h_v4

theorem ends_execVinPoll (dt : Nat) (d : Nat) (mv : Nat) (s0 : State) : Ends (elapse dt s0) (execVinPoll dt d mv s0) := by
  unfold execVinPoll
  extract_lets +onlyGivenNames -underBinder -merge -useContext v0
  have h_v0 : Keeps (elapse dt s0) v0 := by
    unfold v0
    exact Keeps.refl _
  try clear_value v0
  refine Ends.done ?_
  refine Keeps.ite (fun _ => ?_) (fun _ => ?_)
  · exact h_v0
  · extract_lets +onlyGivenNames -underBinder -merge -useContext v10
    have h_v10 : Keeps (elapse dt s0) v10 := by
      unfold v10
      refine Keeps.trans ?_ (kept_modDie _ _ _ (fun x => ?_))
      · exact h_v0
      · first | rfl | ((try dsimp only); (repeat' split) <;> rfl)
    try clear_value v10
    refine Keeps.ite (fun _ => ?_) (fun _ => ?_)
    · refine Keeps.trans ?_ (kept_setSupply _ _ _)
      exact h_v10
    · exact h_v10

theorem ends_execChatterEnd (dt : Nat) (d : Nat) (i : Nat) (s0 : State) : Ends (elapse dt s0) (execChatterEnd dt d i s0) := by
  unfold execChatterEnd
  extract_lets +onlyGivenNames -underBinder -merge -useContext v0
  have h_v0 : Keeps (elapse dt s0) v0 := by
    unfold v0
    exact Keeps.refl _
  try clear_value v0
  extract_lets +onlyGivenNames -underBinder -merge -useContext v5
  try clear_value v5
  refine Ends.done ?_
  refine Keeps.ite (fun _ => ?_) (fun _ => ?_)
  · refine Keeps.trans ?_ (kept_modTray _ _ _ _)
    exact h_v0
  · exact h_v0

theorem ends_execFastDomainResetRelease (dt : Nat) (d : Nat) (s0 : State) : Ends (elapse dt s0) (execFastDomainResetRelease dt d s0) := by
  unfold execFastDomainResetRelease
  extract_lets +onlyGivenNames -underBinder -merge -useContext v0
  have h_v0 : Keeps (elapse dt s0) v0 := by
    unfold v0
    exact Keeps.refl _
  try clear_value v0
  extract_lets +onlyGivenNames -underBinder -merge -useContext v5
  try clear_value v5
  refine Ends.done ?_
  refine Keeps.ite (fun _ => ?_) (fun _ => ?_)
  · exact h_v0
  · extract_lets +onlyGivenNames -underBinder -merge -useContext v12
    try clear_value v12
    extract_lets +onlyGivenNames -underBinder -merge -useContext v14
    have h_v14 : Keeps (elapse dt s0) v14 := by
      unfold v14
      refine Keeps.trans ?_ (kept_modDie _ _ _ (fun x => ?_))
      · exact h_v0
      · first | rfl | ((try dsimp only); (repeat' split) <;> rfl)
    try clear_value v14
    extract_lets +onlyGivenNames -underBinder -merge -useContext v23
    have h_v23 : Keeps (elapse dt s0) v23 := by
      unfold v23
      refine Keeps.ite (fun _ => ?_) (fun _ => ?_)
      · refine Keeps.trans ?_ (kept_modKeeper _ _ _)
        exact h_v14
      · exact h_v14
    try clear_value v23
    refine Keeps.ite (fun _ => ?_) (fun _ => ?_)
    · refine Keeps.trans ?_ (kept_startKeeper _ _)
      exact h_v23
    · exact h_v23

theorem ends_execAonSupplyFall (dt : Nat) (d : Nat) (s0 : State) : Ends (elapse dt s0) (execAonSupplyFall dt d s0) := by
  unfold execAonSupplyFall
  extract_lets +onlyGivenNames -underBinder -merge -useContext v0
  have h_v0 : Keeps (elapse dt s0) v0 := by
    unfold v0
    exact Keeps.refl _
  try clear_value v0
  refine Ends.done ?_
  refine Keeps.ite (fun _ => ?_) (fun _ => ?_)
  · exact h_v0
  · refine Keeps.trans ?_ (kept_emergency _ _ _)
    refine Keeps.trans ?_ (kept_modDie _ _ _ (fun x => ?_))
    · exact h_v0
    · first | rfl | ((try dsimp only); (repeat' split) <;> rfl)

theorem kept_trayFault (d : Nat) (i : Nat) (s0 : State) : Keeps s0 (trayFault d i s0) := by
  unfold trayFault
  refine Keeps.ite (fun _ => ?_) (fun _ => ?_)
  · exact Keeps.refl _
  · extract_lets +onlyGivenNames -underBinder -merge -useContext v4
    try clear_value v4
    extract_lets +onlyGivenNames -underBinder -merge -useContext v6
    have h_v6 : Keeps s0 v6 := by
      unfold v6
      refine Keeps.trans ?_ (kept_modTray _ _ _ _)
      exact Keeps.refl _
    try clear_value v6
    refine Keeps.ite (fun _ => ?_) (fun _ => ?_)
    · exact h_v6
    · extract_lets +onlyGivenNames -underBinder -merge -useContext v16
      have h_v16 : Keeps s0 v16 := by
        unfold v16
        refine Keeps.ite (fun _ => ?_) (fun _ => ?_)
        · refine Keeps.trans ?_ (kept_emcyEvent _ _ _ _)
          refine Keeps.trans ?_ (kept_record _ _ _ _ _)
          exact h_v6
        · exact h_v6
      try clear_value v16
      split
      · refine Keeps.trans ?_ (kept_emergency _ _ _)
        exact h_v16
      · refine Keeps.trans ?_ (kept_orderly _ _ _)
        exact h_v16
      · refine Keeps.trans ?_ (kept_emergency _ _ _)
        exact h_v16

theorem ends_execTrayInputChange (dt : Nat) (d : Nat) (i : Nat) (level : Bool) (s0 : State) : Ends (elapse dt s0) (execTrayInputChange dt d i level s0) := by
  unfold execTrayInputChange
  extract_lets +onlyGivenNames -underBinder -merge -useContext v0
  have h_v0 : Keeps (elapse dt s0) v0 := by
    unfold v0
    exact Keeps.refl _
  try clear_value v0
  extract_lets +onlyGivenNames -underBinder -merge -useContext v5
  try clear_value v5
  refine Ends.done ?_
  refine Keeps.ite (fun _ => ?_) (fun _ => ?_)
  · exact h_v0
  · extract_lets +onlyGivenNames -underBinder -merge -useContext v12
    have h_v12 : Keeps (elapse dt s0) v12 := by
      unfold v12
      refine Keeps.trans ?_ (kept_wakeGondola _ _)
      exact h_v0
    try clear_value v12
    extract_lets +onlyGivenNames -underBinder -merge -useContext v18
    try clear_value v18
    extract_lets +onlyGivenNames -underBinder -merge -useContext v20
    have h_v20 : Keeps (elapse dt s0) v20 := by
      unfold v20
      refine Keeps.trans ?_ (kept_modTray _ _ _ _)
      exact h_v12
    try clear_value v20
    refine Keeps.ite (fun _ => ?_) (fun _ => ?_)
    · refine Keeps.trans ?_ (kept_trayFault _ _ _)
      refine Keeps.trans ?_ (kept_modTray _ _ _ _)
      exact h_v20
    · exact h_v20

theorem ends_execVfastFall (dt : Nat) (d : Nat) (s0 : State) : Ends (elapse dt s0) (execVfastFall dt d s0) := by
  unfold execVfastFall
  extract_lets +onlyGivenNames -underBinder -merge -useContext v0
  have h_v0 : Keeps (elapse dt s0) v0 := by
    unfold v0
    exact Keeps.refl _
  try clear_value v0
  refine Ends.done ?_
  refine Keeps.ite (fun _ => ?_) (fun _ => ?_)
  · exact h_v0
  · extract_lets +onlyGivenNames -underBinder -merge -useContext v10
    have h_v10 : Keeps (elapse dt s0) v10 := by
      unfold v10
      refine Keeps.trans ?_ (kept_stopKeeper _ _)
      refine Keeps.trans ?_ (kept_modDie _ _ _ (fun x => ?_))
      · exact h_v0
      · first | rfl | ((try dsimp only); (repeat' split) <;> rfl)
    try clear_value v10
    refine Keeps.ite (fun _ => ?_) (fun _ => ?_)
    · exact h_v10
    · extract_lets +onlyGivenNames -underBinder -merge -useContext v24
      have h_v24 : Keeps (elapse dt s0) v24 := by
        unfold v24
        refine Keeps.trans ?_ (kept_emergency _ _ _)
        exact h_v10
      try clear_value v24
      refine Keeps.ite (fun _ => ?_) (fun _ => ?_)
      · exact h_v24
      · refine Keeps.trans ?_ (kept_gondolaOut _ _)
        refine Keeps.trans ?_ (kept_noteOutOfService _ _ _)
        exact h_v24

theorem ends_execInputMismatchTimeout (dt : Nat) (d : Nat) (i : Nat) (s0 : State) : Ends (elapse dt s0) (execInputMismatchTimeout dt d i s0) := by
  unfold execInputMismatchTimeout
  extract_lets +onlyGivenNames -underBinder -merge -useContext v0
  have h_v0 : Keeps (elapse dt s0) v0 := by
    unfold v0
    exact Keeps.refl _
  try clear_value v0
  extract_lets +onlyGivenNames -underBinder -merge -useContext v5
  try clear_value v5
  refine Ends.done ?_
  split
  · exact h_v0
  · refine Keeps.ite (fun _ => ?_) (fun _ => ?_)
    · exact h_v0
    · refine Keeps.trans ?_ (kept_record _ _ _ _ _)
      refine Keeps.trans ?_ (kept_modTray _ _ _ _)
      exact h_v0

theorem ends_execWriteSuspendRelease (dt : Nat) (d : Nat) (s0 : State) : Ends (elapse dt s0) (execWriteSuspendRelease dt d s0) := by
  unfold execWriteSuspendRelease
  extract_lets +onlyGivenNames -underBinder -merge -useContext v0
  have h_v0 : Keeps (elapse dt s0) v0 := by
    unfold v0
    exact Keeps.refl _
  try clear_value v0
  refine Ends.done ?_
  split
  · exact h_v0
  · refine Keeps.ite (fun _ => ?_) (fun _ => ?_)
    · exact h_v0
    · extract_lets +onlyGivenNames -underBinder -merge -useContext v14
      have h_v14 : Keeps (elapse dt s0) v14 := by
        unfold v14
        refine Keeps.trans ?_ (kept_modDie _ _ _ (fun x => ?_))
        · exact h_v0
        · first | rfl | ((try dsimp only); (repeat' split) <;> rfl)
      try clear_value v14
      extract_lets +onlyGivenNames -underBinder -merge -useContext v23
      try clear_value v23
      refine Keeps.trans ?_ (kept_refreshError _ _)
      refine Keeps.trans ?_ (kept_endLosses _ _)
      refine Keeps.trans ?_ (kept_setSupply _ _ _)
      exact h_v14

theorem kept_refreshDiffers (i : Nat) (s0 : State) : Keeps s0 (refreshDiffers i s0) := by
  unfold refreshDiffers
  refine Keeps.foldl (fun s0 a => ?_) ?_
  · try beta_reduce
    extract_lets +onlyGivenNames -underBinder -merge -useContext v3
    try clear_value v3
    extract_lets +onlyGivenNames -underBinder -merge -useContext v5
    try clear_value v5
    extract_lets +onlyGivenNames -underBinder -merge -useContext v7
    try clear_value v7
    refine Keeps.trans ?_ (kept_modTray _ _ _ _)
    exact Keeps.refl _
  · exact Keeps.refl _

theorem ends_execTrayInputAccept (dt : Nat) (d : Nat) (i : Nat) (s0 : State) : Ends (elapse dt s0) (execTrayInputAccept dt d i s0) := by
  unfold execTrayInputAccept
  extract_lets +onlyGivenNames -underBinder -merge -useContext v0
  have h_v0 : Keeps (elapse dt s0) v0 := by
    unfold v0
    exact Keeps.refl _
  try clear_value v0
  extract_lets +onlyGivenNames -underBinder -merge -useContext v5
  try clear_value v5
  extract_lets +onlyGivenNames -underBinder -merge -useContext v7
  try clear_value v7
  refine Ends.done ?_
  refine Keeps.ite (fun _ => ?_) (fun _ => ?_)
  · exact h_v0
  · extract_lets +onlyGivenNames -underBinder -merge -useContext v14
    have h_v14 : Keeps (elapse dt s0) v14 := by
      unfold v14
      refine Keeps.trans ?_ (kept_refreshDiffers _ _)
      refine Keeps.trans ?_ (kept_modTray _ _ _ _)
      exact h_v0
    try clear_value v14
    refine Keeps.ite (fun _ => ?_) (fun _ => ?_)
    · exact h_v14
    · refine Keeps.trans ?_ (kept_trayFault _ _ _)
      exact h_v14

end Sys2Proof.Machine
end

