-- ==== Sys2Proof/Laws/Kept/Power.lean ====
section
/-!
SUPPORT. What the operations and commands of Machine/Power.lean keep (see Laws/Keeps.lean).
-/
namespace Sys2Proof.Machine

theorem kept_recomputeSlice (required : Bool) (k : Nat) (s0 : State) : Keeps s0 (recomputeSlice required k s0) := by
  unfold recomputeSlice
  refine Keeps.trans ?_ (kept_recomputeGroups _ _ _)
  exact Keeps.refl _

theorem kept_addPowerCode (s0 : State) : Keeps s0 (addPowerCode s0) := by
  unfold addPowerCode
  split
  · exact Keeps.refl _
  · extract_lets +onlyGivenNames -underBinder -merge -useContext v4
    have h_v4 : Keeps s0 v4 := by
      unfold v4
      refine Keeps.trans ?_ (kept_modSlice _ _ _)
      refine Keeps.update ?_
      exact Keeps.refl _
    try clear_value v4
    refine Keeps.trans ?_ (kept_recomputeSlice _ _ _)
    refine Keeps.trans ?_ (kept_addObj _ _ _)
    exact h_v4

theorem kept_weakSwap (k : Nat) (s0 : State) : Keeps s0 (weakSwap k s0) := by
  unfold weakSwap
  extract_lets +onlyGivenNames -underBinder -merge -useContext v0
  try clear_value v0
  extract_lets +onlyGivenNames -underBinder -merge -useContext v2
  try clear_value v2
  extract_lets +onlyGivenNames -underBinder -merge -useContext v4
  try clear_value v4
  extract_lets +onlyGivenNames -underBinder -merge -useContext v6
  try clear_value v6
  extract_lets +onlyGivenNames -underBinder -merge -useContext v8
  try clear_value v8
  extract_lets +onlyGivenNames -underBinder -merge -useContext v10
  try clear_value v10
  extract_lets +onlyGivenNames -underBinder -merge -useContext v12
  try clear_value v12
  extract_lets +onlyGivenNames -underBinder -merge -useContext v14
  try clear_value v14
  split
  · refine Keeps.ite (fun _ => ?_) (fun _ => ?_)
    · exact Keeps.refl _
    · refine Keeps.ite (fun _ => ?_) (fun _ => ?_)
      · exact Keeps.refl _
      · extract_lets +onlyGivenNames -underBinder -merge -useContext v26
        try clear_value v26
        extract_lets +onlyGivenNames -underBinder -merge -useContext v28
        try clear_value v28
        split
        · refine Keeps.trans ?_ (kept_publishSwap _ _ _ _ _)
          exact Keeps.refl _
        · refine Keeps.ite (fun _ => ?_) (fun _ => ?_)
          · refine Keeps.trans ?_ (kept_requestCommit _ _ _ _ _)
            refine Keeps.trans ?_ (kept_setOpen _ _ _)
            exact Keeps.refl _
          · refine Keeps.trans ?_ (kept_publishSwap _ _ _ _ _)
            exact Keeps.refl _
  · exact Keeps.refl _

theorem kept_lowerPhaseCap (f : Nat) (e : Nat) (s0 : State) : Keeps s0 (lowerPhaseCap f e s0) := by
  unfold lowerPhaseCap
  refine Keeps.ite (fun _ => ?_) (fun _ => ?_)
  · refine Keeps.trans ?_ (kept_goDark _ _)
    exact Keeps.refl _
  · refine Keeps.trans ?_ (kept_refreshErrors _)
    refine Keeps.trans ?_ (kept_modField _ _ _)
    exact Keeps.refl _

theorem kept_checkPhaseCurrents (fs : List Nat) (s0 : State) : Keeps s0 (checkPhaseCurrents fs s0) := by
  unfold checkPhaseCurrents
  refine Keeps.foldl (fun s0 a => ?_) ?_
  · try beta_reduce
    extract_lets +onlyGivenNames -underBinder -merge -useContext v3
    try clear_value v3
    extract_lets +onlyGivenNames -underBinder -merge -useContext v5
    try clear_value v5
    refine Keeps.ite (fun _ => ?_) (fun _ => ?_)
    · refine Keeps.trans ?_ (kept_recomputeGroup _ _ _)
      refine Keeps.trans ?_ (kept_lowerPhaseCap _ _ _)
      exact Keeps.refl _
    · exact Keeps.refl _
  · exact Keeps.refl _

theorem kept_powerOn (f : Nat) (s0 : State) : Keeps s0 (powerOn f s0) := by
  unfold powerOn
  extract_lets +onlyGivenNames -underBinder -merge -useContext v0
  try clear_value v0
  refine Keeps.ite (fun _ => ?_) (fun _ => ?_)
  · exact Keeps.refl _
  · extract_lets +onlyGivenNames -underBinder -merge -useContext v6
    have h_v6 : Keeps s0 v6 := by
      unfold v6
      refine Keeps.trans ?_ (kept_emit _ _)
      refine Keeps.trans ?_ (kept_holdField _ _ _)
      exact Keeps.refl _
    try clear_value v6
    extract_lets +onlyGivenNames -underBinder -merge -useContext v13
    have h_v13 : Keeps s0 v13 := by
      unfold v13
      refine Keeps.trans ?_ (kept_modField _ _ _)
      exact h_v6
    try clear_value v13
    extract_lets +onlyGivenNames -underBinder -merge -useContext v19
    have h_v19 : Keeps s0 v19 := by
      unfold v19
      refine Keeps.ite (fun _ => ?_) (fun _ => ?_)
      · refine Keeps.trans ?_ (kept_startKeeper _ _)
        exact h_v13
      · exact h_v13
    try clear_value v19
    extract_lets +onlyGivenNames -underBinder -merge -useContext v29
    have h_v29 : Keeps s0 v29 := by
      unfold v29
      refine Keeps.trans ?_ (kept_writeVoltage _ _ _)
      exact h_v19
    try clear_value v29
    extract_lets +onlyGivenNames -underBinder -merge -useContext v35
    try clear_value v35
    refine Keeps.ite (fun _ => ?_) (fun _ => ?_)
    · exact h_v29
    · refine Keeps.trans ?_ (kept_writeVoltage _ _ _)
      exact h_v29

theorem kept_completeCreation (k : Nat) (s0 : State) : Keeps s0 (completeCreation k s0) := by
  unfold completeCreation
  extract_lets +onlyGivenNames -underBinder -merge -useContext v0
  try clear_value v0
  refine Keeps.trans ?_ (kept_modSlice _ _ _)
  exact Keeps.refl _

theorem kept_endRamp (f : Nat) (s0 : State) : Keeps s0 (endRamp f s0) := by
  unfold endRamp
  extract_lets +onlyGivenNames -underBinder -merge -useContext v0
  have h_v0 : Keeps s0 v0 := by
    unfold v0
    refine Keeps.trans ?_ (kept_modField _ _ _)
    exact Keeps.refl _
  try clear_value v0
  extract_lets +onlyGivenNames -underBinder -merge -useContext v6
  have h_v6 : Keeps s0 v6 := by
    unfold v6
    refine Keeps.foldl (fun s0 a => ?_) ?_
    · try beta_reduce
      refine Keeps.trans ?_ (kept_refreshFreq _ _)
      exact Keeps.refl _
    · refine Keeps.trans ?_ (kept_setFieldFreq _ _ _)
      exact h_v0
  try clear_value v6
  extract_lets +onlyGivenNames -underBinder -merge -useContext v18
  have h_v18 : Keeps s0 v18 := by
    unfold v18
    refine Keeps.foldl (fun s0 a => ?_) ?_
    · try beta_reduce
      refine Keeps.trans ?_ (kept_modField _ _ _)
      exact Keeps.refl _
    · exact h_v6
  try clear_value v18
  extract_lets +onlyGivenNames -underBinder -merge -useContext v29
  have h_v29 : Keeps s0 v29 := by
    unfold v29
    refine Keeps.trans ?_ (kept_freeField _ _ _)
    refine Keeps.trans ?_ (kept_recomputeGroup _ _ _)
    exact h_v18
  try clear_value v29
  extract_lets +onlyGivenNames -underBinder -merge -useContext v36
  have h_v36 : Keeps s0 v36 := by
    unfold v36
    refine Keeps.foldl (fun s0 a => ?_) ?_
    · try beta_reduce
      refine Keeps.trans ?_ (kept_completeCreation _ _)
      exact Keeps.refl _
    · exact h_v29
  try clear_value v36
  refine Keeps.trans ?_ (kept_refreshErrors _)
  refine Keeps.trans ?_ (kept_refreshIdle _ _)
  refine Keeps.trans ?_ (kept_refreshReservoirs _ _)
  exact h_v36

theorem ends_execDroopCodeRelease (dt : Nat) (f : Nat) (s0 : State) : Ends (elapse dt s0) (execDroopCodeRelease dt f s0) := by
  unfold execDroopCodeRelease
  extract_lets +onlyGivenNames -underBinder -merge -useContext v0
  have h_v0 : Keeps (elapse dt s0) v0 := by
    unfold v0
    exact Keeps.refl _
  try clear_value v0
  extract_lets +onlyGivenNames -underBinder -merge -useContext v5
  try clear_value v5
  refine Ends.done ?_
  split
  · exact h_v0
  · refine Keeps.ite (fun _ => ?_) (fun _ => ?_)
    · exact h_v0
    · extract_lets +onlyGivenNames -underBinder -merge -useContext v16
      have h_v16 : Keeps (elapse dt s0) v16 := by
        unfold v16
        refine Keeps.trans ?_ (kept_modField _ _ _)
        exact h_v0
      try clear_value v16
      extract_lets +onlyGivenNames -underBinder -merge -useContext v22
      have h_v22 : Keeps (elapse dt s0) v22 := by
        unfold v22
        refine Keeps.foldl (fun s0 a => ?_) ?_
        · try beta_reduce
          refine Keeps.trans ?_ (kept_modSlice _ _ _)
          exact Keeps.refl _
        · exact h_v16
      try clear_value v22
      refine Keeps.trans ?_ (kept_recomputeGroup _ _ _)
      exact h_v22

theorem ends_execLoadNotice (dt : Nat) (m : Nat) (n : LoadNotice) (s0 : State) : Ends (elapse dt s0) (execLoadNotice dt m n s0) := by
  unfold execLoadNotice
  extract_lets +onlyGivenNames -underBinder -merge -useContext v0
  have h_v0 : Keeps (elapse dt s0) v0 := by
    unfold v0
    exact Keeps.refl _
  try clear_value v0
  extract_lets +onlyGivenNames -underBinder -merge -useContext v5
  try clear_value v5
  extract_lets +onlyGivenNames -underBinder -merge -useContext v7
  try clear_value v7
  extract_lets +onlyGivenNames -underBinder -merge -useContext v9
  refine Ends.done ?_
  refine Keeps.ite (fun _ => ?_) (fun _ => ?_)
  · refine Keeps.trans ?_ (kept_addObj _ _ _)
    exact h_v0
  · split
    · rename_i hq_
      have hk_ : Keeps (elapse dt s0) _ := Keeps.of_eq1 hq_ (by
        refine Keeps.trans ?_ (kept_takeNat _)
        exact h_v0
        )
      extract_lets +onlyGivenNames -underBinder -merge -useContext v23
      try clear_value v23
      extract_lets +onlyGivenNames -underBinder -merge -useContext v25
      try clear_value v25
      extract_lets +onlyGivenNames -underBinder -merge -useContext v27
      have h_v27 : Keeps (elapse dt s0) v27 := by
        unfold v27
        refine Keeps.foldl (fun s0 a => ?_) ?_
        · try beta_reduce
          refine Keeps.trans ?_ (kept_addObj _ _ _)
          refine Keeps.trans ?_ (kept_modField _ _ _)
          exact Keeps.refl _
        · exact hk_
      try clear_value v27
      refine Keeps.ite (fun _ => ?_) (fun _ => ?_)
      · refine Keeps.trans ?_ (kept_emit _ _)
        exact h_v27
      · refine Keeps.foldl (fun s0 a => ?_) ?_
        · try beta_reduce
          refine Keeps.trans ?_ (kept_emit _ _)
          exact Keeps.refl _
        · exact h_v27

theorem ends_execReservoirDischarge (dt : Nat) (f : Nat) (below : Nat) (s0 : State) : Ends (elapse dt s0) (execReservoirDischarge dt f below s0) := by
  unfold execReservoirDischarge
  extract_lets +onlyGivenNames -underBinder -merge -useContext v0
  have h_v0 : Keeps (elapse dt s0) v0 := by
    unfold v0
    exact Keeps.refl _
  try clear_value v0
  refine Ends.done ?_
  refine Keeps.ite (fun _ => ?_) (fun _ => ?_)
  · exact h_v0
  · refine Keeps.trans ?_ (kept_addObj _ _ _)
    refine Keeps.trans ?_ (kept_modField _ _ _)
    exact h_v0

theorem kept_screenStep (f : Nat) (e : Nat) (s0 : State) : Keeps s0 (screenStep f e s0) := by
  unfold screenStep
  extract_lets +onlyGivenNames -underBinder -merge -useContext v0
  refine Keeps.update ?_
  exact Keeps.refl _

theorem kept_settleGroup (fs : List Nat) (s0 : State) : Keeps s0 (settleGroup fs s0) := by
  unfold settleGroup
  refine Keeps.ite (fun _ => ?_) (fun _ => ?_)
  · exact Keeps.refl _
  · refine Keeps.foldl (fun s0 a => ?_) ?_
    · try beta_reduce
      refine Keeps.trans ?_ (kept_modField _ _ _)
      exact Keeps.refl _
    · exact Keeps.refl _

theorem ends_execRegulatorSettled (dt : Nat) (f : Nat) (s0 : State) : Ends (elapse dt s0) (execRegulatorSettled dt f s0) := by
  unfold execRegulatorSettled
  extract_lets +onlyGivenNames -underBinder -merge -useContext v0
  have h_v0 : Keeps (elapse dt s0) v0 := by
    unfold v0
    exact Keeps.refl _
  try clear_value v0
  refine Ends.done ?_
  split
  · exact h_v0
  · extract_lets +onlyGivenNames -underBinder -merge -useContext v10
    try clear_value v10
    extract_lets +onlyGivenNames -underBinder -merge -useContext v12
    try clear_value v12
    extract_lets +onlyGivenNames -underBinder -merge -useContext v14
    have h_v14 : Keeps (elapse dt s0) v14 := by
      unfold v14
      refine Keeps.trans ?_ (kept_modField _ _ _)
      exact h_v0
    try clear_value v14
    extract_lets +onlyGivenNames -underBinder -merge -useContext v20
    try clear_value v20
    extract_lets +onlyGivenNames -underBinder -merge -useContext v22
    have h_v22 : Keeps (elapse dt s0) v22 := by
      unfold v22
      refine Keeps.trans ?_ (kept_settleGroup _ _)
      refine Keeps.trans ?_ (kept_lowerVoltages _ _)
      refine Keeps.ite (fun _ => ?_) (fun _ => ?_)
      · refine Keeps.trans ?_ (kept_screenStep _ _ _)
        refine Keeps.trans ?_ (kept_discardMargin _ _)
        exact h_v14
      · exact h_v14
    try clear_value v22
    extract_lets +onlyGivenNames -underBinder -merge -useContext v35
    try clear_value v35
    refine Keeps.ite (fun _ => ?_) (fun _ => ?_)
    · refine Keeps.foldl (fun s0 a => ?_) ?_
      · try beta_reduce
        refine Keeps.trans ?_ (kept_weakSwap _ _)
        exact Keeps.refl _
      · exact h_v22
    · exact h_v22

theorem kept_phaseLoss (f : Nat) (n : Nat) (s0 : State) : Keeps s0 (phaseLoss f n s0) := by
  unfold phaseLoss
  extract_lets +onlyGivenNames -underBinder -merge -useContext v0
  try clear_value v0
  refine Keeps.ite (fun _ => ?_) (fun _ => ?_)
  · exact Keeps.refl _
  · refine Keeps.ite (fun _ => ?_) (fun _ => ?_)
    · refine Keeps.trans ?_ (kept_goDark _ _)
      exact Keeps.refl _
    · refine Keeps.trans ?_ (kept_lowerPhaseCap _ _ _)
      exact Keeps.refl _

theorem kept_readPhases (f : Nat) (s0 : State) : Keeps s0 (readPhases f s0) := by
  unfold readPhases
  extract_lets +onlyGivenNames -underBinder -merge -useContext v0
  try clear_value v0
  refine Keeps.ite (fun _ => ?_) (fun _ => ?_)
  · exact Keeps.refl _
  · extract_lets +onlyGivenNames -underBinder -merge -useContext v6
    try clear_value v6
    extract_lets +onlyGivenNames -underBinder -merge -useContext v8
    have h_v8 : Keeps s0 v8 := by
      unfold v8
      refine Keeps.trans ?_ (kept_modField _ _ _)
      exact Keeps.refl _
    try clear_value v8
    extract_lets +onlyGivenNames -underBinder -merge -useContext v14
    try clear_value v14
    extract_lets +onlyGivenNames -underBinder -merge -useContext v16
    have h_v16 : Keeps s0 v16 := by
      unfold v16
      refine Keeps.foldl (fun s0 a => ?_) ?_
      · try beta_reduce
        extract_lets +onlyGivenNames -underBinder -merge -useContext v22
        try clear_value v22
        refine Keeps.trans ?_ (kept_phaseLoss _ _ _)
        refine Keeps.trans ?_ (kept_raiseLocal _ _ _)
        exact Keeps.refl _
      · exact h_v8
    try clear_value v16
    refine Keeps.ite (fun _ => ?_) (fun _ => ?_)
    · exact h_v16
    · refine Keeps.trans ?_ (kept_recomputeGroup _ _ _)
      exact h_v16

theorem ends_execLnAlert (dt : Nat) (d : Nat) (vin : Nat) (s0 : State) : Ends (elapse dt s0) (execLnAlert dt d vin s0) := by
  unfold execLnAlert
  extract_lets +onlyGivenNames -underBinder -merge -useContext v0
  have h_v0 : Keeps (elapse dt s0) v0 := by
    unfold v0
    exact Keeps.refl _
  try clear_value v0
  extract_lets +onlyGivenNames -underBinder -merge -useContext v5
  have h_v5 : Keeps (elapse dt s0) v5 := by
    unfold v5
    refine Keeps.foldl (fun s0 a => ?_) ?_
    · try beta_reduce
      refine Keeps.trans ?_ (kept_readPhases _ _)
      exact Keeps.refl _
    · exact h_v0
  try clear_value v5
  refine Ends.done ?_
  refine Keeps.trans ?_ (kept_lowInput _ _ _)
  refine Keeps.trans ?_ (kept_modDie _ _ _ (fun x => ?_))
  · exact h_v5
  · first | rfl | ((try dsimp only); (repeat' split) <;> rfl)

theorem ends_execLnReservoirArm (dt : Nat) (d : Nat) (frame : BitVec 32) (s0 : State) : Ends (elapse dt s0) (execLnReservoirArm dt d frame s0) := by
  unfold execLnReservoirArm
  extract_lets +onlyGivenNames -underBinder -merge -useContext v0
  have h_v0 : Keeps (elapse dt s0) v0 := by
    unfold v0
    exact Keeps.refl _
  try clear_value v0
  refine Ends.done ?_
  split
  · refine Keeps.ite (fun _ => ?_) (fun _ => ?_)
    · exact h_v0
    · refine Keeps.foldl (fun s0 a => ?_) ?_
      · try beta_reduce
        refine Keeps.trans ?_ (kept_modField _ _ _)
        exact Keeps.refl _
      · exact h_v0
  · exact h_v0

theorem ends_execPhaseFailure (dt : Nat) (f : Nat) (phase : Nat) (s0 : State) : Ends (elapse dt s0) (execPhaseFailure dt f phase s0) := by
  unfold execPhaseFailure
  extract_lets +onlyGivenNames -underBinder -merge -useContext v0
  have h_v0 : Keeps (elapse dt s0) v0 := by
    unfold v0
    exact Keeps.refl _
  try clear_value v0
  refine Ends.done ?_
  refine Keeps.ite (fun _ => ?_) (fun _ => ?_)
  · exact h_v0
  · extract_lets +onlyGivenNames -underBinder -merge -useContext v10
    have h_v10 : Keeps (elapse dt s0) v10 := by
      unfold v10
      refine Keeps.trans ?_ (kept_modField _ _ _)
      exact h_v0
    try clear_value v10
    refine Keeps.trans ?_ (kept_wakeGondola _ _)
    refine Keeps.trans ?_ (kept_modDie _ _ _ (fun x => ?_))
    · exact h_v10
    · first | rfl | ((try dsimp only); (repeat' split) <;> rfl)

theorem ends_execLnLoadNotice (dt : Nat) (d : Nat) (frame : BitVec 32) (s0 : State) : Ends (elapse dt s0) (execLnLoadNotice dt d frame s0) := by
  unfold execLnLoadNotice
  extract_lets +onlyGivenNames -underBinder -merge -useContext v0
  have h_v0 : Keeps (elapse dt s0) v0 := by
    unfold v0
    exact Keeps.refl _
  try clear_value v0
  refine Ends.done ?_
  split
  · refine Keeps.ite (fun _ => ?_) (fun _ => ?_)
    · exact h_v0
    · refine Keeps.foldl (fun s0 a => ?_) ?_
      · try beta_reduce
        refine Keeps.trans ?_ (kept_modField _ _ _)
        exact Keeps.refl _
      · exact h_v0
  · exact h_v0

theorem ends_execReleaseGroup (dt : Nat) (f : Nat) (headroom : Nat) (s0 : State) : Ends (elapse dt s0) (execReleaseGroup dt f headroom s0) := by
  unfold execReleaseGroup
  extract_lets +onlyGivenNames -underBinder -merge -useContext v0
  have h_v0 : Keeps (elapse dt s0) v0 := by
    unfold v0
    exact Keeps.refl _
  try clear_value v0
  extract_lets +onlyGivenNames -underBinder -merge -useContext v5
  try clear_value v5
  extract_lets +onlyGivenNames -underBinder -merge -useContext v7
  try clear_value v7
  refine Ends.done ?_
  refine Keeps.ite (fun _ => ?_) (fun _ => ?_)
  · exact h_v0
  · extract_lets +onlyGivenNames -underBinder -merge -useContext v14
    have h_v14 : Keeps (elapse dt s0) v14 := by
      unfold v14
      refine Keeps.trans ?_ (kept_modField _ _ _)
      exact h_v0
    try clear_value v14
    refine Keeps.ite (fun _ => ?_) (fun _ => ?_)
    · exact h_v14
    · refine Keeps.trans ?_ (kept_endRamp _ _)
      exact h_v14

theorem ends_execStretchEnd (dt : Nat) (f : Nat) (s0 : State) : Ends (elapse dt s0) (execStretchEnd dt f s0) := by
  unfold execStretchEnd
  extract_lets +onlyGivenNames -underBinder -merge -useContext v0
  have h_v0 : Keeps (elapse dt s0) v0 := by
    unfold v0
    exact Keeps.refl _
  try clear_value v0
  extract_lets +onlyGivenNames -underBinder -merge -useContext v5
  try clear_value v5
  refine Ends.done ?_
  split
  · exact h_v0
  · refine Keeps.ite (fun _ => ?_) (fun _ => ?_)
    · exact h_v0
    · extract_lets +onlyGivenNames -underBinder -merge -useContext v16
      have h_v16 : Keeps (elapse dt s0) v16 := by
        unfold v16
        refine Keeps.ite (fun _ => ?_) (fun _ => ?_)
        · refine Keeps.update ?_
          exact h_v0
        · exact h_v0
      try clear_value v16
      refine Keeps.trans ?_ (kept_modField _ _ _)
      exact h_v16

theorem ends_execUndervoltageTimeout (dt : Nat) (f : Nat) (s0 : State) : Ends (elapse dt s0) (execUndervoltageTimeout dt f s0) := by
  unfold execUndervoltageTimeout
  extract_lets +onlyGivenNames -underBinder -merge -useContext v0
  have h_v0 : Keeps (elapse dt s0) v0 := by
    unfold v0
    exact Keeps.refl _
  try clear_value v0
  extract_lets +onlyGivenNames -underBinder -merge -useContext v5
  try clear_value v5
  refine Ends.done ?_
  refine Keeps.ite (fun _ => ?_) (fun _ => ?_)
  · refine Keeps.trans ?_ (kept_goDark _ _)
    exact h_v0
  · exact h_v0

theorem kept_removePowerCode (s0 : State) : Keeps s0 (removePowerCode s0) := by
  unfold removePowerCode
  split
  · refine Keeps.update ?_
    exact Keeps.refl _
  · extract_lets +onlyGivenNames -underBinder -merge -useContext v5
    have h_v5 : Keeps s0 v5 := by
      unfold v5
      refine Keeps.trans ?_ (kept_modSlice _ _ _)
      refine Keeps.update ?_
      exact Keeps.refl _
    try clear_value v5
    refine Keeps.trans ?_ (kept_recomputeSlice _ _ _)
    exact h_v5

theorem ends_execPowerSumTick (dt : Nat) (s0 : State) : Ends (elapse dt s0) (execPowerSumTick dt s0) := by
  unfold execPowerSumTick
  extract_lets +onlyGivenNames -underBinder -merge -useContext v0
  have h_v0 : Keeps (elapse dt s0) v0 := by
    unfold v0
    exact Keeps.refl _
  try clear_value v0
  extract_lets +onlyGivenNames -underBinder -merge -useContext v5
  try clear_value v5
  extract_lets +onlyGivenNames -underBinder -merge -useContext v7
  have h_v7 : Keeps (elapse dt s0) v7 := by
    unfold v7
    refine Keeps.update ?_
    exact h_v0
  try clear_value v7
  extract_lets +onlyGivenNames -underBinder -merge -useContext v13
  try clear_value v13
  extract_lets +onlyGivenNames -underBinder -merge -useContext v15
  try clear_value v15
  extract_lets +onlyGivenNames -underBinder -merge -useContext v17
  try clear_value v17
  extract_lets +onlyGivenNames -underBinder -merge -useContext v19
  try clear_value v19
  extract_lets +onlyGivenNames -underBinder -merge -useContext v21
  try clear_value v21
  extract_lets +onlyGivenNames -underBinder -merge -useContext v23
  have h_v23 : Keeps (elapse dt s0) v23 := by
    unfold v23
    refine Keeps.ite (fun _ => ?_) (fun _ => ?_)
    · refine Keeps.update ?_
      exact h_v7
    · split
      · refine Keeps.trans ?_ (kept_addPowerCode _)
        refine Keeps.update ?_
        exact h_v7
      · refine Keeps.ite (fun _ => ?_) (fun _ => ?_)
        · refine Keeps.trans ?_ (kept_addPowerCode _)
          refine Keeps.update ?_
          exact h_v7
        · exact h_v7
  try clear_value v23
  extract_lets +onlyGivenNames -underBinder -merge -useContext v45
  have h_v45 : Keeps (elapse dt s0) v45 := by
    unfold v45
    refine Keeps.ite (fun _ => ?_) (fun _ => ?_)
    · refine Keeps.update ?_
      exact h_v23
    · split
      · refine Keeps.update ?_
        exact h_v23
      · refine Keeps.ite (fun _ => ?_) (fun _ => ?_)
        · refine Keeps.trans ?_ (kept_removePowerCode _)
          refine Keeps.update ?_
          exact h_v23
        · exact h_v23
  try clear_value v45
  refine Ends.done ?_
  refine Keeps.update ?_
  exact h_v45

theorem ends_execLnReservoirDisarm (dt : Nat) (d : Nat) (frame : BitVec 32) (s0 : State) : Ends (elapse dt s0) (execLnReservoirDisarm dt d frame s0) := by
  unfold execLnReservoirDisarm
  extract_lets +onlyGivenNames -underBinder -merge -useContext v0
  have h_v0 : Keeps (elapse dt s0) v0 := by
    unfold v0
    exact Keeps.refl _
  try clear_value v0
  refine Ends.done ?_
  split
  · refine Keeps.ite (fun _ => ?_) (fun _ => ?_)
    · exact h_v0
    · refine Keeps.foldl (fun s0 a => ?_) ?_
      · try beta_reduce
        refine Keeps.trans ?_ (kept_modField _ _ _)
        exact Keeps.refl _
      · exact h_v0
  · exact h_v0

theorem ends_execReservoirRechargeEnd (dt : Nat) (f : Nat) (s0 : State) : Ends (elapse dt s0) (execReservoirRechargeEnd dt f s0) := by
  unfold execReservoirRechargeEnd
  extract_lets +onlyGivenNames -underBinder -merge -useContext v0
  have h_v0 : Keeps (elapse dt s0) v0 := by
    unfold v0
    exact Keeps.refl _
  try clear_value v0
  extract_lets +onlyGivenNames -underBinder -merge -useContext v5
  try clear_value v5
  refine Ends.done ?_
  refine Keeps.ite (fun _ => ?_) (fun _ => ?_)
  · exact h_v0
  · refine Keeps.trans ?_ (kept_refreshReservoirs _ _)
    refine Keeps.trans ?_ (kept_modField _ _ _)
    exact h_v0

theorem ends_execRampHeadroomTimeout (dt : Nat) (f : Nat) (s0 : State) : Ends (elapse dt s0) (execRampHeadroomTimeout dt f s0) := by
  unfold execRampHeadroomTimeout
  extract_lets +onlyGivenNames -underBinder -merge -useContext v0
  have h_v0 : Keeps (elapse dt s0) v0 := by
    unfold v0
    exact Keeps.refl _
  try clear_value v0
  extract_lets +onlyGivenNames -underBinder -merge -useContext v5
  try clear_value v5
  refine Ends.done ?_
  refine Keeps.ite (fun _ => ?_) (fun _ => ?_)
  · exact h_v0
  · extract_lets +onlyGivenNames -underBinder -merge -useContext v12
    have h_v12 : Keeps (elapse dt s0) v12 := by
      unfold v12
      refine Keeps.trans ?_ (kept_modField _ _ _)
      exact h_v0
    try clear_value v12
    split
    · refine Keeps.trans ?_ (kept_addObj _ _ _)
      exact h_v12
    · extract_lets +onlyGivenNames -underBinder -merge -useContext v23
      try clear_value v23
      refine Keeps.trans ?_ (kept_recomputeGroup _ _ _)
      refine Keeps.foldl (fun s0 a => ?_) ?_
      · try beta_reduce
        refine Keeps.trans ?_ (kept_modField _ _ _)
        exact Keeps.refl _
      · exact h_v12

theorem ends_execDroopTrip (dt : Nat) (f : Nat) (s0 : State) : Ends (elapse dt s0) (execDroopTrip dt f s0) := by
  unfold execDroopTrip
  extract_lets +onlyGivenNames -underBinder -merge -useContext v0
  have h_v0 : Keeps (elapse dt s0) v0 := by
    unfold v0
    exact Keeps.refl _
  try clear_value v0
  extract_lets +onlyGivenNames -underBinder -merge -useContext v5
  try clear_value v5
  refine Ends.done ?_
  refine Keeps.ite (fun _ => ?_) (fun _ => ?_)
  · exact h_v0
  · extract_lets +onlyGivenNames -underBinder -merge -useContext v12
    try clear_value v12
    extract_lets +onlyGivenNames -underBinder -merge -useContext v14
    have h_v14 : Keeps (elapse dt s0) v14 := by
      unfold v14
      refine Keeps.ite (fun _ => ?_) (fun _ => ?_)
      · refine Keeps.update ?_
        exact h_v0
      · exact h_v0
    try clear_value v14
    refine Keeps.ite (fun _ => ?_) (fun _ => ?_)
    · exact h_v14
    · refine Keeps.trans ?_ (kept_addObj _ _ _)
      refine Keeps.trans ?_ (kept_discardMargin _ _)
      refine Keeps.trans ?_ (kept_modField _ _ _)
      exact h_v14

theorem ends_execIdleHoldExpiry (dt : Nat) (f : Nat) (s0 : State) : Ends (elapse dt s0) (execIdleHoldExpiry dt f s0) := by
  unfold execIdleHoldExpiry
  extract_lets +onlyGivenNames -underBinder -merge -useContext v0
  have h_v0 : Keeps (elapse dt s0) v0 := by
    unfold v0
    exact Keeps.refl _
  try clear_value v0
  extract_lets +onlyGivenNames -underBinder -merge -useContext v5
  try clear_value v5
  extract_lets +onlyGivenNames -underBinder -merge -useContext v7
  try clear_value v7
  refine Ends.done ?_
  refine Keeps.ite (fun _ => ?_) (fun _ => ?_)
  · exact h_v0
  · split
    · exact h_v0
    · refine Keeps.ite (fun _ => ?_) (fun _ => ?_)
      · exact h_v0
      · refine Keeps.trans ?_ (kept_requestCommit _ _ _ _ _)
        exact h_v0

theorem ends_execStretchDutyWindow (dt : Nat) (f : Nat) (s0 : State) : Ends (elapse dt s0) (execStretchDutyWindow dt f s0) := by
  unfold execStretchDutyWindow
  extract_lets +onlyGivenNames -underBinder -merge -useContext v0
  have h_v0 : Keeps (elapse dt s0) v0 := by
    unfold v0
    exact Keeps.refl _
  try clear_value v0
  extract_lets +onlyGivenNames -underBinder -merge -useContext v5
  try clear_value v5
  extract_lets +onlyGivenNames -underBinder -merge -useContext v7
  try clear_value v7
  extract_lets +onlyGivenNames -underBinder -merge -useContext v9
  try clear_value v9
  refine Ends.done ?_
  refine Keeps.ite (fun _ => ?_) (fun _ => ?_)
  · exact h_v0
  · extract_lets +onlyGivenNames -underBinder -merge -useContext v16
    try clear_value v16
    extract_lets +onlyGivenNames -underBinder -merge -useContext v18
    try clear_value v18
    extract_lets +onlyGivenNames -underBinder -merge -useContext v20
    try clear_value v20
    extract_lets +onlyGivenNames -underBinder -merge -useContext v22
    have h_v22 : Keeps (elapse dt s0) v22 := by
      unfold v22
      refine Keeps.trans ?_ (kept_modField _ _ _)
      exact h_v0
    try clear_value v22
    refine Keeps.ite (fun _ => ?_) (fun _ => ?_)
    · exact h_v22
    · extract_lets +onlyGivenNames -underBinder -merge -useContext v32
      try clear_value v32
      extract_lets +onlyGivenNames -underBinder -merge -useContext v34
      try clear_value v34
      extract_lets +onlyGivenNames -underBinder -merge -useContext v36
      have h_v36 : Keeps (elapse dt s0) v36 := by
        unfold v36
        refine Keeps.foldl (fun s0 a => ?_) ?_
        · try beta_reduce
          refine Keeps.trans ?_ (kept_modSlice _ _ _)
          exact Keeps.refl _
        · exact h_v22
      try clear_value v36
      extract_lets +onlyGivenNames -underBinder -merge -useContext v47
      try clear_value v47
      extract_lets +onlyGivenNames -underBinder -merge -useContext v49
      have h_v49 : Keeps (elapse dt s0) v49 := by
        unfold v49
        refine Keeps.trans ?_ (kept_raise _ _ _)
        refine Keeps.trans ?_ (kept_addObj _ _ _)
        exact h_v36
      try clear_value v49
      refine Keeps.trans ?_ (kept_recomputeGroup _ _ _)
      exact h_v49

theorem ends_execLoadStep (dt : Nat) (f : Nat) (rise : Nat) (within : Nat) (s0 : State) : Ends (elapse dt s0) (execLoadStep dt f rise within s0) := by
  unfold execLoadStep
  extract_lets +onlyGivenNames -underBinder -merge -useContext v0
  have h_v0 : Keeps (elapse dt s0) v0 := by
    unfold v0
    exact Keeps.refl _
  try clear_value v0
  extract_lets +onlyGivenNames -underBinder -merge -useContext v5
  try clear_value v5
  refine Ends.done ?_
  refine Keeps.ite (fun _ => ?_) (fun _ => ?_)
  · exact h_v0
  · refine Keeps.trans ?_ (kept_addObj _ _ _)
    exact h_v0

theorem kept_writeBack (f : Nat) (s0 : State) : Keeps s0 (writeBack f s0) := by
  unfold writeBack
  extract_lets +onlyGivenNames -underBinder -merge -useContext v0
  try clear_value v0
  extract_lets +onlyGivenNames -underBinder -merge -useContext v2
  try clear_value v2
  refine Keeps.ite (fun _ => ?_) (fun _ => ?_)
  · refine Keeps.trans ?_ (kept_modField _ _ _)
    exact Keeps.refl _
  · extract_lets +onlyGivenNames -underBinder -merge -useContext v9
    try clear_value v9
    extract_lets +onlyGivenNames -underBinder -merge -useContext v11
    have h_v11 : Keeps s0 v11 := by
      unfold v11
      refine Keeps.ite (fun _ => ?_) (fun _ => ?_)
      · exact Keeps.refl _
      · refine Keeps.trans ?_ (kept_discardMargin _ _)
        refine Keeps.trans ?_ (kept_emit _ _)
        exact Keeps.refl _
    try clear_value v11
    refine Keeps.trans ?_ (kept_modField _ _ _)
    exact h_v11

theorem ends_execSettleTimeout (dt : Nat) (f : Nat) (s0 : State) : Ends (elapse dt s0) (execSettleTimeout dt f s0) := by
  unfold execSettleTimeout
  extract_lets +onlyGivenNames -underBinder -merge -useContext v0
  have h_v0 : Keeps (elapse dt s0) v0 := by
    unfold v0
    exact Keeps.refl _
  try clear_value v0
  extract_lets +onlyGivenNames -underBinder -merge -useContext v5
  try clear_value v5
  refine Ends.done ?_
  refine Keeps.ite (fun _ => ?_) (fun _ => ?_)
  · exact h_v0
  · extract_lets +onlyGivenNames -underBinder -merge -useContext v12
    try clear_value v12
    extract_lets +onlyGivenNames -underBinder -merge -useContext v14
    try clear_value v14
    extract_lets +onlyGivenNames -underBinder -merge -useContext v16
    have h_v16 : Keeps (elapse dt s0) v16 := by
      unfold v16
      refine Keeps.foldl (fun s0 a => ?_) ?_
      · try beta_reduce
        refine Keeps.trans ?_ (kept_writeBack _ _)
        exact Keeps.refl _
      · refine Keeps.trans ?_ (kept_addObj _ _ _)
        exact h_v0
    try clear_value v16
    refine Keeps.foldl (fun s0 a => ?_) ?_
    · try beta_reduce
      split
      · exact Keeps.refl _
      · extract_lets +onlyGivenNames -underBinder -merge -useContext v35
        try clear_value v35
        extract_lets +onlyGivenNames -underBinder -merge -useContext v37
        have h_v37 : Keeps s0 v37 := by
          unfold v37
          refine Keeps.trans ?_ (kept_modSlice _ _ _)
          exact Keeps.refl _
        try clear_value v37
        refine Keeps.trans ?_ (kept_setSobjs _ _ _)
        exact h_v37
    · exact h_v16

end Sys2Proof.Machine
end

