-- ==== Sys2Proof/Laws/Kept/Thermal.lean ====
section
/-!
SUPPORT. What the operations and commands of Machine/Thermal.lean keep (see Laws/Keeps.lean).
-/
namespace Sys2Proof.Machine

theorem kept_chargeCore (k : Nat) (micro : Nat) (s0 : State) : Keeps s0 (chargeCore k micro s0) := by
  unfold chargeCore
  refine Keeps.trans ?_ (kept_modSlice _ _ _)
  exact Keeps.refl _

theorem kept_chargeDram (k : Nat) (micro : Nat) (s0 : State) : Keeps s0 (chargeDram k micro s0) := by
  unfold chargeDram
  refine Keeps.trans ?_ (kept_modSlice _ _ _)
  exact Keeps.refl _

theorem kept_chargeDie (energy : Nat) (moved : List (Nat × Nat)) (s0 : State) : Keeps s0 (chargeDie energy moved s0) := by
  unfold chargeDie
  extract_lets +onlyGivenNames -underBinder -merge -useContext v0
  try clear_value v0
  extract_lets +onlyGivenNames -underBinder -merge -useContext v2
  try clear_value v2
  extract_lets +onlyGivenNames -underBinder -merge -useContext v4
  try clear_value v4
  extract_lets +onlyGivenNames -underBinder -merge -useContext v6
  have h_v6 : Keeps s0 v6 := by
    unfold v6
    refine Keeps.foldl (fun s0 a => ?_) ?_
    · try beta_reduce
      refine Keeps.trans ?_ (kept_chargeDram _ _ _)
      exact Keeps.refl _
    · exact Keeps.refl _
  try clear_value v6
  refine Keeps.trans ?_ (kept_addObj _ _ _)
  exact h_v6

theorem kept_chargeField (f : Nat) (energy : Nat) (work : List Activity) (total : Nat) (s0 : State) : Keeps s0 (chargeField f energy work total s0) := by
  unfold chargeField
  extract_lets +onlyGivenNames -underBinder -merge -useContext v0
  try clear_value v0
  extract_lets +onlyGivenNames -underBinder -merge -useContext v2
  extract_lets +onlyGivenNames -underBinder -merge -useContext v3
  try clear_value v3
  extract_lets +onlyGivenNames -underBinder -merge -useContext v5
  try clear_value v5
  extract_lets +onlyGivenNames -underBinder -merge -useContext v7
  have h_v7 : Keeps s0 v7 := by
    unfold v7
    refine Keeps.foldl (fun s0 a => ?_) ?_
    · try beta_reduce
      refine Keeps.trans ?_ (kept_chargeCore _ _ _)
      exact Keeps.refl _
    · exact Keeps.refl _
  try clear_value v7
  refine Keeps.trans ?_ (kept_addObj _ _ _)
  exact h_v7

theorem kept_modThermal (d : Nat) (f : Thermal → Thermal) (s0 : State) : Keeps s0 (modThermal d f s0) := by
  unfold modThermal
  refine Keeps.trans ?_ (kept_modDie _ _ _ (fun x => ?_))
  · exact Keeps.refl _
  · first | rfl | ((try dsimp only); (repeat' split) <;> rfl)

theorem kept_enterReading (d : Nat) (raw : Int) (flagged : Bool) (s0 : State) : Keeps s0 (enterReading d raw flagged s0) := by
  unfold enterReading
  extract_lets +onlyGivenNames -underBinder -merge -useContext v0
  try clear_value v0
  extract_lets +onlyGivenNames -underBinder -merge -useContext v2
  extract_lets +onlyGivenNames -underBinder -merge -useContext v3
  try clear_value v3
  extract_lets +onlyGivenNames -underBinder -merge -useContext v5
  try clear_value v5
  extract_lets +onlyGivenNames -underBinder -merge -useContext v7
  try clear_value v7
  extract_lets +onlyGivenNames -underBinder -merge -useContext v9
  try clear_value v9
  extract_lets +onlyGivenNames -underBinder -merge -useContext v11
  try clear_value v11
  extract_lets +onlyGivenNames -underBinder -merge -useContext v13
  try clear_value v13
  extract_lets +onlyGivenNames -underBinder -merge -useContext v15
  try clear_value v15
  extract_lets +onlyGivenNames -underBinder -merge -useContext v17
  try clear_value v17
  extract_lets +onlyGivenNames -underBinder -merge -useContext v19
  try clear_value v19
  extract_lets +onlyGivenNames -underBinder -merge -useContext v21
  try clear_value v21
  extract_lets +onlyGivenNames -underBinder -merge -useContext v23
  try clear_value v23
  extract_lets +onlyGivenNames -underBinder -merge -useContext v25
  try clear_value v25
  refine Keeps.trans ?_ (kept_modThermal _ _ _)
  exact Keeps.refl _

theorem kept_thermalStop (d : Nat) (s0 : State) : Keeps s0 (thermalStop d s0) := by
  unfold thermalStop
  refine Keeps.trans ?_ (kept_modThermal _ _ _)
  exact Keeps.refl _

theorem kept_setThermalState (d : Nat) (new : Nat) (s0 : State) : Keeps s0 (setThermalState d new s0) := by
  unfold setThermalState
  extract_lets +onlyGivenNames -underBinder -merge -useContext v0
  try clear_value v0
  extract_lets +onlyGivenNames -underBinder -merge -useContext v2
  have h_v2 : Keeps s0 v2 := by
    unfold v2
    refine Keeps.trans ?_ (kept_modThermal _ _ _)
    exact Keeps.refl _
  try clear_value v2
  refine Keeps.ite (fun _ => ?_) (fun _ => ?_)
  · exact h_v2
  · extract_lets +onlyGivenNames -underBinder -merge -useContext v12
    extract_lets +onlyGivenNames -underBinder -merge -useContext v13
    try clear_value v13
    extract_lets +onlyGivenNames -underBinder -merge -useContext v15
    have h_v15 : Keeps s0 v15 := by
      unfold v15
      refine Keeps.trans ?_ (kept_modThermal _ _ _)
      exact h_v2
    try clear_value v15
    refine Keeps.trans ?_ (kept_refreshErrors _)
    refine Keeps.trans ?_ (kept_record _ _ _ _ _)
    exact h_v15

theorem kept_setThermalCap (d : Nat) (cap : Nat) (s0 : State) : Keeps s0 (setThermalCap d cap s0) := by
  unfold setThermalCap
  extract_lets +onlyGivenNames -underBinder -merge -useContext v0
  try clear_value v0
  refine Keeps.ite (fun _ => ?_) (fun _ => ?_)
  · exact Keeps.refl _
  · extract_lets +onlyGivenNames -underBinder -merge -useContext v6
    have h_v6 : Keeps s0 v6 := by
      unfold v6
      refine Keeps.trans ?_ (kept_modThermal _ _ _)
      exact Keeps.refl _
    try clear_value v6
    refine Keeps.trans ?_ (kept_recomputeGroups _ _ _)
    exact h_v6

theorem kept_evaluateThermal (d : Nat) (s0 : State) : Keeps s0 (evaluateThermal d s0) := by
  unfold evaluateThermal
  extract_lets +onlyGivenNames -underBinder -merge -useContext v0
  try clear_value v0
  extract_lets +onlyGivenNames -underBinder -merge -useContext v2
  have h_v2 : Keeps s0 v2 := by
    unfold v2
    refine Keeps.trans ?_ (kept_modThermal _ _ _)
    exact Keeps.refl _
  try clear_value v2
  extract_lets +onlyGivenNames -underBinder -merge -useContext v8
  try clear_value v8
  extract_lets +onlyGivenNames -underBinder -merge -useContext v10
  try clear_value v10
  extract_lets +onlyGivenNames -underBinder -merge -useContext v12
  try clear_value v12
  extract_lets +onlyGivenNames -underBinder -merge -useContext v14
  try clear_value v14
  extract_lets +onlyGivenNames -underBinder -merge -useContext v16
  try clear_value v16
  extract_lets +onlyGivenNames -underBinder -merge -useContext v18
  try clear_value v18
  extract_lets +onlyGivenNames -underBinder -merge -useContext v20
  try clear_value v20
  extract_lets +onlyGivenNames -underBinder -merge -useContext v22
  try clear_value v22
  extract_lets +onlyGivenNames -underBinder -merge -useContext v24
  try clear_value v24
  extract_lets +onlyGivenNames -underBinder -merge -useContext v26
  try clear_value v26
  extract_lets +onlyGivenNames -underBinder -merge -useContext v28
  have h_v28 : Keeps s0 v28 := by
    unfold v28
    refine Keeps.trans ?_ (kept_modThermal _ _ _)
    exact h_v2
  try clear_value v28
  extract_lets +onlyGivenNames -underBinder -merge -useContext v34
  have h_v34 : Keeps s0 v34 := by
    unfold v34
    refine Keeps.ite (fun _ => ?_) (fun _ => ?_)
    · refine Keeps.trans ?_ (kept_setThermalCap _ _ _)
      exact h_v28
    · refine Keeps.ite (fun _ => ?_) (fun _ => ?_)
      · refine Keeps.trans ?_ (kept_setThermalCap _ _ _)
        exact h_v28
      · refine Keeps.ite (fun _ => ?_) (fun _ => ?_)
        · refine Keeps.trans ?_ (kept_setThermalCap _ _ _)
          exact h_v28
        · exact h_v28
  try clear_value v34
  extract_lets +onlyGivenNames -underBinder -merge -useContext v54
  have h_v54 : Keeps s0 v54 := by
    unfold v54
    refine Keeps.ite (fun _ => ?_) (fun _ => ?_)
    · refine Keeps.trans ?_ (kept_orderly _ _ _)
      refine Keeps.trans ?_ (kept_thermalStop _ _)
      exact h_v34
    · exact h_v34
  try clear_value v54
  extract_lets +onlyGivenNames -underBinder -merge -useContext v65
  have h_v65 : Keeps s0 v65 := by
    unfold v65
    refine Keeps.ite (fun _ => ?_) (fun _ => ?_)
    · refine Keeps.trans ?_ (kept_emergency _ _ _)
      refine Keeps.trans ?_ (kept_thermalStop _ _)
      exact h_v54
    · exact h_v54
  try clear_value v65
  extract_lets +onlyGivenNames -underBinder -merge -useContext v76
  try clear_value v76
  extract_lets +onlyGivenNames -underBinder -merge -useContext v78
  try clear_value v78
  refine Keeps.trans ?_ (kept_setThermalState _ _ _)
  exact h_v65

theorem ends_execEnergyIntegration (dt : Nat) (d : Nat) (rails : List RailReading) (dram : List RailReading) (work : List Activity) (total : List (Nat × Nat)) (moved : List (Nat × Nat)) (s0 : State) : Ends (elapse dt s0) (execEnergyIntegration dt d rails dram work total moved s0) := by
  unfold execEnergyIntegration
  extract_lets +onlyGivenNames -underBinder -merge -useContext v0
  have h_v0 : Keeps (elapse dt s0) v0 := by
    unfold v0
    exact Keeps.refl _
  try clear_value v0
  extract_lets +onlyGivenNames -underBinder -merge -useContext v5
  have h_v5 : Keeps (elapse dt s0) v5 := by
    unfold v5
    refine Keeps.foldl (fun s0 a => ?_) ?_
    · try beta_reduce
      extract_lets +onlyGivenNames -underBinder -merge -useContext v11
      try clear_value v11
      extract_lets +onlyGivenNames -underBinder -merge -useContext v13
      try clear_value v13
      extract_lets +onlyGivenNames -underBinder -merge -useContext v15
      try clear_value v15
      extract_lets +onlyGivenNames -underBinder -merge -useContext v17
      have h_v17 : Keeps s0 v17 := by
        unfold v17
        refine Keeps.trans ?_ (kept_modField _ _ _)
        exact Keeps.refl _
      try clear_value v17
      extract_lets +onlyGivenNames -underBinder -merge -useContext v23
      try clear_value v23
      refine Keeps.trans ?_ (kept_addObj _ _ _)
      refine Keeps.trans ?_ (kept_chargeField _ _ _ _ _)
      exact h_v17
    · exact h_v0
  try clear_value v5
  extract_lets +onlyGivenNames -underBinder -merge -useContext v31
  try clear_value v31
  extract_lets +onlyGivenNames -underBinder -merge -useContext v33
  have h_v33 : Keeps (elapse dt s0) v33 := by
    unfold v33
    refine Keeps.trans ?_ (kept_modDie _ _ _ (fun x => ?_))
    · exact h_v5
    · first | rfl | ((try dsimp only); (repeat' split) <;> rfl)
  try clear_value v33
  refine Ends.done ?_
  refine Keeps.trans ?_ (kept_addObj _ _ _)
  refine Keeps.trans ?_ (kept_chargeDie _ _ _)
  exact h_v33

theorem ends_execThermalCapRise (dt : Nat) (d : Nat) (s0 : State) : Ends (elapse dt s0) (execThermalCapRise dt d s0) := by
  unfold execThermalCapRise
  extract_lets +onlyGivenNames -underBinder -merge -useContext v0
  have h_v0 : Keeps (elapse dt s0) v0 := by
    unfold v0
    exact Keeps.refl _
  try clear_value v0
  extract_lets +onlyGivenNames -underBinder -merge -useContext v5
  try clear_value v5
  refine Ends.done ?_
  split
  · exact h_v0
  · refine Keeps.ite (fun _ => ?_) (fun _ => ?_)
    · exact h_v0
    · extract_lets +onlyGivenNames -underBinder -merge -useContext v16
      have h_v16 : Keeps (elapse dt s0) v16 := by
        unfold v16
        refine Keeps.trans ?_ (kept_setThermalCap _ _ _)
        refine Keeps.trans ?_ (kept_modThermal _ _ _)
        exact h_v0
      try clear_value v16
      refine Keeps.ite (fun _ => ?_) (fun _ => ?_)
      · refine Keeps.trans ?_ (kept_setThermalState _ _ _)
        exact h_v16
      · exact h_v16

theorem ends_execDiodeReading (dt : Nat) (d : Nat) (raw : Int) (flagged : Bool) (s0 : State) : Ends (elapse dt s0) (execDiodeReading dt d raw flagged s0) := by
  unfold execDiodeReading
  refine Ends.done ?_
  refine Keeps.trans ?_ (kept_evaluateThermal _ _)
  refine Keeps.trans ?_ (kept_enterReading _ _ _ _)
  exact Keeps.refl _

theorem ends_execSensorFaultTimeout (dt : Nat) (d : Nat) (s0 : State) : Ends (elapse dt s0) (execSensorFaultTimeout dt d s0) := by
  unfold execSensorFaultTimeout
  extract_lets +onlyGivenNames -underBinder -merge -useContext v0
  have h_v0 : Keeps (elapse dt s0) v0 := by
    unfold v0
    exact Keeps.refl _
  try clear_value v0
  refine Ends.done ?_
  split
  · exact h_v0
  · refine Keeps.ite (fun _ => ?_) (fun _ => ?_)
    · exact h_v0
    · refine Keeps.trans ?_ (kept_setThermalState _ _ _)
      refine Keeps.trans ?_ (kept_orderly _ _ _)
      refine Keeps.trans ?_ (kept_thermalStop _ _)
      exact h_v0

end Sys2Proof.Machine
end

