-- ==== Sys2Proof/Laws/Kept/TimeBase.lean ====
section
/-!
SUPPORT. What the operations and commands of Machine/TimeBase.lean keep (see Laws/Keeps.lean).
-/
namespace Sys2Proof.Machine

theorem kept_dropReference (d : Nat) (s0 : State) : Keeps s0 (dropReference d s0) := by
  unfold dropReference
  split
  · rename_i hq_
    have hk_ : Keeps s0 _ := Keeps.of_eq1 hq_ (by
      refine Keeps.trans ?_ (kept_takeNat _)
      exact Keeps.refl _
      )
    refine Keeps.foldl (fun s0 a => ?_) ?_
    · try beta_reduce
      refine Keeps.trans ?_ (kept_modKeeper _ _ _)
      refine Keeps.trans ?_ (kept_stopKeeper _ _)
      exact Keeps.refl _
    · exact hk_

theorem kept_modChange (id : Nat) (f : Change → Change) (s0 : State) : Keeps s0 (modChange id f s0) := by
  unfold modChange
  refine Keeps.update ?_
  exact Keeps.refl _

theorem ends_execChangeAcknowledge (dt : Nat) (id : Nat) (f : Nat) (s0 : State) : Ends (elapse dt s0) (execChangeAcknowledge dt id f s0) := by
  unfold execChangeAcknowledge
  extract_lets +onlyGivenNames -underBinder -merge -useContext v0
  have h_v0 : Keeps (elapse dt s0) v0 := by
    unfold v0
    exact Keeps.refl _
  try clear_value v0
  refine Ends.done ?_
  refine Keeps.trans ?_ (kept_modChange _ _ _)
  exact h_v0

theorem ends_execFrequencyChangeRequest (dt : Nat) (k : Nat) (mask : Nat) (code : Nat) (s0 : State) : Ends (elapse dt s0) (execFrequencyChangeRequest dt k mask code s0) := by
  unfold execFrequencyChangeRequest
  extract_lets +onlyGivenNames -underBinder -merge -useContext v0
  have h_v0 : Keeps (elapse dt s0) v0 := by
    unfold v0
    exact Keeps.refl _
  try clear_value v0
  refine Ends.done ?_
  refine Keeps.ite (fun _ => ?_) (fun _ => ?_)
  · refine Keeps.ite (fun _ => ?_) (fun _ => ?_)
    · exact h_v0
    · refine Keeps.trans ?_ (kept_scheduleChange _ _ _ _ _)
      exact h_v0
  · refine Keeps.ite (fun _ => ?_) (fun _ => ?_)
    · extract_lets +onlyGivenNames -underBinder -merge -useContext v17
      try clear_value v17
      refine Keeps.trans ?_ (kept_scheduleChange _ _ _ _ _)
      exact h_v0
    · exact h_v0

theorem ends_execChangeAckDeadline (dt : Nat) (id : Nat) (s0 : State) : Ends (elapse dt s0) (execChangeAckDeadline dt id s0) := by
  unfold execChangeAckDeadline
  extract_lets +onlyGivenNames -underBinder -merge -useContext v0
  have h_v0 : Keeps (elapse dt s0) v0 := by
    unfold v0
    exact Keeps.refl _
  try clear_value v0
  refine Ends.done ?_
  split
  · exact h_v0
  · extract_lets +onlyGivenNames -underBinder -merge -useContext v10
    try clear_value v10
    refine Keeps.ite (fun _ => ?_) (fun _ => ?_)
    · exact h_v0
    · refine Keeps.trans ?_ (kept_postponeChange _ _ _)
      exact h_v0

theorem ends_execReferenceRestored (dt : Nat) (s0 : State) : Ends (elapse dt s0) (execReferenceRestored dt s0) := by
  unfold execReferenceRestored
  extract_lets +onlyGivenNames -underBinder -merge -useContext v0
  have h_v0 : Keeps (elapse dt s0) v0 := by
    unfold v0
    exact Keeps.refl _
  try clear_value v0
  refine Ends.done ?_
  refine Keeps.ite (fun _ => ?_) (fun _ => ?_)
  · exact h_v0
  · extract_lets +onlyGivenNames -underBinder -merge -useContext v10
    try clear_value v10
    extract_lets +onlyGivenNames -underBinder -merge -useContext v12
    have h_v12 : Keeps (elapse dt s0) v12 := by
      unfold v12
      refine Keeps.update ?_
      exact h_v0
    try clear_value v12
    extract_lets +onlyGivenNames -underBinder -merge -useContext v18
    have h_v18 : Keeps (elapse dt s0) v18 := by
      unfold v18
      refine Keeps.foldl (fun s0 a => ?_) ?_
      · try beta_reduce
        extract_lets +onlyGivenNames -underBinder -merge -useContext v24
        try clear_value v24
        refine Keeps.ite (fun _ => ?_) (fun _ => ?_)
        · refine Keeps.trans ?_ (kept_startKeeper _ _)
          exact Keeps.refl _
        · refine Keeps.trans ?_ (kept_modKeeper _ _ _)
          exact Keeps.refl _
      · exact h_v12
    try clear_value v18
    extract_lets +onlyGivenNames -underBinder -merge -useContext v36
    have h_v36 : Keeps (elapse dt s0) v36 := by
      unfold v36
      refine Keeps.trans ?_ (kept_modKeeper _ _ _)
      exact h_v18
    try clear_value v36
    refine Keeps.ite (fun _ => ?_) (fun _ => ?_)
    · refine Keeps.trans ?_ (kept_recordPkg _ _ _)
      exact h_v36
    · exact h_v36

theorem kept_keeperEvent (k : Nat) (code : Nat) (payload : List Byte) (s0 : State) : Keeps s0 (keeperEvent k code payload s0) := by
  unfold keeperEvent
  extract_lets +onlyGivenNames -underBinder -merge -useContext v0
  try clear_value v0
  extract_lets +onlyGivenNames -underBinder -merge -useContext v2
  try clear_value v2
  refine Keeps.ite (fun _ => ?_) (fun _ => ?_)
  · refine Keeps.trans ?_ (kept_raiseLocal _ _ _)
    exact Keeps.refl _
  · refine Keeps.trans ?_ (kept_raise _ _ _)
    exact Keeps.refl _

theorem ends_execCorrectionArrival (dt : Nat) (k : Nat) (flit : Flit) (s0 : State) : Ends (elapse dt s0) (execCorrectionArrival dt k flit s0) := by
  unfold execCorrectionArrival
  extract_lets +onlyGivenNames -underBinder -merge -useContext v0
  have h_v0 : Keeps (elapse dt s0) v0 := by
    unfold v0
    exact Keeps.refl _
  try clear_value v0
  extract_lets +onlyGivenNames -underBinder -merge -useContext v5
  try clear_value v5
  extract_lets +onlyGivenNames -underBinder -merge -useContext v7
  try clear_value v7
  refine Ends.done ?_
  refine Keeps.ite (fun _ => ?_) (fun _ => ?_)
  · exact h_v0
  · extract_lets +onlyGivenNames -underBinder -merge -useContext v14
    have h_v14 : Keeps (elapse dt s0) v14 := by
      unfold v14
      refine Keeps.ite (fun _ => ?_) (fun _ => ?_)
      · refine Keeps.trans ?_ (kept_emit _ _)
        exact h_v0
      · exact h_v0
    try clear_value v14
    refine Keeps.ite (fun _ => ?_) (fun _ => ?_)
    · exact h_v14
    · extract_lets +onlyGivenNames -underBinder -merge -useContext v28
      try clear_value v28
      extract_lets +onlyGivenNames -underBinder -merge -useContext v30
      try clear_value v30
      extract_lets +onlyGivenNames -underBinder -merge -useContext v32
      have h_v32 : Keeps (elapse dt s0) v32 := by
        unfold v32
        refine Keeps.trans ?_ (kept_modKeeper _ _ _)
        exact h_v14
      try clear_value v32
      refine Keeps.ite (fun _ => ?_) (fun _ => ?_)
      · exact h_v32
      · refine Keeps.ite (fun _ => ?_) (fun _ => ?_)
        · refine Keeps.trans ?_ (kept_keeperEvent _ _ _ _)
          exact h_v32
        · refine Keeps.trans ?_ (kept_keeperEvent _ _ _ _)
          exact h_v32

theorem ends_execCorrectionSend (dt : Nat) (s0 : State) : Ends (elapse dt s0) (execCorrectionSend dt s0) := by
  unfold execCorrectionSend
  extract_lets +onlyGivenNames -underBinder -merge -useContext v0
  have h_v0 : Keeps (elapse dt s0) v0 := by
    unfold v0
    exact Keeps.refl _
  try clear_value v0
  refine Ends.done ?_
  refine Keeps.ite (fun _ => ?_) (fun _ => ?_)
  · refine Keeps.trans ?_ (kept_emit _ _)
    exact h_v0
  · exact h_v0

theorem ends_execChangeHoldSample (dt : Nat) (id : Nat) (s0 : State) : Ends (elapse dt s0) (execChangeHoldSample dt id s0) := by
  unfold execChangeHoldSample
  extract_lets +onlyGivenNames -underBinder -merge -useContext v0
  have h_v0 : Keeps (elapse dt s0) v0 := by
    unfold v0
    exact Keeps.refl _
  try clear_value v0
  refine Ends.done ?_
  split
  · exact h_v0
  · extract_lets +onlyGivenNames -underBinder -merge -useContext v10
    try clear_value v10
    refine Keeps.ite (fun _ => ?_) (fun _ => ?_)
    · exact h_v0
    · extract_lets +onlyGivenNames -underBinder -merge -useContext v16
      try clear_value v16
      extract_lets +onlyGivenNames -underBinder -merge -useContext v18
      try clear_value v18
      extract_lets +onlyGivenNames -underBinder -merge -useContext v20
      have h_v20 : Keeps (elapse dt s0) v20 := by
        unfold v20
        refine Keeps.trans ?_ (kept_discardMargins _ _)
        exact h_v0
      try clear_value v20
      refine Keeps.trans ?_ (kept_modChange _ _ _)
      refine Keeps.update ?_
      exact h_v20

theorem ends_execCorrectionMissed (dt : Nat) (k : Nat) (s0 : State) : Ends (elapse dt s0) (execCorrectionMissed dt k s0) := by
  unfold execCorrectionMissed
  extract_lets +onlyGivenNames -underBinder -merge -useContext v0
  have h_v0 : Keeps (elapse dt s0) v0 := by
    unfold v0
    exact Keeps.refl _
  try clear_value v0
  extract_lets +onlyGivenNames -underBinder -merge -useContext v5
  try clear_value v5
  refine Ends.done ?_
  refine Keeps.ite (fun _ => ?_) (fun _ => ?_)
  · exact h_v0
  · extract_lets +onlyGivenNames -underBinder -merge -useContext v12
    have h_v12 : Keeps (elapse dt s0) v12 := by
      unfold v12
      refine Keeps.trans ?_ (kept_modKeeper _ _ _)
      exact h_v0
    try clear_value v12
    refine Keeps.ite (fun _ => ?_) (fun _ => ?_)
    · exact h_v12
    · extract_lets +onlyGivenNames -underBinder -merge -useContext v22
      try clear_value v22
      extract_lets +onlyGivenNames -underBinder -merge -useContext v24
      have h_v24 : Keeps (elapse dt s0) v24 := by
        unfold v24
        refine Keeps.ite (fun _ => ?_) (fun _ => ?_)
        · exact h_v12
        · refine Keeps.trans ?_ (kept_keeperEvent _ _ _ _)
          exact h_v12
      try clear_value v24
      refine Keeps.ite (fun _ => ?_) (fun _ => ?_)
      · refine Keeps.trans ?_ (kept_takeRole _ _)
        exact h_v24
      · refine Keeps.ite (fun _ => ?_) (fun _ => ?_)
        · refine Keeps.trans ?_ (kept_emergency _ _ _)
          exact h_v24
        · exact h_v24

theorem kept_setSeparation (p : Nat) (n : Nat) (s0 : State) : Keeps s0 (setSeparation p n s0) := by
  unfold setSeparation
  refine Keeps.update ?_
  exact Keeps.refl _

theorem ends_execCrossingSlip (dt : Nat) (tether : Bool) (unit : Pua) (separation : Nat) (s0 : State) : Ends (elapse dt s0) (execCrossingSlip dt tether unit separation s0) := by
  unfold execCrossingSlip
  extract_lets +onlyGivenNames -underBinder -merge -useContext v0
  have h_v0 : Keeps (elapse dt s0) v0 := by
    unfold v0
    exact Keeps.refl _
  try clear_value v0
  extract_lets +onlyGivenNames -underBinder -merge -useContext v5
  try clear_value v5
  refine Ends.done ?_
  refine Keeps.ite (fun _ => ?_) (fun _ => ?_)
  · exact h_v0
  · refine Keeps.ite (fun _ => ?_) (fun _ => ?_)
    · refine Keeps.trans ?_ (kept_setSeparation _ _ _)
      exact h_v0
    · refine Keeps.ite (fun _ => ?_) (fun _ => ?_)
      · refine Keeps.trans ?_ (kept_setSeparation _ _ _)
        exact h_v0
      · refine Keeps.trans ?_ (kept_raise _ _ _)
        refine Keeps.trans ?_ (kept_setSeparation _ _ _)
        exact h_v0

theorem ends_execChangeCountSwitch (dt : Nat) (id : Nat) (s0 : State) : Ends (elapse dt s0) (execChangeCountSwitch dt id s0) := by
  unfold execChangeCountSwitch
  extract_lets +onlyGivenNames -underBinder -merge -useContext v0
  have h_v0 : Keeps (elapse dt s0) v0 := by
    unfold v0
    exact Keeps.refl _
  try clear_value v0
  refine Ends.done ?_
  split
  · exact h_v0
  · refine Keeps.ite (fun _ => ?_) (fun _ => ?_)
    · exact h_v0
    · extract_lets +onlyGivenNames -underBinder -merge -useContext v14
      try clear_value v14
      extract_lets +onlyGivenNames -underBinder -merge -useContext v16
      have h_v16 : Keeps (elapse dt s0) v16 := by
        unfold v16
        refine Keeps.trans ?_ (kept_wakeAgents _ _)
        exact h_v0
      try clear_value v16
      extract_lets +onlyGivenNames -underBinder -merge -useContext w22_0 v22
      have h_v22 : Keeps (elapse dt s0) v22 := by
        unfold v22
        refine Keeps.ite (fun _ => ?_) (fun _ => ?_)
        · refine Keeps.foldl (fun s0 a => ?_) ?_
          · try beta_reduce
            refine Keeps.trans ?_ (kept_refreshFreq _ _)
            exact Keeps.refl _
          · refine Keeps.foldl (fun s0 a => ?_) ?_
            · try beta_reduce
              refine Keeps.trans ?_ (kept_setFieldFreq _ _ _)
              exact Keeps.refl _
            · exact h_v16
        · refine Keeps.trans ?_ (kept_modSlice _ _ _)
          refine Keeps.trans ?_ (kept_setFreqs _ _ _)
          exact h_v16
      try clear_value v22
      refine Keeps.trans ?_ (kept_modChange _ _ _)
      refine Keeps.trans ?_ (kept_refreshSlow _)
      exact h_v22

theorem kept_finishChange (c : Change) (s0 : State) : Keeps s0 (finishChange c s0) := by
  unfold finishChange
  extract_lets +onlyGivenNames -underBinder -merge -useContext v0
  try clear_value v0
  extract_lets +onlyGivenNames -underBinder -merge -useContext v2
  have h_v2 : Keeps s0 v2 := by
    unfold v2
    refine Keeps.update ?_
    exact Keeps.refl _
  try clear_value v2
  extract_lets +onlyGivenNames -underBinder -merge -useContext v8
  have h_v8 : Keeps s0 v8 := by
    unfold v8
    refine Keeps.trans ?_ (kept_showChange _ _ _)
    exact h_v2
  try clear_value v8
  extract_lets +onlyGivenNames -underBinder -merge -useContext v14
  have h_v14 : Keeps s0 v14 := by
    unfold v14
    refine Keeps.ite (fun _ => ?_) (fun _ => ?_)
    · refine Keeps.trans ?_ (kept_checkPhaseCurrents _ _)
      exact h_v8
    · exact h_v8
  try clear_value v14
  split
  · exact h_v14
  · refine Keeps.trans ?_ (kept_lowerVoltages _ _)
    exact h_v14

theorem ends_execChangeVerdict (dt : Nat) (id : Nat) (f : Nat) (s0 : State) : Ends (elapse dt s0) (execChangeVerdict dt id f s0) := by
  unfold execChangeVerdict
  extract_lets +onlyGivenNames -underBinder -merge -useContext v0
  have h_v0 : Keeps (elapse dt s0) v0 := by
    unfold v0
    exact Keeps.refl _
  try clear_value v0
  refine Ends.done ?_
  split
  · exact h_v0
  · extract_lets +onlyGivenNames -underBinder -merge -useContext v10
    try clear_value v10
    refine Keeps.ite (fun _ => ?_) (fun _ => ?_)
    · exact h_v0
    · extract_lets +onlyGivenNames -underBinder -merge -useContext v16
      have h_v16 : Keeps (elapse dt s0) v16 := by
        unfold v16
        refine Keeps.trans ?_ (kept_modChange _ _ _)
        exact h_v0
      try clear_value v16
      refine Keeps.ite (fun _ => ?_) (fun _ => ?_)
      · exact h_v16
      · refine Keeps.ite (fun _ => ?_) (fun _ => ?_)
        · refine Keeps.trans ?_ (kept_finishChange _ _)
          exact h_v16
        · refine Keeps.trans ?_ (kept_postponeChange _ _ _)
          exact h_v16

theorem ends_execReferenceLoss (dt : Nat) (s0 : State) : Ends (elapse dt s0) (execReferenceLoss dt s0) := by
  unfold execReferenceLoss
  extract_lets +onlyGivenNames -underBinder -merge -useContext v0
  have h_v0 : Keeps (elapse dt s0) v0 := by
    unfold v0
    exact Keeps.refl _
  try clear_value v0
  refine Ends.done ?_
  refine Keeps.ite (fun _ => ?_) (fun _ => ?_)
  · exact h_v0
  · extract_lets +onlyGivenNames -underBinder -merge -useContext v10
    have h_v10 : Keeps (elapse dt s0) v10 := by
      unfold v10
      refine Keeps.update ?_
      exact h_v0
    try clear_value v10
    refine Keeps.trans ?_ (kept_emergency _ _ _)
    refine Keeps.foldl (fun s0 a => ?_) ?_
    · try beta_reduce
      refine Keeps.trans ?_ (kept_dropReference _ _)
      exact Keeps.refl _
    · exact h_v10

end Sys2Proof.Machine
end

