-- ==== Sys2Proof/Laws/Kept/Slices.lean ====
section
/-!
SUPPORT. What the operations and commands of Machine/Slices.lean keep (see Laws/Keeps.lean).
-/
namespace Sys2Proof.Machine

theorem ends_execEpochStart (dt : Nat) (k : Nat) (s0 : State) : Ends (elapse dt s0) (execEpochStart dt k s0) := by
  unfold execEpochStart
  extract_lets +onlyGivenNames -underBinder -merge -useContext v0
  have h_v0 : Keeps (elapse dt s0) v0 := by
    unfold v0
    exact Keeps.refl _
  try clear_value v0
  refine Ends.done ?_
  split
  · exact h_v0
  · extract_lets +onlyGivenNames -underBinder -merge -useContext v10
    try clear_value v10
    split
    · exact h_v0
    · refine Keeps.ite (fun _ => ?_) (fun _ => ?_)
      · exact h_v0
      · extract_lets +onlyGivenNames -underBinder -merge -useContext v20
        try clear_value v20
        refine Keeps.trans ?_ (kept_setSobj _ _ _ _)
        refine Keeps.trans ?_ (kept_modSlice _ _ _)
        exact h_v0

theorem ends_execSeedDelivery (dt : Nat) (k : Nat) (s0 : State) : Ends (elapse dt s0) (execSeedDelivery dt k s0) := by
  unfold execSeedDelivery
  extract_lets +onlyGivenNames -underBinder -merge -useContext v0
  have h_v0 : Keeps (elapse dt s0) v0 := by
    unfold v0
    exact Keeps.refl _
  try clear_value v0
  refine Ends.done ?_
  split
  · exact h_v0
  · refine Keeps.ite (fun _ => ?_) (fun _ => ?_)
    · exact h_v0
    · split
      · rename_i hq_
        have hk_ : Keeps (elapse dt s0) _ := Keeps.of_eq1 hq_ (by
          refine Keeps.trans ?_ (kept_takeWord _)
          exact h_v0
          )
        refine Keeps.trans ?_ (kept_emit _ _)
        refine Keeps.trans ?_ (kept_modSlice _ _ _)
        exact hk_

theorem ends_execSliceCreate (dt : Nat) (r : SliceRequest) (s0 : State) : Ends (elapse dt s0) (execSliceCreate dt r s0) := by
  unfold execSliceCreate
  extract_lets +onlyGivenNames -underBinder -merge -useContext v0
  have h_v0 : Keeps (elapse dt s0) v0 := by
    unfold v0
    exact Keeps.refl _
  try clear_value v0
  refine Ends.done ?_
  refine Keeps.ite (fun _ => ?_) (fun _ => ?_)
  · exact h_v0
  · split
    · rename_i hq_
      have hk_ : Keeps (elapse dt s0) _ := Keeps.of_eq1 hq_ (by
        refine Keeps.trans ?_ (kept_takeWord _)
        exact h_v0
        )
      extract_lets +onlyGivenNames -underBinder -merge -useContext v17
      have h_v17 : Keeps (elapse dt s0) v17 := by
        unfold v17
        refine Keeps.trans ?_ (kept_clearViews _ _)
        refine Keeps.update ?_
        exact hk_
      try clear_value v17
      extract_lets +onlyGivenNames -underBinder -merge -useContext v24
      try clear_value v24
      extract_lets +onlyGivenNames -underBinder -merge -useContext v26
      have h_v26 : Keeps (elapse dt s0) v26 := by
        unfold v26
        refine Keeps.trans ?_ (kept_refreshFreq _ _)
        exact h_v17
      try clear_value v26
      extract_lets +onlyGivenNames -underBinder -merge -useContext v32
      try clear_value v32
      extract_lets +onlyGivenNames -underBinder -merge -useContext v34
      have h_v34 : Keeps (elapse dt s0) v34 := by
        unfold v34
        refine Keeps.trans ?_ (kept_refreshIdle _ _)
        refine Keeps.foldl (fun s0 a => ?_) ?_
        · try beta_reduce
          refine Keeps.trans ?_ (kept_powerOn _ _)
          exact Keeps.refl _
        · exact h_v26
      try clear_value v34
      extract_lets +onlyGivenNames -underBinder -merge -useContext v46
      have h_v46 : Keeps (elapse dt s0) v46 := by
        unfold v46
        refine Keeps.ite (fun _ => ?_) (fun _ => ?_)
        · exact h_v34
        · refine Keeps.foldl (fun s0 a => ?_) ?_
          · try beta_reduce
            refine Keeps.trans ?_ (kept_powerOn _ _)
            exact Keeps.refl _
          · exact h_v34
      try clear_value v46
      extract_lets +onlyGivenNames -underBinder -merge -useContext v61
      have h_v61 : Keeps (elapse dt s0) v61 := by
        unfold v61
        refine Keeps.trans ?_ (kept_recomputeGroups _ _ _)
        exact h_v46
      try clear_value v61
      extract_lets +onlyGivenNames -underBinder -merge -useContext v67
      have h_v67 : Keeps (elapse dt s0) v67 := by
        unfold v67
        refine Keeps.foldl (fun s0 a => ?_) ?_
        · try beta_reduce
          refine Keeps.trans ?_ (kept_assignAdoptive _ _)
          refine Keeps.trans ?_ (kept_cutProgress _ _)
          exact Keeps.refl _
        · exact h_v61
      try clear_value v67
      extract_lets +onlyGivenNames -underBinder -merge -useContext v79
      have h_v79 : Keeps (elapse dt s0) v79 := by
        unfold v79
        refine Keeps.trans ?_ (kept_weakSwap _ _)
        refine Keeps.trans ?_ (kept_refreshBound _ _)
        refine Keeps.trans ?_ (kept_applyMode _ _)
        exact h_v67
      try clear_value v79
      refine Keeps.trans ?_ (kept_refreshReservoirs _ _)
      refine Keeps.trans ?_ (kept_completeCreation _ _)
      exact h_v79

end Sys2Proof.Machine
end

