-- ==== Sys2Proof/Laws/Kept/Tiles.lean ====
section
/-!
SUPPORT. What the operations and commands of Machine/Tiles.lean keep (see Laws/Keeps.lean).
-/
namespace Sys2Proof.Machine

theorem kept_poisonRecord (unit : Nat) (cause : Nat) (sl : Nat) (w : Word64) (source : Nat) (s0 : State) : Keeps s0 (poisonRecord unit cause sl w source s0) := by
  unfold poisonRecord
  refine Keeps.trans ?_ (kept_raise _ _ _)
  exact Keeps.refl _

theorem kept_modHeld (p : Nat) (f : Core → Core) (s0 : State) : Keeps s0 (modHeld p f s0) := by
  unfold modHeld
  refine Keeps.trans ?_ (kept_syncCoreHolds _ _)
  refine Keeps.trans ?_ (kept_modCore _ _ _)
  exact Keeps.refl _

theorem kept_consumePoison (k : Nat) (lcn : Nat) (p : Nat) (b : InBlock) (s0 : State) : Keeps s0 (consumePoison k lcn p b s0) := by
  unfold consumePoison
  extract_lets +onlyGivenNames -underBinder -merge -useContext v0
  have h_v0 : Keeps s0 v0 := by
    unfold v0
    refine Keeps.trans ?_ (kept_modHeld _ _ _)
    refine Keeps.trans ?_ (kept_addSobj _ _ _ _)
    exact Keeps.refl _
  try clear_value v0
  split
  · exact h_v0
  · refine Keeps.ite (fun _ => ?_) (fun _ => ?_)
    · exact h_v0
    · extract_lets +onlyGivenNames -underBinder -merge -useContext v15
      have h_v15 : Keeps s0 v15 := by
        unfold v15
        refine Keeps.trans ?_ (kept_setSobjs _ _ _)
        exact h_v0
      try clear_value v15
      extract_lets +onlyGivenNames -underBinder -merge -useContext v21
      have h_v21 : Keeps s0 v21 := by
        unfold v21
        refine Keeps.ite (fun _ => ?_) (fun _ => ?_)
        · exact h_v15
        · refine Keeps.trans ?_ (kept_poisonRecord _ _ _ _ _ _)
          exact h_v15
      try clear_value v21
      extract_lets +onlyGivenNames -underBinder -merge -useContext w31_0 v31
      try clear_value v31
      refine Keeps.trans ?_ (kept_stopSlice _ _)
      refine Keeps.trans ?_ (kept_modSlice _ _ _)
      refine Keeps.trans ?_ (kept_raise _ _ _)
      exact h_v21

theorem kept_startHeld (p : Nat) (s0 : State) : Keeps s0 (startHeld p s0) := by
  unfold startHeld
  extract_lets +onlyGivenNames -underBinder -merge -useContext v0
  try clear_value v0
  split
  · refine Keeps.ite (fun _ => ?_) (fun _ => ?_)
    · exact Keeps.refl _
    · split
      · refine Keeps.trans ?_ (kept_consumePoison _ _ _ _ _)
        refine Keeps.trans ?_ (kept_modHeld _ _ _)
        exact Keeps.refl _
      · refine Keeps.trans ?_ (kept_startTile _ _ _ _)
        refine Keeps.trans ?_ (kept_modHeld _ _ _)
        exact Keeps.refl _
  · exact Keeps.refl _

theorem kept_countReplay (d : Descriptor) (p : Nat) (s0 : State) : Keeps s0 (countReplay d p s0) := by
  unfold countReplay
  extract_lets +onlyGivenNames -underBinder -merge -useContext v0
  try clear_value v0
  refine Keeps.ite (fun _ => ?_) (fun _ => ?_)
  · refine Keeps.trans ?_ (kept_addSobj _ _ _ _)
    exact Keeps.refl _
  · refine Keeps.ite (fun _ => ?_) (fun _ => ?_)
    · refine Keeps.trans ?_ (kept_addSobj _ _ _ _)
      exact Keeps.refl _
    · exact Keeps.refl _

theorem kept_countTile (p : Nat) (contraction : Bool) (macs : Nat) (s0 : State) : Keeps s0 (countTile p contraction macs s0) := by
  unfold countTile
  extract_lets +onlyGivenNames -underBinder -merge -useContext v0
  have h_v0 : Keeps s0 v0 := by
    unfold v0
    refine Keeps.trans ?_ (kept_countCore _ _ _ _)
    exact Keeps.refl _
  try clear_value v0
  refine Keeps.trans ?_ (kept_progressEvent _ _)
  refine Keeps.ite (fun _ => ?_) (fun _ => ?_)
  · refine Keeps.trans ?_ (kept_countCore _ _ _ _)
    exact h_v0
  · exact h_v0

theorem kept_enqueueReplay (d : Descriptor) (p : Nat) (front : Bool) (s0 : State) : Keeps s0 (enqueueReplay d p front s0) := by
  unfold enqueueReplay
  extract_lets +onlyGivenNames -underBinder -merge -useContext v0
  refine Keeps.trans ?_ (kept_spareMove _ _)
  refine Keeps.trans ?_ (kept_countReplay _ _ _)
  refine Keeps.trans ?_ (kept_modCore _ _ _)
  exact Keeps.refl _

theorem kept_dispatchReplay (d : Descriptor) (s0 : State) : Keeps s0 (dispatchReplay d s0) := by
  unfold dispatchReplay
  extract_lets +onlyGivenNames -underBinder -merge -useContext v0
  try clear_value v0
  split
  · refine Keeps.trans ?_ (kept_enqueueReplay _ _ _ _)
    exact Keeps.refl _
  · extract_lets +onlyGivenNames -underBinder -merge -useContext v7
    have h_v7 : Keeps s0 v7 := by
      unfold v7
      refine Keeps.trans ?_ (kept_modCluster _ _ _)
      exact Keeps.refl _
    try clear_value v7
    refine Keeps.ite (fun _ => ?_) (fun _ => ?_)
    · refine Keeps.trans ?_ (kept_modHeld _ _ _)
      exact h_v7
    · exact h_v7

theorem kept_leaveTile (p : Nat) (s0 : State) : Keeps s0 (leaveTile p s0) := by
  unfold leaveTile
  extract_lets +onlyGivenNames -underBinder -merge -useContext v0
  try clear_value v0
  refine Keeps.trans ?_ (kept_modCluster _ _ _)
  refine Keeps.trans ?_ (kept_modCore _ _ _)
  exact Keeps.refl _

theorem kept_releasePins (p : Nat) (ns : List Nat) (s0 : State) : Keeps s0 (releasePins p ns s0) := by
  unfold releasePins
  extract_lets +onlyGivenNames -underBinder -merge -useContext v0
  try clear_value v0
  extract_lets +onlyGivenNames -underBinder -merge -useContext v2
  try clear_value v2
  extract_lets +onlyGivenNames -underBinder -merge -useContext v4
  have h_v4 : Keeps s0 v4 := by
    unfold v4
    refine Keeps.trans ?_ (kept_modCore _ _ _)
    exact Keeps.refl _
  try clear_value v4
  extract_lets +onlyGivenNames -underBinder -merge -useContext v10
  have h_v10 : Keeps s0 v10 := by
    unfold v10
    refine Keeps.foldl (fun s0 a => ?_) ?_
    · try beta_reduce
      refine Keeps.trans ?_ (kept_setSram _ _ _ _)
      exact Keeps.refl _
    · exact h_v4
  try clear_value v10
  extract_lets +onlyGivenNames -underBinder -merge -useContext v21
  refine Keeps.trans ?_ (kept_startHeld _ _)
  refine Keeps.trans ?_ (kept_modHeld _ _ _)
  exact h_v10

theorem kept_unpinInputs (p : Nat) (t : Tile) (s0 : State) : Keeps s0 (unpinInputs p t s0) := by
  unfold unpinInputs
  refine Keeps.trans ?_ (kept_releasePins _ _ _)
  exact Keeps.refl _

theorem kept_pinInputs (p : Nat) (t : Tile) (s0 : State) : Keeps s0 (pinInputs p t s0) := by
  unfold pinInputs
  extract_lets +onlyGivenNames -underBinder -merge -useContext v0
  refine Keeps.trans ?_ (kept_modCore _ _ _)
  exact Keeps.refl _

theorem kept_orderImmediate (ck : Nat) (d : Descriptor) (s0 : State) : Keeps s0 (orderImmediate ck d s0) := by
  unfold orderImmediate
  split
  · refine Keeps.trans ?_ (kept_enqueueReplay _ _ _ _)
    exact Keeps.refl _
  · refine Keeps.trans ?_ (kept_modCluster _ _ _)
    exact Keeps.refl _

theorem kept_endSample (lcn : Nat) (p : Nat) (t : Tile) (start : Nat) (r : RunResult) (released : Bool) (s0 : State) : Keeps s0 (endSample lcn p t start r released s0) := by
  unfold endSample
  extract_lets +onlyGivenNames -underBinder -merge -useContext v0
  try clear_value v0
  extract_lets +onlyGivenNames -underBinder -merge -useContext v2
  try clear_value v2
  extract_lets +onlyGivenNames -underBinder -merge -useContext v4
  try clear_value v4
  extract_lets +onlyGivenNames -underBinder -merge -useContext v6
  try clear_value v6
  extract_lets +onlyGivenNames -underBinder -merge -useContext v8
  try clear_value v8
  extract_lets +onlyGivenNames -underBinder -merge -useContext v10
  try clear_value v10
  extract_lets +onlyGivenNames -underBinder -merge -useContext v12
  have h_v12 : Keeps s0 v12 := by
    unfold v12
    refine Keeps.ite (fun _ => ?_) (fun _ => ?_)
    · exact Keeps.refl _
    · refine Keeps.trans ?_ (kept_modLcn _ _ _)
      exact Keeps.refl _
  try clear_value v12
  refine Keeps.ite (fun _ => ?_) (fun _ => ?_)
  · exact h_v12
  · extract_lets +onlyGivenNames -underBinder -merge -useContext v26
    try clear_value v26
    extract_lets +onlyGivenNames -underBinder -merge -useContext v28
    try clear_value v28
    extract_lets +onlyGivenNames -underBinder -merge -useContext v30
    try clear_value v30
    extract_lets +onlyGivenNames -underBinder -merge -useContext v32
    have h_v32 : Keeps s0 v32 := by
      unfold v32
      refine Keeps.trans ?_ (kept_modLcn _ _ _)
      exact h_v12
    try clear_value v32
    extract_lets +onlyGivenNames -underBinder -merge -useContext v38
    try clear_value v38
    extract_lets +onlyGivenNames -underBinder -merge -useContext v40
    try clear_value v40
    refine Keeps.ite (fun _ => ?_) (fun _ => ?_)
    · exact h_v32
    · refine Keeps.ite (fun _ => ?_) (fun _ => ?_)
      · refine Keeps.trans ?_ (kept_modLcn _ _ _)
        exact h_v32
      · extract_lets +onlyGivenNames -underBinder -merge -useContext v51
        try clear_value v51
        extract_lets +onlyGivenNames -underBinder -merge -useContext v53
        have h_v53 : Keeps s0 v53 := by
          unfold v53
          refine Keeps.trans ?_ (kept_pinInputs _ _ _)
          refine Keeps.trans ?_ (kept_modLcn _ _ _)
          exact h_v32
        try clear_value v53
        extract_lets +onlyGivenNames -underBinder -merge -useContext v60
        have h_v60 : Keeps s0 v60 := by
          unfold v60
          refine Keeps.ite (fun _ => ?_) (fun _ => ?_)
          · refine Keeps.trans ?_ (kept_modHeld _ _ _)
            refine Keeps.trans ?_ (kept_addSobj _ _ _ _)
            exact h_v53
          · exact h_v53
        try clear_value v60
        refine Keeps.ite (fun _ => ?_) (fun _ => ?_)
        · refine Keeps.trans ?_ (kept_orderImmediate _ _ _)
          exact h_v60
        · refine Keeps.trans ?_ (kept_dispatchReplay _ _)
          exact h_v60

theorem kept_storeOutputs (p : Nat) (t : Tile) (words : List Word64) (released : Bool) (s0 : State) : Keeps s0 (storeOutputs p t words released s0) := by
  unfold storeOutputs
  refine Keeps.foldl (fun s0 a => ?_) ?_
  · try beta_reduce
    split
    · refine Keeps.trans ?_ (kept_setSram _ _ _ _)
      exact Keeps.refl _
    · exact Keeps.refl _
  · exact Keeps.refl _

theorem kept_releaseOutputs (p : Nat) (t : Tile) (words : List Word64) (s0 : State) : Keeps s0 (releaseOutputs p t words s0) := by
  unfold releaseOutputs
  refine Keeps.trans ?_ (kept_startHeld _ _)
  refine Keeps.trans ?_ (kept_storeOutputs _ _ _ _ _)
  exact Keeps.refl _

theorem kept_poisonOutputs (k : Nat) (p : Nat) (cause : Nat) (t : Tile) (pick : Nat → Bool) (s0 : State) : Keeps s0 (poisonOutputs k p cause t pick s0) := by
  unfold poisonOutputs
  refine Keeps.foldl (fun s0 a => ?_) ?_
  · try beta_reduce
    refine Keeps.ite (fun _ => ?_) (fun _ => ?_)
    · exact Keeps.refl _
    · extract_lets +onlyGivenNames -underBinder -merge -useContext v7
      try clear_value v7
      extract_lets +onlyGivenNames -underBinder -merge -useContext v9
      have h_v9 : Keeps s0 v9 := by
        unfold v9
        split
        · refine Keeps.trans ?_ (kept_setSram _ _ _ _)
          exact Keeps.refl _
        · exact Keeps.refl _
      try clear_value v9
      refine Keeps.trans ?_ (kept_poisonRecord _ _ _ _ _ _)
      exact h_v9
  · exact Keeps.refl _

theorem kept_refuseUnbound (k : Nat) (lcn : Nat) (s0 : State) : Keeps s0 (refuseUnbound k lcn s0) := by
  unfold refuseUnbound
  refine Keeps.trans ?_ (kept_noteEvent _ _ _ _ _)
  exact Keeps.refl _

theorem kept_takeTile (k : Nat) (lcn : Nat) (p : Nat) (t : Tile) (s0 : State) : Keeps s0 (takeTile k lcn p t s0) := by
  unfold takeTile
  extract_lets +onlyGivenNames -underBinder -merge -useContext v0
  try clear_value v0
  split
  · extract_lets +onlyGivenNames -underBinder -merge -useContext v4
    have h_v4 : Keeps s0 v4 := by
      unfold v4
      refine Keeps.ite (fun _ => ?_) (fun _ => ?_)
      · exact Keeps.refl _
      · refine Keeps.trans ?_ (kept_addSobj _ _ _ _)
        exact Keeps.refl _
    try clear_value v4
    refine Keeps.trans ?_ (kept_modHeld _ _ _)
    exact h_v4
  · refine Keeps.ite (fun _ => ?_) (fun _ => ?_)
    · refine Keeps.trans ?_ (kept_modHeld _ _ _)
      refine Keeps.trans ?_ (kept_addSobj _ _ _ _)
      exact Keeps.refl _
    · refine Keeps.trans ?_ (kept_startTile _ _ _ _)
      exact Keeps.refl _

theorem ends_execTileIssue (dt : Nat) (lcn : Nat) (t : Tile) (s0 : State) : Ends (elapse dt s0) (execTileIssue dt lcn t s0) := by
  unfold execTileIssue
  extract_lets +onlyGivenNames -underBinder -merge -useContext v0
  have h_v0 : Keeps (elapse dt s0) v0 := by
    unfold v0
    exact Keeps.refl _
  try clear_value v0
  extract_lets +onlyGivenNames -underBinder -merge -useContext v5
  try clear_value v5
  extract_lets +onlyGivenNames -underBinder -merge -useContext v7
  try clear_value v7
  refine Ends.done ?_
  split
  · refine Keeps.ite (fun _ => ?_) (fun _ => ?_)
    · refine Keeps.trans ?_ (kept_refuseUnbound _ _ _)
      exact h_v0
    · exact h_v0
  · extract_lets +onlyGivenNames -underBinder -merge -useContext v19
    try clear_value v19
    extract_lets +onlyGivenNames -underBinder -merge -useContext v21
    try clear_value v21
    refine Keeps.ite (fun _ => ?_) (fun _ => ?_)
    · refine Keeps.ite (fun _ => ?_) (fun _ => ?_)
      · refine Keeps.trans ?_ (kept_addSobj _ _ _ _)
        exact h_v0
      · exact h_v0
    · refine Keeps.ite (fun _ => ?_) (fun _ => ?_)
      · refine Keeps.trans ?_ (kept_progressEvent _ _)
        refine Keeps.trans ?_ (kept_commandTile _ _ _ _)
        refine Keeps.trans ?_ (kept_modSlice _ _ _)
        exact h_v0
      · extract_lets +onlyGivenNames -underBinder -merge -useContext v39
        try clear_value v39
        refine Keeps.ite (fun _ => ?_) (fun _ => ?_)
        · exact h_v0
        · split
          · refine Keeps.foldl (fun s0 a => ?_) ?_
            · try beta_reduce
              refine Keeps.trans ?_ (kept_modHeld _ _ _)
              exact Keeps.refl _
            · refine Keeps.trans ?_ (kept_consumePoison _ _ _ _ _)
              exact h_v0
          · extract_lets +onlyGivenNames -underBinder -merge -useContext v56
            have h_v56 : Keeps (elapse dt s0) v56 := by
              unfold v56
              refine Keeps.trans ?_ (kept_modSlice _ _ _)
              exact h_v0
            try clear_value v56
            extract_lets +onlyGivenNames -underBinder -merge -useContext v62
            have h_v62 : Keeps (elapse dt s0) v62 := by
              unfold v62
              refine Keeps.trans ?_ (kept_commandTile _ _ _ _)
              refine Keeps.trans ?_ (kept_takeTile _ _ _ _ _)
              exact h_v56
            try clear_value v62
            refine Keeps.foldl (fun s0 a => ?_) ?_
            · try beta_reduce
              refine Keeps.trans ?_ (kept_takeTile _ _ _ _ _)
              exact Keeps.refl _
            · exact h_v62

theorem kept_sendWaiting (n ck : Nat) (s0 : State) : Keeps s0 (sendWaiting n ck s0) := by
  induction n generalizing s0 with
  | zero => exact Keeps.refl _
  | succ n ih =>
    unfold sendWaiting
    split
    · exact Keeps.refl _
    · dsimp only
      split
      · exact Keeps.refl _
      · exact ((kept_modCluster _ _ _).trans (kept_enqueueReplay _ _ _ _)).trans (ih _)

theorem kept_freeQueueStalls (ck : Nat) (s0 : State) : Keeps s0 (freeQueueStalls ck s0) := by
  unfold freeQueueStalls
  refine Keeps.ite (fun _ => ?_) (fun _ => ?_)
  · exact Keeps.refl _
  · refine Keeps.foldl (fun s0 a => ?_) ?_
    · try beta_reduce
      refine Keeps.ite (fun _ => ?_) (fun _ => ?_)
      · refine Keeps.trans ?_ (kept_startHeld _ _)
        refine Keeps.trans ?_ (kept_modHeld _ _ _)
        exact Keeps.refl _
      · exact Keeps.refl _
    · exact Keeps.refl _

theorem kept_refillQueues (s0 : State) : Keeps s0 (refillQueues s0) := by
  unfold refillQueues
  refine Keeps.foldl (fun s0 a => ?_) ?_
  · try beta_reduce
    refine Keeps.trans ?_ (kept_freeQueueStalls _ _)
    refine Keeps.trans ?_ (kept_sendWaiting _ _ _)
    exact Keeps.refl _
  · exact Keeps.refl _

end Sys2Proof.Machine
end

