-- ==== Sys2Proof/Laws/Kept/Projection.lean ====
section
/-!
SUPPORT. What the operations and commands of Machine/Projection.lean keep (see Laws/Keeps.lean).
-/
namespace Sys2Proof.Machine

theorem kept_countIneligible (k : Nat) (m : Mode) (s0 : State) : Keeps s0 (countIneligible k m s0) := by
  unfold countIneligible
  extract_lets +onlyGivenNames -underBinder -merge -useContext v0
  have h_v0 : Keeps s0 v0 := by
    unfold v0
    refine Keeps.trans ?_ (kept_addSobj _ _ _ _)
    exact Keeps.refl _
  try clear_value v0
  refine Keeps.ite (fun _ => ?_) (fun _ => ?_)
  · exact h_v0
  · refine Keeps.trans ?_ (kept_refreshBound _ _)
    refine Keeps.trans ?_ (kept_modSlice _ _ _)
    exact h_v0

theorem kept_endRecompute (n : Nat) (x : Recompute) (s0 : State) : Keeps s0 (endRecompute n x s0) := by
  unfold endRecompute
  refine Keeps.trans ?_ (kept_unpinInputs _ _ _)
  refine Keeps.update ?_
  exact Keeps.refl _

theorem kept_setRecompute (n : Nat) (x : Recompute) (s0 : State) : Keeps s0 (setRecompute n x s0) := by
  unfold setRecompute
  refine Keeps.update ?_
  exact Keeps.refl _

theorem kept_nextAttempt (n : Nat) (lcn : Nat) (x : Recompute) (s0 : State) : Keeps s0 (nextAttempt n lcn x s0) := by
  unfold nextAttempt
  extract_lets +onlyGivenNames -underBinder -merge -useContext v0
  try clear_value v0
  split
  · refine Keeps.trans ?_ (kept_addSobj _ _ _ _)
    refine Keeps.trans ?_ (kept_setRecompute _ _ _)
    exact Keeps.refl _
  · extract_lets +onlyGivenNames -underBinder -merge -useContext v8
    try clear_value v8
    refine Keeps.trans ?_ (kept_addSobj _ _ _ _)
    refine Keeps.trans ?_ (kept_setRecompute _ _ _)
    exact Keeps.refl _
  · refine Keeps.trans ?_ (kept_poisonOutputs _ _ _ _ _ _)
    refine Keeps.trans ?_ (kept_addSobj _ _ _ _)
    refine Keeps.trans ?_ (kept_endRecompute _ _ _)
    exact Keeps.refl _

theorem kept_judge (lcn : Nat) (count : Nat) (base : Nat) (seed : Word64) (m : Mode) (t : Taps) (s0 : State) : Keeps s0 (judge lcn count base seed m t s0).2 := by
  unfold judge
  split
  · rename_i hq_
    have hk_ : Keeps s0 _ := Keeps.of_eq1 hq_ (by
      refine Keeps.trans ?_ (kept_takeBit _)
      exact Keeps.refl _
      )
    split
    · rename_i hq_
      have hk_ : Keeps s0 _ := Keeps.of_eq1 hq_ (by
        refine Keeps.trans ?_ (kept_takeBit _)
        exact hk_
        )
      split
      · refine Keeps.ite1 (fun _ => ?_) (fun _ => ?_)
        · refine Keeps.snd ?_
          exact hk_
        · refine Keeps.snd ?_
          exact hk_
      · split
        · refine Keeps.snd ?_
          exact hk_
        · refine Keeps.ite1 (fun _ => ?_) (fun _ => ?_)
          · refine Keeps.snd ?_
            exact hk_
          · refine Keeps.snd ?_
            exact hk_

theorem kept_verdictOn (lcn : Nat) (count : Nat) (first : Nat) (seed : Word64) (m : Mode) (t : Taps) (s0 : State) : Keeps s0 (verdictOn lcn count first seed m t s0).2 := by
  unfold verdictOn
  refine Keeps.ite1 (fun _ => ?_) (fun _ => ?_)
  · refine Keeps.trans ?_ (kept_judge _ _ _ _ _ _ _)
    exact Keeps.refl _
  · refine Keeps.ite1 (fun _ => ?_) (fun _ => ?_)
    · refine Keeps.snd ?_
      exact Keeps.refl _
    · refine Keeps.snd ?_
      exact Keeps.refl _

theorem kept_orderUnchecked (lcn : Nat) (original : Nat) (core : Nat) (epoch : Nat) (attempt : Nat) (t : Tile) (stream : Option (Nat × Nat)) (r : RunResult) (s0 : State) : Keeps s0 (orderUnchecked lcn original core epoch attempt t stream r s0) := by
  unfold orderUnchecked
  extract_lets +onlyGivenNames -underBinder -merge -useContext v0
  try clear_value v0
  extract_lets +onlyGivenNames -underBinder -merge -useContext v2
  try clear_value v2
  refine Keeps.trans ?_ (kept_orderImmediate _ _ _)
  refine Keeps.trans ?_ (kept_pinInputs _ _ _)
  refine Keeps.trans ?_ (kept_addSobj _ _ _ _)
  exact Keeps.refl _

theorem kept_reportFailure (k : Nat) (lcn : Nat) (core : Nat) (count : Nat) (attempt : Nat) (epoch : Nat) (cause : Nat) (t : Taps) (pair : Nat) (v : PairVerdict) (detected : Option Nat) (s0 : State) : Keeps s0 (reportFailure k lcn core count attempt epoch cause t pair v detected s0) := by
  unfold reportFailure
  extract_lets +onlyGivenNames -underBinder -merge -useContext v0
  try clear_value v0
  split
  · rename_i hq_
    have hk_ : Keeps s0 _ := Keeps.of_eq1 hq_ (by
      refine Keeps.trans ?_ (kept_takeNat _)
      exact Keeps.refl _
      )
    split
    · rename_i hq_
      have hk_ : Keeps s0 _ := Keeps.of_eq1 hq_ (by
        refine Keeps.trans ?_ (kept_takeNat _)
        exact hk_
        )
      extract_lets +onlyGivenNames -underBinder -merge -useContext v16
      extract_lets +onlyGivenNames -underBinder -merge -useContext v17
      try clear_value v17
      extract_lets +onlyGivenNames -underBinder -merge -useContext v19
      try clear_value v19
      extract_lets +onlyGivenNames -underBinder -merge -useContext v21
      try clear_value v21
      extract_lets +onlyGivenNames -underBinder -merge -useContext v23
      have h_v23 : Keeps s0 v23 := by
        unfold v23
        refine Keeps.trans ?_ (kept_setSobjs _ _ _)
        exact hk_
      try clear_value v23
      extract_lets +onlyGivenNames -underBinder -merge -useContext v29
      try clear_value v29
      refine Keeps.trans ?_ (kept_raise _ _ _)
      exact h_v23

theorem kept_noteReleased (lcn : Nat) (stream : Option (Nat × Nat)) (s0 : State) : Keeps s0 (noteReleased lcn stream s0) := by
  unfold noteReleased
  split
  · exact Keeps.refl _
  · refine Keeps.trans ?_ (kept_modLcn _ _ _)
    exact Keeps.refl _

theorem ends_execRecomputeAttemptEnd (dt : Nat) (lcn : Nat) (fetched : List Word64) (taps : Taps) (r : RunResult) (s0 : State) : Ends (elapse dt s0) (execRecomputeAttemptEnd dt lcn fetched taps r s0) := by
  unfold execRecomputeAttemptEnd
  extract_lets +onlyGivenNames -underBinder -merge -useContext v0
  have h_v0 : Keeps (elapse dt s0) v0 := by
    unfold v0
    exact Keeps.refl _
  try clear_value v0
  refine Ends.done ?_
  split
  · exact h_v0
  · extract_lets +onlyGivenNames -underBinder -merge -useContext v10
    try clear_value v10
    extract_lets +onlyGivenNames -underBinder -merge -useContext v12
    try clear_value v12
    extract_lets +onlyGivenNames -underBinder -merge -useContext v14
    try clear_value v14
    refine Keeps.ite (fun _ => ?_) (fun _ => ?_)
    · exact h_v0
    · refine Keeps.ite (fun _ => ?_) (fun _ => ?_)
      · refine Keeps.ite (fun _ => ?_) (fun _ => ?_)
        · refine Keeps.trans ?_ (kept_poisonOutputs _ _ _ _ _ _)
          refine Keeps.trans ?_ (kept_addSobj _ _ _ _)
          refine Keeps.trans ?_ (kept_endRecompute _ _ _)
          exact h_v0
        · refine Keeps.trans ?_ (kept_nextAttempt _ _ _ _)
          refine Keeps.trans ?_ (kept_raise _ _ _)
          exact h_v0
      · extract_lets +onlyGivenNames -underBinder -merge -useContext v33
        refine Keeps.ite (fun _ => ?_) (fun _ => ?_)
        · try unfold v33
          try beta_reduce
          refine Keeps.trans ?_ (kept_noteReleased _ _ _)
          refine Keeps.trans ?_ (kept_releaseOutputs _ _ _ _)
          refine Keeps.trans ?_ (kept_endRecompute _ _ _)
          exact h_v0
        · refine Keeps.ite (fun _ => ?_) (fun _ => ?_)
          · exact h_v0
          · extract_lets +onlyGivenNames -underBinder -merge -useContext v47
            try clear_value v47
            split
            · rename_i hq_
              have hk_ : Keeps (elapse dt s0) _ := Keeps.of_eq1 hq_ (by
                refine Keeps.trans ?_ (kept_verdictOn _ _ _ _ _ _ _)
                exact h_v0
                )
              split
              · try unfold v33
                try beta_reduce
                refine Keeps.trans ?_ (kept_noteReleased _ _ _)
                refine Keeps.trans ?_ (kept_releaseOutputs _ _ _ _)
                refine Keeps.trans ?_ (kept_endRecompute _ _ _)
                exact hk_
              · refine Keeps.trans ?_ (kept_orderUnchecked _ _ _ _ _ _ _ _ _)
                exact hk_
              · refine Keeps.trans ?_ (kept_nextAttempt _ _ _ _)
                refine Keeps.trans ?_ (kept_reportFailure _ _ _ _ _ _ _ _ _ _ _ _)
                exact hk_

theorem ends_execIneligibleComputeTileEnd (dt : Nat) (lcn : Nat) (s0 : State) : Ends (elapse dt s0) (execIneligibleComputeTileEnd dt lcn s0) := by
  unfold execIneligibleComputeTileEnd
  extract_lets +onlyGivenNames -underBinder -merge -useContext v0
  have h_v0 : Keeps (elapse dt s0) v0 := by
    unfold v0
    exact Keeps.refl _
  try clear_value v0
  refine Ends.done ?_
  split
  · exact h_v0
  · split
    · exact h_v0
    · refine Keeps.ite (fun _ => ?_) (fun _ => ?_)
      · exact h_v0
      · extract_lets +onlyGivenNames -underBinder -merge -useContext v18
        try clear_value v18
        extract_lets +onlyGivenNames -underBinder -merge -useContext v20
        try clear_value v20
        extract_lets +onlyGivenNames -underBinder -merge -useContext v22
        have h_v22 : Keeps (elapse dt s0) v22 := by
          unfold v22
          refine Keeps.update ?_
          exact h_v0
        try clear_value v22
        refine Keeps.trans ?_ (kept_countIneligible _ _ _)
        refine Keeps.trans ?_ (kept_releaseOutputs _ _ _ _)
        refine Keeps.trans ?_ (kept_countTile _ _ _ _)
        refine Keeps.trans ?_ (kept_leaveTile _ _)
        exact h_v22

theorem ends_execSampleStreamTileEnd (dt : Nat) (lcn : Nat) (r : RunResult) (s0 : State) : Ends (elapse dt s0) (execSampleStreamTileEnd dt lcn r s0) := by
  unfold execSampleStreamTileEnd
  extract_lets +onlyGivenNames -underBinder -merge -useContext v0
  have h_v0 : Keeps (elapse dt s0) v0 := by
    unfold v0
    exact Keeps.refl _
  try clear_value v0
  refine Ends.done ?_
  split
  · exact h_v0
  · split
    · exact h_v0
    · refine Keeps.ite (fun _ => ?_) (fun _ => ?_)
      · exact h_v0
      · extract_lets +onlyGivenNames -underBinder -merge -useContext v18
        try clear_value v18
        extract_lets +onlyGivenNames -underBinder -merge -useContext v20
        have h_v20 : Keeps (elapse dt s0) v20 := by
          unfold v20
          refine Keeps.trans ?_ (kept_releaseOutputs _ _ _ _)
          refine Keeps.trans ?_ (kept_countTile _ _ _ _)
          refine Keeps.trans ?_ (kept_leaveTile _ _)
          exact h_v0
        try clear_value v20
        refine Keeps.trans ?_ (kept_endSample _ _ _ _ _ _ _)
        exact h_v20

theorem kept_startRecompute (lcn : Nat) (original : Nat) (count : Nat) (epoch : Nat) (t : Tile) (stream : Option (Nat × Nat)) (outbound : Bool) (s0 : State) : Keeps s0 (startRecompute lcn original count epoch t stream outbound s0) := by
  unfold startRecompute
  extract_lets +onlyGivenNames -underBinder -merge -useContext v0
  try clear_value v0
  extract_lets +onlyGivenNames -underBinder -merge -useContext v2
  try clear_value v2
  refine Keeps.trans ?_ (kept_addSobj _ _ _ _)
  refine Keeps.trans ?_ (kept_setRecompute _ _ _)
  refine Keeps.trans ?_ (kept_pinInputs _ _ _)
  exact Keeps.refl _

theorem ends_execContractionTileEnd (dt : Nat) (lcn : Nat) (taps : Taps) (r : RunResult) (s0 : State) : Ends (elapse dt s0) (execContractionTileEnd dt lcn taps r s0) := by
  unfold execContractionTileEnd
  extract_lets +onlyGivenNames -underBinder -merge -useContext v0
  have h_v0 : Keeps (elapse dt s0) v0 := by
    unfold v0
    exact Keeps.refl _
  try clear_value v0
  refine Ends.done ?_
  split
  · exact h_v0
  · split
    · exact h_v0
    · extract_lets +onlyGivenNames -underBinder -merge -useContext v14
      try clear_value v14
      refine Keeps.ite (fun _ => ?_) (fun _ => ?_)
      · exact h_v0
      · extract_lets +onlyGivenNames -underBinder -merge -useContext v20
        try clear_value v20
        extract_lets +onlyGivenNames -underBinder -merge -useContext v22
        try clear_value v22
        extract_lets +onlyGivenNames -underBinder -merge -useContext v24
        try clear_value v24
        extract_lets +onlyGivenNames -underBinder -merge -useContext v26
        try clear_value v26
        extract_lets +onlyGivenNames -underBinder -merge -useContext v28
        try clear_value v28
        extract_lets +onlyGivenNames -underBinder -merge -useContext v30
        try clear_value v30
        extract_lets +onlyGivenNames -underBinder -merge -useContext v32
        have h_v32 : Keeps (elapse dt s0) v32 := by
          unfold v32
          refine Keeps.trans ?_ (kept_leaveTile _ _)
          refine Keeps.trans ?_ (kept_modLcn _ _ _)
          exact h_v0
        try clear_value v32
        extract_lets +onlyGivenNames -underBinder -merge -useContext v39
        have h_v39 : Keeps (elapse dt s0) v39 := by
          unfold v39
          refine Keeps.trans ?_ (kept_countTile _ _ _ _)
          exact h_v32
        try clear_value v39
        extract_lets +onlyGivenNames -underBinder -merge -useContext v45
        try clear_value v45
        extract_lets +onlyGivenNames -underBinder -merge -useContext v47
        split
        · rename_i hq_
          have hk_ : Keeps (elapse dt s0) _ := Keeps.of_eq1 hq_ (by
            refine Keeps.trans ?_ (kept_verdictOn _ _ _ _ _ _ _)
            exact h_v39
            )
          extract_lets +onlyGivenNames -underBinder -merge -useContext v55
          split
          · extract_lets +onlyGivenNames -underBinder -merge -useContext v58
            have h_v58 : Keeps (elapse dt s0) v58 := by
              unfold v58
              refine Keeps.trans ?_ (kept_releaseOutputs _ _ _ _)
              try unfold v55
              try beta_reduce
              refine Keeps.ite (fun _ => ?_) (fun _ => ?_)
              · exact hk_
              · refine Keeps.trans ?_ (kept_addSobj _ _ _ _)
                exact hk_
            try clear_value v58
            extract_lets +onlyGivenNames -underBinder -merge -useContext v71
            try clear_value v71
            extract_lets +onlyGivenNames -underBinder -merge -useContext v73
            have h_v73 : Keeps (elapse dt s0) v73 := by
              unfold v73
              refine Keeps.ite (fun _ => ?_) (fun _ => ?_)
              · refine Keeps.trans ?_ (kept_orderImmediate _ _ _)
                refine Keeps.trans ?_ (kept_pinInputs _ _ _)
                refine Keeps.trans ?_ (kept_modLcn _ _ _)
                exact h_v58
              · exact h_v58
            try clear_value v73
            try unfold v47
            try beta_reduce
            refine Keeps.ite (fun _ => ?_) (fun _ => ?_)
            · refine Keeps.trans ?_ (kept_endSample _ _ _ _ _ _ _)
              exact h_v73
            · exact h_v73
          · try unfold v47
            try beta_reduce
            refine Keeps.ite (fun _ => ?_) (fun _ => ?_)
            · refine Keeps.trans ?_ (kept_endSample _ _ _ _ _ _ _)
              refine Keeps.trans ?_ (kept_orderUnchecked _ _ _ _ _ _ _ _ _)
              refine Keeps.trans ?_ (kept_storeOutputs _ _ _ _ _)
              exact hk_
            · refine Keeps.trans ?_ (kept_orderUnchecked _ _ _ _ _ _ _ _ _)
              refine Keeps.trans ?_ (kept_storeOutputs _ _ _ _ _)
              exact hk_
          · extract_lets +onlyGivenNames -underBinder -merge -useContext v107
            have h_v107 : Keeps (elapse dt s0) v107 := by
              unfold v107
              refine Keeps.trans ?_ (kept_storeOutputs _ _ _ _ _)
              refine Keeps.trans ?_ (kept_addSobj _ _ _ _)
              try unfold v55
              try beta_reduce
              refine Keeps.ite (fun _ => ?_) (fun _ => ?_)
              · exact hk_
              · refine Keeps.trans ?_ (kept_addSobj _ _ _ _)
                exact hk_
            try clear_value v107
            extract_lets +onlyGivenNames -underBinder -merge -useContext v121
            have h_v121 : Keeps (elapse dt s0) v121 := by
              unfold v121
              refine Keeps.ite (fun _ => ?_) (fun _ => ?_)
              · exact h_v107
              · refine Keeps.trans ?_ (kept_addSobj _ _ _ _)
                exact h_v107
            try clear_value v121
            extract_lets +onlyGivenNames -underBinder -merge -useContext v131
            have h_v131 : Keeps (elapse dt s0) v131 := by
              unfold v131
              refine Keeps.trans ?_ (kept_startRecompute _ _ _ _ _ _ _ _)
              exact h_v121
            try clear_value v131
            try unfold v47
            try beta_reduce
            refine Keeps.ite (fun _ => ?_) (fun _ => ?_)
            · refine Keeps.trans ?_ (kept_endSample _ _ _ _ _ _ _)
              refine Keeps.trans ?_ (kept_reportFailure _ _ _ _ _ _ _ _ _ _ _ _)
              exact h_v131
            · refine Keeps.trans ?_ (kept_reportFailure _ _ _ _ _ _ _ _ _ _ _ _)
              exact h_v131

end Sys2Proof.Machine
end

