-- ==== Sys2Proof/Laws/Kept/Replay.lean ====
section
/-!
SUPPORT. What the operations and commands of Machine/Replay.lean keep (see Laws/Keeps.lean).
-/
namespace Sys2Proof.Machine

theorem kept_reportCause (p : Nat) (cause : Nat) (code : Nat) (k : Nat) (payload : List Byte) (keys : List (Nat × Nat)) (s0 : State) : Keeps s0 (reportCause p cause code k payload keys s0) := by
  unfold reportCause
  refine Keeps.trans ?_ (kept_raise _ _ _)
  exact Keeps.refl _

theorem kept_endPairTile (lcn : Nat) (p : Nat) (t : Tile) (s0 : State) : Keeps s0 (endPairTile lcn p t s0) := by
  unfold endPairTile
  split
  · rename_i hq_
    have hk_ : Keeps s0 _ := Keeps.of_eq1 hq_ (by
      refine Keeps.trans ?_ (kept_takeNat _)
      exact Keeps.refl _
      )
    extract_lets +onlyGivenNames -underBinder -merge -useContext v7
    try clear_value v7
    extract_lets +onlyGivenNames -underBinder -merge -useContext v9
    try clear_value v9
    refine Keeps.trans ?_ (kept_modLcn _ _ _)
    refine Keeps.trans ?_ (kept_countTile _ _ _ _)
    refine Keeps.trans ?_ (kept_leaveTile _ _)
    exact hk_

theorem kept_interruptCore (p : Nat) (s0 : State) : Keeps s0 (interruptCore p s0) := by
  unfold interruptCore
  refine Keeps.trans ?_ (kept_modHeld _ _ _)
  exact Keeps.refl _

theorem ends_execFullPairTileEnd (dt : Nat) (lcn : Nat) (leader : RunResult) (follower : RunResult) (s0 : State) : Ends (elapse dt s0) (execFullPairTileEnd dt lcn leader follower s0) := by
  unfold execFullPairTileEnd
  extract_lets +onlyGivenNames -underBinder -merge -useContext v0
  have h_v0 : Keeps (elapse dt s0) v0 := by
    unfold v0
    exact Keeps.refl _
  try clear_value v0
  refine Ends.done ?_
  split
  · exact h_v0
  · split
    · refine Keeps.ite (fun _ => ?_) (fun _ => ?_)
      · exact h_v0
      · extract_lets +onlyGivenNames -underBinder -merge -useContext v16
        try clear_value v16
        extract_lets +onlyGivenNames -underBinder -merge -useContext v18
        try clear_value v18
        extract_lets +onlyGivenNames -underBinder -merge -useContext v20
        try clear_value v20
        extract_lets +onlyGivenNames -underBinder -merge -useContext v22
        try clear_value v22
        extract_lets +onlyGivenNames -underBinder -merge -useContext v24
        have h_v24 : Keeps (elapse dt s0) v24 := by
          unfold v24
          refine Keeps.trans ?_ (kept_endPairTile _ _ _ _)
          refine Keeps.trans ?_ (kept_endPairTile _ _ _ _)
          exact h_v0
        try clear_value v24
        extract_lets +onlyGivenNames -underBinder -merge -useContext v31
        have h_v31 : Keeps (elapse dt s0) v31 := by
          unfold v31
          refine Keeps.ite (fun _ => ?_) (fun _ => ?_)
          · refine Keeps.trans ?_ (kept_countIneligible _ _ _)
            exact h_v24
          · exact h_v24
        try clear_value v31
        refine Keeps.ite (fun _ => ?_) (fun _ => ?_)
        · refine Keeps.trans ?_ (kept_startHeld _ _)
          refine Keeps.trans ?_ (kept_releaseOutputs _ _ _ _)
          exact h_v31
        · extract_lets +onlyGivenNames -underBinder -merge -useContext v47
          try clear_value v47
          extract_lets +onlyGivenNames -underBinder -merge -useContext v49
          have h_v49 : Keeps (elapse dt s0) v49 := by
            unfold v49
            refine Keeps.trans ?_ (kept_addSobj _ _ _ _)
            exact h_v31
          try clear_value v49
          extract_lets +onlyGivenNames -underBinder -merge -useContext w55_0 v55
          have h_v55 : Keeps (elapse dt s0) v55 := by
            unfold v55
            refine Keeps.trans ?_ (kept_raise _ _ _)
            exact h_v49
          try clear_value v55
          extract_lets +onlyGivenNames -underBinder -merge -useContext v61
          have h_v61 : Keeps (elapse dt s0) v61 := by
            unfold v61
            refine Keeps.trans ?_ (kept_interruptCore _ _)
            refine Keeps.trans ?_ (kept_interruptCore _ _)
            refine Keeps.trans ?_ (kept_storeOutputs _ _ _ _ _)
            exact h_v55
          try clear_value v61
          extract_lets +onlyGivenNames -underBinder -merge -useContext v69
          try clear_value v69
          extract_lets +onlyGivenNames -underBinder -merge -useContext v71
          try clear_value v71
          extract_lets +onlyGivenNames -underBinder -merge -useContext v73
          try clear_value v73
          extract_lets +onlyGivenNames -underBinder -merge -useContext v75
          try clear_value v75
          extract_lets +onlyGivenNames -underBinder -merge -useContext v77
          try clear_value v77
          extract_lets +onlyGivenNames -underBinder -merge -useContext v79
          have h_v79 : Keeps (elapse dt s0) v79 := by
            unfold v79
            refine Keeps.foldl (fun s0 a => ?_) ?_
            · try beta_reduce
              refine Keeps.trans ?_ (kept_modHeld _ _ _)
              exact Keeps.refl _
            · exact h_v61
          try clear_value v79
          extract_lets +onlyGivenNames -underBinder -merge -useContext v90
          try clear_value v90
          refine Keeps.update ?_
          exact h_v79
    · exact h_v0

theorem ends_execReplayGroupEnd (dt : Nat) (lcn : Nat) (group : Nat) (s0 : State) : Ends (elapse dt s0) (execReplayGroupEnd dt lcn group s0) := by
  unfold execReplayGroupEnd
  extract_lets +onlyGivenNames -underBinder -merge -useContext v0
  have h_v0 : Keeps (elapse dt s0) v0 := by
    unfold v0
    exact Keeps.refl _
  try clear_value v0
  extract_lets +onlyGivenNames -underBinder -merge -useContext v5
  try clear_value v5
  extract_lets +onlyGivenNames -underBinder -merge -useContext v7
  try clear_value v7
  refine Ends.done ?_
  split
  · exact h_v0
  · refine Keeps.ite (fun _ => ?_) (fun _ => ?_)
    · exact h_v0
    · extract_lets +onlyGivenNames -underBinder -merge -useContext v18
      try clear_value v18
      extract_lets +onlyGivenNames -underBinder -merge -useContext v20
      have h_v20 : Keeps (elapse dt s0) v20 := by
        unfold v20
        refine Keeps.trans ?_ (kept_modLcn _ _ _)
        exact h_v0
      try clear_value v20
      extract_lets +onlyGivenNames -underBinder -merge -useContext v26
      have h_v26 : Keeps (elapse dt s0) v26 := by
        unfold v26
        refine Keeps.ite (fun _ => ?_) (fun _ => ?_)
        · exact h_v20
        · refine Keeps.trans ?_ (kept_addSobj _ _ _ _)
          exact h_v20
      try clear_value v26
      refine Keeps.trans ?_ (kept_refreshBound _ _)
      refine Keeps.trans ?_ (kept_modSlice _ _ _)
      exact h_v26

theorem kept_raiseSuspect (k : Nat) (lcn : Nat) (p : Nat) (released : Option (Nat × Nat)) (s0 : State) : Keeps s0 (raiseSuspect k lcn p released s0) := by
  unfold raiseSuspect
  split
  · exact Keeps.refl _
  · extract_lets +onlyGivenNames -underBinder -merge -useContext v4
    have h_v4 : Keeps s0 v4 := by
      unfold v4
      refine Keeps.trans ?_ (kept_setSobjs _ _ _)
      exact Keeps.refl _
    try clear_value v4
    extract_lets +onlyGivenNames -underBinder -merge -useContext v10
    have h_v10 : Keeps s0 v10 := by
      unfold v10
      refine Keeps.trans ?_ (kept_setSobj _ _ _ _)
      exact h_v4
    try clear_value v10
    extract_lets +onlyGivenNames -underBinder -merge -useContext w16_0 v16
    try clear_value v16
    refine Keeps.trans ?_ (kept_raiseLocal _ _ _)
    exact h_v10

theorem kept_writeSelected (p : Nat) (d : Descriptor) (words : List Word64) (current : List Word64) (s0 : State) : Keeps s0 (writeSelected p d words current s0) := by
  unfold writeSelected
  refine Keeps.foldl (fun s0 a => ?_) ?_
  · try beta_reduce
    split
    · refine Keeps.ite (fun _ => ?_) (fun _ => ?_)
      · refine Keeps.trans ?_ (kept_setSram _ _ _ _)
        exact Keeps.refl _
      · exact Keeps.refl _
    · exact Keeps.refl _
  · exact Keeps.refl _

theorem kept_resumeCore (p : Nat) (s0 : State) : Keeps s0 (resumeCore p s0) := by
  unfold resumeCore
  extract_lets +onlyGivenNames -underBinder -merge -useContext v0
  try clear_value v0
  extract_lets +onlyGivenNames -underBinder -merge -useContext v2
  have h_v2 : Keeps s0 v2 := by
    unfold v2
    refine Keeps.trans ?_ (kept_modHeld _ _ _)
    exact Keeps.refl _
  try clear_value v2
  split
  · refine Keeps.trans ?_ (kept_startTile _ _ _ _)
    exact h_v2
  · exact h_v2

theorem ends_execTieBreakComplete (dt : Nat) (lcn : Nat) (r : RunResult) (current : List Word64) (s0 : State) : Ends (elapse dt s0) (execTieBreakComplete dt lcn r current s0) := by
  unfold execTieBreakComplete
  extract_lets +onlyGivenNames -underBinder -merge -useContext v0
  have h_v0 : Keeps (elapse dt s0) v0 := by
    unfold v0
    exact Keeps.refl _
  try clear_value v0
  refine Ends.done ?_
  split
  · exact h_v0
  · extract_lets +onlyGivenNames -underBinder -merge -useContext v10
    try clear_value v10
    extract_lets +onlyGivenNames -underBinder -merge -useContext v12
    try clear_value v12
    extract_lets +onlyGivenNames -underBinder -merge -useContext v14
    try clear_value v14
    extract_lets +onlyGivenNames -underBinder -merge -useContext v16
    try clear_value v16
    extract_lets +onlyGivenNames -underBinder -merge -useContext v18
    try clear_value v18
    extract_lets +onlyGivenNames -underBinder -merge -useContext v20
    have h_v20 : Keeps (elapse dt s0) v20 := by
      unfold v20
      refine Keeps.update ?_
      exact h_v0
    try clear_value v20
    extract_lets +onlyGivenNames -underBinder -merge -useContext v26
    have h_v26 : Keeps (elapse dt s0) v26 := by
      unfold v26
      refine Keeps.trans ?_ (kept_setSobjs _ _ _)
      exact h_v20
    try clear_value v26
    extract_lets +onlyGivenNames -underBinder -merge -useContext v32
    try clear_value v32
    extract_lets +onlyGivenNames -underBinder -merge -useContext v34
    try clear_value v34
    extract_lets +onlyGivenNames -underBinder -merge -useContext v36
    try clear_value v36
    split
    · extract_lets +onlyGivenNames -underBinder -merge -useContext v40
      have h_v40 : Keeps (elapse dt s0) v40 := by
        unfold v40
        refine Keeps.trans ?_ (kept_writeSelected _ _ _ _ _)
        exact h_v26
      try clear_value v40
      refine Keeps.trans ?_ (kept_raiseSuspect _ _ _ _ _)
      refine Keeps.trans ?_ (kept_reportCause _ _ _ _ _ _ _)
      exact h_v40
    · extract_lets +onlyGivenNames -underBinder -merge -useContext v50
      have h_v50 : Keeps (elapse dt s0) v50 := by
        unfold v50
        refine Keeps.trans ?_ (kept_addSobj _ _ _ _)
        exact h_v26
      try clear_value v50
      extract_lets +onlyGivenNames -underBinder -merge -useContext w56_0 v56
      try clear_value v56
      extract_lets +onlyGivenNames -underBinder -merge -useContext v58
      have h_v58 : Keeps (elapse dt s0) v58 := by
        unfold v58
        refine Keeps.trans ?_ (kept_reportCause _ _ _ _ _ _ _)
        refine Keeps.trans ?_ (kept_raise _ _ _)
        exact h_v50
      try clear_value v58
      extract_lets +onlyGivenNames -underBinder -merge -useContext v65
      have h_v65 : Keeps (elapse dt s0) v65 := by
        unfold v65
        refine Keeps.ite (fun _ => ?_) (fun _ => ?_)
        · refine Keeps.trans ?_ (kept_unpinInputs _ _ _)
          refine Keeps.trans ?_ (kept_releaseOutputs _ _ _ _)
          exact h_v58
        · exact h_v58
      try clear_value v65
      refine Keeps.ite (fun _ => ?_) (fun _ => ?_)
      · refine Keeps.trans ?_ (kept_resumeCore _ _)
        exact h_v65
      · exact h_v65
    · extract_lets +onlyGivenNames -underBinder -merge -useContext v83
      have h_v83 : Keeps (elapse dt s0) v83 := by
        unfold v83
        refine Keeps.trans ?_ (kept_poisonOutputs _ _ _ _ _ _)
        refine Keeps.trans ?_ (kept_addSobj _ _ _ _)
        exact h_v26
      try clear_value v83
      extract_lets +onlyGivenNames -underBinder -merge -useContext v90
      have h_v90 : Keeps (elapse dt s0) v90 := by
        unfold v90
        refine Keeps.trans ?_ (kept_reportCause _ _ _ _ _ _ _)
        exact h_v83
      try clear_value v90
      extract_lets +onlyGivenNames -underBinder -merge -useContext v96
      have h_v96 : Keeps (elapse dt s0) v96 := by
        unfold v96
        refine Keeps.trans ?_ (kept_raise _ _ _)
        exact h_v90
      try clear_value v96
      refine Keeps.trans ?_ (kept_raiseSuspect _ _ _ _ _)
      exact h_v96

theorem ends_execWithholdRepeat (dt : Nat) (core_ : Pua) (s0 : State) : Ends (elapse dt s0) (execWithholdRepeat dt core_ s0) := by
  unfold execWithholdRepeat
  extract_lets +onlyGivenNames -underBinder -merge -useContext v0
  have h_v0 : Keeps (elapse dt s0) v0 := by
    unfold v0
    exact Keeps.refl _
  try clear_value v0
  extract_lets +onlyGivenNames -underBinder -merge -useContext v5
  try clear_value v5
  extract_lets +onlyGivenNames -underBinder -merge -useContext v7
  try clear_value v7
  refine Ends.done ?_
  split
  · exact h_v0
  · extract_lets +onlyGivenNames -underBinder -merge -useContext v14
    try clear_value v14
    refine Keeps.ite (fun _ => ?_) (fun _ => ?_)
    · exact h_v0
    · extract_lets +onlyGivenNames -underBinder -merge -useContext v20
      try clear_value v20
      extract_lets +onlyGivenNames -underBinder -merge -useContext v22
      try clear_value v22
      refine Keeps.trans ?_ (kept_reportCause _ _ _ _ _ _ _)
      exact h_v0

theorem ends_execPinnedBlockFetch (dt : Nat) (core_ : Pua) (block : Nat) (s0 : State) : Ends (elapse dt s0) (execPinnedBlockFetch dt core_ block s0) := by
  unfold execPinnedBlockFetch
  extract_lets +onlyGivenNames -underBinder -merge -useContext v0
  have h_v0 : Keeps (elapse dt s0) v0 := by
    unfold v0
    exact Keeps.refl _
  try clear_value v0
  extract_lets +onlyGivenNames -underBinder -merge -useContext v5
  try clear_value v5
  refine Ends.done ?_
  refine Keeps.ite (fun _ => ?_) (fun _ => ?_)
  · refine Keeps.trans ?_ (kept_releasePins _ _ _)
    exact h_v0
  · exact h_v0

theorem kept_noteMatch (d : Descriptor) (s0 : State) : Keeps s0 (noteMatch d s0) := by
  unfold noteMatch
  refine Keeps.ite (fun _ => ?_) (fun _ => ?_)
  · exact Keeps.refl _
  · refine Keeps.trans ?_ (kept_modLcn _ _ _)
    exact Keeps.refl _

theorem kept_replayMatches (d : Descriptor) (s0 : State) : Keeps s0 (replayMatches d s0) := by
  unfold replayMatches
  extract_lets +onlyGivenNames -underBinder -merge -useContext v0
  try clear_value v0
  extract_lets +onlyGivenNames -underBinder -merge -useContext v2
  have h_v2 : Keeps s0 v2 := by
    unfold v2
    refine Keeps.trans ?_ (kept_addSobj _ _ _ _)
    exact Keeps.refl _
  try clear_value v2
  refine Keeps.ite (fun _ => ?_) (fun _ => ?_)
  · refine Keeps.trans ?_ (kept_noteMatch _ _)
    exact h_v2
  · extract_lets +onlyGivenNames -underBinder -merge -useContext v13
    try clear_value v13
    extract_lets +onlyGivenNames -underBinder -merge -useContext v15
    try clear_value v15
    refine Keeps.ite (fun _ => ?_) (fun _ => ?_)
    · refine Keeps.trans ?_ (kept_noteReleased _ _ _)
      refine Keeps.trans ?_ (kept_noteMatch _ _)
      refine Keeps.trans ?_ (kept_unpinInputs _ _ _)
      refine Keeps.trans ?_ (kept_releaseOutputs _ _ _ _)
      exact h_v2
    · split
      · refine Keeps.trans ?_ (kept_noteReleased _ _ _)
        refine Keeps.trans ?_ (kept_releaseOutputs _ _ _ _)
        refine Keeps.trans ?_ (kept_endRecompute _ _ _)
        exact h_v2
      · exact h_v2

theorem kept_startTieBreak (d : Descriptor) (rc : Nat) (r : RunResult) (s0 : State) : Keeps s0 (startTieBreak d rc r s0) := by
  unfold startTieBreak
  extract_lets +onlyGivenNames -underBinder -merge -useContext v0
  try clear_value v0
  extract_lets +onlyGivenNames -underBinder -merge -useContext v2
  try clear_value v2
  extract_lets +onlyGivenNames -underBinder -merge -useContext w4_0 v4
  try clear_value v4
  extract_lets +onlyGivenNames -underBinder -merge -useContext v6
  try clear_value v6
  extract_lets +onlyGivenNames -underBinder -merge -useContext v8
  have h_v8 : Keeps s0 v8 := by
    unfold v8
    refine Keeps.trans ?_ (kept_raise _ _ _)
    exact Keeps.refl _
  try clear_value v8
  extract_lets +onlyGivenNames -underBinder -merge -useContext v14
  have h_v14 : Keeps s0 v14 := by
    unfold v14
    refine Keeps.ite (fun _ => ?_) (fun _ => ?_)
    · refine Keeps.trans ?_ (kept_interruptCore _ _)
      exact h_v8
    · exact h_v8
  try clear_value v14
  extract_lets +onlyGivenNames -underBinder -merge -useContext v24
  try clear_value v24
  extract_lets +onlyGivenNames -underBinder -merge -useContext v26
  try clear_value v26
  refine Keeps.update ?_
  exact h_v14

theorem kept_replayDiffers (d : Descriptor) (rc : Nat) (r : RunResult) (s0 : State) : Keeps s0 (replayDiffers d rc r s0) := by
  unfold replayDiffers
  extract_lets +onlyGivenNames -underBinder -merge -useContext v0
  try clear_value v0
  refine Keeps.ite (fun _ => ?_) (fun _ => ?_)
  · split
    · refine Keeps.trans ?_ (kept_nextAttempt _ _ _ _)
      refine Keeps.trans ?_ (kept_raise _ _ _)
      exact Keeps.refl _
    · exact Keeps.refl _
  · refine Keeps.trans ?_ (kept_startTieBreak _ _ _ _)
    refine Keeps.trans ?_ (kept_addSobj _ _ _ _)
    exact Keeps.refl _

theorem ends_execReplayComplete (dt : Nat) (lcn : Nat) (fetched : List Word64) (r : RunResult) (s0 : State) : Ends (elapse dt s0) (execReplayComplete dt lcn fetched r s0) := by
  unfold execReplayComplete
  extract_lets +onlyGivenNames -underBinder -merge -useContext v0
  have h_v0 : Keeps (elapse dt s0) v0 := by
    unfold v0
    exact Keeps.refl _
  try clear_value v0
  refine Ends.done ?_
  split
  · exact h_v0
  · refine Keeps.ite (fun _ => ?_) (fun _ => ?_)
    · exact h_v0
    · extract_lets +onlyGivenNames -underBinder -merge -useContext v14
      try clear_value v14
      extract_lets +onlyGivenNames -underBinder -merge -useContext v16
      try clear_value v16
      extract_lets +onlyGivenNames -underBinder -merge -useContext v18
      have h_v18 : Keeps (elapse dt s0) v18 := by
        unfold v18
        refine Keeps.trans ?_ (kept_spareMove _ _)
        refine Keeps.trans ?_ (kept_modCore _ _ _)
        exact h_v0
      try clear_value v18
      extract_lets +onlyGivenNames -underBinder -merge -useContext v25
      try clear_value v25
      refine Keeps.ite (fun _ => ?_) (fun _ => ?_)
      · extract_lets +onlyGivenNames -underBinder -merge -useContext v29
        have h_v29 : Keeps (elapse dt s0) v29 := by
          unfold v29
          refine Keeps.trans ?_ (kept_addSobj _ _ _ _)
          exact h_v18
        try clear_value v29
        refine Keeps.trans ?_ (kept_refillQueues _)
        refine Keeps.ite (fun _ => ?_) (fun _ => ?_)
        · refine Keeps.trans ?_ (kept_orderImmediate _ _ _)
          exact h_v29
        · refine Keeps.ite (fun _ => ?_) (fun _ => ?_)
          · exact h_v29
          · refine Keeps.trans ?_ (kept_modLcn _ _ _)
            exact h_v29
      · extract_lets +onlyGivenNames -underBinder -merge -useContext v48
        have h_v48 : Keeps (elapse dt s0) v48 := by
          unfold v48
          refine Keeps.trans ?_ (kept_addSobj _ _ _ _)
          exact h_v18
        try clear_value v48
        extract_lets +onlyGivenNames -underBinder -merge -useContext v54
        have h_v54 : Keeps (elapse dt s0) v54 := by
          unfold v54
          refine Keeps.trans ?_ (kept_modLcn _ _ _)
          exact h_v48
        try clear_value v54
        refine Keeps.trans ?_ (kept_refillQueues _)
        refine Keeps.ite (fun _ => ?_) (fun _ => ?_)
        · refine Keeps.trans ?_ (kept_replayMatches _ _)
          exact h_v54
        · refine Keeps.trans ?_ (kept_replayDiffers _ _ _ _)
          exact h_v54

theorem ends_execThirdExecutionComplete (dt : Nat) (lcn : Nat) (r : RunResult) (current : List Word64) (s0 : State) : Ends (elapse dt s0) (execThirdExecutionComplete dt lcn r current s0) := by
  unfold execThirdExecutionComplete
  extract_lets +onlyGivenNames -underBinder -merge -useContext v0
  have h_v0 : Keeps (elapse dt s0) v0 := by
    unfold v0
    exact Keeps.refl _
  try clear_value v0
  refine Ends.done ?_
  split
  · exact h_v0
  · extract_lets +onlyGivenNames -underBinder -merge -useContext v10
    try clear_value v10
    extract_lets +onlyGivenNames -underBinder -merge -useContext v12
    try clear_value v12
    extract_lets +onlyGivenNames -underBinder -merge -useContext v14
    try clear_value v14
    extract_lets +onlyGivenNames -underBinder -merge -useContext v16
    try clear_value v16
    extract_lets +onlyGivenNames -underBinder -merge -useContext v18
    try clear_value v18
    extract_lets +onlyGivenNames -underBinder -merge -useContext v20
    try clear_value v20
    extract_lets +onlyGivenNames -underBinder -merge -useContext v22
    have h_v22 : Keeps (elapse dt s0) v22 := by
      unfold v22
      refine Keeps.update ?_
      exact h_v0
    try clear_value v22
    extract_lets +onlyGivenNames -underBinder -merge -useContext v28
    have h_v28 : Keeps (elapse dt s0) v28 := by
      unfold v28
      refine Keeps.foldl (fun s0 a => ?_) ?_
      · try beta_reduce
        refine Keeps.trans ?_ (kept_startHeld _ _)
        refine Keeps.trans ?_ (kept_modHeld _ _ _)
        exact Keeps.refl _
      · exact h_v22
    try clear_value v28
    extract_lets +onlyGivenNames -underBinder -merge -useContext v40
    try clear_value v40
    split
    · extract_lets +onlyGivenNames -underBinder -merge -useContext v44
      have h_v44 : Keeps (elapse dt s0) v44 := by
        unfold v44
        refine Keeps.trans ?_ (kept_releaseOutputs _ _ _ _)
        exact h_v28
      try clear_value v44
      refine Keeps.trans ?_ (kept_resumeCore _ _)
      refine Keeps.trans ?_ (kept_reportCause _ _ _ _ _ _ _)
      refine Keeps.trans ?_ (kept_raise _ _ _)
      exact h_v44
    · extract_lets +onlyGivenNames -underBinder -merge -useContext v55
      have h_v55 : Keeps (elapse dt s0) v55 := by
        unfold v55
        refine Keeps.trans ?_ (kept_writeSelected _ _ _ _ _)
        exact h_v28
      try clear_value v55
      refine Keeps.trans ?_ (kept_resumeCore _ _)
      refine Keeps.trans ?_ (kept_reportCause _ _ _ _ _ _ _)
      exact h_v55
    · extract_lets +onlyGivenNames -underBinder -merge -useContext v65
      have h_v65 : Keeps (elapse dt s0) v65 := by
        unfold v65
        refine Keeps.trans ?_ (kept_poisonOutputs _ _ _ _ _ _)
        refine Keeps.trans ?_ (kept_addSobj _ _ _ _)
        exact h_v28
      try clear_value v65
      refine Keeps.trans ?_ (kept_reportCause _ _ _ _ _ _ _)
      refine Keeps.trans ?_ (kept_reportCause _ _ _ _ _ _ _)
      exact h_v65

end Sys2Proof.Machine
end

