-- ==== Sys2Proof/Laws/Kept/Streamers.lean ====
section
/-!
SUPPORT. What the operations and commands of Machine/Streamers.lean keep (see Laws/Keeps.lean).
-/
namespace Sys2Proof.Machine

theorem kept_closeTransfer (id : Nat) (s0 : State) : Keeps s0 (closeTransfer id s0) := by
  unfold closeTransfer
  refine Keeps.update ?_
  exact Keeps.refl _

theorem kept_refuseHost (t : Transfer) (w : Word64) (s0 : State) : Keeps s0 (refuseHost t w s0) := by
  unfold refuseHost
  extract_lets +onlyGivenNames -underBinder -merge -useContext v0
  try clear_value v0
  extract_lets +onlyGivenNames -underBinder -merge -useContext v2
  have h_v2 : Keeps s0 v2 := by
    unfold v2
    refine Keeps.trans ?_ (kept_addSobj _ _ _ _)
    refine Keeps.trans ?_ (kept_emit _ _)
    exact Keeps.refl _
  try clear_value v2
  split
  · exact h_v2
  · refine Keeps.ite (fun _ => ?_) (fun _ => ?_)
    · exact h_v2
    · extract_lets +onlyGivenNames -underBinder -merge -useContext v17
      have h_v17 : Keeps s0 v17 := by
        unfold v17
        refine Keeps.trans ?_ (kept_setSobjs _ _ _)
        exact h_v2
      try clear_value v17
      extract_lets +onlyGivenNames -underBinder -merge -useContext w23_0 v23
      try clear_value v23
      refine Keeps.trans ?_ (kept_stopSlice _ _)
      refine Keeps.trans ?_ (kept_modSlice _ _ _)
      refine Keeps.trans ?_ (kept_raise _ _ _)
      exact h_v17

theorem kept_setDram (a : DramAddr) (w : Word64) (payload : List Byte) (s0 : State) : Keeps s0 (setDram a w payload s0) := by
  unfold setDram
  refine Keeps.update ?_
  exact Keeps.refl _

theorem kept_landBlock (t : Transfer) (addr : Option DramAddr) (w : Word64) (payload : List Byte) (s0 : State) : Keeps s0 (landBlock t addr w payload s0) := by
  unfold landBlock
  extract_lets +onlyGivenNames -underBinder -merge -useContext v0
  try clear_value v0
  extract_lets +onlyGivenNames -underBinder -merge -useContext v2
  try clear_value v2
  refine Keeps.ite (fun _ => ?_) (fun _ => ?_)
  · refine Keeps.ite (fun _ => ?_) (fun _ => ?_)
    · refine Keeps.trans ?_ (kept_refuseHost _ _ _)
      exact Keeps.refl _
    · refine Keeps.trans ?_ (kept_carry _ _ _)
      refine Keeps.trans ?_ (kept_countDie _ _ _ _ _)
      exact Keeps.refl _
  · split
    · refine Keeps.trans ?_ (kept_carry _ _ _)
      refine Keeps.trans ?_ (kept_countDie _ _ _ _ _)
      refine Keeps.trans ?_ (kept_setDram _ _ _ _)
      exact Keeps.refl _
    · extract_lets +onlyGivenNames -underBinder -merge -useContext v22
      try clear_value v22
      extract_lets +onlyGivenNames -underBinder -merge -useContext v24
      have h_v24 : Keeps s0 v24 := by
        unfold v24
        refine Keeps.trans ?_ (kept_countCore _ _ _ _)
        exact Keeps.refl _
      try clear_value v24
      refine Keeps.ite (fun _ => ?_) (fun _ => ?_)
      · refine Keeps.trans ?_ (kept_addSobj _ _ _ _)
        refine Keeps.trans ?_ (kept_modCore _ _ _)
        exact h_v24
      · refine Keeps.trans ?_ (kept_progressEvent _ _)
        refine Keeps.trans ?_ (kept_startHeld _ _)
        refine Keeps.trans ?_ (kept_setSram _ _ _ _)
        exact h_v24

theorem kept_resolveTransfer (t : Transfer) (outcome : Nat) (good : Bool) (s0 : State) : Keeps s0 (resolveTransfer t outcome good s0) := by
  unfold resolveTransfer
  extract_lets +onlyGivenNames -underBinder -merge -useContext v0
  try clear_value v0
  extract_lets +onlyGivenNames -underBinder -merge -useContext v2
  try clear_value v2
  extract_lets +onlyGivenNames -underBinder -merge -useContext v4
  have h_v4 : Keeps s0 v4 := by
    unfold v4
    refine Keeps.trans ?_ (kept_setObj _ _ _)
    exact Keeps.refl _
  try clear_value v4
  extract_lets +onlyGivenNames -underBinder -merge -useContext v10
  have h_v10 : Keeps s0 v10 := by
    unfold v10
    refine Keeps.ite (fun _ => ?_) (fun _ => ?_)
    · refine Keeps.trans ?_ (kept_addSobj _ _ _ _)
      exact h_v4
    · exact h_v4
  try clear_value v10
  extract_lets +onlyGivenNames -underBinder -merge -useContext w20_0 v20
  try clear_value v20
  extract_lets +onlyGivenNames -underBinder -merge -useContext v22
  have h_v22 : Keeps s0 v22 := by
    unfold v22
    refine Keeps.trans ?_ (kept_raise _ _ _)
    exact h_v10
  try clear_value v22
  extract_lets +onlyGivenNames -underBinder -merge -useContext v28
  have h_v28 : Keeps s0 v28 := by
    unfold v28
    refine Keeps.ite (fun _ => ?_) (fun _ => ?_)
    · refine Keeps.trans ?_ (kept_reportCause _ _ _ _ _ _ _)
      exact h_v22
    · exact h_v22
  try clear_value v28
  refine Keeps.trans ?_ (kept_closeTransfer _ _)
  exact h_v28

theorem kept_poisonPath (o : OpenTransfer) (s0 : State) : Keeps s0 (poisonPath o s0) := by
  unfold poisonPath
  extract_lets +onlyGivenNames -underBinder -merge -useContext v0
  try clear_value v0
  extract_lets +onlyGivenNames -underBinder -merge -useContext v2
  try clear_value v2
  extract_lets +onlyGivenNames -underBinder -merge -useContext v4
  try clear_value v4
  extract_lets +onlyGivenNames -underBinder -merge -useContext v6
  have h_v6 : Keeps s0 v6 := by
    unfold v6
    refine Keeps.trans ?_ (kept_poisonRecord _ _ _ _ _ _)
    refine Keeps.trans ?_ (kept_addSobj _ _ _ _)
    exact Keeps.refl _
  try clear_value v6
  refine Keeps.trans ?_ (kept_resolveTransfer _ _ _ _)
  refine Keeps.trans ?_ (kept_landBlock _ _ _ _ _)
  exact h_v6

theorem kept_leaveFlight (id : Nat) (s0 : State) : Keeps s0 (leaveFlight id s0) := by
  unfold leaveFlight
  refine Keeps.update ?_
  exact Keeps.refl _

theorem kept_failedFetch (o : OpenTransfer) (s0 : State) : Keeps s0 (failedFetch o s0) := by
  unfold failedFetch
  extract_lets +onlyGivenNames -underBinder -merge -useContext v0
  try clear_value v0
  extract_lets +onlyGivenNames -underBinder -merge -useContext v2
  try clear_value v2
  extract_lets +onlyGivenNames -underBinder -merge -useContext v4
  have h_v4 : Keeps s0 v4 := by
    unfold v4
    refine Keeps.trans ?_ (kept_leaveFlight _ _)
    exact Keeps.refl _
  try clear_value v4
  refine Keeps.ite (fun _ => ?_) (fun _ => ?_)
  · refine Keeps.trans ?_ (kept_poisonPath _ _)
    exact h_v4
  · refine Keeps.ite (fun _ => ?_) (fun _ => ?_)
    · extract_lets +onlyGivenNames -underBinder -merge -useContext v17
      try clear_value v17
      extract_lets +onlyGivenNames -underBinder -merge -useContext v19
      have h_v19 : Keeps s0 v19 := by
        unfold v19
        refine Keeps.ite (fun _ => ?_) (fun _ => ?_)
        · refine Keeps.trans ?_ (kept_addObj _ _ _)
          exact h_v4
        · exact h_v4
      try clear_value v19
      refine Keeps.trans ?_ (kept_emit _ _)
      extract_lets +onlyGivenNames -underBinder -merge -useContext v30
      have h_v30 : Keeps s0 v30 := by
        unfold v30
        refine Keeps.trans ?_ (kept_addSobj _ _ _ _)
        exact h_v19
      try clear_value v30
      refine Keeps.update ?_
      exact h_v30
    · extract_lets +onlyGivenNames -underBinder -merge -useContext v39
      try clear_value v39
      extract_lets +onlyGivenNames -underBinder -merge -useContext v41
      try clear_value v41
      extract_lets +onlyGivenNames -underBinder -merge -useContext v43
      try clear_value v43
      refine Keeps.trans ?_ (kept_raise _ _ _)
      refine Keeps.update ?_
      exact h_v4

theorem kept_mismatchArrival (t : Transfer) (addr : Option DramAddr) (s0 : State) : Keeps s0 (mismatchArrival t addr s0) := by
  unfold mismatchArrival
  extract_lets +onlyGivenNames -underBinder -merge -useContext v0
  try clear_value v0
  extract_lets +onlyGivenNames -underBinder -merge -useContext v2
  try clear_value v2
  extract_lets +onlyGivenNames -underBinder -merge -useContext v4
  have h_v4 : Keeps s0 v4 := by
    unfold v4
    refine Keeps.trans ?_ (kept_addSobj _ _ _ _)
    exact Keeps.refl _
  try clear_value v4
  extract_lets +onlyGivenNames -underBinder -merge -useContext v10
  have h_v10 : Keeps s0 v10 := by
    unfold v10
    refine Keeps.trans ?_ (kept_setObjs _ _)
    exact h_v4
  try clear_value v10
  split
  · refine Keeps.trans ?_ (kept_failedFetch _ _)
    exact h_v10
  · extract_lets +onlyGivenNames -underBinder -merge -useContext w21_0 v21
    have h_v21 : Keeps s0 v21 := by
      unfold v21
      refine Keeps.trans ?_ (kept_raise _ _ _)
      exact h_v10
    try clear_value v21
    refine Keeps.trans ?_ (kept_failedFetch _ _)
    exact h_v21

theorem kept_arrive (t : Transfer) (addr : Option DramAddr) (w : Word64) (payload : List Byte) (s0 : State) : Keeps s0 (arrive t addr w payload s0) := by
  unfold arrive
  extract_lets +onlyGivenNames -underBinder -merge -useContext v0
  try clear_value v0
  extract_lets +onlyGivenNames -underBinder -merge -useContext v2
  try clear_value v2
  extract_lets +onlyGivenNames -underBinder -merge -useContext v4
  try clear_value v4
  refine Keeps.ite (fun _ => ?_) (fun _ => ?_)
  · exact Keeps.refl _
  · split
    · extract_lets +onlyGivenNames -underBinder -merge -useContext v12
      have h_v12 : Keeps s0 v12 := by
        unfold v12
        refine Keeps.trans ?_ (kept_addObj _ _ _)
        refine Keeps.trans ?_ (kept_addSobj _ _ _ _)
        exact Keeps.refl _
      try clear_value v12
      refine Keeps.ite (fun _ => ?_) (fun _ => ?_)
      · refine Keeps.trans ?_ (kept_resolveTransfer _ _ _ _)
        exact h_v12
      · refine Keeps.trans ?_ (kept_closeTransfer _ _)
        exact h_v12
    · refine Keeps.trans ?_ (kept_mismatchArrival _ _ _)
      refine Keeps.trans ?_ (kept_addSobj _ _ _ _)
      exact Keeps.refl _
    · extract_lets +onlyGivenNames -underBinder -merge -useContext v31
      have h_v31 : Keeps s0 v31 := by
        unfold v31
        refine Keeps.trans ?_ (kept_landBlock _ _ _ _ _)
        refine Keeps.trans ?_ (kept_addSobj _ _ _ _)
        exact Keeps.refl _
      try clear_value v31
      split
      · refine Keeps.trans ?_ (kept_resolveTransfer _ _ _ _)
        exact h_v31
      · refine Keeps.trans ?_ (kept_closeTransfer _ _)
        exact h_v31

theorem kept_countHostIn (a : DramAddr) (k : Nat) (s0 : State) : Keeps s0 (countHostIn a k s0) := by
  unfold countHostIn
  refine Keeps.trans ?_ (kept_carry _ _ _)
  refine Keeps.trans ?_ (kept_countDie _ _ _ _ _)
  refine Keeps.trans ?_ (kept_countDie _ _ _ _ _)
  exact Keeps.refl _

theorem kept_poisonAtRest (a : DramAddr) (cause : Nat) (sub : Nat) (payload : List Byte) (s0 : State) : Keeps s0 (poisonAtRest a cause sub payload s0) := by
  unfold poisonAtRest
  extract_lets +onlyGivenNames -underBinder -merge -useContext v0
  try clear_value v0
  extract_lets +onlyGivenNames -underBinder -merge -useContext v2
  try clear_value v2
  extract_lets +onlyGivenNames -underBinder -merge -useContext v4
  try clear_value v4
  extract_lets +onlyGivenNames -underBinder -merge -useContext v6
  try clear_value v6
  extract_lets +onlyGivenNames -underBinder -merge -useContext v8
  have h_v8 : Keeps s0 v8 := by
    unfold v8
    refine Keeps.trans ?_ (kept_addObj _ _ _)
    refine Keeps.update ?_
    exact Keeps.refl _
  try clear_value v8
  refine Keeps.trans ?_ (kept_reportCause _ _ _ _ _ _ _)
  exact h_v8

theorem kept_mergeBlock (a : DramAddr) (k : Nat) (fmt : Nat) (offset : Nat) (old : List Byte) (bytes : List Byte) (s0 : State) : Keeps s0 (mergeBlock a k fmt offset old bytes s0) := by
  unfold mergeBlock
  extract_lets +onlyGivenNames -underBinder -merge -useContext v0
  try clear_value v0
  refine Keeps.trans ?_ (kept_countHostIn _ _ _)
  refine Keeps.trans ?_ (kept_setDram _ _ _ _)
  exact Keeps.refl _

theorem ends_execHostPartialWrite (dt : Nat) (a : DramAddr) (k : Nat) (offset : Nat) (bytes : List Byte) (s0 : State) : Ends (elapse dt s0) (execHostPartialWrite dt a k offset bytes s0) := by
  unfold execHostPartialWrite
  extract_lets +onlyGivenNames -underBinder -merge -useContext v0
  have h_v0 : Keeps (elapse dt s0) v0 := by
    unfold v0
    exact Keeps.refl _
  try clear_value v0
  refine Ends.done ?_
  refine Keeps.ite (fun _ => ?_) (fun _ => ?_)
  · refine Keeps.trans ?_ (kept_emit _ _)
    exact h_v0
  · extract_lets +onlyGivenNames -underBinder -merge -useContext v11
    have h_v11 : Keeps (elapse dt s0) v11 := by
      unfold v11
      refine Keeps.ite (fun _ => ?_) (fun _ => ?_)
      · exact h_v0
      · refine Keeps.trans ?_ (kept_poisonAtRest _ _ _ _ _)
        exact h_v0
    try clear_value v11
    extract_lets +onlyGivenNames -underBinder -merge -useContext v21
    try clear_value v21
    extract_lets +onlyGivenNames -underBinder -merge -useContext v23
    try clear_value v23
    extract_lets +onlyGivenNames -underBinder -merge -useContext v25
    split
    · refine Keeps.trans ?_ (kept_mergeBlock _ _ _ _ _ _ _)
      refine Keeps.trans ?_ (kept_addSobj _ _ _ _)
      exact h_v11
    · try unfold v25
      try beta_reduce
      refine Keeps.trans ?_ (kept_emit _ _)
      refine Keeps.trans ?_ (kept_addSobj _ _ _ _)
      exact h_v11
    · refine Keeps.ite (fun _ => ?_) (fun _ => ?_)
      · refine Keeps.ite (fun _ => ?_) (fun _ => ?_)
        · try unfold v25
          try beta_reduce
          refine Keeps.trans ?_ (kept_emit _ _)
          exact h_v11
        · refine Keeps.trans ?_ (kept_mergeBlock _ _ _ _ _ _ _)
          exact h_v11
      · try unfold v25
        try beta_reduce
        refine Keeps.trans ?_ (kept_emit _ _)
        refine Keeps.trans ?_ (kept_addObj _ _ _)
        refine Keeps.trans ?_ (kept_addSobj _ _ _ _)
        exact h_v11
    · extract_lets +onlyGivenNames -underBinder -merge -useContext v57
      try clear_value v57
      extract_lets +onlyGivenNames -underBinder -merge -useContext v59
      have h_v59 : Keeps (elapse dt s0) v59 := by
        unfold v59
        refine Keeps.trans ?_ (kept_addSobj _ _ _ _)
        refine Keeps.trans ?_ (kept_addSobj _ _ _ _)
        refine Keeps.trans ?_ (kept_addSobj _ _ _ _)
        exact h_v11
      try clear_value v59
      extract_lets +onlyGivenNames -underBinder -merge -useContext w67_0 v67
      have h_v67 : Keeps (elapse dt s0) v67 := by
        unfold v67
        refine Keeps.trans ?_ (kept_raise _ _ _)
        exact h_v59
      try clear_value v67
      try unfold v25
      try beta_reduce
      refine Keeps.trans ?_ (kept_emit _ _)
      refine Keeps.trans ?_ (kept_reportCause _ _ _ _ _ _ _)
      exact h_v67

theorem ends_execDramWrite (dt : Nat) (a : DramAddr) (t : Transfer) (w : Word64) (payload : List Byte) (s0 : State) : Ends (elapse dt s0) (execDramWrite dt a t w payload s0) := by
  unfold execDramWrite
  extract_lets +onlyGivenNames -underBinder -merge -useContext v0
  have h_v0 : Keeps (elapse dt s0) v0 := by
    unfold v0
    exact Keeps.refl _
  try clear_value v0
  refine Ends.done ?_
  refine Keeps.ite (fun _ => ?_) (fun _ => ?_)
  · refine Keeps.trans ?_ (kept_leaveFlight _ _)
    exact h_v0
  · refine Keeps.trans ?_ (kept_arrive _ _ _ _ _)
    exact h_v0

theorem ends_execDramRead (dt : Nat) (a : DramAddr) (first : List Byte) (second : List Byte) (uncorrectable : Bool) (corrected : Bool) (s0 : State) : Ends (elapse dt s0) (execDramRead dt a first second uncorrectable corrected s0) := by
  unfold execDramRead
  extract_lets +onlyGivenNames -underBinder -merge -useContext v0
  have h_v0 : Keeps (elapse dt s0) v0 := by
    unfold v0
    exact Keeps.refl _
  try clear_value v0
  extract_lets +onlyGivenNames -underBinder -merge -useContext v5
  try clear_value v5
  extract_lets +onlyGivenNames -underBinder -merge -useContext v7
  try clear_value v7
  extract_lets +onlyGivenNames -underBinder -merge -useContext v9
  try clear_value v9
  refine Ends.done ?_
  refine Keeps.ite (fun _ => ?_) (fun _ => ?_)
  · exact h_v0
  · extract_lets +onlyGivenNames -underBinder -merge -useContext v16
    have h_v16 : Keeps (elapse dt s0) v16 := by
      unfold v16
      refine Keeps.trans ?_ (kept_carry _ _ _)
      refine Keeps.trans ?_ (kept_countDie _ _ _ _ _)
      exact h_v0
    try clear_value v16
    refine Keeps.ite (fun _ => ?_) (fun _ => ?_)
    · refine Keeps.trans ?_ (kept_poisonAtRest _ _ _ _ _)
      exact h_v16
    · extract_lets +onlyGivenNames -underBinder -merge -useContext v28
      have h_v28 : Keeps (elapse dt s0) v28 := by
        unfold v28
        refine Keeps.ite (fun _ => ?_) (fun _ => ?_)
        · refine Keeps.trans ?_ (kept_reportCause _ _ _ _ _ _ _)
          exact h_v16
        · exact h_v16
      try clear_value v28
      split
      · rename_i hq_
        have hk_ : Keeps (elapse dt s0) _ := Keeps.of_eq1 hq_ (by
          refine Keeps.trans ?_ (kept_takeBit _)
          exact h_v28
          )
        split
        · rename_i hq_
          have hk_ : Keeps (elapse dt s0) _ := Keeps.of_eq1 hq_ (by
            refine Keeps.trans ?_ (kept_takeBit _)
            exact hk_
            )
          extract_lets +onlyGivenNames -underBinder -merge -useContext v52
          try clear_value v52
          extract_lets +onlyGivenNames -underBinder -merge -useContext v54
          try clear_value v54
          refine Keeps.ite (fun _ => ?_) (fun _ => ?_)
          · exact hk_
          · refine Keeps.ite (fun _ => ?_) (fun _ => ?_)
            · refine Keeps.trans ?_ (kept_reportCause _ _ _ _ _ _ _)
              refine Keeps.trans ?_ (kept_addObj _ _ _)
              exact hk_
            · refine Keeps.trans ?_ (kept_poisonAtRest _ _ _ _ _)
              exact hk_

theorem ends_execLostStackRequest (dt : Nat) (a : DramAddr) (write : Bool) (k : Nat) (gen : Nat) (s0 : State) : Ends (elapse dt s0) (execLostStackRequest dt a write k gen s0) := by
  unfold execLostStackRequest
  extract_lets +onlyGivenNames -underBinder -merge -useContext v0
  have h_v0 : Keeps (elapse dt s0) v0 := by
    unfold v0
    exact Keeps.refl _
  try clear_value v0
  extract_lets +onlyGivenNames -underBinder -merge -useContext v5
  try clear_value v5
  refine Ends.done ?_
  refine Keeps.ite (fun _ => ?_) (fun _ => ?_)
  · exact h_v0
  · refine Keeps.ite (fun _ => ?_) (fun _ => ?_)
    · refine Keeps.trans ?_ (kept_addObj _ _ _)
      exact h_v0
    · refine Keeps.trans ?_ (kept_poisonRecord _ _ _ _ _ _)
      refine Keeps.trans ?_ (kept_addObj _ _ _)
      exact h_v0

theorem kept_recoverBlock (p : Nat) (block : Nat) (s0 : State) : Keeps s0 (recoverBlock p block s0) := by
  unfold recoverBlock
  extract_lets +onlyGivenNames -underBinder -merge -useContext v0
  have h_v0 : Keeps s0 v0 := by
    unfold v0
    refine Keeps.trans ?_ (kept_modCore _ _ _)
    exact Keeps.refl _
  try clear_value v0
  split
  · exact h_v0
  · split
    · split
      · refine Keeps.trans ?_ (kept_startRecompute _ _ _ _ _ _ _ _)
        exact h_v0
      · exact h_v0
    · refine Keeps.trans ?_ (kept_failedFetch _ _)
      exact h_v0
    · exact h_v0

theorem ends_execOutboundBlockSend (dt : Nat) (core_ : Pua) (block : Nat) (payload : List Byte) (s0 : State) : Ends (elapse dt s0) (execOutboundBlockSend dt core_ block payload s0) := by
  unfold execOutboundBlockSend
  extract_lets +onlyGivenNames -underBinder -merge -useContext v0
  have h_v0 : Keeps (elapse dt s0) v0 := by
    unfold v0
    exact Keeps.refl _
  try clear_value v0
  extract_lets +onlyGivenNames -underBinder -merge -useContext v5
  try clear_value v5
  refine Ends.done ?_
  split
  · exact h_v0
  · refine Keeps.ite (fun _ => ?_) (fun _ => ?_)
    · exact h_v0
    · refine Keeps.ite (fun _ => ?_) (fun _ => ?_)
      · refine Keeps.trans ?_ (kept_countCore _ _ _ _)
        exact h_v0
      · refine Keeps.trans ?_ (kept_recoverBlock _ _ _)
        refine Keeps.trans ?_ (kept_addSobj _ _ _ _)
        exact h_v0

theorem ends_execRepairWaitExpiry (dt : Nat) (id : Nat) (s0 : State) : Ends (elapse dt s0) (execRepairWaitExpiry dt id s0) := by
  unfold execRepairWaitExpiry
  extract_lets +onlyGivenNames -underBinder -merge -useContext v0
  have h_v0 : Keeps (elapse dt s0) v0 := by
    unfold v0
    exact Keeps.refl _
  try clear_value v0
  refine Ends.done ?_
  split
  · exact h_v0
  · split
    · exact h_v0
    · refine Keeps.ite (fun _ => ?_) (fun _ => ?_)
      · exact h_v0
      · refine Keeps.trans ?_ (kept_poisonPath _ _)
        exact h_v0

theorem ends_execSeamBlockCheck (dt : Nat) (point : Pua) (id : Nat) (w : Word64) (payload : List Byte) (s0 : State) : Ends (elapse dt s0) (execSeamBlockCheck dt point id w payload s0) := by
  unfold execSeamBlockCheck
  extract_lets +onlyGivenNames -underBinder -merge -useContext v0
  have h_v0 : Keeps (elapse dt s0) v0 := by
    unfold v0
    exact Keeps.refl _
  try clear_value v0
  extract_lets +onlyGivenNames -underBinder -merge -useContext v5
  try clear_value v5
  extract_lets +onlyGivenNames -underBinder -merge -useContext v7
  try clear_value v7
  extract_lets +onlyGivenNames -underBinder -merge -useContext v9
  refine Ends.done ?_
  refine Keeps.ite (fun _ => ?_) (fun _ => ?_)
  · try unfold v9
    try beta_reduce
    refine Keeps.update ?_
    refine Keeps.trans ?_ (kept_addObj _ _ _)
    exact h_v0
  · extract_lets +onlyGivenNames -underBinder -merge -useContext v19
    have h_v19 : Keeps (elapse dt s0) v19 := by
      unfold v19
      refine Keeps.update ?_
      exact h_v0
    try clear_value v19
    refine Keeps.ite (fun _ => ?_) (fun _ => ?_)
    · try unfold v9
      try beta_reduce
      refine Keeps.update ?_
      exact h_v19
    · extract_lets +onlyGivenNames -underBinder -merge -useContext v32
      have h_v32 : Keeps (elapse dt s0) v32 := by
        unfold v32
        try unfold v9
        try beta_reduce
        refine Keeps.update ?_
        exact h_v19
      try clear_value v32
      refine Keeps.trans ?_ (kept_raise _ _ _)
      refine Keeps.trans ?_ (kept_addObj _ _ _)
      exact h_v32

theorem ends_execSramParityError (dt : Nat) (core_ : Pua) (block : Nat) (s0 : State) : Ends (elapse dt s0) (execSramParityError dt core_ block s0) := by
  unfold execSramParityError
  extract_lets +onlyGivenNames -underBinder -merge -useContext v0
  have h_v0 : Keeps (elapse dt s0) v0 := by
    unfold v0
    exact Keeps.refl _
  try clear_value v0
  extract_lets +onlyGivenNames -underBinder -merge -useContext v5
  try clear_value v5
  extract_lets +onlyGivenNames -underBinder -merge -useContext w7_0 v7
  try clear_value v7
  extract_lets +onlyGivenNames -underBinder -merge -useContext v9
  have h_v9 : Keeps (elapse dt s0) v9 := by
    unfold v9
    refine Keeps.trans ?_ (kept_modCore _ _ _)
    refine Keeps.trans ?_ (kept_raise _ _ _)
    exact h_v0
  try clear_value v9
  refine Ends.done ?_
  refine Keeps.trans ?_ (kept_startHeld _ _)
  refine Keeps.trans ?_ (kept_recoverBlock _ _ _)
  exact h_v9

theorem ends_execHostIngress (dt : Nat) (a : DramAddr) (k : Nat) (fmt : Nat) (payload : List Byte) (s0 : State) : Ends (elapse dt s0) (execHostIngress dt a k fmt payload s0) := by
  unfold execHostIngress
  extract_lets +onlyGivenNames -underBinder -merge -useContext v0
  have h_v0 : Keeps (elapse dt s0) v0 := by
    unfold v0
    exact Keeps.refl _
  try clear_value v0
  refine Ends.done ?_
  refine Keeps.ite (fun _ => ?_) (fun _ => ?_)
  · refine Keeps.trans ?_ (kept_emit _ _)
    exact h_v0
  · refine Keeps.trans ?_ (kept_countHostIn _ _ _)
    refine Keeps.trans ?_ (kept_setDram _ _ _ _)
    exact h_v0

theorem ends_execBlockArrivalTimeout (dt : Nat) (t : Transfer) (addr : Option DramAddr) (s0 : State) : Ends (elapse dt s0) (execBlockArrivalTimeout dt t addr s0) := by
  unfold execBlockArrivalTimeout
  extract_lets +onlyGivenNames -underBinder -merge -useContext v0
  have h_v0 : Keeps (elapse dt s0) v0 := by
    unfold v0
    exact Keeps.refl _
  try clear_value v0
  refine Ends.done ?_
  split
  · extract_lets +onlyGivenNames -underBinder -merge -useContext v8
    try clear_value v8
    refine Keeps.ite (fun _ => ?_) (fun _ => ?_)
    · exact h_v0
    · refine Keeps.ite (fun _ => ?_) (fun _ => ?_)
      · refine Keeps.trans ?_ (kept_failedFetch _ _)
        exact h_v0
      · refine Keeps.trans ?_ (kept_mismatchArrival _ _ _)
        refine Keeps.trans ?_ (kept_addSobj _ _ _ _)
        exact h_v0
  · refine Keeps.ite (fun _ => ?_) (fun _ => ?_)
    · refine Keeps.trans ?_ (kept_leaveFlight _ _)
      refine Keeps.trans ?_ (kept_addObj _ _ _)
      exact h_v0
    · refine Keeps.trans ?_ (kept_mismatchArrival _ _ _)
      refine Keeps.trans ?_ (kept_addSobj _ _ _ _)
      exact h_v0

theorem kept_repairAfter (units : List Nat) (s0 : State) : Keeps s0 (repairAfter units s0) := by
  unfold repairAfter
  refine Keeps.foldl (fun s0 a => ?_) ?_
  · try beta_reduce
    extract_lets +onlyGivenNames -underBinder -merge -useContext w3_0 v3
    try clear_value v3
    refine Keeps.trans ?_ (kept_emit _ _)
    refine Keeps.trans ?_ (kept_addSobj _ _ _ _)
    refine Keeps.update ?_
    exact Keeps.refl _
  · exact Keeps.refl _

theorem ends_execBlockArrival (dt : Nat) (t : Transfer) (w : Word64) (payload : List Byte) (s0 : State) : Ends (elapse dt s0) (execBlockArrival dt t w payload s0) := by
  unfold execBlockArrival
  extract_lets +onlyGivenNames -underBinder -merge -useContext v0
  have h_v0 : Keeps (elapse dt s0) v0 := by
    unfold v0
    exact Keeps.refl _
  try clear_value v0
  extract_lets +onlyGivenNames -underBinder -merge -useContext v5
  try clear_value v5
  refine Ends.done ?_
  refine Keeps.ite (fun _ => ?_) (fun _ => ?_)
  · refine Keeps.trans ?_ (kept_leaveFlight _ _)
    refine Keeps.trans ?_ (kept_addObj _ _ _)
    exact h_v0
  · refine Keeps.trans ?_ (kept_arrive _ _ _ _ _)
    exact h_v0

end Sys2Proof.Machine
end

