-- ==== Sys2Proof/Laws/Kept/Commits.lean ====
section
/-!
SUPPORT. What the operations and commands of Machine/Commits.lean keep (see Laws/Keeps.lean).
-/
namespace Sys2Proof.Machine

theorem kept_bindWaiting (f : Nat) (s0 : State) : Keeps s0 (bindWaiting f s0) := by
  unfold bindWaiting
  refine Keeps.ite (fun _ => ?_) (fun _ => ?_)
  · exact Keeps.refl _
  · refine Keeps.foldl (fun s0 a => ?_) ?_
    · try beta_reduce
      split
      · refine Keeps.trans ?_ (kept_requestCommit _ _ _ _ _)
        exact Keeps.refl _
      · exact Keeps.refl _
    · exact Keeps.refl _

theorem ends_execShadowLoadAck (dt : Nat) (commit : Nat) (bridle : Pua) (s0 : State) : Ends (elapse dt s0) (execShadowLoadAck dt commit bridle s0) := by
  unfold execShadowLoadAck
  extract_lets +onlyGivenNames -underBinder -merge -useContext v0
  have h_v0 : Keeps (elapse dt s0) v0 := by
    unfold v0
    exact Keeps.refl _
  try clear_value v0
  extract_lets +onlyGivenNames -underBinder -merge -useContext v5
  try clear_value v5
  extract_lets +onlyGivenNames -underBinder -merge -useContext v7
  refine Ends.done ?_
  refine Keeps.update ?_
  exact h_v0

theorem kept_setShadow (c : Commit) (v : Option Nat) (s0 : State) : Keeps s0 (setShadow c v s0) := by
  unfold setShadow
  refine Keeps.foldl (fun s0 a => ?_) ?_
  · try beta_reduce
    refine Keeps.trans ?_ (kept_modCluster _ _ _)
    exact Keeps.refl _
  · exact Keeps.refl _

theorem kept_moveCommit (c : Commit) (s0 : State) : Keeps s0 (moveCommit c s0) := by
  unfold moveCommit
  extract_lets +onlyGivenNames -underBinder -merge -useContext v0
  have h_v0 : Keeps s0 v0 := by
    unfold v0
    refine Keeps.update ?_
    exact Keeps.refl _
  try clear_value v0
  extract_lets +onlyGivenNames -underBinder -merge -useContext v6
  try clear_value v6
  extract_lets +onlyGivenNames -underBinder -merge -useContext v8
  refine Keeps.trans ?_ (kept_setShadow _ _ _)
  refine Keeps.trans ?_ (kept_addObj _ _ _)
  refine Keeps.update ?_
  exact Keeps.refl _

theorem ends_execCommitAckDeadline (dt : Nat) (commit : Nat) (s0 : State) : Ends (elapse dt s0) (execCommitAckDeadline dt commit s0) := by
  unfold execCommitAckDeadline
  extract_lets +onlyGivenNames -underBinder -merge -useContext v0
  have h_v0 : Keeps (elapse dt s0) v0 := by
    unfold v0
    exact Keeps.refl _
  try clear_value v0
  refine Ends.done ?_
  split
  · exact h_v0
  · refine Keeps.ite (fun _ => ?_) (fun _ => ?_)
    · refine Keeps.trans ?_ (kept_moveCommit _ _)
      exact h_v0
    · exact h_v0

theorem ends_execCommitLand (dt : Nat) (commit : Nat) (s0 : State) : Ends (elapse dt s0) (execCommitLand dt commit s0) := by
  unfold execCommitLand
  extract_lets +onlyGivenNames -underBinder -merge -useContext v0
  have h_v0 : Keeps (elapse dt s0) v0 := by
    unfold v0
    exact Keeps.refl _
  try clear_value v0
  refine Ends.done ?_
  split
  · exact h_v0
  · refine Keeps.ite (fun _ => ?_) (fun _ => ?_)
    · exact h_v0
    · extract_lets +onlyGivenNames -underBinder -merge -useContext v14
      have h_v14 : Keeps (elapse dt s0) v14 := by
        unfold v14
        refine Keeps.trans ?_ (kept_traceRebound _ _)
        refine Keeps.trans ?_ (kept_setShadow _ _ _)
        refine Keeps.trans ?_ (kept_landCommit _ _)
        refine Keeps.foldl (fun s0 a => ?_) ?_
        · try beta_reduce
          refine Keeps.trans ?_ (kept_wakeGondola _ _)
          exact Keeps.refl _
        · exact h_v0
      try clear_value v14
      extract_lets +onlyGivenNames -underBinder -merge -useContext v28
      have h_v28 : Keeps (elapse dt s0) v28 := by
        unfold v28
        refine Keeps.trans ?_ (kept_repairAfter _ _)
        refine Keeps.trans ?_ (kept_refreshRegions _)
        exact h_v14
      try clear_value v28
      extract_lets +onlyGivenNames -underBinder -merge -useContext v35
      have h_v35 : Keeps (elapse dt s0) v35 := by
        unfold v35
        refine Keeps.foldl (fun s0 a => ?_) ?_
        · try beta_reduce
          refine Keeps.trans ?_ (kept_bindWaiting _ _)
          exact Keeps.refl _
        · exact h_v28
      try clear_value v35
      extract_lets +onlyGivenNames -underBinder -merge -useContext v46
      have h_v46 : Keeps (elapse dt s0) v46 := by
        unfold v46
        refine Keeps.foldl (fun s0 a => ?_) ?_
        · try beta_reduce
          split
          · refine Keeps.ite (fun _ => ?_) (fun _ => ?_)
            · refine Keeps.trans ?_ (kept_powerDown _ _)
              exact Keeps.refl _
            · exact Keeps.refl _
          · exact Keeps.refl _
        · exact h_v35
      try clear_value v46
      refine Keeps.trans ?_ (kept_serveForced _)
      refine Keeps.trans ?_ (kept_refillQueues _)
      exact h_v46

end Sys2Proof.Machine
end

