-- ==== Sys2Proof/Laws/Kept/FieldTests.lean ====
section
/-!
SUPPORT. What the operations and commands of Machine/FieldTests.lean keep (see Laws/Keeps.lean).
-/
namespace Sys2Proof.Machine

theorem kept_afterLowering (p : Nat) (e : Event) (s0 : State) : Keeps s0 (afterLowering p e s0) := by
  unfold afterLowering
  extract_lets +onlyGivenNames -underBinder -merge -useContext v0
  try clear_value v0
  refine Keeps.ite (fun _ => ?_) (fun _ => ?_)
  · refine Keeps.trans ?_ (kept_changeState _ _ _ _)
    exact Keeps.refl _
  · split
    · exact Keeps.refl _
    · refine Keeps.ite (fun _ => ?_) (fun _ => ?_)
      · exact Keeps.refl _
      · extract_lets +onlyGivenNames -underBinder -merge -useContext v15
        try clear_value v15
        refine Keeps.ite (fun _ => ?_) (fun _ => ?_)
        · refine Keeps.trans ?_ (kept_chargeUnit _ _)
          exact Keeps.refl _
        · extract_lets +onlyGivenNames -underBinder -merge -useContext v22
          have h_v22 : Keeps s0 v22 := by
            unfold v22
            refine Keeps.trans ?_ (kept_weakSwap _ _)
            exact Keeps.refl _
          try clear_value v22
          refine Keeps.ite (fun _ => ?_) (fun _ => ?_)
          · exact h_v22
          · refine Keeps.trans ?_ (kept_recomputeSlice _ _ _)
            exact h_v22

theorem kept_beginRun (test : TestTile) (forced : Bool) (s0 : State) : Keeps s0 (beginRun test forced s0).2 := by
  unfold beginRun
  extract_lets +onlyGivenNames -underBinder -merge -useContext v0
  try clear_value v0
  split
  · rename_i hq_
    have hk_ : Keeps s0 _ := Keeps.of_eq1 hq_ (by
      refine Keeps.trans ?_ (kept_takeNat _)
      exact Keeps.refl _
      )
    split
    · rename_i hq_
      have hk_ : Keeps s0 _ := Keeps.of_eq1 hq_ (by
        refine Keeps.trans ?_ (kept_takeNat _)
        exact hk_
        )
      refine Keeps.snd ?_
      exact hk_

theorem kept_beginSlot (k : Nat) (n : Notice) (s0 : State) : Keeps s0 (beginSlot k n s0) := by
  unfold beginSlot
  extract_lets +onlyGivenNames -underBinder -merge -useContext v0
  try clear_value v0
  split
  · exact Keeps.refl _
  · refine Keeps.trans ?_ (kept_setSobj _ _ _ _)
    refine Keeps.trans ?_ (kept_modSlice _ _ _)
    exact Keeps.refl _

theorem kept_completeTest (p : Nat) (kind : Nat) (s0 : State) : Keeps s0 (completeTest p kind s0) := by
  unfold completeTest
  extract_lets +onlyGivenNames -underBinder -merge -useContext v0
  try clear_value v0
  extract_lets +onlyGivenNames -underBinder -merge -useContext v2
  have h_v2 : Keeps s0 v2 := by
    unfold v2
    refine Keeps.trans ?_ (kept_modCore _ _ _)
    exact Keeps.refl _
  try clear_value v2
  extract_lets +onlyGivenNames -underBinder -merge -useContext v8
  try clear_value v8
  refine Keeps.ite (fun _ => ?_) (fun _ => ?_)
  · extract_lets +onlyGivenNames -underBinder -merge -useContext v12
    have h_v12 : Keeps s0 v12 := by
      unfold v12
      refine Keeps.trans ?_ (kept_modCore _ _ _)
      exact h_v2
    try clear_value v12
    refine Keeps.update ?_
    exact h_v12
  · exact h_v2

theorem kept_creditScreens (p : Nat) (f : Screen → Screen) (s0 : State) : Keeps s0 (creditScreens p f s0) := by
  unfold creditScreens
  extract_lets +onlyGivenNames -underBinder -merge -useContext v0
  try clear_value v0
  refine Keeps.foldl (fun s0 a => ?_) ?_
  · try beta_reduce
    refine Keeps.update ?_
    exact Keeps.refl _
  · exact Keeps.refl _

theorem kept_closePass (p : Nat) (s0 : State) : Keeps s0 (closePass p s0) := by
  unfold closePass
  refine Keeps.ite (fun _ => ?_) (fun _ => ?_)
  · exact Keeps.refl _
  · refine Keeps.trans ?_ (kept_creditScreens _ _ _)
    refine Keeps.trans ?_ (kept_completeTest _ _ _)
    refine Keeps.trans ?_ (kept_modCore _ _ _)
    exact Keeps.refl _

theorem kept_countTestCycles (p : Nat) (r : TestRun) (mhz : Nat) (s0 : State) : Keeps s0 (countTestCycles p r mhz s0) := by
  unfold countTestCycles
  refine Keeps.trans ?_ (kept_countCore _ _ _ _)
  exact Keeps.refl _

theorem kept_reportTest (unit : Nat) (cause : Nat) (r : TestRun) (kind : Nat) (outcome : Nat) (s0 : State) : Keeps s0 (reportTest unit cause r kind outcome s0) := by
  unfold reportTest
  extract_lets +onlyGivenNames -underBinder -merge -useContext v0
  try clear_value v0
  extract_lets +onlyGivenNames -underBinder -merge -useContext v2
  try clear_value v2
  extract_lets +onlyGivenNames -underBinder -merge -useContext v4
  try clear_value v4
  extract_lets +onlyGivenNames -underBinder -merge -useContext v6
  try clear_value v6
  refine Keeps.trans ?_ (kept_raise _ _ _)
  exact Keeps.refl _

theorem kept_freeTarget (p : Nat) (s0 : State) : Keeps s0 (freeTarget p s0) := by
  unfold freeTarget
  refine Keeps.trans ?_ (kept_startHeld _ _)
  refine Keeps.trans ?_ (kept_restartIdle _ _)
  refine Keeps.trans ?_ (kept_modHeld _ _ _)
  exact Keeps.refl _

theorem kept_endChecker (p : Nat) (r : TestRun) (pass : Bool) (s0 : State) : Keeps s0 (endChecker p r pass s0) := by
  unfold endChecker
  extract_lets +onlyGivenNames -underBinder -merge -useContext v0
  try clear_value v0
  extract_lets +onlyGivenNames -underBinder -merge -useContext v2
  have h_v2 : Keeps s0 v2 := by
    unfold v2
    refine Keeps.trans ?_ (kept_addObj _ _ _)
    refine Keeps.trans ?_ (kept_modCluster _ _ _)
    exact Keeps.refl _
  try clear_value v2
  extract_lets +onlyGivenNames -underBinder -merge -useContext v9
  have h_v9 : Keeps s0 v9 := by
    unfold v9
    refine Keeps.trans ?_ (kept_creditScreens _ _ _)
    exact h_v2
  try clear_value v9
  extract_lets +onlyGivenNames -underBinder -merge -useContext v15
  have h_v15 : Keeps s0 v15 := by
    unfold v15
    refine Keeps.ite (fun _ => ?_) (fun _ => ?_)
    · refine Keeps.trans ?_ (kept_freeCluster _ _ _)
      exact h_v9
    · exact h_v9
  try clear_value v15
  extract_lets +onlyGivenNames -underBinder -merge -useContext v25
  have h_v25 : Keeps s0 v25 := by
    unfold v25
    refine Keeps.trans ?_ (kept_freeTarget _ _)
    exact h_v15
  try clear_value v25
  refine Keeps.ite (fun _ => ?_) (fun _ => ?_)
  · exact h_v25
  · refine Keeps.trans ?_ (kept_addObj _ _ _)
    refine Keeps.trans ?_ (kept_reportTest _ _ _ _ _ _)
    exact h_v25

theorem kept_setTest (p : Nat) (r : Option TestRun) (s0 : State) : Keeps s0 (setTest p r s0) := by
  unfold setTest
  refine Keeps.trans ?_ (kept_restartIdle _ _)
  refine Keeps.trans ?_ (kept_modCore _ _ _)
  exact Keeps.refl _

theorem kept_extraSamples (p : Nat) (s0 : State) : Keeps s0 (extraSamples p s0) := by
  unfold extraSamples
  split
  · refine Keeps.trans ?_ (kept_modLcn _ _ _)
    exact Keeps.refl _
  · exact Keeps.refl _

theorem kept_testFailure (unit : Nat) (r : TestRun) (kind : Nat) (outcome : Nat) (s0 : State) : Keeps s0 (testFailure unit r kind outcome s0) := by
  unfold testFailure
  refine Keeps.trans ?_ (kept_addObj _ _ _)
  refine Keeps.trans ?_ (kept_extraSamples _ _)
  refine Keeps.trans ?_ (kept_reportTest _ _ _ _ _ _)
  exact Keeps.refl _

theorem kept_endKnownAnswer (p : Nat) (r : TestRun) (pass : Bool) (s0 : State) : Keeps s0 (endKnownAnswer p r pass s0) := by
  unfold endKnownAnswer
  extract_lets +onlyGivenNames -underBinder -merge -useContext v0
  try clear_value v0
  extract_lets +onlyGivenNames -underBinder -merge -useContext v2
  try clear_value v2
  extract_lets +onlyGivenNames -underBinder -merge -useContext v4
  split
  · try unfold v4
    try beta_reduce
    extract_lets +onlyGivenNames -underBinder -merge -useContext v9
    have h_v9 : Keeps s0 v9 := by
      unfold v9
      refine Keeps.trans ?_ (kept_modCore _ _ _)
      exact Keeps.refl _
    try clear_value v9
    refine Keeps.trans ?_ (kept_closePass _ _)
    refine Keeps.trans ?_ (kept_freeTarget _ _)
    exact h_v9
  · try unfold v4
    try beta_reduce
    extract_lets +onlyGivenNames -underBinder -merge -useContext v21
    have h_v21 : Keeps s0 v21 := by
      unfold v21
      refine Keeps.trans ?_ (kept_modCore _ _ _)
      refine Keeps.trans ?_ (kept_reportTest _ _ _ _ _ _)
      exact Keeps.refl _
    try clear_value v21
    refine Keeps.trans ?_ (kept_closePass _ _)
    refine Keeps.trans ?_ (kept_freeTarget _ _)
    exact h_v21
  · refine Keeps.ite (fun _ => ?_) (fun _ => ?_)
    · refine Keeps.trans ?_ (kept_setTest _ _ _)
      exact Keeps.refl _
    · refine Keeps.trans ?_ (kept_freeTarget _ _)
      refine Keeps.trans ?_ (kept_modCore _ _ _)
      exact Keeps.refl _
  · try unfold v4
    try beta_reduce
    extract_lets +onlyGivenNames -underBinder -merge -useContext v43
    have h_v43 : Keeps s0 v43 := by
      unfold v43
      refine Keeps.trans ?_ (kept_modCore _ _ _)
      refine Keeps.trans ?_ (kept_testFailure _ _ _ _ _)
      exact Keeps.refl _
    try clear_value v43
    refine Keeps.trans ?_ (kept_closePass _ _)
    refine Keeps.trans ?_ (kept_freeTarget _ _)
    exact h_v43

theorem kept_endMargin (p : Nat) (r : TestRun) (outcome : Nat) (s0 : State) : Keeps s0 (endMargin p r outcome s0) := by
  unfold endMargin
  extract_lets +onlyGivenNames -underBinder -merge -useContext v0
  try clear_value v0
  extract_lets +onlyGivenNames -underBinder -merge -useContext v2
  try clear_value v2
  extract_lets +onlyGivenNames -underBinder -merge -useContext v4
  have h_v4 : Keeps s0 v4 := by
    unfold v4
    refine Keeps.trans ?_ (kept_modFmax _ _ _)
    exact Keeps.refl _
  try clear_value v4
  extract_lets +onlyGivenNames -underBinder -merge -useContext v10
  have h_v10 : Keeps s0 v10 := by
    unfold v10
    refine Keeps.trans ?_ (kept_completeTest _ _ _)
    refine Keeps.trans ?_ (kept_addObj _ _ _)
    refine Keeps.trans ?_ (kept_freeTarget _ _)
    exact h_v4
  try clear_value v10
  extract_lets +onlyGivenNames -underBinder -merge -useContext v18
  have h_v18 : Keeps s0 v18 := by
    unfold v18
    refine Keeps.ite (fun _ => ?_) (fun _ => ?_)
    · exact h_v10
    · refine Keeps.trans ?_ (kept_creditScreens _ _ _)
      exact h_v10
  try clear_value v18
  refine Keeps.ite (fun _ => ?_) (fun _ => ?_)
  · exact h_v18
  · refine Keeps.trans ?_ (kept_raise _ _ _)
    exact h_v18

theorem kept_nextMargin (p : Nat) (r : TestRun) (s0 : State) : Keeps s0 (nextMargin p r s0) := by
  unfold nextMargin
  refine Keeps.ite (fun _ => ?_) (fun _ => ?_)
  · refine Keeps.trans ?_ (kept_setTest _ _ _)
    exact Keeps.refl _
  · refine Keeps.trans ?_ (kept_freeTarget _ _)
    exact Keeps.refl _

theorem kept_endMarginTile (p : Nat) (r : TestRun) (pass : Bool) (s0 : State) : Keeps s0 (endMarginTile p r pass s0) := by
  unfold endMarginTile
  extract_lets +onlyGivenNames -underBinder -merge -useContext w0_0 v0
  try clear_value v0
  extract_lets +onlyGivenNames -underBinder -merge -useContext v2
  refine Keeps.ite (fun _ => ?_) (fun _ => ?_)
  · refine Keeps.trans ?_ (kept_nextMargin _ _ _)
    exact Keeps.refl _
  · split
    · try unfold v2
      try beta_reduce
      extract_lets +onlyGivenNames -underBinder -merge -useContext v12
      have h_v12 : Keeps s0 v12 := by
        unfold v12
        refine Keeps.ite (fun _ => ?_) (fun _ => ?_)
        · refine Keeps.trans ?_ (kept_addObj _ _ _)
          exact Keeps.refl _
        · exact Keeps.refl _
      try clear_value v12
      refine Keeps.ite (fun _ => ?_) (fun _ => ?_)
      · refine Keeps.trans ?_ (kept_endMargin _ _ _ _)
        exact h_v12
      · refine Keeps.trans ?_ (kept_nextMargin _ _ _)
        exact h_v12
    · refine Keeps.trans ?_ (kept_nextMargin _ _ _)
      exact Keeps.refl _
    · try unfold v2
      try beta_reduce
      extract_lets +onlyGivenNames -underBinder -merge -useContext v35
      have h_v35 : Keeps s0 v35 := by
        unfold v35
        refine Keeps.ite (fun _ => ?_) (fun _ => ?_)
        · refine Keeps.trans ?_ (kept_addObj _ _ _)
          exact Keeps.refl _
        · exact Keeps.refl _
      try clear_value v35
      refine Keeps.ite (fun _ => ?_) (fun _ => ?_)
      · refine Keeps.trans ?_ (kept_endMargin _ _ _ _)
        exact h_v35
      · refine Keeps.trans ?_ (kept_nextMargin _ _ _)
        exact h_v35
    · refine Keeps.trans ?_ (kept_nextMargin _ _ _)
      exact Keeps.refl _
    · refine Keeps.trans ?_ (kept_endMargin _ _ _ _)
      exact Keeps.refl _

theorem kept_endRandom (p : Nat) (r : TestRun) (partner : Word64) (mine : Word64) (s0 : State) : Keeps s0 (endRandom p r partner mine s0) := by
  unfold endRandom
  extract_lets +onlyGivenNames -underBinder -merge -useContext v0
  try clear_value v0
  refine Keeps.ite (fun _ => ?_) (fun _ => ?_)
  · refine Keeps.trans ?_ (kept_creditScreens _ _ _)
    refine Keeps.trans ?_ (kept_completeTest _ _ _)
    refine Keeps.trans ?_ (kept_addObj _ _ _)
    refine Keeps.trans ?_ (kept_freeTarget _ _)
    refine Keeps.trans ?_ (kept_freeTarget _ _)
    exact Keeps.refl _
  · extract_lets +onlyGivenNames -underBinder -merge -useContext v11
    try clear_value v11
    extract_lets +onlyGivenNames -underBinder -merge -useContext v13
    have h_v13 : Keeps s0 v13 := by
      unfold v13
      refine Keeps.trans ?_ (kept_setTest _ _ _)
      refine Keeps.trans ?_ (kept_setTest _ _ _)
      exact Keeps.refl _
    try clear_value v13
    extract_lets +onlyGivenNames -underBinder -merge -useContext v20
    try clear_value v20
    split
    · refine Keeps.trans ?_ (kept_freeTarget _ _)
      refine Keeps.trans ?_ (kept_freeTarget _ _)
      exact Keeps.refl _
    · extract_lets +onlyGivenNames -underBinder -merge -useContext v28
      try clear_value v28
      refine Keeps.trans ?_ (kept_freeTarget _ _)
      refine Keeps.trans ?_ (kept_freeTarget _ _)
      refine Keeps.trans ?_ (kept_setTest _ _ _)
      exact Keeps.refl _

theorem ends_execTestTileStart (dt : Nat) (test : TestTile) (s0 : State) : Ends (elapse dt s0) (execTestTileStart dt test s0) := by
  unfold execTestTileStart
  extract_lets +onlyGivenNames -underBinder -merge -useContext v0
  have h_v0 : Keeps (elapse dt s0) v0 := by
    unfold v0
    exact Keeps.refl _
  try clear_value v0
  extract_lets +onlyGivenNames -underBinder -merge -useContext v5
  try clear_value v5
  extract_lets +onlyGivenNames -underBinder -merge -useContext v7
  try clear_value v7
  extract_lets +onlyGivenNames -underBinder -merge -useContext v9
  try clear_value v9
  extract_lets +onlyGivenNames -underBinder -merge -useContext v11
  try clear_value v11
  extract_lets +onlyGivenNames -underBinder -merge -useContext v13
  try clear_value v13
  extract_lets +onlyGivenNames -underBinder -merge -useContext v15
  try clear_value v15
  refine Ends.done ?_
  refine Keeps.ite (fun _ => ?_) (fun _ => ?_)
  · exact h_v0
  · split
    · rename_i hq_
      have hk_ : Keeps (elapse dt s0) _ := Keeps.of_eq1 hq_ (by
        refine Keeps.trans ?_ (kept_beginRun _ _ _)
        exact h_v0
        )
      split
      · extract_lets +onlyGivenNames -underBinder -merge -useContext v31
        try clear_value v31
        split
        · exact hk_
        · extract_lets +onlyGivenNames -underBinder -merge -useContext w37_0 v37
          try clear_value v37
          refine Keeps.trans ?_ (kept_setTest _ _ _)
          refine Keeps.trans ?_ (kept_setTest _ _ _)
          refine Keeps.trans ?_ (kept_modCore _ _ _)
          exact hk_
      · extract_lets +onlyGivenNames -underBinder -merge -useContext w44_0 v44
        try clear_value v44
        refine Keeps.trans ?_ (kept_setTest _ _ _)
        refine Keeps.trans ?_ (kept_modCluster _ _ _)
        exact hk_
      · refine Keeps.trans ?_ (kept_setTest _ _ _)
        exact hk_
      · extract_lets +onlyGivenNames -underBinder -merge -useContext v53
        have h_v53 : Keeps (elapse dt s0) v53 := by
          unfold v53
          refine Keeps.trans ?_ (kept_modCore _ _ _)
          exact hk_
        try clear_value v53
        refine Keeps.trans ?_ (kept_setTest _ _ _)
        exact h_v53

theorem kept_refuseNotice (p : Path) (k : Nat) (s0 : State) : Keeps s0 (refuseNotice p k s0) := by
  unfold refuseNotice
  split
  · rename_i hq_
    have hk_ : Keeps s0 _ := Keeps.of_eq1 hq_ (by
      refine Keeps.trans ?_ (kept_takeNat _)
      exact Keeps.refl _
      )
    refine Keeps.trans ?_ (kept_respond _ _ _ _ _ _ _)
    refine Keeps.trans ?_ (kept_addSobj _ _ _ _)
    exact hk_

theorem kept_revokeNotices (p : Path) (k : Nat) (pick : Notice → Bool) (s0 : State) : Keeps s0 (revokeNotices p k pick s0) := by
  unfold revokeNotices
  extract_lets +onlyGivenNames -underBinder -merge -useContext v0
  try clear_value v0
  refine Keeps.ite (fun _ => ?_) (fun _ => ?_)
  · exact Keeps.refl _
  · refine Keeps.ite (fun _ => ?_) (fun _ => ?_)
    · refine Keeps.trans ?_ (kept_refuseNotice _ _ _)
      exact Keeps.refl _
    · extract_lets +onlyGivenNames -underBinder -merge -useContext v11
      try clear_value v11
      extract_lets +onlyGivenNames -underBinder -merge -useContext v13
      refine Keeps.trans ?_ (kept_respond _ _ _ _ _ _ _)
      refine Keeps.trans ?_ (kept_modSlice _ _ _)
      exact Keeps.refl _

theorem kept_takeNotice (p : Path) (periodic : Bool) (n : IdleNotice) (s0 : State) : Keeps s0 (takeNotice p periodic n s0) := by
  unfold takeNotice
  refine Keeps.ite (fun _ => ?_) (fun _ => ?_)
  · exact Keeps.refl _
  · refine Keeps.ite (fun _ => ?_) (fun _ => ?_)
    · refine Keeps.trans ?_ (kept_refuseNotice _ _ _)
      exact Keeps.refl _
    · extract_lets +onlyGivenNames -underBinder -merge -useContext v9
      try clear_value v9
      extract_lets +onlyGivenNames -underBinder -merge -useContext v11
      try clear_value v11
      extract_lets +onlyGivenNames -underBinder -merge -useContext v13
      have h_v13 : Keeps s0 v13 := by
        unfold v13
        refine Keeps.trans ?_ (kept_setSobj _ _ _ _)
        refine Keeps.trans ?_ (kept_respond _ _ _ _ _ _ _)
        exact Keeps.refl _
      try clear_value v13
      refine Keeps.ite (fun _ => ?_) (fun _ => ?_)
      · refine Keeps.trans ?_ (kept_beginSlot _ _ _)
        refine Keeps.trans ?_ (kept_modSlice _ _ _)
        exact h_v13
      · exact h_v13

theorem ends_execFmaxChangeRequest (dt : Nat) (d : Nat) (s0 : State) : Ends (elapse dt s0) (execFmaxChangeRequest dt d s0) := by
  unfold execFmaxChangeRequest
  extract_lets +onlyGivenNames -underBinder -merge -useContext v0
  have h_v0 : Keeps (elapse dt s0) v0 := by
    unfold v0
    exact Keeps.refl _
  try clear_value v0
  refine Ends.done ?_
  refine Keeps.ite (fun _ => ?_) (fun _ => ?_)
  · exact h_v0
  · split
    · exact h_v0
    · refine Keeps.ite (fun _ => ?_) (fun _ => ?_)
      · exact h_v0
      · extract_lets +onlyGivenNames -underBinder -merge -useContext v18
        try clear_value v18
        extract_lets +onlyGivenNames -underBinder -merge -useContext v20
        try clear_value v20
        extract_lets +onlyGivenNames -underBinder -merge -useContext v22
        try clear_value v22
        extract_lets +onlyGivenNames -underBinder -merge -useContext v24
        have h_v24 : Keeps (elapse dt s0) v24 := by
          unfold v24
          refine Keeps.trans ?_ (kept_popHandling _ _)
          exact h_v0
        try clear_value v24
        refine Keeps.ite (fun _ => ?_) (fun _ => ?_)
        · refine Keeps.trans ?_ (kept_addObj _ _ _)
          exact h_v24
        · extract_lets +onlyGivenNames -underBinder -merge -useContext v35
          try clear_value v35
          extract_lets +onlyGivenNames -underBinder -merge -useContext v37
          have h_v37 : Keeps (elapse dt s0) v37 := by
            unfold v37
            refine Keeps.trans ?_ (kept_modFmax _ _ _)
            exact h_v24
          try clear_value v37
          extract_lets +onlyGivenNames -underBinder -merge -useContext v43
          try clear_value v43
          extract_lets +onlyGivenNames -underBinder -merge -useContext v45
          have h_v45 : Keeps (elapse dt s0) v45 := by
            unfold v45
            refine Keeps.trans ?_ (kept_setObjs _ _)
            refine Keeps.trans ?_ (kept_addObj _ _ _)
            exact h_v37
          try clear_value v45
          extract_lets +onlyGivenNames -underBinder -merge -useContext v52
          have h_v52 : Keeps (elapse dt s0) v52 := by
            unfold v52
            refine Keeps.trans ?_ (kept_recordSeq _ _ _ _ _ _)
            exact h_v45
          try clear_value v52
          refine Keeps.trans ?_ (kept_afterLowering _ _ _)
          exact h_v52

theorem ends_execTestOverdue (dt : Nat) (core_ : Pua) (s0 : State) : Ends (elapse dt s0) (execTestOverdue dt core_ s0) := by
  unfold execTestOverdue
  extract_lets +onlyGivenNames -underBinder -merge -useContext v0
  have h_v0 : Keeps (elapse dt s0) v0 := by
    unfold v0
    exact Keeps.refl _
  try clear_value v0
  extract_lets +onlyGivenNames -underBinder -merge -useContext v5
  try clear_value v5
  extract_lets +onlyGivenNames -underBinder -merge -useContext v7
  try clear_value v7
  refine Ends.done ?_
  refine Keeps.ite (fun _ => ?_) (fun _ => ?_)
  · exact h_v0
  · refine Keeps.trans ?_ (kept_addObj _ _ _)
    refine Keeps.trans ?_ (kept_modCore _ _ _)
    exact h_v0

theorem ends_execForcedCheckerSlot (dt : Nat) (bridle : Pua) (s0 : State) : Ends (elapse dt s0) (execForcedCheckerSlot dt bridle s0) := by
  unfold execForcedCheckerSlot
  extract_lets +onlyGivenNames -underBinder -merge -useContext v0
  have h_v0 : Keeps (elapse dt s0) v0 := by
    unfold v0
    exact Keeps.refl _
  try clear_value v0
  extract_lets +onlyGivenNames -underBinder -merge -useContext v5
  try clear_value v5
  extract_lets +onlyGivenNames -underBinder -merge -useContext v7
  try clear_value v7
  refine Ends.done ?_
  split
  · exact h_v0
  · split
    · exact h_v0
    · refine Keeps.ite (fun _ => ?_) (fun _ => ?_)
      · exact h_v0
      · split
        · rename_i hq_
          have hk_ : Keeps (elapse dt s0) _ := Keeps.of_eq1 hq_ (by
            refine Keeps.trans ?_ (kept_beginRun _ _ _)
            exact h_v0
            )
          extract_lets +onlyGivenNames -underBinder -merge -useContext v29
          have h_v29 : Keeps (elapse dt s0) v29 := by
            unfold v29
            refine Keeps.trans ?_ (kept_modCluster _ _ _)
            exact hk_
          try clear_value v29
          refine Keeps.trans ?_ (kept_holdCluster _ _ _)
          refine Keeps.trans ?_ (kept_setTest _ _ _)
          refine Keeps.trans ?_ (kept_addObj _ _ _)
          exact h_v29

theorem ends_execIdleSlotEnd (dt : Nat) (k : Nat) (id : Nat) (s0 : State) : Ends (elapse dt s0) (execIdleSlotEnd dt k id s0) := by
  unfold execIdleSlotEnd
  extract_lets +onlyGivenNames -underBinder -merge -useContext v0
  have h_v0 : Keeps (elapse dt s0) v0 := by
    unfold v0
    exact Keeps.refl _
  try clear_value v0
  extract_lets +onlyGivenNames -underBinder -merge -useContext v5
  extract_lets +onlyGivenNames -underBinder -merge -useContext v6
  refine Ends.done ?_
  refine Keeps.trans ?_ (kept_modSlice _ _ _)
  exact h_v0

theorem ends_execTestThirdRunEnd (dt : Nat) (core_ : Pua) (signature : Word64) (s0 : State) : Ends (elapse dt s0) (execTestThirdRunEnd dt core_ signature s0) := by
  unfold execTestThirdRunEnd
  extract_lets +onlyGivenNames -underBinder -merge -useContext v0
  have h_v0 : Keeps (elapse dt s0) v0 := by
    unfold v0
    exact Keeps.refl _
  try clear_value v0
  refine Ends.done ?_
  split
  · exact h_v0
  · split
    · exact h_v0
    · extract_lets +onlyGivenNames -underBinder -merge -useContext v14
      try clear_value v14
      extract_lets +onlyGivenNames -underBinder -merge -useContext v16
      try clear_value v16
      extract_lets +onlyGivenNames -underBinder -merge -useContext v18
      have h_v18 : Keeps (elapse dt s0) v18 := by
        unfold v18
        refine Keeps.trans ?_ (kept_countTestCycles _ _ _ _)
        refine Keeps.trans ?_ (kept_freeTarget _ _)
        exact h_v0
      try clear_value v18
      extract_lets +onlyGivenNames -underBinder -merge -useContext v25
      have h_v25 : Keeps (elapse dt s0) v25 := by
        unfold v25
        refine Keeps.trans ?_ (kept_completeTest _ _ _)
        refine Keeps.trans ?_ (kept_addObj _ _ _)
        exact h_v18
      try clear_value v25
      refine Keeps.ite (fun _ => ?_) (fun _ => ?_)
      · refine Keeps.trans ?_ (kept_testFailure _ _ _ _ _)
        exact h_v25
      · refine Keeps.ite (fun _ => ?_) (fun _ => ?_)
        · refine Keeps.trans ?_ (kept_testFailure _ _ _ _ _)
          exact h_v25
        · refine Keeps.trans ?_ (kept_testFailure _ _ _ _ _)
          refine Keeps.trans ?_ (kept_testFailure _ _ _ _ _)
          exact h_v25

theorem ends_execIdleSlotStart (dt : Nat) (k : Nat) (id : Nat) (s0 : State) : Ends (elapse dt s0) (execIdleSlotStart dt k id s0) := by
  unfold execIdleSlotStart
  extract_lets +onlyGivenNames -underBinder -merge -useContext v0
  have h_v0 : Keeps (elapse dt s0) v0 := by
    unfold v0
    exact Keeps.refl _
  try clear_value v0
  refine Ends.done ?_
  split
  · exact h_v0
  · split
    · exact h_v0
    · extract_lets +onlyGivenNames -underBinder -merge -useContext v14
      try clear_value v14
      refine Keeps.ite (fun _ => ?_) (fun _ => ?_)
      · exact h_v0
      · refine Keeps.trans ?_ (kept_beginSlot _ _ _)
        refine Keeps.trans ?_ (kept_wakeAgents _ _)
        exact h_v0

theorem kept_leaveTestBlocks (p : Nat) (r : TestRun) (s0 : State) : Keeps s0 (leaveTestBlocks p r s0) := by
  unfold leaveTestBlocks
  refine Keeps.ite (fun _ => ?_) (fun _ => ?_)
  · exact Keeps.refl _
  · split
    · rename_i hq_
      have hk_ : Keeps s0 _ := Keeps.of_eq1 hq_ (by
        refine Keeps.trans ?_ (kept_takeNat _)
        exact Keeps.refl _
        )
      extract_lets +onlyGivenNames -underBinder -merge -useContext v11
      try clear_value v11
      extract_lets +onlyGivenNames -underBinder -merge -useContext v13
      try clear_value v13
      refine Keeps.foldl (fun s0 a => ?_) ?_
      · try beta_reduce
        refine Keeps.trans ?_ (kept_setSram _ _ _ _)
        exact Keeps.refl _
      · exact hk_

theorem ends_execTestTileEnd (dt : Nat) (core_ : Pua) (expected : Word64) (signature : Word64) (clean : List Bool) (injected : List Bool) (s0 : State) : Ends (elapse dt s0) (execTestTileEnd dt core_ expected signature clean injected s0) := by
  unfold execTestTileEnd
  extract_lets +onlyGivenNames -underBinder -merge -useContext v0
  have h_v0 : Keeps (elapse dt s0) v0 := by
    unfold v0
    exact Keeps.refl _
  try clear_value v0
  extract_lets +onlyGivenNames -underBinder -merge -useContext v5
  try clear_value v5
  extract_lets +onlyGivenNames -underBinder -merge -useContext v7
  try clear_value v7
  refine Ends.done ?_
  split
  · exact h_v0
  · refine Keeps.ite (fun _ => ?_) (fun _ => ?_)
    · exact h_v0
    · extract_lets +onlyGivenNames -underBinder -merge -useContext v18
      have h_v18 : Keeps (elapse dt s0) v18 := by
        unfold v18
        refine Keeps.trans ?_ (kept_countTestCycles _ _ _ _)
        exact h_v0
      try clear_value v18
      extract_lets +onlyGivenNames -underBinder -merge -useContext v24
      have h_v24 : Keeps (elapse dt s0) v24 := by
        unfold v24
        refine Keeps.trans ?_ (kept_leaveTestBlocks _ _ _)
        exact h_v18
      try clear_value v24
      extract_lets +onlyGivenNames -underBinder -merge -useContext v30
      try clear_value v30
      extract_lets +onlyGivenNames -underBinder -merge -useContext v32
      try clear_value v32
      split
      · refine Keeps.trans ?_ (kept_endRandom _ _ _ _ _)
        refine Keeps.trans ?_ (kept_countTestCycles _ _ _ _)
        exact h_v24
      · refine Keeps.trans ?_ (kept_endChecker _ _ _ _)
        exact h_v24
      · refine Keeps.trans ?_ (kept_endMarginTile _ _ _ _)
        exact h_v24
      · refine Keeps.trans ?_ (kept_endKnownAnswer _ _ _ _)
        exact h_v24

end Sys2Proof.Machine
end

