-- ==== Sys2Proof/Laws/Kept/Units.lean ====
section
/-!
SUPPORT. What the operations and commands of Machine/Units.lean keep (see Laws/Keeps.lean).
-/
namespace Sys2Proof.Machine

theorem kept_afterSpare (p : Nat) (s0 : State) : Keeps s0 (afterSpare p s0) := by
  unfold afterSpare
  split
  · refine Keeps.trans ?_ (kept_bindWaiting _ _)
    refine Keeps.trans ?_ (kept_assignAdoptive _ _)
    exact Keeps.refl _
  · refine Keeps.ite (fun _ => ?_) (fun _ => ?_)
    · refine Keeps.trans ?_ (kept_bindWaiting _ _)
      exact Keeps.refl _
    · refine Keeps.trans ?_ (kept_requestCommit _ _ _ _ _)
      exact Keeps.refl _
  · refine Keeps.trans ?_ (kept_bindWaiting _ _)
    exact Keeps.refl _
  · refine Keeps.trans ?_ (kept_bindWaiting _ _)
    exact Keeps.refl _
  · refine Keeps.trans ?_ (kept_modField _ _ _)
    refine Keeps.trans ?_ (kept_bindPlace _ _ _)
    exact Keeps.refl _
  · exact Keeps.refl _

theorem kept_endScreen (p : Nat) (pass : Bool) (s0 : State) : Keeps s0 (endScreen p pass s0) := by
  unfold endScreen
  refine Keeps.ite (fun _ => ?_) (fun _ => ?_)
  · exact Keeps.refl _
  · refine Keeps.ite (fun _ => ?_) (fun _ => ?_)
    · refine Keeps.trans ?_ (kept_afterSpare _ _)
      refine Keeps.trans ?_ (kept_changeState _ _ _ _)
      exact Keeps.refl _
    · refine Keeps.trans ?_ (kept_changeState _ _ _ _)
      exact Keeps.refl _

theorem ends_execWatchRelease (dt : Nat) (unit : Pua) (s0 : State) : Ends (elapse dt s0) (execWatchRelease dt unit s0) := by
  unfold execWatchRelease
  extract_lets +onlyGivenNames -underBinder -merge -useContext v0
  have h_v0 : Keeps (elapse dt s0) v0 := by
    unfold v0
    exact Keeps.refl _
  try clear_value v0
  extract_lets +onlyGivenNames -underBinder -merge -useContext v5
  try clear_value v5
  extract_lets +onlyGivenNames -underBinder -merge -useContext v7
  try clear_value v7
  refine Ends.done ?_
  split
  · exact h_v0
  · refine Keeps.ite (fun _ => ?_) (fun _ => ?_)
    · refine Keeps.trans ?_ (kept_changeState _ _ _ _)
      exact h_v0
    · exact h_v0

theorem ends_execRouterProbeTimeout (dt : Nat) (router : Pua) (s0 : State) : Ends (elapse dt s0) (execRouterProbeTimeout dt router s0) := by
  unfold execRouterProbeTimeout
  extract_lets +onlyGivenNames -underBinder -merge -useContext v0
  have h_v0 : Keeps (elapse dt s0) v0 := by
    unfold v0
    exact Keeps.refl _
  try clear_value v0
  extract_lets +onlyGivenNames -underBinder -merge -useContext v5
  try clear_value v5
  extract_lets +onlyGivenNames -underBinder -merge -useContext v7
  try clear_value v7
  refine Ends.done ?_
  refine Keeps.ite (fun _ => ?_) (fun _ => ?_)
  · exact h_v0
  · refine Keeps.trans ?_ (kept_raise _ _ _)
    exact h_v0

theorem ends_execScreenComplete (dt : Nat) (unit : Pua) (pass : Bool) (s0 : State) : Ends (elapse dt s0) (execScreenComplete dt unit pass s0) := by
  unfold execScreenComplete
  extract_lets +onlyGivenNames -underBinder -merge -useContext v0
  have h_v0 : Keeps (elapse dt s0) v0 := by
    unfold v0
    exact Keeps.refl _
  try clear_value v0
  extract_lets +onlyGivenNames -underBinder -merge -useContext v5
  try clear_value v5
  refine Ends.done ?_
  refine Keeps.ite (fun _ => ?_) (fun _ => ?_)
  · refine Keeps.trans ?_ (kept_endScreen _ _ _)
    exact h_v0
  · exact h_v0

theorem ends_execServiceDayRoll (dt : Nat) (d : Nat) (s0 : State) : Ends (elapse dt s0) (execServiceDayRoll dt d s0) := by
  unfold execServiceDayRoll
  extract_lets +onlyGivenNames -underBinder -merge -useContext v0
  have h_v0 : Keeps (elapse dt s0) v0 := by
    unfold v0
    exact Keeps.refl _
  try clear_value v0
  extract_lets +onlyGivenNames -underBinder -merge -useContext v5
  try clear_value v5
  extract_lets +onlyGivenNames -underBinder -merge -useContext v7
  refine Ends.done ?_
  refine Keeps.update ?_
  exact h_v0

theorem ends_execServiceSecondsSave (dt : Nat) (d : Nat) (s0 : State) : Ends (elapse dt s0) (execServiceSecondsSave dt d s0) := by
  unfold execServiceSecondsSave
  extract_lets +onlyGivenNames -underBinder -merge -useContext v0
  have h_v0 : Keeps (elapse dt s0) v0 := by
    unfold v0
    exact Keeps.refl _
  try clear_value v0
  refine Ends.done ?_
  refine Keeps.ite (fun _ => ?_) (fun _ => ?_)
  · exact h_v0
  · extract_lets +onlyGivenNames -underBinder -merge -useContext v10
    try clear_value v10
    extract_lets +onlyGivenNames -underBinder -merge -useContext v12
    try clear_value v12
    extract_lets +onlyGivenNames -underBinder -merge -useContext v14
    refine Keeps.trans ?_ (kept_modDie _ _ _ (fun x => ?_))
    · refine Keeps.trans ?_ (kept_editStores _ _ _)
      exact h_v0
    · first | rfl | ((try dsimp only); (repeat' split) <;> rfl)

theorem ends_execShortBucketRoll (dt : Nat) (s0 : State) : Ends (elapse dt s0) (execShortBucketRoll dt s0) := by
  unfold execShortBucketRoll
  extract_lets +onlyGivenNames -underBinder -merge -useContext v0
  have h_v0 : Keeps (elapse dt s0) v0 := by
    unfold v0
    exact Keeps.refl _
  try clear_value v0
  extract_lets +onlyGivenNames -underBinder -merge -useContext v5
  try clear_value v5
  extract_lets +onlyGivenNames -underBinder -merge -useContext v7
  extract_lets +onlyGivenNames -underBinder -merge -useContext v8
  refine Ends.done ?_
  refine Keeps.update ?_
  exact h_v0

theorem ends_execPseudoChannelCopyEnd (dt : Nat) (unit : Pua) (s0 : State) : Ends (elapse dt s0) (execPseudoChannelCopyEnd dt unit s0) := by
  unfold execPseudoChannelCopyEnd
  extract_lets +onlyGivenNames -underBinder -merge -useContext v0
  have h_v0 : Keeps (elapse dt s0) v0 := by
    unfold v0
    exact Keeps.refl _
  try clear_value v0
  extract_lets +onlyGivenNames -underBinder -merge -useContext v5
  try clear_value v5
  extract_lets +onlyGivenNames -underBinder -merge -useContext v7
  try clear_value v7
  refine Ends.done ?_
  split
  · exact h_v0
  · refine Keeps.ite (fun _ => ?_) (fun _ => ?_)
    · exact h_v0
    · extract_lets +onlyGivenNames -underBinder -merge -useContext v18
      have h_v18 : Keeps (elapse dt s0) v18 := by
        unfold v18
        refine Keeps.update ?_
        exact h_v0
      try clear_value v18
      split
      · refine Keeps.trans ?_ (kept_requestCommit _ _ _ _ _)
        exact h_v18
      · exact h_v18

theorem ends_execQuarantineHoldEnd (dt : Nat) (unit : Pua) (s0 : State) : Ends (elapse dt s0) (execQuarantineHoldEnd dt unit s0) := by
  unfold execQuarantineHoldEnd
  extract_lets +onlyGivenNames -underBinder -merge -useContext v0
  have h_v0 : Keeps (elapse dt s0) v0 := by
    unfold v0
    exact Keeps.refl _
  try clear_value v0
  extract_lets +onlyGivenNames -underBinder -merge -useContext v5
  try clear_value v5
  extract_lets +onlyGivenNames -underBinder -merge -useContext v7
  try clear_value v7
  refine Ends.done ?_
  split
  · exact h_v0
  · refine Keeps.ite (fun _ => ?_) (fun _ => ?_)
    · exact h_v0
    · refine Keeps.ite (fun _ => ?_) (fun _ => ?_)
      · refine Keeps.trans ?_ (kept_changeState _ _ _ _)
        exact h_v0
      · refine Keeps.trans ?_ (kept_changeState _ _ _ _)
        exact h_v0

theorem kept_saveDie (d : Nat) (s0 : State) : Keeps s0 (saveDie d s0) := by
  unfold saveDie
  extract_lets
  refine Keeps.trans ?_ (kept_modDie_store _ _ _ fun x w => wf_filter _ w)
  refine Keeps.trans ?_ (kept_editStores _ _ _)
  refine Keeps.update ?_
  exact Keeps.refl _

theorem ends_execStoreRecordWrite (dt : Nat) (d : Nat) (s0 : State) : Ends (elapse dt s0) (execStoreRecordWrite dt d s0) := by
  unfold execStoreRecordWrite
  extract_lets +onlyGivenNames -underBinder -merge -useContext v0
  have h_v0 : Keeps (elapse dt s0) v0 := by
    unfold v0
    exact Keeps.refl _
  try clear_value v0
  refine Ends.done ?_
  refine Keeps.ite (fun _ => ?_) (fun _ => ?_)
  · exact h_v0
  · refine Keeps.trans ?_ (kept_saveDie _ _)
    exact h_v0

end Sys2Proof.Machine
end

