-- ==== Sys2Proof/Laws/Kept/Values.lean ====
section
/-!
SUPPORT. What the operations and commands of Machine/Values.lean keep (see Laws/Keeps.lean).
-/
namespace Sys2Proof.Machine

theorem kept_noteCounts (ks : List Nat) (s0 : State) : Keeps s0 (noteCounts ks s0) := by
  unfold noteCounts
  refine Keeps.update ?_
  exact Keeps.refl _

end Sys2Proof.Machine
end

