-- ==== Sys2Proof/Laws/Kept/Store.lean ====
section
/-!
SUPPORT. What the operations and commands of Machine/Store.lean keep (see Laws/Keeps.lean).
-/
namespace Sys2Proof.Machine

theorem kept_editStoreOn (cs : Nat) (f : Stored → Stored) (s0 : State) : Keeps s0 (editStoreOn cs f s0) := by
  unfold editStoreOn
  refine Keeps.ite (fun _ => ?_) (fun _ => ?_)
  · refine Keeps.update ?_
    exact Keeps.refl _
  · refine Keeps.update ?_
    exact Keeps.refl _

theorem kept_setCase (rule : Nat) (on : Bool) (s0 : State) : Keeps s0 (setCase rule on s0) := by
  unfold setCase
  refine Keeps.ite (fun _ => ?_) (fun _ => ?_)
  · refine Keeps.trans ?_ (kept_enterCase _ _)
    exact Keeps.refl _
  · refine Keeps.trans ?_ (kept_leaveCase _ _)
    exact Keeps.refl _

theorem kept_rawCopy (d : Nat) (f : PackageCopy → PackageCopy) (s0 : State) : Keeps s0 (rawCopy d f s0) := by
  unfold rawCopy
  split
  · rename_i hq_
    have hk_ : Keeps s0 _ := Keeps.of_eq1 hq_ (by
      refine Keeps.trans ?_ (kept_takeBit _)
      exact Keeps.refl _
      )
    refine Keeps.trans ?_ (kept_modDie _ _ _ (fun x => ?_))
    · exact hk_
    · first | rfl | ((try dsimp only); (repeat' split) <;> rfl)

theorem kept_rawFmax (d : Nat) (cs : Nat) (p : Nat) (s0 : State) : Keeps s0 (rawFmax d cs p s0) := by
  unfold rawFmax
  extract_lets +onlyGivenNames -underBinder -merge -useContext v0
  try clear_value v0
  extract_lets +onlyGivenNames -underBinder -merge -useContext v2
  try clear_value v2
  extract_lets +onlyGivenNames -underBinder -merge -useContext v4
  try clear_value v4
  refine Keeps.ite (fun _ => ?_) (fun _ => ?_)
  · exact Keeps.refl _
  · refine Keeps.ite (fun _ => ?_) (fun _ => ?_)
    · refine Keeps.trans ?_ (kept_setCase _ _ _)
      refine Keeps.trans ?_ (kept_editStoreOn _ _ _)
      exact Keeps.refl _
    · refine Keeps.trans ?_ (kept_editStoreOn _ _ _)
      exact Keeps.refl _

theorem kept_rawUnit (d : Nat) (cs : Nat) (p : Nat) (s0 : State) : Keeps s0 (rawUnit d cs p s0) := by
  unfold rawUnit
  extract_lets +onlyGivenNames -underBinder -merge -useContext v0
  try clear_value v0
  extract_lets +onlyGivenNames -underBinder -merge -useContext v2
  try clear_value v2
  refine Keeps.ite (fun _ => ?_) (fun _ => ?_)
  · exact Keeps.refl _
  · split
    · refine Keeps.trans ?_ (kept_editStoreOn _ _ _)
      exact Keeps.refl _
    · refine Keeps.trans ?_ (kept_editStoreOn _ _ _)
      exact Keeps.refl _

theorem kept_rawTake (d : Nat) (cs : Nat) (s0 : State) (r : Nat × Nat) : Keeps s0 (rawTake d cs s0 r) := by
  unfold rawTake
  extract_lets +onlyGivenNames -underBinder -merge -useContext v0
  try clear_value v0
  extract_lets +onlyGivenNames -underBinder -merge -useContext v2
  try clear_value v2
  extract_lets +onlyGivenNames -underBinder -merge -useContext v4
  extract_lets +onlyGivenNames -underBinder -merge -useContext v5
  try clear_value v5
  split
  · refine Keeps.trans ?_ (kept_rawUnit _ _ _ _)
    exact Keeps.refl _
  · refine Keeps.trans ?_ (kept_rawFmax _ _ _ _)
    exact Keeps.refl _
  · refine Keeps.ite (fun _ => ?_) (fun _ => ?_)
    · exact Keeps.refl _
    · refine Keeps.trans ?_ (kept_rawCopy _ _ _)
      exact Keeps.refl _
  · refine Keeps.trans ?_ (kept_rawCopy _ _ _)
    exact Keeps.refl _
  · refine Keeps.trans ?_ (kept_rawCopy _ _ _)
    exact Keeps.refl _
  · refine Keeps.trans ?_ (kept_editStoreOn _ _ _)
    exact Keeps.refl _
  · refine Keeps.trans ?_ (kept_editStoreOn _ _ _)
    exact Keeps.refl _
  · refine Keeps.trans ?_ (kept_editStoreOn _ _ _)
    exact Keeps.refl _
  · refine Keeps.trans ?_ (kept_editStoreOn _ _ _)
    exact Keeps.refl _
  · refine Keeps.trans ?_ (kept_editStoreOn _ _ _)
    exact Keeps.refl _
  · refine Keeps.trans ?_ (kept_rawCopy _ _ _)
    exact Keeps.refl _
  · extract_lets +onlyGivenNames -underBinder -merge -useContext v46
    try clear_value v46
    refine Keeps.trans ?_ (kept_editStoreOn _ _ _)
    exact Keeps.refl _
  · extract_lets +onlyGivenNames -underBinder -merge -useContext v51
    try clear_value v51
    refine Keeps.trans ?_ (kept_editStoreOn _ _ _)
    exact Keeps.refl _
  · refine Keeps.trans ?_ (kept_enterCase _ _)
    refine Keeps.update ?_
    exact Keeps.refl _
  · refine Keeps.trans ?_ (kept_enterCase _ _)
    exact Keeps.refl _
  · refine Keeps.trans ?_ (kept_rawCopy _ _ _)
    exact Keeps.refl _
  · refine Keeps.trans ?_ (kept_rawCopy _ _ _)
    exact Keeps.refl _
  · refine Keeps.trans ?_ (kept_rawCopy _ _ _)
    exact Keeps.refl _
  · exact Keeps.refl _

theorem kept_writeRaw (d address : Nat) (data : List Byte) (s0 : State) : Keeps s0 (writeRaw d address data s0) := by
  unfold writeRaw
  extract_lets cs base s1 s2
  have h1 : Keeps s0 s1 := kept_modDie_store _ _ _ fun x w => wf_memPutAll data address w
  have h2 : Keeps s0 s2 := Keeps.foldl (fun s r => kept_rawTake d cs s r) h1
  exact (h2.trans (kept_setCase _ _ _)).trans (kept_setCase _ _ _)

end Sys2Proof.Machine
end

