-- ==== Sys2Proof/Laws/Kept/Writes.lean ====
section
/-!
SUPPORT. What the operations and commands of Machine/Writes.lean keep (see Laws/Keeps.lean).
-/
namespace Sys2Proof.Machine

theorem kept_refuseAuth (p : Path) (action : Nat) (target : Nat) (cls : Nat) (nonce : Nat) (reason : Nat) (s0 : State) : Keeps s0 (refuseAuth p action target cls nonce reason s0) := by
  unfold refuseAuth
  extract_lets +onlyGivenNames -underBinder -merge -useContext v0
  try clear_value v0
  extract_lets +onlyGivenNames -underBinder -merge -useContext v2
  have h_v2 : Keeps s0 v2 := by
    unfold v2
    refine Keeps.trans ?_ (kept_addObj _ _ _)
    refine Keeps.trans ?_ (kept_recordAt _ _ _ _ _ _)
    exact Keeps.refl _
  try clear_value v2
  extract_lets +onlyGivenNames -underBinder -merge -useContext v9
  try clear_value v9
  refine Keeps.ite (fun _ => ?_) (fun _ => ?_)
  · refine Keeps.trans ?_ (kept_modPath _ _ _)
    exact h_v2
  · refine Keeps.trans ?_ (kept_emcy _ _ _ _ _)
    refine Keeps.trans ?_ (kept_modPath _ _ _)
    exact h_v2

theorem kept_grant (p : Path) (action : Nat) (target : Nat) (cls : Nat) (s0 : State) : Keeps s0 (grant p action target cls s0) := by
  unfold grant
  extract_lets +onlyGivenNames -underBinder -merge -useContext v0
  try clear_value v0
  extract_lets +onlyGivenNames -underBinder -merge -useContext v2
  try clear_value v2
  refine Keeps.ite (fun _ => ?_) (fun _ => ?_)
  · refine Keeps.trans ?_ (kept_modPath _ _ _)
    exact Keeps.refl _
  · refine Keeps.trans ?_ (kept_modPath _ _ _)
    exact Keeps.refl _

theorem kept_answerNonce (p : Path) (data : List Byte) (s0 : State) : Keeps s0 (answerNonce p data s0).2 := by
  unfold answerNonce
  split
  · extract_lets +onlyGivenNames -underBinder -merge -useContext v2
    try clear_value v2
    refine Keeps.snd ?_
    refine Keeps.trans ?_ (kept_refuseAuth _ _ _ _ _ _ _)
    exact Keeps.refl _
  · extract_lets +onlyGivenNames -underBinder -merge -useContext v8
    have h_v8 : Keeps s0 v8 := by
      unfold v8
      refine Keeps.trans ?_ (kept_modPath _ _ _)
      exact Keeps.refl _
    try clear_value v8
    extract_lets +onlyGivenNames -underBinder -merge -useContext v14
    try clear_value v14
    refine Keeps.ite1 (fun _ => ?_) (fun _ => ?_)
    · extract_lets +onlyGivenNames -underBinder -merge -useContext v18
      have h_v18 : Keeps s0 v18 := by
        unfold v18
        refine Keeps.trans ?_ (kept_recordAt _ _ _ _ _ _)
        exact h_v8
      try clear_value v18
      refine Keeps.snd ?_
      refine Keeps.trans ?_ (kept_addObj _ _ _)
      refine Keeps.trans ?_ (kept_grant _ _ _ _ _)
      exact h_v18
    · refine Keeps.snd ?_
      refine Keeps.trans ?_ (kept_refuseAuth _ _ _ _ _ _ _)
      exact h_v8

theorem kept_armSlot (p : Path) (logical : Option Nat) (target : Nat) (s0 : State) : Keeps s0 (armSlot p logical target s0) := by
  unfold armSlot
  extract_lets +onlyGivenNames -underBinder -merge -useContext v0
  try clear_value v0
  refine Keeps.update ?_
  exact Keeps.refl _

theorem kept_bindMailbox (m : Nat) (k : Nat) (s0 : State) : Keeps s0 (bindMailbox m k s0) := by
  unfold bindMailbox
  extract_lets +onlyGivenNames -underBinder -merge -useContext v0
  have h_v0 : Keeps s0 v0 := by
    unfold v0
    refine Keeps.trans ?_ (kept_modMailbox _ _ _)
    exact Keeps.refl _
  try clear_value v0
  extract_lets +onlyGivenNames -underBinder -merge -useContext v6
  have h_v6 : Keeps s0 v6 := by
    unfold v6
    refine Keeps.ite (fun _ => ?_) (fun _ => ?_)
    · exact h_v0
    · refine Keeps.trans ?_ (kept_modDie _ _ _ (fun x => ?_))
      · exact h_v0
      · first | rfl | ((try dsimp only); (repeat' split) <;> rfl)
  try clear_value v6
  extract_lets +onlyGivenNames -underBinder -merge -useContext v19
  try clear_value v19
  refine Keeps.trans ?_ (kept_modPath _ _ _)
  refine Keeps.update ?_
  exact h_v6

theorem kept_clearLatch (i : Nat) (s0 : State) : Keeps s0 (clearLatch i s0) := by
  unfold clearLatch
  beta_reduce
  refine Keeps.ite (fun _ => ?_) (fun _ => ?_)
  · refine Keeps.foldl (fun s0 a => ?_) ?_
    · try beta_reduce
      refine Keeps.ite (fun _ => ?_) (fun _ => ?_)
      · exact Keeps.refl _
      · extract_lets +onlyGivenNames -underBinder -merge -useContext v10
        have h_v10 : Keeps s0 v10 := by
          unfold v10
          refine Keeps.trans ?_ (kept_modTray _ _ _ _)
          exact Keeps.refl _
        try clear_value v10
        refine Keeps.trans ?_ (kept_record _ _ _ _ _)
        exact h_v10
    · exact Keeps.refl _
  · refine Keeps.foldl (fun s0 a => ?_) ?_
    · try beta_reduce
      extract_lets +onlyGivenNames -underBinder -merge -useContext v24
      try clear_value v24
      refine Keeps.ite (fun _ => ?_) (fun _ => ?_)
      · refine Keeps.trans ?_ (kept_powerOn _ _)
        exact Keeps.refl _
      · exact Keeps.refl _
    · refine Keeps.foldl (fun s0 a => ?_) ?_
      · try beta_reduce
        refine Keeps.ite (fun _ => ?_) (fun _ => ?_)
        · exact Keeps.refl _
        · extract_lets +onlyGivenNames -underBinder -merge -useContext v40
          have h_v40 : Keeps s0 v40 := by
            unfold v40
            refine Keeps.trans ?_ (kept_modTray _ _ _ _)
            exact Keeps.refl _
          try clear_value v40
          refine Keeps.trans ?_ (kept_record _ _ _ _ _)
          exact h_v40
      · exact Keeps.refl _

theorem kept_clearModel (s0 : State) : Keeps s0 (clearModel s0) := by
  unfold clearModel
  refine Keeps.ite (fun _ => ?_) (fun _ => ?_)
  · exact Keeps.refl _
  · refine Keeps.trans ?_ (kept_refreshErrors _)
    refine Keeps.trans ?_ (kept_refreshBounds _)
    refine Keeps.trans ?_ (kept_recordPkg _ _ _)
    refine Keeps.update ?_
    exact Keeps.refl _

theorem kept_clearReel (p : Path) (d : Nat) (position : Nat) (s0 : State) : Keeps s0 (clearReel p d position s0) := by
  unfold clearReel
  extract_lets +onlyGivenNames -underBinder -merge -useContext v0
  try clear_value v0
  extract_lets +onlyGivenNames -underBinder -merge -useContext v2
  extract_lets +onlyGivenNames -underBinder -merge -useContext v3
  extract_lets +onlyGivenNames -underBinder -merge -useContext v4
  try clear_value v4
  refine Keeps.trans ?_ (kept_modReel _ _ _)
  exact Keeps.refl _

theorem kept_commitImage (s0 : State) : Keeps s0 (commitImage s0) := by
  unfold commitImage
  refine Keeps.update ?_
  exact Keeps.refl _

theorem kept_controlSlots (p : Path) (v : Nat) (s0 : State) : Keeps s0 (controlSlots p v s0) := by
  unfold controlSlots
  extract_lets +onlyGivenNames -underBinder -merge -useContext v0
  try clear_value v0
  extract_lets +onlyGivenNames -underBinder -merge -useContext v2
  try clear_value v2
  extract_lets +onlyGivenNames -underBinder -merge -useContext v4
  refine Keeps.update ?_
  exact Keeps.refl _

theorem kept_spendGrant (p : Path) (index : Nat) (sub : Nat) (v : Nat) (s0 : State) : Keeps s0 (spendGrant p index sub v s0) := by
  unfold spendGrant
  split
  · refine Keeps.trans ?_ (kept_consumeGrant _ _ _ _)
    exact Keeps.refl _
  · exact Keeps.refl _

theorem kept_numberWrite (s0 : State) : Keeps s0 (numberWrite s0).2 := by
  unfold numberWrite
  extract_lets +onlyGivenNames -underBinder -merge -useContext v0
  have h_v0 : Keeps s0 v0 := by
    unfold v0
    refine Keeps.trans ?_ (kept_eraEvent _)
    exact Keeps.refl _
  try clear_value v0
  refine Keeps.snd ?_
  refine Keeps.trans ?_ (kept_takePosition _)
  exact h_v0

theorem kept_serveWriteWith (act : ObjRow → Nat → State → State) (p : Path) (index : Nat) (sub : Nat) (data : List Byte) (j : State) (s0 : State)
    (hact : ∀ r n s, Keeps s (act r n s)) : Keeps s0 (serveWriteWith act p index sub data j s0) := by
  unfold serveWriteWith
  extract_lets +onlyGivenNames -underBinder -merge -useContext v0
  try clear_value v0
  extract_lets +onlyGivenNames -underBinder -merge -useContext v2
  have h_v2 : Keeps s0 v2 := by
    unfold v2
    refine Keeps.trans ?_ (kept_modDie _ _ _ (fun x => ?_))
    · exact Keeps.refl _
    · first | rfl | ((try dsimp only); (repeat' split) <;> rfl)
  try clear_value v2
  split
  · refine Keeps.trans ?_ (kept_respond _ _ _ _ _ _ _)
    exact h_v2
  · refine Keeps.trans ?_ (kept_respond _ _ _ _ _ _ _)
    exact h_v2
  · refine Keeps.ite (fun _ => ?_) (fun _ => ?_)
    · split
      · rename_i hq_
        have hk_ : Keeps s0 _ := Keeps.of_eq1 hq_ (by
          refine Keeps.trans ?_ (kept_answerNonce _ _ _)
          exact h_v2
          )
        refine Keeps.trans ?_ (kept_respond _ _ _ _ _ _ _)
        exact hk_
    · refine Keeps.ite (fun _ => ?_) (fun _ => ?_)
      · refine Keeps.trans ?_ (kept_requestForced _ _)
        exact h_v2
      · refine Keeps.ite (fun _ => ?_) (fun _ => ?_)
        · refine Keeps.trans ?_ (kept_respond _ _ _ _ _ _ _)
          refine Keeps.trans ?_ (hact _ _ _)
          refine Keeps.trans ?_ (kept_spendGrant _ _ _ _ _)
          exact h_v2
        · refine Keeps.ite (fun _ => ?_) (fun _ => ?_)
          · exact h_v2
          · split
            · rename_i hq_
              have hk_ : Keeps s0 _ := Keeps.of_eq1 hq_ (by
                refine Keeps.trans ?_ (kept_numberWrite _)
                exact h_v2
                )
              refine Keeps.trans ?_ (kept_respond _ _ _ _ _ _ _)
              refine Keeps.trans ?_ (hact _ _ _)
              refine Keeps.trans ?_ (kept_spendGrant _ _ _ _ _)
              exact hk_

theorem kept_writeFrequency (k : Nat) (v : Nat) (s0 : State) : Keeps s0 (writeFrequency k v s0) := by
  unfold writeFrequency
  refine Keeps.trans ?_ (kept_recomputeSlice _ _ _)
  refine Keeps.trans ?_ (kept_setSobj _ _ _ _)
  exact Keeps.refl _

theorem kept_keepValue (p : Path) (r : ObjRow) (sub : Nat) (v : Nat) (s0 : State) : Keeps s0 (keepValue p r sub v s0) := by
  unfold keepValue
  extract_lets +onlyGivenNames -underBinder -merge -useContext v0
  try clear_value v0
  split
  · refine Keeps.trans ?_ (kept_modDie _ _ _ (fun x => ?_))
    · exact Keeps.refl _
    · first | rfl | ((try dsimp only); (repeat' split) <;> rfl)
  · refine Keeps.trans ?_ (kept_modPath _ _ _)
    exact Keeps.refl _
  · refine Keeps.trans ?_ (kept_setSobj _ _ _ _)
    exact Keeps.refl _
  · refine Keeps.trans ?_ (kept_setObj _ _ _)
    exact Keeps.refl _

theorem kept_setReturnState (v : Nat) (s0 : State) : Keeps s0 (setReturnState v s0) := by
  unfold setReturnState
  extract_lets +onlyGivenNames -underBinder -merge -useContext v0
  try clear_value v0
  refine Keeps.ite (fun _ => ?_) (fun _ => ?_)
  · exact Keeps.refl _
  · extract_lets +onlyGivenNames -underBinder -merge -useContext v6
    have h_v6 : Keeps s0 v6 := by
      unfold v6
      refine Keeps.trans ?_ (kept_recordPkg _ _ _)
      exact Keeps.refl _
    try clear_value v6
    extract_lets +onlyGivenNames -underBinder -merge -useContext v12
    have h_v12 : Keeps s0 v12 := by
      unfold v12
      refine Keeps.update_whole ?_ ?_ ?_ ?_
      · exact h_v6
      · first | rfl | simp
      · first | rfl | simp
      · first | exact fun h => h | exact Keeps.map_stores (fun x => by first | rfl | (dsimp only; split <;> rfl) | (split <;> rfl) | (simp +zetaDelta only []; first | rfl | (split <;> rfl)) | simp)
    try clear_value v12
    refine Keeps.ite (fun _ => ?_) (fun _ => ?_)
    · split
      · rename_i hq_
        have hk_ : Keeps s0 _ := Keeps.of_eq1 hq_ (by
          refine Keeps.trans ?_ (kept_takeBit _)
          exact h_v12
          )
        refine Keeps.ite (fun _ => ?_) (fun _ => ?_)
        · refine Keeps.trans ?_ (kept_enterCase _ _)
          exact hk_
        · exact hk_
    · exact h_v12

theorem kept_requestSnapshot (p : Path) (s0 : State) : Keeps s0 (requestSnapshot p s0) := by
  unfold requestSnapshot
  extract_lets +onlyGivenNames -underBinder -merge -useContext v0
  try clear_value v0
  extract_lets +onlyGivenNames -underBinder -merge -useContext v2
  try clear_value v2
  extract_lets +onlyGivenNames -underBinder -merge -useContext v4
  try clear_value v4
  extract_lets +onlyGivenNames -underBinder -merge -useContext v6
  try clear_value v6
  extract_lets +onlyGivenNames -underBinder -merge -useContext v8
  try clear_value v8
  extract_lets +onlyGivenNames -underBinder -merge -useContext v10
  try clear_value v10
  split
  · refine Keeps.trans ?_ (kept_modPath _ _ _)
    refine Keeps.update ?_
    exact Keeps.refl _
  · refine Keeps.ite (fun _ => ?_) (fun _ => ?_)
    · refine Keeps.trans ?_ (kept_modPath _ _ _)
      refine Keeps.update ?_
      exact Keeps.refl _
    · refine Keeps.trans ?_ (kept_modPath _ _ _)
      exact Keeps.refl _

theorem kept_writeKey (p : Path) (cls : Nat) (key_ : List Byte) (s0 : State) : Keeps s0 (writeKey p cls key_ s0) := by
  unfold writeKey
  extract_lets +onlyGivenNames -underBinder -merge -useContext v0
  extract_lets +onlyGivenNames -underBinder -merge -useContext v1
  have h_v1 : Keeps s0 v1 := by
    unfold v1
    refine Keeps.update ?_
    exact Keeps.refl _
  try clear_value v1
  refine Keeps.trans ?_ (kept_recordAt _ _ _ _ _ _)
  exact h_v1

theorem kept_writeImage (version : Nat) (image : List Byte) (s0 : State) : Keeps s0 (writeImage version image s0) := by
  unfold writeImage
  extract_lets +onlyGivenNames -underBinder -merge -useContext v0
  try clear_value v0
  refine Keeps.update ?_
  exact Keeps.refl _

theorem kept_writeFmax (u : Nat) (b : List Byte) (s0 : State) : Keeps s0 (writeFmax u b s0) := by
  unfold writeFmax
  extract_lets +onlyGivenNames -underBinder -merge -useContext v0
  extract_lets +onlyGivenNames -underBinder -merge -useContext v1
  have h_v1 : Keeps s0 v1 := by
    unfold v1
    refine Keeps.trans ?_ (kept_modFmax _ _ _)
    exact Keeps.refl _
  try clear_value v1
  extract_lets +onlyGivenNames -underBinder -merge -useContext v7
  try clear_value v7
  extract_lets +onlyGivenNames -underBinder -merge -useContext v9
  have h_v9 : Keeps s0 v9 := by
    unfold v9
    refine Keeps.trans ?_ (kept_leaveCase _ _)
    exact h_v1
  try clear_value v9
  refine Keeps.ite (fun _ => ?_) (fun _ => ?_)
  · exact h_v9
  · refine Keeps.trans ?_ (kept_recomputeSlice _ _ _)
    exact h_v9

theorem kept_writeEffect (p : Path) (r : ObjRow) (sub : Nat) (v : Nat) (data : List Byte) (position : Nat) (s0 : State) : Keeps s0 (writeEffect p r sub v data position s0) := by
  unfold writeEffect
  extract_lets +onlyGivenNames -underBinder -merge -useContext v0
  have h_v0 : Keeps s0 v0 := by
    unfold v0
    refine Keeps.trans ?_ (kept_keepValue _ _ _ _ _)
    exact Keeps.refl _
  try clear_value v0
  extract_lets +onlyGivenNames -underBinder -merge -useContext v6
  try clear_value v6
  split
  · refine Keeps.trans ?_ (kept_modDie _ _ _ (fun x => ?_))
    · exact Keeps.refl _
    · first | rfl | ((try dsimp only); (repeat' split) <;> rfl)
  · extract_lets +onlyGivenNames -underBinder -merge -useContext v16
    try clear_value v16
    refine Keeps.trans ?_ (kept_applyModes _)
    refine Keeps.ite (fun _ => ?_) (fun _ => ?_)
    · refine Keeps.trans ?_ (kept_leaveCase _ _)
      exact h_v0
    · exact h_v0
  · extract_lets +onlyGivenNames -underBinder -merge -useContext v26
    try clear_value v26
    refine Keeps.trans ?_ (kept_applyModes _)
    refine Keeps.ite (fun _ => ?_) (fun _ => ?_)
    · refine Keeps.trans ?_ (kept_leaveCase _ _)
      exact h_v0
    · exact h_v0
  · refine Keeps.trans ?_ (kept_applyMode _ _)
    exact h_v0
  · refine Keeps.trans ?_ (kept_clearModel _)
    exact Keeps.refl _
  · extract_lets +onlyGivenNames -underBinder -merge -useContext v42
    try clear_value v42
    refine Keeps.ite (fun _ => ?_) (fun _ => ?_)
    · exact h_v0
    · refine Keeps.trans ?_ (kept_recordAt _ _ _ _ _ _)
      exact h_v0
  · refine Keeps.trans ?_ (kept_refreshBound _ _)
    exact h_v0
  · refine Keeps.ite (fun _ => ?_) (fun _ => ?_)
    · refine Keeps.trans ?_ (kept_modPath _ _ _)
      exact h_v0
    · refine Keeps.trans ?_ (kept_modPath _ _ _)
      exact h_v0
  · split
    · refine Keeps.trans ?_ (kept_writeFmax _ _ _)
      exact Keeps.refl _
    · exact Keeps.refl _
  · split
    · refine Keeps.trans ?_ (kept_startReset _ _ _ _)
      refine Keeps.trans ?_ (kept_captureDomain _ _ _ _ _)
      exact Keeps.refl _
    · exact Keeps.refl _
  · refine Keeps.ite (fun _ => ?_) (fun _ => ?_)
    · refine Keeps.trans ?_ (kept_modDie _ _ _ (fun x => ?_))
      · exact Keeps.refl _
      · first | rfl | ((try dsimp only); (repeat' split) <;> rfl)
    · exact h_v0
  · refine Keeps.trans ?_ (kept_orderly _ _ _)
    exact Keeps.refl _
  · refine Keeps.trans ?_ (kept_recomputeGroups _ _ _)
    exact h_v0
  · refine Keeps.trans ?_ (kept_recomputeGroups _ _ _)
    exact h_v0
  · refine Keeps.trans ?_ (kept_writeFrequency _ _ _)
    exact Keeps.refl _
  · refine Keeps.trans ?_ (kept_refreshReservoirs _ _)
    exact h_v0
  · refine Keeps.trans ?_ (kept_clearLatch _ _)
    exact Keeps.refl _
  · refine Keeps.trans ?_ (kept_writeImage _ _ _)
    exact Keeps.refl _
  · refine Keeps.trans ?_ (kept_commitImage _)
    exact Keeps.refl _
  · refine Keeps.trans ?_ (kept_clearReel _ _ _ _)
    exact Keeps.refl _
  · refine Keeps.trans ?_ (kept_setReturnState _ _)
    exact Keeps.refl _
  · refine Keeps.trans ?_ (kept_requestSnapshot _ _)
    exact Keeps.refl _
  · refine Keeps.trans ?_ (kept_armSlot _ _ _ _)
    exact Keeps.refl _
  · refine Keeps.trans ?_ (kept_armSlot _ _ _ _)
    exact Keeps.refl _
  · refine Keeps.trans ?_ (kept_modTrace _ _ _)
    exact Keeps.refl _
  · refine Keeps.trans ?_ (kept_controlSlots _ _ _)
    exact Keeps.refl _
  · refine Keeps.trans ?_ (kept_modDie _ _ _ (fun x => ?_))
    · exact Keeps.refl _
    · first | rfl | ((try dsimp only); (repeat' split) <;> rfl)
  · refine Keeps.trans ?_ (kept_modPath _ _ _)
    exact Keeps.refl _
  · refine Keeps.trans ?_ (kept_writeKey _ _ _ _)
    exact Keeps.refl _
  · refine Keeps.ite (fun _ => ?_) (fun _ => ?_)
    · refine Keeps.trans ?_ (kept_bindMailbox _ _ _)
      exact Keeps.refl _
    · exact h_v0
  · refine Keeps.ite (fun _ => ?_) (fun _ => ?_)
    · refine Keeps.trans ?_ (kept_writeRaw _ _ _ _)
      exact Keeps.refl _
    · exact h_v0
  · exact h_v0

theorem kept_serveWrite (p : Path) (index : Nat) (sub : Nat) (data : List Byte) (s0 : State) : Keeps s0 (serveWrite p index sub data s0) := by
  unfold serveWrite
  refine Keeps.trans ?_ (kept_serveWriteWith _ _ _ _ _ _ _ (fun r n s => kept_writeEffect _ _ _ _ _ _ _))
  exact Keeps.refl _

theorem kept_readNonce (p : Path) (s0 : State) : Keeps s0 (readNonce p s0).2.2 := by
  unfold readNonce
  refine Keeps.ite2 (fun _ => ?_) (fun _ => ?_)
  · refine Keeps.snd2 ?_
    refine Keeps.snd ?_
    refine Keeps.trans ?_ (kept_addObj _ _ _)
    exact Keeps.refl _
  · extract_lets +onlyGivenNames -underBinder -merge -useContext v7
    try clear_value v7
    extract_lets +onlyGivenNames -underBinder -merge -useContext v9
    try clear_value v9
    refine Keeps.ite2 (fun _ => ?_) (fun _ => ?_)
    · extract_lets +onlyGivenNames -underBinder -merge -useContext v13
      try clear_value v13
      refine Keeps.snd2 ?_
      refine Keeps.snd ?_
      refine Keeps.trans ?_ (kept_refuseAuth _ _ _ _ _ _ _)
      exact Keeps.refl _
    · split
      · rename_i hq_
        have hk_ : Keeps s0 _ := Keeps.of_eq1 hq_ (by
          refine Keeps.trans ?_ (kept_takeWord _)
          exact Keeps.refl _
          )
        refine Keeps.snd2 ?_
        refine Keeps.snd ?_
        refine Keeps.trans ?_ (kept_modPath _ _ _)
        exact hk_

theorem kept_nextChunk (p : Path) (s0 : State) : Keeps s0 (nextChunk p s0).2 := by
  unfold nextChunk
  extract_lets +onlyGivenNames -underBinder -merge -useContext v0
  try clear_value v0
  split
  · refine Keeps.snd ?_
    refine Keeps.trans ?_ (kept_modPath _ _ _)
    exact Keeps.refl _
  · refine Keeps.snd ?_
    exact Keeps.refl _

theorem kept_nextRecord (p : Path) (s0 : State) : Keeps s0 (nextRecord p s0).2 := by
  unfold nextRecord
  split
  · refine Keeps.snd ?_
    refine Keeps.trans ?_ (kept_modPath _ _ _)
    exact Keeps.refl _
  · refine Keeps.snd ?_
    exact Keeps.refl _

theorem kept_serveRead (p : Path) (index : Nat) (sub : Nat) (n : Nat) (s0 : State) : Keeps s0 (serveRead p index sub n s0) := by
  unfold serveRead
  extract_lets +onlyGivenNames -underBinder -merge -useContext v0
  have h_v0 : Keeps s0 v0 := by
    unfold v0
    refine Keeps.trans ?_ (kept_modDie _ _ _ (fun x => ?_))
    · exact Keeps.refl _
    · first | rfl | ((try dsimp only); (repeat' split) <;> rfl)
  try clear_value v0
  split
  · refine Keeps.trans ?_ (kept_respond _ _ _ _ _ _ _)
    exact h_v0
  · refine Keeps.trans ?_ (kept_respond _ _ _ _ _ _ _)
    exact h_v0
  · extract_lets +onlyGivenNames -underBinder -merge -useContext v17
    split
    · split
      · rename_i hq_
        have hk_ : Keeps s0 _ := Keeps.of_eq2 hq_ (by
          refine Keeps.trans ?_ (kept_readNonce _ _)
          exact h_v0
          )
        refine Keeps.trans ?_ (kept_respond _ _ _ _ _ _ _)
        exact hk_
    · split
      · rename_i hq_
        have hk_ : Keeps s0 _ := Keeps.of_eq1 hq_ (by
          refine Keeps.trans ?_ (kept_nextRecord _ _)
          exact h_v0
          )
        try unfold v17
        try beta_reduce
        split
        · refine Keeps.trans ?_ (kept_respond _ _ _ _ _ _ _)
          exact hk_
        · refine Keeps.trans ?_ (kept_respond _ _ _ _ _ _ _)
          exact hk_
    · refine Keeps.ite (fun _ => ?_) (fun _ => ?_)
      · split
        · rename_i hq_
          have hk_ : Keeps s0 _ := Keeps.of_eq1 hq_ (by
            refine Keeps.trans ?_ (kept_nextChunk _ _)
            exact h_v0
            )
          try unfold v17
          try beta_reduce
          split
          · refine Keeps.trans ?_ (kept_respond _ _ _ _ _ _ _)
            exact hk_
          · refine Keeps.trans ?_ (kept_respond _ _ _ _ _ _ _)
            exact hk_
      · try unfold v17
        try beta_reduce
        split
        · refine Keeps.trans ?_ (kept_respond _ _ _ _ _ _ _)
          exact h_v0
        · refine Keeps.trans ?_ (kept_respond _ _ _ _ _ _ _)
          exact h_v0
    · extract_lets +onlyGivenNames -underBinder -merge -useContext v76
      try clear_value v76
      extract_lets +onlyGivenNames -underBinder -merge -useContext v78
      try clear_value v78
      try unfold v17
      try beta_reduce
      split
      · refine Keeps.trans ?_ (kept_respond _ _ _ _ _ _ _)
        refine Keeps.trans ?_ (kept_noteCounts _ _)
        exact h_v0
      · refine Keeps.trans ?_ (kept_respond _ _ _ _ _ _ _)
        refine Keeps.trans ?_ (kept_noteCounts _ _)
        exact h_v0
    · try unfold v17
      try beta_reduce
      split
      · refine Keeps.trans ?_ (kept_respond _ _ _ _ _ _ _)
        exact h_v0
      · refine Keeps.trans ?_ (kept_respond _ _ _ _ _ _ _)
        exact h_v0

end Sys2Proof.Machine
end

