-- ==== Sys2Proof/Laws/Kept/Paths.lean ====
section
/-!
SUPPORT. What the operations and commands of Machine/Paths.lean keep (see Laws/Keeps.lean).
-/
namespace Sys2Proof.Machine

theorem kept_asInitiated (p : Path) (x : Sdo) (s0 : State) : Keeps s0 (asInitiated p x s0) := by
  unfold asInitiated
  extract_lets +onlyGivenNames -underBinder -merge -useContext v0
  try clear_value v0
  extract_lets +onlyGivenNames -underBinder -merge -useContext v2
  try clear_value v2
  refine Keeps.trans ?_ (kept_modPath _ _ _)
  exact Keeps.refl _

theorem kept_placeRequest (m : Nat) (r : MailReq) (host : List Byte) (s0 : State) : Keeps s0 (placeRequest m r host s0) := by
  unfold placeRequest
  refine Keeps.ite (fun _ => ?_) (fun _ => ?_)
  · exact Keeps.refl _
  · refine Keeps.update ?_
    exact Keeps.refl _

theorem kept_pathWrite (p : Path) (index : Nat) (sub : Nat) (data : List Byte) (s0 : State) : Keeps s0 (pathWrite p index sub data s0) := by
  unfold pathWrite
  refine Keeps.ite (fun _ => ?_) (fun _ => ?_)
  · refine Keeps.trans ?_ (kept_serveWrite _ _ _ _ _)
    exact Keeps.refl _
  · split
    · refine Keeps.ite (fun _ => ?_) (fun _ => ?_)
      · exact Keeps.refl _
      · refine Keeps.ite (fun _ => ?_) (fun _ => ?_)
        · refine Keeps.trans ?_ (kept_placeRequest _ _ _ _)
          exact Keeps.refl _
        · refine Keeps.trans ?_ (kept_placeRequest _ _ _ _)
          exact Keeps.refl _
    · exact Keeps.refl _

theorem ends_execSlotFree (dt : Nat) (p : Path) (s0 : State) : Ends (elapse dt s0) (execSlotFree dt p s0) := by
  unfold execSlotFree
  refine Ends.done ?_
  refine Keeps.trans ?_ (kept_pathWrite _ _ _ _ _)
  exact Keeps.refl _

theorem ends_execForcedReadmit (dt : Nat) (p : Path) (s0 : State) : Ends (elapse dt s0) (execForcedReadmit dt p s0) := by
  unfold execForcedReadmit
  refine Ends.done ?_
  refine Keeps.trans ?_ (kept_pathWrite _ _ _ _ _)
  exact Keeps.refl _

theorem ends_execUnitExchange (dt : Nat) (p : Path) (spare : Pua) (s0 : State) : Ends (elapse dt s0) (execUnitExchange dt p spare s0) := by
  unfold execUnitExchange
  refine Ends.done ?_
  refine Keeps.trans ?_ (kept_pathWrite _ _ _ _ _)
  exact Keeps.refl _

theorem kept_setSdo (p : Path) (x : Option Sdo) (s0 : State) : Keeps s0 (setSdo p x s0) := by
  unfold setSdo
  refine Keeps.trans ?_ (kept_modPath _ _ _)
  exact Keeps.refl _

theorem ends_execSdoSegment (dt : Nat) (p : Path) (data : List Byte) (last : Bool) (s0 : State) : Ends (elapse dt s0) (execSdoSegment dt p data last s0) := by
  unfold execSdoSegment
  extract_lets +onlyGivenNames -underBinder -merge -useContext v0
  have h_v0 : Keeps (elapse dt s0) v0 := by
    unfold v0
    exact Keeps.refl _
  try clear_value v0
  refine Ends.done ?_
  refine Keeps.ite (fun _ => ?_) (fun _ => ?_)
  · exact h_v0
  · split
    · exact h_v0
    · extract_lets +onlyGivenNames -underBinder -merge -useContext v14
      try clear_value v14
      refine Keeps.ite (fun _ => ?_) (fun _ => ?_)
      · refine Keeps.trans ?_ (kept_respond _ _ _ _ _ _ _)
        refine Keeps.trans ?_ (kept_setSdo _ _ _)
        exact h_v0
      · refine Keeps.ite (fun _ => ?_) (fun _ => ?_)
        · extract_lets +onlyGivenNames -underBinder -merge -useContext v24
          try clear_value v24
          refine Keeps.ite (fun _ => ?_) (fun _ => ?_)
          · refine Keeps.trans ?_ (kept_respond _ _ _ _ _ _ _)
            refine Keeps.trans ?_ (kept_setSdo _ _ _)
            exact h_v0
          · extract_lets +onlyGivenNames -underBinder -merge -useContext v32
            have h_v32 : Keeps (elapse dt s0) v32 := by
              unfold v32
              refine Keeps.trans ?_ (kept_setSdo _ _ _)
              exact h_v0
            try clear_value v32
            refine Keeps.ite (fun _ => ?_) (fun _ => ?_)
            · refine Keeps.trans ?_ (kept_respond _ _ _ _ _ _ _)
              exact h_v32
            · refine Keeps.trans ?_ (kept_serveWriteWith _ _ _ _ _ _ _ (fun r n s => kept_writeEffect _ _ _ _ _ _ _))
              exact h_v32
        · refine Keeps.ite (fun _ => ?_) (fun _ => ?_)
          · refine Keeps.trans ?_ (kept_respond _ _ _ _ _ _ _)
            refine Keeps.trans ?_ (kept_setSdo _ _ _)
            exact h_v0
          · extract_lets +onlyGivenNames -underBinder -merge -useContext v52
            try clear_value v52
            refine Keeps.trans ?_ (kept_respond _ _ _ _ _ _ _)
            refine Keeps.trans ?_ (kept_setSdo _ _ _)
            exact h_v0

theorem ends_execReturnStateClear (dt : Nat) (p : Path) (s0 : State) : Ends (elapse dt s0) (execReturnStateClear dt p s0) := by
  unfold execReturnStateClear
  refine Ends.done ?_
  refine Keeps.trans ?_ (kept_pathWrite _ _ _ _ _)
  exact Keeps.refl _

theorem ends_execStreamerCheckingWrite (dt : Nat) (p : Path) (value : List Byte) (s0 : State) : Ends (elapse dt s0) (execStreamerCheckingWrite dt p value s0) := by
  unfold execStreamerCheckingWrite
  refine Ends.done ?_
  refine Keeps.trans ?_ (kept_pathWrite _ _ _ _ _)
  exact Keeps.refl _

theorem ends_execLeaseExpiry (dt : Nat) (p : Path) (s0 : State) : Ends (elapse dt s0) (execLeaseExpiry dt p s0) := by
  unfold execLeaseExpiry
  extract_lets +onlyGivenNames -underBinder -merge -useContext v0
  have h_v0 : Keeps (elapse dt s0) v0 := by
    unfold v0
    exact Keeps.refl _
  try clear_value v0
  refine Ends.done ?_
  refine Keeps.ite (fun _ => ?_) (fun _ => ?_)
  · exact h_v0
  · refine Keeps.trans ?_ (kept_modPath _ _ _)
    exact h_v0

theorem ends_execSdoTimeout (dt : Nat) (p : Path) (s0 : State) : Ends (elapse dt s0) (execSdoTimeout dt p s0) := by
  unfold execSdoTimeout
  extract_lets +onlyGivenNames -underBinder -merge -useContext v0
  have h_v0 : Keeps (elapse dt s0) v0 := by
    unfold v0
    exact Keeps.refl _
  try clear_value v0
  refine Ends.done ?_
  split
  · exact h_v0
  · refine Keeps.ite (fun _ => ?_) (fun _ => ?_)
    · exact h_v0
    · refine Keeps.trans ?_ (kept_respond _ _ _ _ _ _ _)
      refine Keeps.trans ?_ (kept_setSdo _ _ _)
      exact h_v0

theorem ends_execTraceArmByPua (dt : Nat) (p : Path) (pua : Pua) (s0 : State) : Ends (elapse dt s0) (execTraceArmByPua dt p pua s0) := by
  unfold execTraceArmByPua
  refine Ends.done ?_
  refine Keeps.trans ?_ (kept_pathWrite _ _ _ _ _)
  exact Keeps.refl _

theorem kept_pathRead (p : Path) (index : Nat) (sub : Nat) (n : Nat) (s0 : State) : Keeps s0 (pathRead p index sub n s0) := by
  unfold pathRead
  refine Keeps.ite (fun _ => ?_) (fun _ => ?_)
  · refine Keeps.trans ?_ (kept_serveRead _ _ _ _ _)
    exact Keeps.refl _
  · split
    · refine Keeps.ite (fun _ => ?_) (fun _ => ?_)
      · refine Keeps.trans ?_ (kept_placeRequest _ _ _ _)
        exact Keeps.refl _
      · exact Keeps.refl _
    · exact Keeps.refl _

theorem ends_execNonceRead (dt : Nat) (p : Path) (s0 : State) : Ends (elapse dt s0) (execNonceRead dt p s0) := by
  unfold execNonceRead
  refine Ends.done ?_
  refine Keeps.trans ?_ (kept_pathRead _ _ _ _ _)
  exact Keeps.refl _

theorem ends_execNextReadableChunk (dt : Nat) (p : Path) (s0 : State) : Ends (elapse dt s0) (execNextReadableChunk dt p s0) := by
  unfold execNextReadableChunk
  refine Ends.done ?_
  refine Keeps.trans ?_ (kept_pathRead _ _ _ _ _)
  exact Keeps.refl _

theorem ends_execEndSession (dt : Nat) (p : Path) (value : List Byte) (s0 : State) : Ends (elapse dt s0) (execEndSession dt p value s0) := by
  unfold execEndSession
  refine Ends.done ?_
  refine Keeps.trans ?_ (kept_pathWrite _ _ _ _ _)
  exact Keeps.refl _

theorem ends_execTrayLatchClear (dt : Nat) (p : Path) (sub : Nat) (value : List Byte) (s0 : State) : Ends (elapse dt s0) (execTrayLatchClear dt p sub value s0) := by
  unfold execTrayLatchClear
  refine Ends.done ?_
  refine Keeps.trans ?_ (kept_pathWrite _ _ _ _ _)
  exact Keeps.refl _

theorem kept_serveNotice (p : Path) (kind : Nat) (n : IdleNotice) (s0 : State) : Keeps s0 (serveNotice p kind n s0) := by
  unfold serveNotice
  split
  · refine Keeps.trans ?_ (kept_takeNotice _ _ _ _)
    exact Keeps.refl _
  · refine Keeps.trans ?_ (kept_takeNotice _ _ _ _)
    exact Keeps.refl _
  · refine Keeps.trans ?_ (kept_revokeNotices _ _ _ _)
    exact Keeps.refl _
  · refine Keeps.trans ?_ (kept_revokeNotices _ _ _ _)
    exact Keeps.refl _
  · refine Keeps.trans ?_ (kept_refuseNotice _ _ _)
    exact Keeps.refl _

theorem kept_serveRequest (m : Nat) (r : MailReq) (host : List Byte) (s0 : State) : Keeps s0 (serveRequest m r host s0) := by
  unfold serveRequest
  extract_lets +onlyGivenNames -underBinder -merge -useContext v0
  try clear_value v0
  extract_lets +onlyGivenNames -underBinder -merge -useContext v2
  have h_v2 : Keeps s0 v2 := by
    unfold v2
    refine Keeps.trans ?_ (kept_modMailbox _ _ _)
    exact Keeps.refl _
  try clear_value v2
  extract_lets +onlyGivenNames -underBinder -merge -useContext v8
  have h_v8 : Keeps s0 v8 := by
    unfold v8
    refine Keeps.trans ?_ (kept_respond _ _ _ _ _ _ _)
    exact h_v2
  try clear_value v8
  extract_lets +onlyGivenNames -underBinder -merge -useContext v14
  try clear_value v14
  extract_lets +onlyGivenNames -underBinder -merge -useContext v16
  try clear_value v16
  refine Keeps.ite (fun _ => ?_) (fun _ => ?_)
  · exact h_v8
  · refine Keeps.ite (fun _ => ?_) (fun _ => ?_)
    · extract_lets +onlyGivenNames -underBinder -merge -useContext v24
      try clear_value v24
      refine Keeps.trans ?_ (kept_serveNotice _ _ _ _)
      exact h_v2
    · refine Keeps.ite (fun _ => ?_) (fun _ => ?_)
      · exact h_v8
      · split
        · refine Keeps.ite (fun _ => ?_) (fun _ => ?_)
          · refine Keeps.trans ?_ (kept_respond _ _ _ _ _ _ _)
            exact h_v2
          · refine Keeps.trans ?_ (kept_serveRead _ _ _ _ _)
            exact h_v2
        · extract_lets +onlyGivenNames -underBinder -merge -useContext v43
          try clear_value v43
          refine Keeps.ite (fun _ => ?_) (fun _ => ?_)
          · refine Keeps.trans ?_ (kept_respond _ _ _ _ _ _ _)
            exact h_v2
          · refine Keeps.trans ?_ (kept_serveWrite _ _ _ _ _)
            exact h_v2
        · extract_lets +onlyGivenNames -underBinder -merge -useContext v53
          have h_v53 : Keeps s0 v53 := by
            unfold v53
            refine Keeps.trans ?_ (kept_serveRead _ _ _ _ _)
            exact h_v2
          try clear_value v53
          split
          · refine Keeps.ite (fun _ => ?_) (fun _ => ?_)
            · refine Keeps.trans ?_ (kept_emit _ _)
              exact h_v53
            · exact h_v53
          · exact h_v53
        · refine Keeps.trans ?_ (kept_serveWrite _ _ _ _ _)
          exact h_v2

theorem kept_serveRequests (d : Nat) (s0 : State) : Keeps s0 (serveRequests d s0) := by
  unfold serveRequests
  extract_lets +onlyGivenNames -underBinder -merge -useContext v0
  try clear_value v0
  refine Keeps.foldl (fun s0 a => ?_) ?_
  · try beta_reduce
    refine Keeps.trans ?_ (kept_serveRequest _ _ _ _)
    exact Keeps.refl _
  · refine Keeps.update ?_
    exact Keeps.refl _

theorem ends_execResetComplete (dt : Nat) (domain : Pua) (code : Nat) (s0 : State) : Ends (elapse dt s0) (execResetComplete dt domain code s0) := by
  unfold execResetComplete
  extract_lets +onlyGivenNames -underBinder -merge -useContext v0
  have h_v0 : Keeps (elapse dt s0) v0 := by
    unfold v0
    refine Keeps.trans ?_ (kept_completeReset _ _ _)
    exact Keeps.refl _
  try clear_value v0
  extract_lets +onlyGivenNames -underBinder -merge -useContext v6
  try clear_value v6
  refine Ends.done ?_
  refine Keeps.ite (fun _ => ?_) (fun _ => ?_)
  · refine Keeps.trans ?_ (kept_serveRequests _ _)
    exact h_v0
  · exact h_v0

theorem ends_execSlotStop (dt : Nat) (p : Path) (s0 : State) : Ends (elapse dt s0) (execSlotStop dt p s0) := by
  unfold execSlotStop
  refine Ends.done ?_
  refine Keeps.trans ?_ (kept_pathWrite _ _ _ _ _)
  exact Keeps.refl _

theorem kept_mailboxRequest (m : Nat) (r : MailReq) (host : List Byte) (s0 : State) : Keeps s0 (mailboxRequest m r host s0) := by
  unfold mailboxRequest
  refine Keeps.ite (fun _ => ?_) (fun _ => ?_)
  · exact Keeps.refl _
  · refine Keeps.ite (fun _ => ?_) (fun _ => ?_)
    · refine Keeps.trans ?_ (kept_serveRequest _ _ _ _)
      exact Keeps.refl _
    · refine Keeps.trans ?_ (kept_placeRequest _ _ _ _)
      exact Keeps.refl _

theorem ends_execMailboxBulkRead (dt : Nat) (m : Nat) (r : MailReq) (s0 : State) : Ends (elapse dt s0) (execMailboxBulkRead dt m r s0) := by
  unfold execMailboxBulkRead
  refine Ends.done ?_
  refine Keeps.trans ?_ (kept_mailboxRequest _ _ _ _)
  exact Keeps.refl _

theorem ends_execOrderlyRipcordRequest (dt : Nat) (p : Path) (value : List Byte) (s0 : State) : Ends (elapse dt s0) (execOrderlyRipcordRequest dt p value s0) := by
  unfold execOrderlyRipcordRequest
  refine Ends.done ?_
  refine Keeps.trans ?_ (kept_pathWrite _ _ _ _ _)
  exact Keeps.refl _

theorem ends_execNextReadableRecord (dt : Nat) (p : Path) (s0 : State) : Ends (elapse dt s0) (execNextReadableRecord dt p s0) := by
  unfold execNextReadableRecord
  refine Ends.done ?_
  refine Keeps.trans ?_ (kept_pathRead _ _ _ _ _)
  exact Keeps.refl _

theorem ends_execResponseWrite (dt : Nat) (p : Path) (data : List Byte) (s0 : State) : Ends (elapse dt s0) (execResponseWrite dt p data s0) := by
  unfold execResponseWrite
  refine Ends.done ?_
  refine Keeps.trans ?_ (kept_pathWrite _ _ _ _ _)
  exact Keeps.refl _

theorem ends_execRawStoreWrite (dt : Nat) (p : Path) (data : List Byte) (s0 : State) : Ends (elapse dt s0) (execRawStoreWrite dt p data s0) := by
  unfold execRawStoreWrite
  refine Ends.done ?_
  refine Keeps.trans ?_ (kept_pathWrite _ _ _ _ _)
  exact Keeps.refl _

theorem ends_execForcedRetire (dt : Nat) (p : Path) (s0 : State) : Ends (elapse dt s0) (execForcedRetire dt p s0) := by
  unfold execForcedRetire
  refine Ends.done ?_
  refine Keeps.trans ?_ (kept_pathWrite _ _ _ _ _)
  exact Keeps.refl _

theorem ends_execMailboxRead (dt : Nat) (m : Nat) (r : MailReq) (s0 : State) : Ends (elapse dt s0) (execMailboxRead dt m r s0) := by
  unfold execMailboxRead
  refine Ends.done ?_
  refine Keeps.trans ?_ (kept_mailboxRequest _ _ _ _)
  exact Keeps.refl _

theorem ends_execModeFloorWrite (dt : Nat) (p : Path) (value : List Byte) (s0 : State) : Ends (elapse dt s0) (execModeFloorWrite dt p value s0) := by
  unfold execModeFloorWrite
  refine Ends.done ?_
  refine Keeps.trans ?_ (kept_pathWrite _ _ _ _ _)
  exact Keeps.refl _

theorem kept_pathNotice (p : Path) (kind : Nat) (n : IdleNotice) (s0 : State) : Keeps s0 (pathNotice p kind n s0) := by
  unfold pathNotice
  split
  · refine Keeps.ite (fun _ => ?_) (fun _ => ?_)
    · refine Keeps.trans ?_ (kept_serveNotice _ _ _ _)
      exact Keeps.refl _
    · refine Keeps.ite (fun _ => ?_) (fun _ => ?_)
      · refine Keeps.trans ?_ (kept_placeRequest _ _ _ _)
        exact Keeps.refl _
      · exact Keeps.refl _
  · refine Keeps.ite (fun _ => ?_) (fun _ => ?_)
    · refine Keeps.trans ?_ (kept_serveNotice _ _ _ _)
      exact Keeps.refl _
    · exact Keeps.refl _

theorem ends_execIdleNoticePeriodic (dt : Nat) (p : Path) (n : IdleNotice) (s0 : State) : Ends (elapse dt s0) (execIdleNoticePeriodic dt p n s0) := by
  unfold execIdleNoticePeriodic
  refine Ends.done ?_
  refine Keeps.trans ?_ (kept_pathNotice _ _ _ _)
  exact Keeps.refl _

theorem ends_execSeedModeWrite (dt : Nat) (p : Path) (value : List Byte) (s0 : State) : Ends (elapse dt s0) (execSeedModeWrite dt p value s0) := by
  unfold execSeedModeWrite
  refine Ends.done ?_
  refine Keeps.trans ?_ (kept_pathWrite _ _ _ _ _)
  exact Keeps.refl _

theorem ends_execMailboxBind (dt : Nat) (p : Path) (k : Nat) (s0 : State) : Ends (elapse dt s0) (execMailboxBind dt p k s0) := by
  unfold execMailboxBind
  refine Ends.done ?_
  refine Keeps.trans ?_ (kept_pathWrite _ _ _ _ _)
  exact Keeps.refl _

theorem ends_execUnitCursorByPua (dt : Nat) (p : Path) (pua : Pua) (s0 : State) : Ends (elapse dt s0) (execUnitCursorByPua dt p pua s0) := by
  unfold execUnitCursorByPua
  refine Ends.done ?_
  refine Keeps.trans ?_ (kept_pathWrite _ _ _ _ _)
  exact Keeps.refl _

theorem ends_execReservoirArmingWrite (dt : Nat) (p : Path) (value : List Byte) (s0 : State) : Ends (elapse dt s0) (execReservoirArmingWrite dt p value s0) := by
  unfold execReservoirArmingWrite
  refine Ends.done ?_
  refine Keeps.trans ?_ (kept_pathWrite _ _ _ _ _)
  exact Keeps.refl _

theorem ends_execSnapshotRequest (dt : Nat) (p : Path) (value : List Byte) (s0 : State) : Ends (elapse dt s0) (execSnapshotRequest dt p value s0) := by
  unfold execSnapshotRequest
  refine Ends.done ?_
  refine Keeps.trans ?_ (kept_pathWrite _ _ _ _ _)
  exact Keeps.refl _

theorem ends_execModeOverrideWrite (dt : Nat) (p : Path) (value : List Byte) (s0 : State) : Ends (elapse dt s0) (execModeOverrideWrite dt p value s0) := by
  unfold execModeOverrideWrite
  refine Ends.done ?_
  refine Keeps.trans ?_ (kept_pathWrite _ _ _ _ _)
  exact Keeps.refl _

theorem ends_execBackoffEnd (dt : Nat) (p : Path) (s0 : State) : Ends (elapse dt s0) (execBackoffEnd dt p s0) := by
  unfold execBackoffEnd
  extract_lets +onlyGivenNames -underBinder -merge -useContext v0
  have h_v0 : Keeps (elapse dt s0) v0 := by
    unfold v0
    exact Keeps.refl _
  try clear_value v0
  refine Ends.done ?_
  refine Keeps.ite (fun _ => ?_) (fun _ => ?_)
  · exact h_v0
  · refine Keeps.trans ?_ (kept_modPath _ _ _)
    exact h_v0

theorem ends_execForcedReadmitClear (dt : Nat) (p : Path) (s0 : State) : Ends (elapse dt s0) (execForcedReadmitClear dt p s0) := by
  unfold execForcedReadmitClear
  refine Ends.done ?_
  refine Keeps.trans ?_ (kept_pathWrite _ _ _ _ _)
  exact Keeps.refl _

theorem ends_execResetRequest (dt : Nat) (p : Path) (value : List Byte) (s0 : State) : Ends (elapse dt s0) (execResetRequest dt p value s0) := by
  unfold execResetRequest
  refine Ends.done ?_
  refine Keeps.trans ?_ (kept_pathWrite _ _ _ _ _)
  exact Keeps.refl _

theorem ends_execErrorFieldClear (dt : Nat) (p : Path) (value : List Byte) (s0 : State) : Ends (elapse dt s0) (execErrorFieldClear dt p value s0) := by
  unfold execErrorFieldClear
  refine Ends.done ?_
  refine Keeps.trans ?_ (kept_pathWrite _ _ _ _ _)
  exact Keeps.refl _

theorem ends_execMailboxWrite (dt : Nat) (m : Nat) (r : MailReq) (s0 : State) : Ends (elapse dt s0) (execMailboxWrite dt m r s0) := by
  unfold execMailboxWrite
  refine Ends.done ?_
  refine Keeps.trans ?_ (kept_mailboxRequest _ _ _ _)
  exact Keeps.refl _

theorem ends_execSlotStart (dt : Nat) (p : Path) (s0 : State) : Ends (elapse dt s0) (execSlotStart dt p s0) := by
  unfold execSlotStart
  refine Ends.done ?_
  refine Keeps.trans ?_ (kept_pathWrite _ _ _ _ _)
  exact Keeps.refl _

theorem ends_execClearModelFlag (dt : Nat) (p : Path) (value : List Byte) (s0 : State) : Ends (elapse dt s0) (execClearModelFlag dt p value s0) := by
  unfold execClearModelFlag
  refine Ends.done ?_
  refine Keeps.trans ?_ (kept_pathWrite _ _ _ _ _)
  exact Keeps.refl _

theorem ends_execCounterRead (dt : Nat) (p : Path) (s0 : State) : Ends (elapse dt s0) (execCounterRead dt p s0) := by
  unfold execCounterRead
  refine Ends.done ?_
  refine Keeps.trans ?_ (kept_pathRead _ _ _ _ _)
  exact Keeps.refl _

theorem ends_execOperatorStepCapWrite (dt : Nat) (p : Path) (value : List Byte) (s0 : State) : Ends (elapse dt s0) (execOperatorStepCapWrite dt p value s0) := by
  unfold execOperatorStepCapWrite
  refine Ends.done ?_
  refine Keeps.trans ?_ (kept_pathWrite _ _ _ _ _)
  exact Keeps.refl _

theorem ends_execNonceExpiry (dt : Nat) (p : Path) (s0 : State) : Ends (elapse dt s0) (execNonceExpiry dt p s0) := by
  unfold execNonceExpiry
  extract_lets +onlyGivenNames -underBinder -merge -useContext v0
  have h_v0 : Keeps (elapse dt s0) v0 := by
    unfold v0
    exact Keeps.refl _
  try clear_value v0
  refine Ends.done ?_
  refine Keeps.ite (fun _ => ?_) (fun _ => ?_)
  · exact h_v0
  · refine Keeps.trans ?_ (kept_modPath _ _ _)
    exact h_v0

theorem ends_execMailboxUnbind (dt : Nat) (p : Path) (s0 : State) : Ends (elapse dt s0) (execMailboxUnbind dt p s0) := by
  unfold execMailboxUnbind
  refine Ends.done ?_
  refine Keeps.trans ?_ (kept_pathWrite _ _ _ _ _)
  exact Keeps.refl _

theorem ends_execMailboxBulkWrite (dt : Nat) (m : Nat) (r : MailReq) (host : List Byte) (s0 : State) : Ends (elapse dt s0) (execMailboxBulkWrite dt m r host s0) := by
  unfold execMailboxBulkWrite
  refine Ends.done ?_
  refine Keeps.trans ?_ (kept_mailboxRequest _ _ _ _)
  exact Keeps.refl _

theorem ends_execIdleNoticeOneShot (dt : Nat) (p : Path) (n : IdleNotice) (s0 : State) : Ends (elapse dt s0) (execIdleNoticeOneShot dt p n s0) := by
  unfold execIdleNoticeOneShot
  refine Ends.done ?_
  refine Keeps.trans ?_ (kept_pathNotice _ _ _ _)
  exact Keeps.refl _

theorem ends_execImageWrite (dt : Nat) (p : Path) (version : Nat) (image : List Byte) (s0 : State) : Ends (elapse dt s0) (execImageWrite dt p version image s0) := by
  unfold execImageWrite
  extract_lets +onlyGivenNames -underBinder -merge -useContext v0
  have h_v0 : Keeps (elapse dt s0) v0 := by
    unfold v0
    exact Keeps.refl _
  try clear_value v0
  refine Ends.done ?_
  refine Keeps.ite (fun _ => ?_) (fun _ => ?_)
  · refine Keeps.trans ?_ (kept_serveWriteWith _ _ _ _ _ _ _ (fun r n s => kept_writeImage _ _ _))
    exact h_v0
  · refine Keeps.trans ?_ (kept_pathWrite _ _ _ _ _)
    exact h_v0

theorem ends_execObjectWrite (dt : Nat) (p : Path) (index : Nat) (sub : Nat) (data : List Byte) (s0 : State) : Ends (elapse dt s0) (execObjectWrite dt p index sub data s0) := by
  unfold execObjectWrite
  refine Ends.done ?_
  refine Keeps.trans ?_ (kept_pathWrite _ _ _ _ _)
  exact Keeps.refl _

theorem ends_execCommitTrialImage (dt : Nat) (p : Path) (value : List Byte) (s0 : State) : Ends (elapse dt s0) (execCommitTrialImage dt p value s0) := by
  unfold execCommitTrialImage
  refine Ends.done ?_
  refine Keeps.trans ?_ (kept_pathWrite _ _ _ _ _)
  exact Keeps.refl _

theorem ends_execReturnStateSet (dt : Nat) (p : Path) (s0 : State) : Ends (elapse dt s0) (execReturnStateSet dt p s0) := by
  unfold execReturnStateSet
  refine Ends.done ?_
  refine Keeps.trans ?_ (kept_pathWrite _ _ _ _ _)
  exact Keeps.refl _

theorem ends_execUnitCursorByLcn (dt : Nat) (p : Path) (lcn : Nat) (s0 : State) : Ends (elapse dt s0) (execUnitCursorByLcn dt p lcn s0) := by
  unfold execUnitCursorByLcn
  refine Ends.done ?_
  refine Keeps.trans ?_ (kept_pathWrite _ _ _ _ _)
  exact Keeps.refl _

theorem ends_execRoleDefaultModeWrite (dt : Nat) (p : Path) (sub : Nat) (value : List Byte) (s0 : State) : Ends (elapse dt s0) (execRoleDefaultModeWrite dt p sub value s0) := by
  unfold execRoleDefaultModeWrite
  refine Ends.done ?_
  refine Keeps.trans ?_ (kept_pathWrite _ _ _ _ _)
  exact Keeps.refl _

theorem ends_execTraceArmByLcn (dt : Nat) (p : Path) (lcn : Nat) (s0 : State) : Ends (elapse dt s0) (execTraceArmByLcn dt p lcn s0) := by
  unfold execTraceArmByLcn
  refine Ends.done ?_
  refine Keeps.trans ?_ (kept_pathWrite _ _ _ _ _)
  exact Keeps.refl _

theorem ends_execRequestedFrequencyWrite (dt : Nat) (p : Path) (value : List Byte) (s0 : State) : Ends (elapse dt s0) (execRequestedFrequencyWrite dt p value s0) := by
  unfold execRequestedFrequencyWrite
  refine Ends.done ?_
  refine Keeps.trans ?_ (kept_pathWrite _ _ _ _ _)
  exact Keeps.refl _

theorem ends_execFmaxRecordWrite (dt : Nat) (p : Path) (data : List Byte) (s0 : State) : Ends (elapse dt s0) (execFmaxRecordWrite dt p data s0) := by
  unfold execFmaxRecordWrite
  refine Ends.done ?_
  refine Keeps.trans ?_ (kept_pathWrite _ _ _ _ _)
  exact Keeps.refl _

theorem ends_execSdoInitiate (dt : Nat) (p : Path) (download : Bool) (index : Nat) (sub : Nat) (size : Nat) (expedited : Option (List Byte)) (s0 : State) : Ends (elapse dt s0) (execSdoInitiate dt p download index sub size expedited s0) := by
  unfold execSdoInitiate
  extract_lets +onlyGivenNames -underBinder -merge -useContext v0
  have h_v0 : Keeps (elapse dt s0) v0 := by
    unfold v0
    exact Keeps.refl _
  try clear_value v0
  refine Ends.done ?_
  refine Keeps.ite (fun _ => ?_) (fun _ => ?_)
  · exact h_v0
  · extract_lets +onlyGivenNames -underBinder -merge -useContext v10
    have h_v10 : Keeps (elapse dt s0) v10 := by
      unfold v10
      refine Keeps.trans ?_ (kept_setSdo _ _ _)
      exact h_v0
    try clear_value v10
    extract_lets +onlyGivenNames -underBinder -merge -useContext v16
    split
    · refine Keeps.trans ?_ (kept_serveWrite _ _ _ _ _)
      exact h_v10
    · split
      · refine Keeps.trans ?_ (kept_respond _ _ _ _ _ _ _)
        exact h_v10
      · refine Keeps.trans ?_ (kept_respond _ _ _ _ _ _ _)
        refine Keeps.trans ?_ (kept_setSdo _ _ _)
        exact h_v10
    · extract_lets +onlyGivenNames -underBinder -merge -useContext v31
      have h_v31 : Keeps (elapse dt s0) v31 := by
        unfold v31
        refine Keeps.trans ?_ (kept_serveRead _ _ _ _ _)
        exact h_v10
      try clear_value v31
      split
      · refine Keeps.ite (fun _ => ?_) (fun _ => ?_)
        · refine Keeps.trans ?_ (kept_respond _ _ _ _ _ _ _)
          refine Keeps.trans ?_ (kept_setSdo _ _ _)
          exact h_v31
        · exact h_v31
      · exact h_v31

theorem ends_execKeyWrite (dt : Nat) (p : Path) (sub : Nat) (key_ : List Byte) (s0 : State) : Ends (elapse dt s0) (execKeyWrite dt p sub key_ s0) := by
  unfold execKeyWrite
  refine Ends.done ?_
  refine Keeps.trans ?_ (kept_pathWrite _ _ _ _ _)
  exact Keeps.refl _

theorem ends_execGrantExpiry (dt : Nat) (p : Path) (s0 : State) : Ends (elapse dt s0) (execGrantExpiry dt p s0) := by
  unfold execGrantExpiry
  extract_lets +onlyGivenNames -underBinder -merge -useContext v0
  have h_v0 : Keeps (elapse dt s0) v0 := by
    unfold v0
    exact Keeps.refl _
  try clear_value v0
  extract_lets +onlyGivenNames -underBinder -merge -useContext v5
  try clear_value v5
  refine Ends.done ?_
  refine Keeps.trans ?_ (kept_modPath _ _ _)
  exact h_v0

theorem ends_execIdleNoticeRevoke (dt : Nat) (p : Path) (k : Nat) (id : Nat) (s0 : State) : Ends (elapse dt s0) (execIdleNoticeRevoke dt p k id s0) := by
  unfold execIdleNoticeRevoke
  refine Ends.done ?_
  refine Keeps.trans ?_ (kept_pathNotice _ _ _ _)
  exact Keeps.refl _

theorem ends_execReelClear (dt : Nat) (p : Path) (value : List Byte) (s0 : State) : Ends (elapse dt s0) (execReelClear dt p value s0) := by
  unfold execReelClear
  refine Ends.done ?_
  refine Keeps.trans ?_ (kept_pathWrite _ _ _ _ _)
  exact Keeps.refl _

theorem ends_execIdleNoticeRevokeAll (dt : Nat) (p : Path) (k : Nat) (s0 : State) : Ends (elapse dt s0) (execIdleNoticeRevokeAll dt p k s0) := by
  unfold execIdleNoticeRevokeAll
  refine Ends.done ?_
  refine Keeps.trans ?_ (kept_pathNotice _ _ _ _)
  exact Keeps.refl _

end Sys2Proof.Machine
end

