-- ==== Sys2Proof/Laws/Kept/FieldBus.lean ====
section
/-!
SUPPORT. What the operations and commands of Machine/FieldBus.lean keep (see Laws/Keeps.lean).
-/
namespace Sys2Proof.Machine

theorem kept_bootUp (d : Nat) (b : Bool) (s0 : State) : Keeps s0 (bootUp d b s0) := by
  unfold bootUp
  extract_lets +onlyGivenNames -underBinder -merge -useContext v0
  try clear_value v0
  extract_lets +onlyGivenNames -underBinder -merge -useContext v2
  have h_v2 : Keeps s0 v2 := by
    unfold v2
    refine Keeps.trans ?_ (kept_modPort _ _ _)
    exact Keeps.refl _
  try clear_value v2
  refine Keeps.trans ?_ (kept_emit _ _)
  exact h_v2

theorem ends_execCanBusError (dt : Nat) (d : Nat) (b : Bool) (busOff : Bool) (s0 : State) : Ends (elapse dt s0) (execCanBusError dt d b busOff s0) := by
  unfold execCanBusError
  extract_lets +onlyGivenNames -underBinder -merge -useContext v0
  have h_v0 : Keeps (elapse dt s0) v0 := by
    unfold v0
    exact Keeps.refl _
  try clear_value v0
  extract_lets +onlyGivenNames -underBinder -merge -useContext v5
  try clear_value v5
  extract_lets +onlyGivenNames -underBinder -merge -useContext v7
  try clear_value v7
  refine Ends.done ?_
  refine Keeps.ite (fun _ => ?_) (fun _ => ?_)
  · exact h_v0
  · refine Keeps.ite (fun _ => ?_) (fun _ => ?_)
    · refine Keeps.trans ?_ (kept_refreshError _ _)
      refine Keeps.trans ?_ (kept_modPort _ _ _)
      exact h_v0
    · refine Keeps.ite (fun _ => ?_) (fun _ => ?_)
      · exact h_v0
      · extract_lets +onlyGivenNames -underBinder -merge -useContext v24
        have h_v24 : Keeps (elapse dt s0) v24 := by
          unfold v24
          refine Keeps.trans ?_ (kept_modPort _ _ _)
          exact h_v0
        try clear_value v24
        refine Keeps.trans ?_ (kept_refreshError _ _)
        refine Keeps.trans ?_ (kept_emcy _ _ _ _ _)
        exact h_v24

theorem kept_setNmt (d : Nat) (b : Bool) (n : Nmt) (want : Bool) (s0 : State) : Keeps s0 (setNmt d b n want s0) := by
  unfold setNmt
  refine Keeps.trans ?_ (kept_modPort _ _ _)
  exact Keeps.refl _

theorem ends_execNmtEnterPreOperational (dt : Nat) (d : Nat) (b : Bool) (node : Nat) (s0 : State) : Ends (elapse dt s0) (execNmtEnterPreOperational dt d b node s0) := by
  unfold execNmtEnterPreOperational
  extract_lets +onlyGivenNames -underBinder -merge -useContext v0
  have h_v0 : Keeps (elapse dt s0) v0 := by
    unfold v0
    exact Keeps.refl _
  try clear_value v0
  refine Ends.done ?_
  refine Keeps.ite (fun _ => ?_) (fun _ => ?_)
  · exact h_v0
  · refine Keeps.trans ?_ (kept_setNmt _ _ _ _ _)
    exact h_v0

theorem ends_execNmtStart (dt : Nat) (d : Nat) (b : Bool) (node : Nat) (s0 : State) : Ends (elapse dt s0) (execNmtStart dt d b node s0) := by
  unfold execNmtStart
  extract_lets +onlyGivenNames -underBinder -merge -useContext v0
  have h_v0 : Keeps (elapse dt s0) v0 := by
    unfold v0
    exact Keeps.refl _
  try clear_value v0
  refine Ends.done ?_
  refine Keeps.ite (fun _ => ?_) (fun _ => ?_)
  · exact h_v0
  · refine Keeps.ite (fun _ => ?_) (fun _ => ?_)
    · refine Keeps.trans ?_ (kept_setNmt _ _ _ _ _)
      exact h_v0
    · refine Keeps.trans ?_ (kept_setNmt _ _ _ _ _)
      exact h_v0

theorem ends_execErrorActiveReturn (dt : Nat) (d : Nat) (b : Bool) (s0 : State) : Ends (elapse dt s0) (execErrorActiveReturn dt d b s0) := by
  unfold execErrorActiveReturn
  extract_lets +onlyGivenNames -underBinder -merge -useContext v0
  have h_v0 : Keeps (elapse dt s0) v0 := by
    unfold v0
    exact Keeps.refl _
  try clear_value v0
  extract_lets +onlyGivenNames -underBinder -merge -useContext v5
  try clear_value v5
  refine Ends.done ?_
  refine Keeps.ite (fun _ => ?_) (fun _ => ?_)
  · exact h_v0
  · refine Keeps.trans ?_ (kept_refreshError _ _)
    refine Keeps.trans ?_ (kept_modPort _ _ _)
    exact h_v0

theorem kept_resetCommunication (d : Nat) (b : Bool) (s0 : State) : Keeps s0 (resetCommunication d b s0) := by
  unfold resetCommunication
  extract_lets +onlyGivenNames -underBinder -merge -useContext v0
  try clear_value v0
  extract_lets +onlyGivenNames -underBinder -merge -useContext v2
  extract_lets +onlyGivenNames -underBinder -merge -useContext v3
  have h_v3 : Keeps s0 v3 := by
    unfold v3
    refine Keeps.trans ?_ (kept_modPath _ _ _)
    exact Keeps.refl _
  try clear_value v3
  extract_lets +onlyGivenNames -underBinder -merge -useContext v9
  have h_v9 : Keeps s0 v9 := by
    unfold v9
    refine Keeps.trans ?_ (kept_modDie _ _ _ (fun x => ?_))
    · exact h_v3
    · first | rfl | ((try dsimp only); (repeat' split) <;> rfl)
  try clear_value v9
  refine Keeps.trans ?_ (kept_bootUp _ _ _)
  refine Keeps.trans ?_ (kept_modPort _ _ _)
  exact h_v9

theorem ends_execNmtResetCommunication (dt : Nat) (d : Nat) (b : Bool) (node : Nat) (s0 : State) : Ends (elapse dt s0) (execNmtResetCommunication dt d b node s0) := by
  unfold execNmtResetCommunication
  extract_lets +onlyGivenNames -underBinder -merge -useContext v0
  have h_v0 : Keeps (elapse dt s0) v0 := by
    unfold v0
    exact Keeps.refl _
  try clear_value v0
  refine Ends.done ?_
  refine Keeps.ite (fun _ => ?_) (fun _ => ?_)
  · refine Keeps.trans ?_ (kept_resetCommunication _ _ _)
    exact h_v0
  · exact h_v0

theorem ends_execEmcyInhibitEnd (dt : Nat) (d : Nat) (b : Bool) (s0 : State) : Ends (elapse dt s0) (execEmcyInhibitEnd dt d b s0) := by
  unfold execEmcyInhibitEnd
  extract_lets +onlyGivenNames -underBinder -merge -useContext v0
  have h_v0 : Keeps (elapse dt s0) v0 := by
    unfold v0
    exact Keeps.refl _
  try clear_value v0
  extract_lets +onlyGivenNames -underBinder -merge -useContext v5
  try clear_value v5
  extract_lets +onlyGivenNames -underBinder -merge -useContext v7
  try clear_value v7
  extract_lets +onlyGivenNames -underBinder -merge -useContext v9
  try clear_value v9
  extract_lets +onlyGivenNames -underBinder -merge -useContext v11
  try clear_value v11
  refine Ends.done ?_
  split
  · exact h_v0
  · refine Keeps.ite (fun _ => ?_) (fun _ => ?_)
    · exact h_v0
    · refine Keeps.trans ?_ (kept_emit _ _)
      refine Keeps.trans ?_ (kept_modPort _ _ _)
      exact h_v0

theorem ends_execBusOffRecovery (dt : Nat) (d : Nat) (b : Bool) (occurrences : Nat) (s0 : State) : Ends (elapse dt s0) (execBusOffRecovery dt d b occurrences s0) := by
  unfold execBusOffRecovery
  extract_lets +onlyGivenNames -underBinder -merge -useContext v0
  have h_v0 : Keeps (elapse dt s0) v0 := by
    unfold v0
    exact Keeps.refl _
  try clear_value v0
  extract_lets +onlyGivenNames -underBinder -merge -useContext v5
  try clear_value v5
  refine Ends.done ?_
  refine Keeps.ite (fun _ => ?_) (fun _ => ?_)
  · exact h_v0
  · extract_lets +onlyGivenNames -underBinder -merge -useContext v12
    have h_v12 : Keeps (elapse dt s0) v12 := by
      unfold v12
      refine Keeps.trans ?_ (kept_modPort _ _ _)
      exact h_v0
    try clear_value v12
    extract_lets +onlyGivenNames -underBinder -merge -useContext v18
    have h_v18 : Keeps (elapse dt s0) v18 := by
      unfold v18
      refine Keeps.trans ?_ (kept_modPath _ _ _)
      exact h_v12
    try clear_value v18
    refine Keeps.trans ?_ (kept_refreshError _ _)
    refine Keeps.trans ?_ (kept_emcy _ _ _ _ _)
    exact h_v18

theorem ends_execNmtStop (dt : Nat) (d : Nat) (b : Bool) (node : Nat) (s0 : State) : Ends (elapse dt s0) (execNmtStop dt d b node s0) := by
  unfold execNmtStop
  extract_lets +onlyGivenNames -underBinder -merge -useContext v0
  have h_v0 : Keeps (elapse dt s0) v0 := by
    unfold v0
    exact Keeps.refl _
  try clear_value v0
  refine Ends.done ?_
  refine Keeps.ite (fun _ => ?_) (fun _ => ?_)
  · exact h_v0
  · refine Keeps.trans ?_ (kept_setSdo _ _ _)
    refine Keeps.trans ?_ (kept_setNmt _ _ _ _ _)
    exact h_v0

theorem ends_execNmtResetApplication (dt : Nat) (d : Nat) (b : Bool) (node : Nat) (s0 : State) : Ends (elapse dt s0) (execNmtResetApplication dt d b node s0) := by
  unfold execNmtResetApplication
  extract_lets +onlyGivenNames -underBinder -merge -useContext v0
  have h_v0 : Keeps (elapse dt s0) v0 := by
    unfold v0
    exact Keeps.refl _
  try clear_value v0
  refine Ends.done ?_
  refine Keeps.ite (fun _ => ?_) (fun _ => ?_)
  · refine Keeps.trans ?_ (kept_resetCommunication _ _ _)
    exact h_v0
  · exact h_v0

theorem ends_execTpdoSend (dt : Nat) (d : Nat) (b : Bool) (pdo : Nat) (s0 : State) : Ends (elapse dt s0) (execTpdoSend dt d b pdo s0) := by
  unfold execTpdoSend
  extract_lets +onlyGivenNames -underBinder -merge -useContext v0
  have h_v0 : Keeps (elapse dt s0) v0 := by
    unfold v0
    exact Keeps.refl _
  try clear_value v0
  extract_lets +onlyGivenNames -underBinder -merge -useContext v5
  try clear_value v5
  extract_lets +onlyGivenNames -underBinder -merge -useContext v7
  try clear_value v7
  extract_lets +onlyGivenNames -underBinder -merge -useContext v9
  try clear_value v9
  extract_lets +onlyGivenNames -underBinder -merge -useContext v11
  try clear_value v11
  extract_lets +onlyGivenNames -underBinder -merge -useContext v13
  try clear_value v13
  extract_lets +onlyGivenNames -underBinder -merge -useContext v15
  try clear_value v15
  refine Ends.done ?_
  refine Keeps.ite (fun _ => ?_) (fun _ => ?_)
  · exact h_v0
  · refine Keeps.trans ?_ (kept_emit _ _)
    refine Keeps.trans ?_ (kept_modPort _ _ _)
    exact h_v0

theorem ends_execHeartbeatSend (dt : Nat) (d : Nat) (b : Bool) (s0 : State) : Ends (elapse dt s0) (execHeartbeatSend dt d b s0) := by
  unfold execHeartbeatSend
  extract_lets +onlyGivenNames -underBinder -merge -useContext v0
  have h_v0 : Keeps (elapse dt s0) v0 := by
    unfold v0
    exact Keeps.refl _
  try clear_value v0
  extract_lets +onlyGivenNames -underBinder -merge -useContext v5
  try clear_value v5
  extract_lets +onlyGivenNames -underBinder -merge -useContext v7
  try clear_value v7
  extract_lets +onlyGivenNames -underBinder -merge -useContext v9
  try clear_value v9
  refine Ends.done ?_
  refine Keeps.ite (fun _ => ?_) (fun _ => ?_)
  · exact h_v0
  · refine Keeps.trans ?_ (kept_emit _ _)
    refine Keeps.trans ?_ (kept_modPort _ _ _)
    exact h_v0

end Sys2Proof.Machine
end

