-- ==== Sys2Proof/Laws/Kept/BringUp.lean ====
section
/-!
SUPPORT. What the operations and commands of Machine/BringUp.lean keep (see Laws/Keeps.lean).
-/
namespace Sys2Proof.Machine

theorem kept_selectImage (s0 : State) : Keeps s0 (selectImage s0) := by
  unfold selectImage
  extract_lets +onlyGivenNames -underBinder -merge -useContext v0
  try clear_value v0
  extract_lets +onlyGivenNames -underBinder -merge -useContext v2
  try clear_value v2
  extract_lets +onlyGivenNames -underBinder -merge -useContext v4
  extract_lets +onlyGivenNames -underBinder -merge -useContext v5
  try clear_value v5
  refine Keeps.trans ?_ (kept_editCopies _ _)
  refine Keeps.update ?_
  exact Keeps.refl _

theorem kept_loadCopy (c : PackageCopy) (s0 : State) : Keeps s0 (loadCopy c s0) := by
  unfold loadCopy
  extract_lets +onlyGivenNames -underBinder -merge -useContext v0
  refine Keeps.update_whole ?_ ?_ ?_ ?_
  · exact Keeps.refl _
  · first | rfl | simp
  · first | rfl | simp
  · first | exact fun h => h | exact Keeps.map_stores (fun x => by first | rfl | (dsimp only; split <;> rfl) | (split <;> rfl) | (simp +zetaDelta only []; first | rfl | (split <;> rfl)) | simp)

theorem kept_judgePolicy (s0 : State) : Keeps s0 (judgePolicy s0) := by
  unfold judgePolicy
  refine Keeps.ite (fun _ => ?_) (fun _ => ?_)
  · refine Keeps.trans ?_ (kept_leaveCase _ _)
    exact Keeps.refl _
  · refine Keeps.trans ?_ (kept_enterCase _ _)
    exact Keeps.refl _

theorem kept_anchorSelected (c : PackageCopy) (s0 : State) : Keeps s0 (anchorSelected c s0) := by
  unfold anchorSelected
  extract_lets +onlyGivenNames -underBinder -merge -useContext v0
  have h_v0 : Keeps s0 v0 := by
    unfold v0
    refine Keeps.trans ?_ (kept_judgePolicy _)
    refine Keeps.trans ?_ (kept_loadCopy _ _)
    exact Keeps.refl _
  try clear_value v0
  extract_lets +onlyGivenNames -underBinder -merge -useContext v7
  try clear_value v7
  extract_lets +onlyGivenNames -underBinder -merge -useContext v9
  try clear_value v9
  extract_lets +onlyGivenNames -underBinder -merge -useContext v11
  try clear_value v11
  extract_lets +onlyGivenNames -underBinder -merge -useContext v13
  have h_v13 : Keeps s0 v13 := by
    unfold v13
    refine Keeps.trans ?_ (kept_editCopies _ _)
    refine Keeps.trans ?_ (kept_selectImage _)
    refine Keeps.trans ?_ (kept_setObj _ _ _)
    exact h_v0
  try clear_value v13
  refine Keeps.update ?_
  exact h_v13

theorem kept_modDraft (d : Nat) (f : StageReport → StageReport) (s0 : State) : Keeps s0 (modDraft d f s0) := by
  unfold modDraft
  refine Keeps.trans ?_ (kept_modDie _ _ _ (fun x => ?_))
  · exact Keeps.refl _
  · first | rfl | ((try dsimp only); (repeat' split) <;> rfl)

theorem kept_noteDetail (d : Nat) (c : Nat) (unit : Option Nat) (s0 : State) : Keeps s0 (noteDetail d c unit s0) := by
  unfold noteDetail
  extract_lets +onlyGivenNames -underBinder -merge -useContext v0
  try clear_value v0
  refine Keeps.trans ?_ (kept_modDraft _ _ _)
  exact Keeps.refl _

theorem kept_loadDefaults (d : Nat) (s0 : State) : Keeps s0 (loadDefaults d s0) := by
  unfold loadDefaults
  extract_lets +onlyGivenNames -underBinder -merge -useContext v0
  refine Keeps.trans ?_ (kept_noteDetail _ _ _ _)
  refine Keeps.update_whole ?_ ?_ ?_ ?_
  · exact Keeps.refl _
  · first | rfl | simp
  · first | rfl | simp
  · first | exact fun h => h | exact Keeps.map_stores (fun x => by first | rfl | (dsimp only; split <;> rfl) | (split <;> rfl) | (simp +zetaDelta only []; first | rfl | (split <;> rfl)) | simp)

theorem kept_anchorStage2 (d : Nat) (noCopy : Bool) (s0 : State) : Keeps s0 (anchorStage2 d noCopy s0) := by
  unfold anchorStage2
  split
  · refine Keeps.trans ?_ (kept_loadDefaults _ _)
    exact Keeps.refl _
  · refine Keeps.trans ?_ (kept_anchorSelected _ _)
    exact Keeps.refl _

theorem kept_flagDraft (d : Nat) (bit : Nat) (s0 : State) : Keeps s0 (flagDraft d bit s0) := by
  unfold flagDraft
  refine Keeps.trans ?_ (kept_modDraft _ _ _)
  exact Keeps.refl _

theorem kept_anomaly (d : Nat) (p : Nat) (s0 : State) : Keeps s0 (anomaly d p s0) := by
  unfold anomaly
  refine Keeps.ite (fun _ => ?_) (fun _ => ?_)
  · exact Keeps.refl _
  · extract_lets +onlyGivenNames -underBinder -merge -useContext v4
    try clear_value v4
    extract_lets +onlyGivenNames -underBinder -merge -useContext v6
    have h_v6 : Keeps s0 v6 := by
      unfold v6
      refine Keeps.ite (fun _ => ?_) (fun _ => ?_)
      · refine Keeps.trans ?_ (kept_modDie _ _ _ (fun x => ?_))
        · exact Keeps.refl _
        · first | rfl | ((try dsimp only); (repeat' split) <;> rfl)
      · refine Keeps.trans ?_ (kept_modUnit _ _ _)
        exact Keeps.refl _
    try clear_value v6
    extract_lets +onlyGivenNames -underBinder -merge -useContext v20
    have h_v20 : Keeps s0 v20 := by
      unfold v20
      refine Keeps.trans ?_ (kept_modUnit _ _ _)
      refine Keeps.trans ?_ (kept_changeState _ _ _ _)
      exact h_v6
    try clear_value v20
    extract_lets +onlyGivenNames -underBinder -merge -useContext v27
    have h_v27 : Keeps s0 v27 := by
      unfold v27
      refine Keeps.ite (fun _ => ?_) (fun _ => ?_)
      · refine Keeps.trans ?_ (kept_noteDetail _ _ _ _)
        exact h_v20
      · exact h_v20
    try clear_value v27
    refine Keeps.trans ?_ (kept_flagDraft _ _ _)
    refine Keeps.trans ?_ (kept_modDraft _ _ _)
    refine Keeps.trans ?_ (kept_modDie _ _ _ (fun x => ?_))
    · exact h_v27
    · first | rfl | ((try dsimp only); (repeat' split) <;> rfl)

theorem kept_applyOffset (fault : Bool) (k : Nat) (s0 : State) : Keeps s0 (applyOffset fault k s0) := by
  unfold applyOffset
  extract_lets +onlyGivenNames -underBinder -merge -useContext v0
  try clear_value v0
  split
  · rename_i hq_
    have hk_ : Keeps s0 _ := Keeps.of_eq1 hq_ (by
      refine Keeps.trans ?_ (kept_takeNat _)
      refine Keeps.update ?_
      exact Keeps.refl _
      )
    extract_lets +onlyGivenNames -underBinder -merge -useContext v10
    try clear_value v10
    extract_lets +onlyGivenNames -underBinder -merge -useContext v12
    try clear_value v12
    extract_lets +onlyGivenNames -underBinder -merge -useContext v14
    try clear_value v14
    refine Keeps.ite (fun _ => ?_) (fun _ => ?_)
    · refine Keeps.trans ?_ (kept_modKeeper _ _ _)
      exact hk_
    · refine Keeps.trans ?_ (kept_modKeeper _ _ _)
      exact hk_

theorem kept_beginStage (d : Nat) (n : Nat) (s0 : State) : Keeps s0 (beginStage d n s0) := by
  unfold beginStage
  extract_lets +onlyGivenNames -underBinder -merge -useContext v0
  try clear_value v0
  extract_lets +onlyGivenNames -underBinder -merge -useContext v2
  try clear_value v2
  refine Keeps.trans ?_ (kept_modDie _ _ _ (fun x => ?_))
  · exact Keeps.refl _
  · first | rfl | ((try dsimp only); (repeat' split) <;> rfl)

theorem kept_checkDiscovery (f : Nat) (s0 : State) : Keeps s0 (checkDiscovery f s0) := by
  unfold checkDiscovery
  extract_lets +onlyGivenNames -underBinder -merge -useContext v0
  try clear_value v0
  extract_lets +onlyGivenNames -underBinder -merge -useContext v2
  try clear_value v2
  refine Keeps.ite (fun _ => ?_) (fun _ => ?_)
  · refine Keeps.trans ?_ (kept_raiseLocal _ _ _)
    exact Keeps.refl _
  · exact Keeps.refl _

theorem kept_startNumbers (s0 : State) : Keeps s0 (startNumbers s0) := by
  unfold startNumbers
  extract_lets +onlyGivenNames -underBinder -merge -useContext v0
  try clear_value v0
  extract_lets +onlyGivenNames -underBinder -merge -useContext v2
  try clear_value v2
  extract_lets +onlyGivenNames -underBinder -merge -useContext v4
  try clear_value v4
  extract_lets +onlyGivenNames -underBinder -merge -useContext v6
  have h_v6 : Keeps s0 v6 := by
    unfold v6
    refine Keeps.trans ?_ (kept_eraEvent _)
    refine Keeps.trans ?_ (kept_giveNumber _ _ _)
    refine Keeps.trans ?_ (kept_modDie _ _ _ (fun x => ?_))
    · exact Keeps.refl _
    · first | rfl | ((try dsimp only); (repeat' split) <;> rfl)
  try clear_value v6
  extract_lets +onlyGivenNames -underBinder -merge -useContext v17
  have h_v17 : Keeps s0 v17 := by
    unfold v17
    refine Keeps.foldl (fun s0 a => ?_) ?_
    · try beta_reduce
      split
      · exact Keeps.refl _
      · extract_lets +onlyGivenNames -underBinder -merge -useContext v27
        try clear_value v27
        extract_lets +onlyGivenNames -underBinder -merge -useContext v29
        have h_v29 : Keeps s0 v29 := by
          unfold v29
          refine Keeps.trans ?_ (kept_modReel _ _ _)
          exact Keeps.refl _
        try clear_value v29
        refine Keeps.ite (fun _ => ?_) (fun _ => ?_)
        · exact h_v29
        · refine Keeps.trans ?_ (kept_numberDirect _ _ _)
          exact h_v29
    · exact h_v6
  try clear_value v17
  extract_lets +onlyGivenNames -underBinder -merge -useContext v44
  have h_v44 : Keeps s0 v44 := by
    unfold v44
    refine Keeps.foldl (fun s0 a => ?_) ?_
    · try beta_reduce
      split
      · exact Keeps.refl _
      · refine Keeps.trans ?_ (kept_numberDirect _ _ _)
        exact Keeps.refl _
    · exact h_v17
  try clear_value v44
  extract_lets +onlyGivenNames -underBinder -merge -useContext v59
  have h_v59 : Keeps s0 v59 := by
    unfold v59
    refine Keeps.foldl (fun s0 a => ?_) ?_
    · try beta_reduce
      extract_lets +onlyGivenNames -underBinder -merge -useContext v65
      try clear_value v65
      refine Keeps.ite (fun _ => ?_) (fun _ => ?_)
      · exact Keeps.refl _
      · extract_lets +onlyGivenNames -underBinder -merge -useContext v71
        try clear_value v71
        refine Keeps.trans ?_ (kept_record _ _ _ _ _)
        exact Keeps.refl _
    · exact h_v44
  try clear_value v59
  refine Keeps.foldl (fun s0 a => ?_) ?_
  · try beta_reduce
    extract_lets +onlyGivenNames -underBinder -merge -useContext v81
    try clear_value v81
    refine Keeps.foldl (fun s0 a => ?_) ?_
    · try beta_reduce
      refine Keeps.trans ?_ (kept_numberDirect _ _ _)
      exact Keeps.refl _
    · refine Keeps.trans ?_ (kept_modDie _ _ _ (fun x => ?_))
      · exact Keeps.refl _
      · first | rfl | ((try dsimp only); (repeat' split) <;> rfl)
  · exact h_v59

theorem kept_checkNumbers (s0 : State) : Keeps s0 (checkNumbers s0) := by
  unfold checkNumbers
  refine Keeps.ite (fun _ => ?_) (fun _ => ?_)
  · refine Keeps.trans ?_ (kept_startNumbers _)
    exact Keeps.refl _
  · exact Keeps.refl _

theorem kept_stopPackage (s0 : State) : Keeps s0 (stopPackage s0) := by
  unfold stopPackage
  extract_lets +onlyGivenNames -underBinder -merge -useContext v0
  refine Keeps.update_whole ?_ ?_ ?_ ?_
  · exact Keeps.refl _
  · first | rfl | simp
  · first | rfl | simp
  · first | exact fun h => h | exact Keeps.map_stores (fun x => by first | rfl | (dsimp only; split <;> rfl) | (split <;> rfl) | (simp +zetaDelta only []; first | rfl | (split <;> rfl)) | simp)

theorem kept_stageSpecial (d : Nat) (n : Nat) (s0 : State) : Keeps s0 (stageSpecial d n s0) := by
  unfold stageSpecial
  split
  · extract_lets +onlyGivenNames -underBinder -merge -useContext v2
    try clear_value v2
    extract_lets +onlyGivenNames -underBinder -merge -useContext v4
    try clear_value v4
    extract_lets +onlyGivenNames -underBinder -merge -useContext v6
    have h_v6 : Keeps s0 v6 := by
      unfold v6
      refine Keeps.ite (fun _ => ?_) (fun _ => ?_)
      · refine Keeps.trans ?_ (kept_noteDetail _ _ _ _)
        refine Keeps.trans ?_ (kept_record _ _ _ _ _)
        exact Keeps.refl _
      · refine Keeps.ite (fun _ => ?_) (fun _ => ?_)
        · refine Keeps.trans ?_ (kept_noteDetail _ _ _ _)
          exact Keeps.refl _
        · exact Keeps.refl _
    try clear_value v6
    refine Keeps.trans ?_ (kept_modDie _ _ _ (fun x => ?_))
    · refine Keeps.update ?_
      exact h_v6
    · first | rfl | ((try dsimp only); (repeat' split) <;> rfl)
  · refine Keeps.ite (fun _ => ?_) (fun _ => ?_)
    · refine Keeps.trans ?_ (kept_noteDetail _ _ _ _)
      exact Keeps.refl _
    · refine Keeps.ite (fun _ => ?_) (fun _ => ?_)
      · refine Keeps.trans ?_ (kept_stopPackage _)
        refine Keeps.trans ?_ (kept_flagDraft _ _ _)
        exact Keeps.refl _
      · exact Keeps.refl _
  · refine Keeps.ite (fun _ => ?_) (fun _ => ?_)
    · refine Keeps.trans ?_ (kept_stopPackage _)
      refine Keeps.trans ?_ (kept_flagDraft _ _ _)
      exact Keeps.refl _
    · exact Keeps.refl _
  · refine Keeps.ite (fun _ => ?_) (fun _ => ?_)
    · refine Keeps.trans ?_ (kept_stopPackage _)
      refine Keeps.trans ?_ (kept_flagDraft _ _ _)
      exact Keeps.refl _
    · exact Keeps.refl _
  · exact Keeps.refl _

theorem kept_leaveOff (f : Nat) (s0 : State) : Keeps s0 (leaveOff f s0) := by
  unfold leaveOff
  refine Keeps.ite (fun _ => ?_) (fun _ => ?_)
  · exact Keeps.refl _
  · refine Keeps.trans ?_ (kept_flagDraft _ _ _)
    refine Keeps.trans ?_ (kept_checkStacks _)
    refine Keeps.trans ?_ (kept_railOff _ _ _)
    exact Keeps.refl _

theorem kept_startRebind (p : Nat) (cause : Nat) (s0 : State) : Keeps s0 (startRebind p cause s0) := by
  unfold startRebind
  extract_lets +onlyGivenNames -underBinder -merge -useContext v0
  try clear_value v0
  split
  · split
    · refine Keeps.trans ?_ (kept_rebindCore _ _ _ _)
      exact Keeps.refl _
    · exact Keeps.refl _
  · refine Keeps.ite (fun _ => ?_) (fun _ => ?_)
    · refine Keeps.trans ?_ (kept_clusterOut _ _ _ _)
      exact Keeps.refl _
    · refine Keeps.trans ?_ (kept_routerOut _ _ _)
      exact Keeps.refl _
  · refine Keeps.trans ?_ (kept_laneOut _ _ _)
    exact Keeps.refl _
  · refine Keeps.trans ?_ (kept_bridgeOut _ _ _)
    exact Keeps.refl _
  · extract_lets +onlyGivenNames -underBinder -merge -useContext v25
    try clear_value v25
    split
    · refine Keeps.trans ?_ (kept_requestCommit _ _ _ _ _)
      exact Keeps.refl _
    · refine Keeps.trans ?_ (kept_requestCommit _ _ _ _ _)
      exact Keeps.refl _
    · exact Keeps.refl _
  · refine Keeps.trans ?_ (kept_bindPlace _ _ _)
    exact Keeps.refl _
  · refine Keeps.trans ?_ (kept_clusterOut _ _ _ _)
    exact Keeps.refl _
  · refine Keeps.trans ?_ (kept_clusterOut _ _ _ _)
    exact Keeps.refl _
  · refine Keeps.trans ?_ (kept_leaveOff _ _)
    exact Keeps.refl _
  · exact Keeps.refl _

theorem kept_landStart (s0 : State) : Keeps s0 (landStart s0) := by
  unfold landStart
  extract_lets +onlyGivenNames -underBinder -merge -useContext v0
  extract_lets +onlyGivenNames -underBinder -merge -useContext v1
  have h_v1 : Keeps s0 v1 := by
    unfold v1
    refine Keeps.trans ?_ (kept_checkStacks _)
    refine Keeps.foldl (fun s0 a => ?_) ?_
    · unfold v0
      beta_reduce
      extract_lets +onlyGivenNames -underBinder -merge -useContext v9
      have h_v9 : Keeps s0 v9 := by
        unfold v9
        refine Keeps.foldl (fun s0 a => ?_) ?_
        · try beta_reduce
          refine Keeps.trans ?_ (kept_landBinding _ _ _)
          exact Keeps.refl _
        · exact Keeps.refl _
      try clear_value v9
      extract_lets +onlyGivenNames -underBinder -merge -useContext v20
      have h_v20 : Keeps s0 v20 := by
        unfold v20
        refine Keeps.foldl (fun s0 a => ?_) ?_
        · try beta_reduce
          refine Keeps.trans ?_ (kept_setOpen _ _ _)
          exact Keeps.refl _
        · exact h_v9
      try clear_value v20
      refine Keeps.foldl (fun s0 a => ?_) ?_
      · try beta_reduce
        refine Keeps.trans ?_ (kept_modCluster _ _ _)
        exact Keeps.refl _
      · exact h_v20
    · refine Keeps.update ?_
      exact Keeps.refl _
  try clear_value v1
  refine Keeps.update ?_
  exact h_v1

theorem kept_startBindings (d : Nat) (n : Nat) (s0 : State) : Keeps s0 (startBindings d n s0) := by
  unfold startBindings
  extract_lets +onlyGivenNames -underBinder -merge -useContext v0
  try clear_value v0
  extract_lets +onlyGivenNames -underBinder -merge -useContext v2
  have h_v2 : Keeps s0 v2 := by
    unfold v2
    refine Keeps.trans ?_ (kept_modDie _ _ _ (fun x => ?_))
    · exact Keeps.refl _
    · first | rfl | ((try dsimp only); (repeat' split) <;> rfl)
  try clear_value v2
  refine Keeps.foldl (fun s0 a => ?_) ?_
  · try beta_reduce
    extract_lets +onlyGivenNames -underBinder -merge -useContext v14
    try clear_value v14
    extract_lets +onlyGivenNames -underBinder -merge -useContext v16
    have h_v16 : Keeps s0 v16 := by
      unfold v16
      refine Keeps.trans ?_ (kept_startRebind _ _ _)
      exact Keeps.refl _
    try clear_value v16
    extract_lets +onlyGivenNames -underBinder -merge -useContext v22
    try clear_value v22
    extract_lets +onlyGivenNames -underBinder -merge -useContext v24
    have h_v24 : Keeps s0 v24 := by
      unfold v24
      refine Keeps.ite (fun _ => ?_) (fun _ => ?_)
      · refine Keeps.trans ?_ (kept_flagDraft _ _ _)
        exact h_v16
      · exact h_v16
    try clear_value v24
    extract_lets +onlyGivenNames -underBinder -merge -useContext v34
    have h_v34 : Keeps s0 v34 := by
      unfold v34
      refine Keeps.ite (fun _ => ?_) (fun _ => ?_)
      · refine Keeps.trans ?_ (kept_flagDraft _ _ _)
        exact h_v24
      · exact h_v24
    try clear_value v34
    extract_lets +onlyGivenNames -underBinder -merge -useContext v44
    try clear_value v44
    extract_lets +onlyGivenNames -underBinder -merge -useContext v46
    have h_v46 : Keeps s0 v46 := by
      unfold v46
      refine Keeps.trans ?_ (kept_modDraft _ _ _)
      exact h_v34
    try clear_value v46
    extract_lets +onlyGivenNames -underBinder -merge -useContext v52
    have h_v52 : Keeps s0 v52 := by
      unfold v52
      refine Keeps.trans ?_ (kept_modDie _ _ _ (fun x => ?_))
      · exact h_v46
      · first | rfl | ((try dsimp only); (repeat' split) <;> rfl)
    try clear_value v52
    refine Keeps.trans ?_ (kept_landStart _)
    refine Keeps.trans ?_ (kept_noteDetail _ _ _ _)
    exact h_v52
  · exact h_v2

theorem kept_raiseReady (d : Nat) (n : Nat) (s0 : State) : Keeps s0 (raiseReady d n s0) := by
  unfold raiseReady
  refine Keeps.ite (fun _ => ?_) (fun _ => ?_)
  · refine Keeps.update ?_
    exact Keeps.refl _
  · exact Keeps.refl _

theorem kept_markUnit (n : Nat) (p : Nat) (t : UnitState) (cause : Nat) (s0 : State) : Keeps s0 (markUnit n p t cause s0) := by
  unfold markUnit
  refine Keeps.ite (fun _ => ?_) (fun _ => ?_)
  · exact Keeps.refl _
  · refine Keeps.trans ?_ (kept_modDie _ _ _ (fun x => ?_))
    · refine Keeps.trans ?_ (kept_changeState _ _ _ _)
      exact Keeps.refl _
    · first | rfl | ((try dsimp only); (repeat' split) <;> rfl)

theorem kept_missingAtEnd (d : Nat) (n : Nat) (s0 : State) : Keeps s0 (missingAtEnd d n s0) := by
  unfold missingAtEnd
  refine Keeps.ite (fun _ => ?_) (fun _ => ?_)
  · refine Keeps.foldl (fun s0 a => ?_) ?_
    · try beta_reduce
      refine Keeps.ite (fun _ => ?_) (fun _ => ?_)
      · exact Keeps.refl _
      · refine Keeps.trans ?_ (kept_markUnit _ _ _ _ _)
        exact Keeps.refl _
    · exact Keeps.refl _
  · refine Keeps.ite (fun _ => ?_) (fun _ => ?_)
    · refine Keeps.foldl (fun s0 a => ?_) ?_
      · try beta_reduce
        extract_lets +onlyGivenNames -underBinder -merge -useContext v19
        have h_v19 : Keeps s0 v19 := by
          unfold v19
          refine Keeps.ite (fun _ => ?_) (fun _ => ?_)
          · exact Keeps.refl _
          · refine Keeps.trans ?_ (kept_markUnit _ _ _ _ _)
            exact Keeps.refl _
        try clear_value v19
        refine Keeps.foldl (fun s0 a => ?_) ?_
        · try beta_reduce
          refine Keeps.trans ?_ (kept_markUnit _ _ _ _ _)
          exact Keeps.refl _
        · exact h_v19
      · exact Keeps.refl _
    · exact Keeps.refl _

theorem kept_failStage (d : Nat) (n : Nat) (s0 : State) : Keeps s0 (failStage d n s0) := by
  unfold failStage
  refine Keeps.ite (fun _ => ?_) (fun _ => ?_)
  · refine Keeps.trans ?_ (kept_stopPackage _)
    refine Keeps.trans ?_ (kept_flagDraft _ _ _)
    refine Keeps.trans ?_ (kept_flagDraft _ _ _)
    exact Keeps.refl _
  · refine Keeps.ite (fun _ => ?_) (fun _ => ?_)
    · extract_lets +onlyGivenNames -underBinder -merge -useContext v9
      have h_v9 : Keeps s0 v9 := by
        unfold v9
        refine Keeps.trans ?_ (kept_fenceDie _ _ _)
        refine Keeps.trans ?_ (kept_flagDraft _ _ _)
        exact Keeps.refl _
      try clear_value v9
      refine Keeps.ite (fun _ => ?_) (fun _ => ?_)
      · exact h_v9
      · refine Keeps.trans ?_ (kept_stopPackage _)
        refine Keeps.trans ?_ (kept_flagDraft _ _ _)
        exact h_v9
    · refine Keeps.ite (fun _ => ?_) (fun _ => ?_)
      · refine Keeps.trans ?_ (kept_fenceDie _ _ _)
        refine Keeps.trans ?_ (kept_flagDraft _ _ _)
        exact Keeps.refl _
      · refine Keeps.ite (fun _ => ?_) (fun _ => ?_)
        · extract_lets +onlyGivenNames -underBinder -merge -useContext v32
          have h_v32 : Keeps s0 v32 := by
            unfold v32
            refine Keeps.trans ?_ (kept_flagDraft _ _ _)
            exact Keeps.refl _
          try clear_value v32
          refine Keeps.trans ?_ (kept_fenceDie _ _ _)
          refine Keeps.trans ?_ (kept_takeRole _ _)
          exact h_v32
        · refine Keeps.trans ?_ (kept_stopPackage _)
          refine Keeps.trans ?_ (kept_flagDraft _ _ _)
          refine Keeps.trans ?_ (kept_flagDraft _ _ _)
          exact Keeps.refl _

theorem kept_endStage (d : Nat) (n : Nat) (s0 : State) : Keeps s0 (endStage d n s0) := by
  unfold endStage
  extract_lets +onlyGivenNames -underBinder -merge -useContext v0
  have h_v0 : Keeps s0 v0 := by
    unfold v0
    refine Keeps.trans ?_ (kept_stageSpecial _ _ _)
    refine Keeps.trans ?_ (kept_startBindings _ _ _)
    refine Keeps.trans ?_ (kept_missingAtEnd _ _ _)
    exact Keeps.refl _
  try clear_value v0
  extract_lets +onlyGivenNames -underBinder -merge -useContext v8
  have h_v8 : Keeps s0 v8 := by
    unfold v8
    refine Keeps.ite (fun _ => ?_) (fun _ => ?_)
    · refine Keeps.trans ?_ (kept_failStage _ _ _)
      exact h_v0
    · exact h_v0
  try clear_value v8
  extract_lets +onlyGivenNames -underBinder -merge -useContext v18
  try clear_value v18
  extract_lets +onlyGivenNames -underBinder -merge -useContext v20
  try clear_value v20
  extract_lets +onlyGivenNames -underBinder -merge -useContext v22
  try clear_value v22
  extract_lets +onlyGivenNames -underBinder -merge -useContext w24_0 v24
  try clear_value v24
  extract_lets +onlyGivenNames -underBinder -merge -useContext v26
  try clear_value v26
  extract_lets +onlyGivenNames -underBinder -merge -useContext v28
  have h_v28 : Keeps s0 v28 := by
    unfold v28
    refine Keeps.trans ?_ (kept_modDie _ _ _ (fun x => ?_))
    · exact h_v8
    · first | rfl | ((try dsimp only); (repeat' split) <;> rfl)
  try clear_value v28
  refine Keeps.trans ?_ (kept_checkNumbers _)
  refine Keeps.trans ?_ (kept_raiseReady _ _ _)
  refine Keeps.ite (fun _ => ?_) (fun _ => ?_)
  · exact h_v28
  · refine Keeps.trans ?_ (kept_raiseLocal _ _ _)
    exact h_v28

theorem kept_enterRegistration (p : Nat) (ports : Nat) (controlCore : Nat) (s0 : State) : Keeps s0 (enterRegistration p ports controlCore s0) := by
  unfold enterRegistration
  extract_lets +onlyGivenNames -underBinder -merge -useContext w0_0 v0
  try clear_value v0
  refine Keeps.ite (fun _ => ?_) (fun _ => ?_)
  · refine Keeps.trans ?_ (kept_enterField _ _ _)
    exact Keeps.refl _
  · refine Keeps.trans ?_ (kept_raiseLocal _ _ _)
    exact Keeps.refl _

theorem ends_execTrialCommitTimeout (dt : Nat) (s0 : State) : Ends (elapse dt s0) (execTrialCommitTimeout dt s0) := by
  unfold execTrialCommitTimeout
  extract_lets +onlyGivenNames -underBinder -merge -useContext v0
  have h_v0 : Keeps (elapse dt s0) v0 := by
    unfold v0
    exact Keeps.refl _
  try clear_value v0
  extract_lets +onlyGivenNames -underBinder -merge -useContext v5
  try clear_value v5
  extract_lets +onlyGivenNames -underBinder -merge -useContext v7
  try clear_value v7
  refine Ends.done ?_
  refine Keeps.ite (fun _ => ?_) (fun _ => ?_)
  · refine Keeps.trans ?_ (kept_commitImage _)
    exact h_v0
  · exact h_v0

theorem ends_execAnchorReadyTimeout (dt : Nat) (s0 : State) : Ends (elapse dt s0) (execAnchorReadyTimeout dt s0) := by
  unfold execAnchorReadyTimeout
  extract_lets +onlyGivenNames -underBinder -merge -useContext v0
  have h_v0 : Keeps (elapse dt s0) v0 := by
    unfold v0
    exact Keeps.refl _
  try clear_value v0
  extract_lets +onlyGivenNames -underBinder -merge -useContext v5
  try clear_value v5
  refine Ends.done ?_
  refine Keeps.ite (fun _ => ?_) (fun _ => ?_)
  · exact h_v0
  · extract_lets +onlyGivenNames -underBinder -merge -useContext v12
    have h_v12 : Keeps (elapse dt s0) v12 := by
      unfold v12
      refine Keeps.trans ?_ (kept_anchorAtStart _ _)
      refine Keeps.trans ?_ (kept_startPt _ _)
      exact h_v0
    try clear_value v12
    refine Keeps.ite (fun _ => ?_) (fun _ => ?_)
    · exact h_v12
    · extract_lets +onlyGivenNames -underBinder -merge -useContext v23
      extract_lets +onlyGivenNames -underBinder -merge -useContext v24
      have h_v24 : Keeps (elapse dt s0) v24 := by
        unfold v24
        refine Keeps.trans ?_ (kept_modDie _ _ _ (fun x => ?_))
        · exact h_v12
        · first | rfl | ((try dsimp only); (repeat' split) <;> rfl)
      try clear_value v24
      extract_lets +onlyGivenNames -underBinder -merge -useContext v33
      try clear_value v33
      extract_lets +onlyGivenNames -underBinder -merge -useContext v35
      refine Keeps.trans ?_ (kept_modDie _ _ _ (fun x => ?_))
      · exact h_v24
      · first | rfl | ((try dsimp only); (repeat' split) <;> rfl)

theorem kept_landRegistration (p : Nat) (ports : Nat) (controlCore : Nat) (s0 : State) : Keeps s0 (landRegistration p ports controlCore s0) := by
  unfold landRegistration
  extract_lets +onlyGivenNames -underBinder -merge -useContext v0
  try clear_value v0
  extract_lets +onlyGivenNames -underBinder -merge -useContext v2
  try clear_value v2
  refine Keeps.ite (fun _ => ?_) (fun _ => ?_)
  · refine Keeps.trans ?_ (kept_modField _ _ _)
    exact Keeps.refl _
  · refine Keeps.ite (fun _ => ?_) (fun _ => ?_)
    · refine Keeps.ite (fun _ => ?_) (fun _ => ?_)
      · exact Keeps.refl _
      · refine Keeps.trans ?_ (kept_checkDiscovery _ _)
        refine Keeps.trans ?_ (kept_modCluster _ _ _)
        exact Keeps.refl _
    · refine Keeps.trans ?_ (kept_anomaly _ _ _)
      exact Keeps.refl _

theorem ends_execArbiterForward (dt : Nat) (d : Nat) (s0 : State) : Ends (elapse dt s0) (execArbiterForward dt d s0) := by
  unfold execArbiterForward
  extract_lets +onlyGivenNames -underBinder -merge -useContext v0
  have h_v0 : Keeps (elapse dt s0) v0 := by
    unfold v0
    exact Keeps.refl _
  try clear_value v0
  extract_lets +onlyGivenNames -underBinder -merge -useContext v5
  try clear_value v5
  refine Ends.done ?_
  refine Keeps.ite (fun _ => ?_) (fun _ => ?_)
  · exact h_v0
  · split
    · exact h_v0
    · split
      · exact h_v0
      · extract_lets +onlyGivenNames -underBinder -merge -useContext v20
        have h_v20 : Keeps (elapse dt s0) v20 := by
          unfold v20
          refine Keeps.trans ?_ (kept_takeInput _ _ _)
          exact h_v0
        try clear_value v20
        split
        · refine Keeps.trans ?_ (kept_landRegistration _ _ _ _)
          refine Keeps.trans ?_ (kept_modDie _ _ _ (fun x => ?_))
          · exact h_v20
          · first | rfl | ((try dsimp only); (repeat' split) <;> rfl)
        · extract_lets +onlyGivenNames -underBinder -merge -useContext v35
          have h_v35 : Keeps (elapse dt s0) v35 := by
            unfold v35
            refine Keeps.trans ?_ (kept_modDie _ _ _ (fun x => ?_))
            · exact h_v20
            · first | rfl | ((try dsimp only); (repeat' split) <;> rfl)
          try clear_value v35
          extract_lets +onlyGivenNames -underBinder -merge -useContext v44
          have h_v44 : Keeps (elapse dt s0) v44 := by
            unfold v44
            split
            · refine Keeps.ite (fun _ => ?_) (fun _ => ?_)
              · refine Keeps.trans ?_ (kept_raiseEnd _ _ _)
                exact h_v35
              · exact h_v35
            · exact h_v35
          try clear_value v44
          refine Keeps.trans ?_ (kept_enterHandling _ _ _)
          exact h_v44

theorem ends_execBridleRegistration (dt : Nat) (bridle : Pua) (ports : Nat) (controlCore : Nat) (s0 : State) : Ends (elapse dt s0) (execBridleRegistration dt bridle ports controlCore s0) := by
  unfold execBridleRegistration
  extract_lets +onlyGivenNames -underBinder -merge -useContext v0
  have h_v0 : Keeps (elapse dt s0) v0 := by
    unfold v0
    exact Keeps.refl _
  try clear_value v0
  extract_lets +onlyGivenNames -underBinder -merge -useContext v5
  try clear_value v5
  extract_lets +onlyGivenNames -underBinder -merge -useContext v7
  try clear_value v7
  extract_lets +onlyGivenNames -underBinder -merge -useContext v9
  try clear_value v9
  extract_lets +onlyGivenNames -underBinder -merge -useContext v11
  try clear_value v11
  refine Ends.done ?_
  refine Keeps.ite (fun _ => ?_) (fun _ => ?_)
  · exact h_v0
  · refine Keeps.trans ?_ (kept_enterRegistration _ _ _ _)
    exact h_v0

theorem kept_scanReel (d : Nat) (s0 : State) : Keeps s0 (scanReel d s0) := by
  unfold scanReel
  extract_lets +onlyGivenNames -underBinder -merge -useContext v0
  have h_v0 : Keeps s0 v0 := by
    unfold v0
    refine Keeps.trans ?_ (kept_modReel _ _ _)
    exact Keeps.refl _
  try clear_value v0
  extract_lets +onlyGivenNames -underBinder -merge -useContext v6
  try clear_value v6
  refine Keeps.ite (fun _ => ?_) (fun _ => ?_)
  · refine Keeps.trans ?_ (kept_finishClear _ _ _)
    refine Keeps.trans ?_ (kept_modReel _ _ _)
    exact h_v0
  · split
    · exact h_v0
    · extract_lets +onlyGivenNames -underBinder -merge -useContext v18
      try clear_value v18
      refine Keeps.trans ?_ (kept_modReel _ _ _)
      exact h_v0

theorem kept_fallBack (d : Nat) (n : Nat) (failed : List Nat) (s0 : State) : Keeps s0 (fallBack d n failed s0) := by
  unfold fallBack
  refine Keeps.ite (fun _ => ?_) (fun _ => ?_)
  · exact Keeps.refl _
  · extract_lets +onlyGivenNames -underBinder -merge -useContext v4
    try clear_value v4
    extract_lets +onlyGivenNames -underBinder -merge -useContext v6
    try clear_value v6
    refine Keeps.ite (fun _ => ?_) (fun _ => ?_)
    · exact Keeps.refl _
    · extract_lets +onlyGivenNames -underBinder -merge -useContext v12
      have h_v12 : Keeps s0 v12 := by
        unfold v12
        refine Keeps.trans ?_ (kept_modDie _ _ _ (fun x => ?_))
        · exact Keeps.refl _
        · first | rfl | ((try dsimp only); (repeat' split) <;> rfl)
      try clear_value v12
      extract_lets +onlyGivenNames -underBinder -merge -useContext v21
      have h_v21 : Keeps s0 v21 := by
        unfold v21
        refine Keeps.trans ?_ (kept_flagDraft _ _ _)
        refine Keeps.update ?_
        exact h_v12
      try clear_value v21
      extract_lets +onlyGivenNames -underBinder -merge -useContext v28
      try clear_value v28
      refine Keeps.trans ?_ (kept_modDraft _ _ _)
      exact h_v21

theorem kept_quickFailure (p : Nat) (s0 : State) : Keeps s0 (quickFailure p s0) := by
  unfold quickFailure
  extract_lets +onlyGivenNames -underBinder -merge -useContext v0
  try clear_value v0
  refine Keeps.ite (fun _ => ?_) (fun _ => ?_)
  · exact Keeps.refl _
  · split
    · rename_i hq_
      have hk_ : Keeps s0 _ := Keeps.of_eq1 hq_ (by
        refine Keeps.trans ?_ (kept_takeNat _)
        exact Keeps.refl _
        )
      extract_lets +onlyGivenNames -underBinder -merge -useContext v13
      try clear_value v13
      extract_lets +onlyGivenNames -underBinder -merge -useContext v15
      have h_v15 : Keeps s0 v15 := by
        unfold v15
        refine Keeps.trans ?_ (kept_record _ _ _ _ _)
        refine Keeps.trans ?_ (kept_addObj _ _ _)
        exact hk_
      try clear_value v15
      extract_lets +onlyGivenNames -underBinder -merge -useContext v22
      have h_v22 : Keeps s0 v22 := by
        unfold v22
        refine Keeps.trans ?_ (kept_modUnit _ _ _)
        exact h_v15
      try clear_value v22
      refine Keeps.trans ?_ (kept_markUnit _ _ _ _ _)
      exact h_v22

theorem kept_failUnit (d : Nat) (n : Nat) (p : Nat) (s0 : State) : Keeps s0 (failUnit d n p s0) := by
  unfold failUnit
  split
  · refine Keeps.trans ?_ (kept_noteDetail _ _ _ _)
    refine Keeps.trans ?_ (kept_markUnit _ _ _ _ _)
    exact Keeps.refl _
  · extract_lets +onlyGivenNames -underBinder -merge -useContext v6
    try clear_value v6
    refine Keeps.trans ?_ (kept_noteDetail _ _ _ _)
    refine Keeps.trans ?_ (kept_modKeeper _ _ _)
    exact Keeps.refl _
  · extract_lets +onlyGivenNames -underBinder -merge -useContext v12
    try clear_value v12
    refine Keeps.ite (fun _ => ?_) (fun _ => ?_)
    · refine Keeps.ite (fun _ => ?_) (fun _ => ?_)
      · exact Keeps.refl _
      · extract_lets +onlyGivenNames -underBinder -merge -useContext v20
        have h_v20 : Keeps s0 v20 := by
          unfold v20
          refine Keeps.trans ?_ (kept_modField _ _ _)
          exact Keeps.refl _
        try clear_value v20
        refine Keeps.trans ?_ (kept_noteDetail _ _ _ _)
        refine Keeps.trans ?_ (kept_readPhases _ _)
        exact h_v20
    · refine Keeps.trans ?_ (kept_noteDetail _ _ _ _)
      refine Keeps.trans ?_ (kept_leaveOff _ _)
      exact Keeps.refl _
  · refine Keeps.trans ?_ (kept_quickFailure _ _)
    exact Keeps.refl _
  · extract_lets +onlyGivenNames -underBinder -merge -useContext v37
    try clear_value v37
    refine Keeps.ite (fun _ => ?_) (fun _ => ?_)
    · exact Keeps.refl _
    · refine Keeps.trans ?_ (kept_noteDetail _ _ _ _)
      refine Keeps.trans ?_ (kept_addObj _ _ _)
      refine Keeps.trans ?_ (kept_modDie _ _ _ (fun x => ?_))
      · exact Keeps.refl _
      · first | rfl | ((try dsimp only); (repeat' split) <;> rfl)
  · refine Keeps.trans ?_ (kept_markUnit _ _ _ _ _)
    exact Keeps.refl _

theorem kept_takeFindings (d : Nat) (n : Nat) (f : StageFindings) (s0 : State) : Keeps s0 (takeFindings d n f s0) := by
  unfold takeFindings
  extract_lets +onlyGivenNames -underBinder -merge -useContext v0
  extract_lets +onlyGivenNames -underBinder -merge -useContext v1
  have h_v1 : Keeps s0 v1 := by
    unfold v1
    refine Keeps.trans ?_ (kept_fallBack _ _ _ _)
    exact Keeps.refl _
  try clear_value v1
  extract_lets +onlyGivenNames -underBinder -merge -useContext v7
  have h_v7 : Keeps s0 v7 := by
    unfold v7
    refine Keeps.foldl (fun s0 a => ?_) ?_
    · try beta_reduce
      refine Keeps.trans ?_ (kept_markUnit _ _ _ _ _)
      exact Keeps.refl _
    · exact h_v1
  try clear_value v7
  extract_lets +onlyGivenNames -underBinder -merge -useContext v18
  have h_v18 : Keeps s0 v18 := by
    unfold v18
    refine Keeps.foldl (fun s0 a => ?_) ?_
    · try beta_reduce
      refine Keeps.trans ?_ (kept_failUnit _ _ _ _)
      exact Keeps.refl _
    · exact h_v7
  try clear_value v18
  extract_lets +onlyGivenNames -underBinder -merge -useContext v29
  have h_v29 : Keeps s0 v29 := by
    unfold v29
    refine Keeps.foldl (fun s0 a => ?_) ?_
    · try beta_reduce
      refine Keeps.trans ?_ (kept_anomaly _ _ _)
      exact Keeps.refl _
    · exact h_v18
  try clear_value v29
  extract_lets +onlyGivenNames -underBinder -merge -useContext v40
  have h_v40 : Keeps s0 v40 := by
    unfold v40
    refine Keeps.ite (fun _ => ?_) (fun _ => ?_)
    · refine Keeps.trans ?_ (kept_modDie _ _ _ (fun x => ?_))
      · exact h_v29
      · first | rfl | ((try dsimp only); (repeat' split) <;> rfl)
    · exact h_v29
  try clear_value v40
  refine Keeps.ite (fun _ => ?_) (fun _ => ?_)
  · exact h_v40
  · refine Keeps.trans ?_ (kept_noteDetail _ _ _ _)
    exact h_v40

theorem kept_runStage1 (d : Nat) (f : StageFindings) (s0 : State) : Keeps s0 (runStage1 d f s0) := by
  unfold runStage1
  extract_lets +onlyGivenNames -underBinder -merge -useContext v0
  have h_v0 : Keeps s0 v0 := by
    unfold v0
    refine Keeps.trans ?_ (kept_modDie _ _ _ (fun x => ?_))
    · refine Keeps.trans ?_ (kept_beginStage _ _ _)
      exact Keeps.refl _
    · first | rfl | ((try dsimp only); (repeat' split) <;> rfl)
  try clear_value v0
  extract_lets +onlyGivenNames -underBinder -merge -useContext v10
  have h_v10 : Keeps s0 v10 := by
    unfold v10
    refine Keeps.ite (fun _ => ?_) (fun _ => ?_)
    · refine Keeps.trans ?_ (kept_startPt _ _)
      refine Keeps.update ?_
      exact h_v0
    · exact h_v0
  try clear_value v10
  extract_lets +onlyGivenNames -underBinder -merge -useContext v21
  have h_v21 : Keeps s0 v21 := by
    unfold v21
    refine Keeps.trans ?_ (kept_scanReel _ _)
    exact h_v10
  try clear_value v21
  extract_lets +onlyGivenNames -underBinder -merge -useContext v27
  try clear_value v27
  extract_lets +onlyGivenNames -underBinder -merge -useContext v29
  have h_v29 : Keeps s0 v29 := by
    unfold v29
    refine Keeps.trans ?_ (kept_modDie _ _ _ (fun x => ?_))
    · exact h_v21
    · first | rfl | ((try dsimp only); (repeat' split) <;> rfl)
  try clear_value v29
  extract_lets +onlyGivenNames -underBinder -merge -useContext v38
  try clear_value v38
  extract_lets +onlyGivenNames -underBinder -merge -useContext v40
  have h_v40 : Keeps s0 v40 := by
    unfold v40
    refine Keeps.foldl (fun s0 a => ?_) ?_
    · try beta_reduce
      refine Keeps.trans ?_ (kept_markUnit _ _ _ _ _)
      exact Keeps.refl _
    · exact h_v29
  try clear_value v40
  refine Keeps.trans ?_ (kept_takeFindings _ _ _ _)
  exact h_v40

theorem kept_newRun (s0 : State) : Keeps s0 (newRun s0) := by
  refine ⟨rfl, rfl, rfl, fun _ => ?_, fun w => by simpa [newRun] using w, fun w x hx => ?_⟩
  · cases h : s0.variant <;> simp [newRun, h, State.reset, Variant.dies]
  simp only [newRun, List.mem_map] at hx
  obtain ⟨e, he, rfl⟩ := hx
  obtain ⟨_, h⟩ := List.mem_zipIdx' he
  exact w e.1 (List.mem_of_mem_take (by rw [h]; exact List.getElem_mem _))

theorem kept_runStage0 (d : Nat) (s0 : State) : Keeps s0 (runStage0 d s0) := by
  unfold runStage0
  extract_lets +onlyGivenNames -underBinder -merge -useContext v0
  try clear_value v0
  extract_lets +onlyGivenNames -underBinder -merge -useContext v2
  have h_v2 : Keeps s0 v2 := by
    unfold v2
    refine Keeps.ite (fun _ => ?_) (fun _ => ?_)
    · refine Keeps.trans ?_ (kept_newRun _)
      exact Keeps.refl _
    · exact Keeps.refl _
  try clear_value v2
  refine Keeps.ite (fun _ => ?_) (fun _ => ?_)
  · exact h_v2
  · refine Keeps.trans ?_ (kept_modDie _ _ _ (fun x => ?_))
    · refine Keeps.trans ?_ (kept_beginStage _ _ _)
      exact h_v2
    · first | rfl | ((try dsimp only); (repeat' split) <;> rfl)

theorem kept_leaveOutLanes (d : Nat) (s0 : State) : Keeps s0 (leaveOutLanes d s0) := by
  unfold leaveOutLanes
  refine Keeps.foldl (fun s0 a => ?_) ?_
  · try beta_reduce
    extract_lets +onlyGivenNames -underBinder -merge -useContext v3
    try clear_value v3
    refine Keeps.ite (fun _ => ?_) (fun _ => ?_)
    · exact Keeps.refl _
    · refine Keeps.trans ?_ (kept_emit _ _)
      exact Keeps.refl _
  · exact Keeps.refl _

theorem kept_placeRegions (d : Nat) (s0 : State) : Keeps s0 (placeRegions d s0) := by
  unfold placeRegions
  extract_lets +onlyGivenNames -underBinder -merge -useContext v0
  try clear_value v0
  extract_lets +onlyGivenNames -underBinder -merge -useContext v2
  try clear_value v2
  extract_lets +onlyGivenNames -underBinder -merge -useContext v4
  have h_v4 : Keeps s0 v4 := by
    unfold v4
    refine Keeps.foldl (fun s0 a => ?_) ?_
    · try beta_reduce
      refine Keeps.trans ?_ (kept_loseRegion _ _ _)
      exact Keeps.refl _
    · exact Keeps.refl _
  try clear_value v4
  extract_lets +onlyGivenNames -underBinder -merge -useContext v15
  have h_v15 : Keeps s0 v15 := by
    unfold v15
    refine Keeps.foldl (fun s0 a => ?_) ?_
    · try beta_reduce
      extract_lets +onlyGivenNames -underBinder -merge -useContext v21
      try clear_value v21
      refine Keeps.trans ?_ (kept_modDie _ _ _ (fun x => ?_))
      · exact Keeps.refl _
      · first | rfl | ((try dsimp only); (repeat' split) <;> rfl)
    · exact h_v4
  try clear_value v15
  refine Keeps.ite (fun _ => ?_) (fun _ => ?_)
  · exact h_v15
  · refine Keeps.trans ?_ (kept_noteDetail _ _ _ _)
    exact h_v15

theorem kept_runStage5 (d : Nat) (f : StageFindings) (s0 : State) : Keeps s0 (runStage5 d f s0) := by
  unfold runStage5
  extract_lets +onlyGivenNames -underBinder -merge -useContext v0
  have h_v0 : Keeps s0 v0 := by
    unfold v0
    refine Keeps.trans ?_ (kept_takeFindings _ _ _ _)
    exact Keeps.refl _
  try clear_value v0
  extract_lets +onlyGivenNames -underBinder -merge -useContext v6
  have h_v6 : Keeps s0 v6 := by
    unfold v6
    split
    · refine Keeps.ite (fun _ => ?_) (fun _ => ?_)
      · exact h_v0
      · refine Keeps.trans ?_ (kept_noteDetail _ _ _ _)
        exact h_v0
    · exact h_v0
  try clear_value v6
  refine Keeps.trans ?_ (kept_placeRegions _ _)
  refine Keeps.update ?_
  exact h_v6

theorem kept_imageFails (s0 : State) : Keeps s0 (imageFails s0) := by
  unfold imageFails
  extract_lets +onlyGivenNames -underBinder -merge -useContext v0
  try clear_value v0
  extract_lets +onlyGivenNames -underBinder -merge -useContext v2
  extract_lets +onlyGivenNames -underBinder -merge -useContext v3
  try clear_value v3
  refine Keeps.trans ?_ (kept_editCopies _ _)
  refine Keeps.update ?_
  exact Keeps.refl _

theorem kept_runStage7 (d : Nat) (f : StageFindings) (s0 : State) : Keeps s0 (runStage7 d f s0) := by
  unfold runStage7
  extract_lets +onlyGivenNames -underBinder -merge -useContext v0
  have h_v0 : Keeps s0 v0 := by
    unfold v0
    refine Keeps.ite (fun _ => ?_) (fun _ => ?_)
    · refine Keeps.trans ?_ (kept_imageFails _)
      exact Keeps.refl _
    · exact Keeps.refl _
  try clear_value v0
  extract_lets +onlyGivenNames -underBinder -merge -useContext v10
  have h_v10 : Keeps s0 v10 := by
    unfold v10
    refine Keeps.ite (fun _ => ?_) (fun _ => ?_)
    · refine Keeps.trans ?_ (kept_noteDetail _ _ _ _)
      exact h_v0
    · refine Keeps.ite (fun _ => ?_) (fun _ => ?_)
      · refine Keeps.trans ?_ (kept_noteDetail _ _ _ _)
        exact h_v0
      · exact h_v0
  try clear_value v10
  extract_lets +onlyGivenNames -underBinder -merge -useContext v25
  have h_v25 : Keeps s0 v25 := by
    unfold v25
    refine Keeps.trans ?_ (kept_takeFindings _ _ _ _)
    exact h_v10
  try clear_value v25
  refine Keeps.foldl (fun s0 a => ?_) ?_
  · try beta_reduce
    split
    · rename_i hq_
      have hk_ : Keeps s0 _ := Keeps.of_eq1 hq_ (by
        refine Keeps.trans ?_ (kept_takeWord _)
        exact Keeps.refl _
        )
      refine Keeps.trans ?_ (kept_modField _ _ _)
      exact hk_
  · exact h_v25

theorem kept_runStage3 (d : Nat) (f : StageFindings) (s0 : State) : Keeps s0 (runStage3 d f s0) := by
  unfold runStage3
  extract_lets +onlyGivenNames -underBinder -merge -useContext v0
  try clear_value v0
  extract_lets +onlyGivenNames -underBinder -merge -useContext v2
  have h_v2 : Keeps s0 v2 := by
    unfold v2
    refine Keeps.foldl (fun s0 a => ?_) ?_
    · try beta_reduce
      extract_lets +onlyGivenNames -underBinder -merge -useContext v8
      try clear_value v8
      refine Keeps.trans ?_ (kept_modField _ _ _)
      exact Keeps.refl _
    · exact Keeps.refl _
  try clear_value v2
  extract_lets +onlyGivenNames -underBinder -merge -useContext v15
  have h_v15 : Keeps s0 v15 := by
    unfold v15
    refine Keeps.foldl (fun s0 a => ?_) ?_
    · try beta_reduce
      refine Keeps.ite (fun _ => ?_) (fun _ => ?_)
      · refine Keeps.trans ?_ (kept_goDark _ _)
        exact Keeps.refl _
      · exact Keeps.refl _
    · exact h_v2
  try clear_value v15
  extract_lets +onlyGivenNames -underBinder -merge -useContext v30
  have h_v30 : Keeps s0 v30 := by
    unfold v30
    refine Keeps.trans ?_ (kept_takeFindings _ _ _ _)
    exact h_v15
  try clear_value v30
  refine Keeps.ite (fun _ => ?_) (fun _ => ?_)
  · refine Keeps.trans ?_ (kept_noteDetail _ _ _ _)
    exact h_v30
  · refine Keeps.foldl (fun s0 a => ?_) ?_
    · try beta_reduce
      refine Keeps.ite (fun _ => ?_) (fun _ => ?_)
      · refine Keeps.trans ?_ (kept_powerOn _ _)
        exact Keeps.refl _
      · refine Keeps.trans ?_ (kept_leaveOff _ _)
        exact Keeps.refl _
    · exact h_v30

theorem kept_measureLeaves (f : Nat) (s0 : State) : Keeps s0 (measureLeaves f s0) := by
  unfold measureLeaves
  split
  · rename_i hq_
    have hk_ : Keeps s0 _ := Keeps.of_eq1 hq_ (by
      refine Keeps.trans ?_ (kept_takeNat _)
      exact Keeps.refl _
      )
    refine Keeps.trans ?_ (kept_modField _ _ _)
    exact hk_

theorem kept_runStage2 (d : Nat) (f : StageFindings) (s0 : State) : Keeps s0 (runStage2 d f s0) := by
  unfold runStage2
  extract_lets +onlyGivenNames -underBinder -merge -useContext v0
  extract_lets +onlyGivenNames -underBinder -merge -useContext v1
  have h_v1 : Keeps s0 v1 := by
    unfold v1
    refine Keeps.ite (fun _ => ?_) (fun _ => ?_)
    · refine Keeps.trans ?_ (kept_anchorStage2 _ _ _)
      exact Keeps.refl _
    · refine Keeps.trans ?_ (kept_applyOffset _ _ _)
      exact Keeps.refl _
  try clear_value v1
  extract_lets +onlyGivenNames -underBinder -merge -useContext v12
  have h_v12 : Keeps s0 v12 := by
    unfold v12
    refine Keeps.foldl (fun s0 a => ?_) ?_
    · try beta_reduce
      extract_lets +onlyGivenNames -underBinder -merge -useContext v18
      try clear_value v18
      refine Keeps.trans ?_ (kept_measureLeaves _ _)
      refine Keeps.trans ?_ (kept_applyOffset _ _ _)
      exact Keeps.refl _
    · exact h_v1
  try clear_value v12
  extract_lets +onlyGivenNames -underBinder -merge -useContext v26
  have h_v26 : Keeps s0 v26 := by
    unfold v26
    refine Keeps.trans ?_ (kept_modDie _ _ _ (fun x => ?_))
    · exact h_v12
    · first | rfl | ((try dsimp only); (repeat' split) <;> rfl)
  try clear_value v26
  extract_lets +onlyGivenNames -underBinder -merge -useContext v35
  have h_v35 : Keeps s0 v35 := by
    unfold v35
    refine Keeps.trans ?_ (kept_modReel _ _ _)
    refine Keeps.trans ?_ (kept_modDie _ _ _ (fun x => ?_))
    · exact h_v26
    · first | rfl | ((try dsimp only); (repeat' split) <;> rfl)
  try clear_value v35
  extract_lets +onlyGivenNames -underBinder -merge -useContext v45
  try clear_value v45
  extract_lets +onlyGivenNames -underBinder -merge -useContext v47
  have h_v47 : Keeps s0 v47 := by
    unfold v47
    refine Keeps.trans ?_ (kept_takeFindings _ _ _ _)
    refine Keeps.trans ?_ (kept_modDraft _ _ _)
    exact h_v35
  try clear_value v47
  extract_lets +onlyGivenNames -underBinder -merge -useContext v54
  have h_v54 : Keeps s0 v54 := by
    unfold v54
    refine Keeps.trans ?_ (kept_modDie _ _ _ (fun x => ?_))
    · exact h_v47
    · first | rfl | ((try dsimp only); (repeat' split) <;> rfl)
  try clear_value v54
  extract_lets +onlyGivenNames -underBinder -merge -useContext v63
  have h_v63 : Keeps s0 v63 := by
    unfold v63
    refine Keeps.foldl (fun s0 a => ?_) ?_
    · try beta_reduce
      refine Keeps.trans ?_ (kept_modPort _ _ _)
      exact Keeps.refl _
    · exact h_v54
  try clear_value v63
  extract_lets +onlyGivenNames -underBinder -merge -useContext v74
  have h_v74 : Keeps s0 v74 := by
    unfold v74
    refine Keeps.ite (fun _ => ?_) (fun _ => ?_)
    · refine Keeps.trans ?_ (kept_bootUp _ _ _)
      refine Keeps.trans ?_ (kept_bootUp _ _ _)
      exact h_v63
    · exact h_v63
  try clear_value v74
  refine Keeps.trans ?_ (kept_serveRequests _ _)
  exact h_v74

theorem kept_packageAtS8 (s0 : State) : Keeps s0 (packageAtS8 s0) := by
  unfold packageAtS8
  refine Keeps.ite (fun _ => ?_) (fun _ => ?_)
  · exact Keeps.refl _
  · extract_lets +onlyGivenNames -underBinder -merge -useContext v4
    try clear_value v4
    extract_lets +onlyGivenNames -underBinder -merge -useContext v6
    have h_v6 : Keeps s0 v6 := by
      unfold v6
      refine Keeps.ite (fun _ => ?_) (fun _ => ?_)
      · exact Keeps.refl _
      · refine Keeps.trans ?_ (kept_setObjs _ _)
        exact Keeps.refl _
    try clear_value v6
    extract_lets +onlyGivenNames -underBinder -merge -useContext v16
    have h_v16 : Keeps s0 v16 := by
      unfold v16
      refine Keeps.trans ?_ (kept_setObj _ _ _)
      exact h_v6
    try clear_value v16
    refine Keeps.trans ?_ (kept_editCopies _ _)
    refine Keeps.update ?_
    exact h_v16

theorem kept_runStage8 (d : Nat) (s0 : State) : Keeps s0 (runStage8 d s0) := by
  unfold runStage8
  extract_lets +onlyGivenNames -underBinder -merge -useContext v0
  try clear_value v0
  extract_lets +onlyGivenNames -underBinder -merge -useContext v2
  extract_lets +onlyGivenNames -underBinder -merge -useContext v3
  have h_v3 : Keeps s0 v3 := by
    unfold v3
    refine Keeps.trans ?_ (kept_modDie _ _ _ (fun x => ?_))
    · refine Keeps.update ?_
      exact Keeps.refl _
    · first | rfl | ((try dsimp only); (repeat' split) <;> rfl)
  try clear_value v3
  extract_lets +onlyGivenNames -underBinder -merge -useContext v13
  have h_v13 : Keeps s0 v13 := by
    unfold v13
    refine Keeps.foldl (fun s0 a => ?_) ?_
    · try beta_reduce
      refine Keeps.trans ?_ (kept_openScreen _ _ _)
      exact Keeps.refl _
    · exact h_v3
  try clear_value v13
  extract_lets +onlyGivenNames -underBinder -merge -useContext v24
  try clear_value v24
  extract_lets +onlyGivenNames -underBinder -merge -useContext v26
  have h_v26 : Keeps s0 v26 := by
    unfold v26
    refine Keeps.ite (fun _ => ?_) (fun _ => ?_)
    · refine Keeps.trans ?_ (kept_saveTraining _ _ _)
      exact h_v13
    · refine Keeps.ite (fun _ => ?_) (fun _ => ?_)
      · exact h_v13
      · refine Keeps.trans ?_ (kept_saveTraining _ _ _)
        exact h_v13
  try clear_value v26
  extract_lets +onlyGivenNames -underBinder -merge -useContext v41
  have h_v41 : Keeps s0 v41 := by
    unfold v41
    refine Keeps.trans ?_ (kept_modDie _ _ _ (fun x => ?_))
    · exact h_v26
    · first | rfl | ((try dsimp only); (repeat' split) <;> rfl)
  try clear_value v41
  extract_lets +onlyGivenNames -underBinder -merge -useContext v50
  try clear_value v50
  extract_lets +onlyGivenNames -underBinder -merge -useContext v52
  have h_v52 : Keeps s0 v52 := by
    unfold v52
    refine Keeps.foldl (fun s0 a => ?_) ?_
    · try beta_reduce
      refine Keeps.trans ?_ (kept_modPort _ _ _)
      exact Keeps.refl _
    · exact h_v41
  try clear_value v52
  extract_lets +onlyGivenNames -underBinder -merge -useContext v63
  have h_v63 : Keeps s0 v63 := by
    unfold v63
    refine Keeps.foldl (fun s0 a => ?_) ?_
    · try beta_reduce
      refine Keeps.trans ?_ (kept_clusterOut _ _ _ _)
      exact Keeps.refl _
    · exact h_v52
  try clear_value v63
  refine Keeps.trans ?_ (kept_packageAtS8 _)
  exact h_v63

theorem kept_runStage (d : Nat) (n : Nat) (f : StageFindings) (s0 : State) : Keeps s0 (runStage d n f s0) := by
  unfold runStage
  extract_lets +onlyGivenNames -underBinder -merge -useContext v0
  have h_v0 : Keeps s0 v0 := by
    unfold v0
    refine Keeps.trans ?_ (kept_modDie _ _ _ (fun x => ?_))
    · exact Keeps.refl _
    · first | rfl | ((try dsimp only); (repeat' split) <;> rfl)
  try clear_value v0
  split
  · refine Keeps.trans ?_ (kept_runStage2 _ _ _)
    exact h_v0
  · refine Keeps.trans ?_ (kept_runStage3 _ _ _)
    exact h_v0
  · refine Keeps.trans ?_ (kept_runStage5 _ _ _)
    exact h_v0
  · extract_lets +onlyGivenNames -underBinder -merge -useContext v20
    extract_lets +onlyGivenNames -underBinder -merge -useContext v21
    have h_v21 : Keeps s0 v21 := by
      unfold v21
      refine Keeps.trans ?_ (kept_takeFindings _ _ _ _)
      exact h_v0
    try clear_value v21
    refine Keeps.update ?_
    exact h_v21
  · refine Keeps.trans ?_ (kept_takeFindings _ _ _ _)
    refine Keeps.trans ?_ (kept_leaveOutLanes _ _)
    refine Keeps.trans ?_ (kept_modDie _ _ _ (fun x => ?_))
    · exact h_v0
    · first | rfl | ((try dsimp only); (repeat' split) <;> rfl)
  · refine Keeps.trans ?_ (kept_runStage7 _ _ _)
    exact h_v0
  · refine Keeps.trans ?_ (kept_runStage8 _ _)
    exact h_v0
  · refine Keeps.trans ?_ (kept_takeFindings _ _ _ _)
    exact h_v0

theorem ends_execStageRun (dt : Nat) (d : Nat) (n : Nat) (f : StageFindings) (s0 : State) : Ends (elapse dt s0) (execStageRun dt d n f s0) := by
  unfold execStageRun
  extract_lets +onlyGivenNames -underBinder -merge -useContext v0
  have h_v0 : Keeps (elapse dt s0) v0 := by
    unfold v0
    exact Keeps.refl _
  try clear_value v0
  extract_lets +onlyGivenNames -underBinder -merge -useContext v5
  try clear_value v5
  refine Ends.done ?_
  refine Keeps.ite (fun _ => ?_) (fun _ => ?_)
  · exact h_v0
  · split
    · refine Keeps.ite (fun _ => ?_) (fun _ => ?_)
      · refine Keeps.trans ?_ (kept_runStage0 _ _)
        exact h_v0
      · exact h_v0
    · refine Keeps.ite (fun _ => ?_) (fun _ => ?_)
      · refine Keeps.trans ?_ (kept_runStage1 _ _ _)
        exact h_v0
      · exact h_v0
    · extract_lets +onlyGivenNames -underBinder -merge -useContext v28
      try clear_value v28
      refine Keeps.ite (fun _ => ?_) (fun _ => ?_)
      · refine Keeps.trans ?_ (kept_runStage _ _ _ _)
        exact h_v0
      · exact h_v0

theorem ends_execBridleMissingDeadline (dt : Nat) (bridle : Pua) (s0 : State) : Ends (elapse dt s0) (execBridleMissingDeadline dt bridle s0) := by
  unfold execBridleMissingDeadline
  extract_lets +onlyGivenNames -underBinder -merge -useContext v0
  have h_v0 : Keeps (elapse dt s0) v0 := by
    unfold v0
    exact Keeps.refl _
  try clear_value v0
  extract_lets +onlyGivenNames -underBinder -merge -useContext v5
  try clear_value v5
  extract_lets +onlyGivenNames -underBinder -merge -useContext v7
  try clear_value v7
  extract_lets +onlyGivenNames -underBinder -merge -useContext v9
  try clear_value v9
  extract_lets +onlyGivenNames -underBinder -merge -useContext v11
  try clear_value v11
  refine Ends.done ?_
  refine Keeps.ite (fun _ => ?_) (fun _ => ?_)
  · exact h_v0
  · refine Keeps.trans ?_ (kept_checkDiscovery _ _)
    refine Keeps.trans ?_ (kept_markUnit _ _ _ _ _)
    exact h_v0

theorem ends_execStageLimitExpiry (dt : Nat) (d : Nat) (n : Nat) (s0 : State) : Ends (elapse dt s0) (execStageLimitExpiry dt d n s0) := by
  unfold execStageLimitExpiry
  extract_lets +onlyGivenNames -underBinder -merge -useContext v0
  have h_v0 : Keeps (elapse dt s0) v0 := by
    unfold v0
    exact Keeps.refl _
  try clear_value v0
  extract_lets +onlyGivenNames -underBinder -merge -useContext v5
  try clear_value v5
  refine Ends.done ?_
  refine Keeps.ite (fun _ => ?_) (fun _ => ?_)
  · exact h_v0
  · extract_lets +onlyGivenNames -underBinder -merge -useContext v12
    have h_v12 : Keeps (elapse dt s0) v12 := by
      unfold v12
      refine Keeps.trans ?_ (kept_flagDraft _ _ _)
      exact h_v0
    try clear_value v12
    refine Keeps.ite (fun _ => ?_) (fun _ => ?_)
    · exact h_v12
    · refine Keeps.foldl (fun s0 a => ?_) ?_
      · try beta_reduce
        refine Keeps.ite (fun _ => ?_) (fun _ => ?_)
        · refine Keeps.trans ?_ (kept_noteDetail _ _ _ _)
          refine Keeps.trans ?_ (kept_leaveOff _ _)
          exact Keeps.refl _
        · exact Keeps.refl _
      · exact h_v12

theorem ends_execStageComplete (dt : Nat) (d : Nat) (n : Nat) (f : StageFindings) (s0 : State) : Ends (elapse dt s0) (execStageComplete dt d n f s0) := by
  unfold execStageComplete
  extract_lets +onlyGivenNames -underBinder -merge -useContext v0
  have h_v0 : Keeps (elapse dt s0) v0 := by
    unfold v0
    exact Keeps.refl _
  try clear_value v0
  extract_lets +onlyGivenNames -underBinder -merge -useContext v5
  try clear_value v5
  refine Ends.done ?_
  refine Keeps.ite (fun _ => ?_) (fun _ => ?_)
  · exact h_v0
  · refine Keeps.ite (fun _ => ?_) (fun _ => ?_)
    · refine Keeps.ite (fun _ => ?_) (fun _ => ?_)
      · refine Keeps.trans ?_ (kept_noteDetail _ _ _ _)
        exact h_v0
      · exact h_v0
    · refine Keeps.trans ?_ (kept_endStage _ _ _)
      refine Keeps.trans ?_ (kept_takeFindings _ _ _ _)
      exact h_v0

theorem ends_execStageAdvance (dt : Nat) (s0 : State) : Ends (elapse dt s0) (execStageAdvance dt s0) := by
  unfold execStageAdvance
  extract_lets +onlyGivenNames -underBinder -merge -useContext v0
  have h_v0 : Keeps (elapse dt s0) v0 := by
    unfold v0
    exact Keeps.refl _
  try clear_value v0
  extract_lets +onlyGivenNames -underBinder -merge -useContext v5
  try clear_value v5
  extract_lets +onlyGivenNames -underBinder -merge -useContext v7
  try clear_value v7
  extract_lets +onlyGivenNames -underBinder -merge -useContext v9
  try clear_value v9
  refine Ends.done ?_
  refine Keeps.ite (fun _ => ?_) (fun _ => ?_)
  · exact h_v0
  · extract_lets +onlyGivenNames -underBinder -merge -useContext v16
    refine Keeps.foldl (fun s0 a => ?_) ?_
    · try beta_reduce
      refine Keeps.trans ?_ (kept_beginStage _ _ _)
      try unfold v16
      try beta_reduce
      refine Keeps.ite (fun _ => ?_) (fun _ => ?_)
      · refine Keeps.trans ?_ (kept_modThermal _ _ _)
        exact Keeps.refl _
      · exact Keeps.refl _
    · exact h_v0

theorem ends_execFieldAgentRegistration (dt : Nat) (agent : Pua) (s0 : State) : Ends (elapse dt s0) (execFieldAgentRegistration dt agent s0) := by
  unfold execFieldAgentRegistration
  extract_lets +onlyGivenNames -underBinder -merge -useContext v0
  have h_v0 : Keeps (elapse dt s0) v0 := by
    unfold v0
    exact Keeps.refl _
  try clear_value v0
  extract_lets +onlyGivenNames -underBinder -merge -useContext v5
  try clear_value v5
  extract_lets +onlyGivenNames -underBinder -merge -useContext v7
  try clear_value v7
  refine Ends.done ?_
  refine Keeps.ite (fun _ => ?_) (fun _ => ?_)
  · exact h_v0
  · refine Keeps.trans ?_ (kept_enterRegistration _ _ _ _)
    exact h_v0

end Sys2Proof.Machine
end

