-- ==== Sys2Proof/Laws/Kept/SelfTest.lean ====
section
/-!
SUPPORT. What the operations and commands of Machine/SelfTest.lean keep (see Laws/Keeps.lean).
-/
namespace Sys2Proof.Machine

theorem ends_execSelfTestStart (dt : Nat) (d : Nat) (s0 : State) : Ends (elapse dt s0) (execSelfTestStart dt d s0) := by
  unfold execSelfTestStart
  extract_lets +onlyGivenNames -underBinder -merge -useContext v0
  have h_v0 : Keeps (elapse dt s0) v0 := by
    unfold v0
    exact Keeps.refl _
  try clear_value v0
  extract_lets +onlyGivenNames -underBinder -merge -useContext v5
  try clear_value v5
  refine Ends.done ?_
  refine Keeps.ite (fun _ => ?_) (fun _ => ?_)
  · exact h_v0
  · extract_lets +onlyGivenNames -underBinder -merge -useContext v12
    try clear_value v12
    extract_lets +onlyGivenNames -underBinder -merge -useContext v14
    extract_lets +onlyGivenNames -underBinder -merge -useContext v15
    have h_v15 : Keeps (elapse dt s0) v15 := by
      unfold v15
      refine Keeps.ite (fun _ => ?_) (fun _ => ?_)
      · exact h_v0
      · refine Keeps.trans ?_ (kept_setObjs _ _)
        refine Keeps.update_whole ?_ ?_ ?_ ?_
        · exact h_v0
        · first | rfl | simp
        · first | rfl | simp
        · first | exact fun h => h | exact Keeps.map_stores (fun x => by first | rfl | (dsimp only; split <;> rfl) | (split <;> rfl) | (simp +zetaDelta only []; first | rfl | (split <;> rfl)) | simp)
    try clear_value v15
    extract_lets +onlyGivenNames -underBinder -merge -useContext v33
    try clear_value v33
    split
    · rename_i hq_
      have hk_ : Keeps (elapse dt s0) _ := Keeps.of_eq1 hq_ (by
        refine Keeps.trans ?_ (kept_takeNat _)
        exact h_v15
        )
      refine Keeps.trans ?_ (kept_modDie _ _ _ (fun x => ?_))
      · refine Keeps.trans ?_ (kept_saveTraining _ _ _)
        exact hk_
      · first | rfl | ((try dsimp only); (repeat' split) <;> rfl)

theorem kept_finishTests (s0 : State) : Keeps s0 (finishTests s0) := by
  unfold finishTests
  extract_lets +onlyGivenNames -underBinder -merge -useContext v0
  try clear_value v0
  refine Keeps.ite (fun _ => ?_) (fun _ => ?_)
  · exact Keeps.refl _
  · extract_lets +onlyGivenNames -underBinder -merge -useContext v6
    try clear_value v6
    extract_lets +onlyGivenNames -underBinder -merge -useContext v8
    try clear_value v8
    extract_lets +onlyGivenNames -underBinder -merge -useContext v10
    try clear_value v10
    extract_lets +onlyGivenNames -underBinder -merge -useContext v12
    extract_lets +onlyGivenNames -underBinder -merge -useContext v13
    have h_v13 : Keeps s0 v13 := by
      unfold v13
      refine Keeps.trans ?_ (kept_setObjs _ _)
      refine Keeps.update_whole ?_ ?_ ?_ ?_
      · exact Keeps.refl _
      · first | rfl | simp
      · first | rfl | simp
      · first | exact fun h => h | exact Keeps.map_stores (fun x => by first | rfl | (dsimp only; split <;> rfl) | (split <;> rfl) | (simp +zetaDelta only []; first | rfl | (split <;> rfl)) | simp)
    try clear_value v13
    refine Keeps.ite (fun _ => ?_) (fun _ => ?_)
    · refine Keeps.trans ?_ (kept_reachTarget _)
      refine Keeps.trans ?_ (kept_setObj _ _ _)
      exact h_v13
    · extract_lets +onlyGivenNames -underBinder -merge -useContext v33
      have h_v33 : Keeps s0 v33 := by
        unfold v33
        refine Keeps.trans ?_ (kept_selfTestRecord _ _ _)
        exact h_v13
      try clear_value v33
      extract_lets +onlyGivenNames -underBinder -merge -useContext v39
      have h_v39 : Keeps s0 v39 := by
        unfold v39
        refine Keeps.trans ?_ (kept_setObj _ _ _)
        exact h_v33
      try clear_value v39
      extract_lets +onlyGivenNames -underBinder -merge -useContext v45
      have h_v45 : Keeps s0 v45 := by
        unfold v45
        refine Keeps.ite (fun _ => ?_) (fun _ => ?_)
        · refine Keeps.trans ?_ (kept_addObj _ _ _)
          exact h_v39
        · exact h_v39
      try clear_value v45
      extract_lets +onlyGivenNames -underBinder -merge -useContext v55
      refine Keeps.trans ?_ (kept_reachTarget _)
      refine Keeps.trans ?_ (kept_editCopies _ _)
      exact h_v45

theorem kept_nextSlice (d : Nat) (i : Nat) (expired : Bool) (s0 : State) : Keeps s0 (nextSlice d i expired s0) := by
  unfold nextSlice
  extract_lets +onlyGivenNames -underBinder -merge -useContext v0
  try clear_value v0
  extract_lets +onlyGivenNames -underBinder -merge -useContext v2
  try clear_value v2
  refine Keeps.trans ?_ (kept_finishTests _)
  refine Keeps.trans ?_ (kept_modDie _ _ _ (fun x => ?_))
  · exact Keeps.refl _
  · first | rfl | ((try dsimp only); (repeat' split) <;> rfl)

theorem ends_execTestSliceBudgetExpiry (dt : Nat) (d : Nat) (i : Nat) (s0 : State) : Ends (elapse dt s0) (execTestSliceBudgetExpiry dt d i s0) := by
  unfold execTestSliceBudgetExpiry
  extract_lets +onlyGivenNames -underBinder -merge -useContext v0
  have h_v0 : Keeps (elapse dt s0) v0 := by
    unfold v0
    exact Keeps.refl _
  try clear_value v0
  refine Ends.done ?_
  split
  · exact h_v0
  · refine Keeps.ite (fun _ => ?_) (fun _ => ?_)
    · exact h_v0
    · refine Keeps.trans ?_ (kept_nextSlice _ _ _ _)
      exact h_v0

theorem kept_testFails (d : Nat) (i : Nat) (p : Nat) (test : Nat) (lane : Nat) (s0 : State) : Keeps s0 (testFails d i p test lane s0) := by
  unfold testFails
  refine Keeps.ite (fun _ => ?_) (fun _ => ?_)
  · refine Keeps.trans ?_ (kept_changeState _ _ _ _)
    exact Keeps.refl _
  · refine Keeps.ite (fun _ => ?_) (fun _ => ?_)
    · refine Keeps.trans ?_ (kept_modDie _ _ _ (fun x => ?_))
      · exact Keeps.refl _
      · first | rfl | ((try dsimp only); (repeat' split) <;> rfl)
    · extract_lets +onlyGivenNames -underBinder -merge -useContext v13
      try clear_value v13
      refine Keeps.trans ?_ (kept_modDie _ _ _ (fun x => ?_))
      · exact Keeps.refl _
      · first | rfl | ((try dsimp only); (repeat' split) <;> rfl)

theorem ends_execTestSliceEnd (dt : Nat) (d : Nat) (i : Nat) (failures : List (Pua × Nat × Nat)) (pinFailures : Nat) (lanes : List (Nat × Nat)) (s0 : State) : Ends (elapse dt s0) (execTestSliceEnd dt d i failures pinFailures lanes s0) := by
  unfold execTestSliceEnd
  extract_lets +onlyGivenNames -underBinder -merge -useContext v0
  have h_v0 : Keeps (elapse dt s0) v0 := by
    unfold v0
    exact Keeps.refl _
  try clear_value v0
  refine Ends.done ?_
  split
  · exact h_v0
  · refine Keeps.ite (fun _ => ?_) (fun _ => ?_)
    · exact h_v0
    · extract_lets +onlyGivenNames -underBinder -merge -useContext v14
      try clear_value v14
      extract_lets +onlyGivenNames -underBinder -merge -useContext v16
      try clear_value v16
      extract_lets +onlyGivenNames -underBinder -merge -useContext v18
      have h_v18 : Keeps (elapse dt s0) v18 := by
        unfold v18
        refine Keeps.foldl (fun s0 a => ?_) ?_
        · try beta_reduce
          refine Keeps.trans ?_ (kept_testFails _ _ _ _ _ _)
          exact Keeps.refl _
        · exact h_v0
      try clear_value v18
      extract_lets +onlyGivenNames -underBinder -merge -useContext v29
      have h_v29 : Keeps (elapse dt s0) v29 := by
        unfold v29
        refine Keeps.foldl (fun s0 a => ?_) ?_
        · try beta_reduce
          refine Keeps.trans ?_ (kept_endScreen _ _ _)
          exact Keeps.refl _
        · exact h_v18
      try clear_value v29
      extract_lets +onlyGivenNames -underBinder -merge -useContext v40
      have h_v40 : Keeps (elapse dt s0) v40 := by
        unfold v40
        refine Keeps.ite (fun _ => ?_) (fun _ => ?_)
        · refine Keeps.foldl (fun s0 a => ?_) ?_
          · try beta_reduce
            refine Keeps.trans ?_ (kept_setObj _ _ _)
            exact Keeps.refl _
          · refine Keeps.trans ?_ (kept_addObj _ _ _)
            exact h_v29
        · exact h_v29
      try clear_value v40
      refine Keeps.trans ?_ (kept_nextSlice _ _ _ _)
      exact h_v40

end Sys2Proof.Machine
end

