-- ==== Sys2Proof/Laws/Kept/Snapshots.lean ====
section
/-!
SUPPORT. What the operations and commands of Machine/Snapshots.lean keep (see Laws/Keeps.lean).
-/
namespace Sys2Proof.Machine

theorem kept_tapLoad (d : Nat) (n : Nat) (ok : Bool) (s0 : State) : Keeps s0 (tapLoad d n ok s0) := by
  unfold tapLoad
  refine Keeps.trans ?_ (kept_modDie _ _ _ (fun x => ?_))
  · exact Keeps.refl _
  · first | rfl | ((try dsimp only); (repeat' split) <;> rfl)

theorem ends_execTapPrivate (dt : Nat) (d : Nat) (code : Nat) (s0 : State) : Ends (elapse dt s0) (execTapPrivate dt d code s0) := by
  unfold execTapPrivate
  extract_lets +onlyGivenNames -underBinder -merge -useContext v0
  have h_v0 : Keeps (elapse dt s0) v0 := by
    unfold v0
    exact Keeps.refl _
  try clear_value v0
  extract_lets +onlyGivenNames -underBinder -merge -useContext v5
  try clear_value v5
  extract_lets +onlyGivenNames -underBinder -merge -useContext v7
  have h_v7 : Keeps (elapse dt s0) v7 := by
    unfold v7
    refine Keeps.trans ?_ (kept_tapLoad _ _ _ _)
    exact h_v0
  try clear_value v7
  refine Ends.done ?_
  refine Keeps.ite (fun _ => ?_) (fun _ => ?_)
  · refine Keeps.update ?_
    exact h_v7
  · exact h_v7

theorem ends_execTapBypass (dt : Nat) (d : Nat) (s0 : State) : Ends (elapse dt s0) (execTapBypass dt d s0) := by
  unfold execTapBypass
  refine Ends.done ?_
  refine Keeps.trans ?_ (kept_tapLoad _ _ _ _)
  exact Keeps.refl _

theorem ends_execTapAcExtest (dt : Nat) (d : Nat) (s0 : State) : Ends (elapse dt s0) (execTapAcExtest dt d s0) := by
  unfold execTapAcExtest
  extract_lets +onlyGivenNames -underBinder -merge -useContext v0
  have h_v0 : Keeps (elapse dt s0) v0 := by
    unfold v0
    exact Keeps.refl _
  try clear_value v0
  refine Ends.done ?_
  refine Keeps.trans ?_ (kept_tapLoad _ _ _ _)
  exact h_v0

theorem ends_execTapSamplePreload (dt : Nat) (d : Nat) (s0 : State) : Ends (elapse dt s0) (execTapSamplePreload dt d s0) := by
  unfold execTapSamplePreload
  extract_lets +onlyGivenNames -underBinder -merge -useContext v0
  have h_v0 : Keeps (elapse dt s0) v0 := by
    unfold v0
    exact Keeps.refl _
  try clear_value v0
  refine Ends.done ?_
  refine Keeps.trans ?_ (kept_tapLoad _ _ _ _)
  exact h_v0

theorem ends_execSnapshotGatherComplete (dt : Nat) (s0 : State) : Ends (elapse dt s0) (execSnapshotGatherComplete dt s0) := by
  unfold execSnapshotGatherComplete
  extract_lets +onlyGivenNames -underBinder -merge -useContext v0
  have h_v0 : Keeps (elapse dt s0) v0 := by
    unfold v0
    exact Keeps.refl _
  try clear_value v0
  refine Ends.done ?_
  split
  · exact h_v0
  · refine Keeps.ite (fun _ => ?_) (fun _ => ?_)
    · exact h_v0
    · extract_lets +onlyGivenNames -underBinder -merge -useContext v14
      try clear_value v14
      extract_lets +onlyGivenNames -underBinder -merge -useContext v16
      have h_v16 : Keeps (elapse dt s0) v16 := by
        unfold v16
        refine Keeps.foldl (fun s0 a => ?_) ?_
        · try beta_reduce
          refine Keeps.trans ?_ (kept_modPath _ _ _)
          exact Keeps.refl _
        · refine Keeps.update ?_
          exact h_v0
      try clear_value v16
      extract_lets +onlyGivenNames -underBinder -merge -useContext v28
      try clear_value v28
      refine Keeps.ite (fun _ => ?_) (fun _ => ?_)
      · exact h_v16
      · extract_lets +onlyGivenNames -underBinder -merge -useContext v34
        try clear_value v34
        extract_lets +onlyGivenNames -underBinder -merge -useContext v36
        refine Keeps.update ?_
        exact h_v16

theorem ends_execTapIdcode (dt : Nat) (d : Nat) (s0 : State) : Ends (elapse dt s0) (execTapIdcode dt d s0) := by
  unfold execTapIdcode
  extract_lets +onlyGivenNames -underBinder -merge -useContext v0
  have h_v0 : Keeps (elapse dt s0) v0 := by
    unfold v0
    exact Keeps.refl _
  try clear_value v0
  extract_lets +onlyGivenNames -underBinder -merge -useContext v5
  try clear_value v5
  extract_lets +onlyGivenNames -underBinder -merge -useContext v7
  have h_v7 : Keeps (elapse dt s0) v7 := by
    unfold v7
    refine Keeps.trans ?_ (kept_tapLoad _ _ _ _)
    exact h_v0
  try clear_value v7
  refine Ends.done ?_
  refine Keeps.ite (fun _ => ?_) (fun _ => ?_)
  · refine Keeps.trans ?_ (kept_emit _ _)
    exact h_v7
  · exact h_v7

theorem ends_execTapIntest (dt : Nat) (d : Nat) (s0 : State) : Ends (elapse dt s0) (execTapIntest dt d s0) := by
  unfold execTapIntest
  extract_lets +onlyGivenNames -underBinder -merge -useContext v0
  have h_v0 : Keeps (elapse dt s0) v0 := by
    unfold v0
    exact Keeps.refl _
  try clear_value v0
  refine Ends.done ?_
  refine Keeps.trans ?_ (kept_tapLoad _ _ _ _)
  exact h_v0

theorem ends_execSnapshotLatch (dt : Nat) (s0 : State) : Ends (elapse dt s0) (execSnapshotLatch dt s0) := by
  unfold execSnapshotLatch
  extract_lets +onlyGivenNames -underBinder -merge -useContext v0
  have h_v0 : Keeps (elapse dt s0) v0 := by
    unfold v0
    exact Keeps.refl _
  try clear_value v0
  refine Ends.done ?_
  split
  · exact h_v0
  · refine Keeps.ite (fun _ => ?_) (fun _ => ?_)
    · exact h_v0
    · extract_lets +onlyGivenNames -underBinder -merge -useContext v14
      try clear_value v14
      extract_lets +onlyGivenNames -underBinder -merge -useContext v16
      have h_v16 : Keeps (elapse dt s0) v16 := by
        unfold v16
        refine Keeps.foldl (fun s0 a => ?_) ?_
        · try beta_reduce
          extract_lets +onlyGivenNames -underBinder -merge -useContext v22
          try clear_value v22
          refine Keeps.trans ?_ (kept_modPath _ _ _)
          exact Keeps.refl _
        · exact h_v0
      try clear_value v16
      extract_lets +onlyGivenNames -underBinder -merge -useContext v29
      have h_v29 : Keeps (elapse dt s0) v29 := by
        unfold v29
        refine Keeps.trans ?_ (kept_noteCounts _ _)
        exact h_v16
      try clear_value v29
      refine Keeps.update ?_
      exact h_v29

theorem ends_execTapExtest (dt : Nat) (d : Nat) (s0 : State) : Ends (elapse dt s0) (execTapExtest dt d s0) := by
  unfold execTapExtest
  extract_lets +onlyGivenNames -underBinder -merge -useContext v0
  have h_v0 : Keeps (elapse dt s0) v0 := by
    unfold v0
    exact Keeps.refl _
  try clear_value v0
  refine Ends.done ?_
  refine Keeps.trans ?_ (kept_tapLoad _ _ _ _)
  exact h_v0

end Sys2Proof.Machine
end

