-- ==== Sys2Proof/Laws/PerInstr.lean ====
section
/-!
SUPPORT. Statements for every constructor of Instr. TimeOperand: the time of a command is its own operand and no
other operand depends on it, so a command stays well formed at any time.
-/
namespace Sys2Proof.Laws.TimeOperand
open Sys2Proof

/-- The time operand can be read and set alone, and well-formedness does not look at it. -/
def Statement (i : Instr) : Prop :=
  i.withDt i.dt = i ∧ ∀ n, (i.withDt n).dt = n ∧ wellFormed (i.withDt n) = wellFormed i ∧
    ∀ m, (i.withDt n).withDt m = i.withDt m

theorem objectWrite x0 x1 x2 x3 x4 : Statement (.objectWrite x0 x1 x2 x3 x4) :=
  ⟨rfl, fun _ => ⟨rfl, rfl, fun _ => rfl⟩⟩
theorem sdoInitiate x0 x1 x2 x3 x4 x5 x6 : Statement (.sdoInitiate x0 x1 x2 x3 x4 x5 x6) :=
  ⟨rfl, fun _ => ⟨rfl, rfl, fun _ => rfl⟩⟩
theorem sdoSegment x0 x1 x2 x3 : Statement (.sdoSegment x0 x1 x2 x3) :=
  ⟨rfl, fun _ => ⟨rfl, rfl, fun _ => rfl⟩⟩
theorem sdoTimeout x0 x1 : Statement (.sdoTimeout x0 x1) :=
  ⟨rfl, fun _ => ⟨rfl, rfl, fun _ => rfl⟩⟩
theorem mailboxRead x0 x1 x2 : Statement (.mailboxRead x0 x1 x2) :=
  ⟨rfl, fun _ => ⟨rfl, rfl, fun _ => rfl⟩⟩
theorem mailboxWrite x0 x1 x2 : Statement (.mailboxWrite x0 x1 x2) :=
  ⟨rfl, fun _ => ⟨rfl, rfl, fun _ => rfl⟩⟩
theorem mailboxBulkRead x0 x1 x2 : Statement (.mailboxBulkRead x0 x1 x2) :=
  ⟨rfl, fun _ => ⟨rfl, rfl, fun _ => rfl⟩⟩
theorem mailboxBulkWrite x0 x1 x2 x3 : Statement (.mailboxBulkWrite x0 x1 x2 x3) :=
  ⟨rfl, fun _ => ⟨rfl, rfl, fun _ => rfl⟩⟩
theorem unitCursorByLcn x0 x1 x2 : Statement (.unitCursorByLcn x0 x1 x2) :=
  ⟨rfl, fun _ => ⟨rfl, rfl, fun _ => rfl⟩⟩
theorem unitCursorByPua x0 x1 x2 : Statement (.unitCursorByPua x0 x1 x2) :=
  ⟨rfl, fun _ => ⟨rfl, rfl, fun _ => rfl⟩⟩
theorem sliceCreate x0 x1 : Statement (.sliceCreate x0 x1) :=
  ⟨rfl, fun _ => ⟨rfl, rfl, fun _ => rfl⟩⟩
theorem sliceTeardown x0 x1 : Statement (.sliceTeardown x0 x1) :=
  ⟨rfl, fun _ => ⟨rfl, rfl, fun _ => rfl⟩⟩
theorem generationLoadAck x0 x1 x2 : Statement (.generationLoadAck x0 x1 x2) :=
  ⟨rfl, fun _ => ⟨rfl, rfl, fun _ => rfl⟩⟩
theorem quiesceMarkSend x0 x1 x2 x3 x4 : Statement (.quiesceMarkSend x0 x1 x2 x3 x4) :=
  ⟨rfl, fun _ => ⟨rfl, rfl, fun _ => rfl⟩⟩
theorem quiesceMarkArrival x0 x1 x2 : Statement (.quiesceMarkArrival x0 x1 x2) :=
  ⟨rfl, fun _ => ⟨rfl, rfl, fun _ => rfl⟩⟩
theorem quiesceTimeout x0 x1 : Statement (.quiesceTimeout x0 x1) :=
  ⟨rfl, fun _ => ⟨rfl, rfl, fun _ => rfl⟩⟩
theorem zeroFillComplete x0 x1 x2 : Statement (.zeroFillComplete x0 x1 x2) :=
  ⟨rfl, fun _ => ⟨rfl, rfl, fun _ => rfl⟩⟩
theorem eventReport x0 x1 x2 : Statement (.eventReport x0 x1 x2) :=
  ⟨rfl, fun _ => ⟨rfl, rfl, fun _ => rfl⟩⟩
theorem arbiterForward x0 x1 : Statement (.arbiterForward x0 x1) :=
  ⟨rfl, fun _ => ⟨rfl, rfl, fun _ => rfl⟩⟩
theorem eventSequence x0 : Statement (.eventSequence x0) :=
  ⟨rfl, fun _ => ⟨rfl, rfl, fun _ => rfl⟩⟩
theorem checkpointWriteComplete x0 : Statement (.checkpointWriteComplete x0) :=
  ⟨rfl, fun _ => ⟨rfl, rfl, fun _ => rfl⟩⟩
theorem sequenceReturn x0 x1 : Statement (.sequenceReturn x0 x1) :=
  ⟨rfl, fun _ => ⟨rfl, rfl, fun _ => rfl⟩⟩
theorem eventHandling x0 x1 : Statement (.eventHandling x0 x1) :=
  ⟨rfl, fun _ => ⟨rfl, rfl, fun _ => rfl⟩⟩
theorem shadowLoadAck x0 x1 x2 : Statement (.shadowLoadAck x0 x1 x2) :=
  ⟨rfl, fun _ => ⟨rfl, rfl, fun _ => rfl⟩⟩
theorem commitAckDeadline x0 x1 : Statement (.commitAckDeadline x0 x1) :=
  ⟨rfl, fun _ => ⟨rfl, rfl, fun _ => rfl⟩⟩
theorem commitLand x0 x1 : Statement (.commitLand x0 x1) :=
  ⟨rfl, fun _ => ⟨rfl, rfl, fun _ => rfl⟩⟩
theorem storeRecordWrite x0 x1 : Statement (.storeRecordWrite x0 x1) :=
  ⟨rfl, fun _ => ⟨rfl, rfl, fun _ => rfl⟩⟩
theorem lockstepFaultNotice x0 : Statement (.lockstepFaultNotice x0) :=
  ⟨rfl, fun _ => ⟨rfl, rfl, fun _ => rfl⟩⟩
theorem lockstepDisagreement x0 x1 : Statement (.lockstepDisagreement x0 x1) :=
  ⟨rfl, fun _ => ⟨rfl, rfl, fun _ => rfl⟩⟩
theorem gondolaWatchdogTimeout x0 x1 : Statement (.gondolaWatchdogTimeout x0 x1) :=
  ⟨rfl, fun _ => ⟨rfl, rfl, fun _ => rfl⟩⟩
theorem crossingSlip x0 x1 x2 x3 : Statement (.crossingSlip x0 x1 x2 x3) :=
  ⟨rfl, fun _ => ⟨rfl, rfl, fun _ => rfl⟩⟩
theorem correctionSend x0 : Statement (.correctionSend x0) :=
  ⟨rfl, fun _ => ⟨rfl, rfl, fun _ => rfl⟩⟩
theorem correctionArrival x0 x1 x2 : Statement (.correctionArrival x0 x1 x2) :=
  ⟨rfl, fun _ => ⟨rfl, rfl, fun _ => rfl⟩⟩
theorem correctionMissed x0 x1 : Statement (.correctionMissed x0 x1) :=
  ⟨rfl, fun _ => ⟨rfl, rfl, fun _ => rfl⟩⟩
theorem referenceLoss x0 : Statement (.referenceLoss x0) :=
  ⟨rfl, fun _ => ⟨rfl, rfl, fun _ => rfl⟩⟩
theorem referenceRestored x0 : Statement (.referenceRestored x0) :=
  ⟨rfl, fun _ => ⟨rfl, rfl, fun _ => rfl⟩⟩
theorem ripcordArrival x0 x1 x2 : Statement (.ripcordArrival x0 x1 x2) :=
  ⟨rfl, fun _ => ⟨rfl, rfl, fun _ => rfl⟩⟩
theorem frequencyChangeRequest x0 x1 x2 x3 : Statement (.frequencyChangeRequest x0 x1 x2 x3) :=
  ⟨rfl, fun _ => ⟨rfl, rfl, fun _ => rfl⟩⟩
theorem changeAcknowledge x0 x1 x2 : Statement (.changeAcknowledge x0 x1 x2) :=
  ⟨rfl, fun _ => ⟨rfl, rfl, fun _ => rfl⟩⟩
theorem changeAckDeadline x0 x1 : Statement (.changeAckDeadline x0 x1) :=
  ⟨rfl, fun _ => ⟨rfl, rfl, fun _ => rfl⟩⟩
theorem changeHoldSample x0 x1 : Statement (.changeHoldSample x0 x1) :=
  ⟨rfl, fun _ => ⟨rfl, rfl, fun _ => rfl⟩⟩
theorem changeCountSwitch x0 x1 : Statement (.changeCountSwitch x0 x1) :=
  ⟨rfl, fun _ => ⟨rfl, rfl, fun _ => rfl⟩⟩
theorem changeVerdict x0 x1 x2 : Statement (.changeVerdict x0 x1 x2) :=
  ⟨rfl, fun _ => ⟨rfl, rfl, fun _ => rfl⟩⟩
theorem modeFloorWrite x0 x1 x2 : Statement (.modeFloorWrite x0 x1 x2) :=
  ⟨rfl, fun _ => ⟨rfl, rfl, fun _ => rfl⟩⟩
theorem roleDefaultModeWrite x0 x1 x2 x3 : Statement (.roleDefaultModeWrite x0 x1 x2 x3) :=
  ⟨rfl, fun _ => ⟨rfl, rfl, fun _ => rfl⟩⟩
theorem modeOverrideWrite x0 x1 x2 : Statement (.modeOverrideWrite x0 x1 x2) :=
  ⟨rfl, fun _ => ⟨rfl, rfl, fun _ => rfl⟩⟩
theorem modeSwitch x0 x1 x2 : Statement (.modeSwitch x0 x1 x2) :=
  ⟨rfl, fun _ => ⟨rfl, rfl, fun _ => rfl⟩⟩
theorem clearModelFlag x0 x1 x2 : Statement (.clearModelFlag x0 x1 x2) :=
  ⟨rfl, fun _ => ⟨rfl, rfl, fun _ => rfl⟩⟩
theorem modelBucketRoll x0 : Statement (.modelBucketRoll x0) :=
  ⟨rfl, fun _ => ⟨rfl, rfl, fun _ => rfl⟩⟩
theorem ineligibleQuietTimeout x0 x1 : Statement (.ineligibleQuietTimeout x0 x1) :=
  ⟨rfl, fun _ => ⟨rfl, rfl, fun _ => rfl⟩⟩
theorem tileIssue x0 x1 x2 : Statement (.tileIssue x0 x1 x2) :=
  ⟨rfl, fun _ => ⟨rfl, rfl, fun _ => rfl⟩⟩
theorem contractionTileEnd x0 x1 x2 x3 : Statement (.contractionTileEnd x0 x1 x2 x3) :=
  ⟨rfl, fun _ => ⟨rfl, rfl, fun _ => rfl⟩⟩
theorem recomputeAttemptEnd x0 x1 x2 x3 x4 : Statement (.recomputeAttemptEnd x0 x1 x2 x3 x4) :=
  ⟨rfl, fun _ => ⟨rfl, rfl, fun _ => rfl⟩⟩
theorem sampleStreamTileEnd x0 x1 x2 : Statement (.sampleStreamTileEnd x0 x1 x2) :=
  ⟨rfl, fun _ => ⟨rfl, rfl, fun _ => rfl⟩⟩
theorem pinnedBlockFetch x0 x1 x2 : Statement (.pinnedBlockFetch x0 x1 x2) :=
  ⟨rfl, fun _ => ⟨rfl, rfl, fun _ => rfl⟩⟩
theorem replayComplete x0 x1 x2 x3 : Statement (.replayComplete x0 x1 x2 x3) :=
  ⟨rfl, fun _ => ⟨rfl, rfl, fun _ => rfl⟩⟩
theorem tieBreakComplete x0 x1 x2 x3 : Statement (.tieBreakComplete x0 x1 x2 x3) :=
  ⟨rfl, fun _ => ⟨rfl, rfl, fun _ => rfl⟩⟩
theorem replayGroupEnd x0 x1 x2 : Statement (.replayGroupEnd x0 x1 x2) :=
  ⟨rfl, fun _ => ⟨rfl, rfl, fun _ => rfl⟩⟩
theorem fullPairTileEnd x0 x1 x2 x3 : Statement (.fullPairTileEnd x0 x1 x2 x3) :=
  ⟨rfl, fun _ => ⟨rfl, rfl, fun _ => rfl⟩⟩
theorem thirdExecutionComplete x0 x1 x2 x3 : Statement (.thirdExecutionComplete x0 x1 x2 x3) :=
  ⟨rfl, fun _ => ⟨rfl, rfl, fun _ => rfl⟩⟩
theorem epochStart x0 x1 : Statement (.epochStart x0 x1) :=
  ⟨rfl, fun _ => ⟨rfl, rfl, fun _ => rfl⟩⟩
theorem seedDelivery x0 x1 : Statement (.seedDelivery x0 x1) :=
  ⟨rfl, fun _ => ⟨rfl, rfl, fun _ => rfl⟩⟩
theorem seedModeWrite x0 x1 x2 : Statement (.seedModeWrite x0 x1 x2) :=
  ⟨rfl, fun _ => ⟨rfl, rfl, fun _ => rfl⟩⟩
theorem blockArrival x0 x1 x2 x3 : Statement (.blockArrival x0 x1 x2 x3) :=
  ⟨rfl, fun _ => ⟨rfl, rfl, fun _ => rfl⟩⟩
theorem blockArrivalTimeout x0 x1 x2 : Statement (.blockArrivalTimeout x0 x1 x2) :=
  ⟨rfl, fun _ => ⟨rfl, rfl, fun _ => rfl⟩⟩
theorem repairWaitExpiry x0 x1 : Statement (.repairWaitExpiry x0 x1) :=
  ⟨rfl, fun _ => ⟨rfl, rfl, fun _ => rfl⟩⟩
theorem outboundBlockSend x0 x1 x2 x3 : Statement (.outboundBlockSend x0 x1 x2 x3) :=
  ⟨rfl, fun _ => ⟨rfl, rfl, fun _ => rfl⟩⟩
theorem sramParityError x0 x1 x2 : Statement (.sramParityError x0 x1 x2) :=
  ⟨rfl, fun _ => ⟨rfl, rfl, fun _ => rfl⟩⟩
theorem dramRead x0 x1 x2 x3 x4 x5 : Statement (.dramRead x0 x1 x2 x3 x4 x5) :=
  ⟨rfl, fun _ => ⟨rfl, rfl, fun _ => rfl⟩⟩
theorem dramWrite x0 x1 x2 x3 x4 : Statement (.dramWrite x0 x1 x2 x3 x4) :=
  ⟨rfl, fun _ => ⟨rfl, rfl, fun _ => rfl⟩⟩
theorem seamBlockCheck x0 x1 x2 x3 x4 : Statement (.seamBlockCheck x0 x1 x2 x3 x4) :=
  ⟨rfl, fun _ => ⟨rfl, rfl, fun _ => rfl⟩⟩
theorem hostPartialWrite x0 x1 x2 x3 x4 : Statement (.hostPartialWrite x0 x1 x2 x3 x4) :=
  ⟨rfl, fun _ => ⟨rfl, rfl, fun _ => rfl⟩⟩
theorem hostIngress x0 x1 x2 x3 x4 : Statement (.hostIngress x0 x1 x2 x3 x4) :=
  ⟨rfl, fun _ => ⟨rfl, rfl, fun _ => rfl⟩⟩
theorem lostStackRequest x0 x1 x2 x3 x4 : Statement (.lostStackRequest x0 x1 x2 x3 x4) :=
  ⟨rfl, fun _ => ⟨rfl, rfl, fun _ => rfl⟩⟩
theorem streamerCheckingWrite x0 x1 x2 : Statement (.streamerCheckingWrite x0 x1 x2) :=
  ⟨rfl, fun _ => ⟨rfl, rfl, fun _ => rfl⟩⟩
theorem idleNoticeOneShot x0 x1 x2 : Statement (.idleNoticeOneShot x0 x1 x2) :=
  ⟨rfl, fun _ => ⟨rfl, rfl, fun _ => rfl⟩⟩
theorem idleNoticePeriodic x0 x1 x2 : Statement (.idleNoticePeriodic x0 x1 x2) :=
  ⟨rfl, fun _ => ⟨rfl, rfl, fun _ => rfl⟩⟩
theorem idleNoticeRevoke x0 x1 x2 x3 : Statement (.idleNoticeRevoke x0 x1 x2 x3) :=
  ⟨rfl, fun _ => ⟨rfl, rfl, fun _ => rfl⟩⟩
theorem idleNoticeRevokeAll x0 x1 x2 : Statement (.idleNoticeRevokeAll x0 x1 x2) :=
  ⟨rfl, fun _ => ⟨rfl, rfl, fun _ => rfl⟩⟩
theorem idleSlotStart x0 x1 x2 : Statement (.idleSlotStart x0 x1 x2) :=
  ⟨rfl, fun _ => ⟨rfl, rfl, fun _ => rfl⟩⟩
theorem idleSlotEnd x0 x1 x2 : Statement (.idleSlotEnd x0 x1 x2) :=
  ⟨rfl, fun _ => ⟨rfl, rfl, fun _ => rfl⟩⟩
theorem testTileStart x0 x1 : Statement (.testTileStart x0 x1) :=
  ⟨rfl, fun _ => ⟨rfl, rfl, fun _ => rfl⟩⟩
theorem testTileEnd x0 x1 x2 x3 x4 x5 : Statement (.testTileEnd x0 x1 x2 x3 x4 x5) :=
  ⟨rfl, fun _ => ⟨rfl, rfl, fun _ => rfl⟩⟩
theorem testThirdRunEnd x0 x1 x2 : Statement (.testThirdRunEnd x0 x1 x2) :=
  ⟨rfl, fun _ => ⟨rfl, rfl, fun _ => rfl⟩⟩
theorem forcedCheckerSlot x0 x1 : Statement (.forcedCheckerSlot x0 x1) :=
  ⟨rfl, fun _ => ⟨rfl, rfl, fun _ => rfl⟩⟩
theorem testOverdue x0 x1 : Statement (.testOverdue x0 x1) :=
  ⟨rfl, fun _ => ⟨rfl, rfl, fun _ => rfl⟩⟩
theorem fmaxChangeRequest x0 x1 : Statement (.fmaxChangeRequest x0 x1) :=
  ⟨rfl, fun _ => ⟨rfl, rfl, fun _ => rfl⟩⟩
theorem fmaxRecordWrite x0 x1 x2 : Statement (.fmaxRecordWrite x0 x1 x2) :=
  ⟨rfl, fun _ => ⟨rfl, rfl, fun _ => rfl⟩⟩
theorem shortBucketRoll x0 : Statement (.shortBucketRoll x0) :=
  ⟨rfl, fun _ => ⟨rfl, rfl, fun _ => rfl⟩⟩
theorem serviceDayRoll x0 x1 : Statement (.serviceDayRoll x0 x1) :=
  ⟨rfl, fun _ => ⟨rfl, rfl, fun _ => rfl⟩⟩
theorem serviceSecondsSave x0 x1 : Statement (.serviceSecondsSave x0 x1) :=
  ⟨rfl, fun _ => ⟨rfl, rfl, fun _ => rfl⟩⟩
theorem watchRelease x0 x1 : Statement (.watchRelease x0 x1) :=
  ⟨rfl, fun _ => ⟨rfl, rfl, fun _ => rfl⟩⟩
theorem quarantineHoldEnd x0 x1 : Statement (.quarantineHoldEnd x0 x1) :=
  ⟨rfl, fun _ => ⟨rfl, rfl, fun _ => rfl⟩⟩
theorem screenComplete x0 x1 x2 : Statement (.screenComplete x0 x1 x2) :=
  ⟨rfl, fun _ => ⟨rfl, rfl, fun _ => rfl⟩⟩
theorem pseudoChannelCopyEnd x0 x1 : Statement (.pseudoChannelCopyEnd x0 x1) :=
  ⟨rfl, fun _ => ⟨rfl, rfl, fun _ => rfl⟩⟩
theorem forcedRetire x0 x1 : Statement (.forcedRetire x0 x1) :=
  ⟨rfl, fun _ => ⟨rfl, rfl, fun _ => rfl⟩⟩
theorem forcedReadmit x0 x1 : Statement (.forcedReadmit x0 x1) :=
  ⟨rfl, fun _ => ⟨rfl, rfl, fun _ => rfl⟩⟩
theorem forcedReadmitClear x0 x1 : Statement (.forcedReadmitClear x0 x1) :=
  ⟨rfl, fun _ => ⟨rfl, rfl, fun _ => rfl⟩⟩
theorem unitExchange x0 x1 x2 : Statement (.unitExchange x0 x1 x2) :=
  ⟨rfl, fun _ => ⟨rfl, rfl, fun _ => rfl⟩⟩
theorem withholdRepeat x0 x1 : Statement (.withholdRepeat x0 x1) :=
  ⟨rfl, fun _ => ⟨rfl, rfl, fun _ => rfl⟩⟩
theorem routerProbeTimeout x0 x1 : Statement (.routerProbeTimeout x0 x1) :=
  ⟨rfl, fun _ => ⟨rfl, rfl, fun _ => rfl⟩⟩
theorem commandAccept x0 x1 x2 : Statement (.commandAccept x0 x1 x2) :=
  ⟨rfl, fun _ => ⟨rfl, rfl, fun _ => rfl⟩⟩
theorem commandComplete x0 x1 x2 : Statement (.commandComplete x0 x1 x2) :=
  ⟨rfl, fun _ => ⟨rfl, rfl, fun _ => rfl⟩⟩
theorem progressWindowExpiry x0 x1 : Statement (.progressWindowExpiry x0 x1) :=
  ⟨rfl, fun _ => ⟨rfl, rfl, fun _ => rfl⟩⟩
theorem commandTimeout x0 x1 x2 x3 : Statement (.commandTimeout x0 x1 x2 x3) :=
  ⟨rfl, fun _ => ⟨rfl, rfl, fun _ => rfl⟩⟩
theorem hangReportRepeat x0 x1 : Statement (.hangReportRepeat x0 x1) :=
  ⟨rfl, fun _ => ⟨rfl, rfl, fun _ => rfl⟩⟩
theorem hangHandling x0 x1 : Statement (.hangHandling x0 x1) :=
  ⟨rfl, fun _ => ⟨rfl, rfl, fun _ => rfl⟩⟩
theorem captureComplete x0 x1 : Statement (.captureComplete x0 x1) :=
  ⟨rfl, fun _ => ⟨rfl, rfl, fun _ => rfl⟩⟩
theorem resetComplete x0 x1 x2 : Statement (.resetComplete x0 x1 x2) :=
  ⟨rfl, fun _ => ⟨rfl, rfl, fun _ => rfl⟩⟩
theorem resetTimeout x0 x1 x2 : Statement (.resetTimeout x0 x1 x2) :=
  ⟨rfl, fun _ => ⟨rfl, rfl, fun _ => rfl⟩⟩
theorem transitDrainEnd x0 x1 : Statement (.transitDrainEnd x0 x1) :=
  ⟨rfl, fun _ => ⟨rfl, rfl, fun _ => rfl⟩⟩
theorem resetRequest x0 x1 x2 : Statement (.resetRequest x0 x1 x2) :=
  ⟨rfl, fun _ => ⟨rfl, rfl, fun _ => rfl⟩⟩
theorem bridleProbe x0 x1 : Statement (.bridleProbe x0 x1) :=
  ⟨rfl, fun _ => ⟨rfl, rfl, fun _ => rfl⟩⟩
theorem bridleProbeTimeout x0 x1 : Statement (.bridleProbeTimeout x0 x1) :=
  ⟨rfl, fun _ => ⟨rfl, rfl, fun _ => rfl⟩⟩
theorem fieldAgentHeartbeatTimeout x0 x1 : Statement (.fieldAgentHeartbeatTimeout x0 x1) :=
  ⟨rfl, fun _ => ⟨rfl, rfl, fun _ => rfl⟩⟩
theorem orderlyRipcordRequest x0 x1 x2 : Statement (.orderlyRipcordRequest x0 x1 x2) :=
  ⟨rfl, fun _ => ⟨rfl, rfl, fun _ => rfl⟩⟩
theorem stopCountCut x0 x1 : Statement (.stopCountCut x0 x1) :=
  ⟨rfl, fun _ => ⟨rfl, rfl, fun _ => rfl⟩⟩
theorem requestedFrequencyWrite x0 x1 x2 : Statement (.requestedFrequencyWrite x0 x1 x2) :=
  ⟨rfl, fun _ => ⟨rfl, rfl, fun _ => rfl⟩⟩
theorem operatorStepCapWrite x0 x1 x2 : Statement (.operatorStepCapWrite x0 x1 x2) :=
  ⟨rfl, fun _ => ⟨rfl, rfl, fun _ => rfl⟩⟩
theorem regulatorSettled x0 x1 : Statement (.regulatorSettled x0 x1) :=
  ⟨rfl, fun _ => ⟨rfl, rfl, fun _ => rfl⟩⟩
theorem settleTimeout x0 x1 : Statement (.settleTimeout x0 x1) :=
  ⟨rfl, fun _ => ⟨rfl, rfl, fun _ => rfl⟩⟩
theorem powerSumTick x0 : Statement (.powerSumTick x0) :=
  ⟨rfl, fun _ => ⟨rfl, rfl, fun _ => rfl⟩⟩
theorem droopTrip x0 x1 : Statement (.droopTrip x0 x1) :=
  ⟨rfl, fun _ => ⟨rfl, rfl, fun _ => rfl⟩⟩
theorem stretchEnd x0 x1 : Statement (.stretchEnd x0 x1) :=
  ⟨rfl, fun _ => ⟨rfl, rfl, fun _ => rfl⟩⟩
theorem stretchDutyWindow x0 x1 : Statement (.stretchDutyWindow x0 x1) :=
  ⟨rfl, fun _ => ⟨rfl, rfl, fun _ => rfl⟩⟩
theorem droopCodeRelease x0 x1 : Statement (.droopCodeRelease x0 x1) :=
  ⟨rfl, fun _ => ⟨rfl, rfl, fun _ => rfl⟩⟩
theorem loadNotice x0 x1 x2 : Statement (.loadNotice x0 x1 x2) :=
  ⟨rfl, fun _ => ⟨rfl, rfl, fun _ => rfl⟩⟩
theorem lnLoadNotice x0 x1 x2 : Statement (.lnLoadNotice x0 x1 x2) :=
  ⟨rfl, fun _ => ⟨rfl, rfl, fun _ => rfl⟩⟩
theorem lnReservoirArm x0 x1 x2 : Statement (.lnReservoirArm x0 x1 x2) :=
  ⟨rfl, fun _ => ⟨rfl, rfl, fun _ => rfl⟩⟩
theorem lnReservoirDisarm x0 x1 x2 : Statement (.lnReservoirDisarm x0 x1 x2) :=
  ⟨rfl, fun _ => ⟨rfl, rfl, fun _ => rfl⟩⟩
theorem loadStep x0 x1 x2 x3 : Statement (.loadStep x0 x1 x2 x3) :=
  ⟨rfl, fun _ => ⟨rfl, rfl, fun _ => rfl⟩⟩
theorem reservoirDischarge x0 x1 x2 : Statement (.reservoirDischarge x0 x1 x2) :=
  ⟨rfl, fun _ => ⟨rfl, rfl, fun _ => rfl⟩⟩
theorem reservoirRechargeEnd x0 x1 : Statement (.reservoirRechargeEnd x0 x1) :=
  ⟨rfl, fun _ => ⟨rfl, rfl, fun _ => rfl⟩⟩
theorem reservoirArmingWrite x0 x1 x2 : Statement (.reservoirArmingWrite x0 x1 x2) :=
  ⟨rfl, fun _ => ⟨rfl, rfl, fun _ => rfl⟩⟩
theorem phaseFailure x0 x1 x2 : Statement (.phaseFailure x0 x1 x2) :=
  ⟨rfl, fun _ => ⟨rfl, rfl, fun _ => rfl⟩⟩
theorem lnAlert x0 x1 x2 : Statement (.lnAlert x0 x1 x2) :=
  ⟨rfl, fun _ => ⟨rfl, rfl, fun _ => rfl⟩⟩
theorem undervoltageTimeout x0 x1 : Statement (.undervoltageTimeout x0 x1) :=
  ⟨rfl, fun _ => ⟨rfl, rfl, fun _ => rfl⟩⟩
theorem releaseGroup x0 x1 x2 : Statement (.releaseGroup x0 x1 x2) :=
  ⟨rfl, fun _ => ⟨rfl, rfl, fun _ => rfl⟩⟩
theorem rampHeadroomTimeout x0 x1 : Statement (.rampHeadroomTimeout x0 x1) :=
  ⟨rfl, fun _ => ⟨rfl, rfl, fun _ => rfl⟩⟩
theorem idleHoldExpiry x0 x1 : Statement (.idleHoldExpiry x0 x1) :=
  ⟨rfl, fun _ => ⟨rfl, rfl, fun _ => rfl⟩⟩
theorem diodeReading x0 x1 x2 x3 : Statement (.diodeReading x0 x1 x2 x3) :=
  ⟨rfl, fun _ => ⟨rfl, rfl, fun _ => rfl⟩⟩
theorem sensorFaultTimeout x0 x1 : Statement (.sensorFaultTimeout x0 x1) :=
  ⟨rfl, fun _ => ⟨rfl, rfl, fun _ => rfl⟩⟩
theorem thermalCapRise x0 x1 : Statement (.thermalCapRise x0 x1) :=
  ⟨rfl, fun _ => ⟨rfl, rfl, fun _ => rfl⟩⟩
theorem trayInputChange x0 x1 x2 x3 : Statement (.trayInputChange x0 x1 x2 x3) :=
  ⟨rfl, fun _ => ⟨rfl, rfl, fun _ => rfl⟩⟩
theorem trayInputAccept x0 x1 x2 : Statement (.trayInputAccept x0 x1 x2) :=
  ⟨rfl, fun _ => ⟨rfl, rfl, fun _ => rfl⟩⟩
theorem chatterEnd x0 x1 x2 : Statement (.chatterEnd x0 x1 x2) :=
  ⟨rfl, fun _ => ⟨rfl, rfl, fun _ => rfl⟩⟩
theorem trayLatchClear x0 x1 x2 x3 : Statement (.trayLatchClear x0 x1 x2 x3) :=
  ⟨rfl, fun _ => ⟨rfl, rfl, fun _ => rfl⟩⟩
theorem inputMismatchTimeout x0 x1 x2 : Statement (.inputMismatchTimeout x0 x1 x2) :=
  ⟨rfl, fun _ => ⟨rfl, rfl, fun _ => rfl⟩⟩
theorem vinPoll x0 x1 x2 : Statement (.vinPoll x0 x1 x2) :=
  ⟨rfl, fun _ => ⟨rfl, rfl, fun _ => rfl⟩⟩
theorem supplyStateRelease x0 x1 : Statement (.supplyStateRelease x0 x1) :=
  ⟨rfl, fun _ => ⟨rfl, rfl, fun _ => rfl⟩⟩
theorem writeSuspendRelease x0 x1 : Statement (.writeSuspendRelease x0 x1) :=
  ⟨rfl, fun _ => ⟨rfl, rfl, fun _ => rfl⟩⟩
theorem aonSupplyFall x0 x1 : Statement (.aonSupplyFall x0 x1) :=
  ⟨rfl, fun _ => ⟨rfl, rfl, fun _ => rfl⟩⟩
theorem vfastFall x0 x1 : Statement (.vfastFall x0 x1) :=
  ⟨rfl, fun _ => ⟨rfl, rfl, fun _ => rfl⟩⟩
theorem fastDomainResetRelease x0 x1 : Statement (.fastDomainResetRelease x0 x1) :=
  ⟨rfl, fun _ => ⟨rfl, rfl, fun _ => rfl⟩⟩
theorem energyIntegration x0 x1 x2 x3 x4 x5 x6 : Statement (.energyIntegration x0 x1 x2 x3 x4 x5 x6) :=
  ⟨rfl, fun _ => ⟨rfl, rfl, fun _ => rfl⟩⟩
theorem stageRun x0 x1 x2 x3 : Statement (.stageRun x0 x1 x2 x3) :=
  ⟨rfl, fun _ => ⟨rfl, rfl, fun _ => rfl⟩⟩
theorem stageComplete x0 x1 x2 x3 : Statement (.stageComplete x0 x1 x2 x3) :=
  ⟨rfl, fun _ => ⟨rfl, rfl, fun _ => rfl⟩⟩
theorem stageAdvance x0 : Statement (.stageAdvance x0) :=
  ⟨rfl, fun _ => ⟨rfl, rfl, fun _ => rfl⟩⟩
theorem anchorReadyTimeout x0 : Statement (.anchorReadyTimeout x0) :=
  ⟨rfl, fun _ => ⟨rfl, rfl, fun _ => rfl⟩⟩
theorem fieldAgentRegistration x0 x1 : Statement (.fieldAgentRegistration x0 x1) :=
  ⟨rfl, fun _ => ⟨rfl, rfl, fun _ => rfl⟩⟩
theorem bridleRegistration x0 x1 x2 x3 : Statement (.bridleRegistration x0 x1 x2 x3) :=
  ⟨rfl, fun _ => ⟨rfl, rfl, fun _ => rfl⟩⟩
theorem bridleMissingDeadline x0 x1 : Statement (.bridleMissingDeadline x0 x1) :=
  ⟨rfl, fun _ => ⟨rfl, rfl, fun _ => rfl⟩⟩
theorem imageWrite x0 x1 x2 x3 : Statement (.imageWrite x0 x1 x2 x3) :=
  ⟨rfl, fun _ => ⟨rfl, rfl, fun _ => rfl⟩⟩
theorem commitTrialImage x0 x1 x2 : Statement (.commitTrialImage x0 x1 x2) :=
  ⟨rfl, fun _ => ⟨rfl, rfl, fun _ => rfl⟩⟩
theorem trialCommitTimeout x0 : Statement (.trialCommitTimeout x0) :=
  ⟨rfl, fun _ => ⟨rfl, rfl, fun _ => rfl⟩⟩
theorem selfTestStart x0 x1 : Statement (.selfTestStart x0 x1) :=
  ⟨rfl, fun _ => ⟨rfl, rfl, fun _ => rfl⟩⟩
theorem testSliceEnd x0 x1 x2 x3 x4 x5 : Statement (.testSliceEnd x0 x1 x2 x3 x4 x5) :=
  ⟨rfl, fun _ => ⟨rfl, rfl, fun _ => rfl⟩⟩
theorem testSliceBudgetExpiry x0 x1 x2 : Statement (.testSliceBudgetExpiry x0 x1 x2) :=
  ⟨rfl, fun _ => ⟨rfl, rfl, fun _ => rfl⟩⟩
theorem reelRecordWrite x0 x1 : Statement (.reelRecordWrite x0 x1) :=
  ⟨rfl, fun _ => ⟨rfl, rfl, fun _ => rfl⟩⟩
theorem reelEraseComplete x0 x1 : Statement (.reelEraseComplete x0 x1) :=
  ⟨rfl, fun _ => ⟨rfl, rfl, fun _ => rfl⟩⟩
theorem storeOperationFailure x0 x1 x2 x3 : Statement (.storeOperationFailure x0 x1 x2 x3) :=
  ⟨rfl, fun _ => ⟨rfl, rfl, fun _ => rfl⟩⟩
theorem storeSilentTimeout x0 x1 x2 : Statement (.storeSilentTimeout x0 x1 x2) :=
  ⟨rfl, fun _ => ⟨rfl, rfl, fun _ => rfl⟩⟩
theorem reelClear x0 x1 x2 : Statement (.reelClear x0 x1 x2) :=
  ⟨rfl, fun _ => ⟨rfl, rfl, fun _ => rfl⟩⟩
theorem nextReadableRecord x0 x1 : Statement (.nextReadableRecord x0 x1) :=
  ⟨rfl, fun _ => ⟨rfl, rfl, fun _ => rfl⟩⟩
theorem returnStateSet x0 x1 : Statement (.returnStateSet x0 x1) :=
  ⟨rfl, fun _ => ⟨rfl, rfl, fun _ => rfl⟩⟩
theorem returnStateClear x0 x1 : Statement (.returnStateClear x0 x1) :=
  ⟨rfl, fun _ => ⟨rfl, rfl, fun _ => rfl⟩⟩
theorem counterRead x0 x1 : Statement (.counterRead x0 x1) :=
  ⟨rfl, fun _ => ⟨rfl, rfl, fun _ => rfl⟩⟩
theorem snapshotRequest x0 x1 x2 : Statement (.snapshotRequest x0 x1 x2) :=
  ⟨rfl, fun _ => ⟨rfl, rfl, fun _ => rfl⟩⟩
theorem snapshotLatch x0 : Statement (.snapshotLatch x0) :=
  ⟨rfl, fun _ => ⟨rfl, rfl, fun _ => rfl⟩⟩
theorem snapshotGatherComplete x0 : Statement (.snapshotGatherComplete x0) :=
  ⟨rfl, fun _ => ⟨rfl, rfl, fun _ => rfl⟩⟩
theorem traceArmByLcn x0 x1 x2 : Statement (.traceArmByLcn x0 x1 x2) :=
  ⟨rfl, fun _ => ⟨rfl, rfl, fun _ => rfl⟩⟩
theorem traceArmByPua x0 x1 x2 : Statement (.traceArmByPua x0 x1 x2) :=
  ⟨rfl, fun _ => ⟨rfl, rfl, fun _ => rfl⟩⟩
theorem slotStart x0 x1 : Statement (.slotStart x0 x1) :=
  ⟨rfl, fun _ => ⟨rfl, rfl, fun _ => rfl⟩⟩
theorem slotStop x0 x1 : Statement (.slotStop x0 x1) :=
  ⟨rfl, fun _ => ⟨rfl, rfl, fun _ => rfl⟩⟩
theorem slotFree x0 x1 : Statement (.slotFree x0 x1) :=
  ⟨rfl, fun _ => ⟨rfl, rfl, fun _ => rfl⟩⟩
theorem slotSwitch x0 x1 x2 : Statement (.slotSwitch x0 x1 x2) :=
  ⟨rfl, fun _ => ⟨rfl, rfl, fun _ => rfl⟩⟩
theorem tracePacket x0 x1 x2 x3 : Statement (.tracePacket x0 x1 x2 x3) :=
  ⟨rfl, fun _ => ⟨rfl, rfl, fun _ => rfl⟩⟩
theorem traceFlushTimeout x0 x1 x2 : Statement (.traceFlushTimeout x0 x1 x2) :=
  ⟨rfl, fun _ => ⟨rfl, rfl, fun _ => rfl⟩⟩
theorem chunkDrain x0 x1 x2 : Statement (.chunkDrain x0 x1 x2) :=
  ⟨rfl, fun _ => ⟨rfl, rfl, fun _ => rfl⟩⟩
theorem chunkIdleTimeout x0 x1 x2 : Statement (.chunkIdleTimeout x0 x1 x2) :=
  ⟨rfl, fun _ => ⟨rfl, rfl, fun _ => rfl⟩⟩
theorem nextReadableChunk x0 x1 : Statement (.nextReadableChunk x0 x1) :=
  ⟨rfl, fun _ => ⟨rfl, rfl, fun _ => rfl⟩⟩
theorem nmtStart x0 x1 x2 x3 : Statement (.nmtStart x0 x1 x2 x3) :=
  ⟨rfl, fun _ => ⟨rfl, rfl, fun _ => rfl⟩⟩
theorem nmtStop x0 x1 x2 x3 : Statement (.nmtStop x0 x1 x2 x3) :=
  ⟨rfl, fun _ => ⟨rfl, rfl, fun _ => rfl⟩⟩
theorem nmtEnterPreOperational x0 x1 x2 x3 : Statement (.nmtEnterPreOperational x0 x1 x2 x3) :=
  ⟨rfl, fun _ => ⟨rfl, rfl, fun _ => rfl⟩⟩
theorem nmtResetApplication x0 x1 x2 x3 : Statement (.nmtResetApplication x0 x1 x2 x3) :=
  ⟨rfl, fun _ => ⟨rfl, rfl, fun _ => rfl⟩⟩
theorem nmtResetCommunication x0 x1 x2 x3 : Statement (.nmtResetCommunication x0 x1 x2 x3) :=
  ⟨rfl, fun _ => ⟨rfl, rfl, fun _ => rfl⟩⟩
theorem heartbeatSend x0 x1 x2 : Statement (.heartbeatSend x0 x1 x2) :=
  ⟨rfl, fun _ => ⟨rfl, rfl, fun _ => rfl⟩⟩
theorem tpdoSend x0 x1 x2 x3 : Statement (.tpdoSend x0 x1 x2 x3) :=
  ⟨rfl, fun _ => ⟨rfl, rfl, fun _ => rfl⟩⟩
theorem emcyInhibitEnd x0 x1 x2 : Statement (.emcyInhibitEnd x0 x1 x2) :=
  ⟨rfl, fun _ => ⟨rfl, rfl, fun _ => rfl⟩⟩
theorem errorFieldClear x0 x1 x2 : Statement (.errorFieldClear x0 x1 x2) :=
  ⟨rfl, fun _ => ⟨rfl, rfl, fun _ => rfl⟩⟩
theorem canBusError x0 x1 x2 x3 : Statement (.canBusError x0 x1 x2 x3) :=
  ⟨rfl, fun _ => ⟨rfl, rfl, fun _ => rfl⟩⟩
theorem busOffRecovery x0 x1 x2 x3 : Statement (.busOffRecovery x0 x1 x2 x3) :=
  ⟨rfl, fun _ => ⟨rfl, rfl, fun _ => rfl⟩⟩
theorem mailboxBind x0 x1 x2 : Statement (.mailboxBind x0 x1 x2) :=
  ⟨rfl, fun _ => ⟨rfl, rfl, fun _ => rfl⟩⟩
theorem mailboxUnbind x0 x1 : Statement (.mailboxUnbind x0 x1) :=
  ⟨rfl, fun _ => ⟨rfl, rfl, fun _ => rfl⟩⟩
theorem nonceRead x0 x1 : Statement (.nonceRead x0 x1) :=
  ⟨rfl, fun _ => ⟨rfl, rfl, fun _ => rfl⟩⟩
theorem responseWrite x0 x1 x2 : Statement (.responseWrite x0 x1 x2) :=
  ⟨rfl, fun _ => ⟨rfl, rfl, fun _ => rfl⟩⟩
theorem endSession x0 x1 x2 : Statement (.endSession x0 x1 x2) :=
  ⟨rfl, fun _ => ⟨rfl, rfl, fun _ => rfl⟩⟩
theorem leaseExpiry x0 x1 : Statement (.leaseExpiry x0 x1) :=
  ⟨rfl, fun _ => ⟨rfl, rfl, fun _ => rfl⟩⟩
theorem nonceExpiry x0 x1 : Statement (.nonceExpiry x0 x1) :=
  ⟨rfl, fun _ => ⟨rfl, rfl, fun _ => rfl⟩⟩
theorem grantExpiry x0 x1 : Statement (.grantExpiry x0 x1) :=
  ⟨rfl, fun _ => ⟨rfl, rfl, fun _ => rfl⟩⟩
theorem backoffEnd x0 x1 : Statement (.backoffEnd x0 x1) :=
  ⟨rfl, fun _ => ⟨rfl, rfl, fun _ => rfl⟩⟩
theorem keyWrite x0 x1 x2 x3 : Statement (.keyWrite x0 x1 x2 x3) :=
  ⟨rfl, fun _ => ⟨rfl, rfl, fun _ => rfl⟩⟩
theorem rawStoreWrite x0 x1 x2 : Statement (.rawStoreWrite x0 x1 x2) :=
  ⟨rfl, fun _ => ⟨rfl, rfl, fun _ => rfl⟩⟩
theorem tapBypass x0 x1 : Statement (.tapBypass x0 x1) :=
  ⟨rfl, fun _ => ⟨rfl, rfl, fun _ => rfl⟩⟩
theorem tapIdcode x0 x1 : Statement (.tapIdcode x0 x1) :=
  ⟨rfl, fun _ => ⟨rfl, rfl, fun _ => rfl⟩⟩
theorem tapSamplePreload x0 x1 : Statement (.tapSamplePreload x0 x1) :=
  ⟨rfl, fun _ => ⟨rfl, rfl, fun _ => rfl⟩⟩
theorem tapExtest x0 x1 : Statement (.tapExtest x0 x1) :=
  ⟨rfl, fun _ => ⟨rfl, rfl, fun _ => rfl⟩⟩
theorem tapAcExtest x0 x1 : Statement (.tapAcExtest x0 x1) :=
  ⟨rfl, fun _ => ⟨rfl, rfl, fun _ => rfl⟩⟩
theorem tapIntest x0 x1 : Statement (.tapIntest x0 x1) :=
  ⟨rfl, fun _ => ⟨rfl, rfl, fun _ => rfl⟩⟩
theorem tapPrivate x0 x1 x2 : Statement (.tapPrivate x0 x1 x2) :=
  ⟨rfl, fun _ => ⟨rfl, rfl, fun _ => rfl⟩⟩
theorem ineligibleComputeTileEnd x0 x1 : Statement (.ineligibleComputeTileEnd x0 x1) :=
  ⟨rfl, fun _ => ⟨rfl, rfl, fun _ => rfl⟩⟩
theorem syncObjectSignal x0 x1 x2 : Statement (.syncObjectSignal x0 x1 x2) :=
  ⟨rfl, fun _ => ⟨rfl, rfl, fun _ => rfl⟩⟩
theorem stageLimitExpiry x0 x1 x2 : Statement (.stageLimitExpiry x0 x1 x2) :=
  ⟨rfl, fun _ => ⟨rfl, rfl, fun _ => rfl⟩⟩
theorem alwaysOnSupplyRise x0 x1 : Statement (.alwaysOnSupplyRise x0 x1) :=
  ⟨rfl, fun _ => ⟨rfl, rfl, fun _ => rfl⟩⟩
theorem errorActiveReturn x0 x1 x2 : Statement (.errorActiveReturn x0 x1 x2) :=
  ⟨rfl, fun _ => ⟨rfl, rfl, fun _ => rfl⟩⟩

end Sys2Proof.Laws.TimeOperand
end

