-- ==== Sys2Proof/Tests/Slice0.lean ====
section
/-!
SUPPORT. Tests on small states, and for every statement of the certificates a state and operands that meet its
hypotheses.
-/
namespace Sys2Proof.Tests
set_option maxRecDepth 20000
set_option exponentiation.threshold 1000
open Sys2Proof Sys2Proof.Machine

/-- A running slice of one cluster at the origin. -/
def demoSlice : Slice where
  life := .running
  role := 1
  origin := (0, 0, 0)
  extent := (1, 1, 1)
  memory := []
  created := 0
  issued := true
  mode := .standard
  codes := (0, 1)
  switches := []
  pending := none
  short := []
  ineligibleAt := none
  boundState := 0
  boundSince := 0
  seed := 0
  lastSeed := 0
  nextSeed := none
  epochStart := 0
  epochPeriod := 0
  notices := []
  freq := 1100
  mixed := false
  want := none
  powerCodes := 0
  droopCodes := 0
  teardown := none
  zeroFill := []
  recent := []
  coreMicro := 0
  dramMicro := 0
  carried := []
  consumed := false
  abandon := false
  hangs := []
  objs := []
/-- A state whose keepers run, so that PT is the time since the start. -/
def running : State :=
  { State.reset with
    reference := true, keepers := (List.range 28).map fun k => (k, { Keeper.reset with running := true }) }
/-- A state with one slice. -/
def withSlice (k : Nat) (x : Slice) : State := { running with slices := [(k, x)] }
/-- An event that only records. -/
def demoEvent : Event := recordEvent State.reset 0x3806 (diePua 1) 0 [1, 2]
/-- A record on its way. -/
def demoEntry : ReelEntry := ⟨demoEvent, 77, 1, false⟩
/-- A state in which die 1 has this Reel. -/
def withReel (r : Reel) : State := modReel 1 (fun _ => r) running

/-! Well-formedness: for each check a command that it refuses, and one that all accept. -/

/-- A request that fits. -/
def fitReq : MailReq := ⟨1, 0x2400, 0, 1, 7, 0, [], 0⟩
/-- A slice request that fits. -/
def fitRequest : SliceRequest := ⟨1, 1, (0, 0, 0), (1, 1, 1), false, []⟩
/-- A tile that fits. -/
def fitTile : Tile := ⟨.contraction, 0, 0, 0, false, 0, none, 3, [⟨0, some 11, 0⟩], [⟨0, some 0, 15⟩]⟩
/-- Taps that fit: 1 × 16 by 16 × 1. -/
def fitTaps : Taps := ⟨3, 3, 1, 1, 16, List.replicate 16 0, none, List.replicate 16 0, none, [0], [0], [0]⟩
/-- A transfer that fits. -/
def fitTransfer : Transfer := ⟨1, 0, 1, 0, 1, 0, 3, none, false⟩
/-- An idle notice that fits. -/
def fitIdle : IdleNotice := ⟨1, 0, 9, 0, 50000, 0, 0, 0⟩
/-- A load notice that fits. -/
def fitLoad : LoadNotice := ⟨1, 1, 1, 25, 100⟩

theorem test_wellFormed_accepts :
    wellFormed (.objectWrite 5 (.port 3 true) 0x2400 0 [1]) = true ∧ wellFormed (.mailboxRead 5 1023 fitReq) = true ∧
    wellFormed (.sliceCreate 5 fitRequest) = true ∧ wellFormed (.tileIssue 5 307199 fitTile) = true ∧
    wellFormed (.contractionTileEnd 5 0 fitTaps ⟨0, [], []⟩) = true ∧
    wellFormed (.dramWrite 5 ⟨63, 31, 0⟩ fitTransfer 0 []) = false ∧
    wellFormed (.idleNoticeOneShot 5 (.mailbox 0) fitIdle) = true ∧ wellFormed (.loadNotice 5 0 fitLoad) = true ∧
    wellFormed (.testTileStart 5 ⟨4, 0, 0, none⟩) = true ∧ wellFormed (.trayInputChange 5 3 2 true) = true := by decide
theorem test_wellFormed_refuses_operands :
    wellFormed (.objectWrite 5 (.port 4 true) 0x2400 0 [1]) = false ∧ wellFormed (.sdoTimeout 5 (.mailbox 1024)) = false ∧
    wellFormed (.objectWrite 5 (.port 3 true) 65536 0 [1]) = false ∧ wellFormed (.objectWrite 5 (.port 3 true) 0 256 []) = false ∧
    wellFormed (.modeFloorWrite 5 (.port 0 false) (zeros 9)) = false ∧ wellFormed (.mailboxRead 5 1024 fitReq) = false ∧
    wellFormed (.arbiterForward 5 4) = false ∧ wellFormed (.droopTrip 5 24) = false ∧ wellFormed (.epochStart 5 4096) = false ∧
    wellFormed (.replayGroupEnd 5 307200 0) = false ∧ wellFormed (.correctionMissed 5 28) = false ∧
    wellFormed (.trayInputAccept 5 0 3) = false ∧ wellFormed (.phaseFailure 5 0 24) = false ∧
    wellFormed (.stageLimitExpiry 5 0 9) = false ∧ wellFormed (.testSliceBudgetExpiry 5 0 10) = false ∧
    wellFormed (.slotSwitch 5 0 256) = false ∧ wellFormed (.nmtStart 5 0 false 128) = false ∧
    wellFormed (.tpdoSend 5 0 false 4) = false ∧ wellFormed (.resetTimeout 5 0 8) = false ∧
    wellFormed (.frequencyChangeRequest 5 1 0 256) = false ∧ wellFormed (.tapPrivate 5 0 256) = false ∧
    wellFormed (.modeSwitch 5 1 19968) = false ∧ wellFormed (.zeroFillComplete 5 1 64) = false ∧
    wellFormed (.sramParityError 5 0 12) = false ∧ wellFormed (.storeSilentTimeout 5 0 2) = false ∧
    wellFormed (.hostPartialWrite 5 ⟨0, 0, 0⟩ 1 4096 []) = false ∧ wellFormed (.hostIngress 5 ⟨0, 0, 0⟩ 1 16 []) = false ∧
    wellFormed (.lostStackRequest 5 ⟨0, 0, 0⟩ false 1 256) = false ∧ wellFormed (.blockArrival 5 fitTransfer 0 []) = false ∧
    wellFormed (.commandTimeout 5 (BitVec.ofNat 32 (clusterPua 6 0)) 0 (some 17)) = false ∧
    wellFormed (.bridleRegistration 5 (BitVec.ofNat 32 (clusterPua 7 0)) (2 ^ 17) 0) = false ∧
    wellFormed (.bridleRegistration 5 (BitVec.ofNat 32 (clusterPua 7 0)) 0 256) = false ∧
    wellFormed (.stageRun 5 0 0 ⟨[], [], [], [], 256⟩) = false := by decide
theorem test_wellFormed_refuses_units :
    wellFormed (.withholdRepeat 5 (BitVec.ofNat 32 (clusterPua 7 0))) = false ∧
    wellFormed (.bridleProbe 5 0) = false ∧ wellFormed (.routerProbeTimeout 5 0) = false ∧
    wellFormed (.fieldAgentHeartbeatTimeout 5 0) = false ∧ wellFormed (.commandComplete 5 0 0) = false := by decide
theorem test_wellFormed_refuses_requests :
    wellFormed (.mailboxWrite 5 0 { fitReq with op := 256 }) = false ∧
    wellFormed (.mailboxBulkRead 5 0 { fitReq with data := zeros 33 }) = false ∧
    wellFormed (.mailboxBulkWrite 5 0 { fitReq with tag := 2 ^ 32 } []) = false ∧
    wellFormed (.sliceCreate 5 { fitRequest with id := 0 }) = false ∧
    wellFormed (.sliceCreate 5 { fitRequest with role := 5 }) = false ∧
    wellFormed (.sliceCreate 5 { fitRequest with extent := (81, 1, 1) }) = false ∧
    wellFormed (.eventReport 5 0 ⟨0x23, 0, 0, 0, []⟩) = false ∧ wellFormed (.eventReport 5 0 ⟨1, 0, 0, 0, zeros 28⟩) = false ∧
    wellFormed (.tileIssue 5 0 { fitTile with inputs := [⟨0, some 12, 0⟩] }) = false ∧
    wellFormed (.tileIssue 5 0 { fitTile with outputs := [⟨0, none, 16⟩] }) = false ∧
    wellFormed (.contractionTileEnd 5 0 { fitTaps with k := 8 } ⟨0, [], []⟩) = false ∧
    wellFormed (.contractionTileEnd 5 0 { fitTaps with m := 129 } ⟨0, [], []⟩) = false ∧
    wellFormed (.dramRead 5 ⟨64, 0, 0⟩ (zeros 0) [] false false) = false ∧
    wellFormed (.blockArrival 5 { fitTransfer with epoch := 4 } 0 []) = false ∧
    wellFormed (.idleNoticePeriodic 5 (.mailbox 0) { fitIdle with period := 5 }) = false ∧
    wellFormed (.loadNotice 5 0 { fitLoad with amount := 30 }) = false ∧
    wellFormed (.testTileStart 5 ⟨5, 0, 0, none⟩) = false ∧ wellFormed (.tracePacket 5 0 0 ⟨16, 0, []⟩) = false := by decide

/-! No row of the table gives bits, so no word spells a command and nothing enters the queue. -/
theorem test_no_word_spells_a_command : decodeTableWord 32 0 = none ∧ decodeTableWord 0 0 = none ∧
    State.reset.withFetchWord 8 0xFF = State.reset := ⟨rfl, rfl, rfl⟩

/-! Worked values of the manual. -/

/-- The check value of R163. -/
theorem test_crc32c_check_value : crc32c [0x31, 0x32, 0x33, 0x34, 0x35, 0x36, 0x37, 0x38, 0x39] = 0xE3069283#32 := by decide
/-- R302: code 35 is written as 819 mV. -/
theorem test_voltage_code_35 : codeMillivolt 35 = 819 := by decide

/-- The tile of the worked case "one small tile" (R135): BF16, m = n = 2, k = 16, with what its drain read. -/
def smallTile (drain : List Nat) : Taps where
  fmtA := 4
  fmtB := 4
  m := 2
  n := 2
  k := 16
  a := [0x3FC0, 0xC000, 0x3E80] ++ zeros16 13 ++ [0x4040, 0x3F00, 0xBF80] ++ zeros16 13
  codes := none
  b := [0x4000, 0xBF80, 0x3F00, 0x4080, 0xC040, 0x3F80] ++ zeros16 26
  c0 := none
  drain := drain
  convCore := []
  convPort := []
where
  /-- Zero operands. -/
  zeros16 (n : Nat) : List Nat := List.replicate n 0
/-- The verdict of pair 0 with l = (1, −3), r = (−1, 1): whether the tile fails. -/
def smallVerdict (drain : List Nat) : Option (Option Bool) :=
  (floatOperands (smallTile drain)).bind fun o => (projectFloat (smallTile drain) o [1, -3] [-1, 1]).map (·.fails)
/-- The fault-free drain passes; 9.3125 at (1, 0) fails; bit 0 of it passes; +0.75 and −0.25 escape. -/
theorem test_small_tile :
    smallVerdict [0x3FA00000, 0xC1140000, 0x41140000, 0xC0000000] = some (some false) ∧
    smallVerdict [0x3FA00000, 0xC1140000, 0x41150000, 0xC0000000] = some (some true) ∧
    smallVerdict [0x3FA00000, 0xC1140000, 0x41140001, 0xC0000000] = some (some false) ∧
    smallVerdict [0x40000000, 0xC1140000, 0x41140000, 0xC0100000] = some (some false) := by decide
/-- LCN 200,000 (R7, R18, R19): die 2, field 3, logical cluster 500, home cluster 520, X = 60, Y = 32; and the PUA of
physical cluster 513, core 4, in the bay of site 493. -/
theorem test_lcn_200000 : lcnCluster 200000 = (2 * 6 + 3) * 800 + 500 ∧ homeOfSite 500 = 520 ∧
    logicalCoord (lcnCluster 200000) = (60, 32, 2) ∧ mkPua 2 3 513 4 0 0 = 0x9C024000 ∧ isBay 513 = true ∧
    siteOfCluster 513 = 493 ∧ (clusterCoord (clusterKey 15 513)) = (53, 32, 2) := by decide
/-- A request sequenced at 10,100,000 takes effect at 10,240,000 (R82). -/
theorem test_change_count : changeCountAfter 10100000 = 10240000 := by decide
/-- The frame of the worked case of R501, its CRC-8 (R316) and what a receiver reads from it. -/
theorem test_load_notice_frame : crc8 [0x74] = 0x4B#8 ∧ crc8 [0x74, 0x0D] = 0xD5#8 ∧ crc8 [0x74, 0x0D, 0xC1] = 0x6C#8 ∧
    (lnDecode 0 0x740DC16C#32).isSome = true ∧ (lnDecode 0 0x740DC16D#32).isSome = false := by decide

/-! Witnesses for Obligations.ModeCommandsTakeEffect. -/
theorem test_hyps_ModeCommandsTakeEffect :
    (slice (withSlice 1 { demoSlice with switches := [⟨.strict, 0, [0]⟩] }) 1 =
        some { demoSlice with switches := [⟨.strict, 0, [0]⟩] } ∧
      demoSlice.life ≠ .ended ∧ 0 ≤ pt (elapse 5 (withSlice 1 demoSlice)) ∧
      0 ≤ bridleTime (elapse 5 (withSlice 1 demoSlice)) 0 ∧
      (∀ p ∈ coresOf 0, (Machine.core (withSlice 1 { demoSlice with switches := [⟨.strict, 0, [0]⟩] }) p).tile = none) ∧
      logicalOf (withSlice 1 { demoSlice with switches := [⟨.strict, 0, [0]⟩] }) 0 = some 0) ∧
    State.reset.model.length = 24 ∧
    (slice (withSlice 1 { demoSlice with ineligibleAt := some 0 }) 1 = some { demoSlice with ineligibleAt := some 0 } ∧
      0 + 1000000000 ≤ pt (elapse 1000000000 (withSlice 1 demoSlice))) := by decide

/-! Witnesses for Obligations.ReelCommandsTakeEffect. -/
theorem test_hyps_ReelCommandsTakeEffect :
    ((die (withReel { Reel.reset with current := some demoEntry }) 1).reel.current = some demoEntry ∧
      1 < State.reset.dies.length ∧ demoEntry.position < 2 ^ 64) ∧
    ((die (withReel { Reel.reset with clearOpen := some (1, 5, 0) }) 1).suspended = false ∧
      (die (withReel { Reel.reset with clearOpen := some (1, 5, 0) }) 1).reel.clearOpen = some (1, 5, 0)) ∧
    ((die (withReel { Reel.reset with erasedThrough := some 1023 }) 1).reel.clearOpen = none ∧
      (die (withReel { Reel.reset with erasedThrough := some 1023 }) 1).reel.erasedThrough = some 1023) ∧
    ((die State.reset 1).reel.unusable = [] ∧ (die State.reset 1).reel.active = 0) := by decide

/-! Witnesses for Obligations.EventReportEntersQueue. -/
theorem test_hyps_EventReportEntersQueue :
    (puaKind (BitVec.ofNat 32 (agentPua 3)).toNat ∈ [2, 3, 4, 5, 8] ∧
      unitField (BitVec.ofNat 32 (agentPua 3)).toNat < State.reset.fields.length ∧
      puaKind (BitVec.ofNat 32 (portPua 1 2)).toNat ∈ [2, 3, 4, 5, 8] ∧
      unitField (BitVec.ofNat 32 (portPua 1 2)).toNat < State.reset.fields.length) ∧
    (puaKind (0#32).toNat ∈ [0, 1, 6, 7] ∧ puaValid State.reset.variant (0#32).toNat = true ∧
      State.reset.fields.length = 24 ∧ (field State.reset (puaFieldIdx (0#32).toNat)).queue.length < 1024 ∧
      ∀ e ∈ State.reset.clusters, ckField e.1 = puaFieldIdx (0#32).toNat → e.2.queue = []) ∧
    (puaKind (BitVec.ofNat 32 (diePua 1)).toNat = 15 ∧ (BitVec.ofNat 32 (diePua 1)).toNat ≠ packagePua ∧
      puaDie (BitVec.ofNat 32 (diePua 1)).toNat < State.reset.dies.length ∧
      ∀ x ∈ (die State.reset 1).local_, x.arose.1 ≠ State.reset.now + 5) := by decide
theorem test_hyps_EventReport_full :
    1024 ≤ (field (modField 0 (fun x => { x with queue := List.replicate 1024 demoEvent }) State.reset)
      (puaFieldIdx (0#32).toNat)).queue.length := by
  show 1024 ≤ (List.replicate 1024 demoEvent).length
  rw [List.length_replicate]

/-! Witnesses for Obligations.EventsReachHandlingAndNumbers. -/
/-- A state after S2 in which die 1 has an event for the Anchor and its own input holds one. -/
def eventState : State :=
  let s := { running with seqr := ⟨5, 0, some 3, false, 2, 0, []⟩ }
  { s with dies := s.dies.map fun x => { x with stage := 8, toAnchor := [demoEvent], local_ := [demoEvent] } }
theorem test_hyps_EventsReachHandlingAndNumbers :
    (inputHead eventState 1 (((die eventState 1).arbiterLast + 1 + 6) % 7) = some demoEvent ∧
      (∀ m < 6, inputHead eventState 1 (((die eventState 1).arbiterLast + 1 + m) % 7) = none) ∧
      sequencerFree eventState = true ∧ demoEvent.registers = none ∧ demoEvent.ends = none) ∧
    (sequencerFree { eventState with seqr := { eventState.seqr with next := 16777216 } } = false ∧
      (die { eventState with seqr := { eventState.seqr with next := 16777216 } } 1).toAnchor ≠ []) ∧
    (eventState.variant.dies ≤ eventState.dies.length ∧ numbersReturned eventState = true ∧
      (∃ d < eventState.variant.dies, (die eventState d).toAnchor ≠ []) ∧
      eventState.seqr.next + 8 < eventState.seqr.checkpoint + 16777216 ∧ 0 < eventState.seqr.next % 2 ^ 48 ∧
      eventState.seqr.next % 2 ^ 48 + 8 < 2 ^ 48) ∧
    (eventState.seqr.writing = some 3 ∧ (∀ x ∈ eventState.dies, x.suspended = false) ∧
      0 < eventState.seqr.next % 2 ^ 48) := by decide

/-! Witnesses for Obligations.ReturnedNumberAndHandling. -/
/-- Die 1 with a returned number and this entry in its handling queue. -/
def handlingState (e : Event) : State :=
  { running with dies := running.dies.map fun x => { x with returns := [⟨demoEvent, 1, 5⟩], handling := [e] } }
theorem test_hyps_ReturnedNumberAndHandling :
    ((die (handlingState demoEvent) 1).returns = [⟨demoEvent, 1, 5⟩] ∧ demoEvent.code ≠ 0 ∧
      demoEvent.scope = 0 ∧ demoEvent.die = 1 ∧ (die (handlingState demoEvent) 1).suspended = false ∧
      reelUsable (die (handlingState demoEvent) 1).reel = true ∧
      (die (handlingState demoEvent) 1).reel.next < fullIndex ∧
      (die (handlingState demoEvent) 1).reel.queue.length < 1024) ∧
    ((die (handlingState demoEvent) 1).recovering = none ∧ demoEvent.kind = .record) ∧
    ((die (handlingState { demoEvent with kind := .charge, cause := 0x10, pua := 0 }) 0).status = 1 ∧ puaDie 0 ≠ 1 ∧
      (die (handlingState demoEvent) (puaDie 0)).handling.length < 4096) ∧
    ({ demoEvent with kind := .charge, cause := 0x10, pua := corePua 4992 0 }.kind = EventKind.charge ∧
      puaDie (corePua 4992 0) = 1 ∧
      stateOf (changeState (corePua 4992 0) .retired 0 (handlingState demoEvent)) (corePua 4992 0) ∈
        [.quarantined, .retired, .absent]) ∧
    (0x10 ≤ 0x10 ∧ puaKind (corePua 4992 0) = 0 ∧ usable (stateOf (handlingState demoEvent) (corePua 4992 0)) = true ∧
      (unitRec (handlingState demoEvent) (corePua 4992 0)).open_ = false) := by decide

/-! Witnesses for Obligations.CommitsWaitAndLand. -/
/-- A commit that binds LCN 0 to the cluster's spare core. -/
def demoCommit (waiting : List Nat) : Commit :=
  ⟨3, 102400, [0], [.core 0 0 (corePua 0 16)], [], [0, corePua 0 16], 0x10, waiting, true⟩
theorem test_hyps_CommitsWaitAndLand :
    (({ running with commits := [demoCommit [0]] }).commits.find? (fun c => c.id = 3) = some (demoCommit [0]) ∧
      (demoCommit [0]).waiting ≠ [] ∧ (demoCommit [0]).scheduled = true ∧ (demoCommit []).scheduled = true ∧
      (demoCommit [0]).count ≤ pt (elapse 90000 { running with commits := [demoCommit [0]] }) + 20480) ∧
    (({ running with commits := [demoCommit []] }).commits.find? (fun c => c.id = 3) = some (demoCommit []) ∧
      (demoCommit []).count + 32 ≤ pt (elapse 102432 { running with commits := [demoCommit []] }) ∧
      (demoCommit []).bindings = [.core 0 0 (corePua 0 16)] ∧ (0 : Nat) ≠ corePua 0 16 ∧
      isSpare (stateOf { running with commits := [demoCommit []] } (corePua 0 16)) = true) := by decide

/-! Witnesses for Obligations.TraceCommandsTakeEffect. -/
/-- A trace slot of cluster 0 in this state. -/
def demoTrace (state : Nat) : TraceSlot where
  state := state
  owner := 1
  logical := none
  target := 0
  content := 63
  stopMask := 0
  scheduled := none
  startPt := 0
  stopCause := 0
  lastTime := 0
  outcomes := []
  outcomeAt := 0
  chunk := [0]
  chunkFirst := 0
  chunkTarget := 0
  chunkNumber := 0
  lastPacket := 0
  lost := none
  dropped := none
  full := []
/-- A state with slot 5 of die 1, whose trace region has a place, in this mode with this next place. -/
def withTrace (x : TraceSlot) (mode next : Nat) : State :=
  modDie 1 (fun y => { y with regions := [(1, some (0, 0))], traceMode := mode, traceNext := next })
    { running with traces := [(261, x)] }
theorem test_hyps_TraceCommandsTakeEffect :
    (tget (withTrace { demoTrace 1 with scheduled := some (0, true) } 0 0).traces (1 * 256 + 5) =
        some { demoTrace 1 with scheduled := some (0, true) } ∧
      0 + 32 ≤ keeperRead (elapse 32 (withTrace (demoTrace 1) 0 0))
        (fieldKeeper (traceField (withTrace (demoTrace 1) 0 0) (demoTrace 1)))) ∧
    (tget (withTrace { demoTrace 2 with scheduled := some (0, false) } 0 0).traces (1 * 256 + 5) =
        some { demoTrace 2 with scheduled := some (0, false) } ∧
      0 + 32 ≤ keeperRead (elapse 32 (withTrace (demoTrace 2) 0 0))
        (fieldKeeper (traceField (withTrace (demoTrace 2) 0 0) (demoTrace 2)))) ∧
    (traceBacklog (elapse 100 (withTrace (demoTrace 2) 0 0))
        ((traceCluster (withTrace (demoTrace 2) 0 0) (demoTrace 2)).getD 0) + 1 + 0 ≤ 64 ∧
      (withTrace (demoTrace 2) 0 0).ripcord.state ≠ 2) ∧
    ((∀ b ∈ contentBit 5, (demoTrace 2).content.testBit b = true) ∧ (demoTrace 2).outcomes = [] ∧
      (demoTrace 2).lost = none ∧ (demoTrace 2).chunk ≠ [] ∧ (demoTrace 2).chunk.length + 1 + 0 < 508 ∧
      keeperRead (elapse 100 (withTrace (demoTrace 2) 0 0))
        (fieldKeeper (traceField (withTrace (demoTrace 2) 0 0) (demoTrace 2))) - (demoTrace 2).lastTime ≤ 4095) ∧
    (∀ b ∈ contentBit 2, (demoTrace 2).content.testBit b = true) ∧
    ({ demoTrace 2 with outcomes := [true] }.outcomeAt + 1000 ≤ running.now + 1000 ∧
      { demoTrace 2 with outcomes := [true] }.outcomes ≠ [] ∧ (demoTrace 2).chunk.length < 507) ∧
    (demoTrace 2).lastPacket + 1000000 ≤ running.now + 1000000 ∧
    ((die (withTrace { demoTrace 2 with full := [(0, [])] } 0 0) 1).recovering = none ∧
      (tgetD (die (withTrace { demoTrace 2 with full := [(0, [])] } 0 0) 1).regions 1 none).isSome = true ∧
      (die (withTrace { demoTrace 2 with full := [(0, [])] } 0 0) 1).traceMode = 0) ∧
    ((die (withTrace { demoTrace 2 with full := [(0, [])] } 1 16383) 1).traceMode ≠ 0 ∧
      16383 ≤ (die (withTrace { demoTrace 2 with full := [(0, [])] } 1 16383) 1).traceNext ∧
      (demoTrace 2).dropped = none) := by decide

/-! Witnesses for Obligations.CommandsOfAControlCore. -/
/-- A command that a control core has accepted. -/
def demoOpen (timeout started : Bool) : OpenCommand :=
  ⟨⟨7, 1, true, false, true⟩, ⟨0, some 0⟩, started, [(2, ⟨0, some 0⟩)], timeout, false⟩
/-- A state in which cluster 0 has this command open, its window running. -/
def withCommand (o : OpenCommand) : State :=
  modCluster 0 (fun c => { c with commands := [o], window := ⟨0, some 0⟩ }) running
theorem test_hyps_CommandsOfAControlCore :
    (cluster (withCommand (demoOpen false false)) (puaClusterKey (0#32).toNat)).commands.any
      (fun o => o.command.id = 7) = true := by decide

/-! Witnesses for Obligations.HangsAreDeclaredAndHandled. -/
/-- A hang event of cluster 0. -/
def demoHang : Event := { demoEvent with kind := .hang, pua := clusterPua 7 0 }
/-- Cluster 0 has declared a hang and die 0 takes its event. -/
def hungState (slices : Tab Slice) (limit : Nat) : State :=
  let s := modDie 0 (fun x => { x with handling := [demoHang] }) { running with slices := slices }
  setObj (key 0x2C04 0) limit (modCluster 0 (fun c => { c with hang := some (0, 7) }) s)
theorem test_hyps_HangsAreDeclaredAndHandled :
    ((cluster (withCommand (demoOpen false false)) 0).hang = none ∧
      (cluster (withCommand (demoOpen false false)) 0).commands.any (fun o => !o.timeoutMode) = true ∧
      obj (withCommand (demoOpen false false)) (key 0x2C02 0) 10 * 1000000 ≤
        (cluster (withCommand (demoOpen false false)) 0).window.read (0 + 10000000)) ∧
    ((cluster (withCommand (demoOpen true false)) 0).commands.find? (fun o => o.command.id = 7 && o.timeoutMode) =
        some (demoOpen true false) ∧
      commandTimeoutNs (withCommand (demoOpen true false)) (demoOpen true false).command ≤
        (demoOpen true false).timer.read (0 + 1000000)) ∧
    (tget (demoOpen true true).cores 2 = some ⟨0, some 0⟩ ∧
      commandTimeoutNs State.reset (demoOpen true true).command ≤ (⟨0, some 0⟩ : Stopwatch).read (0 + 1000000) ∧
      (cluster (modCluster 0 (fun c => { c with commands := [demoOpen true true], window := ⟨0, none⟩ }) running)
        0).window.read (0 + 1000000) < commandTimeoutNs State.reset (demoOpen true true).command ∧
      resetsWithin (elapse 1000000 running) 0 (corePua 0 2) < obj running (key 0x2C06 0) 3) ∧
    (puaValid State.reset.variant (BitVec.ofNat 32 (clusterPua 7 0)).toNat = true ∧
      puaKind (BitVec.ofNat 32 (clusterPua 7 0)).toNat = 7 ∧
      (cluster (hungState [] 8) 0).hang = some (0, 7) ∧ (cluster (hungState [] 8) 0).hangReported + 10000000 ≤ 0 + 10000000 ∧
      ∀ e ∈ (hungState [] 8).clusters, ckField e.1 = ckField 0 → e.2.queue = []) ∧
    ((die (hungState [] 8) 0).recovering = none ∧ (die (hungState [] 8) 0).handling = demoHang :: [] ∧
      (cluster (hungState [] 8) (puaClusterKey demoHang.pua)).hang ≠ none ∧
      (unitRec (hungState [] 8) demoHang.pua).open_ = false ∧
      sliceOfCluster (hungState [] 8) (puaClusterKey demoHang.pua) = 0 ∧
      resetsWithin (elapse 5 (hungState [] 8)) 1 demoHang.pua < obj (hungState [] 8) (key 0x2C06 0) 3) ∧
    (sliceOfCluster (hungState [(1, { demoSlice with hangs := [(0, 0)] })] 1) (puaClusterKey demoHang.pua) = 1 ∧
      obj (hungState [(1, { demoSlice with hangs := [(0, 0)] })] 1) (key 0x2C04 0) 8 ≤
        (hungClusters (elapse 5 (hungState [(1, { demoSlice with hangs := [(0, 0)] })] 1)) 1).length) := by decide

/-! Witnesses for Obligations.ResetsAndRecoveriesOfUnits. -/
/-- A state in which die 0 has counted this many resets of a domain. -/
def withResets (code p n : Nat) : State :=
  modCluster 0 (fun c => { c with probed := some 0 })
    (modDie 0 (fun x => { x with resets := [(domainKey code p, List.replicate n 0)] }) running)
/-- Resets in progress of a core, a cluster, the package and a die. -/
def resettingState : State :=
  modDie 1 (fun x => { x with resetRun := some ⟨6, 0, true, true⟩ })
    (modCluster 0 (fun c => { c with resetRun := some ⟨1, 0, false, false⟩ })
      (modCore 0 (fun c => { c with resetRun := some ⟨0, 0, false, false⟩ })
        { running with packageReset := some ⟨7, 0, true, false⟩ }))
theorem test_hyps_ResetsAndRecoveriesOfUnits :
    ((cluster (withResets 1 0 0) (puaClusterKey (0#32).toNat)).probed = some 0 ∧
      resetsWithin (elapse 10000 (withResets 1 0 0)) 1 (0#32).toNat < obj (withResets 1 0 0) (key 0x2C06 0) 3) ∧
    (obj (withResets 1 0 3) (key 0x2C06 0) 3 ≤ resetsWithin (elapse 10000 (withResets 1 0 3)) 1 (0#32).toNat ∧
      usable (stateOf (withResets 1 0 3) (domainPua 1 (0#32).toNat)) = true ∧
      puaKind (domainPua 1 (0#32).toNat) = 7 ∧
      puaClusterKey (domainPua 1 (0#32).toNat) = puaClusterKey (0#32).toNat ∧
      (unitRec (withResets 1 0 3) (domainPua 1 (0#32).toNat)).open_ = false ∧
      (die (withResets 1 0 3) 0).recovering = none ∧ (cluster (withResets 1 0 3) 0).resetRun = none) ∧
    (puaFieldIdx (0#32).toNat < running.fields.length ∧ (field running 0).resetRun = none ∧
      (field running 0).fenced = false ∧
      resetsWithin (elapse 1 running) 2 (0#32).toNat < obj running (key 0x2C06 0) 3 ∧
      obj running (key 0x2C06 0) 3 ≤ resetsWithin (elapse 1 (withResets 2 0 3)) 2 (0#32).toNat) ∧
    ((die running 1).status = 1 ∧ (die running 1).recovering = none ∧
      resetsWithin (elapse 1 running) 3 (diePua 1) < obj running (key 0x2C06 0) 3) ∧
    (running.standby = true ∧ running.anchorDie = 0 ∧ running.variant = .dh100 ∧ running.dies.length = 4 ∧
      numbersReturned running = false ∧
      numbersReturned { running with dies := running.dies.map fun x => { x with stage := 8 } } = true ∧
      running.seqr.mirrored % 2 ^ 48 + 2 < 2 ^ 48) ∧
    ((Machine.core resettingState (0#32).toNat).resetRun = some ⟨0, 0, false, false⟩ ∧
      (cluster resettingState (puaClusterKey (0#32).toNat)).resetRun = some ⟨1, 0, false, false⟩ ∧
      resettingState.packageReset = some ⟨7, 0, true, false⟩ ∧ 0 + recoveryLimit 7 ≤ 0 + 45000000000 ∧
      0 + recoveryLimit 0 ≤ 0 + 500000 ∧ 0 + recoveryLimit 1 ≤ 0 + 5000000 ∧
      (die resettingState 1).resetRun = some ⟨6, 0, true, true⟩ ∧
      (∀ c ∈ resettingState.commits, .around (diePua 1) ∉ c.bindings) ∧ canReturn resettingState 1 (0#32).toNat = true ∧
      resetsWithin (elapse 5000000 resettingState) 4 (0#32).toNat < obj resettingState (key 0x2C06 0) 3) := by decide

/-! Witnesses for Obligations.StopAndCapture. -/
/-- Die 1 writes the capture of an orderly stop. -/
def capturingState : State :=
  modDie 1 (fun x => { x with capturing := [⟨1, 0xFF, 6, 0, 0, 0, 0, 1, 0, [], false, false, none⟩] })
    { running with ripcord := { running.ripcord with state := 2 } }
theorem test_hyps_StopAndCapture :
    ((die capturingState 1).capturing = [⟨1, 0xFF, 6, 0, 0, 0, 0, 1, 0, [], false, false, none⟩] ∧
      capturingState.ripcord.state = 2 ∧
      ∀ x < capturingState.dies.length, x ≠ 1 → (die capturingState x).capturing = []) ∧
    ({ running.ripcord with state := 1, stop := 102400 }.stop + 32 ≤
      pt (elapse 102432 { running with ripcord := { running.ripcord with state := 1, stop := 102400 } })) ∧
    ({ running.ripcord with state := 3 }.state = 3 ∧ 1 ∉ { running.ripcord with state := 3 }.acted) := by decide

/-! Witnesses for Obligations.TeardownRunsItsSteps. -/
/-- A teardown in this step. -/
def demoTeardown (step : Nat) (loaded : List Nat) (points : List Nat) : Teardown :=
  ⟨step, false, 0, loaded, [(5, (3, 3))], [], points, 0, false, 0, false⟩
theorem test_hyps_TeardownRunsItsSteps :
    (slice (withSlice 1 demoSlice) 1 = some demoSlice ∧ demoSlice.life ≠ .ended ∧ demoSlice.teardown = none ∧
      spansDies demoSlice = false) ∧
    (((addHold 20100 []).filter (tableExpected (withSlice 1 demoSlice))).length < tablesExpected (withSlice 1 demoSlice) ∧
      tablesExpected { withSlice 1 demoSlice with unreachable := List.range 64 } ≤
        ((addHold 20100 (List.range 8 |>.map hostTable)).filter
          (tableExpected { withSlice 1 demoSlice with unreachable := List.range 64 })).length) ∧
    ((5#32).toNat ∈ (demoTeardown 3 [] [5, 6]).points ∧ tget (demoTeardown 3 [] [5, 6]).sent (5#32).toNat = some (3, 3) ∧
      6 ∈ (demoTeardown 3 [] [5, 6]).points ∧ 6 ≠ (5#32).toNat ∧ tget (demoTeardown 3 [] [5, 6]).marks 6 = none) ∧
    ((∀ q ∈ (demoTeardown 3 [] [5]).points, q = (5#32).toNat ∨ tget (demoTeardown 3 [] [5]).marks q ≠ none) ∧
      ((tset (demoTeardown 3 [] [5]).marks (5#32).toNat (3, 3)).map (·.2.1)).sum =
        ((tset (demoTeardown 3 [] [5]).marks (5#32).toNat (3, 3)).map (·.2.2)).sum) ∧
    (demoTeardown 3 [] [5]).quiesceFrom + 100000 ≤ pt (elapse 100000 (withSlice 1 demoSlice)) ∧
    (slice (withSlice 1 { demoSlice with zeroFill := [(3, 8)] }) 1 = some { demoSlice with zeroFill := [(3, 8)] } ∧
      (3, 8) ∈ { demoSlice with zeroFill := [(3, 8)] }.zeroFill) := by decide

/-! Witnesses for Obligations.TrayInputsLatchAndStop. -/
/-- Die 1 at S8 with this input 0. -/
def withTray (x : TrayInput) : State := modTray 1 0 (fun _ => x) (modDie 1 (fun y => { y with stage := 8 }) running)
theorem test_hyps_TrayInputsLatchAndStop :
    (1 < running.dies.length ∧ 0 < (die running 1).tray.length ∧ (trayInput (withTray TrayInput.reset) 1 0).raw ≠ true) ∧
    ((trayInput (withTray { TrayInput.reset with level := true }) 1 0).raw ≠
        (trayInput (withTray { TrayInput.reset with level := true }) 1 0).level ∧
      (trayInput (withTray { TrayInput.reset with level := true }) 1 0).raw = false ∧
      0 < (die (withTray { TrayInput.reset with level := true }) 1).stage ∧
      (withTray { TrayInput.reset with level := true }).ripcord.state = 0 ∧ 0 + 100000 ≤ 0 + 100000) ∧
    ((trayInput (withTray { TrayInput.reset with chattering := true }) 1 0).chattering = true) ∧
    ((trayInput (withTray { TrayInput.reset with raw := false, level := false }) 1 0).raw = false ∧
      (trayInput (withTray { TrayInput.reset with raw := false, level := false }) 1 0).level = false ∧
      (trayInput (withTray { TrayInput.reset with raw := false, level := false }) 1 0).latched = false) ∧
    ((trayInput (withTray { TrayInput.reset with differs := some 0 }) 1 0).differs = some 0) := by decide

/-! Witnesses for Obligations.SuppliesOfADie. -/
/-- Die 1 after this change. -/
def withDie (f : Die → Die) : State := modDie 1 f running
theorem test_hyps_SuppliesOfADie :
    (stopReached running = false) ∧
    ((die (withDie fun x => { x with supplySince := some 0, supply := 1 }) 1).supplySince = some 0 ∧
      (die (withDie fun x => { x with supplySince := some 0, supply := 1 }) 1).supply = 1) ∧
    ((die (withDie fun x => { x with resumeSince := some 0, suspended := true }) 1).resumeSince = some 0 ∧
      (die (withDie fun x => { x with resumeSince := some 0, suspended := true }) 1).suspended = true) ∧
    ((die (withDie fun x => { x with vaon := true }) 1).vaon = true ∧
      (die (withDie fun x => { x with vaon := true }) 1).vaonAt + 1000000 ≤ 0 + 1000000 ∧
      (die (withDie fun x => { x with vaon := true }) 1).fastReset = true) ∧
    ((die (withDie fun x => { x with vfast := true }) 1).vfast = true) ∧
    ((die running 1).vaon = false) := by decide

/-! Witnesses for Obligations.VoltagesAndPowerLimit. -/
/-- Field 3 after this change. -/
def withField (f : Field → Field) : State := modField 3 f running
theorem test_hyps_VoltagesAndPowerLimit :
    (3 < running.fields.length ∧ (field (withField fun x => { x with raising := some 4 }) 3).raising = some 4 ∧
      (field (withField fun x => { x with raising := some 4 }) 3).raisedAt + 150000 ≤ 0 + 150000) ∧
    (costliestSlice (withSlice 1 demoSlice) = some 1 ∧
      obj running (key 0x3004 1) (if running.variant = .dh100 then 24000 else 6500) * 10000 <
        ((packagePower running :: List.replicate 9 30000000).take 10).sum) ∧
    ((field (withField fun x => { x with power := 1 }) 3).power = 1 ∧
      (field (withField fun x => { x with power := 1 }) 3).raising = none ∧
      (field (withField fun x => { x with power := 1 }) 3).rampWait + 50000000 ≤ 0 + 50000000 ∧
      otherRunning (withField fun x => { x with power := 1 }) 3 = []) ∧
    (obj running (key 0x3016 0) 10 ≠ 0 ∧ (∀ c ∈ running.commits, .around (agentPua 3) ∉ c.bindings) ∧
      (field (withField fun x => { x with power := 2, idleSince := some 0 }) 3).idleSince = some 0 ∧
      fieldBusy (withField fun x => { x with power := 2, idleSince := some 0 }) 3 = false ∧
      noTestDue (withField fun x => { x with power := 2, idleSince := some 0 }) 3 = true ∧
      noRouteThrough (withField fun x => { x with power := 2, idleSince := some 0 }) 3 = true) := by decide

/-! Witnesses for Obligations.DroopAndLoadNotices. -/
/-- A notice for field 0 of die 0. -/
def demoLoad : LoadNotice := ⟨1, 1, 1, 100, 5000⟩
/-- A state with slice 1 and mailbox 0 bound to it. -/
def withMailbox : State := modMailbox 0 (fun m => { m with bound := 1 }) (withSlice 1 demoSlice)
theorem test_hyps_DroopAndLoadNotices :
    ((field (withField fun x => { x with power := 1 }) 3).stretch = none) ∧
    ((field (withField fun x => { x with stretch := some 0 }) 3).stretch = some 0 ∧
      0 + 200 ≤ fieldTime (elapse 200 running) 3) ∧
    (((withSlice 1 demoSlice).slices.map (·.1)).Nodup ∧
      100000000 ≤ fieldTime (elapse 100000000 (withSlice 1 demoSlice)) 0 - (field (withSlice 1 demoSlice) 0).windowStart) ∧
    ((field (withField fun x => { x with lowSince := some 0 }) 3).lowSince = some 0 ∧
      0 + 600000000000 ≤ fieldTime (elapse 600000000000 running) 3) ∧
    (noticeInRange demoLoad = true ∧ mailboxObserves (elapse 5 withMailbox) 0 1 = true ∧
      (∀ f ∈ ((List.range 6).filter fun i => demoLoad.mask.testBit i).map (0 / 256 * 6 + ·),
        f ∈ sliceFields withMailbox 1 ∧ ∀ a ∈ (field withMailbox f).lastNotice, a + 10000 ≤ 0 + 5)) ∧
    (noticeInRange { demoLoad with amount := 0 } = false) ∧
    ((lnDecode 0 (lnFrame 0 (2 ^ 20 + 4 * 2 ^ 14 + 5 * 16 + 1))).isSome = true ∧
      (lnDecode 0 (lnFrame 0 2)).map (·.1) = some 2 ∧ (lnDecode 0 (lnFrame 0 3)).map (·.1) = some 3) ∧
    (∀ a ∈ (field running 3).announced, a + 100000 < 0 + 0) ∧
    ((field (withField fun x => { x with reservoir := 1 }) 3).reservoir = 1 ∧
      (field (withField fun x => { x with reservoir := 2 }) 3).reservoirAt + 250000 ≤ 0 + 250000) := by decide

/-! Witnesses for Obligations.RegulatorPhasesAndInput. -/
theorem test_hyps_RegulatorPhasesAndInput :
    (3 < running.fields.length ∧ 3 / 6 < running.dies.length ∧ 5 ∈ (field running 3).phases) ∧
    (running.ripcord.state = 0 ∧ testing running = false) ∧
    ((field (withField fun x => { x with power := 2, phaseCap := 4 }) 3).power = 2 ∧
      (field (withField fun x => { x with power := 2, phaseCap := 4 }) 3).phaseCap ≠ 0xFF ∧
      (field (withField fun x => { x with power := 2, phaseCap := 4 }) 3).step ≤
        (field (withField fun x => { x with power := 2, phaseCap := 4 }) 3).phaseCap) := by decide

/-! Witnesses for Obligations.ThermalReadingsAndEnergy. -/
theorem test_hyps_ThermalReadingsAndEnergy :
    1 < running.dies.length ∧
    ((die (withDie fun x => { x with thermal := { x.thermal with faulty := some 0 } }) 1).thermal.faulty = some 0 ∧
      (die (withDie fun x => { x with thermal := { x.thermal with faulty := some 0 } }) 1).thermal.stopping = false) ∧
    ((die (withDie fun x => { x with thermal := { x.thermal with calmFrom := some 0, cap := 14 } }) 1).thermal.calmFrom =
        some 0 ∧
      (die (withDie fun x => { x with thermal := { x.thermal with calmFrom := some 0, cap := 14 } }) 1).thermal.cap < 15)
    := by decide

/-! Witnesses for Obligations.TimeBaseCommands. -/
/-- A state whose keepers take corrections. -/
def synced : State :=
  { State.reset with
    ptStarted := true, reference := true,
    keepers := (List.range 28).map fun k => (k, { Keeper.reset with running := true, applied := true, missed := 7 }) }
theorem test_hyps_TimeBaseCommands :
    (puaKind (BitVec.ofNat 32 (lanePua 0 3)).toNat ∈ [2, 3] ∧ puaKind (BitVec.ofNat 32 (portPua 0 3)).toNat ∈ [2, 3] ∧
      unitField (BitVec.ofNat 32 (lanePua 0 3)).toNat < synced.fields.length ∧
      unitField (BitVec.ofNat 32 (portPua 0 3)).toNat < synced.fields.length ∧
      crossingAligned (modDie 0 (fun x => { x with aligned := 2 }) synced) false
        (BitVec.ofNat 32 (lanePua 0 3)).toNat = true ∧
      crossingAligned (modDie 0 (fun x => { x with aligned := 2 }) synced) true
        (BitVec.ofNat 32 (lanePua 0 3)).toNat = true ∧
      crossingAligned synced false (BitVec.ofNat 32 (lanePua 0 3)).toNat = false) ∧
    (correctionDue (elapse 1024 synced) = true ∧ correctionDue (elapse 1023 synced) = false) ∧
    ((BitVec.ofNat 128 (5 * 2 ^ 64 + 2 ^ 60)).toNat / 2 ^ 60 % 16 = 1 ∧ 1 ≠ synced.anchorDie ∧
      (keeper synced 1).running = true ∧ (keeper synced 1).applied = true ∧ (keeper synced 1).offsetFault = false) ∧
    (keeper synced 1).missed = 7 ∧ synced.reference = true ∧
    (State.reset.reference = false ∧ State.reset.referenceLostAt + 1000000 ≤ State.reset.now + 1000000) := by decide
/-- A state in which the standby and CD2 have missed seven corrections and eight. -/
def missing : State :=
  modKeeper 2 (fun x => { x with missed := 8 }) synced
theorem test_hyps_takeover :
    takeoverDue (modKeeper 1 (fun x => { x with
      missed := min 65535 (x.missed + 1), lossAt := if x.missed + 1 = 8 then 0 + 5 else x.lossAt }) (elapse 5 missing)) = true ∧
    rolesLost (modKeeper 2 (fun x => { x with
        missed := min 65535 (x.missed + 1), lossAt := if x.missed + 1 = 8 then 0 + 5 else x.lossAt })
      (elapse 5 (modKeeper 1 (fun x => { x with missed := 8 })
        (modKeeper 3 (fun x => { x with missed := 8 }) { synced with standby := false })))) = true := by decide

/-! Witnesses for Obligations.FrequencyChangesRunTheirCourse. -/
/-- A change of field 0 in this stage of its course. -/
def demoChange (acked : List Nat) (sampled : Option Bool) (switched : Bool) : Change :=
  ⟨9, 0, 1, 4, 102400, 0, acked, [], sampled, switched, [], false, false⟩
/-- A state with one change. -/
def withChange (c : Change) : State := { running with changes := [c] }
theorem test_hyps_FrequencyChanges :
    (sequencerFree running = true ∧ requestAllowed (modField 0 (fun x => { x with power := 2 }) (withSlice 1 { demoSlice with freq := 1100 })) 1 0 = true) ∧
    ((withChange (demoChange [] none false)).changes.find? (fun x => x.id = 9) = some (demoChange [] none false) ∧
      (demoChange [] none false).count ≤ pt (elapse 90000 (withChange (demoChange [] none false))) + 20480 ∧
      (∃ f ∈ maskFields (demoChange [] none false).mask, f ∉ (demoChange [] none false).acked)) ∧
    ((demoChange [0] none false).count + 24 ≤ pt (elapse 102424 (withChange (demoChange [0] none false))) ∧
      (∀ f ∈ maskFields (demoChange [0] none false).mask, f ∈ (demoChange [0] none false).acked)) ∧
    ((demoChange [0] (some false) false).count + 32 ≤ pt (elapse 102432 (withChange (demoChange [0] (some false) false)))) ∧
    ((demoChange [0] (some false) true).mask.testBit 0 = true ∧ 0 ∉ (demoChange [0] (some false) true).verdicts ∧
      (∀ g ∈ maskFields (demoChange [0] (some true) false).mask, g = 0 ∨ g ∈ (demoChange [0] (some true) false).verdicts) ∧
      (∃ g ∈ maskFields 3, g ≠ 0 ∧ g ∉ (demoChange [0] (some true) false).verdicts)) := by decide

/-! Witnesses for Obligations.FieldBusPortsFollowTheirCommands. -/
/-- Port A of die 0 after this change, the die at S8. -/
def withPort (f : Port → Port) : State :=
  modDie 0 (fun x => { x with stage := 8, stageRan := true, fastReset := false, vfast := true, dictionary := true, node := [(key 0x1800 1, 0x185)] })
    (modPort 0 (fun x => f { x with nmt := .operational }) { running with reference := true })
theorem test_hyps_FieldBusPorts :
    nmtAddressed (withPort id) 0 false 0 = true ∧
    (portSends (withPort id) 0 false = true ∧
      (port (withPort id) (portKey 0 false)).lastHeartbeat +
        nodeValue (elapse 10000000000 (withPort id)) 0 0x1017 0 * 1000000 ≤ (withPort id).now + 10000000000) ∧
    ((port (withPort id) (portKey 0 false)).nmt = .operational ∧
      (nodeValue (elapse 5 (withPort id)) 0 (0x1800 + 0) 1).testBit 31 = false) ∧
    (firstHeld (port (withPort fun x => { x with heldEmcy := [zeros 8] }) (portKey 0 false)).heldEmcy = some 0) ∧
    ((withPort fun x => { x with fault := 2 }).variant.dies = 4 ∧
      (port (withPort fun x => { x with fault := 2 }) (portKey 0 false)).fault = 2 ∧
      (port (withPort fun x => { x with fault := 1 }) (portKey 0 false)).fault = 1) := by decide

/-! Witnesses for Obligations.SnapshotsAndTestAccessPort. -/
theorem test_hyps_SnapshotsAndTestAccessPort :
    ({ running with snapshot := some ⟨102400, [0], false⟩ }.snapshot = some ⟨102400, [0], false⟩ ∧
      102400 + 32 ≤ pt (elapse 102432 { running with snapshot := some ⟨102400, [0], false⟩ })) ∧
    ((∀ x ∈ running.dies, x.recovering = none) ∧ [0].Nodup ∧
      (path running (pathOfKey 0)).waitingSnapshot = false) ∧
    1 < running.dies.length ∧ testRuns running 1 = false ∧
    tapOpen (elapse 5 (modReel 1 (fun r => { r with returned := true })
      (modPath (.port 0 false) (fun x => { x with session := .maker, lease := 10 }) running))) = true := by decide

/-! Witnesses for Obligations.SliceCreationAndEpochs. -/
/-- DH-25 in service, every field of die 0 lost, so that a slice there holds no cluster. -/
def creatable : State :=
  { State.reset with
    variant := .dh25, dies := [{ Die.reset with status := 2 }],
    fields := (List.range 6).map fun _ => { Field.reset with power := 3 } }
/-- A slice of one empty site. -/
def demoRequest : SliceRequest := ⟨1, 1, (0, 0, 0), (1, 1, 1), true, []⟩
theorem creatable_no_cluster (s : State) (k : Nat) (hv : s.variant = .dh25) (hf : s.fields = creatable.fields) :
    sliceClusters s k = [] := by
  refine List.filterMap_eq_nil_iff.mpr fun l hl => ?_
  have h : l < 4800 := by
    unfold sliceLogicals at hl
    split at hl
    · have := (List.mem_filter.mp hl).1
      simpa [hv, Variant.dies] using this
    · cases hl
  have h6 : l / 800 < 6 := by omega
  have key : ∀ f < 6, (creatable.fields.getD f Field.reset).power = 3 := by decide
  have := key _ h6
  unfold clusterOf
  rw [if_pos]
  simpa [field, hf] using this
theorem test_hyps_SliceCreationAndEpochs :
    creationAllowed (elapse 1 creatable) demoRequest = true ∧
    (slice (withSlice 1 demoSlice) 1 = some demoSlice ∧ sliceLive demoSlice = true ∧ demoSlice.nextSeed = none) ∧
    (slice (withSlice 1 { demoSlice with nextSeed := some 7 }) 1 = some { demoSlice with nextSeed := some 7 } ∧
      (demoSlice.epochStart + demoSlice.epochPeriod + 102399) / 102400 * 102400 ≤
        pt (elapse 200000 (withSlice 1 { demoSlice with nextSeed := some 7 }))) := by
  refine ⟨?_, by decide, by decide⟩
  have h : ∀ (s : State) (k : Nat), s.variant = .dh25 → s.fields = creatable.fields → sliceValid s k = true := by
    intro s k hv hf
    unfold sliceValid
    rw [creatable_no_cluster s k hv hf]
    cases slice s k <;> rfl
  simp only [creationAllowed]
  rw [show demoRequest.id = 1 from rfl, h _ 1 (by rfl) (by decide)]
  decide

/-! Witnesses for Obligations.TilesAreIssued. -/
/-- A tile without operands. -/
def demoTile : Tile := ⟨.eligible, 0, 0, 0, false, 0, none, 1, [], []⟩
/-- A state whose slice 1 holds the sites at the origin and runs in mode `m`. -/
def onSlice (m : Mode) : State := withSlice 1 { demoSlice with mode := m }
/-- The slice in this mode. -/
def inMode (m : Mode) : Slice := { demoSlice with mode := m }
/-- The same with a poisoned input. -/
def poisonTile : Tile := { demoTile with inputs := [⟨0, none, poisonWord 0 1 1 0⟩] }
/-- A test tile of a screen. -/
def demoTest : TestRun := ⟨⟨0, 0, 0, none⟩, 0, 0, 0, 0, 0, 0, none, none, none, false⟩
theorem test_hyps_TilesAreIssued :
    (coreOf (onSlice .standard) 0 = some 0 ∧
      slice (onSlice .standard) (sliceOfLcn (onSlice .standard) 0) = some (inMode .standard) ∧
      issueBlocked (onSlice .standard) 0 = false ∧ lcnMode (onSlice .standard) 0 ≠ .full ∧
      coreBusy (Machine.core (onSlice .standard) 0) = false ∧ inputPending (Machine.core (onSlice .standard) 0) demoTile = false ∧
      (Machine.core (onSlice .standard) 0).test = none ∧ writesPinned (Machine.core (onSlice .standard) 0) demoTile = false ∧
      unusableInput (Machine.core (onSlice .standard) 0) demoTile = none ∧ isFollower (onSlice .standard) 0 = false) ∧
    (coreOf (onSlice .full) 1 = some 4096 ∧ lcnMode (onSlice .full) 0 = .full) ∧
    (coreOf { onSlice .standard with lcnMap := [(0, none)] } 0 = none ∧
      ownerDie (onSlice .standard) 1 < (onSlice .standard).dies.length) ∧
    (Machine.core (modCore 0 (fun c => { c with test := some demoTest }) (onSlice .standard)) 0).test = some demoTest ∧
    (unusableInput (Machine.core (onSlice .standard) 0) poisonTile ≠ none ∧ demoSlice.consumed = false ∧
      slice (withSlice 1 { demoSlice with life := .ending, consumed := true }) 1 =
        some { demoSlice with life := .ending, consumed := true } ∧ demoSlice.teardown = none) := by decide

/-! Witnesses for Obligations.TileVerdicts. -/
/-- Slice 1 in mode `m`, its first core running a tile of kind `k`. -/
def onTile (m : Mode) (k : TileKind) : State :=
  modCore 0 (fun c => { c with tile := some (0, { demoTile with kind := k }), pins := [5], taken := (0, m) }) (onSlice m)
/-- The taps of an INT8 tile of zeros. -/
def demoTaps : Taps := ⟨6, 6, 1, 1, 16, List.replicate 16 0, none, List.replicate 16 0, none, [0], [], []⟩
/-- The same with a wrong drain. -/
def wrongTaps : Taps := { demoTaps with drain := [1] }
/-- A recompute of the demo tile in an attempt. -/
def demoRecompute (n : Nat) : Recompute := ⟨{ demoTile with kind := .contraction }, 0, n, 0, 0, 0, 0, none, false⟩
/-- A state with that recompute. -/
def recomputing (n : Nat) : State := { onSlice .standard with recomputes := [(0, demoRecompute n)] }
theorem test_hyps_TileVerdicts :
    (tileCore (onTile .standard .contraction) 0 = some 0 ∧
      (Machine.core (onTile .standard .contraction) 0).tile = some (0, { demoTile with kind := .contraction }) ∧
      isContraction TileKind.contraction = true ∧ (Machine.core (onTile .standard .contraction) 0).taken.2 ≠ .full ∧
      tapsValid demoTaps = true ∧ tapsValid wrongTaps = true ∧
      slice (onTile .standard .contraction) (sliceOfLcn (onTile .standard .contraction) 0) = some (inMode .standard) ∧
      aCore (onTile .standard .contraction) 0 = true ∧
      (Machine.core (onTile .standard .contraction) 0).heldTile = none ∧
      coreOf (onTile .standard .contraction) 0 = some 0) ∧
    (oldestEntry (recomputing 1).recomputes 0 = some (0, demoRecompute 1) ∧
      frozen (recomputing 1) = false) ∧
    ((Machine.core (onTile .standard .eligible) 0).tile = some (0, demoTile) ∧
      (lcnRec (onTile .standard .eligible) 0).progress = (Machine.core (onTile .standard .eligible) 0).taken.1) ∧
    lcnMode (onTile .standard .ineligible) 0 ≠ .full ∧ (Machine.core (onTile .standard .ineligible) 0).tile = some (0, { demoTile with kind := .ineligible }) ∧
    5 ∈ (Machine.core (onTile .standard .eligible) 0).pins := by decide
/-- The projection of a tile whose drain is wrong fails, and of one whose drain is right passes. -/
theorem test_hyps_verdicts :
    (verdictOn 0 0 0 0 .standard demoTaps (onTile .standard .contraction)).1 = .pass ∧
    (∃ v, (verdictOn 0 0 0 0 .standard wrongTaps (onTile .standard .contraction)).1 = .fail 0 v false) ∧
    (∃ v, (verdictOn 0 0 0 0 .observe { demoTaps with convPort := [1] } (onTile .observe .contraction)).1 = .fail 0 v true) := by
  refine ⟨by decide, ⟨⟨1, 0, 0, some true⟩, by decide⟩, ⟨⟨0, 0, 0, none⟩, by decide⟩⟩

/-! Witnesses for Obligations.ReplaysAndArbitrations. -/
/-- The descriptor of a replay of LCN 0 of the demo tile. -/
def demoReplay : Descriptor := ⟨0, 3, some 0, 0, demoTile, 0, ⟨1, [], []⟩, 0, false, 0, false⟩
/-- A state whose core 1 holds that replay and whose core 0 has an arbitration of each kind. -/
def replaying : State :=
  modLcn 0 (fun r => { r with groupEnds := [(0, 5)] })
    (modCore 4096 (fun c => { c with queue := [demoReplay] })
      { onSlice .standard with
        tieBreaks := [(0, ⟨demoReplay, ⟨2, [], []⟩, 4096, 8192, none, []⟩)],
        thirds := [(0, ⟨demoReplay, ⟨2, [], []⟩, 4096, 8192, none, []⟩)] })
/-- A pair in Full whose cores run the demo tile. -/
def pairRunning : State :=
  modCore 0 (fun c => { c with tile := some (0, demoTile) })
    (modCore 4096 (fun c => { c with tile := some (0, demoTile) }) (onSlice .full))
/-- A core withheld since time 0. -/
def withheldCore : State := modCore 0 (fun c => { c with withheld := true, withheldAt := some 0 }) (onSlice .standard)
theorem test_hyps_ReplaysAndArbitrations :
    (endingReplay replaying 0 = some (4096, demoReplay) ∧
      slice replaying (sliceOfLcn replaying 0) = some (inMode .standard) ∧ coreOf replaying 0 = some 0 ∧
      resultsMatch replaying demoTile demoReplay.result ⟨1, [], []⟩ = true ∧
      resultsMatch replaying demoTile demoReplay.result ⟨2, [], []⟩ = false ∧ inputWords demoTile = [] ∧
      (Machine.core replaying 4096).test = none ∧ frozen replaying = false ∧ (lcnRec replaying 0).lastMatch = none) ∧
    (oldestEntry replaying.tieBreaks 0 = some (0, ⟨demoReplay, ⟨2, [], []⟩, 4096, 8192, none, []⟩) ∧
      (∀ p ∈ [0, 4096], aCore replaying p = true) ∧
      stateOf replaying 0 ≠ .quarantined) ∧
    (tget (lcnRec replaying 0).groupEnds 0 = some 5 ∧ 5 ≤ pt (elapse 5 replaying)) ∧
    (pairCores pairRunning 0 = some (0, 4096) ∧ (Machine.core pairRunning 0).tile = some (0, demoTile) ∧
      (Machine.core pairRunning 4096).tile = some (0, demoTile)) ∧
    oldestEntry replaying.thirds 0 = some (0, ⟨demoReplay, ⟨2, [], []⟩, 4096, 8192, none, []⟩) ∧
    ((Machine.core withheldCore 0).withheldAt = some 0 ∧ (Machine.core withheldCore 0).withheld = true ∧
      eventWaits withheldCore 0 = false ∧ (unitRec withheldCore 0).open_ = false ∧
      inService (stateOf withheldCore 0) = true ∧ aCore withheldCore 0 = true ∧ lcnOfCore withheldCore 0 = some 0 ∧
      lcnMode withheldCore 0 ≠ .full) := by decide

/-! Witnesses for Obligations.BlocksArrive. -/
/-- A transfer of a block to core 0. -/
def demoTransfer : Transfer := ⟨7, 0x00300000#32, 1, 0#32, 1, 2, 0, none, false⟩
/-- A word of generation 0 and slice 1 that carries the check of `payload`. -/
def demoWord (payload : List Byte) : Word64 := streamerWord (payloadCheck payload) 0 1 1 0 0
/-- A state in which a transfer to core 0 is open and core 0 holds a released block. -/
def openTransfer (refetches : Nat) (repairFrom : Option Nat) : State :=
  modCore 0 (fun c => { c with sram := [(2, ⟨demoWord [1], true, none, none⟩)] })
    { onSlice .standard with transfers := [(7, ⟨demoTransfer, none, refetches, 0, repairFrom, 0, false⟩)] }
theorem test_hyps_BlocksArrive :
    (demoTransfer.epoch % 4 = coreEpoch (onSlice .standard) demoTransfer.receiver.toNat ∧
      demoTransfer.block ∉ (Machine.core (onSlice .standard) demoTransfer.receiver.toNat).pins ∧
      demoTransfer.block < 12 ∧ tget (onSlice .standard).transfers demoTransfer.id = none ∧
      slice (onSlice .standard) demoTransfer.destSlice = some (inMode .standard) ∧
      arrivalTest (tableGeneration (onSlice .standard) 1 (receiverTable demoTransfer none (onSlice .standard).variant)) 1
        (checkingOn (onSlice .standard) 1) (demoWord [1]) [1] = .good ∧
      arrivalTest (tableGeneration (onSlice .standard) 1 (receiverTable demoTransfer none (onSlice .standard).variant)) 1
        (checkingOn (onSlice .standard) 1) (demoWord [1]) [2] = .mismatch ∧
      arrivalTest 1 1 true (demoWord [1]) [1] = .stale) ∧
    ({ demoTransfer with epoch := 1 }.epoch % 4 ≠ coreEpoch (onSlice .standard) demoTransfer.receiver.toNat) ∧
    (tget (openTransfer 1 none).transfers 7 = some ⟨demoTransfer, none, 1, 0, none, 0, false⟩ ∧
      tget (openTransfer 3 none).transfers 7 = some ⟨demoTransfer, none, 3, 0, none, 0, false⟩ ∧
      0 + obj (openTransfer 3 none) (key 0x2704 0) 2000 * 1000 ≤ (openTransfer 3 none).now + 2000000) ∧
    (tget (openTransfer 3 (some 0)).transfers 7 = some ⟨demoTransfer, none, 3, 0, some 0, 0, false⟩ ∧
      0 + obj (openTransfer 3 none) (key 0x2705 0) 50 * 1000000 ≤ (openTransfer 3 none).now + 50000000 ∧
      slice (openTransfer 3 (some 0)) 1 = some (inMode .standard)) ∧
    (tget (Machine.core (openTransfer 3 none) 0).sram 2 = some ⟨demoWord [1], true, none, none⟩ ∧
      checkFits (demoWord [1]) [1] = true ∧ checkFits (demoWord [1]) [2] = false ∧
      aCore (openTransfer 3 none) 0 = true) := by decide

/-! Witnesses for Obligations.MemoryBlocksAndTheHost. -/
/-- A block of stack 3. -/
def demoAddr : DramAddr := ⟨3, 0, 5⟩
/-- A state in which that block holds one byte of slice 1. -/
def withBlock : State := { onSlice .standard with dram := [(dramKey demoAddr, ⟨demoWord [1], [1], false⟩)] }
/-- A state in which the stack of that block is lost. -/
def stackGone : State := { onSlice .standard with unreachable := [3] }
/-- The poisoned word of that byte. -/
def poisonedWord : Word64 := streamerWord (2 ^ 32 - 1 - payloadCheck [1]) 0 1 1 0 1
theorem test_hyps_MemoryBlocksAndTheHost :
    (answersLost withBlock demoAddr = false ∧ (dramBlock withBlock demoAddr).irregular = false ∧
      unitField (dramUnit withBlock demoAddr) < withBlock.fields.length ∧ puaKind (dramUnit withBlock demoAddr) = 4 ∧
      checkFits (dramBlock withBlock demoAddr).word [1] = true ∧
      checkFits (dramBlock withBlock demoAddr).word [2] = false) ∧
    (tget withBlock.transfers demoTransfer.id = none ∧
      arrivalTest (tableGeneration withBlock 1 (receiverTable demoTransfer (some demoAddr) withBlock.variant)) 1
        (checkingOn withBlock 1) (demoWord [1]) [1] = .good) ∧
    answersLost stackGone demoAddr = true ∧
    withBlock.inFlight.countP (fun e => decide (e.1 = 0)) < 32 ∧
    32 ≤ ({ withBlock with inFlight := List.replicate 32 (0, 0) } : State).inFlight.countP (fun e => decide (e.1 = 0)) ∧
    (slice withBlock 1 = some (inMode .standard) ∧ (inMode .standard).life = .running ∧
      arrivalTest (generation withBlock 1) 1 (checkingOn withBlock 1) (dramBlock withBlock demoAddr).word
        (dramBlock withBlock demoAddr).payload = .good ∧
      checkFits (dramBlock withBlock demoAddr).word (dramBlock withBlock demoAddr).payload = true ∧
      arrivalTest 0 1 true poisonedWord [1] = .poisoned ∧ checkFits poisonedWord [1] = true) := by decide

/-! Witnesses for Obligations.TestsInTheField. -/
/-- Slice 1 with a one-shot notice whose slot is 100 µs long. -/
def noticed (open_ : Tab Nat) : Slice :=
  { demoSlice with notices := [⟨⟨1, 0, 9, 0, 100000, 0, 0, 1⟩, false, open_, none⟩] }
/-- A test run of a kind on core 0. -/
def demoRun (kind reruns : Nat) : TestRun :=
  ⟨⟨kind, 3, 0#32, some 4096#32⟩, 0, reruns, 100, 1000, 0, 0, some 1, some 2, none, false⟩
/-- A state whose core 0 runs this test. -/
def testing (kind reruns : Nat) : State :=
  modCore 0 (fun c => { c with test := some (demoRun kind reruns) }) (onSlice .standard)
/-- The third run of that test on core 2. -/
def thirdRun : TestRun := { demoRun 0 0 with third := some 8192 }
/-- A state whose field 0 is up, with a spare core that may be tested and one that serves LCN 0. -/
def testable : State := modField 0 (fun x => { x with power := 2 }) (onSlice .standard)
/-- A test that the spare of the first cluster may run. -/
def spareTest : TestTile := ⟨1, 3, 0x00010000#32, none⟩
theorem test_hyps_TestsInTheField :
    (slice (withSlice 1 (noticed [])) 1 = some (noticed []) ∧
      (noticed []).notices.find? (fun n => n.notice.id = 9 && n.revoked.isNone) =
        some ⟨⟨1, 0, 9, 0, 100000, 0, 0, 1⟩, false, [], none⟩ ∧
      noticeFields (withSlice 1 (noticed [])) ⟨1, 0, 9, 0, 100000, 0, 0, 1⟩ = [0] ∧
      slotAt false ⟨1, 0, 9, 0, 100000, 0, 0, 1⟩ (fieldTime (elapse 5 (withSlice 1 (noticed []))) 0) = some 100000) ∧
    ((Machine.core (testing 0 0) 0).test = some (demoRun 0 0) ∧ (Machine.core (testing 0 0) 0).tile = none ∧ frozen (testing 0 0) = false ∧
      aCore (testing 0 0) 0 = true ∧ aCore (testing 0 0) 4096 = true) := by decide
theorem test_hyps_testTileStart :
    puaValid testable.variant spareTest.core.toNat = true ∧ puaKind spareTest.core.toNat = 0 ∧ spareTest.kind ≤ 4 ∧
    coreFree testable spareTest.core.toNat = true ∧ testTargets testable (puaClusterKey spareTest.core.toNat) = [] ∧
    nextAnswer testable spareTest.core.toNat 1 = some (0, 0) ∧
    mayStart (elapse 5 testable) spareTest.core.toNat spareTest.kind 0
      (coreMhz testable spareTest.core.toNat) = true ∧
    outranked (elapse 5 testable) spareTest.core.toNat spareTest.kind = false := by decide
theorem test_hyps_thirdRun :
    ({ onSlice .standard with cores := [(8192, { Core.empty with test := some thirdRun })] } : State).cores.find?
      (fun e => match e.2.test with
        | some r => r.test.core = 0#32 && r.third = some e.1
        | none => false) = some (8192, { Core.empty with test := some thirdRun }) ∧
    aCore (onSlice .standard) 0 = true ∧ aCore (onSlice .standard) 4096 = true := by decide
theorem test_hyps_forcedCheckerSlot :
    logicalOf testable 0 = some 0 ∧ forcedCore testable 0 0 = some (0, 0) ∧
    (cluster testable 0).lastChecker + 50000000000 ≤ fieldTime (elapse 50000000000 testable) (ckField 0) ∧
    sliceOfLogical testable 0 ≠ 0 ∧ inService (stateOf testable (clusterPua 7 0)) = true ∧
    fieldTests (elapse 50000000000 testable) (ckField 0) = true ∧ testTargets testable 0 = [] := by decide
theorem test_hyps_testOverdue :
    usable (stateOf testable 0) = true ∧ (Machine.core testable 0).overdue = false ∧
    5 * testInterval testable 0 0 < testAge (elapse 3000000000001 testable) 0 0 := by decide

/-! Witnesses for Obligations.MarginFailureLowersFmax. -/
/-- An fmax change request for core 0. -/
def fmaxEvent (outcome : Nat) : Event :=
  { recordEvent State.reset 0 0 0 (leBytes 1 4 ++ leBytes 1 outcome) with kind := .fmax, cause := 0x15 }
/-- A state whose CD1 handles it. -/
def fmaxState (outcome : Nat) : State := modDie 1 (fun x => { x with handling := [fmaxEvent outcome] }) running
theorem test_hyps_MarginFailureLowersFmax :
    (die (fmaxState 2) 1).recovering = none ∧ (die (fmaxState 2) 1).handling = [fmaxEvent 2] ∧
    (die (fmaxState 1) 1).handling = [fmaxEvent 1] ∧ (fmaxEvent 2).kind = .fmax ∧
    leNat (((fmaxEvent 2).payload.drop 1).take 1) = 2 ∧ leNat (((fmaxEvent 1).payload.drop 1).take 1) = 1 := by decide

/-! Witnesses for Obligations.UnitRecordsOverTime. -/
/-- A state whose core 0 has this unit record. -/
def withUnit (f : UnitRec → UnitRec) : State := modUnit 0 f (modField 0 (fun x => { x with power := 2 }) running)
/-- A pseudo-channel of stack 0 is copied to its spare. -/
def copying : State := { running with copies := [⟨0, 2, 31, 0x0A⟩] }
/-- A state in which die 0 screens. -/
def screening : State :=
  modUnit 0 (fun r => { r with state := .screening })
    (modDie 0 (fun x => { x with stage := 8, stageRan := true, status := 1 }) running)
theorem test_hyps_UnitRecordsOverTime :
    ((unitRec (withUnit fun r => { r with state := .watched, lastPoints := some 0 }) 0).lastPoints = some 0 ∧
      stateOf (withUnit fun r => { r with state := .watched, lastPoints := some 0 }) 0 = .watched ∧
      0 + obj running (key 0x2902 0) 86400 * 1000000000 ≤ pt (elapse 86400000000000 running)) ∧
    ((unitRec (withUnit fun r => { r with state := .quarantined, holdFrom := some 0 }) 0).holdFrom = some 0 ∧
      stateOf (withUnit fun r => { r with state := .quarantined, holdFrom := some 0 }) 0 = .quarantined ∧
      0 + obj running (key 0x2903 0) 600 * 1000000000 ≤ pt (elapse 600000000000 running)) ∧
    (screenRuns (elapse 5 screening) 0 = true ∧ stateOf screening 0 = .screening ∧ gondolaActs screening 0 = true ∧
      screenDone (elapse 5 { screening with screens := [(0, ⟨0, 2, 10000, some 0, false, none, false, []⟩)] }) 0 = true) ∧
    (copying.copies.find? (fun c => c.stack = puaDie (channelPua 0 2) * 16 + puaCluster (channelPua 0 2) &&
        c.failing = puaSub (channelPua 0 2) && puaKind (channelPua 0 2) = 4) = some ⟨0, 2, 31, 0x0A⟩ ∧
      slotOfChannel copying (puaDie (channelPua 0 2) * 16 + puaCluster (channelPua 0 2)) 2 = some 2 ∧
      gondolaActs copying (channelPua 0 2) = true ∧ ∀ c ∈ copying.commits, c.id ≠ copying.nextCommit) ∧
    (puaKind (clusterPua 1 0) = 1 ∧ puaFieldIdx (clusterPua 1 0) < 24 ∧
      (field (withUnit id) (puaFieldIdx (clusterPua 1 0))).power = 2) ∧
    ((die running 0).suspended = false ∧ 0 < running.dies.length ∧ (die running 0).status ≠ 2 ∧ (die running 0).rawBase = none ∧ 0 ∉ (die running 0).reel.unusable ∧ recordsFrozen (elapse 5 running) 0 = false ∧ (running.units.map (·.1)).Nodup ∧
      (unitRec (withUnit fun r => { r with dirty := true }) 0).dirty = true) ∧
    (die (modDie 0 (fun x => { x with suspended := true }) running) 0).suspended = true := by decide

/-! Witnesses for Obligations.ScreeningPolicyIsWritten. -/
/-- A package at S8 whose die 0 serves port A with a session, grants and selectors. -/
def served (c : Machine.Class) (grants : List Grant) (sels : Tab Nat) : State :=
  { onSlice .standard with
    dies := (List.range 4).map fun _ =>
      { Die.reset with stage := 8, stageRan := true, status := 1, dictionary := true, fastReset := false },
    ports := [(0, { Port.empty with nmt := .operational })],
    paths := [(0, { PathState.empty with session := c, lease := 1000000000, grants := grants, objs := sels })] }
/-- Port A of die 0. -/
def portA : Path := .port 0 false
/-- An Operator session with slice 1 selected. -/
def asOperator : State := served .operator [] [(key 0x2403 0, 1)]
/-- A Service session with slice 1 selected. -/
def asService : State := served .service [] [(key 0x2403 0, 1)]
theorem test_hyps_ScreeningPolicyIsWritten :
    accepted (elapse 5 asOperator) portA 0x2400 0 [1] = true ∧
    accepted (elapse 5 asOperator) portA 0x2401 1 [2] = true ∧
    accepted (elapse 5 asOperator) portA 0x2404 1 [2] = true ∧
    (accepted (elapse 5 { asOperator with modelFlag := true }) portA 0x2407 4 [1] = true) ∧
    accepted (elapse 5 asService) portA 0x2503 0 [1] = true ∧
    accepted (elapse 5 asOperator) portA 0x2702 0 [0] = true ∧
    slice asOperator (selectedSlice asOperator portA) = some (inMode .standard) ∧
    slice asService (selectedSlice asService portA) = some (inMode .standard) ∧
    seedDie asService (selectedSlice asService portA) < asService.dies.length := by decide

/-! Witnesses for Obligations.UnitsAreCommanded. -/
/-- A Service session with a one-write grant for an action on core 0, the cursor on it. -/
def asForcing (action : Nat) (st : UnitState) : State :=
  modPath portA (fun x => { x with cursorPua := some 0 })
    (modUnit 0 (fun r => { r with state := st }) (served .service [⟨action, 0, .service, 1000⟩] [(key 0x2403 0, 1)]))
/-- A record of fmax entries with its check, as it is read. -/
def fmaxData : List Byte := fmaxBytes FmaxRec.manufacture
theorem test_hyps_UnitsAreCommanded :
    accepted (elapse 5 asOperator) portA 0x2A01 1 (leBytes 4 7) = true ∧
    accepted (elapse 5 asOperator) portA 0x2A01 2 (leBytes 4 0) = true ∧
    (accepted (elapse 5 (asForcing 0x2A06 .healthy)) portA 0x2A06 0 fmaxData = true ∧
      cursorUnit (asForcing 0x2A06 .healthy) portA = some 0) ∧
    accepted (elapse 5 (asForcing 0x2A09 .healthy)) portA 0x2A09 0 [1] = true ∧
    accepted (elapse 5 (asForcing 0x2A09 .retired)) portA 0x2A09 0 [2] = true ∧
    accepted (elapse 5 (asForcing 0x2A09 .quarantined)) portA 0x2A09 0 [3] = true ∧
    ((unitRec (asForcing 0x2A09 .healthy) 0).open_ = false ∧ usable (stateOf (asForcing 0x2A09 .healthy) 0) = true) ∧
    (accepted (elapse 5 (asForcing 0x2A0A .healthy)) portA 0x2A0A 0 (leBytes 4 65536) = true ∧
      channelExchange (asForcing 0x2A0A .healthy) 0 65536 = false ∧
      exchangeBinding (asForcing 0x2A0A .healthy) 0 65536 = some (.swap 0 0 65536) ∧
      ∀ c ∈ (asForcing 0x2A0A .healthy).commits, c.id ≠ (asForcing 0x2A0A .healthy).nextCommit) ∧
    (accepted (elapse 5 (asForcing 0 .healthy)) portA 0x2C0A 0 [0] = true ∧
      puaDie 0 < (asForcing 0 .healthy).dies.length ∧ puaFieldIdx 0 < (asForcing 0 .healthy).fields.length) := by decide
/-- With no slice the exchange passes the validation of R251. -/
theorem test_hyps_unitExchange : bindingsValid { asForcing 0x2A0A .healthy with slices := [] } [.swap 0 0 65536] = true := by
  decide

/-! Witnesses for Obligations.SuppliesAreCommanded. -/
/-- A state whose tray inputs are released, one latch still set. -/
def latchedTray : State :=
  { asOperator with dies := asOperator.dies.map fun d =>
    { d with tray := d.tray.map fun x => { x with level := true, latched := true } } }
theorem test_hyps_SuppliesAreCommanded :
    (accepted (elapse 5 asOperator) portA 0x2C13 1 [1] = true ∧ asOperator.ripcord.state = 0) ∧
    accepted (elapse 5 asOperator) portA 0x3010 0 [0x4C, 0x04] = true ∧
    accepted (elapse 5 asOperator) portA 0x3003 0 [10] = true ∧
    accepted (elapse 5 asOperator) portA 0x3030 0 [1] = true ∧
    accepted (elapse 5 latchedTray) portA 0x3061 1 [1] = true := by decide

/-! Witnesses for Obligations.StoreAndFirmwareAreCommanded. -/
/-- A session with a one-write grant for the package. -/
def asGranted (action : Nat) (sels : Tab Nat) : State :=
  served .service [⟨action, packagePua, .service, 1000⟩] sels
/-- A session that may write the Service key. -/
def asKeyed : State := served .service [⟨0x3F10, 0xFFFFFFF2, .service, 1000⟩] []
/-- A session that may clear the Reel of die 0. -/
def asClearing : State := served .service [⟨0x3808, diePua 0, .service, 1000⟩] []
/-- A session that may clear the return state. -/
def asMaker : State := served .maker [⟨0x380C, packagePua, .maker, 1000⟩] []
theorem firstFrom_self (n i : Nat) (ok : Nat → Bool) (h : i < n) (g : ok i = true) : firstFrom n i ok = some i := by
  unfold firstFrom
  rw [List.drop_eq_getElem_cons (by simpa using h)]
  simp [g]
theorem test_hyps_StoreAndFirmwareAreCommanded :
    (accepted (elapse 5 (asGranted 0x3422 [])) portA 0x3422 0 [1, 2] = true ∧ (asGranted 0x3422 []).images.length = 2) ∧
    accepted (elapse 5 { asGranted 0x3423 [] with images := [⟨2, 1, []⟩, ⟨1, 2, []⟩] }) portA 0x3423 0 [1] = true ∧
    (accepted (elapse 5 asClearing) portA 0x3808 0 [1] = true ∧ 0 < asClearing.dies.length) ∧
    accepted (elapse 5 (asGranted 0x380C [])) portA 0x380C 0 [1] = true ∧
    accepted (elapse 5 asMaker) portA 0x380C 0 [0] = true ∧
    accepted (elapse 5 asKeyed) portA 0x3F10 2 (List.replicate 32 7) = true ∧
    accepted (elapse 5 asOperator) portA 0x1003 0 [0] = true := by decide
/-- A session that may write the raw store from byte 4,096 on. -/
def asRaw : State := asGranted 0x3F30 [(key 0x3F30 1, 4096)]
/-- The row of 0x3F30:02. -/
def rawRow : ObjRow := (objRow 0x3F30 2).getD ⟨0, 0, 0, 0, false, false, none, none, 0, 0, 1, .request, false, []⟩
theorem rawStoreRange : rangeHolds (elapse 5 asRaw) portA rawRow 2 513 [1, 2] = true := by
  have h : sel (elapse 5 asRaw) portA 0x3F30 1 % 2 ^ 31 + ([1, 2] : List Byte).length ≤
      storeBytes (sel (elapse 5 asRaw) portA 0x3F30 3) (sel (elapse 5 asRaw) portA 0x3F30 1 / 2 ^ 31) :=
    Nat.le_trans (by decide) (Nat.le_max_left _ _)
  exact decide_eq_true h
theorem test_hyps_rawStoreWrite : accepted (elapse 5 asRaw) portA 0x3F30 2 [1, 2] = true ∧
    sel asRaw portA 0x3F30 3 < asRaw.dies.length ∧ Memory.wf (die asRaw (sel asRaw portA 0x3F30 3)).store = true := by
  have hj : judgeWrite (elapse 5 asRaw) portA 0x3F30 2 [1, 2] = none := by
    have h0 : indexExists 0x3F30 = true := by decide
    have h1 : objRow 0x3F30 2 = some rawRow := by decide
    have h2 : rawRow.wr = some 3 := by decide
    have h3 : classHolds (elapse 5 asRaw) portA rawRow 2 true 3 513 = true := by decide
    have h4 : rawRow.upTo = true := by decide
    have h6 : commonRefuses (elapse 5 asRaw) portA rawRow 2 true 513 = false := by decide
    have h7 : stateRefuses (elapse 5 asRaw) portA rawRow 2 513 = false := by decide
    have hv : leNat ([1, 2] : List Byte) = 513 := by decide
    unfold judgeWrite
    simp only [hv, h0, h1, h2, h4, h6, h7, rawStoreRange]
    simp [h3]
    decide
  have hs : pathServed (elapse 5 asRaw) portA = true := by decide
  have hp : ((objRow 0x3F30 2).any fun r => !packageWrite r 2 (leNat [1, 2]) || sequencerFree (elapse 5 asRaw)) = true := by
    decide
  refine ⟨?_, by decide, by decide⟩
  unfold accepted
  rw [hj, hs, hp]
  rfl
theorem test_hyps_nextReadableRecord :
    readable (elapse 5 asOperator) portA 0x3806 0 64 = true ∧
    firstFrom 1048576 (sel asOperator portA 0x3804 0) (mayReadRecord (elapse 5 asOperator) portA) = some 0 :=
  ⟨by decide, firstFrom_self 1048576 0 _ (by omega) (by decide)⟩

/-! Witnesses for Obligations.CountersAndTraceAreCommanded. -/
/-- A package with one slot of each state on die 0, and one chunk. -/
def tracing : State :=
  { asOperator with
    traces := [(0, demoTrace 0), (1, { demoTrace 1 with owner := 0 }),
      (2, { demoTrace 2 with owner := 0 }), (3, { demoTrace 3 with owner := 0 })],
    dies := asOperator.dies.map fun d => { d with traceRegion := [(0, [0, 1])] } }
theorem test_hyps_CountersAndTraceAreCommanded :
    (readable (elapse 5 asOperator) portA 0x3A03 0 8 = true) ∧
    (accepted (elapse 5 asOperator) portA 0x3A04 1 [1] = true ∧ asOperator.snapshot = none) ∧
    accepted (elapse 5 tracing) portA 0x3B03 0 (leBytes 4 7) = true ∧
    accepted (elapse 5 tracing) portA 0x3B04 0 (leBytes 4 (clusterPua 6 0)) = true ∧
    accepted (elapse 5 tracing) portA 0x3B06 0 [1] = true ∧ accepted (elapse 5 tracing) portA 0x3B06 0 [2] = true ∧
    accepted (elapse 5 tracing) portA 0x3B06 0 [3] = true ∧
    ((tget tracing.traces 1).isSome = true ∧ armOwner (elapse 5 tracing) portA = 0) ∧
    readable (elapse 5 tracing) portA 0x3B08 3 4096 = true := by decide
theorem test_hyps_counterRead :
    (counterValue (elapse 5 asOperator) portA (sel asOperator portA 0x3A01 0)
      (heldClass (elapse 5 asOperator) portA false = 1)).isSome = true := by decide
theorem test_hyps_nextReadableChunk :
    firstFrom 16384 (sel tracing portA 0x3B08 1) (fun i => mayReadChunk (elapse 5 tracing) portA i &&
      (tget (die tracing (sel tracing portA 0x3B01 0)).traceRegion i).isSome) = some 0 :=
  firstFrom_self 16384 0 _ (by omega) (by decide)

/-! Witnesses for Obligations.AuthorisationExchange. -/
/-- Port A asks for a Service session and holds a nonce for it. -/
def asking : State :=
  modPath portA (fun x => { x with
    objs := [(key 0x3F01 1, 3), (key 0x3F01 2, packagePua), (key 0x3F01 3, 3)], nonce := some (99, 3, packagePua, 3, 1000) })
    { served .none [] [] with keys := [(3, [1, 2, 3])] }
/-- The right response to that nonce. -/
def demoResponse : List Byte := (hmac [1, 2, 3] (leBytes 8 99 ++ leBytes 2 3 ++ leBytes 4 packagePua)).take 8
theorem test_hyps_AuthorisationExchange :
    (readable (elapse 5 asking) portA 0x3F02 0 8 = true ∧ inBackoff (elapse 5 asking) portA = false ∧
      nonceReason asking portA (requestedAction asking portA).1 (requestedAction asking portA).2.1
        (requestedAction asking portA).2.2 = 0 ∧
      nonceReason { asking with keys := [(3, [])] } portA 3 packagePua 3 ≠ 0) ∧
    (accepted (elapse 5 asking) portA 0x3F03 0 (zeros 8) = true ∧
      validNonce (elapse 5 asking) portA = some (99, 3, packagePua, 3)) ∧
    accepted (elapse 5 asOperator) portA 0x3F04 1 [1] = true ∧
    (path asOperator portA).lease ≤ asOperator.now + 1000000000 ∧
    (path asking portA).nonce = some (99, 3, packagePua, 3, 1000) ∧
    (path (modPath portA (fun x => { x with backoff := some 7 }) asking) portA).backoff = some 7 := by decide
theorem test_hyps_rightResponse : accepted (elapse 5 asking) portA 0x3F03 0 demoResponse = true := by decide

/-! Witnesses for Obligations.TransfersAndMailboxes. -/
/-- A session with an open transfer. -/
def withSdo (x : Sdo) : State := modPath portA (fun y => { y with sdo := some x }) asOperator
/-- A segmented download of the step cap. -/
def demoDownload : Sdo := ⟨true, 0x3003, 0, 1, [], 0, .operator, []⟩
/-- A mailbox request with its check. -/
def demoRequestOf (op index sub length : Nat) : MailReq := withRequestCheck ⟨op, index, sub, length, 0, 0, [3], 0⟩
/-- A package whose mailbox 0 holds an Operator session. -/
def mailServed : State := modPath (.mailbox 0) (fun x => { x with session := .operator, lease := 1000000000 }) asOperator
/-- The mailbox with a request named. -/
def mailNamed (op : Nat) : State := modMailbox 0 (fun x => { x with op := op, tag := 0 }) (elapse 5 mailServed)
theorem test_hyps_TransfersAndMailboxes :
    (pathServed (elapse 5 asOperator) portA = true ∧ judgeWrite (elapse 5 asOperator) portA 0x3003 0 [99] = some abRange ∧
      judgeInitiate (setSdo portA none (elapse 5 asOperator)) portA 0x3003 0 = none ∧
      accepted (setSdo portA none (elapse 5 asOperator)) portA 0x3003 0 [3] = true) ∧
    ((path (withSdo demoDownload) portA).sdo = some demoDownload ∧
      judgeWrite (asInitiated portA demoDownload (setSdo portA none (elapse 5 (withSdo demoDownload)))) portA 0x3003 0 [3] =
        none ∧ (objRow 0x3003 0).isSome = true ∧ sequencerFree (withSdo demoDownload) = true) ∧
    (crc32c (requestBytes (demoRequestOf 2 0x3003 0 1)) = (demoRequestOf 2 0x3003 0 1).check) ∧
    accepted (mailNamed 2) (.mailbox 0) 0x3003 0 ((fitBytes 32 [3]).take 1) = true ∧
    (readable (mailNamed 1) (.mailbox 0) 0x3003 0 1 = true ∧ ((objRow 0x3003 0).bind fun r =>
      objectBytes (mailNamed 1) (.mailbox 0) r 0 1).isSome = true ∧ longDomain 0x3003 0 = false) ∧
    accepted (mailNamed 6) (.mailbox 0) 0x3003 0 [3] = true ∧
    (pathExists running (.mailbox 0) = true ∧ pathServed (elapse 5 running) (.mailbox 0) = false) ∧
    accepted (elapse 5 asOperator) portA 0x3F20 2 (leBytes 2 1) = true ∧
    accepted (elapse 5 asOperator) portA 0x3F20 2 (leBytes 2 0) = true := by decide

/-! Witnesses for Obligations.IdleNoticesAndReturns. -/
/-- A notice of one slot of slice 1, one second ahead. -/
def demoNotice (period : Nat) : IdleNotice := ⟨1, 0, 9, 2000000000, 100000, period, 0, 1⟩
theorem test_hyps_IdleNoticesAndReturns :
    (pathServed (elapse 5 asOperator) portA = true ∧ slice asOperator 1 = some (inMode .standard) ∧
      noticeAccepted (elapse 5 asOperator) portA false (demoNotice 0) = true ∧
      noticeAccepted (elapse 5 asOperator) portA true (demoNotice 1000000) = true ∧
      noticeAccepted (elapse 5 asOperator) portA false (demoNotice 5) = false ∧
      noticeFields asOperator (demoNotice 0) = [0] ∧ fieldTime (elapse 5 asOperator) 0 < (demoNotice 0).start ∧
      sliceLive (inMode .standard) = true ∧ pathObserves (elapse 5 asOperator) portA 1 = true) ∧
    (runningReset (modCore 0 (fun c => { c with resetRun := some ⟨0, 0, true, false⟩ }) running) 0 0 =
        some ⟨0, 0, true, false⟩ ∧
      (modCore 0 (fun c => { c with resetRun := some ⟨0, 0, true, false⟩ }) running).now + 5 ≤ 0 + recoveryLimit 0 ∧
      canReturn (modCore 0 (fun c => { c with resetRun := some ⟨0, 0, true, false⟩ }) running) 0 0 = true) := by decide

/-! Witnesses for Obligations.StagesRunAndEnd. -/
/-- No finding. -/
def noFindings : StageFindings := ⟨[], [], [], [], 0⟩
/-- A state whose dies stand at a stage. -/
def atStage (n : Nat) (ran done_ : Bool) : State :=
  { running with
    ptStarted := true, anchorReady := true,
    dies := (List.range 4).map fun _ =>
      { Die.reset with vaon := true, stage := n, stageRan := ran, stageDone := done_, fastReset := false } }
theorem test_hyps_StagesRunAndEnd :
    (0 < (atStage 0 false false).variant.dies ∧ 0 < (atStage 0 false false).dies.length ∧
      (die (atStage 0 false false) 0).vaon = true ∧
      (∀ e ∈ dieIdxs (atStage 0 false false), (die (atStage 0 false false) e).stage = 0 ∧
        (die (atStage 0 false false) e).stageRan = false)) ∧
    ((die (atStage 0 true true) 0).status = 1 ∧ (die (atStage 0 true true) 0).stageDone = true ∧
      (die (atStage 0 true true) 0).fastReset = false) ∧
    ((die (atStage 2 false false) 0).stage = 2 ∧ (die (atStage 2 false false) 0).stageRan = false ∧
      (atStage 2 false false).requests = [] ∧ (atStage 2 false false).anchorDie = 0) ∧
    (stageEnds (atStage 1 true false) 0 1 = true ∧ stageEnds (atStage 2 true false) 0 2 = false) ∧
    ((dieIdxs (atStage 1 true true)).filter (fun d => (die (atStage 1 true true) d).status = 1) = [0, 1, 2, 3] ∧
      (∀ d ∈ [0, 1, 2, 3], (die (atStage 1 true true) d).stage = 1 ∧ (die (atStage 1 true true) d).stageDone = true)) ∧
    ({ atStage 1 true false with anchorReady := false }.anchorReady = false ∧ (atStage 1 true false).reference = true ∧ (atStage 1 true false).anchorDie ≠ 1 ∧
      (die (atStage 1 true false) 1).leftS0 + 500000000 ≤ (atStage 1 true false).now + 500000000) ∧
    ((die (atStage 3 true false) 0).stageStart + stageLimit (atStage 3 true false) 0 ≤
      (atStage 3 true false).now + 1000000000) ∧
    ((({ atStage 8 true true with images := [⟨2, 1, []⟩, ⟨1, 2, []⟩], imageInUse := 1 } : State).images.getD 1
        ⟨0, 0, []⟩).state = 1 ∧
      (∀ d ∈ dieIdxs (atStage 8 true true), atS8 (die (atStage 8 true true) d) = true)) := by decide
theorem test_hyps_trialCommitTimeout : obj (setObj (key 0x3408 2) 0 (atStage 8 true true)) (key 0x3408 2)
      (pt (elapse 3600000000000 (setObj (key 0x3408 2) 0 (atStage 8 true true)))) + 3600000000000 ≤
    pt (elapse 3600000000000 (setObj (key 0x3408 2) 0 (atStage 8 true true))) := by decide

/-! Witnesses for Obligations.DiscoveryAndTheSelfTest. -/
/-- The Bridle of the first cluster. -/
def demoBridle : Pua := BitVec.ofNat 32 (clusterPua 7 0)
/-- Stage S3 with the release groups of field 0 on. -/
def discovering : State :=
  modField 0 (fun x => { x with group := 7, releases := List.replicate 7 0 }) (atStage 3 true false)
/-- A shutdown whose self-test is due, die 0 in a test slice where asked. -/
def shuttingDown (t : Option (Nat × Nat)) : State :=
  let s := modDie 0 (fun x => { x with testSlice := t }) running
  { s with ripcord := { s.ripcord with state := 2, target := 2, reached := false } }
/-- A die whose field 0 holds a registration. -/
def registrationHeld : State :=
  modField 0 (fun x => { x with queue := [{ demoEvent with pua := agentPua 0, registers := some (0, 0) }] }) (atStage 2 true false)
theorem test_hyps_registrationLands :
    (sequencerFree registrationHeld = true ∨ (die registrationHeld 0).toAnchor = []) ∧
    (((List.range 7).map fun i => ((die registrationHeld 0).arbiterLast + 1 + i) % 7).find? fun i =>
      (inputHead registrationHeld 0 i).isSome) = some 0 ∧
    (inputHead registrationHeld 0 0).map (fun e => (e.pua, e.registers)) = some (agentPua 0, some (0, 0)) := by decide
theorem test_hyps_DiscoveryAndTheSelfTest :
    (puaDie (agentPua 0) < (atStage 2 true false).variant.dies ∧ (die (atStage 2 true false) 0).status = 1 ∧
      puaValid (atStage 2 true false).variant (agentPua 0) = true ∧ puaKind (agentPua 0) = 8 ∧
      (BitVec.ofNat 32 (agentPua 0)).toNat = agentPua 0 ∧ stateOf (atStage 2 true false) (agentPua 0) ≠ .absent ∧
      stateOf (modUnit (agentPua 0) (fun r => { r with state := .absent }) (atStage 2 true false)) (agentPua 0) = .absent) ∧
    (puaValid discovering.variant demoBridle.toNat = true ∧ puaKind demoBridle.toNat = 7 ∧
      (die discovering (puaDie demoBridle.toNat)).stage = 3 ∧
      siteOfCluster (puaCluster demoBridle.toNat) / 100 < (field discovering (puaFieldIdx demoBridle.toNat)).group ∧
      (field discovering (puaFieldIdx demoBridle.toNat)).releases[siteOfCluster (puaCluster demoBridle.toNat) / 100]? =
        some 0 ∧ (cluster discovering (puaClusterKey demoBridle.toNat)).registered = false ∧
      stateOf discovering demoBridle.toNat ≠ .absent ∧
      ((field discovering (puaFieldIdx demoBridle.toNat)).queue.any fun e => e.registers.isSome && e.pua = demoBridle.toNat) =
        false) ∧
    (shutdownReady (shuttingDown none) = true ∧ selfTestDue (shuttingDown none) = true ∧
      Machine.testing (shuttingDown none) = false) ∧
    ((die (shuttingDown (some (3, 0))) 0).testSlice = some (3, 0) ∧
      (shuttingDown none).now + 1000 ≤ 0 + testBudget (shuttingDown none) ∧
      0 + testBudget (shuttingDown none) ≤ (shuttingDown none).now + 150000000 ∧
      stateOf (shuttingDown none) 0 ≠ .screening) := by decide

/-! Witnesses for Obligations.PuaLayout. -/
theorem test_hyps_PuaLayout : puaValid .dh100 (mkPua 3 5 831 16 0 0) = true ∧ puaValid .dh25 (mkPua 0 5 0x3FF 31 5 23) = true ∧
    puaValid .dh25 (mkPua 1 0 0 0 0 0) = false ∧ puaValid .dh100 (mkPua 0 6 0 0 0 0) = false ∧
    mkPua 3 7 1023 31 15 255 < 2 ^ 32 ∧ mkPua 2 1 0x3FF 31 2 0x80 = 0x8FFFF280 := by decide

/-! Witnesses for Obligations.LogicalCoreNumbers. -/
theorem test_hyps_LogicalCoreNumbers : Variant.dh100.dies = 4 ∧ ((3 * 6 + 5) * 800 + 799) * 16 + 15 = 307199 ∧
    tget [(7, some 9)] 7 = some (some 9) ∧ (field State.reset 0).power ≠ 3 ∧
    coreOf State.reset 307199 = some (mkPua 3 5 831 15 0 0 - 0) := by decide

/-! Witnesses for Obligations.SitesAndCoordinates. -/
theorem test_hyps_SitesAndCoordinates : siteCoord 23 799 = (79, 59, 3) ∧ coordSite 79 59 3 = (23, 799) ∧ homeOfSite 799 = 831 ∧
    homeOfSite 18 = 18 ∧ homeOfSite 19 = 20 ∧ isBay 825 = true ∧ siteOfCluster 825 = 793 ∧ siteHasBay 18 = true := by decide

/-! Witnesses for Obligations.BoxesOfTheTorus. -/
theorem test_hyps_BoxesOfTheTorus : inBox (79, 59, 3) (2, 2, 2) (0, 0, 0) = true ∧ inBox (79, 59, 3) (2, 2, 2) (1, 0, 0) = false ∧
    sliceAt (withSlice 1 demoSlice) (0, 0, 0) = 1 ∧ sliceAt (withSlice 1 demoSlice) (1, 0, 0) = 0 ∧
    demoSlice.life ≠ .ended := by decide

/-! Witnesses for Obligations.BridgeLinksHaveTwoEnds. -/
theorem test_hyps_BridgeLinksHaveTwoEnds : bridgePeer (portPua 3 2) = portPua 0 6 ∧ bridgeUp State.reset 3 2 = true ∧
    bridgeUp (modUnit (portPua 0 6) (fun r => { r with state := .quarantined }) State.reset) 3 2 = false := by decide

/-! Witnesses for Obligations.ModeInForceOfASlice. -/
theorem test_hyps_ModeInForceOfASlice : undefinedCase State.reset 117 = false ∧ obj State.reset (key 0x2400 0) 0 ≤ 3 ∧
    tgetD demoSlice.objs (key 0x2404 1) 0xFF = 0xFF ∧ roleDefault State.reset demoSlice.role ≤ 3 ∧
    wantedMode State.reset { demoSlice with role := 0 } = .strict ∧ demoSlice.switches = [] ∧
    accepted (elapse 1000 asOperator) portA 0x2400 0 [1] = true := by decide

/-! Witnesses for Obligations.WeightVectors. -/
theorem test_hyps_WeightVectors : [weightOf 0, weightOf 1, weightOf 2, weightOf 3] = [1, -1, 3, -3] ∧
    (weights 5 7 9 0 128).length = 128 ∧ (5 : Nat) ≤ 128 := by decide

/-! Witnesses for Obligations.StreamerWordLayout. -/
/-- The word of a poisoned block of four bytes. -/
def badWord : Word64 := streamerWord (~~~ (crc32c [1, 2, 3, 4])).toNat 7 1 5 1 1
theorem test_hyps_StreamerWordLayout : wordSlice badWord = 5 ∧ wordGeneration badWord = 7 ∧ wordPoison badWord = true ∧
    arrivalTest 7 5 true badWord [1, 2, 3, 4] = .poisoned ∧ arrivalTest 7 5 true badWord [1, 2, 3, 5] = .mismatch := by
  decide

/-! Witnesses for Obligations.FullReelKeepsItsLastIndex. -/
/-- A Reel at its last index but one. -/
def lastButOne : State := withReel { Reel.reset with next := 1048574, current := some demoEntry, queue := [demoEntry] }
theorem test_hyps_FullReelKeepsItsLastIndex :
    ((die lastButOne 1).reel.current = some demoEntry ∧ (die lastButOne 1).reel.next = 1048574 ∧ 1 < lastButOne.dies.length) ∧
    (startRecord false { Reel.reset with next := 1048575, queue := [{ demoEntry with event := { demoEvent with code := 0x3807 } }] }).current.isSome = true ∧
    reelUsable { Reel.reset with next := 1048576 } = true := by decide

/-! Witnesses for Obligations.KeyWriteStoresAndEndsSessions. -/
theorem test_hyps_KeyWriteStoresAndEndsSessions :
    (accepted (elapse 5 asKeyed) portA 0x3F10 2 (List.replicate 32 7) = true ∧ pathDie portA < asKeyed.dies.length) ∧
    judgeRead asKeyed portA 0x3F10 0 1 = none := by decide

/-! Witnesses for Obligations.ChargesToUnitsOutOfService. -/
/-- A die with an event charged to a retired core in its handling queue and with its number returned. -/
def chargedRetired : State :=
  let e := { demoEvent with kind := .charge, cause := 1, pua := 0, die := 1, scope := 0 }
  modUnit 0 (fun r => { r with state := .retired }) (modDie 1 (fun x => { x with handling := [e], returns := [⟨e, 1, 3⟩] }) running)
theorem test_hyps_ChargesToUnitsOutOfService :
    ((die chargedRetired 1).recovering = none ∧ (die chargedRetired 1).handling.map (·.kind) = [.charge] ∧
      (die chargedRetired 1).handling.map (fun e => stateOf chargedRetired e.pua) = [.retired]) ∧
    ((die chargedRetired 1).returns.map (fun n => (n.event.code, n.event.scope, n.event.die)) = [(0x3806, 0, 1)] ∧
      (die chargedRetired 1).suspended = false ∧ reelUsable (die chargedRetired 1).reel = true ∧
      (die chargedRetired 1).reel.next < fullIndex) := by decide

/-! Witnesses for Obligations.StoreBytesAreMemory. -/
theorem test_hyps_StoreBytesAreMemory : Memory.wf [(3, 7), (9, 0)] = true ∧ Memory.wf [(3, 7), (3, 0xFF)] = false ∧
    Memory.wf [(9, 0), (3, 7)] = false ∧ memPut [(3, 7)] 3 0xFF = [(3, 0xFF)] := by decide

/-! Witnesses for Obligations.StepRunsTheFrontCommand. -/
theorem test_hyps_StepRunsTheFrontCommand :
    let s := { running with pending := [.modelBucketRoll 5, .modelBucketRoll 7] }
    s.pending = .modelBucketRoll 5 :: [.modelBucketRoll 7] ∧ running.pending = [] ∧
      (match step s with | .next t => t.pending == [.modelBucketRoll 7] | _ => false) = true := by decide

/-! Witnesses for Obligations.EveryCommandCompletes. -/
theorem test_EveryCommandCompletes : (match step running with | .next t => t == running | _ => false) = true := by decide

/-! Witnesses for Obligations.EveryCommandKeepsTheInvariant. -/
theorem test_hyps_EveryCommandKeepsTheInvariant : WellKept State.reset ∧
    { running with pending := [.modelBucketRoll 5] }.pending = .modelBucketRoll 5 :: [] ∧
    (match step { running with pending := [.modelBucketRoll 5] } with | .next t => t.now == 5 | _ => false) = true := by
  decide

/-! Witnesses for Obligations.SnapshotCommandsComplete. -/
theorem test_hyps_SnapshotCommandsComplete :
    ({ running with snapshot := some ⟨102400, [0, 9], false⟩ }.snapshot = some ⟨102400, [0, 9], false⟩ ∧
      102400 + 32 ≤ pt (elapse 102432 { running with snapshot := some ⟨102400, [0, 9], false⟩ })) ∧
    ({ running with snapshot := some ⟨102400, [0, 9], true⟩ }.snapshot = some ⟨102400, [0, 9], true⟩ ∧
      (∀ x ∈ running.dies, x.recovering = none) ∧ [0, 9].Nodup) := by decide
/-- The latched snapshot has its results in place, and its path shows them (one run of each command). -/
theorem test_snapshot_gathers :
    (match exec (.snapshotGatherComplete 0) { running with snapshot := some ⟨102400, [0], true⟩ } with
      | .next t => (path t (.port 0 false)).snapshot == some (3, running.snapshots + 1, 102400, 102432) && t.snapshot.isNone
      | _ => false) = true := by decide

/-! Witnesses for Obligations.TestAccessPortInstructionsComplete. -/
/-- A state in the return state under a Maker session. -/
def returnState : State :=
  modReel 1 (fun r => { r with returned := true })
    (modPath (.port 0 false) (fun x => { x with session := .maker, lease := 10 }) running)
theorem test_hyps_TestAccessPortInstructionsComplete :
    1 < returnState.dies.length ∧ 1 < returnState.variant.dies ∧ testRuns returnState 1 = false ∧
      tapOpen (elapse 5 returnState) = true := by decide

end Sys2Proof.Tests
end

section
/-!
SUPPORT. The statements on the numbering of the package and on the state after reset.
-/
namespace Sys2Proof.Machine

/-! ### Unit addresses (R5) -/

/-- Each field of an address built from fields in width reads back. -/
theorem fields_mkPua {d f c k u n : Nat} (hd : d < 4) (hf : f < 8) (hc : c < 1024) (hk : k < 32) (hu : u < 16) (hn : n < 256) :
    mkPua d f c k u n < 2 ^ 32 ∧ puaDie (mkPua d f c k u n) = d ∧ puaField (mkPua d f c k u n) = f ∧
    puaCluster (mkPua d f c k u n) = c ∧ puaCore (mkPua d f c k u n) = k ∧ puaKind (mkPua d f c k u n) = u ∧
    puaSub (mkPua d f c k u n) = n := by
  simp only [mkPua, puaDie, puaField, puaCluster, puaCore, puaKind, puaSub]
  omega

/-- An address is the sum of its fields. -/
theorem mkPua_fields {p : Nat} (h : p < 2 ^ 32) :
    p = mkPua (puaDie p) (puaField p) (puaCluster p) (puaCore p) (puaKind p) (puaSub p) := by
  simp only [mkPua, puaDie, puaField, puaCluster, puaCore, puaKind, puaSub]
  omega

/-- The fields of an address are its bits. -/
theorem fields_eq_extractLsb' (p : Pua) : puaDie p.toNat = (p.extractLsb' 30 2).toNat ∧
    puaField p.toNat = (p.extractLsb' 27 3).toNat ∧ puaCluster p.toNat = (p.extractLsb' 17 10).toNat ∧
    puaCore p.toNat = (p.extractLsb' 12 5).toNat ∧ puaKind p.toNat = (p.extractLsb' 8 4).toNat ∧
    puaSub p.toNat = (p.extractLsb' 0 8).toNat := by
  simp [puaDie, puaField, puaCluster, puaCore, puaKind, puaSub, BitVec.extractLsb'_toNat, Nat.shiftRight_eq_div_pow]

/-- A valid address has its fields in the ranges of R6. -/
theorem puaValid_ranges {v : Variant} {p : Nat} (h : puaValid v p = true) :
    p < 2 ^ 32 ∧ puaDie p ≤ 3 ∧ puaField p ≤ 5 ∧ (puaCluster p ≤ 831 ∨ puaCluster p = 0x3FF) ∧
    (puaCore p ≤ 16 ∨ puaCore p = 31) ∧ puaKind p ≤ 8 := by
  have hv : v.dies ≤ 4 := by cases v <;> decide
  simp only [puaValid, Bool.and_eq_true, decide_eq_true_eq] at h
  obtain ⟨⟨⟨hp, hd⟩, hf⟩, hk⟩ := h
  refine ⟨hp, by omega, by omega, ?_⟩
  split at hk <;> simp_all <;> omega

/-- Settles O42: the layout is arithmetic on the six fields, and validity bounds each of them. -/
theorem puaLayout : Obligations.PuaLayout :=
  ⟨fun _ _ _ _ _ _ hd hf hc hk hu hn => fields_mkPua hd hf hc hk hu hn, fun _ => mkPua_fields, fields_eq_extractLsb',
    fun _ _ => puaValid_ranges⟩

/-! ### Logical core numbers (R7, R20) -/

/-- No field of a package after reset is dark. -/
theorem field_reset_power (f : Nat) : (field State.reset f).power = 0 := by
  have h : ∀ n, (List.replicate n Field.reset).getD f Field.reset = Field.reset := fun n => by
    rw [List.getD_eq_getElem?_getD, List.getElem?_replicate]
    split <;> rfl
  exact congrArg Field.power (h 24)

/-- The field and the cluster of a cluster key. -/
theorem ckField_clusterKey {b : Nat} (f : Nat) (h : b < 832) : ckField (clusterKey f b) = f := by
  simp only [ckField, clusterKey]
  omega
theorem ckCluster_clusterKey {b : Nat} (f : Nat) (h : b < 832) : ckCluster (clusterKey f b) = b := by
  simp only [ckCluster, clusterKey]
  omega
theorem ckDie_clusterKey {b : Nat} (f : Nat) (h : b < 832) : ckDie (clusterKey f b) = f / 6 := by
  simp only [ckDie, clusterKey]
  omega

/-- A core of R20 by its place: the home cluster of a site has a number below 832. -/
theorem manufactureCore_place {d f c k : Nat} (hf : f < 6) (hc : c < 800) (hk : k < 16) :
    manufactureCore (((d * 6 + f) * 800 + c) * 16 + k) = mkPua d f (homeOfSite c) k 0 0 := by
  have hb : homeOfSite c < 832 := by simp only [homeOfSite]; omega
  have hl : (((d * 6 + f) * 800 + c) * 16 + k) / 16 = (d * 6 + f) * 800 + c := by omega
  have hn : (((d * 6 + f) * 800 + c) * 16 + k) % 16 = k := by omega
  have hg : ((d * 6 + f) * 800 + c) / 800 = d * 6 + f := by omega
  have hs : ((d * 6 + f) * 800 + c) % 800 = c := by omega
  have hd : (d * 6 + f) / 6 = d := by omega
  have hr : (d * 6 + f) % 6 = f := by omega
  simp only [manufactureCore, manufactureCluster, corePua, hl, hn, hg, hs, ckDie_clusterKey _ hb, ckField_clusterKey _ hb,
    ckCluster_clusterKey _ hb, hd, hr]

/-- Every number below the variant's count is the LCN of a place. -/
theorem place_of_lcn {v : Variant} {n : Nat} (h : n < v.lcns) :
    ∃ d f c k, d < v.dies ∧ f < 6 ∧ c < 800 ∧ k < 16 ∧ n = ((d * 6 + f) * 800 + c) * 16 + k := by
  simp only [Variant.lcns] at h
  refine ⟨n / 76800, n / 12800 % 6, n / 16 % 800, n % 16, ?_, ?_, ?_, ?_, ?_⟩ <;> omega

/-- Settles O43: division with remainder by 16, 800 and 6, and the empty map of the state after reset. -/
theorem logicalCoreNumbers : Obligations.LogicalCoreNumbers := by
  refine ⟨fun v d f c k hd hf hc hk => ?_, rfl, rfl, fun _ _ => place_of_lcn, fun d f c k d' f' c' k' _ _ _ _ _ _ _ => by omega,
    fun s n p h hp => ?_, fun d f c k _ hf hc hk => ?_⟩
  · simp only [Variant.lcns, lcnCluster]
    omega
  · simp [coreOf, h, hp]
  · rw [← manufactureCore_place hf hc hk]
    rw [coreOf, if_neg (by rw [field_reset_power]; decide)]
    rfl

/-! ### The state after reset -/

/-- Settles O54: `State.reset` evaluated. -/
theorem resetState : Obligations.ResetState := by
  refine ⟨fun d hd => ?_, fun f hf => ?_, fun _ => ⟨rfl, rfl⟩, fun _ _ => rfl, fun _ => rfl, fun _ => rfl, rfl, rfl, rfl,
    rfl, rfl, rfl, rfl⟩
  · have hcs : (die State.reset d).reel.cs0 = [] ∧ (die State.reset d).reel.cs1 = [] := by
      interval_cases d <;> exact ⟨rfl, rfl⟩
    have hbytes : ∀ cs i, reelBytes State.reset d cs i = List.replicate 64 0xFF := fun cs i => by
      cases cs <;> simp [reelBytes, hcs, storedRecord, tgetD, tget, erasedByte]
    interval_cases d <;> exact ⟨rfl, rfl, rfl, rfl, rfl, rfl, hbytes, rfl, rfl⟩
  · interval_cases f <;> exact ⟨rfl, rfl, rfl⟩

/-- Settles O55: the two cases of `step`. -/
theorem stepRunsTheFrontCommand : Obligations.StepRunsTheFrontCommand := by
  refine ⟨fun s c rest h => ?_, fun s h => ?_, fun _ _ => rfl⟩ <;> simp [step, h]

/-! ### The invariant -/

/-- Settles O58: four dies, 24 fields, and stores that hold no cell. -/
theorem invariantHoldsAtReset : Obligations.InvariantHoldsAtReset := ⟨by decide, by decide, wf_reset⟩

/-- Every command keeps what no operation changes, from the state in which its time has passed. -/
theorem ends_exec (c : Instr) (s : State) : Ends (elapse c.dt s) (exec c s) :=
  match c with
  | .objectWrite dt a b c d => ends_execObjectWrite dt a b c d s
  | .sdoInitiate dt a b c d e f => ends_execSdoInitiate dt a b c d e f s
  | .sdoSegment dt a b c => ends_execSdoSegment dt a b c s
  | .sdoTimeout dt a => ends_execSdoTimeout dt a s
  | .mailboxRead dt a b => ends_execMailboxRead dt a b s
  | .mailboxWrite dt a b => ends_execMailboxWrite dt a b s
  | .mailboxBulkRead dt a b => ends_execMailboxBulkRead dt a b s
  | .mailboxBulkWrite dt a b c => ends_execMailboxBulkWrite dt a b c s
  | .unitCursorByLcn dt a b => ends_execUnitCursorByLcn dt a b s
  | .unitCursorByPua dt a b => ends_execUnitCursorByPua dt a b s
  | .sliceCreate dt a => ends_execSliceCreate dt a s
  | .sliceTeardown dt a => ends_execSliceTeardown dt a s
  | .generationLoadAck dt a b => ends_execGenerationLoadAck dt a b s
  | .quiesceMarkSend dt a b c d => ends_execQuiesceMarkSend dt a b c d s
  | .quiesceMarkArrival dt a b => ends_execQuiesceMarkArrival dt a b s
  | .quiesceTimeout dt a => ends_execQuiesceTimeout dt a s
  | .zeroFillComplete dt a b => ends_execZeroFillComplete dt a b s
  | .eventReport dt a b => ends_execEventReport dt a b s
  | .arbiterForward dt a => ends_execArbiterForward dt a s
  | .eventSequence dt => ends_execEventSequence dt s
  | .checkpointWriteComplete dt => ends_execCheckpointWriteComplete dt s
  | .sequenceReturn dt a => ends_execSequenceReturn dt a s
  | .eventHandling dt a => ends_execEventHandling dt a s
  | .shadowLoadAck dt a b => ends_execShadowLoadAck dt a b s
  | .commitAckDeadline dt a => ends_execCommitAckDeadline dt a s
  | .commitLand dt a => ends_execCommitLand dt a s
  | .storeRecordWrite dt a => ends_execStoreRecordWrite dt a s
  | .lockstepFaultNotice dt => ends_execLockstepFaultNotice dt s
  | .lockstepDisagreement dt a => ends_execLockstepDisagreement dt a s
  | .gondolaWatchdogTimeout dt a => ends_execGondolaWatchdogTimeout dt a s
  | .crossingSlip dt a b c => ends_execCrossingSlip dt a b c s
  | .correctionSend dt => ends_execCorrectionSend dt s
  | .correctionArrival dt a b => ends_execCorrectionArrival dt a b s
  | .correctionMissed dt a => ends_execCorrectionMissed dt a s
  | .referenceLoss dt => ends_execReferenceLoss dt s
  | .referenceRestored dt => ends_execReferenceRestored dt s
  | .ripcordArrival dt a b => ends_execRipcordArrival dt a b s
  | .frequencyChangeRequest dt a b c => ends_execFrequencyChangeRequest dt a b c s
  | .changeAcknowledge dt a b => ends_execChangeAcknowledge dt a b s
  | .changeAckDeadline dt a => ends_execChangeAckDeadline dt a s
  | .changeHoldSample dt a => ends_execChangeHoldSample dt a s
  | .changeCountSwitch dt a => ends_execChangeCountSwitch dt a s
  | .changeVerdict dt a b => ends_execChangeVerdict dt a b s
  | .modeFloorWrite dt a b => ends_execModeFloorWrite dt a b s
  | .roleDefaultModeWrite dt a b c => ends_execRoleDefaultModeWrite dt a b c s
  | .modeOverrideWrite dt a b => ends_execModeOverrideWrite dt a b s
  | .modeSwitch dt a b => ends_execModeSwitch dt a b s
  | .clearModelFlag dt a b => ends_execClearModelFlag dt a b s
  | .modelBucketRoll dt => ends_execModelBucketRoll dt s
  | .ineligibleQuietTimeout dt a => ends_execIneligibleQuietTimeout dt a s
  | .tileIssue dt a b => ends_execTileIssue dt a b s
  | .contractionTileEnd dt a b c => ends_execContractionTileEnd dt a b c s
  | .recomputeAttemptEnd dt a b c d => ends_execRecomputeAttemptEnd dt a b c d s
  | .sampleStreamTileEnd dt a b => ends_execSampleStreamTileEnd dt a b s
  | .pinnedBlockFetch dt a b => ends_execPinnedBlockFetch dt a b s
  | .replayComplete dt a b c => ends_execReplayComplete dt a b c s
  | .tieBreakComplete dt a b c => ends_execTieBreakComplete dt a b c s
  | .replayGroupEnd dt a b => ends_execReplayGroupEnd dt a b s
  | .fullPairTileEnd dt a b c => ends_execFullPairTileEnd dt a b c s
  | .thirdExecutionComplete dt a b c => ends_execThirdExecutionComplete dt a b c s
  | .epochStart dt a => ends_execEpochStart dt a s
  | .seedDelivery dt a => ends_execSeedDelivery dt a s
  | .seedModeWrite dt a b => ends_execSeedModeWrite dt a b s
  | .blockArrival dt a b c => ends_execBlockArrival dt a b c s
  | .blockArrivalTimeout dt a b => ends_execBlockArrivalTimeout dt a b s
  | .repairWaitExpiry dt a => ends_execRepairWaitExpiry dt a s
  | .outboundBlockSend dt a b c => ends_execOutboundBlockSend dt a b c s
  | .sramParityError dt a b => ends_execSramParityError dt a b s
  | .dramRead dt a b c d e => ends_execDramRead dt a b c d e s
  | .dramWrite dt a b c d => ends_execDramWrite dt a b c d s
  | .seamBlockCheck dt a b c d => ends_execSeamBlockCheck dt a b c d s
  | .hostPartialWrite dt a b c d => ends_execHostPartialWrite dt a b c d s
  | .hostIngress dt a b c d => ends_execHostIngress dt a b c d s
  | .lostStackRequest dt a b c d => ends_execLostStackRequest dt a b c d s
  | .streamerCheckingWrite dt a b => ends_execStreamerCheckingWrite dt a b s
  | .idleNoticeOneShot dt a b => ends_execIdleNoticeOneShot dt a b s
  | .idleNoticePeriodic dt a b => ends_execIdleNoticePeriodic dt a b s
  | .idleNoticeRevoke dt a b c => ends_execIdleNoticeRevoke dt a b c s
  | .idleNoticeRevokeAll dt a b => ends_execIdleNoticeRevokeAll dt a b s
  | .idleSlotStart dt a b => ends_execIdleSlotStart dt a b s
  | .idleSlotEnd dt a b => ends_execIdleSlotEnd dt a b s
  | .testTileStart dt a => ends_execTestTileStart dt a s
  | .testTileEnd dt a b c d e => ends_execTestTileEnd dt a b c d e s
  | .testThirdRunEnd dt a b => ends_execTestThirdRunEnd dt a b s
  | .forcedCheckerSlot dt a => ends_execForcedCheckerSlot dt a s
  | .testOverdue dt a => ends_execTestOverdue dt a s
  | .fmaxChangeRequest dt a => ends_execFmaxChangeRequest dt a s
  | .fmaxRecordWrite dt a b => ends_execFmaxRecordWrite dt a b s
  | .shortBucketRoll dt => ends_execShortBucketRoll dt s
  | .serviceDayRoll dt a => ends_execServiceDayRoll dt a s
  | .serviceSecondsSave dt a => ends_execServiceSecondsSave dt a s
  | .watchRelease dt a => ends_execWatchRelease dt a s
  | .quarantineHoldEnd dt a => ends_execQuarantineHoldEnd dt a s
  | .screenComplete dt a b => ends_execScreenComplete dt a b s
  | .pseudoChannelCopyEnd dt a => ends_execPseudoChannelCopyEnd dt a s
  | .forcedRetire dt a => ends_execForcedRetire dt a s
  | .forcedReadmit dt a => ends_execForcedReadmit dt a s
  | .forcedReadmitClear dt a => ends_execForcedReadmitClear dt a s
  | .unitExchange dt a b => ends_execUnitExchange dt a b s
  | .withholdRepeat dt a => ends_execWithholdRepeat dt a s
  | .routerProbeTimeout dt a => ends_execRouterProbeTimeout dt a s
  | .commandAccept dt a b => ends_execCommandAccept dt a b s
  | .commandComplete dt a b => ends_execCommandComplete dt a b s
  | .progressWindowExpiry dt a => ends_execProgressWindowExpiry dt a s
  | .commandTimeout dt a b c => ends_execCommandTimeout dt a b c s
  | .hangReportRepeat dt a => ends_execHangReportRepeat dt a s
  | .hangHandling dt a => ends_execHangHandling dt a s
  | .captureComplete dt a => ends_execCaptureComplete dt a s
  | .resetComplete dt a b => ends_execResetComplete dt a b s
  | .resetTimeout dt a b => ends_execResetTimeout dt a b s
  | .transitDrainEnd dt a => ends_execTransitDrainEnd dt a s
  | .resetRequest dt a b => ends_execResetRequest dt a b s
  | .bridleProbe dt a => ends_execBridleProbe dt a s
  | .bridleProbeTimeout dt a => ends_execBridleProbeTimeout dt a s
  | .fieldAgentHeartbeatTimeout dt a => ends_execFieldAgentHeartbeatTimeout dt a s
  | .orderlyRipcordRequest dt a b => ends_execOrderlyRipcordRequest dt a b s
  | .stopCountCut dt a => ends_execStopCountCut dt a s
  | .requestedFrequencyWrite dt a b => ends_execRequestedFrequencyWrite dt a b s
  | .operatorStepCapWrite dt a b => ends_execOperatorStepCapWrite dt a b s
  | .regulatorSettled dt a => ends_execRegulatorSettled dt a s
  | .settleTimeout dt a => ends_execSettleTimeout dt a s
  | .powerSumTick dt => ends_execPowerSumTick dt s
  | .droopTrip dt a => ends_execDroopTrip dt a s
  | .stretchEnd dt a => ends_execStretchEnd dt a s
  | .stretchDutyWindow dt a => ends_execStretchDutyWindow dt a s
  | .droopCodeRelease dt a => ends_execDroopCodeRelease dt a s
  | .loadNotice dt a b => ends_execLoadNotice dt a b s
  | .lnLoadNotice dt a b => ends_execLnLoadNotice dt a b s
  | .lnReservoirArm dt a b => ends_execLnReservoirArm dt a b s
  | .lnReservoirDisarm dt a b => ends_execLnReservoirDisarm dt a b s
  | .loadStep dt a b c => ends_execLoadStep dt a b c s
  | .reservoirDischarge dt a b => ends_execReservoirDischarge dt a b s
  | .reservoirRechargeEnd dt a => ends_execReservoirRechargeEnd dt a s
  | .reservoirArmingWrite dt a b => ends_execReservoirArmingWrite dt a b s
  | .phaseFailure dt a b => ends_execPhaseFailure dt a b s
  | .lnAlert dt a b => ends_execLnAlert dt a b s
  | .undervoltageTimeout dt a => ends_execUndervoltageTimeout dt a s
  | .releaseGroup dt a b => ends_execReleaseGroup dt a b s
  | .rampHeadroomTimeout dt a => ends_execRampHeadroomTimeout dt a s
  | .idleHoldExpiry dt a => ends_execIdleHoldExpiry dt a s
  | .diodeReading dt a b c => ends_execDiodeReading dt a b c s
  | .sensorFaultTimeout dt a => ends_execSensorFaultTimeout dt a s
  | .thermalCapRise dt a => ends_execThermalCapRise dt a s
  | .trayInputChange dt a b c => ends_execTrayInputChange dt a b c s
  | .trayInputAccept dt a b => ends_execTrayInputAccept dt a b s
  | .chatterEnd dt a b => ends_execChatterEnd dt a b s
  | .trayLatchClear dt a b c => ends_execTrayLatchClear dt a b c s
  | .inputMismatchTimeout dt a b => ends_execInputMismatchTimeout dt a b s
  | .vinPoll dt a b => ends_execVinPoll dt a b s
  | .supplyStateRelease dt a => ends_execSupplyStateRelease dt a s
  | .writeSuspendRelease dt a => ends_execWriteSuspendRelease dt a s
  | .aonSupplyFall dt a => ends_execAonSupplyFall dt a s
  | .vfastFall dt a => ends_execVfastFall dt a s
  | .fastDomainResetRelease dt a => ends_execFastDomainResetRelease dt a s
  | .energyIntegration dt a b c d e f => ends_execEnergyIntegration dt a b c d e f s
  | .stageRun dt a b c => ends_execStageRun dt a b c s
  | .stageComplete dt a b c => ends_execStageComplete dt a b c s
  | .stageAdvance dt => ends_execStageAdvance dt s
  | .anchorReadyTimeout dt => ends_execAnchorReadyTimeout dt s
  | .fieldAgentRegistration dt a => ends_execFieldAgentRegistration dt a s
  | .bridleRegistration dt a b c => ends_execBridleRegistration dt a b c s
  | .bridleMissingDeadline dt a => ends_execBridleMissingDeadline dt a s
  | .imageWrite dt a b c => ends_execImageWrite dt a b c s
  | .commitTrialImage dt a b => ends_execCommitTrialImage dt a b s
  | .trialCommitTimeout dt => ends_execTrialCommitTimeout dt s
  | .selfTestStart dt a => ends_execSelfTestStart dt a s
  | .testSliceEnd dt a b c d e => ends_execTestSliceEnd dt a b c d e s
  | .testSliceBudgetExpiry dt a b => ends_execTestSliceBudgetExpiry dt a b s
  | .reelRecordWrite dt a => ends_execReelRecordWrite dt a s
  | .reelEraseComplete dt a => ends_execReelEraseComplete dt a s
  | .storeOperationFailure dt a b c => ends_execStoreOperationFailure dt a b c s
  | .storeSilentTimeout dt a b => ends_execStoreSilentTimeout dt a b s
  | .reelClear dt a b => ends_execReelClear dt a b s
  | .nextReadableRecord dt a => ends_execNextReadableRecord dt a s
  | .returnStateSet dt a => ends_execReturnStateSet dt a s
  | .returnStateClear dt a => ends_execReturnStateClear dt a s
  | .counterRead dt a => ends_execCounterRead dt a s
  | .snapshotRequest dt a b => ends_execSnapshotRequest dt a b s
  | .snapshotLatch dt => ends_execSnapshotLatch dt s
  | .snapshotGatherComplete dt => ends_execSnapshotGatherComplete dt s
  | .traceArmByLcn dt a b => ends_execTraceArmByLcn dt a b s
  | .traceArmByPua dt a b => ends_execTraceArmByPua dt a b s
  | .slotStart dt a => ends_execSlotStart dt a s
  | .slotStop dt a => ends_execSlotStop dt a s
  | .slotFree dt a => ends_execSlotFree dt a s
  | .slotSwitch dt a b => ends_execSlotSwitch dt a b s
  | .tracePacket dt a b c => ends_execTracePacket dt a b c s
  | .traceFlushTimeout dt a b => ends_execTraceFlushTimeout dt a b s
  | .chunkDrain dt a b => ends_execChunkDrain dt a b s
  | .chunkIdleTimeout dt a b => ends_execChunkIdleTimeout dt a b s
  | .nextReadableChunk dt a => ends_execNextReadableChunk dt a s
  | .nmtStart dt a b c => ends_execNmtStart dt a b c s
  | .nmtStop dt a b c => ends_execNmtStop dt a b c s
  | .nmtEnterPreOperational dt a b c => ends_execNmtEnterPreOperational dt a b c s
  | .nmtResetApplication dt a b c => ends_execNmtResetApplication dt a b c s
  | .nmtResetCommunication dt a b c => ends_execNmtResetCommunication dt a b c s
  | .heartbeatSend dt a b => ends_execHeartbeatSend dt a b s
  | .tpdoSend dt a b c => ends_execTpdoSend dt a b c s
  | .emcyInhibitEnd dt a b => ends_execEmcyInhibitEnd dt a b s
  | .errorFieldClear dt a b => ends_execErrorFieldClear dt a b s
  | .canBusError dt a b c => ends_execCanBusError dt a b c s
  | .busOffRecovery dt a b c => ends_execBusOffRecovery dt a b c s
  | .mailboxBind dt a b => ends_execMailboxBind dt a b s
  | .mailboxUnbind dt a => ends_execMailboxUnbind dt a s
  | .nonceRead dt a => ends_execNonceRead dt a s
  | .responseWrite dt a b => ends_execResponseWrite dt a b s
  | .endSession dt a b => ends_execEndSession dt a b s
  | .leaseExpiry dt a => ends_execLeaseExpiry dt a s
  | .nonceExpiry dt a => ends_execNonceExpiry dt a s
  | .grantExpiry dt a => ends_execGrantExpiry dt a s
  | .backoffEnd dt a => ends_execBackoffEnd dt a s
  | .keyWrite dt a b c => ends_execKeyWrite dt a b c s
  | .rawStoreWrite dt a b => ends_execRawStoreWrite dt a b s
  | .tapBypass dt a => ends_execTapBypass dt a s
  | .tapIdcode dt a => ends_execTapIdcode dt a s
  | .tapSamplePreload dt a => ends_execTapSamplePreload dt a s
  | .tapExtest dt a => ends_execTapExtest dt a s
  | .tapAcExtest dt a => ends_execTapAcExtest dt a s
  | .tapIntest dt a => ends_execTapIntest dt a s
  | .tapPrivate dt a b => ends_execTapPrivate dt a b s
  | .ineligibleComputeTileEnd dt a => ends_execIneligibleComputeTileEnd dt a s
  | .syncObjectSignal dt a b => ends_execSyncObjectSignal dt a b s
  | .stageLimitExpiry dt a b => ends_execStageLimitExpiry dt a b s
  | .alwaysOnSupplyRise dt a => ends_execAlwaysOnSupplyRise dt a s
  | .errorActiveReturn dt a b => ends_execErrorActiveReturn dt a b s

/-- The dies, fields and stores that the invariant asks for pass along what a command keeps. -/
theorem wellKept_of_keeps {s t : State} (h : Keeps s t) (w : WellKept s) : WellKept t :=
  ⟨h.variant ▸ h.dies w.1, h.variant ▸ h.fields w.2.1, h.stores w.2.2⟩

/-- A step of a non-empty queue keeps what no operation changes, once the command has left the queue and its time has passed. -/
theorem keeps_of_step {s t : State} {c : Instr} {rest : List Instr} (hp : s.pending = c :: rest) (h : step s = .next t) :
    Keeps (elapse c.dt { s with pending := rest }) t :=
  ends_exec c _ t (by rw [← h, stepRunsTheFrontCommand.1 s c rest hp])

/-- Settles O57: one lemma for each command says that it keeps the whole of the package, and the queue only loses its front. -/
theorem everyCommandKeepsTheInvariant : Obligations.EveryCommandKeepsTheInvariant := by
  refine ⟨fun s t w h => ?_, fun s c rest t hp h => ?_⟩
  · cases hp : s.pending with
    | nil =>
      obtain rfl : s = t := by simpa [step, hp] using h
      exact w
    | cons c rest => exact wellKept_of_keeps (keeps_of_step hp h) w
  · have k := keeps_of_step hp h
    exact ⟨k.variant, k.now, k.pending⟩

end Sys2Proof.Machine
end

section
/-!
SUPPORT. What an operation may change of the state, said once for each operation: `Touches S s t` says that from `s` to `t`
only the parts that `S` lists have changed. The parts are the fields of State, and views of a field that finer facts need.
-/
namespace Sys2Proof.Machine

/-- A part of the state: a field of State, or a view of a field. -/
inductive Part where
  | variant | now | ptStarted | anchorDie | standby | takenOver | anchorReady | reference | referenceLostAt | keepers
  | seqr | dies | fields | units | fmax | lcnMap | clusterMap | lanes | channels | zports | lostSlots | unreachable
  | lcns | cores | clusters | slices | generations | recomputes | tieBreaks | thirds | transfers | follows | inFlight
  | dram | copies | changes | changeHold | nextChange | commits | nextCommit | ripcord | model | modelIndex
  | modelFlag | qualifying | powerHistory | powerLowFrom | powerOverFrom | powerStack | packageReset | paths | forced
  | ports | mailboxes | requests | snapshot | snapshots | traces | views | images | imageInUse | imageFallback
  | trialReached | privateMode | retained | startKind | keys | kept | keptB | freqs | crossings | turn | screens
  | undefinedCases | objs | output | free | pending
  /-- where the stages of bring-up stand on each die (`Die.stages`) -/
  | stages
  /-- the result bytes of the reports in progress -/
  | drafts
  /-- 0x3015 of each field -/
  | powers
  /-- what a slice keeps from its creation to its end (`Slice.shape`) -/
  | shapes
  /-- the clusters that a slice's end has stopped -/
  | stops
  /-- the package-scoped counts that the statements on slices and starts read (`tallyKeys`) -/
  | tallies
  deriving DecidableEq

/-- What a die shows of its stages (R347, R351, R355, R375). -/
def Die.stages (x : Die) : Nat × Bool × Bool × Tab StageReport × Bool × Nat × Nat × List (List Byte) :=
  (x.stage, x.stageRan, x.stageDone, x.reports, x.dictionary, x.endMark, x.markRead, x.testResults)
/-- What a slice keeps from its creation to its end (R10, R33, R133, R288, R291). -/
def Slice.shape (x : Slice) : SliceLife × Nat × (Nat × Nat × Nat) × (Nat × Nat × Nat) × List (Nat × Nat) × Nat × Bool ×
    Nat × Word64 × Option Teardown × List (Nat × Nat) :=
  (x.life, x.role, x.origin, x.extent, x.memory, x.created, x.issued, x.epochStart, x.seed, x.teardown, x.zeroFill)
/-- The counts 0x2C12:01 and 0x2C12:02 of teardowns and the run number 0x2101. -/
def tallyKeys : List Nat := [key 0x2C12 1, key 0x2C12 2, key 0x2101 0]

/-- Two states agree on a part. -/
def Agrees (s t : State) : Part → Prop
  | .variant => t.variant = s.variant
  | .now => t.now = s.now
  | .ptStarted => t.ptStarted = s.ptStarted
  | .anchorDie => t.anchorDie = s.anchorDie
  | .standby => t.standby = s.standby
  | .takenOver => t.takenOver = s.takenOver
  | .anchorReady => t.anchorReady = s.anchorReady
  | .reference => t.reference = s.reference
  | .referenceLostAt => t.referenceLostAt = s.referenceLostAt
  | .keepers => t.keepers = s.keepers
  | .seqr => t.seqr = s.seqr
  | .dies => t.dies = s.dies
  | .fields => t.fields = s.fields
  | .units => t.units = s.units
  | .fmax => t.fmax = s.fmax
  | .lcnMap => t.lcnMap = s.lcnMap
  | .clusterMap => t.clusterMap = s.clusterMap
  | .lanes => t.lanes = s.lanes
  | .channels => t.channels = s.channels
  | .zports => t.zports = s.zports
  | .lostSlots => t.lostSlots = s.lostSlots
  | .unreachable => t.unreachable = s.unreachable
  | .lcns => t.lcns = s.lcns
  | .cores => t.cores = s.cores
  | .clusters => t.clusters = s.clusters
  | .slices => t.slices = s.slices
  | .generations => t.generations = s.generations
  | .recomputes => t.recomputes = s.recomputes
  | .tieBreaks => t.tieBreaks = s.tieBreaks
  | .thirds => t.thirds = s.thirds
  | .transfers => t.transfers = s.transfers
  | .follows => t.follows = s.follows
  | .inFlight => t.inFlight = s.inFlight
  | .dram => t.dram = s.dram
  | .copies => t.copies = s.copies
  | .changes => t.changes = s.changes
  | .changeHold => t.changeHold = s.changeHold
  | .nextChange => t.nextChange = s.nextChange
  | .commits => t.commits = s.commits
  | .nextCommit => t.nextCommit = s.nextCommit
  | .ripcord => t.ripcord = s.ripcord
  | .model => t.model = s.model
  | .modelIndex => t.modelIndex = s.modelIndex
  | .modelFlag => t.modelFlag = s.modelFlag
  | .qualifying => t.qualifying = s.qualifying
  | .powerHistory => t.powerHistory = s.powerHistory
  | .powerLowFrom => t.powerLowFrom = s.powerLowFrom
  | .powerOverFrom => t.powerOverFrom = s.powerOverFrom
  | .powerStack => t.powerStack = s.powerStack
  | .packageReset => t.packageReset = s.packageReset
  | .paths => t.paths = s.paths
  | .forced => t.forced = s.forced
  | .ports => t.ports = s.ports
  | .mailboxes => t.mailboxes = s.mailboxes
  | .requests => t.requests = s.requests
  | .snapshot => t.snapshot = s.snapshot
  | .snapshots => t.snapshots = s.snapshots
  | .traces => t.traces = s.traces
  | .views => t.views = s.views
  | .images => t.images = s.images
  | .imageInUse => t.imageInUse = s.imageInUse
  | .imageFallback => t.imageFallback = s.imageFallback
  | .trialReached => t.trialReached = s.trialReached
  | .privateMode => t.privateMode = s.privateMode
  | .retained => t.retained = s.retained
  | .startKind => t.startKind = s.startKind
  | .keys => t.keys = s.keys
  | .kept => t.kept = s.kept
  | .keptB => t.keptB = s.keptB
  | .freqs => t.freqs = s.freqs
  | .crossings => t.crossings = s.crossings
  | .turn => t.turn = s.turn
  | .screens => t.screens = s.screens
  | .undefinedCases => t.undefinedCases = s.undefinedCases
  | .objs => t.objs = s.objs
  | .output => t.output = s.output
  | .free => t.free = s.free
  | .pending => t.pending = s.pending
  | .stages => t.dies.map Die.stages = s.dies.map Die.stages
  | .drafts => t.dies.map (·.draft.result) = s.dies.map (·.draft.result)
  | .powers => t.fields.map (·.power) = s.fields.map (·.power)
  | .shapes => t.slices.map (fun e => (e.1, e.2.shape)) = s.slices.map fun e => (e.1, e.2.shape)
  | .stops => ∀ ck, 10 ∈ (cluster t ck).holds ↔ 10 ∈ (cluster s ck).holds
  | .tallies => ∀ k ∈ tallyKeys, obj t k 0 = obj s k 0

/-- From `s` to `t` at most the parts that `S` lists have changed. -/
structure Touches (S : List Part) (s t : State) : Prop where
  agrees : ∀ p, p ∉ S → Agrees s t p

/-- The state `s` with the fields that `S` lists taken from `t`. -/
def blend (S : List Part) (s t : State) : State where
  variant := if Part.variant ∈ S then t.variant else s.variant
  now := if Part.now ∈ S then t.now else s.now
  ptStarted := if Part.ptStarted ∈ S then t.ptStarted else s.ptStarted
  anchorDie := if Part.anchorDie ∈ S then t.anchorDie else s.anchorDie
  standby := if Part.standby ∈ S then t.standby else s.standby
  takenOver := if Part.takenOver ∈ S then t.takenOver else s.takenOver
  anchorReady := if Part.anchorReady ∈ S then t.anchorReady else s.anchorReady
  reference := if Part.reference ∈ S then t.reference else s.reference
  referenceLostAt := if Part.referenceLostAt ∈ S then t.referenceLostAt else s.referenceLostAt
  keepers := if Part.keepers ∈ S then t.keepers else s.keepers
  seqr := if Part.seqr ∈ S then t.seqr else s.seqr
  dies := if Part.dies ∈ S then t.dies else s.dies
  fields := if Part.fields ∈ S then t.fields else s.fields
  units := if Part.units ∈ S then t.units else s.units
  fmax := if Part.fmax ∈ S then t.fmax else s.fmax
  lcnMap := if Part.lcnMap ∈ S then t.lcnMap else s.lcnMap
  clusterMap := if Part.clusterMap ∈ S then t.clusterMap else s.clusterMap
  lanes := if Part.lanes ∈ S then t.lanes else s.lanes
  channels := if Part.channels ∈ S then t.channels else s.channels
  zports := if Part.zports ∈ S then t.zports else s.zports
  lostSlots := if Part.lostSlots ∈ S then t.lostSlots else s.lostSlots
  unreachable := if Part.unreachable ∈ S then t.unreachable else s.unreachable
  lcns := if Part.lcns ∈ S then t.lcns else s.lcns
  cores := if Part.cores ∈ S then t.cores else s.cores
  clusters := if Part.clusters ∈ S then t.clusters else s.clusters
  slices := if Part.slices ∈ S then t.slices else s.slices
  generations := if Part.generations ∈ S then t.generations else s.generations
  recomputes := if Part.recomputes ∈ S then t.recomputes else s.recomputes
  tieBreaks := if Part.tieBreaks ∈ S then t.tieBreaks else s.tieBreaks
  thirds := if Part.thirds ∈ S then t.thirds else s.thirds
  transfers := if Part.transfers ∈ S then t.transfers else s.transfers
  follows := if Part.follows ∈ S then t.follows else s.follows
  inFlight := if Part.inFlight ∈ S then t.inFlight else s.inFlight
  dram := if Part.dram ∈ S then t.dram else s.dram
  copies := if Part.copies ∈ S then t.copies else s.copies
  changes := if Part.changes ∈ S then t.changes else s.changes
  changeHold := if Part.changeHold ∈ S then t.changeHold else s.changeHold
  nextChange := if Part.nextChange ∈ S then t.nextChange else s.nextChange
  commits := if Part.commits ∈ S then t.commits else s.commits
  nextCommit := if Part.nextCommit ∈ S then t.nextCommit else s.nextCommit
  ripcord := if Part.ripcord ∈ S then t.ripcord else s.ripcord
  model := if Part.model ∈ S then t.model else s.model
  modelIndex := if Part.modelIndex ∈ S then t.modelIndex else s.modelIndex
  modelFlag := if Part.modelFlag ∈ S then t.modelFlag else s.modelFlag
  qualifying := if Part.qualifying ∈ S then t.qualifying else s.qualifying
  powerHistory := if Part.powerHistory ∈ S then t.powerHistory else s.powerHistory
  powerLowFrom := if Part.powerLowFrom ∈ S then t.powerLowFrom else s.powerLowFrom
  powerOverFrom := if Part.powerOverFrom ∈ S then t.powerOverFrom else s.powerOverFrom
  powerStack := if Part.powerStack ∈ S then t.powerStack else s.powerStack
  packageReset := if Part.packageReset ∈ S then t.packageReset else s.packageReset
  paths := if Part.paths ∈ S then t.paths else s.paths
  forced := if Part.forced ∈ S then t.forced else s.forced
  ports := if Part.ports ∈ S then t.ports else s.ports
  mailboxes := if Part.mailboxes ∈ S then t.mailboxes else s.mailboxes
  requests := if Part.requests ∈ S then t.requests else s.requests
  snapshot := if Part.snapshot ∈ S then t.snapshot else s.snapshot
  snapshots := if Part.snapshots ∈ S then t.snapshots else s.snapshots
  traces := if Part.traces ∈ S then t.traces else s.traces
  views := if Part.views ∈ S then t.views else s.views
  images := if Part.images ∈ S then t.images else s.images
  imageInUse := if Part.imageInUse ∈ S then t.imageInUse else s.imageInUse
  imageFallback := if Part.imageFallback ∈ S then t.imageFallback else s.imageFallback
  trialReached := if Part.trialReached ∈ S then t.trialReached else s.trialReached
  privateMode := if Part.privateMode ∈ S then t.privateMode else s.privateMode
  retained := if Part.retained ∈ S then t.retained else s.retained
  startKind := if Part.startKind ∈ S then t.startKind else s.startKind
  keys := if Part.keys ∈ S then t.keys else s.keys
  kept := if Part.kept ∈ S then t.kept else s.kept
  keptB := if Part.keptB ∈ S then t.keptB else s.keptB
  freqs := if Part.freqs ∈ S then t.freqs else s.freqs
  crossings := if Part.crossings ∈ S then t.crossings else s.crossings
  turn := if Part.turn ∈ S then t.turn else s.turn
  screens := if Part.screens ∈ S then t.screens else s.screens
  undefinedCases := if Part.undefinedCases ∈ S then t.undefinedCases else s.undefinedCases
  objs := if Part.objs ∈ S then t.objs else s.objs
  output := if Part.output ∈ S then t.output else s.output
  free := if Part.free ∈ S then t.free else s.free
  pending := if Part.pending ∈ S then t.pending else s.pending

variable {S L : List Part} {s t u : State}

theorem Agrees.refl (s : State) (p : Part) : Agrees s s p := by
  cases p <;> simp only [Agrees, implies_true]
theorem Agrees.trans {p : Part} (h : Agrees s t p) (g : Agrees t u p) : Agrees s u p := by
  cases p <;> simp only [Agrees] at h g ⊢
  case stops => exact fun ck => (g ck).trans (h ck)
  case tallies => exact fun k hk => (g k hk).trans (h k hk)
  all_goals exact g.trans h

theorem Touches.refl : Touches [] s s := ⟨fun p _ => Agrees.refl s p⟩
theorem Touches.mono (hS : L ⊆ S) (h : Touches L s t) : Touches S s t :=
  ⟨fun p hp => h.agrees p fun hl => hp (hS hl)⟩
theorem Touches.trans (h : Touches L s t) (g : Touches S t u) : Touches (L ++ S) s u :=
  ⟨fun p hp => (h.agrees p fun hl => hp (List.mem_append_left _ hl)).trans (g.agrees p fun hs => hp (List.mem_append_right _ hs))⟩
theorem Touches.ite {a b : State} {c : Prop} [Decidable c] (h : c → Touches L s a) (g : ¬ c → Touches S s b) :
    Touches (L ++ S) s (if c then a else b) := by
  split
  · exact .mono (List.subset_append_left _ _) (h ‹_›)
  · exact .mono (List.subset_append_right _ _) (g ‹_›)
theorem Touches.foldl {α : Type} {f : State → α → State} (h : ∀ x a, Touches S x (f x a)) (l : List α) (s : State) :
    Touches S s (l.foldl f s) := by
  induction l generalizing s with
  | nil => exact .mono (List.nil_subset S) .refl
  | cons a r ih => exact .mono (List.append_subset.mpr ⟨List.Subset.refl S, List.Subset.refl S⟩) ((h s a).trans (ih _))
/-- A fold that carries a value beside the state. -/
theorem Touches.foldl_fst {α β : Type} {f : State × β → α → State × β} (h : ∀ x a, Touches S x.1 (f x a).1) (l : List α)
    (x : State × β) : Touches S x.1 (l.foldl f x).1 := by
  induction l generalizing x with
  | nil => exact .mono (List.nil_subset S) .refl
  | cons a r ih => exact .mono (List.append_subset.mpr ⟨List.Subset.refl S, List.Subset.refl S⟩) ((h x a).trans (ih _))

/-- What changed lies in the listed fields. -/
theorem Touches.eq_blend (h : Touches S s t) : t = blend S s t := by
  have pick : ∀ {α : Type} (p : Part) (x y : α), (p ∉ S → x = y) → x = if p ∈ S then x else y := fun p x y hp => by
    split
    · rfl
    · exact hp ‹_›
  cases t
  simp only [blend, State.mk.injEq]
  exact ⟨pick .variant _ _ (h.agrees .variant), pick .now _ _ (h.agrees .now), pick .ptStarted _ _ (h.agrees .ptStarted),
    pick .anchorDie _ _ (h.agrees .anchorDie), pick .standby _ _ (h.agrees .standby),
    pick .takenOver _ _ (h.agrees .takenOver), pick .anchorReady _ _ (h.agrees .anchorReady),
    pick .reference _ _ (h.agrees .reference), pick .referenceLostAt _ _ (h.agrees .referenceLostAt),
    pick .keepers _ _ (h.agrees .keepers), pick .seqr _ _ (h.agrees .seqr), pick .dies _ _ (h.agrees .dies),
    pick .fields _ _ (h.agrees .fields), pick .units _ _ (h.agrees .units), pick .fmax _ _ (h.agrees .fmax),
    pick .lcnMap _ _ (h.agrees .lcnMap), pick .clusterMap _ _ (h.agrees .clusterMap),
    pick .lanes _ _ (h.agrees .lanes), pick .channels _ _ (h.agrees .channels), pick .zports _ _ (h.agrees .zports),
    pick .lostSlots _ _ (h.agrees .lostSlots), pick .unreachable _ _ (h.agrees .unreachable),
    pick .lcns _ _ (h.agrees .lcns), pick .cores _ _ (h.agrees .cores), pick .clusters _ _ (h.agrees .clusters),
    pick .slices _ _ (h.agrees .slices), pick .generations _ _ (h.agrees .generations),
    pick .recomputes _ _ (h.agrees .recomputes), pick .tieBreaks _ _ (h.agrees .tieBreaks),
    pick .thirds _ _ (h.agrees .thirds), pick .transfers _ _ (h.agrees .transfers),
    pick .follows _ _ (h.agrees .follows), pick .inFlight _ _ (h.agrees .inFlight), pick .dram _ _ (h.agrees .dram),
    pick .copies _ _ (h.agrees .copies), pick .changes _ _ (h.agrees .changes),
    pick .changeHold _ _ (h.agrees .changeHold), pick .nextChange _ _ (h.agrees .nextChange),
    pick .commits _ _ (h.agrees .commits), pick .nextCommit _ _ (h.agrees .nextCommit),
    pick .ripcord _ _ (h.agrees .ripcord), pick .model _ _ (h.agrees .model),
    pick .modelIndex _ _ (h.agrees .modelIndex), pick .modelFlag _ _ (h.agrees .modelFlag),
    pick .qualifying _ _ (h.agrees .qualifying), pick .powerHistory _ _ (h.agrees .powerHistory),
    pick .powerLowFrom _ _ (h.agrees .powerLowFrom), pick .powerOverFrom _ _ (h.agrees .powerOverFrom),
    pick .powerStack _ _ (h.agrees .powerStack), pick .packageReset _ _ (h.agrees .packageReset),
    pick .paths _ _ (h.agrees .paths), pick .forced _ _ (h.agrees .forced), pick .ports _ _ (h.agrees .ports),
    pick .mailboxes _ _ (h.agrees .mailboxes), pick .requests _ _ (h.agrees .requests),
    pick .snapshot _ _ (h.agrees .snapshot), pick .snapshots _ _ (h.agrees .snapshots),
    pick .traces _ _ (h.agrees .traces), pick .views _ _ (h.agrees .views), pick .images _ _ (h.agrees .images),
    pick .imageInUse _ _ (h.agrees .imageInUse), pick .imageFallback _ _ (h.agrees .imageFallback),
    pick .trialReached _ _ (h.agrees .trialReached), pick .privateMode _ _ (h.agrees .privateMode),
    pick .retained _ _ (h.agrees .retained), pick .startKind _ _ (h.agrees .startKind),
    pick .keys _ _ (h.agrees .keys), pick .kept _ _ (h.agrees .kept), pick .keptB _ _ (h.agrees .keptB),
    pick .freqs _ _ (h.agrees .freqs), pick .crossings _ _ (h.agrees .crossings), pick .turn _ _ (h.agrees .turn),
    pick .screens _ _ (h.agrees .screens), pick .undefinedCases _ _ (h.agrees .undefinedCases),
    pick .objs _ _ (h.agrees .objs), pick .output _ _ (h.agrees .output), pick .free _ _ (h.agrees .free),
    pick .pending _ _ (h.agrees .pending)⟩

/-- The views of a field. -/
def Part.shownBy : Part → List Part
  | .dies => [.stages, .drafts]
  | .fields => [.powers]
  | .slices => [.shapes]
  | .clusters => [.stops]
  | .objs => [.tallies]
  | _ => []
/-- An update touches the fields that it names, and their views. -/
theorem touches_update (S : List Part) (h : t = blend S s t) : Touches (S.flatMap Part.shownBy ++ S) s t := by
  refine ⟨fun p hp => ?_⟩
  simp only [List.mem_append, List.mem_flatMap, not_or, not_exists, not_and] at hp
  obtain ⟨hv, hp⟩ := hp
  have field : ∀ {α : Type} (q : Part) (f : State → α), q ∉ S → (∀ x, f (blend S s x) = if q ∈ S then f x else f s) → f t = f s :=
    fun q f hq hb => by
      have := (congrArg f h).trans (hb t)
      rwa [if_neg hq] at this
  have view : ∀ {α : Type} (q : Part) (f : State → α), p ∈ q.shownBy → (∀ x, f (blend S s x) = if q ∈ S then f x else f s) →
      f t = f s := fun q f hq hb => field q f (fun hs => hv q hs hq) hb
  cases p
  case stages => exact congrArg (List.map Die.stages) (view .dies (·.dies) (by decide) fun _ => rfl)
  case drafts => exact congrArg (List.map fun x : Die => x.draft.result) (view .dies (·.dies) (by decide) fun _ => rfl)
  case powers => exact congrArg (List.map fun x : Field => x.power) (view .fields (·.fields) (by decide) fun _ => rfl)
  case shapes => exact congrArg (List.map fun e : Nat × Slice => (e.1, e.2.shape)) (view .slices (·.slices) (by decide) fun _ => rfl)
  case stops =>
    have := view .clusters (·.clusters) (by decide) fun _ => rfl
    simp only [Agrees, cluster, this, implies_true]
  case tallies =>
    have := view .objs (·.objs) (by decide) fun _ => rfl
    simp only [Agrees, obj, this, implies_true]
  case variant => exact field .variant (·.variant) hp fun _ => rfl
  case now => exact field .now (·.now) hp fun _ => rfl
  case ptStarted => exact field .ptStarted (·.ptStarted) hp fun _ => rfl
  case anchorDie => exact field .anchorDie (·.anchorDie) hp fun _ => rfl
  case standby => exact field .standby (·.standby) hp fun _ => rfl
  case takenOver => exact field .takenOver (·.takenOver) hp fun _ => rfl
  case anchorReady => exact field .anchorReady (·.anchorReady) hp fun _ => rfl
  case reference => exact field .reference (·.reference) hp fun _ => rfl
  case referenceLostAt => exact field .referenceLostAt (·.referenceLostAt) hp fun _ => rfl
  case keepers => exact field .keepers (·.keepers) hp fun _ => rfl
  case seqr => exact field .seqr (·.seqr) hp fun _ => rfl
  case dies => exact field .dies (·.dies) hp fun _ => rfl
  case fields => exact field .fields (·.fields) hp fun _ => rfl
  case units => exact field .units (·.units) hp fun _ => rfl
  case fmax => exact field .fmax (·.fmax) hp fun _ => rfl
  case lcnMap => exact field .lcnMap (·.lcnMap) hp fun _ => rfl
  case clusterMap => exact field .clusterMap (·.clusterMap) hp fun _ => rfl
  case lanes => exact field .lanes (·.lanes) hp fun _ => rfl
  case channels => exact field .channels (·.channels) hp fun _ => rfl
  case zports => exact field .zports (·.zports) hp fun _ => rfl
  case lostSlots => exact field .lostSlots (·.lostSlots) hp fun _ => rfl
  case unreachable => exact field .unreachable (·.unreachable) hp fun _ => rfl
  case lcns => exact field .lcns (·.lcns) hp fun _ => rfl
  case cores => exact field .cores (·.cores) hp fun _ => rfl
  case clusters => exact field .clusters (·.clusters) hp fun _ => rfl
  case slices => exact field .slices (·.slices) hp fun _ => rfl
  case generations => exact field .generations (·.generations) hp fun _ => rfl
  case recomputes => exact field .recomputes (·.recomputes) hp fun _ => rfl
  case tieBreaks => exact field .tieBreaks (·.tieBreaks) hp fun _ => rfl
  case thirds => exact field .thirds (·.thirds) hp fun _ => rfl
  case transfers => exact field .transfers (·.transfers) hp fun _ => rfl
  case follows => exact field .follows (·.follows) hp fun _ => rfl
  case inFlight => exact field .inFlight (·.inFlight) hp fun _ => rfl
  case dram => exact field .dram (·.dram) hp fun _ => rfl
  case copies => exact field .copies (·.copies) hp fun _ => rfl
  case changes => exact field .changes (·.changes) hp fun _ => rfl
  case changeHold => exact field .changeHold (·.changeHold) hp fun _ => rfl
  case nextChange => exact field .nextChange (·.nextChange) hp fun _ => rfl
  case commits => exact field .commits (·.commits) hp fun _ => rfl
  case nextCommit => exact field .nextCommit (·.nextCommit) hp fun _ => rfl
  case ripcord => exact field .ripcord (·.ripcord) hp fun _ => rfl
  case model => exact field .model (·.model) hp fun _ => rfl
  case modelIndex => exact field .modelIndex (·.modelIndex) hp fun _ => rfl
  case modelFlag => exact field .modelFlag (·.modelFlag) hp fun _ => rfl
  case qualifying => exact field .qualifying (·.qualifying) hp fun _ => rfl
  case powerHistory => exact field .powerHistory (·.powerHistory) hp fun _ => rfl
  case powerLowFrom => exact field .powerLowFrom (·.powerLowFrom) hp fun _ => rfl
  case powerOverFrom => exact field .powerOverFrom (·.powerOverFrom) hp fun _ => rfl
  case powerStack => exact field .powerStack (·.powerStack) hp fun _ => rfl
  case packageReset => exact field .packageReset (·.packageReset) hp fun _ => rfl
  case paths => exact field .paths (·.paths) hp fun _ => rfl
  case forced => exact field .forced (·.forced) hp fun _ => rfl
  case ports => exact field .ports (·.ports) hp fun _ => rfl
  case mailboxes => exact field .mailboxes (·.mailboxes) hp fun _ => rfl
  case requests => exact field .requests (·.requests) hp fun _ => rfl
  case snapshot => exact field .snapshot (·.snapshot) hp fun _ => rfl
  case snapshots => exact field .snapshots (·.snapshots) hp fun _ => rfl
  case traces => exact field .traces (·.traces) hp fun _ => rfl
  case views => exact field .views (·.views) hp fun _ => rfl
  case images => exact field .images (·.images) hp fun _ => rfl
  case imageInUse => exact field .imageInUse (·.imageInUse) hp fun _ => rfl
  case imageFallback => exact field .imageFallback (·.imageFallback) hp fun _ => rfl
  case trialReached => exact field .trialReached (·.trialReached) hp fun _ => rfl
  case privateMode => exact field .privateMode (·.privateMode) hp fun _ => rfl
  case retained => exact field .retained (·.retained) hp fun _ => rfl
  case startKind => exact field .startKind (·.startKind) hp fun _ => rfl
  case keys => exact field .keys (·.keys) hp fun _ => rfl
  case kept => exact field .kept (·.kept) hp fun _ => rfl
  case keptB => exact field .keptB (·.keptB) hp fun _ => rfl
  case freqs => exact field .freqs (·.freqs) hp fun _ => rfl
  case crossings => exact field .crossings (·.crossings) hp fun _ => rfl
  case turn => exact field .turn (·.turn) hp fun _ => rfl
  case screens => exact field .screens (·.screens) hp fun _ => rfl
  case undefinedCases => exact field .undefinedCases (·.undefinedCases) hp fun _ => rfl
  case objs => exact field .objs (·.objs) hp fun _ => rfl
  case output => exact field .output (·.output) hp fun _ => rfl
  case free => exact field .free (·.free) hp fun _ => rfl
  case pending => exact field .pending (·.pending) hp fun _ => rfl

/-! ### The updates of one record -/

/-- Changing an entry does not show in a map that does not look at the change. -/
theorem map_modify_of_eq {α β : Type} {f : α → α} {g : α → β} (h : ∀ x, g (f x) = g x) (l : List α) (i : Nat) :
    (l.modify i f).map g = l.map g := by
  induction l generalizing i with
  | nil => cases i <;> rfl
  | cons a r ih => cases i <;> simp [h, ih]
/-- Reading a table whose values have been mapped. -/
theorem tget_map {α β : Type} (f : Nat × α → β) (l : Tab α) (k : Nat) :
    tget (l.map fun e => (e.1, f e)) k = (tget l k).map fun v => f (k, v) := by
  induction l with
  | nil => rfl
  | cons a r ih =>
    simp only [List.map_cons, tget, ih]
    split
    · next h => rw [← h]; rfl
    · rfl
theorem map_tupd_of_eq {α β : Type} {f : α → α} {g : α → β} (h : ∀ x, g (f x) = g x) (l : Tab α) (k : Nat) :
    (tupd l k f).map (fun e => (e.1, g e.2)) = l.map fun e => (e.1, g e.2) := by
  simp only [tupd, List.map_map]
  refine List.map_congr_left fun e _ => ?_
  simp only [Function.comp]
  split <;> simp [h]

section
variable (s : State)

theorem touches_emit (o : Output) : Touches [.output] s (emit o s) := touches_update [.output] rfl
theorem touches_modKeeper (k : Nat) (f : Keeper → Keeper) : Touches [.keepers] s (modKeeper k f s) := touches_update [.keepers] rfl
theorem touches_modUnit (p : Nat) (f : UnitRec → UnitRec) : Touches [.units] s (modUnit p f s) := touches_update [.units] rfl
theorem touches_modFmax (p : Nat) (f : FmaxRec → FmaxRec) : Touches [.fmax] s (modFmax p f s) := touches_update [.fmax] rfl
theorem touches_modCore (p : Nat) (f : Core → Core) : Touches [.cores] s (modCore p f s) := touches_update [.cores] rfl
theorem touches_modLcn (l : Nat) (f : LcnRec → LcnRec) : Touches [.lcns] s (modLcn l f s) := touches_update [.lcns] rfl
theorem touches_modPort (k : Nat) (f : Port → Port) : Touches [.ports] s (modPort k f s) := touches_update [.ports] rfl
theorem touches_modTrace (k : Nat) (f : TraceSlot → TraceSlot) : Touches [.traces] s (modTrace k f s) := touches_update [.traces] rfl
theorem touches_modCommit (id : Nat) (f : Commit → Commit) : Touches [.commits] s (modCommit id f s) :=
  touches_update [.commits] rfl

theorem touches_modDie_any (d : Nat) (f : Die → Die) : Touches [.stages, .drafts, .dies] s (modDie d f s) :=
  touches_update [.dies] rfl
theorem touches_modField_any (i : Nat) (f : Field → Field) : Touches [.powers, .fields] s (modField i f s) :=
  touches_update [.fields] rfl
theorem touches_modSlice_any (k : Nat) (f : Slice → Slice) : Touches [.shapes, .slices] s (modSlice k f s) :=
  touches_update [.slices] rfl
theorem touches_modCluster_any (ck : Nat) (f : Cluster → Cluster) : Touches [.stops, .clusters] s (modCluster ck f s) :=
  touches_update [.clusters] rfl
theorem touches_setObj_any (k v : Nat) : Touches [.tallies, .objs] s (setObj k v s) := touches_update [.objs] rfl
theorem touches_addObj_any (k n : Nat) : Touches [.tallies, .objs] s (addObj k n s) := touches_update [.objs] rfl

/-- A part that stands still need not be listed. -/
theorem Touches.drop {s t : State} {p : Part} (h : Touches (p :: S) s t) (hp : Agrees s t p) : Touches S s t :=
  ⟨fun q hq => if e : q = p then e ▸ hp else h.agrees q (List.not_mem_cons_of_ne_of_not_mem e hq)⟩

/-- A change of a die that leaves its stages. -/
theorem touches_modDie_draft (d : Nat) (f : Die → Die) (h : ∀ x, (f x).stages = x.stages) :
    Touches [.drafts, .dies] s (modDie d f s) :=
  (touches_modDie_any s d f).drop (map_modify_of_eq h _ _)
/-- A change of a die that leaves its stages and the report in progress. -/
theorem touches_modDie (d : Nat) (f : Die → Die) (h : ∀ x, ((f x).stages, (f x).draft.result) = (x.stages, x.draft.result)) :
    Touches [.dies] s (modDie d f s) :=
  (touches_modDie_draft s d f fun x => congrArg Prod.fst (h x)).drop
    (map_modify_of_eq (g := fun x : Die => x.draft.result) (fun x => congrArg Prod.snd (h x)) _ _)
/-- A change of the report in progress. -/
theorem touches_modDraft (d : Nat) (f : StageReport → StageReport) : Touches [.drafts, .dies] s (modDraft d f s) :=
  touches_modDie_draft s d _ fun _ => rfl
/-- A change of a field that leaves its power. -/
theorem touches_modField (i : Nat) (f : Field → Field) (h : ∀ x, (f x).power = x.power) :
    Touches [.fields] s (modField i f s) :=
  (touches_modField_any s i f).drop (map_modify_of_eq (g := fun x : Field => x.power) h _ _)
/-- A change of a slice that leaves its shape. -/
theorem touches_modSlice (k : Nat) (f : Slice → Slice) (h : ∀ x, (f x).shape = x.shape) :
    Touches [.slices] s (modSlice k f s) :=
  (touches_modSlice_any s k f).drop (map_tupd_of_eq h _ _)
/-- A change of a cluster that leaves the hold of a slice's end. -/
theorem touches_modCluster (ck : Nat) (f : Cluster → Cluster) (h : ∀ c, 10 ∈ (f c).holds ↔ 10 ∈ c.holds) :
    Touches [.clusters] s (modCluster ck f s) := by
  refine (touches_modCluster_any s ck f).drop fun j => ?_
  by_cases hj : j = ck
  · rw [hj, cluster_modCluster_same, h]
  · rw [cluster_modCluster_ne s f hj]

theorem obj_maxObj_ne {k j : Nat} (n d : Nat) (h : j ≠ k) : obj (maxObj k n s) j d = obj s j d :=
  tgetD_tmod_ne _ _ _ _ h
/-- Values that are none of the tallies. -/
theorem touches_objs {l : Tab Nat} (h : ∀ k ∈ tallyKeys, tgetD l k 0 = tgetD s.objs k 0) : Touches [.objs] s { s with objs := l } :=
  (touches_update [.objs] rfl : Touches [.tallies, .objs] s { s with objs := l }).drop h
theorem touches_setObj (k v : Nat) (hk : k ∉ tallyKeys) : Touches [.objs] s (setObj k v s) :=
  touches_objs s fun _ hj => obj_setObj_ne s v 0 (ne_of_mem_of_not_mem hj hk)
theorem touches_addObj (k n : Nat) (hk : k ∉ tallyKeys) : Touches [.objs] s (addObj k n s) :=
  touches_objs s fun _ hj => obj_addObj_ne s n 0 (ne_of_mem_of_not_mem hj hk)
theorem touches_maxObj (k n : Nat) (hk : k ∉ tallyKeys) : Touches [.objs] s (maxObj k n s) :=
  touches_objs s fun _ hj => obj_maxObj_ne s n 0 (ne_of_mem_of_not_mem hj hk)
end

end Sys2Proof.Machine
end

section
/-!
SUPPORT. What the operations of slices, teardowns, traces, fields, commits and stages change: one lemma for each operation,
assembled from the lemmas of the operations that it calls.
-/
namespace Sys2Proof.Machine

/-- What the end of a slice's teardown may change. -/
def teardownParts : List Part :=
  [.powers, .shapes, .stops, .tallies, .keepers, .dies, .fields, .units, .lcns, .cores, .clusters, .slices, .recomputes, .tieBreaks,
    .thirds, .transfers, .follows, .inFlight, .ripcord, .qualifying, .kept, .keptB, .objs, .output, .free]

theorem touches_syncWindow (ck s) : Touches [.clusters] s (syncWindow ck s) :=
  touches_modCluster _ _ _ fun _ => by rfl
theorem mem_addHold {h r : Nat} {l : List Nat} : h ∈ addHold r l ↔ h ∈ l ∨ h = r := by
  unfold addHold
  split
  · exact ⟨.inl, fun h => h.elim id fun h => by simp_all⟩
  · simp
theorem mem_dropHold {h r : Nat} {l : List Nat} : h ∈ dropHold r l ↔ h ∈ l ∧ h ≠ r := by
  simp [dropHold]
theorem touches_holdCluster (r ck s) (hr : r ≠ 10) : Touches [.clusters] s (holdCluster r ck s) :=
  .mono (by decide) <| .trans (touches_modCluster s ck _ fun c => by simp [mem_addHold, hr.symm]) <| touches_syncWindow ..
theorem touches_holdCluster_any (r ck s) : Touches [.clusters, .stops] s (holdCluster r ck s) :=
  .mono (by decide) <| .trans (touches_modCluster_any ..) <| touches_syncWindow ..
theorem touches_stopSlice (k s) : Touches [.shapes, .stops, .clusters, .slices] s (stopSlice k s) :=
  .mono (by decide) <| .trans (touches_modSlice_any ..) <| .foldl (fun _ _ => touches_holdCluster_any ..) _ _
theorem touches_closeChunk (k s) : Touches [.traces] s (closeChunk k s) :=
  touches_modTrace ..
theorem touches_countView (sl unit id n s) : Touches [.views] s (countView sl unit id n s) :=
  .mono (by decide) <| .ite (fun _ => .refl) fun _ => touches_update [.views] (by rfl)
theorem touches_countField (f sl id n s) : Touches [.fields, .views] s (countField f sl id n s) :=
  .mono (by decide) <| .trans (touches_modField _ _ _ fun _ => by rfl) <| touches_countView ..
theorem touches_losePacket (k now s) : Touches [.fields, .traces, .views] s (losePacket k now s) := by
  unfold losePacket
  split
  · exact .mono (by decide) <| .refl
  · exact .mono (by decide) <| .trans (touches_modTrace ..) <| touches_countField ..
theorem touches_queueTrace (ck n s) : Touches [.clusters] s (queueTrace ck n s) :=
  touches_modCluster _ _ _ fun _ => by rfl
theorem touches_appendWords (k now ws s) : Touches [.traces] s (appendWords k now ws s) :=
  touches_modTrace ..
theorem touches_putWords (k now ws s) : Touches [.fields, .clusters, .traces, .views] s (putWords k now ws s) := by
  unfold putWords
  split
  · exact .mono (by decide) .refl
  · have close : ∀ (c : Prop) [Decidable c] n, Touches [.clusters, .traces] s
        (if c then closeChunk k (queueTrace n ws.length s) else queueTrace n ws.length s) :=
      fun c _ n => .mono (by decide) <| .ite (fun _ => .trans (touches_queueTrace ..) (touches_closeChunk ..)) fun _ =>
        touches_queueTrace ..
    refine .mono (List.append_subset.mpr ⟨by decide, List.Subset.refl _⟩) <| .ite (fun _ => touches_losePacket ..) fun _ => ?_
    dsimp only
    split
    · exact .mono (by decide) (close ..)
    · refine .mono (L := _ ++ (_ ++ [.fields, .traces, .views])) (by decide) <|
        .trans (close ..) (.ite (fun _ => touches_losePacket ..) fun _ => ?_)
      generalize hy : countField _ _ _ _ _ = y
      refine .mono (L := [.fields, .traces, .views] ++ [.traces]) (by decide) <| .trans (t := y) ?_ ?_
      · rw [← hy]
        exact .mono (by decide) <| .trans (touches_modTrace ..) <| .trans (touches_appendWords ..) <| touches_countField ..
      · split
        · exact .mono (by decide) <| .ite (fun _ => touches_closeChunk ..) fun _ => .refl
        · exact .mono (by decide) .refl
theorem touches_putPacket (k type body ext s) :
    Touches [.fields, .clusters, .traces, .views] s (putPacket k type body ext s) := by
  unfold putPacket
  dsimp only
  split
  · exact .mono (by decide) <| .refl
  · exact .mono (by decide) <| .ite (fun _ => .trans (.ite (fun _ => touches_closeChunk ..) fun _ => .refl) <|
        touches_putWords ..) fun _ => .trans (.ite (fun _ => touches_putWords ..) fun _ => .refl) <| touches_putWords ..
theorem touches_flushOutcomes (k s) : Touches [.fields, .clusters, .traces, .views] s (flushOutcomes k s) := by
  unfold flushOutcomes
  dsimp only
  split
  · exact .mono (by decide) <| .refl
  · exact .mono (by decide) <| .ite (fun _ => .refl) fun _ => .trans (touches_modTrace ..) <| touches_putPacket ..
theorem touches_writeDrop (k s) : Touches [.dies, .traces] s (writeDrop k s) := by
  unfold writeDrop
  dsimp only
  split
  · exact .mono (by decide) <| .refl
  · split
    · exact .mono (by decide) <| .refl
    · exact .mono (by decide) <| .ite (fun _ => .refl) fun _ => .trans (touches_modDie _ _ _ fun _ => by rfl) <|
          touches_modTrace ..
theorem touches_stopSlot (k cause s) : Touches [.dies, .fields, .clusters, .traces, .views] s (stopSlot k cause s) := by
  unfold stopSlot
  dsimp only
  split
  · exact .mono (by decide) <| .refl
  · split
    · exact .mono (by decide) <| .refl
    · split
      · exact .mono (by decide) <| .trans (touches_flushOutcomes ..) <| .trans (touches_closeChunk ..) <| .trans
            (touches_modTrace ..) <| .ite (fun _ => touches_writeDrop ..) fun _ => .refl
      · exact .mono (by decide) <| .trans (touches_flushOutcomes ..) <| .trans (touches_closeChunk ..) <| touches_modTrace ..
theorem touches_stopSlots (pick cause s) :
    Touches [.dies, .fields, .clusters, .traces, .views] s (stopSlots pick cause s) :=
  .mono (by decide) <| .foldl (fun _ _ => touches_stopSlot ..) _ _
theorem touches_takePosition (s) : Touches [.seqr] s (takePosition s) :=
  touches_update [.seqr] (by rfl)
theorem touches_mirrorEvent (n s) : Touches [.seqr] s (mirrorEvent n s) :=
  .mono (by decide) <| .ite (fun _ => touches_update [.seqr] (by rfl)) fun _ => .refl
theorem touches_returnEverywhere (n s) : Touches [.seqr, .dies] s (returnEverywhere n s) :=
  .mono (by decide) <| .trans (touches_mirrorEvent ..) <| .foldl (fun _ _ => .ite (fun _ => .refl) fun _ => touches_modDie _ _
      _ fun _ => by rfl) _ _
theorem touches_eraEvent (s) : Touches [.seqr, .dies] s (eraEvent s) :=
  .mono (by decide) <| .ite (fun _ => .trans (touches_returnEverywhere ..) <| touches_takePosition ..) fun _ => .refl
theorem touches_issuePosition (s) : Touches [.seqr, .dies] s (issuePosition s) :=
  .mono (by decide) <| .trans (touches_eraEvent ..) <| .trans (touches_takePosition ..) <| touches_eraEvent ..
theorem touches_spareMove (p s) : Touches [.units] s (spareMove p s) :=
  .mono (by decide) <| .ite (fun _ => touches_modUnit ..) fun _ => .refl
theorem touches_freeCluster (r ck s) (hr : r ≠ 10) : Touches [.clusters] s (freeCluster r ck s) :=
  .mono (by decide) <| .trans (touches_modCluster s ck _ fun c => by simp [mem_dropHold, hr.symm]) <| touches_syncWindow ..
theorem touches_freeCluster_any (r ck s) : Touches [.clusters, .stops] s (freeCluster r ck s) :=
  .mono (by decide) <| .trans (touches_modCluster_any ..) <| touches_syncWindow ..
theorem touches_clearLcns (k s) : Touches [.lcns] s (clearLcns k s) :=
  touches_update [.lcns] (by rfl)
theorem touches_clearClusters (k s) :
    Touches [.units, .lcns, .cores, .clusters, .recomputes, .tieBreaks, .thirds, .stops] s (clearClusters k s) :=
  .mono (by decide) <| .trans (touches_update [.recomputes, .tieBreaks, .thirds, .cores] (by rfl)) <|
    .trans (.foldl (fun _ _ => touches_spareMove ..) _ _) <| .trans (touches_clearLcns ..) <|
    .foldl (fun _ _ => .trans (touches_modCluster_any ..) <| touches_freeCluster_any ..) _ _
theorem touches_raiseLocal (d e s) : Touches [.dies] s (raiseLocal d e s) :=
  touches_modDie _ _ _ fun _ => by rfl
theorem touches_recordAt (d code p sl payload s) : Touches [.dies] s (recordAt d code p sl payload s) :=
  touches_raiseLocal ..
theorem touches_assignAdoptive (ck s) : Touches [.clusters] s (assignAdoptive ck s) :=
  .mono (by decide) <| .ite (fun _ => touches_modCluster _ _ _ fun _ => by rfl) fun _ => .ite (fun _ => .ite (fun _ =>
      touches_modCluster _ _ _ fun _ => by rfl) fun _ => .refl) fun _ => touches_modCluster _ _ _ fun _ => by rfl
theorem touches_refreshIdle (fs s) : Touches [.fields] s (refreshIdle fs s) :=
  .mono (by decide) <| .foldl (fun _ _ => touches_modField _ _ _ fun _ => by rfl) _ _
theorem touches_refreshReservoirs (fs s) : Touches [.output, .free] s (refreshReservoirs fs s) :=
  .mono (by decide) <| .foldl (fun _ _ => .ite (fun _ => .refl) fun _ => .trans (touches_update [.free] (by rfl)) <|
      touches_emit ..) _ _
theorem touches_setSobj (sl k v s) : Touches [.slices] s (setSobj sl k v s) :=
  touches_modSlice _ _ _ fun _ => by rfl
theorem touches_setSobjs (sl l s) : Touches [.slices] s (setSobjs sl l s) :=
  .mono (by decide) <| .foldl (fun _ _ => touches_setSobj ..) _ _
theorem touches_noteEvent (d code sl note s) : Touches [.dies] s (noteEvent d code sl note s) :=
  touches_raiseLocal ..
theorem touches_grantSlice (fs e required k s) : Touches [.dies, .slices] s (grantSlice fs e required k s) := by
  unfold grantSlice
  dsimp only
  split
  · exact .mono (by decide) <| .refl
  · exact .mono (by decide) <| .trans (touches_setSobjs ..) <| .trans (.ite (fun _ => touches_noteEvent ..) fun _ => .refl) <|
        .ite (fun _ => touches_modSlice _ _ _ fun _ => by rfl) fun _ => touches_modSlice _ _ _ fun _ => by rfl
theorem touches_discardMargins (pick s) : Touches [.cores] s (discardMargins pick s) :=
  touches_update [.cores] (by rfl)
theorem touches_discardMargin (f s) : Touches [.cores] s (discardMargin f s) :=
  touches_discardMargins ..
theorem touches_writeVoltage (f e s) : Touches [.fields, .cores, .output] s (writeVoltage f e s) :=
  .mono (by decide) <| .ite (fun _ => .refl) fun _ => .trans (touches_emit ..) <| .trans (touches_discardMargin ..) <|
      touches_modField _ _ _ fun _ => by rfl
theorem touches_lowerVoltages (fs s) : Touches [.fields, .cores, .output] s (lowerVoltages fs s) := by
  unfold lowerVoltages
  split
  · exact .mono (by decide) <| .refl
  · refine .foldl (fun _ _ => ?_) _ _
    split
    · exact .mono (by decide) <| touches_writeVoltage ..
    · exact .mono (by decide) <| .refl
theorem touches_recomputeGroup (required f s) :
    Touches [.dies, .fields, .cores, .slices, .output] s (recomputeGroup required f s) :=
  .mono (by decide) <| .trans (.foldl (fun _ _ => touches_grantSlice ..) _ _) <| .trans (.foldl (fun _ _ => .ite (fun _ =>
      .refl) fun _ => .ite (fun _ => touches_modField _ _ _ fun _ => by rfl) fun _ => .ite (fun _ => touches_writeVoltage ..)
      fun _ => .trans (.ite (fun _ => touches_writeVoltage ..) fun _ => .refl) <| touches_modField _ _ _ fun _ => by rfl) _ _)
      <| touches_lowerVoltages ..
theorem touches_recomputeGroups (required fs s) :
    Touches [.dies, .fields, .cores, .slices, .output] s (recomputeGroups required fs s) := by
  unfold recomputeGroups
  refine .foldl_fst (x := (s, [])) (fun x f => ?_) fs
  split
  · exact .mono (by decide) .refl
  · dsimp only
    exact touches_recomputeGroup ..
theorem touches_syncWindows (s) : Touches [.clusters] s (syncWindows s) :=
  .mono (by decide) <| .foldl (fun _ _ => touches_syncWindow ..) _ _
theorem touches_holdField (r f s) : Touches [.fields, .clusters] s (holdField r f s) :=
  .mono (by decide) <| .trans (touches_modField _ _ _ fun _ => by rfl) <| touches_syncWindows ..
theorem touches_stopKeeper (k s) : Touches [.keepers] s (stopKeeper k s) :=
  touches_modKeeper ..
theorem touches_railOff (f p s) : Touches [.powers, .keepers, .fields, .clusters, .output] s (railOff f p s) :=
  .mono (by decide) <| .trans (.ite (fun _ => .refl) fun _ => .foldl (fun _ _ => touches_modField _ _ _ fun _ => by rfl) _ _)
      <| .trans (touches_holdField ..) <| .trans (touches_emit ..) <| .trans (touches_modField_any ..) <| touches_stopKeeper
      ..
theorem touches_reachTarget (s) : Touches [.powers, .keepers, .fields, .clusters, .ripcord, .output] s (reachTarget s) :=
  .mono (by decide) <| .trans (touches_update [.ripcord] (by rfl)) <| .ite (fun _ => .refl) fun _ => .foldl (fun _ _ => .ite
      (fun _ => .refl) fun _ => touches_railOff ..) _ _
theorem touches_editStores (d f s) : Touches [.kept, .keptB] s (editStores d f s) :=
  touches_update [.kept, .keptB] (by rfl)
theorem touches_saveTraining (d units s) : Touches [.dies, .kept, .keptB, .objs] s (saveTraining d units s) :=
  have hk : key 0x3430 (d + 5) ∉ tallyKeys := by
    simp only [tallyKeys, key, List.mem_cons, List.not_mem_nil, not_or, not_false_eq_true, and_true]
    omega
  .mono (by decide) <| .trans (touches_modDie _ _ _ fun _ => by rfl) <| .trans (touches_setObj _ _ _ hk) <|
    .ite (fun _ => .refl) fun _ => touches_editStores ..
theorem touches_record (code p sl payload s) : Touches [.dies] s (record code p sl payload s) :=
  touches_raiseLocal ..
theorem touches_recordPkg (code payload s) : Touches [.dies] s (recordPkg code payload s) :=
  touches_record ..
theorem touches_selfTestRecord (complete longest s) :
    Touches [.dies, .kept, .keptB] s (selfTestRecord complete longest s) :=
  .mono (by decide) <| .ite (fun _ => .refl) fun _ => .trans (touches_update [.kept, .keptB] (by rfl)) <| touches_recordPkg ..
theorem touches_endShutdown (s) :
    Touches [.powers, .keepers, .dies, .fields, .clusters, .ripcord, .kept, .keptB, .objs, .output] s (endShutdown s) :=
  .mono (by decide) <| .ite (fun _ => .refl) fun _ => .ite (fun _ => touches_reachTarget ..) fun _ => .ite (fun _ => .refl)
      fun _ => .trans (.foldl (fun _ _ => touches_saveTraining ..) _ _) <| .trans (.ite (fun _ => .refl) fun _ => .trans
      (touches_selfTestRecord ..) <| touches_setObj _ _ _ (by decide)) <| touches_reachTarget ..
theorem touches_recordVia (via d code p sl payload s) : Touches [.dies] s (recordVia via d code p sl payload s) :=
  touches_raiseLocal ..
theorem touches_capacityEvent (via k fieldIdx cause s) : Touches [.dies, .objs] s (capacityEvent via k fieldIdx cause s) :=
  .mono (by decide) <| .trans (touches_addObj _ _ _ (by decide)) <| touches_recordVia ..
/-- A change of the clusters' recovery times leaves their holds. -/
theorem touches_resetRuns (s : State) (g : Nat × Cluster → Cluster) (hg : ∀ e, (g e).holds = e.2.holds) :
    Touches [.clusters] s { s with clusters := s.clusters.map fun e => (e.1, g e) } := by
  refine (touches_update [.clusters] rfl : Touches [.stops, .clusters] _ _).drop fun ck => ?_
  have : (cluster { s with clusters := s.clusters.map fun e => (e.1, g e) } ck).holds = (cluster s ck).holds := by
    simp only [cluster, tgetD, tget_map]
    cases tget s.clusters ck with
    | none => rfl
    | some c => exact hg _
  rw [this]
theorem touches_placeRegion (d r s) : Touches [.dies, .clusters, .objs] s (placeRegion d r s) := by
  unfold placeRegion
  split
  · exact .mono (by decide) .refl
  · exact .mono (by decide) <| .trans (touches_modDie _ _ _ fun _ => by rfl) <|
      .trans (.ite (fun _ => touches_resetRuns _ _ fun _ => by dsimp only; split <;> rfl) fun _ => .refl) <|
      touches_capacityEvent ..
theorem touches_loseRegion (d r s) : Touches [.dies] s (loseRegion d r s) := by
  unfold loseRegion
  dsimp only
  split
  · exact .mono (by decide) <| .trans (touches_modDie _ _ _ fun _ => by rfl) <| touches_modDie _ _ _ fun _ => by rfl
  · exact .mono (by decide) <| .trans (touches_modDie _ _ _ fun _ => by rfl) <| touches_modDie _ _ _ fun _ => by rfl
  · exact .mono (by decide) <| touches_modDie _ _ _ fun _ => by rfl
theorem touches_refreshRegions (s) : Touches [.dies, .clusters, .objs] s (refreshRegions s) := by
  unfold refreshRegions
  refine .foldl (fun _ _ => .foldl (fun _ _ => ?_) _ _) _ _
  split
  · exact .mono (by decide) <| .ite (fun _ => .trans (touches_loseRegion ..) <| touches_placeRegion ..) fun _ => .refl
  · exact .mono (by decide) <| touches_placeRegion ..
theorem touches_syncQualifying (s) : Touches [.qualifying] s (syncQualifying s) :=
  touches_update [.qualifying] (by rfl)
theorem touches_endTeardown (k timedOut s) : Touches teardownParts s (endTeardown k timedOut s) := by
  unfold endTeardown
  dsimp only
  split
  · exact .mono (by decide) <| .refl
  · split
    · exact .mono (by decide) <| .refl
    · exact .mono (by decide) <| .trans (touches_clearClusters ..) <| .trans (touches_update [.transfers, .follows, .inFlight]
          (by rfl)) <| .trans (touches_recordAt ..) <| .trans (touches_modSlice_any ..) <| .trans (touches_maxObj _ _ _ (by
          decide)) <| .trans (touches_addObj_any ..) <| .trans (.ite (fun _ => touches_addObj_any ..) fun _ => .refl) <|
          .trans (.foldl (fun _ _ => touches_assignAdoptive ..) _ _) <| .trans (touches_recomputeGroups ..) <| .trans
          (touches_refreshReservoirs ..) <| .trans (touches_refreshIdle ..) <| .trans (touches_syncQualifying ..) <| .trans
          (touches_refreshRegions ..) <| touches_endShutdown ..
theorem touches_checkQuiesce (k s) : Touches teardownParts s (checkQuiesce k s) := by
  unfold checkQuiesce
  split
  · exact .mono (by decide) <| .refl
  · exact .mono (by decide) <| .ite (fun _ => touches_endTeardown ..) fun _ => .refl
theorem touches_checkLoaded (k s) : Touches teardownParts s (checkLoaded k s) := by
  unfold checkLoaded
  split
  · exact .mono (by decide) <| .refl
  · exact .mono (by decide) <| .ite (fun _ => .trans (touches_modSlice_any ..) <| touches_checkQuiesce ..) fun _ => .refl
theorem touches_generations (s : State) (l : Tab Nat) : Touches [.generations] s { s with generations := l } :=
  touches_update [.generations] rfl
theorem touches_cores (s : State) (l : Tab Core) : Touches [.cores] s { s with cores := l } := touches_update [.cores] rfl
theorem touches_beginTeardown (k s) :
    Touches ([.seqr, .generations, .traces, .views] ++ teardownParts) s (beginTeardown k s) := by
  unfold beginTeardown
  split
  · exact .mono (by decide) .refl
  · exact .mono (by decide) <| .ite (fun _ => .refl) fun _ => .trans (.ite (fun _ => .refl) fun _ => touches_stopSlice ..) <|
      .trans (touches_cores ..) <| .trans (touches_stopSlots ..) <| .trans (.ite (fun _ => touches_issuePosition ..) fun _ => .refl) <|
      .trans (touches_generations ..) <| .trans (touches_modSlice_any ..) <| touches_checkLoaded ..
theorem touches_clearViews (sl s) : Touches [.views] s (clearViews sl s) :=
  touches_update [.views] (by rfl)
theorem touches_refreshFreq (k s) : Touches [.slices] s (refreshFreq k s) :=
  touches_modSlice _ _ _ fun _ => by rfl
theorem touches_startKeeper (k s) : Touches [.keepers] s (startKeeper k s) :=
  touches_modKeeper ..
theorem touches_powerOn (f s) : Touches [.powers, .keepers, .fields, .cores, .clusters, .output] s (powerOn f s) :=
  .mono (by decide) <| .ite (fun _ => .refl) fun _ => .trans (touches_holdField ..) <| .trans (touches_emit ..) <| .trans
      (touches_modField_any ..) <| .trans (.ite (fun _ => touches_startKeeper ..) fun _ => .refl) <| .trans
      (touches_writeVoltage ..) <| .ite (fun _ => .refl) fun _ => touches_writeVoltage ..
theorem touches_cutProgress (ck s) : Touches [.lcns] s (cutProgress ck s) := by
  unfold cutProgress
  dsimp only
  split
  · exact .mono (by decide) <| .refl
  · exact .mono (by decide) <| touches_update [.lcns] (by rfl)
theorem touches_setObjs (l s) (hk : ∀ e ∈ l, e.1 ∉ tallyKeys) : Touches [.objs] s (setObjs l s) := by
  unfold setObjs
  induction l generalizing s with
  | nil => exact .mono (by decide) .refl
  | cons a r ih =>
    exact .mono (by decide) <| .trans (touches_setObj _ _ _ (hk a List.mem_cons_self)) <|
      ih _ fun e he => hk e (List.mem_cons_of_mem a he)
theorem touches_recordSeq (code p sl payload keys s) : Touches [.dies] s (recordSeq code p sl payload keys s) :=
  touches_raiseLocal ..
theorem touches_publishSwap (lcn w sp outcome s) (ho : outcome < 256) :
    Touches [.dies, .objs] s (publishSwap lcn w sp outcome s) :=
  have hk : key 0x2806 (13 + outcome) ∉ tallyKeys := by
    simp [tallyKeys, key]
    omega
  .mono (by decide) <| .trans (touches_addObj _ _ _ hk) <| .trans (touches_setObjs _ _ (by simp [tallyKeys, key])) <|
    touches_recordSeq ..
theorem touches_maps (s : State) (c : Tab (Option Nat)) (m : Tab (Option Nat)) :
    Touches [.clusterMap, .lcnMap] s { s with clusterMap := c, lcnMap := m } :=
  touches_update [.clusterMap, .lcnMap] rfl
theorem touches_applyMap (b s) :
    Touches [.lcnMap, .clusterMap, .lanes, .channels, .zports, .lostSlots] s (applyMap b s) := by
  cases b with
  | core | swap => exact .mono (by decide) (touches_update [.lcnMap] (by rfl))
  | cluster => exact .mono (by decide) (touches_maps ..)
  | lane => exact .mono (by decide) (touches_update [.lanes] (by rfl))
  | zport => exact .mono (by decide) (touches_update [.zports] (by rfl))
  | channel => exact .mono (by decide) (touches_update [.channels] (by rfl))
  | slotLost => exact .mono (by decide) (touches_update [.lostSlots] (by rfl))
  | stackLost | around => exact .mono (by decide) .refl
theorem touches_scheduleCommit (id s) : Touches [.clusters, .commits] s (scheduleCommit id s) := by
  unfold scheduleCommit
  dsimp only
  split
  · exact .mono (by decide) <| .refl
  · exact .mono (by decide) <| .trans (touches_modCommit ..) <| .foldl (fun _ _ => touches_modCluster _ _ _ fun _ => by rfl) _
        _
theorem touches_requestCommit (bs quarantines units cause s) :
    Touches [.dies, .clusters, .commits, .nextCommit] s (requestCommit bs quarantines units cause s) :=
  .mono (by decide) <| .ite (fun _ => .refl) fun _ => .trans (touches_update [.commits, .nextCommit] (by rfl)) <| .ite (fun _
      => touches_scheduleCommit ..) fun _ => touches_raiseLocal ..
theorem touches_setOpen (p b s) : Touches [.units] s (setOpen p b s) :=
  touches_modUnit ..
theorem touches_weakSwap (k s) : Touches [.dies, .units, .clusters, .commits, .nextCommit, .objs] s (weakSwap k s) := by
  unfold weakSwap
  dsimp only
  split
  · refine .mono (List.append_subset.mpr ⟨List.nil_subset _, List.Subset.refl _⟩) <| .ite (fun _ => .refl) fun _ =>
      .mono (List.append_subset.mpr ⟨List.nil_subset _, List.Subset.refl _⟩) <| .ite (fun _ => .refl) fun _ => ?_
    split
    · exact .mono (by decide) <| touches_publishSwap _ _ _ _ _ (by decide)
    · exact .mono (by decide) <| .ite (fun _ => .trans (touches_setOpen ..) <| touches_requestCommit ..) fun _ =>
        touches_publishSwap _ _ _ _ _ (by decide)
  · exact .mono (by decide) .refl
theorem touches_refreshBound (k s) : Touches [.dies, .slices] s (refreshBound k s) := by
  unfold refreshBound
  dsimp only
  split
  · exact .mono (by decide) <| .refl
  · exact .mono (by decide) <| .ite (fun _ => .refl) fun _ => .trans (touches_modSlice _ _ _ fun _ => by rfl) <|
        touches_recordAt ..
theorem touches_applyMode (k s) : Touches [.dies, .slices, .qualifying] s (applyMode k s) := by
  unfold applyMode
  dsimp only
  split
  · exact .mono (by decide) <| .refl
  · exact .mono (by decide) <| .ite (fun _ => .refl) fun _ => .ite (fun _ => .trans (touches_modSlice _ _ _ fun _ => by rfl)
        <| .trans (touches_syncQualifying ..) <| touches_refreshBound ..) fun _ => .ite (fun _ => touches_modSlice _ _ _ fun _
        => by rfl) fun _ => .trans (touches_modSlice _ _ _ fun _ => by rfl) <| .ite (fun _ => .refl) fun _ => .trans
        (touches_modSlice _ _ _ fun _ => by rfl) <| .trans (touches_syncQualifying ..) <| touches_refreshBound ..
theorem touches_completeCreation (k s) : Touches [.shapes, .slices] s (completeCreation k s) :=
  touches_modSlice_any ..
theorem touches_modThermal (d f s) : Touches [.dies] s (modThermal d f s) :=
  touches_modDie _ _ _ fun _ => by rfl
theorem touches_beginStage (d n s) : Touches [.stages, .drafts, .dies] s (beginStage d n s) := touches_modDie_any ..
theorem touches_anchorAtStart (cause s) : Touches [.anchorDie, .standby, .takenOver, .dies] s (anchorAtStart cause s) :=
  .mono (by decide) <| .trans (touches_update [.anchorDie, .standby, .takenOver] (by rfl)) <| touches_raiseLocal ..
theorem touches_startPt (k s) : Touches [.ptStarted, .keepers] s (startPt k s) :=
  .mono (by decide) <| .trans (touches_modKeeper ..) <| touches_update [.ptStarted] (by rfl)
theorem touches_flagDraft (d bit s) : Touches [.drafts, .dies] s (flagDraft d bit s) :=
  touches_modDraft ..
theorem touches_noteDetail (d c unit s) : Touches [.drafts, .dies] s (noteDetail d c unit s) := by
  unfold noteDetail
  exact touches_modDraft ..
theorem touches_checkStack (j s) :
    Touches [.dies, .unreachable, .clusters, .commits, .nextCommit, .objs] s (checkStack j s) :=
  .mono (by decide) <| .ite (fun _ => .refl) fun _ => .ite (fun _ => .trans (touches_update [.unreachable] (by rfl)) <| .trans
      (.foldl (fun _ _ => touches_capacityEvent ..) _ _) <| touches_requestCommit ..) fun _ => .refl
theorem touches_checkStacks (s) :
    Touches [.dies, .unreachable, .clusters, .commits, .nextCommit, .objs] s (checkStacks s) :=
  .mono (by decide) <| .foldl (fun _ _ => touches_checkStack ..) _ _
theorem touches_leaveOff (f s) :
    Touches [.drafts, .powers, .keepers, .dies, .fields, .unreachable, .clusters, .commits, .nextCommit, .objs, .output] s
        (leaveOff f s) :=
  .mono (by decide) <| .ite (fun _ => .refl) fun _ => .trans (touches_railOff ..) <| .trans (touches_checkStacks ..) <|
      touches_flagDraft ..

end Sys2Proof.Machine
end

section
/-!
SUPPORT. How a slice ends (R288 to R291).
-/
namespace Sys2Proof.Machine

/-! ### What a slice keeps -/

/-- A slice that `Touches` leaves keeps its shape. -/
theorem Touches.slice_shape {s t : State} {S : List Part} (h : Touches S s t) (hp : .shapes ∉ S) {k : Nat} {x : Slice}
    (hx : slice s k = some x) : ∃ y, slice t k = some y ∧ y.shape = x.shape := by
  have e : (slice t k).map Slice.shape = (slice s k).map Slice.shape := by
    have := congrArg (fun l => tget l k) (h.agrees .shapes hp)
    rwa [tget_map fun e : Nat × Slice => e.2.shape, tget_map fun e : Nat × Slice => e.2.shape] at this
  simpa [hx] using e

/-! ### The tables and the quiesce (R288, R289, R290) -/

theorem tablesExpected_pos (s : State) : 0 < tablesExpected s := by
  have : 0 < (hostChiplets s.variant).length := by cases s.variant <;> decide
  simp only [tablesExpected]
  omega

section
variable {s : State} {k : Nat} {x : Slice} {td : Teardown}

theorem checkLoaded_waits (hx : slice s k = some x) (ht : x.teardown = some td)
    (h : (td.loaded.filter (tableExpected s)).length < tablesExpected s) : checkLoaded k s = s := by
  simp [checkLoaded, hx, ht, h]
theorem checkLoaded_begins (hx : slice s k = some x) (ht : x.teardown = some td) (h2 : td.step = 2)
    (h : tablesExpected s ≤ (td.loaded.filter (tableExpected s)).length) :
    checkLoaded k s = checkQuiesce k (modSlice k (fun x => { x with
      teardown := some { td with step := 3, quiesceFrom := pt s } }) s) := by
  simp [checkLoaded, hx, ht, h2, h]
theorem checkQuiesce_waits (hx : slice s k = some x) (ht : x.teardown = some td) {q : Nat} (hq : q ∈ td.points)
    (hm : tget td.marks q = none) : checkQuiesce k s = s := by
  have : td.points.all (fun p => (tget td.marks p).isSome) = false := by
    simp only [List.all_eq_false]
    exact ⟨q, hq, by simp [hm]⟩
  simp [checkQuiesce, hx, ht, this]
theorem checkQuiesce_ends (hx : slice s k = some x) (ht : x.teardown = some td) (h3 : td.step = 3)
    (hm : ∀ q ∈ td.points, tget td.marks q ≠ none) (hsum : (td.marks.map (·.2.1)).sum = (td.marks.map (·.2.2)).sum) :
    checkQuiesce k s = endTeardown k false s := by
  have : td.points.all (fun p => (tget td.marks p).isSome) = true := by
    simpa [Option.isSome_iff_ne_none] using hm
  simp [checkQuiesce, hx, ht, h3, this, hsum]
end

/-! ### The end of a teardown (R291) -/

/-- A slice that has ended: its memory waits for its zero-fill. -/
def endedSlice (x : Slice) : Slice := { x with
  life := .ended, teardown := none, switches := [], pending := none, notices := [],
  zeroFill := x.zeroFill ++ x.memory, memory := [], carried := [] }
/-- The step of `endTeardown` that ends the slice and counts the teardown. -/
def closeSlice (k took : Nat) (timedOut : Bool) (s : State) : State :=
  let s := addObj (key 0x2C12 1) 1 (maxObj (key 0x2C12 3) took (modSlice k endedSlice s))
  if timedOut then addObj (key 0x2C12 2) 1 s else s
/-- What `endTeardown` may change besides the step `closeSlice`. -/
def aroundClose : List Part := teardownParts.filter (· ∉ [Part.shapes, .tallies])

theorem endTeardown_closes {s : State} {k : Nat} {x : Slice} {td : Teardown} (timedOut : Bool) (hx : slice s k = some x)
    (ht : x.teardown = some td) : ∃ took a, Touches aroundClose s a ∧
      Touches aroundClose (closeSlice k took timedOut a) (endTeardown k timedOut s) := by
  simp only [endTeardown, hx, ht]
  refine ⟨pt s - td.quiesceFrom, _, ?_, .mono (by decide) <| .trans (.foldl (fun _ _ => touches_assignAdoptive ..) _ _) <|
    .trans (touches_recomputeGroups ..) <| .trans (touches_refreshReservoirs ..) <| .trans (touches_refreshIdle ..) <|
    .trans (touches_syncQualifying ..) <| .trans (touches_refreshRegions ..) <| touches_endShutdown ..⟩
  exact .mono (by decide) <| .trans (touches_clearClusters ..) <|
    .trans (touches_update [.transfers, .follows, .inFlight] (by rfl)) <| touches_recordAt ..

theorem slice_closeSlice (k took : Nat) (timedOut : Bool) (s : State) :
    slice (closeSlice k took timedOut s) k = (slice s k).map endedSlice := by
  have h : slice (closeSlice k took timedOut s) k = slice (modSlice k endedSlice s) k := by
    cases timedOut <;> rfl
  rw [h, slice_modSlice_same]
theorem obj_closeSlice_ended (k took : Nat) (timedOut : Bool) (s : State) :
    obj (closeSlice k took timedOut s) (key 0x2C12 1) 0 = obj s (key 0x2C12 1) 0 + 1 := by
  have h : obj (addObj (key 0x2C12 1) 1 (maxObj (key 0x2C12 3) took (modSlice k endedSlice s))) (key 0x2C12 1) 0 =
      obj s (key 0x2C12 1) 0 + 1 := by
    rw [obj_addObj_same, obj_maxObj_ne _ _ _ (by decide)]
    rfl
  cases timedOut
  · exact h
  · exact (obj_addObj_ne _ _ _ (by decide)).trans h
theorem obj_closeSlice_timedOut (k took : Nat) (timedOut : Bool) (s : State) :
    obj (closeSlice k took timedOut s) (key 0x2C12 2) 0 = obj s (key 0x2C12 2) 0 + if timedOut then 1 else 0 := by
  have h : obj (addObj (key 0x2C12 1) 1 (maxObj (key 0x2C12 3) took (modSlice k endedSlice s))) (key 0x2C12 2) 0 =
      obj s (key 0x2C12 2) 0 := by
    rw [obj_addObj_ne _ _ _ (by decide), obj_maxObj_ne _ _ _ (by decide)]
    rfl
  cases timedOut
  · exact h
  · exact (obj_addObj_same ..).trans (congrArg (· + 1) h)

/-- What the end of a teardown leaves: the slice has ended and its teardown is counted. -/
theorem endTeardown_spec {s : State} {k : Nat} {x : Slice} {td : Teardown} (timedOut : Bool) (hx : slice s k = some x)
    (ht : x.teardown = some td) : ∃ y, slice (endTeardown k timedOut s) k = some y ∧ y.life = .ended ∧ y.teardown = none ∧
      y.memory = [] ∧ y.zeroFill = x.zeroFill ++ x.memory ∧
      obj (endTeardown k timedOut s) (key 0x2C12 1) 0 = obj s (key 0x2C12 1) 0 + 1 ∧
      obj (endTeardown k timedOut s) (key 0x2C12 2) 0 = obj s (key 0x2C12 2) 0 + if timedOut then 1 else 0 := by
  obtain ⟨took, a, ha, hb⟩ := endTeardown_closes timedOut hx ht
  obtain ⟨z, hz, hzx⟩ := ha.slice_shape (by decide) hx
  obtain ⟨y, hy, hyz⟩ := hb.slice_shape (by decide) ((slice_closeSlice k took timedOut a).trans (congrArg _ hz))
  simp only [Slice.shape, endedSlice, Prod.mk.injEq] at hzx hyz
  have tally : ∀ j ∈ tallyKeys, obj (endTeardown k timedOut s) j 0 = obj (closeSlice k took timedOut a) j 0 ∧ obj a j 0 = obj s j 0 :=
    fun j hj => ⟨hb.agrees .tallies (by decide) j hj, ha.agrees .tallies (by decide) j hj⟩
  refine ⟨y, hy, by simp [hyz], by simp [hyz], by simp [hyz], by simp [hyz, hzx], ?_, ?_⟩
  · rw [(tally _ (by decide)).1, obj_closeSlice_ended, (tally _ (by decide)).2]
  · rw [(tally _ (by decide)).1, obj_closeSlice_timedOut, (tally _ (by decide)).2]

/-! ### The commands of a teardown -/

section
variable {s : State} {k : Nat} {x : Slice} {td : Teardown}

/-- A step of the quiesce changes the teardown of its slice. -/
theorem slice_modTeardown (f : Teardown → Teardown) (hx : slice s k = some x) (ht : x.teardown = some td) :
    slice (modSlice k (fun x => { x with teardown := x.teardown.map f }) s) k = some { x with teardown := some (f td) } := by
  rw [slice_modSlice_same, hx, Option.map_some, ht, Option.map_some]

theorem slice_checkQuiesce (hx : slice s k = some x) : ∃ y, slice (checkQuiesce k s) k = some y := by
  unfold checkQuiesce
  split
  · exact ⟨x, hx⟩
  · next td ht =>
    split
    · obtain ⟨y, hy, -⟩ := endTeardown_spec false hx (by simpa [hx] using ht)
      exact ⟨y, hy⟩
    · exact ⟨x, hx⟩

/-- An acknowledgement noted: while tables are missing the load goes on; with the last one the quiesce begins. -/
theorem slice_checkLoaded (hx : slice s k = some x) (ht : x.teardown = some td) (h2 : td.step = 2) :
    ∃ y, slice (checkLoaded k s) k = some y ∧
      ((td.loaded.filter (tableExpected s)).length < tablesExpected s → y.teardown = some td) ∧
      (tablesExpected s ≤ (td.loaded.filter (tableExpected s)).length → td.marks = [] → td.points ≠ [] →
        y.teardown = some { td with step := 3, quiesceFrom := pt s }) := by
  by_cases h : (td.loaded.filter (tableExpected s)).length < tablesExpected s
  · rw [checkLoaded_waits hx ht h]
    exact ⟨x, hx, fun _ => ht, fun h' => absurd h (not_lt.mpr h')⟩
  · rw [checkLoaded_begins hx ht h2 (not_lt.mp h)]
    let f := fun x : Slice => { x with teardown := some { td with step := 3, quiesceFrom := pt s } }
    have hf : slice (modSlice k f s) k = some (f x) := by rw [slice_modSlice_same, hx, Option.map_some]
    obtain ⟨y, hy⟩ := slice_checkQuiesce hf
    refine ⟨y, hy, fun h' => absurd h' h, fun _ hm hp => ?_⟩
    obtain ⟨q, hq⟩ := List.exists_mem_of_ne_nil _ hp
    rw [checkQuiesce_waits hf rfl hq (by rw [hm]; rfl), hf] at hy
    exact (Option.some.inj hy) ▸ rfl

/-- The slice of a quiesce whose last mark arrives ends. -/
theorem checkQuiesce_spec (hx : slice s k = some x) (ht : x.teardown = some td) (h3 : td.step = 3)
    (hm : ∀ q ∈ td.points, tget td.marks q ≠ none) (hsum : (td.marks.map (·.2.1)).sum = (td.marks.map (·.2.2)).sum) :
    ∃ y, slice (checkQuiesce k s) k = some y ∧ y.life = .ended ∧ y.teardown = none ∧ y.memory = [] ∧
      y.zeroFill = x.zeroFill ++ x.memory ∧ obj (checkQuiesce k s) (key 0x2C12 1) 0 = obj s (key 0x2C12 1) 0 + 1 ∧
      obj (checkQuiesce k s) (key 0x2C12 2) 0 = obj s (key 0x2C12 2) 0 := by
  rw [checkQuiesce_ends hx ht h3 hm hsum]
  exact endTeardown_spec false hx ht

end

/-! ### The beginning of a teardown (R288) -/

/-- The teardown that SLICE_TEARDOWN opens. -/
def openTeardown (x : Slice) (s : State) : Teardown := {
  step := 2, abandon := x.abandon, started := pt s, loaded := [], sent := [], marks := [],
  points := quiescePoints s x, quiesceFrom := 0, timedOut := false, quiesceTime := 0, spanning := spansDies x }
/-- A slice with the teardown that SLICE_TEARDOWN opens. -/
def openedSlice (x : Slice) (s : State) (y : Slice) : Slice :=
  { y with notices := [], teardown := some (openTeardown x s) }
/-- The generation of a slice moves on (R288). -/
def nextGeneration (k : Nat) (s : State) : State :=
  { s with generations := tset s.generations k ((generation s k + 1) % 256) }
/-- What `beginTeardown` changes between the end of issue and the opening of the teardown. -/
def beforeOpen : List Part := [.seqr, .dies, .fields, .cores, .clusters, .traces, .views]

theorem mem_holds_modCluster {r ck c : Nat} {s : State} (h : ck = c ∨ r ∈ (cluster s ck).holds) :
    r ∈ (cluster (modCluster c (fun x => { x with holds := addHold r x.holds }) s) ck).holds := by
  by_cases e : ck = c
  · rw [e, cluster_modCluster_same]
    exact mem_addHold.mpr (.inr rfl)
  · rw [cluster_modCluster_ne _ _ e]
    exact h.resolve_left e
theorem mem_holds_fold {ck : Nat} (l : List Nat) (s : State) (h : ck ∈ l ∨ 10 ∈ (cluster s ck).holds) :
    10 ∈ (cluster (l.foldl (fun s ck => holdCluster 10 ck s) s) ck).holds := by
  induction l generalizing s with
  | nil => exact h.resolve_left (by simp)
  | cons c r ih =>
    refine ih _ ?_
    rcases h with h | h
    · rcases List.mem_cons.mp h with e | h
      · exact .inr (((touches_syncWindow c _).agrees .stops (by decide) ck).mpr (mem_holds_modCluster (.inl e)))
      · exact .inl h
    · exact .inr (((touches_syncWindow c _).agrees .stops (by decide) ck).mpr (mem_holds_modCluster (.inr h)))
theorem mem_holds_stopSlice {s : State} {k ck : Nat} (h : ck ∈ sliceClusters s k) : 10 ∈ (cluster (stopSlice k s) ck).holds :=
  mem_holds_fold _ _ (.inl h)
theorem slice_stopSlice {s : State} {k : Nat} {x : Slice} (hx : slice s k = some x) :
    slice (stopSlice k s) k = some { x with life := .ending } := by
  have h : (stopSlice k s).slices = (modSlice k (fun x => { x with life := .ending }) s).slices :=
    (Touches.foldl (fun _ _ => touches_holdCluster_any 10 _ _) (sliceClusters s k) _).agrees .slices (by decide)
  rw [slice, h]
  exact (slice_modSlice_same _ k _).trans (by rw [hx, Option.map_some])

/-- SLICE_TEARDOWN stops issue, increments the generation and opens a teardown that waits for every table. -/
theorem beginTeardown_opens {s : State} {k : Nat} {x : Slice} (hx : slice s k = some x) (hl : x.life ≠ .ended)
    (ht : x.teardown = none) (hq : spansDies x = true → sequencerFree s = true) :
    ∃ a y, Touches beforeOpen (if x.life = .ending then s else stopSlice k s) a ∧ slice a k = some y ∧ y.life = .ending ∧
      beginTeardown k s = modSlice k (openedSlice x (nextGeneration k a)) (nextGeneration k a) := by
  have hg : ¬(x.life = .ended || x.teardown.isSome || (spansDies x && !sequencerFree s)) = true := by
    cases h : spansDies x <;> simp_all
  obtain ⟨z, hz, hzl⟩ : ∃ z, slice (if x.life = .ending then s else stopSlice k s) k = some z ∧ z.life = .ending := by
    split
    · exact ⟨x, hx, ‹_›⟩
    · exact ⟨_, slice_stopSlice hx, rfl⟩
  generalize ha : (if x.life = .ending then s else stopSlice k s) = a0 at hz ⊢
  have opens : ∀ a, Touches beforeOpen a0 a → ∃ a' y, Touches beforeOpen a0 a' ∧ slice a' k = some y ∧ y.life = .ending ∧
      checkLoaded k (modSlice k (openedSlice x (nextGeneration k a)) (nextGeneration k a)) =
        modSlice k (openedSlice x (nextGeneration k a')) (nextGeneration k a') := by
    intro a h
    obtain ⟨y, hy, hyz⟩ := h.slice_shape (by decide) hz
    have hf : slice (modSlice k (openedSlice x (nextGeneration k a)) (nextGeneration k a)) k =
        some (openedSlice x (nextGeneration k a) y) := (slice_modSlice_same ..).trans (congrArg _ hy)
    exact ⟨a, y, h, hy, (congrArg Prod.fst hyz).trans hzl, checkLoaded_waits hf rfl (tablesExpected_pos _)⟩
  simp only [beginTeardown, hx]
  rw [if_neg hg, ha]
  exact opens _ <| .mono (by decide) <| .trans (touches_cores ..) <| .trans (touches_stopSlots ..) <|
    .ite (fun _ => touches_issuePosition ..) fun _ => .refl

/-! ### The zero-fill (R11, R291) -/

/-- Filtering the stack once for each die is filtering it once. -/
theorem dram_foldl_filter {f : State → Nat → State} {p : Nat × DramBlock → Bool} (hf : ∀ s d, (f s d).dram = s.dram.filter p)
    (l : List Nat) (s : State) : (l.foldl f s).dram = if l = [] then s.dram else s.dram.filter p := by
  induction l generalizing s with
  | nil => rfl
  | cons d r ih =>
    rw [List.foldl_cons, ih, hf, if_neg (List.cons_ne_nil d r)]
    split
    · rfl
    · rw [List.filter_filter]
      simp
theorem dieIdxs_ne_nil (s : State) : dieIdxs s ≠ [] := by
  cases h : s.variant <;> simp [dieIdxs, h, Variant.dies]

/-- An update of the stack. -/
theorem touches_dram (s : State) (l : Tab DramBlock) : Touches [.dram] s { s with dram := l } := touches_update [.dram] rfl
/-- What clearing the stack for every die leaves: the changed slice, and the blocks that the filter keeps. -/
theorem clearStack_spec {s : State} {k : Nat} {x : Slice} {p : Nat × DramBlock → Bool} {f : State → Nat → State} {g : Slice → Slice}
    {l fs : List Nat} (hx : slice s k = some x) (hl : l ≠ []) (hf : ∀ s d, (f s d).dram = s.dram.filter p)
    (hT : ∀ s d, Touches [.dies, .dram] s (f s d)) :
    ∃ t y, done (refreshIdle fs (refreshRegions (l.foldl f (modSlice k g s)))) = .next t ∧ slice t k = some y ∧
      y.zeroFill = (g x).zeroFill ∧ t.dram = s.dram.filter p ∧
      Touches [.dies, .fields, .clusters, .slices, .dram, .turn, .objs, .shapes] s t := by
  have hF : Touches [.dies, .dram] (modSlice k g s) (l.foldl f (modSlice k g s)) := .foldl hT l _
  have hr (a : State) : Touches [.dies, .fields, .clusters, .objs] a (refreshIdle fs (refreshRegions a)) :=
    .mono (by decide) <| .trans (touches_refreshRegions _) (touches_refreshIdle ..)
  obtain ⟨y, hy, hyx⟩ := hF.slice_shape (by decide) ((slice_modSlice_same s k g).trans (congrArg _ hx))
  obtain ⟨z, hz, hzy⟩ := (hr _).slice_shape (by decide) hy
  have hz' := hzy.trans hyx
  simp only [Slice.shape, Prod.mk.injEq] at hz'
  refine ⟨_, z, rfl, hz, by simp [hz'], Eq.trans ((hr _).agrees .dram (by decide)) ?_,
    .mono (by decide) <| .trans (touches_modSlice_any ..) <| .trans hF (hr _)⟩
  rw [dram_foldl_filter hf, if_neg hl]
  rfl
/-- ZERO_FILL_COMPLETE clears the slice's blocks of the stack and takes the stack off the slice's zero-fill. -/
theorem zeroFillComplete_spec {s : State} {k stack : Nat} {x : Slice} {m : Nat × Nat} (dt : Nat) (hx : slice s k = some x)
    (hm : m ∈ x.zeroFill) (hs : m.1 = stack) : ∃ t y, execZeroFillComplete dt k stack s = .next t ∧ slice t k = some y ∧
      y.zeroFill = x.zeroFill.filter (fun m => m.1 ≠ stack) ∧
      t.dram = s.dram.filter (fun e => !(e.1 / 2 ^ 40 = stack && e.2.word.toNat / 2 ^ 8 % 4096 = k)) ∧
      Touches [.dies, .fields, .clusters, .slices, .dram, .turn, .objs, .shapes] (elapse dt s) t := by
  have hx' : slice (elapse dt s) k = some x := hx
  have hne : ¬ (x.zeroFill.filter fun m => m.1 = stack).isEmpty = true := by
    simp only [List.isEmpty_iff, List.filter_eq_nil_iff]
    exact fun h => h m hm (by simp [hs])
  simp only [execZeroFillComplete, hx']
  rw [if_neg hne]
  exact clearStack_spec hx' (dieIdxs_ne_nil _) (fun s d => by split <;> rfl)
    fun s d => .mono (by decide) <| .trans (touches_dram ..) <| .ite (fun _ => touches_recordAt ..) fun _ => .refl
/-! ### The marks and the tables that arrive (R288, R289) -/

/-- What GENERATION_LOAD_ACK does to a teardown. -/
def noteTable (table : Nat) (t : Teardown) : Teardown :=
  if t.step = 2 then { t with loaded := addHold table t.loaded } else t
/-- What QUIESCE_MARK_ARRIVAL does to a teardown. -/
def noteMark (p : Nat) (t : Teardown) : Teardown := match tget t.sent p with
  | some c => { t with sent := tdel t.sent p, marks := tset t.marks p c }
  | none => t
theorem execGenerationLoadAck_eq (dt k table : Nat) (s : State) : execGenerationLoadAck dt k table s =
    .next (checkLoaded k (modSlice k (fun x => { x with teardown := x.teardown.map (noteTable table) }) (elapse dt s))) := rfl
theorem execQuiesceMarkArrival_eq (dt k : Nat) (p : Pua) (s : State) : execQuiesceMarkArrival dt k p s =
    .next (checkQuiesce k (modSlice k (fun x => { x with teardown := x.teardown.map (noteMark p.toNat) }) (elapse dt s))) := rfl
theorem noteTable_of_loading {td : Teardown} (table : Nat) (h2 : td.step = 2) :
    noteTable table td = { td with loaded := addHold table td.loaded } := if_pos h2
theorem noteMark_of_sent {td : Teardown} {p : Nat} {c : Nat × Nat} (h : tget td.sent p = some c) :
    noteMark p td = { td with sent := tdel td.sent p, marks := tset td.marks p c } := by
  rw [noteMark, h]
/-- Settles O12: each command of a teardown is read through the lemma of its step, and what it leaves through `Touches`. -/
theorem teardownRunsItsSteps : Obligations.TeardownRunsItsSteps := by
  refine ⟨fun dt k x s hx hl ht hq => ?_, fun dt k table x td s hx ht h2 => ?_, fun dt k p a b x td s hx ht h3 hp => ?_,
    fun dt k p c q x td s hx ht h3 hs hq hqp hm => ?_, fun dt k p c x td s hx ht h3 hs hm hsum => ?_,
    fun dt k x td s hx ht h3 hto => ?_, fun dt k stack m x s hx hm hs => ?_⟩
  · have hx' : slice (elapse dt s) k = some x := hx
    obtain ⟨a, y, ha, hy, hyl, h⟩ := beginTeardown_opens hx' hl ht hq
    have stop : Touches (beforeOpen ++ [.slices, .shapes, .stops]) (elapse dt s)
        (if x.life = .ending then elapse dt s else stopSlice k (elapse dt s)) :=
      .mono (by decide) <| .ite (fun _ => .refl) fun _ => touches_stopSlice ..
    have hT : Touches ([.turn, .seqr, .generations, .traces, .views] ++ teardownParts) (elapse dt s) (beginTeardown k (elapse dt s)) :=
      .mono (by decide) <| touches_beginTeardown ..
    refine ⟨_, openedSlice x (nextGeneration k a) y, openTeardown x (nextGeneration k a), rfl, ?_, rfl, rfl, rfl, rfl, rfl, hyl, rfl, ?_, ?_,
      hT.eq_blend⟩
    · rw [h]
      exact (slice_modSlice_same ..).trans (congrArg _ hy)
    · have hg : generation a k = generation s k :=
        congrArg (tgetD · k 0) ((stop.trans ha).agrees .generations (by decide))
      rw [h, ← hg]
      exact tgetD_tset_same ..
    · intro hne ck hck
      rw [h]
      refine (ha.agrees .stops (by decide) ck).mpr ?_
      rw [if_neg hne]
      exact mem_holds_stopSlice hck
  · have hx' := slice_modTeardown (s := elapse dt s) (noteTable table) hx ht
    rw [noteTable_of_loading table h2] at hx'
    obtain ⟨y, hy, hwait, hbegin⟩ := slice_checkLoaded hx' rfl h2
    have hT : Touches (.turn :: teardownParts) (elapse dt s) (checkLoaded k (modSlice k (fun x => { x with
        teardown := x.teardown.map (noteTable table) }) (elapse dt s))) :=
      .mono (by decide) <| .trans (touches_modSlice_any ..) (touches_checkLoaded ..)
    exact ⟨_, y, execGenerationLoadAck_eq .., hy, hwait, hbegin, hT.eq_blend⟩
  · refine ⟨_, _, rfl, slice_modTeardown _ (s := elapse dt s) hx ht, ?_, rfl⟩
    simp [h3, hp]
  · have hx' := slice_modTeardown (s := elapse dt s) (noteMark p.toNat) hx ht
    rw [noteMark_of_sent hs] at hx'
    have hw := checkQuiesce_waits hx' rfl (q := q) hq (by rw [tget_tset_ne _ _ hqp, hm])
    exact ⟨_, _, (execQuiesceMarkArrival_eq ..).trans (congrArg done hw), hx', rfl, rfl⟩
  · have hx' := slice_modTeardown (s := elapse dt s) (noteMark p.toNat) hx ht
    rw [noteMark_of_sent hs] at hx'
    have all : ∀ q ∈ td.points, tget (tset td.marks p.toNat c) q ≠ none := fun q hq => by
      rw [tget_tset]
      split
      · exact Option.some_ne_none c
      · exact (hm q hq).resolve_left ‹_›
    obtain ⟨y, hy, hl, ht, hm, hz, h1, h2⟩ := checkQuiesce_spec hx' rfl h3 all hsum
    have hT : Touches (.turn :: teardownParts) (elapse dt s) (checkQuiesce k (modSlice k (fun x => { x with
        teardown := x.teardown.map (noteMark p.toNat) }) (elapse dt s))) :=
      .mono (by decide) <| .trans (touches_modSlice_any ..) (touches_checkQuiesce ..)
    exact ⟨_, y, execQuiesceMarkArrival_eq .., hy, hl, ht, hm, hz, h1, h2, hT.eq_blend⟩
  · have he : execQuiesceTimeout dt k s = .next (endTeardown k true (elapse dt s)) := by
      have hx' : slice (elapse dt s) k = some x := hx
      simp [execQuiesceTimeout, hx', ht, h3, hto, done]
    obtain ⟨y, hy, h⟩ := endTeardown_spec (s := elapse dt s) true hx ht
    have hT : Touches (.turn :: teardownParts) (elapse dt s) (endTeardown k true (elapse dt s)) :=
      .mono (by decide) <| touches_endTeardown ..
    obtain ⟨hl, ht, hm, hz, h1, h2⟩ := h
    exact ⟨_, y, he, hy, hl, ht, hm, hz, h1, h2, hT.eq_blend⟩
  · obtain ⟨t, y, ht, hy, hz, hd, hT⟩ := zeroFillComplete_spec dt hx hm hs
    refine ⟨t, y, ht, hy, hz, fun e he h => ?_, fun e he h => ?_, hT.eq_blend⟩
    · rw [hd, List.mem_filter] at he
      simp_all
    · rw [hd, List.mem_filter]
      exact ⟨he, by simpa [imp_iff_not_or] using h⟩

end Sys2Proof.Machine
end

section
/-!
SUPPORT. How a slice begins and how its epochs follow one another (R10, R133, R304).
-/
namespace Sys2Proof.Machine

/-! ### The creation of a slice (R10, R33, R304) -/

/-- The fields of a slice follow its box. -/
theorem sliceFields_congr {s t : State} {k : Nat} {x y : Slice} (hx : slice s k = some x) (hy : slice t k = some y)
    (hv : t.variant = s.variant) (ho : y.origin = x.origin) (he : y.extent = x.extent) : sliceFields t k = sliceFields s k := by
  simp only [sliceFields, sliceLogicals, hx, hy, boxLogicals, hv, ho, he]

/-- A slice whose fields have all risen runs. -/
theorem slice_completeCreation {s : State} {k : Nat} {x : Slice} (hx : slice s k = some x) (hl : x.life = .creating) :
    slice (completeCreation k s) k =
      some { x with life := if (sliceFields s k).any (fun f => (field s f).power < 2) then .creating else .running } := by
  simp only [completeCreation, slice_modSlice_same, hx, Option.map_some, hl]
  cases (sliceFields s k).any fun f => decide ((field s f).power < 2) <;> simp [← hl]

/-- An update of the slices. -/
theorem touches_slices (s : State) (l : Tab Slice) : Touches [.shapes, .slices] s { s with slices := l } :=
  touches_update [.slices] rfl
/-- The slice of an allowed request, as SLICE_CREATE enters it. -/
def createdSlice (dt : Nat) (r : SliceRequest) (s : State) : Slice :=
  newSlice (elapse dt s) r (Config.freeWord s.free) (slice s r.id)
/-- What SLICE_CREATE changes besides the new slice and its life. -/
def creationParts : List Part :=
  [.keepers, .dies, .fields, .units, .lcns, .cores, .clusters, .slices, .commits, .nextCommit, .qualifying, .views, .objs, .output,
    .free, .powers]
/-- SLICE_CREATE of an allowed request: the new slice stands through its preparations, and its creation ends. -/
theorem sliceCreate_runs (dt : Nat) {r : SliceRequest} {s : State} (h : creationAllowed (elapse dt s) r = true) : ∃ u fs z,
    execSliceCreate dt r s = .next (refreshReservoirs fs (completeCreation r.id u)) ∧ slice u r.id = some z ∧
      z.shape = (createdSlice dt r s).shape ∧
      Touches (.shapes :: creationParts) (elapse dt s) u := by
  let a : State := { elapse dt s with free := s.free + 1, slices := tset s.slices r.id (createdSlice dt r s) }
  have ha : slice a r.id = some (createdSlice dt r s) := tget_tset_same ..
  have hs : Touches (.shapes :: creationParts) (elapse dt s) a :=
    .mono (by decide) <| .trans (touches_update [.free] (by rfl)) <| touches_slices { elapse dt s with free := s.free + 1 } _
  have run : ∀ u fs, Touches creationParts a u → ∃ u' fs' z,
    done (refreshReservoirs fs (completeCreation r.id u)) =
      .next (refreshReservoirs fs' (completeCreation r.id u')) ∧ slice u' r.id = some z ∧
      z.shape = (createdSlice dt r s).shape ∧
      Touches (.shapes :: creationParts) (elapse dt s) u' := fun u fs hu =>
    have ⟨z, hz, hzx⟩ := hu.slice_shape (by decide) ha
    ⟨u, fs, z, rfl, hz, hzx, .mono (by decide) <| hs.trans hu⟩
  simp only [execSliceCreate, h]
  exact run _ _ <| .mono (by decide) <| .trans (touches_clearViews ..) <| .trans (touches_refreshFreq ..) <|
    .trans (.foldl (fun _ _ => touches_powerOn ..) _ _) <|
    .trans (touches_refreshIdle ..) <| .trans (.ite (fun _ => .refl) fun _ => .foldl (fun _ _ => touches_powerOn ..) _ _) <|
    .trans (touches_recomputeGroups ..) <|
    .trans (.foldl (fun _ _ => .trans (touches_cutProgress ..) <| touches_assignAdoptive ..) _ _) <|
    .trans (touches_applyMode ..) <| .trans (touches_refreshBound ..) <| touches_weakSwap ..

/-- What SEED_DELIVERY does to a slice. -/
def seededSlice (w : Word64) (x : Slice) : Slice := { x with nextSeed := some w }
/-- SEED_DELIVERY to a live slice without a next seed. -/
theorem seedDelivery_draws (dt : Nat) {s : State} {k : Nat} {x : Slice} (hx : slice s k = some x) (hl : sliceLive x = true)
    (hn : x.nextSeed = none) : execSeedDelivery dt k s = .next (emit (.seed k (epochOf s k + 1))
      (modSlice k (seededSlice (Config.freeWord s.free)) { elapse dt s with free := s.free + 1 })) := by
  have hx' : slice (elapse dt s) k = some x := hx
  simp only [execSeedDelivery, hx']
  rw [if_neg (by simp [hl, hn])]
  rfl
/-- The change count at which the epoch after that of a slice starts (R304). -/
def nextEpochStart (x : Slice) : Nat := (x.epochStart + x.epochPeriod + 102399) / 102400 * 102400
/-- What EPOCH_START does to a slice. -/
def epochSlice (w : Word64) (start period : Nat) (x : Slice) : Slice :=
  { x with lastSeed := x.seed, seed := w, nextSeed := none, epochStart := start, epochPeriod := period }
/-- EPOCH_START of a live slice once the change count is reached. -/
theorem epochStart_takes (dt : Nat) {s : State} {k : Nat} {x : Slice} {w : Word64} (hx : slice s k = some x)
    (hl : sliceLive x = true) (hw : x.nextSeed = some w) (hc : nextEpochStart x ≤ pt (elapse dt s)) :
    execEpochStart dt k s = .next (setSobj k (key 0x2505 0) ((epochOf s k + 1) % 2 ^ 32)
      (modSlice k (epochSlice w (nextEpochStart x) (obj s (key 0x2501 0) 60000 * 1000000)) (elapse dt s))) := by
  have hx' : slice (elapse dt s) k = some x := hx
  have hg : ¬ (!sliceLive x || decide (pt (elapse dt s) < (x.epochStart + x.epochPeriod + 102399) / 102400 * 102400)) = true := by
    simpa [hl, nextEpochStart] using hc
  simp only [execEpochStart, hx', hw]
  rw [if_neg hg]
  rfl

/-- Settles O23: the shape that SLICE_CREATE enters stands through the preparations; the other two are one change of the slice. -/
theorem sliceCreationAndEpochs : Obligations.SliceCreationAndEpochs := by
  refine ⟨fun dt r s h => ?_, fun dt k x s hx hl hn => ?_, fun dt k x w s hx hl hw hc => ?_⟩
  · obtain ⟨u, fs, z, he, hz, hzx, hu⟩ := sliceCreate_runs dt h
    simp only [Slice.shape, createdSlice, newSlice, Prod.mk.injEq] at hzx
    obtain ⟨hlife, hrole, ho, hex, hm, hcr, hi, hep, hseed, -⟩ := hzx
    have hy := slice_completeCreation hz hlife
    have hr : Touches [.output, .free] (completeCreation r.id u) (refreshReservoirs fs (completeCreation r.id u)) :=
      touches_refreshReservoirs ..
    have hT : Touches (.turn :: .lcnMap :: .clusterMap :: .lanes :: .channels :: .zports :: .lostSlots :: .shapes :: creationParts)
        (elapse dt s) (refreshReservoirs fs (completeCreation r.id u)) :=
      .mono (by decide) <| .trans hu <| .trans (touches_completeCreation ..) hr
    have hy' := (congrArg (fun l => tget l r.id) (hr.agrees .slices (by decide))).trans hy
    have hf : sliceFields (refreshReservoirs fs (completeCreation r.id u)) r.id = sliceFields u r.id :=
      sliceFields_congr hz hy' (hr.agrees .variant (by decide)) rfl rfl
    have hp : (refreshReservoirs fs (completeCreation r.id u)).fields = u.fields := hr.agrees .fields (by decide)
    refine ⟨_, _, he, hy', hrole, ho, hex, hm, hcr, hi, hep, hseed, ?_, hT.eq_blend⟩
    simp only [hf, field, hp]
    rfl
  · have hy := (slice_modSlice_same { elapse dt s with free := s.free + 1 } k (seededSlice (Config.freeWord s.free))).trans
      (congrArg _ hx)
    exact ⟨_, seedDelivery_draws dt hx hl hn, hy, rfl, rfl, rfl⟩
  · have hy := (slice_modSlice_same (elapse dt s) k (epochSlice w (nextEpochStart x) (obj s (key 0x2501 0) 60000 * 1000000))).trans
      (congrArg _ hx)
    have hz := (slice_modSlice_same _ k fun y => { y with objs := tset y.objs (key 0x2505 0) ((epochOf s k + 1) % 2 ^ 32) }).trans
      (congrArg _ hy)
    refine ⟨_, _, epochStart_takes dt hx hl hw hc, hz, rfl, rfl, rfl, rfl, ?_, rfl⟩
    rw [epochOf, sobj, setSobj, hz]
    exact tgetD_tset_same ..

end Sys2Proof.Machine
end

section
/-!
SUPPORT. What the operations of bring-up, of failures and of bindings change, in the order in which they call one another.
-/
namespace Sys2Proof.Machine

/-- What the landing of a binding may change. -/
def bindingParts : List Part :=
  [.dies, .fields, .units, .fmax, .lcnMap, .clusterMap, .lanes, .channels, .zports, .lostSlots, .lcns, .cores, .clusters, .slices,
    .freqs, .screens, .objs, .output, .free]
/-- What a field that goes dark may change. -/
def darkParts : List Part :=
  [.powers, .shapes, .stops, .tallies, .keepers, .dies, .fields, .units, .unreachable, .lcns, .cores, .clusters, .slices,
    .recomputes, .tieBreaks, .thirds, .transfers, .follows, .inFlight, .commits, .nextCommit, .ripcord, .qualifying, .ports, .traces,
    .views, .kept, .keptB, .objs, .output, .free]
/-- What the failure of a unit may change. -/
def failureParts : List Part := [.drafts, .screens] ++ darkParts
/-- What a stage that fails may change, up to a takeover and a fenced die. -/
def fencingParts : List Part := [.ptStarted, .anchorDie, .standby, .takenOver, .seqr, .snapshot] ++ failureParts

theorem touches_startKind (s : State) (k : StartKind) : Touches [.startKind] s { s with startKind := k } :=
  touches_update [.startKind] rfl
theorem touches_fallBack (d n failed s) : Touches [.drafts, .dies, .startKind] s (fallBack d n failed s) :=
  .mono (by decide) <| .ite (fun _ => .refl) fun _ => .ite (fun _ => .refl) fun _ =>
    .trans (touches_modDie _ _ _ fun _ => by rfl) <| .trans (touches_startKind ..) <| .trans (touches_flagDraft ..) <|
    touches_modDraft ..
theorem touches_restartIdle (p s) : Touches [.fields] s (restartIdle p s) :=
  .mono (by decide) <| .ite (fun _ => .refl) fun _ => touches_modField _ _ _ fun _ => by rfl
theorem touches_openScreen (p new s) : Touches [.fields, .screens] s (openScreen p new s) :=
  .mono (by decide) <| .trans (.ite (fun _ => touches_restartIdle ..) fun _ => .refl) <| touches_update [.screens] (by rfl)
theorem touches_changeState (p new cause s) :
    Touches [.dies, .fields, .units, .screens, .objs] s (changeState p new cause s) :=
  .mono (by decide) <| .trans (touches_setObjs _ _ (by simp [tallyKeys, key])) <| .trans (touches_openScreen ..) <|
    .trans (touches_modUnit ..) <| touches_recordSeq ..
theorem touches_markUnit (n p t cause s) : Touches [.dies, .fields, .units, .screens, .objs] s (markUnit n p t cause s) :=
  .mono (by decide) <| .ite (fun _ => .refl) fun _ => .trans (touches_changeState ..) <| touches_modDie _ _ _ fun _ => by rfl
theorem touches_putSync (k s) : Touches [.fields, .clusters, .traces, .views] s (putSync k s) := by
  unfold putSync
  dsimp only
  split
  · exact .mono (by decide) <| .refl
  · exact .mono (by decide) <| .ite (fun _ => .refl) fun _ => touches_putWords ..
theorem touches_traceClusterEvent (ck event s) :
    Touches [.fields, .clusters, .traces, .views] s (traceClusterEvent ck event s) :=
  .mono (by decide) <| .foldl (fun _ _ => .trans (touches_flushOutcomes ..) <| .trans (touches_putPacket ..) <| .ite (fun _ =>
      .refl) fun _ => touches_putSync ..) _ _
theorem touches_quietField (f s) : Touches [.shapes, .slices] s (quietField f s) := touches_update [.slices] rfl
theorem touches_dropFieldCommits (f s) : Touches [.commits] s (dropFieldCommits f s) :=
  touches_update [.commits] (by rfl)
theorem touches_emcyPort (d b data s) : Touches [.ports, .output] s (emcyPort d b data s) :=
  .mono (by decide) <| .ite (fun _ => .refl) fun _ => .ite (fun _ => .trans (touches_modPort ..) <| touches_emit ..) fun _ =>
      touches_modPort ..
theorem touches_emcy (d code detail seq s) : Touches [.dies, .ports, .output] s (emcy d code detail seq s) :=
  .mono (by decide) <| .trans (touches_modDie _ _ _ fun _ => by rfl) <| .trans (touches_emcyPort ..) <| touches_emcyPort ..
theorem touches_refreshError (d s) : Touches [.dies, .ports, .output] s (refreshError d s) :=
  .mono (by decide) <| .trans (touches_modDie _ _ _ fun _ => by rfl) <| .ite (fun _ => touches_emcy ..) fun _ => .refl
theorem touches_refreshErrors (s) : Touches [.dies, .ports, .output] s (refreshErrors s) :=
  .mono (by decide) <| .foldl (fun _ _ => touches_refreshError ..) _ _
theorem touches_raiseEnd (via k s) : Touches [.dies] s (raiseEnd via k s) :=
  touches_raiseLocal ..
theorem touches_endSlice (via k s) : Touches [.shapes, .stops, .dies, .clusters, .slices] s (endSlice via k s) := by
  unfold endSlice
  split
  · exact .mono (by decide) <| .refl
  · exact .mono (by decide) <| .ite (fun _ => .refl) fun _ => .trans (touches_stopSlice ..) <| touches_raiseEnd ..
theorem touches_endInvalid (fieldIdx cause s) :
    Touches [.shapes, .stops, .dies, .clusters, .slices, .objs] s (endInvalid fieldIdx cause s) :=
  .mono (by decide) <| .foldl (fun _ _ => .trans (touches_capacityEvent ..) <| touches_endSlice ..) _ _
theorem touches_goDark (f s) : Touches darkParts s (goDark f s) := by
  unfold goDark
  dsimp only
  split
  · exact .mono (by decide) <| .refl
  · refine .mono (by decide) <| .trans (.foldl (S := [.dies, .fields, .clusters, .traces, .views]) (fun _ _ => ?_) _ _) <|
        .trans (touches_railOff ..) <| .trans (touches_record ..) <| .trans (.foldl (fun _ _ => touches_capacityEvent ..) _ _)
        <| .trans (touches_dropFieldCommits ..) <| .trans (touches_quietField ..) <| .trans (.foldl (fun _ _ =>
        touches_checkQuiesce ..) _ _) <| .trans (touches_endInvalid ..) <| .trans (touches_checkStacks ..) <| .trans
        (touches_refreshRegions ..) <| touches_refreshErrors ..
    split
    · exact .mono (by decide) <| .trans (touches_traceClusterEvent ..) <| touches_stopSlot ..
    · exact .mono (by decide) <| touches_stopSlot ..
theorem touches_lowerPhaseCap (f e s) : Touches darkParts s (lowerPhaseCap f e s) :=
  .mono (by decide) <| .ite (fun _ => touches_goDark ..) fun _ => .trans (touches_modField _ _ _ fun _ => by rfl) <|
      touches_refreshErrors ..
theorem touches_phaseLoss (f n s) : Touches darkParts s (phaseLoss f n s) :=
  .mono (by decide) <| .ite (fun _ => .refl) fun _ => .ite (fun _ => touches_goDark ..) fun _ => touches_lowerPhaseCap ..
theorem touches_readPhases (f s) : Touches darkParts s (readPhases f s) :=
  .mono (by decide) <| .ite (fun _ => .refl) fun _ => .trans (touches_modField _ _ _ fun _ => by rfl) <| .trans (.foldl (fun _
      _ => .trans (touches_raiseLocal ..) <| touches_phaseLoss ..) _ _) <| .ite (fun _ => .refl) fun _ =>
      touches_recomputeGroup ..
theorem touches_quickFailure (p s) : Touches [.dies, .fields, .units, .screens, .objs, .free] s (quickFailure p s) :=
  .mono (by decide) <| .ite (fun _ => .refl) fun _ => .trans (touches_update [.free] (by rfl)) <| .trans (touches_addObj _ _ _
      (by decide)) <| .trans (touches_record ..) <| .trans (touches_modUnit ..) <| touches_markUnit ..
theorem touches_failUnit (d n p s) : Touches failureParts s (failUnit d n p s) := by
  unfold failUnit
  dsimp only
  split
  · exact .mono (by decide) <| .trans (touches_markUnit ..) <| touches_noteDetail ..
  · exact .mono (by decide) <| .trans (touches_modKeeper ..) <| touches_noteDetail ..
  · exact .mono (by decide) <| .ite (fun _ => .ite (fun _ => .refl) fun _ => .trans (touches_modField _ _ _ fun _ => by rfl)
        <| .trans (touches_readPhases ..) <| touches_noteDetail ..) fun _ => .trans (touches_leaveOff ..) <|
        touches_noteDetail ..
  · exact .mono (by decide) <| touches_quickFailure ..
  · exact .mono (by decide) <| .ite (fun _ => .refl) fun _ => .trans (touches_modDie _ _ _ fun _ => by rfl) <| .trans
        (touches_addObj _ _ _ (by decide)) <| touches_noteDetail ..
  · exact .mono (by decide) <| touches_markUnit ..
theorem touches_anomaly (d p s) : Touches [.drafts, .dies, .fields, .units, .screens, .objs] s (anomaly d p s) :=
  .mono (by decide) <| .ite (fun _ => .refl) fun _ => .trans (.ite (fun _ => touches_modDie _ _ _ fun _ => by rfl) fun _ =>
      touches_modUnit ..) <| .trans (touches_changeState ..) <| .trans (touches_modUnit ..) <| .trans (.ite (fun _ =>
      touches_noteDetail ..) fun _ => .refl) <| .trans (touches_modDie _ _ _ fun _ => by rfl) <| .trans (touches_modDraft ..)
      <| touches_flagDraft ..
theorem touches_takeFindings (d n f s) :
    Touches [.drafts, .powers, .shapes, .stops, .tallies, .keepers, .dies, .fields, .units, .unreachable, .lcns, .cores,
        .clusters, .slices, .recomputes, .tieBreaks, .thirds, .transfers, .follows, .inFlight, .commits, .nextCommit,
        .ripcord, .qualifying, .ports, .traces, .views, .startKind, .kept, .keptB, .screens, .objs, .output, .free] s
        (takeFindings d n f s) :=
  .mono (by decide) <| .trans (touches_fallBack ..) <| .trans (.foldl (fun _ _ => touches_markUnit ..) _ _) <| .trans (.foldl
      (fun _ _ => touches_failUnit ..) _ _) <| .trans (.foldl (fun _ _ => touches_anomaly ..) _ _) <| .trans (.ite (fun _ =>
      touches_modDie _ _ _ fun _ => by rfl) fun _ => .refl) <| .ite (fun _ => .refl) fun _ => touches_noteDetail ..
theorem touches_modReel (d f s) : Touches [.dies] s (modReel d f s) :=
  touches_modDie _ _ _ fun _ => by rfl
theorem touches_leaveCase (rule s) : Touches [.undefinedCases] s (leaveCase rule s) :=
  touches_update [.undefinedCases] (by rfl)
theorem touches_finishClear (d restart s) :
    Touches [.dies, .ports, .undefinedCases, .output] s (finishClear d restart s) := by
  unfold finishClear
  dsimp only
  split
  · exact .mono (by decide) <| .refl
  · exact .mono (by decide) <| .trans (touches_modDie _ _ _ fun _ => by rfl) <| .trans (touches_leaveCase ..) <|
        touches_refreshError ..
theorem touches_scanReel (d s) : Touches [.dies, .ports, .undefinedCases, .output] s (scanReel d s) := by
  unfold scanReel
  dsimp only
  split
  · exact .mono (by decide) <| .trans (touches_modReel ..) <| .trans (touches_modReel ..) <| touches_finishClear ..
  · split
    · exact .mono (by decide) <| touches_modReel ..
    · exact .mono (by decide) <| .trans (touches_modReel ..) <| touches_modReel ..
theorem touches_runStage3 (d f s) :
    Touches [.drafts, .powers, .shapes, .stops, .tallies, .keepers, .dies, .fields, .units, .unreachable, .lcns, .cores,
        .clusters, .slices, .recomputes, .tieBreaks, .thirds, .transfers, .follows, .inFlight, .commits, .nextCommit,
        .ripcord, .qualifying, .ports, .traces, .views, .startKind, .kept, .keptB, .screens, .objs, .output, .free] s
        (runStage3 d f s) :=
  .mono (by decide) <| .trans (.foldl (fun _ _ => touches_modField _ _ _ fun _ => by rfl) _ _) <| .trans (.foldl (fun _ _ =>
      .ite (fun _ => touches_goDark ..) fun _ => .refl) _ _) <| .trans (touches_takeFindings ..) <| .ite (fun _ =>
      touches_noteDetail ..) fun _ => .foldl (fun _ _ => .ite (fun _ => touches_powerOn ..) fun _ => touches_leaveOff ..) _ _
theorem touches_placeRegions (d s) : Touches [.drafts, .dies] s (placeRegions d s) :=
  .mono (by decide) <| .trans (.foldl (fun _ _ => touches_loseRegion ..) _ _) <| .trans (.foldl (fun _ _ => touches_modDie _ _
      _ fun _ => by rfl) _ _) <| .ite (fun _ => .refl) fun _ => touches_noteDetail ..
theorem touches_runStage5 (d f s) :
    Touches [.drafts, .powers, .shapes, .stops, .tallies, .keepers, .dies, .fields, .units, .unreachable, .lcns, .cores,
        .clusters, .slices, .recomputes, .tieBreaks, .thirds, .transfers, .follows, .inFlight, .dram, .commits, .nextCommit,
        .ripcord, .qualifying, .ports, .traces, .views, .startKind, .kept, .keptB, .screens, .objs, .output, .free] s
        (runStage5 d f s) := by
  unfold runStage5
  dsimp only
  split
  · exact .mono (by decide) <| .trans (touches_takeFindings ..) <| .trans (.ite (fun _ => .refl) fun _ => touches_noteDetail
        ..) <| .trans (touches_update [.dram] (by rfl)) <| touches_placeRegions ..
  · exact .mono (by decide) <| .trans (touches_takeFindings ..) <| .trans (touches_update [.dram] (by rfl)) <|
        touches_placeRegions ..
theorem map_map_of_eq {α β : Type} {f : α → α} {g : α → β} (h : ∀ x, g (f x) = g x) (l : List α) : (l.map f).map g = l.map g := by
  rw [List.map_map]
  exact List.map_congr_left fun x _ => h x
/-- An update that changes every die alike and leaves their stages and the reports in progress. -/
theorem touches_diesWith {s t : State} {f : Die → Die} (S : List Part) (h : t = blend (.dies :: S) s t) (hd : t.dies = s.dies.map f)
    (hf : ∀ x, ((f x).stages, (f x).draft.result) = (x.stages, x.draft.result)) :
    Touches (S.flatMap Part.shownBy ++ .dies :: S) s t := by
  have all : Touches (.stages :: .drafts :: (S.flatMap Part.shownBy ++ .dies :: S)) s t := touches_update (.dies :: S) h
  refine (all.drop ?_).drop ?_
  · rw [Agrees, hd, map_map_of_eq (g := Die.stages) fun x => congrArg Prod.fst (hf x)]
  · rw [Agrees, hd, map_map_of_eq (g := fun x : Die => x.draft.result) fun x => congrArg Prod.snd (hf x)]
/-- A change of every die that leaves their stages and the reports in progress. -/
theorem touches_dies (s : State) (f : Die → Die) (h : ∀ x, ((f x).stages, (f x).draft.result) = (x.stages, x.draft.result)) :
    Touches [.dies] s { s with dies := s.dies.map f } := touches_diesWith [] rfl rfl h
theorem touches_editCopies (f s) : Touches [.dies] s (editCopies f s) := touches_dies _ _ fun _ => by dsimp only; split <;> rfl
theorem touches_images (s : State) (l : List ImageSlot) (i : Nat) (f t : Bool) :
    Touches [.images, .imageInUse, .imageFallback, .trialReached] s
      { s with images := l, imageInUse := i, imageFallback := f, trialReached := t } :=
  touches_update [.images, .imageInUse, .imageFallback, .trialReached] rfl
theorem touches_imageFails (s) : Touches [.dies, .images, .imageInUse, .imageFallback, .trialReached] s (imageFails s) := by
  unfold imageFails
  exact .mono (by decide) <| .trans (touches_images s _ _ _ _) <| touches_editCopies ..
theorem touches_runStage7 (d f s) :
    Touches [.drafts, .powers, .shapes, .stops, .tallies, .keepers, .dies, .fields, .units, .unreachable, .lcns, .cores,
        .clusters, .slices, .recomputes, .tieBreaks, .thirds, .transfers, .follows, .inFlight, .commits, .nextCommit,
        .ripcord, .qualifying, .ports, .traces, .views, .images, .imageInUse, .imageFallback, .trialReached, .startKind,
        .kept, .keptB, .screens, .objs, .output, .free] s (runStage7 d f s) :=
  .mono (by decide) <| .trans (.ite (fun _ => touches_imageFails ..) fun _ => .refl) <| .trans (.ite (fun _ =>
      touches_noteDetail ..) fun _ => .ite (fun _ => touches_noteDetail ..) fun _ => .refl) <| .trans (touches_takeFindings
      ..) <| .foldl (fun _ _ => .trans (touches_update [.free] (by rfl)) <| touches_modField _ _ _ fun _ => by rfl) _ _
theorem touches_rebindCluster (l ck toBallast units cause s) :
    Touches [.dies, .clusters, .commits, .nextCommit, .objs] s (rebindCluster l ck toBallast units cause s) := by
  unfold rebindCluster
  dsimp only
  split
  · exact .mono (by decide) <| .trans (touches_addObj _ _ _ (by decide)) <| touches_requestCommit ..
  · exact .mono (by decide) <| .trans (touches_addObj _ _ _ (by decide)) <| .trans (touches_requestCommit ..) <| .ite (fun _
        => .refl) fun _ => touches_capacityEvent ..
theorem touches_syncCoreHolds (ck s) : Touches [.clusters] s (syncCoreHolds ck s) :=
  .mono (by decide) <| .ite (fun _ => .ite (fun _ => .ite (fun _ => .ite (fun _ => .refl) fun _ => .ite (fun _ =>
      touches_holdCluster _ _ _ (by decide)) fun _ => touches_freeCluster _ _ _ (by decide)) fun _ => .ite (fun _ => .trans
      (.ite (fun _ => .refl) fun _ => .ite (fun _ => touches_holdCluster _ _ _ (by decide)) fun _ => touches_freeCluster _ _ _
      (by decide)) <| touches_holdCluster _ _ _ (by decide)) fun _ => .trans (.ite (fun _ => .refl) fun _ => .ite (fun _ =>
      touches_holdCluster _ _ _ (by decide)) fun _ => touches_freeCluster _ _ _ (by decide)) <| touches_freeCluster _ _ _ (by
      decide)) fun _ => .ite (fun _ => .trans (.ite (fun _ => .ite (fun _ => .refl) fun _ => .ite (fun _ =>
      touches_holdCluster _ _ _ (by decide)) fun _ => touches_freeCluster _ _ _ (by decide)) fun _ => .ite (fun _ => .trans
      (.ite (fun _ => .refl) fun _ => .ite (fun _ => touches_holdCluster _ _ _ (by decide)) fun _ => touches_freeCluster _ _ _
      (by decide)) <| touches_holdCluster _ _ _ (by decide)) fun _ => .trans (.ite (fun _ => .refl) fun _ => .ite (fun _ =>
      touches_holdCluster _ _ _ (by decide)) fun _ => touches_freeCluster _ _ _ (by decide)) <| touches_freeCluster _ _ _ (by
      decide)) <| touches_holdCluster _ _ _ (by decide)) fun _ => .trans (.ite (fun _ => .ite (fun _ => .refl) fun _ => .ite
      (fun _ => touches_holdCluster _ _ _ (by decide)) fun _ => touches_freeCluster _ _ _ (by decide)) fun _ => .ite (fun _ =>
      .trans (.ite (fun _ => .refl) fun _ => .ite (fun _ => touches_holdCluster _ _ _ (by decide)) fun _ =>
      touches_freeCluster _ _ _ (by decide)) <| touches_holdCluster _ _ _ (by decide)) fun _ => .trans (.ite (fun _ => .refl)
      fun _ => .ite (fun _ => touches_holdCluster _ _ _ (by decide)) fun _ => touches_freeCluster _ _ _ (by decide)) <|
      touches_freeCluster _ _ _ (by decide)) <| touches_freeCluster _ _ _ (by decide)) fun _ => .ite (fun _ => .trans (.ite
      (fun _ => .ite (fun _ => .ite (fun _ => .refl) fun _ => .ite (fun _ => touches_holdCluster _ _ _ (by decide)) fun _ =>
      touches_freeCluster _ _ _ (by decide)) fun _ => .ite (fun _ => .trans (.ite (fun _ => .refl) fun _ => .ite (fun _ =>
      touches_holdCluster _ _ _ (by decide)) fun _ => touches_freeCluster _ _ _ (by decide)) <| touches_holdCluster _ _ _ (by
      decide)) fun _ => .trans (.ite (fun _ => .refl) fun _ => .ite (fun _ => touches_holdCluster _ _ _ (by decide)) fun _ =>
      touches_freeCluster _ _ _ (by decide)) <| touches_freeCluster _ _ _ (by decide)) fun _ => .ite (fun _ => .trans (.ite
      (fun _ => .ite (fun _ => .refl) fun _ => .ite (fun _ => touches_holdCluster _ _ _ (by decide)) fun _ =>
      touches_freeCluster _ _ _ (by decide)) fun _ => .ite (fun _ => .trans (.ite (fun _ => .refl) fun _ => .ite (fun _ =>
      touches_holdCluster _ _ _ (by decide)) fun _ => touches_freeCluster _ _ _ (by decide)) <| touches_holdCluster _ _ _ (by
      decide)) fun _ => .trans (.ite (fun _ => .refl) fun _ => .ite (fun _ => touches_holdCluster _ _ _ (by decide)) fun _ =>
      touches_freeCluster _ _ _ (by decide)) <| touches_freeCluster _ _ _ (by decide)) <| touches_holdCluster _ _ _ (by
      decide)) fun _ => .trans (.ite (fun _ => .ite (fun _ => .refl) fun _ => .ite (fun _ => touches_holdCluster _ _ _ (by
      decide)) fun _ => touches_freeCluster _ _ _ (by decide)) fun _ => .ite (fun _ => .trans (.ite (fun _ => .refl) fun _ =>
      .ite (fun _ => touches_holdCluster _ _ _ (by decide)) fun _ => touches_freeCluster _ _ _ (by decide)) <|
      touches_holdCluster _ _ _ (by decide)) fun _ => .trans (.ite (fun _ => .refl) fun _ => .ite (fun _ =>
      touches_holdCluster _ _ _ (by decide)) fun _ => touches_freeCluster _ _ _ (by decide)) <| touches_freeCluster _ _ _ (by
      decide)) <| touches_freeCluster _ _ _ (by decide)) <| touches_holdCluster _ _ _ (by decide)) fun _ => .trans (.ite (fun
      _ => .ite (fun _ => .ite (fun _ => .refl) fun _ => .ite (fun _ => touches_holdCluster _ _ _ (by decide)) fun _ =>
      touches_freeCluster _ _ _ (by decide)) fun _ => .ite (fun _ => .trans (.ite (fun _ => .refl) fun _ => .ite (fun _ =>
      touches_holdCluster _ _ _ (by decide)) fun _ => touches_freeCluster _ _ _ (by decide)) <| touches_holdCluster _ _ _ (by
      decide)) fun _ => .trans (.ite (fun _ => .refl) fun _ => .ite (fun _ => touches_holdCluster _ _ _ (by decide)) fun _ =>
      touches_freeCluster _ _ _ (by decide)) <| touches_freeCluster _ _ _ (by decide)) fun _ => .ite (fun _ => .trans (.ite
      (fun _ => .ite (fun _ => .refl) fun _ => .ite (fun _ => touches_holdCluster _ _ _ (by decide)) fun _ =>
      touches_freeCluster _ _ _ (by decide)) fun _ => .ite (fun _ => .trans (.ite (fun _ => .refl) fun _ => .ite (fun _ =>
      touches_holdCluster _ _ _ (by decide)) fun _ => touches_freeCluster _ _ _ (by decide)) <| touches_holdCluster _ _ _ (by
      decide)) fun _ => .trans (.ite (fun _ => .refl) fun _ => .ite (fun _ => touches_holdCluster _ _ _ (by decide)) fun _ =>
      touches_freeCluster _ _ _ (by decide)) <| touches_freeCluster _ _ _ (by decide)) <| touches_holdCluster _ _ _ (by
      decide)) fun _ => .trans (.ite (fun _ => .ite (fun _ => .refl) fun _ => .ite (fun _ => touches_holdCluster _ _ _ (by
      decide)) fun _ => touches_freeCluster _ _ _ (by decide)) fun _ => .ite (fun _ => .trans (.ite (fun _ => .refl) fun _ =>
      .ite (fun _ => touches_holdCluster _ _ _ (by decide)) fun _ => touches_freeCluster _ _ _ (by decide)) <|
      touches_holdCluster _ _ _ (by decide)) fun _ => .trans (.ite (fun _ => .refl) fun _ => .ite (fun _ =>
      touches_holdCluster _ _ _ (by decide)) fun _ => touches_freeCluster _ _ _ (by decide)) <| touches_freeCluster _ _ _ (by
      decide)) <| touches_freeCluster _ _ _ (by decide)) <| touches_freeCluster _ _ _ (by decide)
theorem touches_withholdCore (p s) : Touches [.cores, .clusters] s (withholdCore p s) :=
  .mono (by decide) <| .trans (touches_modCore ..) <| touches_syncCoreHolds ..
theorem touches_clusterOut (ck units cause s) :
    Touches [.dies, .units, .cores, .clusters, .commits, .nextCommit, .objs] s (clusterOut ck units cause s) := by
  unfold clusterOut
  split
  · exact .mono (by decide) <| .trans (.foldl (fun _ _ => touches_withholdCore ..) _ _) <| .trans (.foldl (fun _ _ =>
        touches_setOpen ..) _ _) <| touches_rebindCluster ..
  · exact .mono (by decide) <| .refl
theorem touches_trialReached (s : State) (b : Bool) : Touches [.trialReached] s { s with trialReached := b } :=
  touches_update [.trialReached] rfl
theorem touches_packageAtS8 (s) : Touches [.dies, .trialReached, .objs] s (packageAtS8 s) :=
  .mono (by decide) <| .ite (fun _ => .refl) fun _ =>
    .trans (.ite (fun _ => .refl) fun _ => touches_setObjs _ _ (by simp [tallyKeys, key])) <|
    .trans (touches_setObj _ _ _ (by decide)) <| .trans (touches_trialReached ..) <| touches_editCopies ..
theorem touches_runStage8 (d s) :
    Touches [.dies, .fields, .units, .cores, .clusters, .commits, .nextCommit, .ports, .trialReached, .kept, .keptB, .screens,
        .objs] s (runStage8 d s) :=
  .mono (by decide) <| .trans (touches_update [.units] (by rfl)) <| .trans (touches_modDie _ _ _ fun _ => by rfl) <| .trans
      (.foldl (fun _ _ => touches_openScreen ..) _ _) <| .trans (.ite (fun _ => touches_saveTraining ..) fun _ => .ite (fun _
      => .refl) fun _ => touches_saveTraining ..) <| .trans (touches_modDie _ _ _ fun _ => by rfl) <| .trans (.foldl (fun _ _
      => touches_modPort ..) _ _) <| .trans (.foldl (fun _ _ => touches_clusterOut ..) _ _) <| touches_packageAtS8 ..
theorem touches_leaveOutLanes (d s) : Touches [.output] s (leaveOutLanes d s) :=
  .mono (by decide) <| .foldl (fun _ _ => .ite (fun _ => .refl) fun _ => touches_emit ..) _ _
theorem touches_loadDefaults (d s) : Touches [.tallies, .drafts, .dies, .keys, .objs] s (loadDefaults d s) :=
  .mono (by decide) <| .trans (touches_diesWith (t := { s with
      objs := s.objs.filter fun e => !storeKept e.1, keys := tset (tset (tset [] 2 []) 3 []) 4 [],
      dies := s.dies.map fun x => { x with node := [] } }) [.objs, .keys] rfl rfl fun _ => rfl) <| touches_noteDetail ..
theorem touches_enterCase (rule s) : Touches [.undefinedCases] s (enterCase rule s) :=
  .mono (by decide) <| .ite (fun _ => .refl) fun _ => touches_update [.undefinedCases] (by rfl)
theorem touches_judgePolicy (s) : Touches [.undefinedCases] s (judgePolicy s) :=
  .mono (by decide) <| .ite (fun _ => touches_leaveCase ..) fun _ => touches_enterCase ..
theorem touches_loadCopy (c s) : Touches [.tallies, .seqr, .dies, .zports, .images, .keys, .objs] s (loadCopy c s) :=
  .mono (by decide) <| touches_diesWith (t := loadCopy c s) [.objs, .seqr, .zports, .images, .keys] rfl rfl fun _ => by
    split <;> rfl
theorem touches_selectImage (s) : Touches [.dies, .images, .imageInUse, .imageFallback, .trialReached] s (selectImage s) := by
  unfold selectImage
  exact .mono (by decide) <| .trans (touches_images s _ _ _ _) <| touches_editCopies ..
theorem touches_anchorSelected (c s) :
    Touches [.tallies, .seqr, .dies, .zports, .images, .imageInUse, .imageFallback, .trialReached, .retained, .startKind,
        .keys, .kept, .keptB, .undefinedCases, .objs] s (anchorSelected c s) :=
  .mono (by decide) <| .trans (touches_loadCopy ..) <| .trans (touches_judgePolicy ..) <| .trans (touches_setObj_any ..) <|
      .trans (touches_selectImage ..) <| .trans (touches_editCopies ..) <| touches_update [.seqr, .retained, .startKind,
      .kept, .keptB] (by rfl)
theorem touches_anchorStage2 (d noCopy s) :
    Touches [.drafts, .tallies, .seqr, .dies, .zports, .images, .imageInUse, .imageFallback, .trialReached, .retained,
        .startKind, .keys, .kept, .keptB, .undefinedCases, .objs] s (anchorStage2 d noCopy s) := by
  unfold anchorStage2
  split
  · exact .mono (by decide) <| touches_loadDefaults ..
  · exact .mono (by decide) <| touches_anchorSelected ..
theorem touches_free (s : State) (n : Nat) : Touches [.free] s { s with free := n } := touches_update [.free] rfl
theorem touches_applyOffset (fault k s) : Touches [.keepers, .free] s (applyOffset fault k s) :=
  .mono (by decide) <| .trans (touches_free ..) <| .trans (touches_free ..) <|
    .ite (fun _ => touches_modKeeper ..) fun _ => touches_modKeeper ..
theorem touches_measureLeaves (f s) : Touches [.fields, .free] s (measureLeaves f s) :=
  .mono (by decide) <| .trans (touches_update [.free] (by rfl)) <| touches_modField _ _ _ fun _ => by rfl
theorem touches_bootUp (d b s) : Touches [.ports, .output] s (bootUp d b s) :=
  .mono (by decide) <| .trans (touches_modPort ..) <| touches_emit ..
theorem touches_stopPackage (s) : Touches [.dies] s (stopPackage s) := touches_dies _ _ fun _ => by split <;> rfl
theorem touches_stageSpecial (d n s) : Touches [.drafts, .dies, .ripcord] s (stageSpecial d n s) := by
  unfold stageSpecial
  dsimp only
  split
  · exact .mono (by decide) <| .trans (.ite (fun _ => .trans (touches_record ..) <| touches_noteDetail ..) fun _ => .ite (fun
        _ => touches_noteDetail ..) fun _ => .refl) <| .trans (touches_update [.ripcord] (by rfl)) <| touches_modDie _ _ _ fun
        _ => by rfl
  · exact .mono (by decide) <| .ite (fun _ => touches_noteDetail ..) fun _ => .ite (fun _ => .trans (touches_flagDraft ..) <|
        touches_stopPackage ..) fun _ => .refl
  · exact .mono (by decide) <| .ite (fun _ => .trans (touches_flagDraft ..) <| touches_stopPackage ..) fun _ => .refl
  · exact .mono (by decide) <| .ite (fun _ => .trans (touches_flagDraft ..) <| touches_stopPackage ..) fun _ => .refl
  · exact .mono (by decide) <| .refl
theorem touches_dropBinding (b s) : Touches [.commits] s (dropBinding b s) :=
  touches_update [.commits] (by rfl)
theorem touches_dropSwap (ck s) : Touches [.dies, .units, .commits, .objs] s (dropSwap ck s) := by
  refine .foldl (fun _ _ => ?_) _ _
  split
  · exact .mono (by decide) <| .trans (touches_dropBinding ..) <| .trans (touches_setOpen ..) <| .trans (touches_setOpen ..) <|
      touches_publishSwap _ _ _ _ _ (by decide)
  · exact .mono (by decide) .refl
theorem touches_rebindCore (p lcn cause s) :
    Touches [.dies, .units, .cores, .clusters, .commits, .nextCommit, .objs] s (rebindCore p lcn cause s) := by
  unfold rebindCore
  dsimp only
  split
  · exact .mono (by decide) <| .trans (touches_dropSwap ..) <| .trans (touches_withholdCore ..) <| .trans (touches_setOpen ..)
        <| .ite (fun _ => touches_requestCommit ..) fun _ => .trans (touches_addObj _ _ _ (by decide)) <|
        touches_rebindCluster ..
  · exact .mono (by decide) <| .trans (touches_dropSwap ..) <| .trans (touches_withholdCore ..) <| .trans (touches_setOpen ..)
        <| touches_rebindCluster ..
theorem touches_routerOut (p cause s) :
    Touches [.shapes, .stops, .dies, .units, .cores, .clusters, .slices, .commits, .nextCommit, .objs] s (routerOut p cause s)
        :=
  .mono (by decide) <| .trans (.foldl (fun _ _ => touches_modUnit ..) _ _) <| .trans (touches_setOpen ..) <| .trans
      (touches_requestCommit ..) <| .trans (.foldl (fun _ _ => touches_clusterOut ..) _ _) <| touches_endInvalid ..
theorem touches_laneOut (p cause s) :
    Touches [.shapes, .stops, .dies, .units, .clusters, .slices, .commits, .nextCommit, .objs] s (laneOut p cause s) := by
  unfold laneOut
  dsimp only
  split
  · exact .mono (by decide) <| .refl
  · split
    · exact .mono (by decide) <| .trans (touches_setOpen ..) <| touches_requestCommit ..
    · exact .mono (by decide) <| .trans (touches_setOpen ..) <| .trans (touches_requestCommit ..) <| .foldl (fun _ _ => .trans
          (touches_capacityEvent ..) <| touches_endSlice ..) _ _
theorem touches_bridgeOut (p cause s) :
    Touches [.shapes, .stops, .dies, .units, .clusters, .slices, .commits, .nextCommit, .objs] s (bridgeOut p cause s) :=
  .mono (by decide) <| .ite (fun _ => .refl) fun _ => .trans (touches_setOpen ..) <| .trans (touches_setOpen ..) <| .trans
      (.foldl (fun _ _ => .trans (touches_capacityEvent ..) <| touches_endSlice ..) _ _) <| touches_requestCommit ..
theorem touches_bindPlace (p place s) : Touches [.units] s (bindPlace p place s) :=
  touches_modUnit ..
theorem touches_startRebind (p cause s) :
    Touches [.drafts, .powers, .shapes, .stops, .keepers, .dies, .fields, .units, .unreachable, .cores, .clusters, .slices,
        .commits, .nextCommit, .objs, .output] s (startRebind p cause s) := by
  unfold startRebind
  dsimp only
  split
  · split
    · exact .mono (by decide) <| touches_rebindCore ..
    · exact .mono (by decide) <| .refl
  · exact .mono (by decide) <| .ite (fun _ => touches_clusterOut ..) fun _ => touches_routerOut ..
  · exact .mono (by decide) <| touches_laneOut ..
  · exact .mono (by decide) <| touches_bridgeOut ..
  · split
    · exact .mono (by decide) <| touches_requestCommit ..
    · exact .mono (by decide) <| touches_requestCommit ..
    · exact .mono (by decide) <| .refl
  · exact .mono (by decide) <| touches_bindPlace ..
  · exact .mono (by decide) <| touches_clusterOut ..
  · exact .mono (by decide) <| touches_clusterOut ..
  · exact .mono (by decide) <| touches_leaveOff ..
  · exact .mono (by decide) <| .refl
theorem touches_moveReplays (p s) : Touches [.units, .cores, .clusters] s (moveReplays p s) := by
  unfold moveReplays
  dsimp only
  refine .mono (by decide) <| .trans (touches_modCore ..) <| .foldl (S := [.units, .cores, .clusters]) (fun _ _ => ?_) _ _
  split
  · exact .mono (by decide) <| .trans (touches_modCore ..) <| touches_spareMove ..
  · exact .mono (by decide) <| touches_modCluster _ _ _ fun _ => by rfl
theorem touches_refreshAdoptive (s) : Touches [.clusters] s (refreshAdoptive s) :=
  .mono (by decide) <| .foldl (fun _ _ => touches_assignAdoptive ..) _ _
theorem touches_leaveReplayRole (p s) : Touches [.units, .cores, .clusters] s (leaveReplayRole p s) :=
  .mono (by decide) <| .trans (touches_assignAdoptive ..) <| .trans (touches_refreshAdoptive ..) <| touches_moveReplays ..
theorem touches_bindUnit (p place s) : Touches [.dies, .fields, .units, .screens, .objs] s (bindUnit p place s) :=
  .mono (by decide) <| .trans (touches_bindPlace ..) <| .ite (fun _ => touches_changeState ..) fun _ => .refl
theorem touches_recomputeLcn (lcn s) : Touches [.dies, .fields, .cores, .slices, .output] s (recomputeLcn lcn s) :=
  touches_recomputeGroup ..
theorem touches_handBlocks (old new s) : Touches [.cores, .free] s (handBlocks old new s) :=
  .mono (by decide) <| .trans (touches_update [.free] (by rfl)) <| .trans (touches_modCore ..) <| touches_modCore ..
theorem touches_rebindLcn (lcn running s) : Touches [.lcns] s (rebindLcn lcn running s) :=
  touches_modLcn ..
theorem touches_endStall (p s) : Touches [.cores, .objs] s (endStall p s) := by
  unfold endStall
  dsimp only
  split
  · exact .mono (by decide) <| .refl
  · exact .mono (by decide) <| .trans (touches_maxObj _ _ _ (by decide)) <| .trans (touches_modCore ..) <| .ite (fun _ =>
        touches_addObj _ _ _ (by decide)) fun _ => .refl
theorem touches_startTile (lcn p t s) : Touches [.lcns, .cores, .objs] s (startTile lcn p t s) :=
  .mono (by decide) <| .trans (touches_modCore ..) <| .trans (touches_endStall ..) <| touches_modLcn ..
theorem touches_handover (lcn old new s) : Touches [.lcns, .cores, .clusters, .objs, .free] s (handover lcn old new s) := by
  unfold handover
  dsimp only
  split
  · exact .mono (by decide) <| .trans (touches_handBlocks ..) <| .trans (touches_modCore ..) <| .trans (touches_modCore ..) <|
        .trans (touches_rebindLcn ..) <| .trans (touches_addObj _ _ _ (by decide)) <| touches_syncCoreHolds ..
  · exact .mono (by decide) <| .trans (touches_handBlocks ..) <| .trans (touches_modCore ..) <| .trans (touches_modCore ..) <|
        .trans (touches_rebindLcn ..) <| .trans (touches_addObj _ _ _ (by decide)) <| .trans (touches_syncCoreHolds ..) <|
        touches_startTile ..
theorem touches_toBallast (p cause s) : Touches [.dies, .fields, .units, .screens, .objs] s (toBallast p cause s) :=
  .mono (by decide) <| .trans (touches_bindPlace ..) <| .ite (fun _ => touches_changeState ..) fun _ => .refl
theorem touches_setFreqs (cks mhz s) : Touches [.freqs] s (setFreqs cks mhz s) :=
  touches_update [.freqs] (by rfl)
theorem touches_landSwap (cause lcn old new s) : Touches bindingParts s (landBinding cause (.swap lcn old new) s) := by
  unfold landBinding
  dsimp only
  generalize hb : modCore old _ (rebindLcn _ _ _) = b
  have before : Touches bindingParts s b := by
    rw [← hb]
    exact .mono (by decide) <| .trans (touches_applyMap ..) <| .trans (touches_toBallast ..) <| .trans (touches_bindUnit ..) <|
      .trans (touches_leaveReplayRole ..) <| .trans (touches_handBlocks ..) <| .trans (touches_rebindLcn ..) <| touches_modCore ..
  generalize hx : recomputeLcn lcn (syncCoreHolds _ _) = x
  have held : Touches bindingParts b x := by
    rw [← hx]
    split
    · exact .mono (by decide) <| .trans (.ite (fun _ => touches_modCore ..) fun _ => touches_startTile ..) <|
        .trans (touches_syncCoreHolds ..) <| touches_recomputeLcn ..
    · exact .mono (by decide) <| .trans (touches_syncCoreHolds ..) <| touches_recomputeLcn ..
  exact .mono (by decide) <| .trans before <| .trans held <| .ite (fun _ => .refl) fun _ => .trans (touches_modFmax ..) <|
    .trans (touches_modUnit ..) <| .trans (touches_modCluster _ _ _ fun _ => by rfl) <| touches_publishSwap _ _ _ _ _ (by decide)
theorem touches_landCluster (cause l old new ballast s) :
    Touches bindingParts s (landBinding cause (.cluster l old new ballast) s) := by
  unfold landBinding
  dsimp only
  generalize hb : (List.foldl _ _ (coresOf old)) = b
  have before : Touches bindingParts s b := by
    rw [← hb]
    exact .mono (by decide) <| .trans (touches_applyMap ..) <|
      .trans (.foldl (fun _ _ => .ite (fun _ => touches_toBallast ..) fun _ => touches_bindPlace ..) _ _) <|
      .foldl (fun _ _ => .ite (fun _ => touches_toBallast ..) fun _ => touches_bindPlace ..) _ _
  refine .mono (L := bindingParts ++ bindingParts) (by decide) <| .trans before ?_
  cases new with
  | none => exact .mono (by decide) .refl
  | some ck =>
    dsimp only
    generalize hd : List.foldl _ (List.foldl _ _ _) (List.range 16) = d
    have bound : Touches bindingParts b d := by
      rw [← hd]
      refine .mono (L := bindingParts ++ bindingParts) (by decide) <| .trans ?_ (.foldl (fun x i => ?_) (List.range 16) _)
      · refine .mono (L := [.freqs] ++ [.dies, .fields, .units, .screens, .objs]) (by decide) <|
          .trans ?_ (.foldl (fun _ _ => touches_bindUnit ..) _ _)
        split
        · exact touches_setFreqs ..
        · exact .mono (by decide) .refl
      · split
        · exact .mono (by decide) <| .trans (touches_bindUnit ..) <| touches_handover ..
        · exact .mono (by decide) <| .trans (touches_bindUnit ..) <| touches_rebindLcn ..
        · exact .mono (by decide) .refl
    exact .mono (by decide) <| .trans bound <| .trans (touches_modCluster _ _ _ fun _ => by rfl) <|
      .trans (touches_assignAdoptive ..) <| .trans (touches_refreshAdoptive ..) <| touches_recomputeLcn ..
theorem touches_landBinding (cause b s) : Touches bindingParts s (landBinding cause b s) := by
  cases b with
  | core => exact .mono (by decide) <| .trans (touches_applyMap ..) <| .trans (touches_bindPlace ..) <|
      .trans (touches_bindUnit ..) <| .trans (touches_leaveReplayRole ..) <| .trans (touches_handover ..) <| touches_recomputeLcn ..
  | swap => exact touches_landSwap ..
  | cluster => exact touches_landCluster ..
  | lane =>
    unfold landBinding
    dsimp only
    split
    · exact .mono (by decide) <| .trans (touches_applyMap ..) <| .trans (touches_toBallast ..) <| touches_bindUnit ..
    · exact .mono (by decide) <| .trans (touches_applyMap ..) <| touches_toBallast ..
  | channel => exact .mono (by decide) <| .trans (touches_applyMap ..) <| .trans (touches_bindPlace ..) <| touches_bindUnit ..
  | around =>
    unfold landBinding
    dsimp only
    exact .mono (by decide) <| .ite (fun _ => .trans (touches_bindUnit ..) <| .foldl (fun _ _ => touches_modUnit ..) _ _)
      fun _ => .refl
  | zport d q c => exact .mono (by decide) <| touches_applyMap (.zport d q c) s
  | slotLost st slot => exact .mono (by decide) <| touches_applyMap (.slotLost st slot) s
  | stackLost st => exact .mono (by decide) <| touches_applyMap (.stackLost st) s
theorem touches_commits (s : State) (l : List Commit) : Touches [.commits] s { s with commits := l } :=
  touches_update [.commits] rfl
theorem touches_landStart (s) : Touches ([.unreachable, .commits, .nextCommit] ++ bindingParts) s (landStart s) :=
  .mono (by decide) <| .trans (touches_commits ..) <|
    .trans (.foldl (fun _ _ => .trans (.foldl (fun _ _ => touches_landBinding ..) _ _) <|
      .trans (.foldl (fun _ _ => touches_setOpen ..) _ _) <|
      .foldl (fun _ _ => touches_modCluster _ _ _ fun _ => by rfl) _ _) _ _) <|
    .trans (touches_checkStacks ..) <| touches_commits ..
theorem touches_startBindings (d n s) :
    Touches [.drafts, .powers, .shapes, .stops, .keepers, .dies, .fields, .units, .fmax, .lcnMap, .clusterMap, .lanes,
        .channels, .zports, .lostSlots, .unreachable, .lcns, .cores, .clusters, .slices, .commits, .nextCommit, .freqs,
        .screens, .objs, .output, .free] s (startBindings d n s) :=
  .mono (by decide) <| .trans (touches_modDie _ _ _ fun _ => by rfl) <| .foldl (fun _ _ => .trans (touches_startRebind ..) <|
      .trans (.ite (fun _ => touches_flagDraft ..) fun _ => .refl) <| .trans (.ite (fun _ => touches_flagDraft ..) fun _ =>
      .refl) <| .trans (touches_modDraft ..) <| .trans (touches_modDie _ _ _ fun _ => by rfl) <| .trans (touches_noteDetail
      ..) <| touches_landStart ..) _ _
theorem touches_missingAtEnd (d n s) : Touches [.dies, .fields, .units, .screens, .objs] s (missingAtEnd d n s) :=
  .mono (by decide) <| .ite (fun _ => .foldl (fun _ _ => .ite (fun _ => .refl) fun _ => touches_markUnit ..) _ _) fun _ =>
      .ite (fun _ => .foldl (fun _ _ => .trans (.ite (fun _ => .refl) fun _ => touches_markUnit ..) <| .foldl (fun _ _ =>
      touches_markUnit ..) _ _) _ _) fun _ => .refl
theorem touches_addPoints (p n s) : Touches [.units] s (addPoints p n s) :=
  touches_modUnit ..
theorem touches_countCause (cause p s) : Touches [.units] s (countCause cause p s) := by
  unfold countCause
  split
  · exact .mono (by decide) <| touches_modUnit ..
  · exact .mono (by decide) <| touches_addPoints ..
theorem touches_chargeBridle (ck s) : Touches [.dies, .fields, .units, .screens, .objs] s (chargeBridle ck s) := by
  unfold chargeBridle
  dsimp only
  split
  · exact .mono (by decide) <| .refl
  · exact .mono (by decide) <| .refl
  · exact .mono (by decide) <| .refl
  · exact .mono (by decide) <| .trans (touches_countCause ..) <| .foldl (fun _ _ => .ite (fun _ => .trans (touches_changeState
        ..) <| touches_modUnit ..) fun _ => .ite (fun _ => touches_changeState ..) fun _ => .refl) _ _
theorem touches_quarantineBridles (f s) : Touches [.dies, .fields, .units, .screens, .objs] s (quarantineBridles f s) :=
  .mono (by decide) <| .foldl (fun _ _ => touches_chargeBridle ..) _ _
theorem touches_fenceField (f s) : Touches failureParts s (fenceField f s) :=
  .mono (by decide) <| .trans (touches_modField _ _ _ fun _ => by rfl) <| .trans (touches_goDark ..) <|
      touches_quarantineBridles ..
theorem touches_emcyEvent (d code detail s) : Touches [.dies] s (emcyEvent d code detail s) :=
  touches_raiseLocal ..
theorem touches_fenceDie (d bridles s) : Touches fencingParts s (fenceDie d bridles s) :=
  .mono (by decide) <| .ite (fun _ => .refl) fun _ => .trans (touches_update [.standby] (by rfl)) <| .trans (touches_modDie _
      _ _ fun _ => by rfl) <| .trans (.foldl (fun _ _ => .ite (fun _ => touches_fenceField ..) fun _ => .trans
      (touches_modField _ _ _ fun _ => by rfl) <| touches_goDark ..) _ _) <| .trans (touches_emcyEvent ..) <|
      touches_refreshError ..
theorem touches_restartSpanning (s) : Touches [.shapes, .slices] s (restartSpanning s) := touches_update [.slices] rfl
theorem touches_rescheduleRequests (s) : Touches [.snapshot, .traces] s (rescheduleRequests s) :=
  touches_update [.snapshot, .traces] (by rfl)
theorem touches_rescheduleCommits (s) : Touches [.commits] s (rescheduleCommits s) :=
  .mono (by decide) <| .foldl (fun _ _ => .ite (fun _ => .refl) fun _ => touches_update [.commits] (by rfl)) _ _
theorem touches_anchorTakeover (cause s) :
    Touches [.shapes, .anchorDie, .standby, .takenOver, .keepers, .seqr, .dies, .slices, .commits, .snapshot, .traces] s
      (anchorTakeover cause s) := by
  unfold anchorTakeover
  have h (l : Tab Keeper) (q : Sequencer) : Touches [.dies, .anchorDie, .standby, .takenOver, .keepers, .seqr] s { s with
      anchorDie := 1, standby := false, takenOver := true, seqr := q, keepers := l,
      dies := s.dies.map (resendEvents s.seqr.mirror) } :=
    touches_diesWith [.anchorDie, .standby, .takenOver, .keepers, .seqr] rfl rfl fun _ => rfl
  exact .mono (by decide) <| .trans (h ..) <| .trans (touches_eraEvent ..) <| .trans (touches_rescheduleRequests ..) <|
    .trans (touches_restartSpanning ..) <| .trans (touches_returnEverywhere ..) <| .trans (touches_takePosition ..) <|
    .trans (touches_rescheduleCommits ..) <| touches_eraEvent ..
theorem touches_takeRole (cause s) :
    Touches [.shapes, .ptStarted, .anchorDie, .standby, .takenOver, .keepers, .seqr, .dies, .slices, .commits, .snapshot,
        .traces] s (takeRole cause s) :=
  .mono (by decide) <| .trans (.ite (fun _ => touches_anchorTakeover ..) fun _ => touches_anchorAtStart ..) <| .ite (fun _ =>
      .refl) fun _ => touches_startPt ..
theorem touches_failStage (d n s) : Touches fencingParts s (failStage d n s) := by
  unfold failStage
  split
  · exact .mono (by decide) <| .trans (touches_flagDraft ..) <| .trans (touches_flagDraft ..) <| touches_stopPackage ..
  · split
    · exact .mono (by decide) <| .trans (touches_flagDraft ..) <| .trans (touches_fenceDie ..) <|
        .ite (fun _ => .refl) fun _ => .trans (touches_flagDraft ..) <| touches_stopPackage ..
    · split
      · exact .mono (by decide) <| .trans (touches_flagDraft ..) <| touches_fenceDie ..
      · exact .mono (by decide) <| .ite
          (fun _ => .trans (touches_flagDraft ..) <| .trans (touches_takeRole ..) <| touches_fenceDie ..)
          fun _ => .trans (touches_flagDraft ..) <| .trans (touches_flagDraft ..) <| touches_stopPackage ..
theorem touches_raiseReady (d n s) : Touches [.anchorReady] s (raiseReady d n s) :=
  .mono (by decide) <| .ite (fun _ => touches_update [.anchorReady] (by rfl)) fun _ => .refl
theorem touches_giveNumber (d e s) : Touches [.seqr, .dies, .clusters, .commits] s (giveNumber d e s) := by
  unfold giveNumber
  dsimp only
  split
  · split
    · exact .mono (by decide) <| .trans (touches_takePosition ..) <| .trans (touches_mirrorEvent ..) <| .trans (.foldl (fun _
          _ => touches_modDie _ _ _ fun _ => by rfl) _ _) <| .trans (.ite (fun _ => touches_raiseEnd ..) fun _ => .refl) <|
          touches_scheduleCommit ..
    · exact .mono (by decide) <| .trans (touches_takePosition ..) <| .trans (touches_mirrorEvent ..) <| .trans (.foldl (fun _
          _ => touches_modDie _ _ _ fun _ => by rfl) _ _) <| touches_scheduleCommit ..
  · split
    · exact .mono (by decide) <| .trans (touches_takePosition ..) <| .trans (touches_mirrorEvent ..) <| .trans (.foldl (fun _
          _ => touches_modDie _ _ _ fun _ => by rfl) _ _) <| .ite (fun _ => touches_raiseEnd ..) fun _ => .refl
    · exact .mono (by decide) <| .trans (touches_takePosition ..) <| .trans (touches_mirrorEvent ..) <| .foldl (fun _ _ =>
          touches_modDie _ _ _ fun _ => by rfl) _ _
theorem touches_issueNumber (d e s) : Touches [.seqr, .dies, .clusters, .commits] s (issueNumber d e s) :=
  .mono (by decide) <| .trans (touches_eraEvent ..) <| .trans (touches_giveNumber ..) <| touches_eraEvent ..
theorem touches_numberDirect (d e s) : Touches [.seqr, .dies, .clusters, .commits] s (numberDirect d e s) :=
  .mono (by decide) <| .trans (touches_modDie _ _ _ fun _ => by rfl) <| touches_issueNumber ..
theorem touches_startNumbers (s) : Touches [.seqr, .dies, .clusters, .commits] s (startNumbers s) := by
  unfold startNumbers
  dsimp only
  refine .mono (by decide) <| .trans (touches_modDie _ _ _ fun _ => by rfl) <| .trans (touches_giveNumber ..) <| .trans
      (touches_eraEvent ..) <| .trans (.foldl (S := [.seqr, .dies, .clusters, .commits]) (fun _ _ => ?_) _ _) <| .trans
      (.foldl (S := [.seqr, .dies, .clusters, .commits]) (fun _ _ => ?_) _ _) <| .trans (.foldl (fun _ _ => .ite (fun _ =>
      .refl) fun _ => touches_record ..) _ _) <| .foldl (fun _ _ => .trans (touches_modDie _ _ _ fun _ => by rfl) <| .foldl
      (fun _ _ => touches_numberDirect ..) _ _) _ _
  · split
    · exact .mono (by decide) <| .refl
    · exact .mono (by decide) <| .trans (touches_modReel ..) <| .ite (fun _ => .refl) fun _ => touches_numberDirect ..
  · split
    · exact .mono (by decide) <| .refl
    · exact .mono (by decide) <| touches_numberDirect ..
theorem touches_checkNumbers (s) : Touches [.seqr, .dies, .clusters, .commits] s (checkNumbers s) :=
  .mono (by decide) <| .ite (fun _ => touches_startNumbers ..) fun _ => .refl

end Sys2Proof.Machine
end

section
/-!
SUPPORT. How the stages of bring-up run and end (R54, R69, R347, R351, R352, R355, R370).
-/
namespace Sys2Proof.Machine

/-! ### What the views say of one record -/

theorem getD_congr_map {α β : Type} {f : α → β} {l r : List α} (h : l.map f = r.map f) (i : Nat) (a : α) :
    f (l.getD i a) = f (r.getD i a) := by
  have := congrArg (fun m => m.getD i (f a)) h
  rwa [List.getD_map, List.getD_map] at this

section
variable {S : List Part} {s t : State}

/-- Where the stages stand on a die that `Touches` leaves. -/
theorem Touches.die_stages (h : Touches S s t) (hp : .stages ∉ S) (d : Nat) : (die t d).stages = (die s d).stages :=
  getD_congr_map (h.agrees .stages hp) d _
theorem Touches.dies_length (h : Touches S s t) (hp : .stages ∉ S) : t.dies.length = s.dies.length := by
  simpa using congrArg List.length (h.agrees .stages hp)
theorem Touches.draft_result (h : Touches S s t) (hp : .drafts ∉ S) (d : Nat) :
    (die t d).draft.result = (die s d).draft.result :=
  getD_congr_map (f := fun x : Die => x.draft.result) (h.agrees .drafts hp) d _
theorem Touches.field_power (h : Touches S s t) (hp : .powers ∉ S) (f : Nat) : (field t f).power = (field s f).power :=
  getD_congr_map (f := fun x : Field => x.power) (h.agrees .powers hp) f _
end

/-! ### S0 (R69, R347, R504) -/

/-- A die of a new run. -/
theorem die_newRun {s : State} {d : Nat} (hd : d < s.variant.dies) (hl : d < s.dies.length) : die (newRun s) d =
    { Die.restart (tgetD (mergedStore s).nodes d []) (die s d) with training := tgetD (mergedStore s).training d [] } := by
  have : (s.dies.take s.variant.dies).zipIdx[d]? = some (die s d, d) := by
    rw [List.getElem?_zipIdx, List.getElem?_take_of_lt hd, List.getElem?_eq_getElem hl, die, List.getD_eq_getElem?_getD,
      List.getElem?_eq_getElem hl]
    simp
  simp only [die, newRun, List.getD_eq_getElem?_getD, List.getElem?_map] at this ⊢
  rw [this]
  rfl
theorem length_dies_newRun {s : State} {d : Nat} (hd : d < s.variant.dies) (hl : d < s.dies.length) :
    d < (newRun s).dies.length := by
  simp [newRun]
  omega
/-- S0 of the first die begins a new run. -/
theorem runStage0_first {s : State} {d : Nat} (hd : d < s.variant.dies) (hl : d < s.dies.length)
    (hf : ∀ e ∈ dieIdxs s, (die s e).stage = 0 ∧ (die s e).stageRan = false) :
    runStage0 d s = modDie d (fun x => { x with stageRan := true }) (beginStage d 0 (newRun s)) := by
  have first : (dieIdxs s).all (fun e => (die s e).stage = 0 && !(die s e).stageRan) = true := by
    simp only [List.all_eq_true, Bool.and_eq_true, decide_eq_true_eq, Bool.not_eq_true']
    exact hf
  have hs : ¬ (die (newRun s) d).status ≠ 1 := by
    rw [die_newRun hd hl]
    exact fun h => h rfl
  simp only [runStage0, first, if_true]
  rw [if_neg hs]
theorem die_begun {s : State} {d n : Nat} (hl : d < s.dies.length) : die (beginStage d n s) d = { die s d with
    stage := n, stageRan := false, stageDone := false, stageStart := s.now,
    draft := { StageReport.empty with kind := s.startKind.code, start := if n = 0 then 0 else keeperRead s d } } :=
  die_modDie_same _ _ hl

/-- STAGE_RUN of S0 on a die that may run it. -/
theorem stageRun0_runs (dt : Nat) {d : Nat} (f : StageFindings) {s : State} (hd : d < s.variant.dies) (hv : (die s d).vaon = true)
    (h0 : (die s d).stage = 0) (hr : (die s d).stageRan = false) :
    execStageRun dt d 0 f s = .next (runStage0 d (elapse dt s)) := by
  have hg : ¬ (elapse dt s).variant.dies ≤ d := not_le.mpr hd
  have hx : die (elapse dt s) d = die s d := rfl
  simp only [execStageRun, hx, h0, hr, hv]
  rw [if_neg hg]
  rfl
/-- The first S0: a new run with the stored units, without slices and package-scoped values. -/
theorem stageRun0_spec (dt : Nat) {d : Nat} (f : StageFindings) {s : State} (hd : d < s.variant.dies) (hl : d < s.dies.length)
    (hv : (die s d).vaon = true) (hf : ∀ e ∈ dieIdxs s, (die s e).stage = 0 ∧ (die s e).stageRan = false) :
    ∃ t, execStageRun dt d 0 f s = .next t ∧ (die t d).stage = 0 ∧ (die t d).stageRan = true ∧ t.slices = [] ∧
      t.units = (mergedStore s).units.map (fun e => (e.1, e.2.restart)) ∧ t.objs = [] ∧ t.variant = s.variant ∧
      t.pending = s.pending ∧ t.now = s.now + dt ∧ t.kept = s.kept ∧ (die t d).store = (die s d).store := by
  obtain ⟨h0, hr⟩ := hf d (List.mem_range.mpr hd)
  have hl' := length_dies_newRun (s := elapse dt s) hd hl
  have ht : die (modDie d (fun x => { x with stageRan := true }) (beginStage d 0 (newRun (elapse dt s)))) d =
      { die (beginStage d 0 (newRun (elapse dt s))) d with stageRan := true } :=
    die_modDie_same _ _ (by simpa [beginStage] using hl')
  rw [stageRun0_runs dt f hd hv h0 hr, runStage0_first (s := elapse dt s) hd hl hf]
  refine ⟨_, rfl, ?_, ?_, rfl, rfl, rfl, rfl, rfl, rfl, rfl, ?_⟩
  · rw [ht, die_begun hl']
  · rw [ht]
  · rw [ht, die_begun hl', die_newRun (s := elapse dt s) hd hl]
    rfl

/-! ### S1 (R54, R69, R375) -/

/-- What S1 does to the end mark and the test results of a die. -/
def readEndMark (x : Die) : Die := { x with markRead := x.endMark, endMark := 0, testResults := [] }
/-- What S1 may change before it reads the end mark. -/
def beforeMark : List Part := [.ptStarted, .anchorDie, .keepers, .dies, .ports, .undefinedCases, .output]
/-- What running a stage may change from its findings on. -/
def findingParts : List Part := .startKind :: failureParts

/-- A die whose stage runs. -/
def ranStage (x : Die) : Die := { x with stageRan := true }
/-- The steps of S1 up to the scan of the Reel. -/
def stage1Scanned (d : Nat) (s : State) : State :=
  let s := modDie d ranStage (beginStage d 1 s)
  scanReel d (if d = 0 && (die s 0).anchorSel then startPt 0 { s with anchorDie := 0 } else s)

theorem touches_anchorDie (s : State) (d : Nat) : Touches [.anchorDie] s { s with anchorDie := d } :=
  touches_update [.anchorDie] rfl
theorem touches_stage1Scanned (d : Nat) (s : State) :
    Touches beforeMark (modDie d ranStage (beginStage d 1 s)) (stage1Scanned d s) :=
  .mono (by decide) <| .trans (.ite (fun _ => .trans (touches_anchorDie ..) <| touches_startPt ..) fun _ => .refl) <|
    touches_scanReel ..
/-- From the end mark on, S1 changes what findings change. -/
theorem touches_runStage1 (d : Nat) (f : StageFindings) (s : State) :
    Touches findingParts (modDie d readEndMark (stage1Scanned d s)) (runStage1 d f s) :=
  .mono (by decide) <| .trans (.foldl (fun _ _ => touches_markUnit ..) _ _) <| touches_takeFindings ..
/-- S1 of CD0 starts the package time where its selection pin is set (R54). -/
theorem stage1Scanned_ptStarted {s : State} (hl : 0 < s.dies.length) (hs : (die s 0).anchorSel = true) :
    (stage1Scanned 0 s).ptStarted = true := by
  have hd : (die (modDie 0 ranStage (beginStage 0 1 s)) 0).anchorSel = true := by
    rw [die_modDie_same _ _ (by simpa [beginStage] using hl), ranStage, die_begun hl, hs]
  simp only [stage1Scanned, hd, decide_true, Bool.and_self, if_true]
  exact (touches_scanReel 0 _).agrees .ptStarted (by decide)
/-- STAGE_RUN of S1 on a die that may run it. -/
theorem stageRun1_runs (dt : Nat) {d : Nat} (f : StageFindings) {s : State} (hd : d < s.variant.dies) (hs : (die s d).status = 1)
    (h0 : (die s d).stage = 0) (hn : (die s d).stageDone = true) (hr : (die s d).fastReset = false) :
    execStageRun dt d 1 f s = .next (runStage1 d f (elapse dt s)) := by
  have hg : ¬ (elapse dt s).variant.dies ≤ d := not_le.mpr hd
  have hx : die (elapse dt s) d = die s d := rfl
  simp only [execStageRun, hx, h0, hs, hn, hr]
  rw [if_neg hg]
  rfl
theorem runStage1_spec {d : Nat} (f : StageFindings) {s : State} (hl : d < s.dies.length) :
    (die (runStage1 d f s) d).stage = 1 ∧ (die (runStage1 d f s) d).stageRan = true ∧
      (die (runStage1 d f s) d).stageDone = false ∧ (die (runStage1 d f s) d).endMark = 0 ∧
      (die (runStage1 d f s) d).markRead = (die s d).endMark ∧ (die (runStage1 d f s) d).testResults = [] ∧
      (d = 0 → (die s 0).anchorSel = true → (runStage1 d f s).ptStarted = true) := by
  have h1 := (touches_stage1Scanned d s).die_stages (by decide) d
  have hl1 : d < (stage1Scanned d s).dies.length := by
    rw [(touches_stage1Scanned d s).dies_length (by decide)]
    simpa [beginStage] using hl
  have h2 := (touches_runStage1 d f s).die_stages (by decide) d
  rw [die_modDie_same _ _ (by simpa [beginStage] using hl), ranStage, die_begun hl] at h1
  rw [die_modDie_same _ _ hl1, readEndMark] at h2
  simp only [Die.stages, Prod.mk.injEq] at h1 h2
  obtain ⟨hstage, hran, hdone, -, -, hmark, -, -⟩ := h1
  obtain ⟨gstage, gran, gdone, -, -, gmark, gread, gtest⟩ := h2
  exact ⟨gstage.trans hstage, gran.trans hran, gdone.trans hdone, gmark, gread.trans hmark, gtest, fun h0 hs => by
    subst h0
    exact Eq.trans ((touches_runStage1 0 f s).agrees .ptStarted (by decide)) (stage1Scanned_ptStarted hl hs)⟩

/-! ### S2 (R54, R70, R94, R347, R370) -/

theorem serveRequests_of_none {d : Nat} {s : State} (h : ∀ r ∈ s.requests, r.1 / 256 ≠ d) : serveRequests d s = s := by
  have mine : (s.requests.filter fun x => x.1 / 256 = d) = [] := List.filter_eq_nil_iff.mpr fun r hr => by simpa using h r hr
  have rest : (s.requests.filter fun x => x.1 / 256 ≠ d) = s.requests :=
    List.filter_eq_self.mpr fun r hr => by simpa using h r hr
  simp only [serveRequests, mine, rest, List.foldl_nil]

/-- What S2 finds changes neither the sequencer nor the run number. -/
theorem touches_takeFindings2 (d : Nat) (f : StageFindings) (s : State) :
    Touches [.drafts, .keepers, .dies, .fields, .units, .startKind, .screens, .objs] s (takeFindings d 2 f s) := by
  have fails (p : Nat) (s : State) : Touches [.drafts, .dies, .keepers] s (failUnit d 2 p s) :=
    .mono (by decide) <| .trans (touches_modKeeper ..) <| touches_noteDetail ..
  exact .mono (by decide) <| .trans (touches_fallBack ..) <| .trans (.foldl (fun _ _ => touches_markUnit ..) _ _) <|
    .trans (.foldl (fun _ _ => fails ..) _ _) <| .trans (.foldl (fun _ _ => touches_anomaly ..) _ _) <|
    .trans (.ite (fun _ => touches_modDie _ _ _ fun _ => by rfl) fun _ => .refl) <|
    .ite (fun _ => .refl) fun _ => touches_noteDetail ..

/-- The start of S2: the Anchor's die takes its copy, another die its offset. -/
def stage2Started (d : Nat) (f : StageFindings) (s : State) : State :=
  if d = s.anchorDie then anchorStage2 d (f.detail = 4) s else applyOffset (f.failed.any fun p => p.toNat = diePua d) d s
theorem touches_stage2Started (d : Nat) (f : StageFindings) (s : State) :
    Touches [.drafts, .tallies, .keepers, .seqr, .dies, .zports, .images, .imageInUse, .imageFallback, .trialReached,
      .retained, .startKind, .keys, .kept, .keptB, .undefinedCases, .objs, .free] s (stage2Started d f s) :=
  .mono (by decide) <| .ite (fun _ => touches_anchorStage2 ..) fun _ => touches_applyOffset ..
/-- What S2 may change between its start and the dictionary. -/
def beforeDictionary : List Part :=
  [.drafts, .keepers, .dies, .fields, .units, .startKind, .screens, .objs, .free]
/-- A die whose dictionary is present. -/
def withDictionary (x : Die) : Die := { x with dictionary := true }

theorem runStage2_completes (d : Nat) (f : StageFindings) (s : State) (h : ∀ r ∈ s.requests, r.1 / 256 ≠ d) : ∃ a,
    Touches beforeDictionary (stage2Started d f s) a ∧ Touches [.ports, .output] (modDie d withDictionary a) (runStage2 d f s) := by
  have started : (stage2Started d f s).requests = s.requests := (touches_stage2Started d f s).agrees .requests (by decide)
  have finish (a b : State) (ha : Touches beforeDictionary (stage2Started d f s) a)
      (hb : Touches [.ports, .output] (modDie d withDictionary a) b) : ∃ a, Touches beforeDictionary (stage2Started d f s) a ∧
      Touches [.ports, .output] (modDie d withDictionary a) (serveRequests d b) := by
    have hr : b.requests = s.requests :=
      Eq.trans (hb.agrees .requests (by decide)) (Eq.trans (ha.agrees .requests (by decide)) started)
    exact ⟨a, ha, by rwa [serveRequests_of_none (hr ▸ h)]⟩
  unfold runStage2
  refine finish _ _ (.mono (by decide) <|
    .trans (.foldl (fun _ _ => .trans (touches_applyOffset ..) <| touches_measureLeaves ..) _ _) <|
    .trans (touches_modDie _ _ _ fun _ => by rfl) <| .trans (touches_modDie _ _ _ fun _ => by rfl) <|
    .trans (touches_modReel ..) <| .trans (touches_modDraft ..) <| touches_takeFindings2 ..) (.mono (by decide) <|
    .trans (.foldl (fun _ _ => touches_modPort ..) _ _) <|
    .ite (fun _ => .trans (touches_bootUp ..) <| touches_bootUp ..) fun _ => .refl)

/-- What the choice of the copy and of the resume position reads of a die. -/
def Die.copyView (x : Die) : Nat × PackageCopy × Reel := (x.status, x.copy, x.reel)
theorem map_filter_congr {α β γ : Type} {g : α → β} {l r : List α} (h : l.map g = r.map g) (p : β → Bool) (q : β → γ) :
    (l.filter fun x => p (g x)).map (fun x => q (g x)) = (r.filter fun x => p (g x)).map fun x => q (g x) := by
  have push (l : List α) : (l.filter fun x => p (g x)).map (fun x => q (g x)) = ((l.map g).filter p).map q := by
    rw [List.filter_map, List.map_map]
    rfl
  rw [push, push, h]
theorem bestCopy_congr {s t : State} (hv : t.variant = s.variant) (h : t.dies.map Die.copyView = s.dies.map Die.copyView) :
    bestCopy t = bestCopy s := by
  have hd : ((dieIdxs t).map (die t)).map Die.copyView = ((dieIdxs s).map (die s)).map Die.copyView := by
    simp only [dieIdxs, hv, List.map_map]
    exact List.map_congr_left fun d _ => getD_congr_map h d _
  exact congrArg (List.foldl _ _) (map_filter_congr hd (fun v => v.1 = 1 && v.2.1.valid) fun v => v.2.1)
/-- What the resume position reads of a die. -/
def Die.reelView (x : Die) : Nat × Reel := (x.status, x.reel)
theorem resumePosition_congr {s t : State} (hc : t.seqr.checkpoint = s.seqr.checkpoint)
    (h : t.dies.map Die.reelView = s.dies.map Die.reelView) : resumePosition t = resumePosition s := by
  have := map_filter_congr h (fun v => v.1 = 1) fun v => lastPosition v.2 + 1
  simp only [resumePosition, hc]
  exact congrArg _ this
theorem map_reelView_loadCopy (c : PackageCopy) (s : State) :
    (loadCopy c s).dies.map Die.reelView = s.dies.map Die.reelView :=
  map_map_of_eq (g := Die.reelView) (fun _ => by split <;> rfl) _
theorem resumePosition_loadCopy_ranStage (d : Nat) (c : PackageCopy) (s : State) :
    resumePosition (loadCopy c (modDie d ranStage s)) = resumePosition (loadCopy c s) :=
  resumePosition_congr rfl <| calc
    _ = (modDie d ranStage s).dies.map Die.reelView := map_reelView_loadCopy ..
    _ = s.dies.map Die.reelView := map_modify_of_eq (f := ranStage) (g := Die.reelView) (fun _ => rfl) _ _
    _ = _ := (map_reelView_loadCopy ..).symm
/-- The Anchor's die selects copy `c` at S2: numbering resumes, held, and the run number goes on (R94, R371). -/
theorem anchorSelected_spec (c : PackageCopy) (s : State) :
    (anchorSelected c s).seqr.next = resumePosition (loadCopy c s) ∧ (anchorSelected c s).seqr.held = true ∧
      obj (anchorSelected c s) (key 0x2101 0) 0 = (obj (loadCopy c s) (key 0x2101 0) 0 + 1) % 2 ^ 32 := by
  have hj : Touches [.undefinedCases] (loadCopy c s) (judgePolicy (loadCopy c s)) := touches_judgePolicy _
  have hr : resumePosition (judgePolicy (loadCopy c s)) = resumePosition (loadCopy c s) :=
    resumePosition_congr (congrArg _ (hj.agrees .seqr (by decide))) (congrArg _ (hj.agrees .dies (by decide)))
  have ho : obj (judgePolicy (loadCopy c s)) = obj (loadCopy c s) := funext fun _ => funext fun _ =>
    congrArg (fun o => tgetD o _ _) (hj.agrees .objs (by decide))
  let run := (obj (judgePolicy (loadCopy c s)) (key 0x2101 0) 0 + 1) % 2 ^ 32
  let chosen := setObj (key 0x2101 0) run (judgePolicy (loadCopy c s))
  have hs : (selectImage chosen).objs = chosen.objs := (touches_selectImage chosen).agrees .objs (by decide)
  refine ⟨hr, rfl, ?_⟩
  calc obj (anchorSelected c s) (key 0x2101 0) 0 = tgetD (selectImage chosen).objs (key 0x2101 0) 0 := rfl
    _ = obj chosen (key 0x2101 0) 0 := by rw [hs]; rfl
    _ = run := obj_setObj_same ..
    _ = _ := by rw [← ho]
/-- S2 of the Anchor's die with a usable copy selects it. -/
theorem stage2Started_selects {d : Nat} {f : StageFindings} {s : State} {c : PackageCopy} (hd : d = s.anchorDie)
    (hf : f.detail ≠ 4) (hc : bestCopy s = some c) :
    stage2Started d f (modDie d ranStage s) = anchorSelected c (modDie d ranStage s) := by
  have hv : (modDie d ranStage s).dies.map Die.copyView = s.dies.map Die.copyView :=
    map_modify_of_eq (f := ranStage) (fun _ => rfl) _ _
  have hb : bestCopy (modDie d ranStage s) = some c := by rw [bestCopy_congr (s := s) (t := modDie d ranStage s) rfl hv, hc]
  have ha : d = (modDie d ranStage s).anchorDie := hd
  simp only [stage2Started, if_pos ha, anchorStage2, decide_eq_false hf, hb, Bool.false_eq_true, if_false]

/-! ### The stages from S2 on (R347) -/

/-- What running a stage from S3 on may change. -/
def stageParts : List Part := [.dram, .images, .imageInUse, .imageFallback, .trialReached] ++ findingParts
theorem touches_runStage {n : Nat} (d : Nat) (f : StageFindings) (s : State) (hn : n ≠ 2) :
    Touches stageParts (modDie d ranStage s) (runStage d n f s) := by
  unfold runStage
  dsimp only
  split
  case h_1 => contradiction
  case h_2 => exact .mono (by decide) <| touches_runStage3 ..
  case h_3 => exact .mono (by decide) <| touches_runStage5 ..
  case h_4 => exact .mono (by decide) <| .trans (touches_takeFindings ..) <| touches_update [.units] (by rfl)
  case h_5 =>
    exact .mono (by decide) <| .trans (touches_modDie _ d _ fun _ => by rfl) <| .trans (touches_leaveOutLanes ..) <|
      touches_takeFindings ..
  case h_6 => exact .mono (by decide) <| touches_runStage7 ..
  case h_7 => exact .mono (by decide) <| touches_runStage8 ..
  case h_8 => exact .mono (by decide) <| touches_takeFindings ..
/-- S2 on its die: the die has run the stage and has its dictionary. -/
theorem runStage2_stages {d : Nat} (f : StageFindings) {s : State} (hl : d < s.dies.length)
    (hq : ∀ r ∈ s.requests, r.1 / 256 ≠ d) :
    (die (runStage2 d f s) d).stage = (die s d).stage ∧ (die (runStage2 d f s) d).stageRan = (die s d).stageRan ∧
      (die (runStage2 d f s) d).dictionary = true := by
  obtain ⟨a, ha, ht⟩ := runStage2_completes d f s hq
  have h1 := (touches_stage2Started d f s).trans ha
  have h2 := h1.die_stages (by decide) d
  have h3 := ht.die_stages (by decide) d
  rw [die_modDie_same _ _ (by rwa [h1.dies_length (by decide)]), withDictionary] at h3
  simp only [Die.stages, Prod.mk.injEq] at h2 h3
  obtain ⟨hstage, hran, -⟩ := h2
  obtain ⟨gstage, gran, -, -, gdict, -⟩ := h3
  exact ⟨gstage.trans hstage, gran.trans hran, gdict⟩
/-- A stage from S2 on runs on its die; S2 brings the dictionary. -/
theorem runStage_stages {d n : Nat} (f : StageFindings) {s : State} (hl : d < s.dies.length)
    (hq : ∀ r ∈ s.requests, r.1 / 256 ≠ d) :
    (die (runStage d n f s) d).stage = (die s d).stage ∧ (die (runStage d n f s) d).stageRan = true ∧
      (n = 2 → (die (runStage d n f s) d).dictionary = true) := by
  have hx : die (modDie d ranStage s) d = ranStage (die s d) := die_modDie_same _ _ hl
  by_cases hn : n = 2
  · subst hn
    obtain ⟨hstage, hran, hdict⟩ := runStage2_stages f (s := modDie d ranStage s) (by simpa using hl) hq
    rw [hx] at hstage hran
    exact ⟨hstage, hran, fun _ => hdict⟩
  · have h := (touches_runStage d f s hn).die_stages (by decide) d
    rw [hx] at h
    simp only [Die.stages, Prod.mk.injEq] at h
    obtain ⟨hstage, hran, -⟩ := h
    exact ⟨hstage, hran, fun h2 => absurd h2 hn⟩
/-- S2 of the Anchor's die takes the copy, the run number after its own and the resume position. -/
theorem runStage2_resumes {d : Nat} {f : StageFindings} {s : State} {c : PackageCopy} (hd : d = s.anchorDie)
    (hf : f.detail ≠ 4) (hc : bestCopy s = some c) (hq : ∀ r ∈ s.requests, r.1 / 256 ≠ d) :
    (runStage d 2 f s).seqr.next = resumePosition (loadCopy c s) ∧ (runStage d 2 f s).seqr.held = true ∧
      obj (runStage d 2 f s) (key 0x2101 0) 0 = (obj (loadCopy c s) (key 0x2101 0) 0 + 1) % 2 ^ 32 := by
  obtain ⟨a, ha, ht⟩ := runStage2_completes d f (modDie d ranStage s) hq
  rw [stage2Started_selects hd hf hc] at ha
  have h := ha.trans ((touches_modDie_any a d withDictionary).trans ht)
  have hs : (runStage d 2 f s).seqr = (anchorSelected c (modDie d ranStage s)).seqr := h.agrees .seqr (by decide)
  have ho := h.agrees .tallies (by decide) (key 0x2101 0) (by decide)
  obtain ⟨hnext, hheld, hrun⟩ := anchorSelected_spec c (modDie d ranStage s)
  rw [hs]
  exact ⟨hnext.trans (resumePosition_loadCopy_ranStage ..), hheld, ho.trans hrun⟩
/-- STAGE_RUN from S2 on, on a die that may run the stage. -/
theorem stageRun_runs (dt : Nat) {d n : Nat} (f : StageFindings) {s : State} (hd : d < s.variant.dies) (hs : (die s d).status = 1)
    (hn : (die s d).stage = n) (h2 : 2 ≤ n) (hran : (die s d).stageRan = false) (hr : (die s d).fastReset = false)
    (ha : n ≠ 2 ∨ d = s.anchorDie ∨ (die s s.anchorDie).stageRan = true ∨ 2 < (die s s.anchorDie).stage) :
    execStageRun dt d n f s = .next (runStage d n f (elapse dt s)) := by
  have hg : ¬ (elapse dt s).variant.dies ≤ d := not_le.mpr hd
  have hx : ∀ x, die (elapse dt s) x = die s x := fun _ => rfl
  obtain ⟨m, rfl⟩ := Nat.exists_eq_add_of_le' h2
  simp only [execStageRun, hx, hs, hn, hran, hr]
  rw [if_neg hg, if_pos]
  · rfl
  · simp only [Bool.and_true, Bool.not_false, decide_true, Bool.true_and, Bool.or_eq_true, decide_eq_true_eq, or_assoc]
    exact ha

/-! ### The end of a stage (R351, R352, R355) -/

/-- What the end of a stage may change before its report. -/
def stageEndParts : List Part := .ripcord :: fencingParts ++ bindingParts
/-- A die whose stage `n` has ended with report `r` and event `e`. -/
def withReport (n : Nat) (r : StageReport) (e : Event) (x : Die) : Die := { x with
  reports := tset x.reports n r, stageDone := true, waiting := if n ≤ 2 then x.waiting ++ [e] else x.waiting }
/-- The end of a stage writes one report, with the units of the stage. -/
theorem endStage_reports (d n : Nat) (s : State) : ∃ a r e, Touches stageEndParts s a ∧ r.expected = stageUnits n ∧
    Touches [.anchorReady, .seqr, .dies, .clusters, .commits] (modDie d (withReport n r e) a) (endStage d n s) := by
  refine ⟨_, _, _, ?_, ?_, .mono (by decide) <| .trans (.ite (fun _ => .refl) fun _ => touches_raiseLocal ..) <|
    .trans (touches_raiseReady ..) <| touches_checkNumbers ..⟩
  · exact .mono (by decide) <| .trans (touches_missingAtEnd ..) <| .trans (touches_startBindings ..) <|
      .trans (touches_stageSpecial ..) <| .ite (fun _ => touches_failStage ..) fun _ => .refl
  · rfl
theorem endStage_spec {d n : Nat} (f : StageFindings) {s : State} (hl : d < s.dies.length) : ∃ r,
    (die (endStage d n (takeFindings d n f s)) d).stageDone = true ∧
      tget (die (endStage d n (takeFindings d n f s)) d).reports n = some r ∧ r.expected = stageUnits n := by
  obtain ⟨a, r, e, ha, hr, ht⟩ := endStage_reports d n (takeFindings d n f s)
  have hs := (touches_takeFindings d n f s).trans ha
  have h := ht.die_stages (by decide) d
  rw [die_modDie_same _ _ (by rwa [hs.dies_length (by decide)]), withReport] at h
  simp only [Die.stages, Prod.mk.injEq] at h
  obtain ⟨-, -, hdone, hreports, -⟩ := h
  exact ⟨r, hdone, by rw [hreports, tget_tset_same], hr⟩
/-- STAGE_COMPLETE of a stage that may end. -/
theorem stageComplete_ends (dt : Nat) {d n : Nat} (f : StageFindings) {s : State} (hd : d < s.variant.dies)
    (hs : (die s d).status = 1) (hn : (die s d).stage = n) (hran : (die s d).stageRan = true)
    (hdone : (die s d).stageDone = false) (he : stageEnds s d n = true) :
    execStageComplete dt d n f s = .next (endStage d n (takeFindings d n f (elapse dt s))) := by
  have hx : die (elapse dt s) d = die s d := rfl
  have hv : ¬ s.variant.dies ≤ d := not_le.mpr hd
  have he' : stageEnds (elapse dt s) d n = true := he
  simp [execStageComplete, hx, hv, hs, hn, hran, hdone, he', done]
/-- STAGE_COMPLETE of a stage that may not end, S3 apart. -/
theorem stageComplete_waits (dt : Nat) {d n : Nat} (f : StageFindings) {s : State} (he : stageEnds s d n = false) (hn : n ≠ 3) :
    execStageComplete dt d n f s = .next (elapse dt s) := by
  have he' : stageEnds (elapse dt s) d n = false := he
  simp [execStageComplete, he', hn, done]

/-! ### The next stage (R347) -/

/-- The alert of a thermal cause, released (R331). -/
def alertFree (n d : Nat) (s : State) : State :=
  if n = 1 then modThermal d (fun x => { x with alertHeld := false, alert := decide (0 < x.state) }) s else s
/-- The next stage of one die. -/
def advanceDie (n : Nat) (s : State) (d : Nat) : State := beginStage d (n + 1) (alertFree n d s)

theorem touches_advanceDie (n d : Nat) (s : State) : Touches [.stages, .drafts, .dies] s (advanceDie n s d) :=
  .mono (by decide) <| .trans (.ite (fun _ => touches_modThermal ..) fun _ => .refl) <| touches_beginStage ..
theorem length_dies_alertFree (n d : Nat) (s : State) : (alertFree n d s).dies.length = s.dies.length := by
  unfold alertFree
  split <;> simp [modThermal]
theorem die_advanceDie_same {n d : Nat} {s : State} (hl : d < s.dies.length) :
    (die (advanceDie n s d) d).stage = n + 1 ∧ (die (advanceDie n s d) d).stageRan = false ∧
      (die (advanceDie n s d) d).stageDone = false ∧ (die (advanceDie n s d) d).stageStart = s.now := by
  rw [advanceDie, die_begun (by rwa [length_dies_alertFree])]
  refine ⟨rfl, rfl, rfl, ?_⟩
  simp only [alertFree]
  split <;> rfl
theorem die_advanceDie_ne {n d e : Nat} {s : State} (h : e ≠ d) : die (advanceDie n s d) e = die s e := by
  rw [advanceDie, beginStage, die_modDie_ne _ _ h, alertFree]
  split
  · exact die_modDie_ne _ _ h
  · rfl

theorem length_dies_advanceDie (n d : Nat) (s : State) : (advanceDie n s d).dies.length = s.dies.length := by
  simp [advanceDie, beginStage, length_dies_alertFree]
theorem die_foldl_advanceDie_ne {n d : Nat} {l : List Nat} {s : State} (h : d ∉ l) :
    die (l.foldl (advanceDie n) s) d = die s d := by
  induction l generalizing s with
  | nil => rfl
  | cons a r ih => rw [List.foldl_cons, ih (List.not_mem_of_not_mem_cons h), die_advanceDie_ne (List.ne_of_not_mem_cons h)]
theorem die_foldl_advanceDie_mem {n d : Nat} {l : List Nat} {s : State} (h : d ∈ l) (hl : d < s.dies.length) :
    (die (l.foldl (advanceDie n) s) d).stage = n + 1 ∧ (die (l.foldl (advanceDie n) s) d).stageRan = false ∧
      (die (l.foldl (advanceDie n) s) d).stageDone = false ∧ (die (l.foldl (advanceDie n) s) d).stageStart = s.now := by
  induction l generalizing s with
  | nil => cases h
  | cons a r ih =>
    by_cases hr : d ∈ r
    · have hnow : (advanceDie n s a).now = s.now := (touches_advanceDie n a s).agrees .now (by decide)
      exact hnow ▸ ih hr (by rwa [length_dies_advanceDie])
    · obtain rfl : d = a := (List.mem_cons.mp h).resolve_right hr
      rw [List.foldl_cons, die_foldl_advanceDie_ne hr]
      exact die_advanceDie_same hl
/-- STAGE_ADVANCE when every die in service has ended stage `n`. -/
theorem stageAdvance_runs (dt : Nat) {n : Nat} {s : State} {live : List Nat}
    (hlive : live = (dieIdxs s).filter fun d => (die s d).status = 1) (hp : s.ptStarted = true) (ha : s.anchorReady = true ∨ s.anchorDie = 1) (hne : live ≠ []) (h1 : 1 ≤ n) (h8 : n < 8)
    (hd : ∀ d ∈ live, (die s d).stage = n ∧ (die s d).stageDone = true) :
    execStageAdvance dt s = .next (live.foldl (advanceDie n) (elapse dt s)) := by
  have hn : (die s (live.headD 0)).stage = n := by
    obtain ⟨a, r, rfl⟩ := List.exists_cons_of_ne_nil hne
    exact (hd a List.mem_cons_self).1
  have hall : (live.any fun d => decide ((die s d).stage ≠ n) || !(die s d).stageDone) = false :=
    List.any_eq_false.mpr fun d hm => by simp [hd d hm]
  have hanchor : (s.anchorReady || decide (s.anchorDie = 1)) = true := by simpa using ha
  have h0 : n ≠ 0 := Nat.one_le_iff_ne_zero.mp h1
  have hc : ¬ (!(s.ptStarted && (s.anchorReady || decide (s.anchorDie = 1))) || live.isEmpty || decide (n = 0) ||
      decide (8 ≤ n) || live.any fun d => decide ((die s d).stage ≠ n) || !(die s d).stageDone) = true := by
    rw [hall, hanchor, hp]
    simp [hne, h0, h8]
  subst hn hlive
  exact congrArg done (if_neg hc)

/-! ### The Anchor-ready timeout (R54, R355) -/

theorem pt_startPt {s : State} (hr : s.reference = true) :
    (keeper (startPt 1 s) 1).running = true ∧ keeperRead (startPt 1 s) 1 = 0 := by
  have hk : keeper (startPt 1 s) 1 = { Keeper.reset with
      since := s.now, running := s.reference, rate := if s.reference then 1000000 else 0, coarse := !s.reference,
      applied := true } := by
    simp [keeper, startPt, modKeeper, tgetD_tmod_same]
  have hnow : (startPt 1 s).now = s.now := rfl
  rw [keeperRead, hk, hr, hnow]
  refine ⟨rfl, ?_⟩
  simp [Keeper.read, Keeper.reset]
/-- What CD1 does when it takes the role at the start. -/
def anchorReadyParts : List Part := [.stages, .drafts, .ptStarted, .anchorDie, .standby, .takenOver, .keepers, .dies]
/-- ANCHOR_READY_TIMEOUT: CD1 takes the role and starts the package time; at most the records of its die change after that. -/
theorem anchorReadyTimeout_takes (dt : Nat) {s : State} (hv : s.variant = .dh100) (ha : s.anchorReady = false)
    (h1 : s.anchorDie ≠ 1) (hs : (die s 1).status = 1) (hn : (die s 1).stage = 1) (ht : (die s 1).leftS0 + 500000000 ≤ s.now + dt) :
    ∃ t, execAnchorReadyTimeout dt s = .next t ∧
      Touches [.stages, .drafts, .dies] (anchorAtStart 2 (startPt 1 (elapse dt s))) t := by
  have hc : ¬ (decide (s.variant = .dh25) || s.anchorReady || decide (s.anchorDie = 1) || decide ((die s 1).status ≠ 1) ||
      decide ((die s 1).stage ≠ 1) || decide (s.now + dt < (die s 1).leftS0 + 500000000)) = true := by
    simp [hv, ha, h1, hs, hn, ht]
  exact ⟨_, congrArg done (if_neg hc),
    .mono (by decide) <| .ite (fun _ => .refl) fun _ => .trans (touches_modDie_any ..) <| touches_modDie_any ..⟩

theorem anchorReadyTimeout_spec (dt : Nat) {s : State} (hv : s.variant = .dh100) (hr : s.reference = true)
    (ha : s.anchorReady = false) (h1 : s.anchorDie ≠ 1) (hs : (die s 1).status = 1) (hn : (die s 1).stage = 1)
    (ht : (die s 1).leftS0 + 500000000 ≤ s.now + dt) :
    ∃ t, execAnchorReadyTimeout dt s = .next t ∧ t.anchorDie = 1 ∧ t.standby = false ∧ t.ptStarted = true ∧
      (keeper t 1).running = true ∧ pt t = 0 ∧ Touches anchorReadyParts (elapse dt s) t := by
  obtain ⟨t, hexec, h⟩ := anchorReadyTimeout_takes dt hv ha h1 hs hn ht
  have hdie : t.anchorDie = 1 := h.agrees .anchorDie (by decide)
  have hkeepers : t.keepers = (startPt 1 (elapse dt s)).keepers := h.agrees .keepers (by decide)
  have hnow : t.now = (startPt 1 (elapse dt s)).now := h.agrees .now (by decide)
  have hk : keeper t 1 = keeper (startPt 1 (elapse dt s)) 1 := congrArg (fun l => tgetD l 1 Keeper.reset) hkeepers
  obtain ⟨hrun, hread⟩ := pt_startPt (s := elapse dt s) hr
  refine ⟨t, hexec, hdie, h.agrees .standby (by decide), h.agrees .ptStarted (by decide), hk ▸ hrun, ?_,
    .mono (by decide) <| .trans (touches_startPt ..) <| .trans (touches_anchorAtStart ..) h⟩
  rw [pt, hdie, keeperRead, hk, hnow]
  exact hread

/-! ### A stage out of time (R352, R370) -/

/-- A die keeps the result bits that its report has. -/
theorem testBit_flagDraft {d : Nat} (e bit : Nat) {s : State} {i : Nat} (h : (die s d).draft.result.testBit i = true) :
    (die (flagDraft e bit s) d).draft.result.testBit i = true := by
  rw [flagDraft, modDraft, die_modDie]
  split
  · simp [h]
  · exact h
theorem testBit_flagDraft_same {d : Nat} (bit : Nat) {s : State} (hl : d < s.dies.length) :
    (die (flagDraft d bit s) d).draft.result.testBit bit = true := by
  rw [flagDraft, modDraft, die_modDie_same _ _ hl]
  simp
/-- A detail leaves the result of a report. -/
theorem touches_noteDetail_result (d c : Nat) (unit : Option Nat) (s : State) : Touches [.dies] s (noteDetail d c unit s) :=
  touches_modDie _ _ _ fun _ => by rfl
/-- A field whose rail goes off, with what follows from it. -/
theorem railOff_sets (f p : Nat) (s : State) : ∃ a g,
    Touches [.fields, .clusters, .output] s a ∧ (∀ x : Field, (g x).power = p) ∧
    Touches [.keepers] (modField f g a) (railOff f p s) :=
  ⟨_, _, .mono (by decide) <|
    .trans (.ite (fun _ => .refl) fun _ => .foldl (fun _ _ => touches_modField _ _ _ fun _ => by rfl) _ _) <|
    .trans (touches_holdField ..) <| touches_emit .., fun _ => rfl, touches_stopKeeper ..⟩
theorem lt_length_of_power {s : State} {f : Nat} (h : (field s f).power = 1) : f < s.fields.length := by
  by_contra hf
  rw [field, List.getD_eq_default _ _ (not_lt.mp hf)] at h
  cases h
theorem power_railOff_same {s : State} {f : Nat} (p : Nat) (h : (field s f).power = 1) : (field (railOff f p s) f).power = p := by
  obtain ⟨a, g, ha, hg, ht⟩ := railOff_sets f p s
  have hf := lt_length_of_power ((ha.field_power (by decide) f).trans h)
  rw [ht.field_power (by decide), field_modField_same _ _ hf, hg]
theorem power_railOff_ne {s : State} {f i : Nat} (p : Nat) (h : i ≠ f) :
    (field (railOff f p s) i).power = (field s i).power := by
  obtain ⟨a, g, ha, -, ht⟩ := railOff_sets f p s
  rw [ht.field_power (by decide), field_modField_ne _ _ h, ha.field_power (by decide)]
/-- After its rail, a field that is left off changes stacks, commits and the report only. -/
theorem touches_leftOff (f : Nat) {s : State} (h : (field s f).power = 1) :
    Touches [.drafts, .dies, .unreachable, .clusters, .commits, .nextCommit, .objs] (railOff f 3 s) (leaveOff f s) := by
  rw [leaveOff, if_neg (by rw [h]; decide)]
  exact .mono (by decide) <| .trans (touches_checkStacks ..) <| touches_flagDraft ..

/-- What S3 does with a field at its limit: one that still ramps is left off. -/
def limitStep (d : Nat) (s : State) (f : Nat) : State :=
  if (field s f).power = 1 then noteDetail d 3 (some (agentPua f)) (leaveOff f s) else s
/-- What S3 at its limit may change. -/
def limitParts : List Part :=
  [.drafts, .powers, .keepers, .dies, .fields, .unreachable, .clusters, .commits, .nextCommit, .objs, .output]

theorem touches_limitStep (d f : Nat) (s : State) : Touches limitParts s (limitStep d s f) :=
  .mono (by decide) <| .ite (fun _ => .trans (touches_leaveOff ..) <| touches_noteDetail ..) fun _ => .refl
theorem power_limitStep_same {d f : Nat} {s : State} (h : (field s f).power = 1) : (field (limitStep d s f) f).power = 3 := by
  rw [limitStep, if_pos h, (touches_noteDetail ..).field_power (by decide), (touches_leftOff f h).field_power (by decide),
    power_railOff_same 3 h]
theorem power_limitStep_ne {d f i : Nat} {s : State} (hi : i ≠ f) : (field (limitStep d s f) i).power = (field s i).power := by
  by_cases h : (field s f).power = 1
  · rw [limitStep, if_pos h, (touches_noteDetail ..).field_power (by decide), (touches_leftOff f h).field_power (by decide),
      power_railOff_ne 3 hi]
  · rw [limitStep, if_neg h]
theorem power_foldl_limitStep {d i : Nat} {l : List Nat} {s : State}
    (h : (field s i).power = 3 ∨ (field s i).power = 1 ∧ i ∈ l) :
    (field (l.foldl (limitStep d) s) i).power = 3 := by
  induction l generalizing s with
  | nil => exact h.elim id fun h => absurd h.2 List.not_mem_nil
  | cons f r ih =>
    refine ih ?_
    by_cases hi : i = f
    · subst hi
      left
      rcases h with h | ⟨h, -⟩
      · rwa [limitStep, if_neg (by rw [h]; decide)]
      · exact power_limitStep_same h
    · rw [power_limitStep_ne hi]
      exact h.imp_right fun ⟨hp, hm⟩ => ⟨hp, (List.mem_cons.mp hm).resolve_left hi⟩
theorem testBit_limitStep {d e f i : Nat} {s : State} (h : (die s d).draft.result.testBit i = true) :
    (die (limitStep e s f) d).draft.result.testBit i = true := by
  unfold limitStep leaveOff
  split
  · rw [(touches_noteDetail_result ..).draft_result (by decide)]
    split
    · exact h
    · refine testBit_flagDraft _ _ ?_
      rwa [(touches_checkStacks ..).draft_result (by decide), (touches_railOff ..).draft_result (by decide)]
  · exact h
theorem testBit_foldl_limitStep {d e i : Nat} {l : List Nat} {s : State} (h : (die s d).draft.result.testBit i = true) :
    (die (l.foldl (limitStep e) s) d).draft.result.testBit i = true := by
  induction l generalizing s with
  | nil => exact h
  | cons f r ih => exact ih (testBit_limitStep h)

/-- STAGE_LIMIT_EXPIRY of a stage whose limit has passed. -/
theorem stageLimitExpiry_runs (dt : Nat) {d n : Nat} {s : State} (hs : (die s d).status = 1) (hn : (die s d).stage = n)
    (hran : (die s d).stageRan = true) (hdone : (die s d).stageDone = false) (h1 : 1 ≤ n) (h8 : n < 8)
    (ht : (die s d).stageStart + stageLimit s d ≤ s.now + dt) :
    execStageLimitExpiry dt d n s = .next (if n ≠ 3 then flagDraft d 4 (elapse dt s) else
      ((List.range 6).map (d * 6 + ·)).foldl (limitStep d) (flagDraft d 4 (elapse dt s))) := by
  have h0 : n ≠ 0 := Nat.one_le_iff_ne_zero.mp h1
  have hc : ¬ (decide ((die s d).status ≠ 1) || decide ((die s d).stage ≠ n) || !(die s d).stageRan || (die s d).stageDone ||
      decide (n = 0) || decide (8 ≤ n) || decide (s.now + dt < (die s d).stageStart + stageLimit s d)) = true := by
    simp [hs, hn, hran, hdone, h0, h8, ht]
  exact congrArg done (if_neg hc)
theorem stageLimitExpiry_spec (dt : Nat) {d n : Nat} {s : State} (hs : (die s d).status = 1) (hn : (die s d).stage = n)
    (hran : (die s d).stageRan = true) (hdone : (die s d).stageDone = false) (h1 : 1 ≤ n) (h8 : n < 8)
    (ht : (die s d).stageStart + stageLimit s d ≤ s.now + dt) (hl : d < s.dies.length) :
    ∃ t, execStageLimitExpiry dt d n s = .next t ∧ (die t d).draft.result.testBit 4 = true ∧
      (n ≠ 3 → Touches [.drafts, .dies] (elapse dt s) t) ∧
      (n = 3 → ∀ i < 6, (field s (d * 6 + i)).power = 1 → (field t (d * 6 + i)).power = 3) ∧
      Touches limitParts (elapse dt s) t := by
  refine ⟨_, stageLimitExpiry_runs dt hs hn hran hdone h1 h8 ht, ?_⟩
  have hbit : (die (flagDraft d 4 (elapse dt s)) d).draft.result.testBit 4 = true := testBit_flagDraft_same 4 hl
  have hflag := touches_flagDraft d 4 (elapse dt s)
  by_cases h3 : n = 3
  · rw [if_neg (not_not.mpr h3)]
    refine ⟨testBit_foldl_limitStep hbit, fun h => absurd h3 h, fun _ i hi hp => ?_,
      .mono (by decide) <| .trans hflag <| .foldl (fun _ _ => touches_limitStep ..) _ _⟩
    exact power_foldl_limitStep (.inr ⟨hp, List.mem_map_of_mem (List.mem_range.mpr hi)⟩)
  · rw [if_pos h3]
    exact ⟨hbit, fun _ => hflag, fun h => absurd h h3, .mono (by decide) hflag⟩

/-! ### The trial image (R9) -/

/-- TRIAL_COMMIT_TIMEOUT once the trial has run for its hour. -/
theorem trialCommitTimeout_runs (dt : Nat) {s : State} (hi : (s.images.getD s.imageInUse ⟨0, 0, []⟩).state = 1)
    (h8 : ∀ d ∈ dieIdxs s, (die s d).status ≠ 1 ∨ atS8 (die s d) = true) (hp : s.ptStarted = true)
    (ht : obj s (key 0x3408 2) (pt (elapse dt s)) + 3600000000000 ≤ pt (elapse dt s)) :
    execTrialCommitTimeout dt s = .next (commitImage (elapse dt s)) := by
  have hall : ((dieIdxs s).all fun d => decide ((die s d).status ≠ 1) || atS8 (die s d)) = true :=
    List.all_eq_true.mpr fun d hd => by simpa using h8 d hd
  have hc : (decide ((s.images.getD s.imageInUse ⟨0, 0, []⟩).state = 1) && ((dieIdxs s).all fun d =>
      decide ((die s d).status ≠ 1) || atS8 (die s d)) && s.ptStarted &&
      decide (obj s (key 0x3408 2) (pt (elapse dt s)) + 3600000000000 ≤ pt (elapse dt s))) = true := by
    rw [hall, hp, decide_eq_true hi, decide_eq_true ht]
    rfl
  exact congrArg done (if_pos hc)
/-- An image slot after the commit of a trial image. -/
def afterCommit (x : ImageSlot) : ImageSlot :=
  if x.state = 1 then { x with state := 2 } else if x.state = 2 then { x with state := 4 } else x
theorem state_afterCommit (x : ImageSlot) : (afterCommit x).state =
    match x.state with
    | 1 => 2
    | 2 => 4
    | n => n := by
  by_cases h1 : x.state = 1
  · simp [afterCommit, h1]
  · by_cases h2 : x.state = 2
    · simp [afterCommit, h2]
    · simp [afterCommit, h1, h2]
/-- A committed trial image replaces the image that was committed. -/
theorem image_commitImage (s : State) (i : Nat) : ((commitImage s).images.getD i ⟨0, 0, []⟩).state =
    match (s.images.getD i ⟨0, 0, []⟩).state with
    | 1 => 2
    | 2 => 4
    | n => n := by
  have h : (commitImage s).images.getD i ⟨0, 0, []⟩ = afterCommit (s.images.getD i ⟨0, 0, []⟩) :=
    List.getD_map (n := i) s.images ⟨0, 0, []⟩ afterCommit
  rw [h, state_afterCommit]

/-! ### The statement -/

/-- What every command keeps, of its next state. -/
theorem next_keeps {c : Instr} {s t : State} (h : exec c s = .next t) :
    t.variant = s.variant ∧ t.pending = s.pending ∧ t.now = s.now + c.dt := by
  obtain ⟨hv, hn, hp, -⟩ := ends_exec c s t h
  exact ⟨hv, hp, hn⟩

/-- Settles O40: each command is read through the lemma of its run, and what a run leaves through `Touches`. -/
theorem stagesRunAndEnd : Obligations.StagesRunAndEnd := by
  refine ⟨fun dt d f s hd hl hv hf => stageRun0_spec dt f hd hl hv hf, fun dt d f s hd hl hs h0 hn hr => ?_,
    fun dt d n f s hd hl hs hn h2 _ hran hr hq ha => ?_, fun dt d n f s hd hl hs hn hran hdone he => ?_,
    fun dt d n f s he hn => stageComplete_waits dt f he hn, fun dt n s => ?_,
    fun dt s hv hr ha h1 hs hn ht => ?_, fun dt d n s hs hn hran hdone h1 h8 ht hl => ?_, fun dt s hi h8 hp ht => ?_⟩
  · have hx := stageRun1_runs dt f hd hs h0 hn hr
    obtain ⟨hstage, hran, hdone, hmark, hread, htest, hpt⟩ := runStage1_spec f (s := elapse dt s) hl
    exact ⟨_, hx, hstage, hran, hdone, hmark, hread, htest, hpt, next_keeps (c := .stageRun dt d 1 f) hx⟩
  · have hx := stageRun_runs dt f hd hs hn h2 hran hr ha
    obtain ⟨hstage, hran', hdict⟩ := runStage_stages (n := n) f (s := elapse dt s) hl hq
    refine ⟨_, hx, hstage.trans hn, hran', hdict, fun c hn2 hda hf hc => ?_, next_keeps (c := .stageRun dt d n f) hx⟩
    subst hn2
    exact runStage2_resumes (s := elapse dt s) hda hf hc hq
  · have hx := stageComplete_ends dt f hd hs hn hran hdone he
    obtain ⟨r, hdone', hreport, hr⟩ := endStage_spec (n := n) f (s := elapse dt s) hl
    exact ⟨_, r, hx, hdone', hreport, hr, next_keeps (c := .stageComplete dt d n f) hx⟩
  · intro live hp ha hne h1 h8 hd
    have ht : Touches [.stages, .drafts, .dies] (elapse dt s) (live.foldl (advanceDie n) (elapse dt s)) :=
      .foldl (fun _ _ => touches_advanceDie ..) _ _
    exact ⟨_, stageAdvance_runs dt rfl hp ha hne h1 h8 hd, fun d hm hl => die_foldl_advanceDie_mem hm hl,
      fun d hm => die_foldl_advanceDie_ne hm, (ht.mono (S := [.stages, .drafts, .dies, .turn]) (by decide)).eq_blend⟩
  · obtain ⟨t, hexec, hdie, hstandby, hpt, hrun, h0, h⟩ := anchorReadyTimeout_spec dt hv hr ha h1 hs hn ht
    exact ⟨t, hexec, hdie, hstandby, hpt, hrun, h0, (h.mono (S := .turn :: anchorReadyParts) (by decide)).eq_blend⟩
  · obtain ⟨t, hexec, hbit, hother, hramps, h⟩ := stageLimitExpiry_spec dt hs hn hran hdone h1 h8 ht hl
    exact ⟨t, hexec, hbit, fun h3 => (hother h3).eq_blend, fun h3 i hi _ => hramps h3 i hi,
      (h.mono (S := .turn :: limitParts) (by decide)).eq_blend⟩
  · exact ⟨_, trialCommitTimeout_runs dt hi h8 hp ht, fun i _ => image_commitImage _ i, rfl⟩

end Sys2Proof.Machine
end

section
/-!
SUPPORT. The statements on sites, boxes and bridge links.
-/
namespace Sys2Proof.Machine
open Sys2Proof

/-! ### Sites and coordinates (R18, R19) -/

/-- A coordinate on the torus is that of the site that `coordSite` names. -/
theorem siteCoord_coordSite {x y : Nat} (z : Nat) (hx : x < 80) (hy : y < 60) :
    siteCoord (coordSite x y z).1 (coordSite x y z).2 = (x, y, z) := by
  simp only [siteCoord, coordSite, Prod.mk.injEq]
  omega

/-- The coordinates that R18 gives for a site by its die and field. -/
theorem siteCoord_place {d f s : Nat} (hf : f < 6) :
    siteCoord (d * 6 + f) s = (40 * (f % 2) + s % 40, 20 * (f / 2) + s / 40, d) := by
  have hd : (d * 6 + f) / 6 = d := by omega
  have hr : (d * 6 + f) % 6 = f := by omega
  simp only [siteCoord, hd, hr]

/-- The number of a home cluster counts the sites and the bays below it. -/
theorem homeOfSite_eq_countP (s : Nat) : homeOfSite s = s + (List.range s).countP fun i => siteHasBay i := by
  induction s with
  | zero => rfl
  | succ s ih =>
    rw [List.range_succ, List.countP_append]
    by_cases hs : s % 25 = 18 <;> simp [siteHasBay, homeOfSite, hs] at ih ⊢ <;> omega

theorem isBay_iff {c : Nat} : isBay c = true ↔ c % 26 = 19 := decide_eq_true_iff
theorem siteHasBay_iff {s : Nat} : siteHasBay s = true ↔ s % 25 = 18 := decide_eq_true_iff

/-- A site's home cluster is no bay, and it is the one that finds its way back to the site. -/
theorem siteOfCluster_homeOfSite (s : Nat) : isBay (homeOfSite s) = false ∧ siteOfCluster (homeOfSite s) = s := by
  have h : ¬ isBay (homeOfSite s) = true := by
    rw [isBay_iff, homeOfSite]
    omega
  refine ⟨Bool.eq_false_of_not_eq_true h, ?_⟩
  rw [siteOfCluster, if_neg h, homeOfSite]
  omega

/-- The bay of a site that hosts one. -/
theorem bay_of_site (k : Nat) : homeOfSite (25 * k + 18) + 1 = 26 * k + 19 ∧ isBay (26 * k + 19) = true ∧
    siteOfCluster (26 * k + 19) = 25 * k + 18 := by
  have h : isBay (26 * k + 19) = true := isBay_iff.mpr (by omega)
  refine ⟨?_, h, ?_⟩
  · rw [homeOfSite]
    omega
  · rw [siteOfCluster, if_pos h]
    omega

/-- A cluster's site and the place that it has there. -/
theorem siteOfCluster_spec {c : Nat} (hc : c < 832) : siteOfCluster c < 800 ∧
    (isBay c = false → homeOfSite (siteOfCluster c) = c) ∧
    (isBay c = true → siteHasBay (siteOfCluster c) = true ∧ homeOfSite (siteOfCluster c) + 1 = c) := by
  by_cases hb : isBay c = true
  · have hm := isBay_iff.mp hb
    rw [siteOfCluster, if_pos hb, siteHasBay_iff, homeOfSite]
    exact ⟨by omega, fun h => absurd hb (by simp [h]), fun _ => by omega⟩
  · have hm := mt isBay_iff.mpr hb
    rw [siteOfCluster, if_neg hb, homeOfSite]
    exact ⟨by omega, fun _ => by omega, fun h => absurd h hb⟩

/-- Settles O44: division with remainder by 40, 20, 25 and 26, and an induction that counts the bays. -/
theorem sitesAndCoordinates : Obligations.SitesAndCoordinates := by
  refine ⟨fun d f s hf hs => ?_, fun x y z hx hy => ⟨siteCoord_coordSite z hx hy, ?_⟩, homeOfSite_eq_countP, fun s hs => ?_,
    bay_of_site, siteOfCluster_homeOfSite, fun c => siteOfCluster_spec, fun s hs => ?_⟩
  · rw [siteCoord_place hf]
    simp only [coordSite, Prod.mk.injEq, true_and]
    omega
  · simp only [coordSite]
    omega
  · rw [siteHasBay_iff]
    exact ⟨fun h => ⟨s / 25, by omega, by omega⟩, fun ⟨k, _, h⟩ => by omega⟩
  · simp only [homeOfSite]
    omega

/-! ### Boxes (R33, R34) -/

/-- A place of a ring of `n` lies less than `w` steps beyond `o` exactly if one of these steps reaches it. -/
theorem ring_reach {n o x w : Nat} (ho : o < n) (hx : x < n) (hw : w ≤ n) :
    (x + n - o) % n < w ↔ ∃ i, i < w ∧ x = (o + i) % n := by
  constructor
  · intro h
    refine ⟨_, h, ?_⟩
    rw [Nat.add_mod_mod, Nat.add_sub_of_le (by omega), Nat.add_mod_right, Nat.mod_eq_of_lt hx]
  · rintro ⟨i, hi, hxi⟩
    suffices (x + n - o) % n = i by omega
    rcases Nat.lt_or_ge (o + i) n with h | h
    · rw [Nat.mod_eq_of_lt h] at hxi
      rw [hxi, show o + i + n - o = i + n by omega, Nat.add_mod_right, Nat.mod_eq_of_lt (by omega)]
    · rw [Nat.mod_eq_sub_mod h, Nat.mod_eq_of_lt (by omega)] at hxi
      rw [show x + n - o = i by omega, Nat.mod_eq_of_lt (by omega)]

/-- The slice of a router is one whose box holds it; where there is none it is 0x000. -/
theorem sliceAt_cases (s : State) (c : Nat × Nat × Nat) :
    (∃ e ∈ s.slices, e.1 = sliceAt s c ∧ e.2.life ≠ .ended ∧ inBox e.2.origin e.2.extent c = true) ∨ sliceAt s c = 0 := by
  unfold sliceAt
  split
  · next e h =>
    have hp := List.find?_some h
    simp only [Bool.and_eq_true, bne_iff_ne] at hp
    exact .inl ⟨e, List.mem_of_find?_eq_some h, rfl, hp.1, hp.2⟩
  · exact .inr rfl

/-- A router that no box holds belongs to no slice. -/
theorem sliceAt_eq_zero {s : State} {c : Nat × Nat × Nat}
    (h : ∀ e ∈ s.slices, e.2.life ≠ .ended → inBox e.2.origin e.2.extent c = false) : sliceAt s c = 0 := by
  rcases sliceAt_cases s c with ⟨e, he, -, hl, hb⟩ | h0
  · exact absurd hb (by simp [h e he hl])
  · exact h0

/-- Settles O45: each axis is a ring. -/
theorem boxesOfTheTorus : Obligations.BoxesOfTheTorus := by
  refine ⟨fun x0 y0 z0 w h d x y z hx0 hy0 hz0 hx hy hz _ hw _ hh _ hd => ?_,
    fun s c hc => (sliceAt_cases s c).resolve_right hc, fun s c => sliceAt_eq_zero, fun x0 y0 z0 e x y z a b hx0 hy0 hx hy => ?_⟩
  · simp only [inBox, Bool.and_eq_true, decide_eq_true_eq, ring_reach hx0 hx hw, ring_reach hy0 hy hh, ring_reach hz0 hz hd]
    constructor
    · rintro ⟨⟨⟨i, hi, hxi⟩, j, hj, hyj⟩, k, hk, hzk⟩
      exact ⟨i, j, k, hi, hj, hk, hxi, hyj, hzk⟩
    · rintro ⟨i, j, k, hi, hj, hk, hxi, hyj, hzk⟩
      exact ⟨⟨⟨i, hi, hxi⟩, j, hj, hyj⟩, k, hk, hzk⟩
  · have hX : ((x + a) % 80 + 80 - (x0 + a) % 80) % 80 = (x + 80 - x0) % 80 := by omega
    have hY : ((y + b) % 60 + 60 - (y0 + b) % 60) % 60 = (y + 60 - y0) % 60 := by omega
    simp only [inBox, hX, hY]

/-! ### Bridge links (R25, R246) -/

/-- The die and the port of a Z port's address. -/
theorem fields_portPua {d q : Nat} (hd : d < 4) (hq : q < 256) : puaDie (portPua d q) = d ∧ puaSub (portPua d q) = q := by
  obtain ⟨-, hdie, -, -, -, -, hsub⟩ := fields_mkPua hd (show 0 < 8 by omega) (show 0x3FF < 1024 by omega)
    (show 31 < 32 by omega) (show 3 < 16 by omega) hq
  exact ⟨hdie, hsub⟩

/-- Port q of a die joins port 4 + q of the next die. -/
theorem bridgePeer_lower {d q : Nat} (hd : d < 4) (hq : q < 4) :
    bridgePeer (portPua d q) = portPua ((d + 1) % 4) (4 + q) := by
  obtain ⟨hdie, hsub⟩ := fields_portPua hd (show q < 256 by omega)
  rw [bridgePeer, hdie, hsub, if_pos hq, Nat.add_comm q 4]

/-- Port 4 + q of a die joins port q of the die before. -/
theorem bridgePeer_upper {d q : Nat} (hd : d < 4) (hq : q < 4) :
    bridgePeer (portPua ((d + 1) % 4) (4 + q)) = portPua d q := by
  obtain ⟨hdie, hsub⟩ := fields_portPua (show (d + 1) % 4 < 4 by omega) (show 4 + q < 256 by omega)
  rw [bridgePeer, hdie, hsub, if_neg (by omega), show ((d + 1) % 4 + 3) % 4 = d by omega, Nat.add_sub_cancel_left]

/-- Settles O46: the two ends of a link are each other's peers, and `bridgeUp` asks for both. -/
theorem bridgeLinksHaveTwoEnds : Obligations.BridgeLinksHaveTwoEnds := by
  refine ⟨fun d q hd hq => ⟨bridgePeer_lower hd hq, bridgePeer_upper hd hq⟩, by decide, fun s d q hd hq => ?_⟩
  constructor
  · rw [bridgeUp, bridgePeer_lower hd hq]
  · rw [bridgeUp, bridgeUp, bridgePeer_lower hd hq, bridgePeer_upper hd hq, Bool.and_comm]

end Sys2Proof.Machine
end

section
/-!
SUPPORT. The way of an event into its first queue (R46, R67), and what the timers and the trace leave of clusters, fields and dies.
-/
namespace Sys2Proof.Machine
open Sys2Proof

/-! ### What timers and traces leave -/

/-- A cluster but for its timers, its commands and the fill of its trace queue. -/
def Cluster.still (c : Cluster) : Cluster := { c with window := ⟨0, none⟩, commands := [], traceQueue := (0, 0) }
/-- A field but for its counters. -/
def Field.still (x : Field) : Field := { x with counters := [] }
/-- A die but for its trace region. -/
def Die.still (x : Die) : Die := { x with traceRegion := [], traceKept := [] }

/-- From `s` to `t` nothing changes in clusters, fields and dies but timers, the trace and what counts it. -/
structure Still (s t : State) : Prop where
  cluster : ∀ ck, (cluster t ck).still = (cluster s ck).still
  fields : t.fields.map Field.still = s.fields.map Field.still
  dies : t.dies.map Die.still = s.dies.map Die.still

section
variable {S : List Part} {s t u : State}

theorem Still.refl (s : State) : Still s s := ⟨fun _ => rfl, rfl, rfl⟩
theorem Still.trans (h : Still s t) (g : Still t u) : Still s u :=
  ⟨fun ck => (g.cluster ck).trans (h.cluster ck), g.fields.trans h.fields, g.dies.trans h.dies⟩
theorem Still.foldl {α : Type} {f : State → α → State} (h : ∀ x a, Still x (f x a)) (l : List α) (s : State) :
    Still s (l.foldl f s) := by
  induction l generalizing s with
  | nil => exact .refl s
  | cons a r ih => exact (h s a).trans (ih _)
theorem Still.ite {a b : State} {c : Prop} [Decidable c] (h : c → Still s a) (g : ¬ c → Still s b) :
    Still s (if c then a else b) := by
  split
  · exact h ‹_›
  · exact g ‹_›
theorem Still.field (h : Still s t) (f : Nat) : (field t f).still = (field s f).still := getD_congr_map h.fields f _
theorem Still.die (h : Still s t) (d : Nat) : (die t d).still = (die s d).still := getD_congr_map h.dies d _
theorem Still.cluster_queue (h : Still s t) (ck : Nat) : (Machine.cluster t ck).queue = (Machine.cluster s ck).queue :=
  (congrArg Cluster.queue (h.cluster ck) :)
theorem Still.cluster_holds (h : Still s t) (ck : Nat) : (Machine.cluster t ck).holds = (Machine.cluster s ck).holds :=
  (congrArg Cluster.holds (h.cluster ck) :)
theorem Still.cluster_probed (h : Still s t) (ck : Nat) : (Machine.cluster t ck).probed = (Machine.cluster s ck).probed :=
  (congrArg Cluster.probed (h.cluster ck) :)
theorem Still.field_holds (h : Still s t) (f : Nat) : (Machine.field t f).holds = (Machine.field s f).holds :=
  (congrArg Field.holds (h.field f) :)
theorem Still.fields_length (h : Still s t) : t.fields.length = s.fields.length := by
  simpa using congrArg List.length h.fields
theorem Still.dies_length (h : Still s t) : t.dies.length = s.dies.length := by
  simpa using congrArg List.length h.dies

/-- What `Touches` says of a record of a part that does not change. -/
theorem Touches.cluster_eq (h : Touches S s t) (hp : .clusters ∉ S) (ck : Nat) : cluster t ck = cluster s ck := by
  rw [Machine.cluster, Machine.cluster, show t.clusters = s.clusters from h.agrees .clusters hp]
theorem Touches.field_eq (h : Touches S s t) (hp : .fields ∉ S) (f : Nat) : Machine.field t f = Machine.field s f := by
  rw [Machine.field, Machine.field, show t.fields = s.fields from h.agrees .fields hp]
theorem Touches.die_eq (h : Touches S s t) (hp : .dies ∉ S) (d : Nat) : Machine.die t d = Machine.die s d := by
  rw [Machine.die, Machine.die, show t.dies = s.dies from h.agrees .dies hp]
theorem Touches.fields_length (h : Touches S s t) (hp : .powers ∉ S) : t.fields.length = s.fields.length := by
  simpa using congrArg List.length (h.agrees .powers hp)
/-- An operation that changes no cluster, field or die. -/
theorem Touches.still (h : Touches S s t) (hc : .clusters ∉ S) (hf : .fields ∉ S) (hd : .dies ∉ S) : Still s t :=
  ⟨fun ck => congrArg Cluster.still (h.cluster_eq hc ck), congrArg (List.map Field.still) (h.agrees .fields hf),
    congrArg (List.map Die.still) (h.agrees .dies hd)⟩
end

theorem still_modCluster (ck : Nat) {f : Cluster → Cluster} (s : State) (h : ∀ c, (f c).still = c.still) :
    Still s (modCluster ck f s) := by
  refine ⟨fun j => ?_, rfl, rfl⟩
  by_cases hj : j = ck
  · rw [hj, cluster_modCluster_same, h]
  · rw [cluster_modCluster_ne s f hj]
theorem still_modField (i : Nat) {f : Field → Field} (s : State) (h : ∀ x, (f x).still = x.still) :
    Still s (modField i f s) := ⟨fun _ => rfl, map_modify_of_eq h _ _, rfl⟩
theorem still_modDie (d : Nat) {f : Die → Die} (s : State) (h : ∀ x, (f x).still = x.still) :
    Still s (modDie d f s) := ⟨fun _ => rfl, rfl, map_modify_of_eq h _ _⟩

theorem still_syncWindow (ck : Nat) (s : State) : Still s (syncWindow ck s) := still_modCluster ck s fun _ => rfl
theorem still_syncWindows (s : State) : Still s (syncWindows s) := .foldl (fun _ _ => still_syncWindow ..) _ s

/-! ### Holds -/

theorem cluster_holdCluster (r ck : Nat) (s : State) :
    Still (modCluster ck (fun c => { c with holds := addHold r c.holds }) s) (holdCluster r ck s) := still_syncWindow ..
theorem cluster_freeCluster (r ck : Nat) (s : State) :
    Still (modCluster ck (fun c => { c with holds := dropHold r c.holds }) s) (freeCluster r ck s) := still_syncWindow ..
theorem still_holdField (r f : Nat) (s : State) :
    Still (modField f (fun x => { x with holds := addHold r x.holds }) s) (holdField r f s) := still_syncWindows _

/-- The fields after a hold of a field's issue. -/
theorem fields_holdField (r f : Nat) (s : State) :
    (holdField r f s).fields = (modField f (fun x => { x with holds := addHold r x.holds }) s).fields :=
  (touches_syncWindows _).agrees .fields (by decide)
/-- A hold of a field's issue changes only the holds of that field. -/
theorem field_holdField (r f g : Nat) (s : State) : field (holdField r f s) g =
    if f = g ∧ g < s.fields.length then { field s g with holds := addHold r (field s g).holds } else field s g := by
  rw [field, fields_holdField]
  exact field_modField s f g _
theorem queue_holdField (r f g : Nat) (s : State) : (field (holdField r f s) g).queue = (field s g).queue := by
  rw [field_holdField]
  split <;> rfl
theorem mem_holds_holdField_same (r : Nat) {f : Nat} {s : State} (h : f < s.fields.length) :
    r ∈ (field (holdField r f s) f).holds := by
  rw [field_holdField, if_pos ⟨rfl, h⟩]
  exact mem_addHold.mpr (.inr rfl)
theorem mem_holds_holdField {r f g x : Nat} {s : State} (h : x ∈ (field s g).holds) : x ∈ (field (holdField r f s) g).holds := by
  rw [field_holdField]
  split
  · exact mem_addHold.mpr (.inl h)
  · exact h
/-- Holding issue leaves every Bridle's queue. -/
theorem queue_holdCluster (r ck j : Nat) (s : State) : (cluster (holdCluster r ck s) j).queue = (cluster s j).queue := by
  refine ((cluster_holdCluster r ck s).cluster_queue j).trans ?_
  by_cases hj : j = ck
  · rw [hj, cluster_modCluster_same]
  · rw [cluster_modCluster_ne s _ hj]

/-! ### Tables -/

theorem mem_tset {α : Type} {t : Tab α} {k : Nat} {v : α} {x : Nat × α} (h : x ∈ tset t k v) : x = (k, v) ∨ x ∈ t := by
  induction t with
  | nil => exact .inl (List.mem_singleton.mp h)
  | cons a r ih =>
    simp only [tset] at h
    split at h
    · exact List.mem_cons.mp h
    · split at h
      · exact (List.mem_cons.mp h).imp_right (List.mem_cons_of_mem a)
      · rcases List.mem_cons.mp h with rfl | h
        · exact .inr List.mem_cons_self
        · exact (ih h).imp_right (List.mem_cons_of_mem a)
theorem mem_of_tget {α : Type} {t : Tab α} {k : Nat} {v : α} (h : tget t k = some v) : (k, v) ∈ t := by
  induction t with
  | nil => exact nomatch h
  | cons a r ih =>
    simp only [tget] at h
    split at h
    · next hk =>
      rw [← hk, ← Option.some.inj h]
      exact List.mem_cons_self
    · exact List.mem_cons_of_mem a (ih h)

/-! ### The queue of a Field Agent (R46) -/

theorem touches_enterField (f : Nat) (e : Event) (s : State) : Touches [.fields, .clusters] s (enterField f e s) :=
  .mono (by decide) <| .trans (touches_modField s f _ fun _ => by rfl) <| .ite (fun _ => touches_holdField ..) fun _ => .refl

/-- An event joins the end of a Field Agent's queue, and a queue that is full then holds issue. -/
theorem field_enterField {f : Nat} (e : Event) {s : State} (h : f < s.fields.length) :
    (field (enterField f e s) f).queue = (field s f).queue ++ [e] ∧
    (1023 ≤ (field s f).queue.length → 0 ∈ (field (enterField f e s) f).holds) := by
  have hq : (field (modField f (fun x => { x with queue := x.queue ++ [e], awake := true }) s) f).queue =
      (field s f).queue ++ [e] := by rw [field_modField_same s _ h]
  simp only [enterField, hq, List.length_append, List.length_singleton]
  split
  · exact ⟨(queue_holdField ..).trans hq, fun _ => mem_holds_holdField_same 0 (by simpa using h)⟩
  · exact ⟨hq, fun hl => by omega⟩

/-! ### The queue of a Bridle (R46) -/

theorem touches_drainBridles (n f : Nat) (s : State) : Touches [.fields, .clusters] s (drainBridles n f s) := by
  induction n generalizing s with
  | zero => exact .mono (by decide) .refl
  | succ n ih =>
    refine .mono (L := [] ++ [.fields, .clusters]) (by decide) <| .ite (fun _ => .refl) fun _ => ?_
    split
    · exact .mono (by decide) .refl
    · split
      · exact .mono (by decide) .refl
      · exact .mono (by decide) <| .trans (touches_modField s f _ fun _ => by rfl) <|
          .trans (touches_modCluster _ _ _ fun _ => by rfl) <|
          .trans (.ite (fun _ => touches_freeCluster _ _ _ (by decide)) fun _ => .refl) (ih _)

/-- A Bridle's own event: it enters the Bridle's queue, goes on where there is room, and a queue that is full holds issue. -/
def raiseBridle (p : Nat) (e : Event) (s : State) : State :=
  let ck := puaClusterKey p
  let s := modCluster ck (fun c => { c with queue := c.queue ++ [e] }) s
  let s := drainBridles 1 (puaFieldIdx p) s
  let s := if 64 ≤ (cluster s ck).queue.length then holdCluster 0 ck s else s
  if 1024 ≤ (field s (puaFieldIdx p)).queue.length then holdField 0 (puaFieldIdx p) s else s

theorem touches_raiseBridle (p : Nat) (e : Event) (s : State) : Touches [.fields, .clusters] s (raiseBridle p e s) :=
  .mono (by decide) <| .trans (touches_modCluster s (puaClusterKey p) _ fun _ => by rfl) <| .trans (touches_drainBridles ..) <|
    .trans (.ite (fun _ => touches_holdCluster _ _ _ (by decide)) fun _ => .refl) <| .ite (fun _ => touches_holdField ..) fun _ => .refl

theorem raise_of_bridle {p : Nat} (e : Event) (s : State) (h : puaKind p ∈ [0, 1, 6, 7]) : raise p e s = raiseBridle p e s := by
  simp only [List.mem_cons, List.not_mem_nil, or_false] at h
  rcases h with h | h | h | h <;> simp only [raise, h] <;> rfl
theorem raise_of_agent {p : Nat} (e : Event) (s : State) (h : puaKind p ∈ [2, 3, 4, 5, 8]) :
    raise p e s = enterField (unitField p) e s := by
  simp only [List.mem_cons, List.not_mem_nil, or_false] at h
  rcases h with h | h | h | h | h <;> simp only [raise, h]
theorem raise_of_die {p : Nat} (e : Event) (s : State) (h : puaKind p = 15) (hp : p ≠ packagePua) :
    raise p e s = raiseLocal (puaDie p) e s := by
  simp only [raise, h, if_neg hp]
theorem touches_raise (p : Nat) (e : Event) (s : State) : Touches [.dies, .fields, .clusters] s (raise p e s) := by
  by_cases hb : puaKind p ∈ [0, 1, 6, 7]
  · exact raise_of_bridle e s hb ▸ .mono (by decide) (touches_raiseBridle ..)
  by_cases ha : puaKind p ∈ [2, 3, 4, 5, 8]
  · exact raise_of_agent e s ha ▸ .mono (by decide) (touches_enterField ..)
  have : raise p e s = raiseLocal (if p = packagePua then s.anchorDie else puaDie p) e s := by
    unfold raise
    split <;> simp_all
  exact this ▸ .mono (by decide) (touches_raiseLocal ..)

/-- While a Field Agent's queue is full, nothing leaves its Bridles. -/
theorem drainBridles_of_full (n : Nat) {f : Nat} {s : State} (h : 1024 ≤ (field s f).queue.length) : drainBridles n f s = s := by
  cases n with
  | zero => rfl
  | succ n => exact if_pos h

/-- The first Bridle with an event, once an event has entered one Bridle of a field whose other Bridles are empty. -/
theorem find_bridle {ck : Nat} {e : Event} {s : State} (h : ∀ x ∈ s.clusters, ckField x.1 = ckField ck → x.2.queue = []) :
    (modCluster ck (fun c => { c with queue := c.queue ++ [e] }) s).clusters.find?
      (fun x => ckField x.1 = ckField ck && !x.2.queue.isEmpty) = some (ck, { cluster s ck with queue := [e] }) := by
  have hq : (cluster s ck).queue = [] := by
    rw [cluster, tgetD]
    cases hc : tget s.clusters ck with
    | none => rfl
    | some c => exact h _ (mem_of_tget hc) rfl
  have hset : (modCluster ck (fun c => { c with queue := c.queue ++ [e] }) s).clusters =
      tset s.clusters ck { cluster s ck with queue := [e] } := by
    show tset _ _ { cluster s ck with queue := (cluster s ck).queue ++ [e] } = _
    rw [hq, List.nil_append]
  rw [hset]
  have hmem := mem_of_tget (tget_tset_same s.clusters ck { cluster s ck with queue := [e] })
  cases hf : List.find? _ _ with
  | none => exact absurd (List.find?_eq_none.mp hf _ hmem) (by simp)
  | some x =>
    have hx := List.find?_some hf
    rcases mem_tset (List.mem_of_find?_eq_some hf) with rfl | hm
    · rfl
    · simp only [Bool.and_eq_true, decide_eq_true_eq, Bool.not_eq_true'] at hx
      exact absurd hx.2 (by simp [h x hm hx.1])

/-- An event of a field whose Bridles are empty goes through its Bridle into the Field Agent's queue. -/
theorem queue_drainBridles_first {ck : Nat} {e : Event} {s : State} (hf : ckField ck < s.fields.length)
    (hr : (field s (ckField ck)).queue.length < 1024)
    (h : ∀ x ∈ s.clusters, ckField x.1 = ckField ck → x.2.queue = []) :
    (field (drainBridles 1 (ckField ck) (modCluster ck (fun c => { c with queue := c.queue ++ [e] }) s)) (ckField ck)).queue =
      (field s (ckField ck)).queue ++ [e] := by
  have hr' : ¬ 1024 ≤ (field (modCluster ck (fun c => { c with queue := c.queue ++ [e] }) s) (ckField ck)).queue.length :=
    Nat.not_le.mpr hr
  simp only [drainBridles, if_neg hr', find_bridle h]
  rw [if_pos (show ([] : List Event).length ≤ 32 from Nat.zero_le 32), (touches_freeCluster 0 ck _ (by decide)).field_eq (by decide)]
  exact congrArg Field.queue (field_modField_same (modCluster ck (fun c => { c with queue := c.queue ++ [e] }) s) _ hf)

/-- The field of a cluster's unit. -/
theorem ckField_puaClusterKey {p : Nat} (h : puaCluster p < 832) : ckField (puaClusterKey p) = puaFieldIdx p :=
  ckField_clusterKey _ h
/-- A valid unit of a cluster lies in one of the 832 clusters of its field (R6). -/
theorem puaCluster_lt {v : Variant} {p : Nat} (hv : puaValid v p = true) (hk : puaKind p ∈ [0, 1, 6, 7]) : puaCluster p < 832 := by
  simp only [List.mem_cons, List.not_mem_nil, or_false] at hk
  simp only [puaValid, Bool.and_eq_true] at hv
  obtain ⟨-, hk'⟩ := hv
  rcases hk with h | h | h | h <;> simp only [h, Bool.and_eq_true, decide_eq_true_eq] at hk' <;> exact hk'.1.1

theorem queue_field_raiseBridle {p : Nat} {e : Event} {s : State} (hc : ckField (puaClusterKey p) = puaFieldIdx p)
    (hf : puaFieldIdx p < s.fields.length) (hr : (field s (puaFieldIdx p)).queue.length < 1024)
    (h : ∀ x ∈ s.clusters, ckField x.1 = puaFieldIdx p → x.2.queue = []) :
    (field (raiseBridle p e s) (puaFieldIdx p)).queue = (field s (puaFieldIdx p)).queue ++ [e] := by
  rw [← hc] at hf hr h ⊢
  have hq := queue_drainBridles_first (e := e) hf hr h
  have hh : ∀ (r : Nat) (b : Prop) [Decidable b] (t : State),
      (field (if b then holdField r (ckField (puaClusterKey p)) t else t) (ckField (puaClusterKey p))).queue =
        (field t (ckField (puaClusterKey p))).queue := fun r b _ t => by
    split
    · exact queue_holdField ..
    · rfl
  have hcl : ∀ (b : Prop) [Decidable b] (t : State),
      (field (if b then holdCluster 0 (puaClusterKey p) t else t) (ckField (puaClusterKey p))).queue =
        (field t (ckField (puaClusterKey p))).queue := fun b _ t => by
    split
    · rw [(touches_holdCluster 0 _ t (by decide)).field_eq (by decide)]
    · rfl
  simp only [raiseBridle, ← hc]
  exact (hh ..).trans ((hcl ..).trans hq)

/-- While the Field Agent's queue is full, an event of a cluster waits in its Bridle. -/
theorem queue_cluster_raiseBridle {p : Nat} {e : Event} {s : State} (hr : 1024 ≤ (field s (puaFieldIdx p)).queue.length) :
    (cluster (raiseBridle p e s) (puaClusterKey p)).queue = (cluster s (puaClusterKey p)).queue ++ [e] := by
  have hq : (cluster (modCluster (puaClusterKey p) (fun c => { c with queue := c.queue ++ [e] }) s) (puaClusterKey p)).queue =
      (cluster s (puaClusterKey p)).queue ++ [e] := by rw [cluster_modCluster_same]
  have hd := drainBridles_of_full 1 (f := puaFieldIdx p)
    (s := modCluster (puaClusterKey p) (fun c => { c with queue := c.queue ++ [e] }) s) hr
  have hh : ∀ (b : Prop) [Decidable b] (t : State),
      (cluster (if b then holdField 0 (puaFieldIdx p) t else t) (puaClusterKey p)).queue = (cluster t (puaClusterKey p)).queue :=
    fun b _ t => by
      split
      · exact (still_holdField 0 _ t).cluster_queue _
      · rfl
  have hcl : ∀ (b : Prop) [Decidable b] (t : State),
      (cluster (if b then holdCluster 0 (puaClusterKey p) t else t) (puaClusterKey p)).queue =
        (cluster t (puaClusterKey p)).queue := fun b _ t => by
    split
    · exact queue_holdCluster ..
    · rfl
  simp only [raiseBridle, hd]
  exact (hh ..).trans ((hcl ..).trans hq)

/-! ### The Gondola's own input (R88, R89) -/

/-- Whether an event that waits at a Gondola's own input comes after `e`, of the same moment and of an earlier source (R89, R91). -/
def comesAfter (e x : Event) : Bool :=
  x.arose.1 = e.arose.1 && x.arose.2 ≠ e.arose.2 && decide (sourceRank e < sourceRank x)
theorem raiseLocal_eq (d : Nat) (e : Event) (s : State) : raiseLocal d e s = modDie d (fun x => { x with
    local_ := x.local_.filter (!comesAfter e ·) ++ [e] ++ x.local_.filter (comesAfter e) }) s := rfl

/-- An event joins the end of a Gondola's own input where nothing of its moment waits there. -/
theorem local_raiseLocal_last {d : Nat} {e : Event} {s : State} (hd : d < s.dies.length)
    (h : ∀ x ∈ (die s d).local_, x.arose.1 ≠ e.arose.1) :
    (die (raiseLocal d e s) d).local_ = (die s d).local_ ++ [e] := by
  have hn : ∀ x ∈ (die s d).local_, comesAfter e x = false := fun x hx => by simp [comesAfter, h x hx]
  have hall : (die s d).local_.filter (!comesAfter e ·) = (die s d).local_ :=
    List.filter_eq_self.mpr fun x hx => by rw [hn x hx, Bool.not_false]
  have hnone : (die s d).local_.filter (comesAfter e) = [] := List.filter_eq_nil_iff.mpr fun x hx => by
    rw [hn x hx]
    exact Bool.false_ne_true
  simp only [raiseLocal_eq, die_modDie_same s _ hd, hall, hnone, List.append_nil]
/-- No event leaves a Gondola's own input as another one enters. -/
theorem mem_local_raiseLocal {d j : Nat} {e x : Event} {s : State} (h : x ∈ (die s j).local_) :
    x ∈ (die (raiseLocal d e s) j).local_ := by
  rw [raiseLocal_eq, die_modDie]
  split
  · cases hx : comesAfter e x <;> simp [h, hx]
  · exact h
/-- An event that a Gondola raises waits at its own input. -/
theorem mem_local_raiseLocal_self {d : Nat} (e : Event) {s : State} (hd : d < s.dies.length) :
    e ∈ (die (raiseLocal d e s) d).local_ := by
  rw [raiseLocal_eq, die_modDie_same s _ hd]
  simp

/-! ### The statement -/

/-- Settles O3: by the kind of the reporter, and for a cluster by the room in its Field Agent's queue. -/
theorem eventReportEntersQueue : Obligations.EventReportEntersQueue := by
  refine ⟨fun dt r ev s hk hf => ?_, fun dt r ev s hk hv hl hr h => ?_, fun dt r ev s hk hr => ?_, fun dt r ev s hk hp hd h => ?_⟩
  · obtain ⟨hq, hh⟩ := field_enterField (reportedEvent (elapse dt s) ev) (s := elapse dt s) hf
    exact ⟨_, congrArg done (raise_of_agent _ _ hk), hq, hh,
      (touches_enterField (unitField r.toNat) (reportedEvent (elapse dt s) ev) (elapse dt s)).eq_blend⟩
  · obtain ⟨-, hdie, hfield, -⟩ := puaValid_ranges hv
    have hc := ckField_puaClusterKey (puaCluster_lt hv hk)
    have hT := touches_raiseBridle r.toNat (reportedEvent (elapse dt s) ev) (elapse dt s)
    refine ⟨_, congrArg done (raise_of_bridle _ _ hk), queue_field_raiseBridle hc ?_ hr h, hT.eq_blend⟩
    show puaFieldIdx r.toNat < s.fields.length
    rw [hl, puaFieldIdx]
    omega
  · exact ⟨_, congrArg done (raise_of_bridle _ _ hk), queue_cluster_raiseBridle hr,
      (touches_raiseBridle r.toNat (reportedEvent (elapse dt s) ev) (elapse dt s)).eq_blend⟩
  · exact ⟨_, congrArg done (raise_of_die _ _ hk hp), local_raiseLocal_last (s := elapse dt s) hd h,
      (touches_raiseLocal (puaDie r.toNat) (reportedEvent (elapse dt s) ev) (elapse dt s)).eq_blend⟩

end Sys2Proof.Machine
end

section
/-!
SUPPORT. What captures, the Ripcord, resets and charges change, in the order in which they call one another.
-/
namespace Sys2Proof.Machine
open Sys2Proof

/-- Both branches of a case change only what is listed. -/
theorem Touches.ite_same {S : List Part} {s a b : State} {c : Prop} [Decidable c] (h : c → Touches S s a) (g : ¬ c → Touches S s b) :
    Touches S s (if c then a else b) := by
  split
  · exact h ‹_›
  · exact g ‹_›

/-! ### The Ripcord (R278, R293 to R296) -/

theorem touches_captureRecord (d : Nat) (c : Capture) (s : State) : Touches [.dies] s (captureRecord d c s) := touches_recordAt ..
theorem touches_startCapture (d code reason consistency domain sections : Nat) (units : List Nat) (cut : Nat)
    (event : Option Event) (s : State) :
    Touches [.dies] s (startCapture d code reason consistency domain sections units cut event s) :=
  .mono (by decide) <| .ite (fun _ => touches_captureRecord ..) fun _ => touches_modDie s d _ fun _ => by rfl
theorem touches_voidCaptures (s : State) : Touches [.dies] s (voidCaptures s) :=
  .foldl (fun _ _ => .mono (by decide) <| .trans (touches_modDie _ _ _ fun _ => by rfl) <|
    .foldl (fun _ _ => touches_captureRecord ..) _ _) _ _
theorem touches_abortTest (s : State) : Touches [.dies, .objs] s (abortTest s) :=
  .mono (by decide) <| .ite (fun _ => .refl) fun _ => .trans (touches_dies s _ fun _ => by rfl) (touches_setObj _ _ _ (by decide))
theorem touches_cutTraces (s : State) : Touches [.traces] s (cutTraces s) := touches_update [.traces] (by rfl)
theorem touches_ripcord (s : State) (r : Ripcord) : Touches [.ripcord] s { s with ripcord := r } := touches_update [.ripcord] rfl
theorem touches_ripcordRecord (d kind reason stop target cause : Nat) (s : State) :
    Touches [.dies, .objs] s (ripcordRecord d kind reason stop target cause s) :=
  .mono (by decide) <| .trans (touches_setObjs [(key 0x2C13 3, reason), (key 0x2C13 4, stop)] s (by simp [tallyKeys, key])) <|
    touches_raiseLocal ..
theorem touches_wakeGondola (d : Nat) (s : State) : Touches [.dies] s (wakeGondola d s) := touches_modDie s d _ fun _ => by rfl
theorem touches_actRipcord (d : Nat) (s : State) : Touches [.dies, .fields, .clusters, .ripcord] s (actRipcord d s) :=
  .mono (by decide) <| .ite (fun _ => .refl) fun _ => .trans (touches_ripcord s _) <| .trans (touches_wakeGondola d _) <|
    .trans (.foldl (fun _ _ => touches_holdField ..) _ _) <| .ite (fun _ => .refl) fun _ => touches_startCapture ..
/-- What an emergency Ripcord may change. -/
def ripcordParts : List Part := [.stages, .drafts, .dies, .fields, .clusters, .ripcord, .traces, .objs]
/-- The state in which a die acts on the emergency Ripcord that it asserts. -/
def asserted (d cause : Nat) (s : State) : State :=
  let unmark := fun (x : Die) => if s.ripcord.reached then x else { x with endMark := 0 }
  let s := abortTest (cutTraces (voidCaptures { s with dies := s.dies.map unmark }))
  { s with ripcord := { s.ripcord with
      state := 3, reason := 7, cause := cause, reached := false, wire := true, message := true, acted := [],
      request := d } }
theorem emergency_eq (d cause : Nat) (s : State) : emergency d cause s =
    if s.ripcord.state = 3 then (if cause = 2 then voidCaptures s else s)
    else actRipcord d (ripcordRecord d 1 7 0 0 cause (asserted d cause s)) := rfl
theorem touches_asserted (d cause : Nat) (s : State) : Touches ripcordParts s (asserted d cause s) :=
  .mono (by decide) <| .trans (touches_update [.dies] rfl) <| .trans (touches_voidCaptures _) <| .trans (touches_cutTraces _) <|
    .trans (touches_abortTest _) (touches_ripcord _ _)
theorem touches_emergency (d cause : Nat) (s : State) : Touches ripcordParts s (emergency d cause s) :=
  .mono (by decide) <| .ite (fun _ => .ite (fun _ => touches_voidCaptures s) fun _ => .refl) fun _ =>
    .trans (touches_asserted d cause s) <| .trans (touches_ripcordRecord d 1 7 0 0 cause _) (touches_actRipcord d _)

/-- A die that acts leaves the Ripcord as it is but for the list of dies that have acted. -/
theorem ripcord_actRipcord (d : Nat) (s : State) :
    (actRipcord d s).ripcord.state = s.ripcord.state ∧ (actRipcord d s).ripcord.cause = s.ripcord.cause := by
  unfold actRipcord
  split
  · exact ⟨rfl, rfl⟩
  · dsimp only
    generalize hx : List.foldl _ (wakeGondola _ _) _ = x
    have hr : x.ripcord = { s.ripcord with acted := s.ripcord.acted ++ [d] } := by
      rw [← hx]
      exact (Touches.foldl (S := [.fields, .clusters]) (fun _ _ => touches_holdField ..) _ _).agrees .ripcord (by decide)
    have hc : ∀ (b : Prop) [Decidable b] (y : State), Touches [.dies] x y → (if b then x else y).ripcord = x.ripcord :=
      fun b _ y hy => by
        split
        · rfl
        · exact hy.agrees .ripcord (by decide)
    rw [hc _ _ (touches_startCapture ..), hr]
    exact ⟨rfl, rfl⟩
/-- An emergency Ripcord stands once it is asserted; an earlier one keeps its cause. -/
theorem ripcord_emergency (d cause : Nat) (s : State) : (emergency d cause s).ripcord.state = 3 ∧
    (s.ripcord.state ≠ 3 → (emergency d cause s).ripcord.cause = cause) := by
  rw [emergency_eq]
  split
  · next h =>
    refine ⟨?_, fun hn => absurd h hn⟩
    split
    · rw [show (voidCaptures s).ripcord = s.ripcord from (touches_voidCaptures s).agrees .ripcord (by decide), h]
    · exact h
  · obtain ⟨h1, h2⟩ := ripcord_actRipcord d (ripcordRecord d 1 7 0 0 cause (asserted d cause s))
    have hr := (touches_ripcordRecord d 1 7 0 0 cause (asserted d cause s)).agrees .ripcord (by decide)
    rw [h1, h2, show (ripcordRecord d 1 7 0 0 cause (asserted d cause s)).ripcord = (asserted d cause s).ripcord from hr]
    exact ⟨rfl, fun _ => rfl⟩

/-! ### Charges (R228 to R249) -/

/-- What a charge may change. -/
def chargeParts : List Part := [.shapes, .stops, .dies, .fields, .units, .cores, .clusters, .slices, .copies, .commits, .nextCommit,
  .screens, .objs]

theorem touches_toQuarantined (p cause : Nat) (s : State) :
    Touches [.dies, .fields, .units, .screens, .objs] s (toQuarantined p cause s) :=
  .mono (by decide) <| .ite (fun _ => touches_changeState ..) fun _ => .refl
theorem touches_copies (s : State) (l : List Copy) : Touches [.copies] s { s with copies := l } := touches_update [.copies] rfl
theorem touches_loseSlot (st slot cause unit : Nat) (s : State) :
    Touches [.dies, .clusters, .commits, .nextCommit, .objs] s (loseSlot st slot cause unit s) :=
  .mono (by decide) <| .trans (touches_requestCommit ..) <| .foldl (fun _ _ => touches_capacityEvent ..) _ _
theorem touches_channelOut (t : UnitState) (p cause : Nat) (s : State) : Touches chargeParts s (channelOut t p cause s) := by
  unfold channelOut
  dsimp only
  split
  · exact .mono (by decide) <| .trans (touches_copies s _) (touches_modUnit ..)
  · exact .mono (by decide) <| .trans (touches_changeState ..) (touches_loseSlot ..)
  · exact .mono (by decide) <| touches_changeState ..
theorem touches_rechoose (p : Nat) (s : State) : Touches chargeParts s (rechoose p s) := by
  unfold rechoose
  dsimp only
  refine .foldl (fun x w => ?_) _ _
  have hd := touches_dropBinding w.1 x
  generalize dropBinding w.1 x = y at hd ⊢
  refine .mono (L := [.commits] ++ chargeParts) (by decide) <| hd.trans ?_
  split
  · exact .mono (by decide) <| touches_rebindCore ..
  · exact .mono (by decide) <| .trans (.ite (fun _ => touches_publishSwap _ _ _ _ _ (by decide)) fun _ => .refl) <|
      .trans (touches_setOpen ..) (touches_setOpen ..)
  · exact .mono (by decide) <| touches_laneOut ..
  · exact .mono (by decide) <| touches_rebindCluster ..
  · exact .mono (by decide) .refl
theorem touches_leaveService (t : UnitState) (p cause : Nat) (s : State) : Touches chargeParts s (leaveService t p cause s) := by
  unfold leaveService
  dsimp only
  refine .mono (L := chargeParts ++ chargeParts) (by decide) <| .ite (fun _ => .mono (by decide) <| touches_changeState ..) fun _ => ?_
  split
  · split
    · exact .mono (by decide) <| .trans (touches_changeState ..) (touches_rebindCore ..)
    · exact .mono (by decide) <| .trans (touches_changeState ..) <| .trans (touches_leaveReplayRole ..) (touches_rechoose ..)
  · exact .mono (by decide) <| .ite
      (fun _ => .trans (.trans (touches_changeState ..) (touches_rechoose ..)) <|
        .trans (.ite (fun _ => .foldl (fun _ _ => touches_toQuarantined ..) _ _) fun _ => .refl) (touches_clusterOut ..))
      fun _ => .trans (.trans (touches_changeState ..) (touches_rechoose ..)) (touches_routerOut ..)
  · exact .mono (by decide) <| .trans (touches_changeState ..) <| .trans (touches_rechoose ..) (touches_laneOut ..)
  · exact .mono (by decide) <| .trans (.foldl (fun _ _ => touches_changeState ..) _ _) (touches_bridgeOut ..)
  · refine .mono (L := chargeParts ++ chargeParts) (by decide) <| .ite (fun _ => ?_) fun _ => touches_channelOut ..
    split
    · split
      · exact .mono (by decide) <| .trans (touches_changeState ..) <| .trans (touches_copies _ _) <| .trans (touches_modUnit ..) <|
          .trans (touches_changeState ..) (touches_loseSlot ..)
      · exact .mono (by decide) <| .trans (touches_changeState ..) (touches_copies _ _)
    · exact .mono (by decide) <| touches_changeState ..
  · exact .mono (by decide) <| .trans
      (.trans (.ite (fun _ => .foldl (fun _ _ => touches_toQuarantined ..) _ _) fun _ => touches_changeState ..) (touches_rechoose ..))
      (.ite (fun _ => touches_clusterOut ..) fun _ => .refl)
  · exact .mono (by decide) <| .trans
      (.trans (.ite (fun _ => .foldl (fun _ _ => touches_toQuarantined ..) _ _) fun _ => touches_changeState ..) (touches_rechoose ..))
      (.ite (fun _ => touches_clusterOut ..) fun _ => .refl)
  · exact .mono (by decide) <| .trans (touches_changeState ..) (touches_bindPlace ..)
  · exact .mono (by decide) <| touches_changeState ..
theorem touches_takeOut (p cause : Nat) (s : State) : Touches chargeParts s (takeOut p cause s) :=
  .mono (by decide) <| .ite (fun _ => touches_changeState ..) fun _ => .ite (fun _ => touches_leaveService ..) fun _ => .refl
theorem touches_overtake (p : Nat) (s : State) : Touches [.units, .copies, .commits] s (overtake p s) :=
  .mono (by decide) <| .trans (touches_update [.copies, .commits] rfl) (touches_modUnit ..)
theorem touches_chargeUnit (e : Event) (s : State) : Touches chargeParts s (chargeUnit e s) := by
  unfold chargeUnit
  dsimp only
  split
  · exact .mono (by decide) .refl
  · exact .mono (by decide) .refl
  · exact .mono (by decide) .refl
  · have hc : Touches [.units] s ((faultEnds s e.pua).foldl (fun s u => countCause e.cause u s) s) :=
      .foldl (fun _ _ => touches_countCause ..) _ _
    generalize (faultEnds s e.pua).foldl (fun s u => countCause e.cause u s) s = y at hc ⊢
    refine .mono (L := [.units] ++ chargeParts) (by decide) <| hc.trans ?_
    have out : ∀ cause (x : State), Touches chargeParts x ((faultEnds s e.pua).foldl (fun s u => takeOut u cause s) x) :=
      fun cause x => .foldl (fun _ _ => touches_takeOut ..) _ _
    refine .mono (L := chargeParts ++ (chargeParts ++ (chargeParts ++ ([.dies, .fields, .units, .screens, .objs] ++ [])))) (by decide) <|
      .ite (fun _ => ?_) fun _ => .ite (fun _ => out ..) fun _ => .ite (fun _ => out ..) fun _ =>
        .ite (fun _ => .foldl (fun _ _ => touches_changeState ..) _ _) fun _ => .refl
    split
    · exact out ..
    · exact .mono (by decide) <| .ite (fun _ => touches_overtake ..) fun _ => .refl

/-! ### Resets (R276 to R285, R297, R298) -/

theorem touches_staleDescriptors (of : Nat → Bool) (s : State) :
    Touches [.stops, .cores, .clusters] s (staleDescriptors of s) := touches_update [.cores, .clusters] (by rfl)
theorem touches_dropRecoveries (of : Nat → Bool) (s : State) :
    Touches [.recomputes, .tieBreaks, .thirds] s (dropRecoveries of s) := touches_update [.recomputes, .tieBreaks, .thirds] (by rfl)
/-- What the reset of clusters may change. -/
def clusterResetParts : List Part :=
  [.stops, .fields, .cores, .clusters, .recomputes, .tieBreaks, .thirds, .traces, .views]
theorem touches_resetCore (p : Nat) (s : State) : Touches clusterResetParts s (resetCore p s) :=
  .mono (by decide) <| .trans (touches_modCore ..) <| .trans (touches_staleDescriptors ..) <| .trans (touches_dropRecoveries ..) <|
    touches_syncCoreHolds ..
theorem touches_resetCluster (ck : Nat) (s : State) : Touches clusterResetParts s (resetCluster ck s) :=
  .mono (by decide) <| .trans (.foldl (fun _ _ => touches_modCore ..) _ _) <| .trans (touches_staleDescriptors ..) <|
    .trans (touches_dropRecoveries ..) <| .trans (touches_modCluster_any ..) <|
    .trans (touches_holdCluster _ _ _ (by decide)) <| .trans (touches_syncCoreHolds ..) (touches_traceClusterEvent ..)
theorem touches_resetFieldClusters (f : Nat) (s : State) : Touches clusterResetParts s (resetFieldClusters f s) :=
  .mono (by decide) <| .trans (.foldl (fun _ _ => touches_traceClusterEvent ..) _ _) <|
    .trans (touches_update [.cores, .clusters] rfl) <| .trans (touches_modField _ _ _ fun _ => by rfl) <|
    .trans (touches_staleDescriptors ..) <| .trans (touches_dropRecoveries ..) (touches_holdField ..)
theorem touches_resetDieClusters (d : Nat) (s : State) : Touches clusterResetParts s (resetDieClusters d s) :=
  .foldl (fun _ _ => touches_resetFieldClusters ..) _ _
/-- What the beginning of a reset may change. -/
def resetParts : List Part :=
  [.stages, .drafts, .shapes, .dies, .slices, .commits, .nextCommit, .packageReset, .ports] ++ clusterResetParts
/-- The slices that a reset ends have begun to end (R280). -/
def endResetSlices (code p : Nat) (s : State) : State :=
  (resetSlices s code p).foldl (fun s k => endSlice (if code = 7 then s.anchorDie else puaDie p) k s) s
theorem touches_endResetSlices (code p : Nat) (s : State) :
    Touches [.shapes, .stops, .dies, .clusters, .slices] s (endResetSlices code p s) := .foldl (fun _ _ => touches_endSlice ..) _ _
theorem touches_startReset (code p : Nat) (requested : Bool) (s : State) : Touches resetParts s (startReset code p requested s) := by
  unfold startReset
  dsimp only
  have hs := touches_endResetSlices code p s
  rw [endResetSlices] at hs
  generalize (resetSlices s code p).foldl _ s = y at hs ⊢
  refine .mono (L := [.shapes, .stops, .dies, .clusters, .slices] ++ resetParts) (by decide) <| hs.trans ?_
  split
  · exact .mono (by decide) <| .trans (touches_resetCore ..) (touches_modCore ..)
  · exact .mono (by decide) <| .trans (touches_resetCluster ..) (touches_modCluster_any ..)
  · exact .mono (by decide) <| touches_modField _ _ _ fun _ => by rfl
  · exact .mono (by decide) <| touches_modDie _ _ _ fun _ => by rfl
  · exact .mono (by decide) <| .trans (touches_resetFieldClusters ..) (touches_modField _ _ _ fun _ => by rfl)
  · exact .mono (by decide) <| .ite
      (fun _ => .trans (touches_requestCommit ..) (touches_modDie _ _ _ fun _ => by rfl))
      fun _ => .trans (touches_resetDieClusters ..) (touches_modDie _ _ _ fun _ => by rfl)
  · exact .mono (by decide) <| .ite
      (fun _ => .trans (touches_requestCommit ..) (touches_modDie _ _ _ fun _ => by rfl))
      fun _ => .trans (touches_resetDieClusters ..) (touches_modDie _ _ _ fun _ => by rfl)
  · exact .mono (by decide) <| .trans (.foldl (fun _ _ => touches_resetDieClusters ..) _ _)
      (touches_update [.packageReset, .dies, .ports] rfl)
theorem touches_captureDomain (code p reason : Nat) (e : Option Event) (s : State) :
    Touches [.dies, .fields, .clusters, .traces, .views] s (captureDomain code p reason e s) :=
  .mono (by decide) <| .ite (fun _ => .refl) fun _ => .trans (touches_stopSlots ..) (touches_startCapture ..)
theorem touches_countReset (code p : Nat) (s : State) : Touches [.dies] s (countReset code p s) :=
  touches_modDie _ _ _ fun _ => by rfl
theorem touches_noteOutOfService (code p : Nat) (s : State) : Touches [.dies, .objs] s (noteOutOfService code p s) :=
  .mono (by decide) <| .trans (touches_addObj s (key 0x2C14 1) 1 (by decide)) <|
    .trans (touches_setObjs [(key 0x2C14 2, domainPua code p), (key 0x2C14 3, code)] _ (by simp [tallyKeys, key])) <|
    touches_raiseLocal ..
/-- What a Gondola that goes out of service may change. -/
def gondolaParts : List Part := [.stages, .traces, .commits] ++ fencingParts
theorem touches_gondolaOut (d : Nat) (s : State) : Touches gondolaParts s (gondolaOut d s) := by
  unfold gondolaOut
  refine .ite_same (fun _ => .mono (by decide) (touches_emergency ..)) fun _ =>
    .ite_same (fun _ => .mono (by decide) (touches_fenceDie ..)) fun _ => .ite_same
      (fun _ => .mono (by decide) <| .trans (touches_takeRole 0 s) (touches_fenceDie ..)) fun _ => ?_
  dsimp only
  split
  · exact .mono (by decide) <| .trans (touches_fenceDie ..) (touches_emergency ..)
  · exact .mono (by decide) <| touches_fenceDie ..
/-- What a decision on a domain may change. -/
def decisionParts : List Part := [.packageReset, .copies] ++ resetParts ++ gondolaParts
theorem touches_decideReset (code p reason : Nat) (e : Option Event) (s : State) :
    Touches decisionParts s (decideReset code p reason e s) := by
  unfold decideReset
  refine .ite_same (fun _ => ?_) fun _ => .mono (by decide) <|
    .trans (touches_captureDomain ..) <| .trans (touches_countReset ..) (touches_startReset ..)
  have hn := touches_noteOutOfService code p s
  generalize noteOutOfService code p s = y at hn ⊢
  dsimp only
  split
  · exact .mono (by decide) <| hn.trans (touches_chargeUnit ..)
  · exact .mono (by decide) <| hn.trans (touches_fenceField ..)
  · exact .mono (by decide) <| hn.trans (touches_fenceField ..)
  · exact .mono (by decide) <| hn.trans <| .trans (touches_modDie _ _ _ fun _ => by rfl) (touches_gondolaOut ..)
  · exact .mono (by decide) <| hn.trans (touches_gondolaOut ..)

end Sys2Proof.Machine
end

section
/-!
SUPPORT. The time base: crossings, corrections, and the reference (R57, R65, R72 to R79).
-/
namespace Sys2Proof.Machine
open Sys2Proof

/-! ### Crossings (R65) -/

theorem tget_tdel {α : Type} (t : Tab α) (k j : Nat) : tget (tdel t k) j = if j = k then none else tget t j := by
  induction t with
  | nil => simp [tdel, tget]
  | cons a r ih =>
    have hr : tget (List.filter (fun e => e.1 ≠ k) r) j = _ := ih
    by_cases ha : a.1 = k
    · rw [show tdel (a :: r) k = r.filter fun e => e.1 ≠ k by simp [tdel, ha], hr]
      by_cases hj : j = k
      · simp [hj]
      · rw [tget, if_neg hj, if_neg hj, if_neg fun h => hj (h.symm.trans ha)]
    · rw [show tdel (a :: r) k = a :: r.filter fun e => e.1 ≠ k by simp [tdel, ha], tget, tget, hr]
      by_cases hj : j = k
      · simp [hj, ha]
      · simp [hj]

/-- The separation that is set reads back, and every other crossing keeps its own. -/
theorem separationOf_setSeparation (p n x : Nat) (s : State) :
    separationOf (setSeparation p n s) x = if x = p then n else separationOf s x := by
  simp only [separationOf, setSeparation, tgetD]
  by_cases hn : n = 4 <;> by_cases hx : x = p <;> simp [hn, hx, tget_tdel, tget_tset]

/-- The charge of a crossing that has slipped (R65). -/
def slipEvent (s : State) (p : Nat) : Event := stamped s (stampKeeper p) .charge 0x08 0 p 0 (puaDie p) []
theorem crossingSlip_aligned (dt : Nat) {tether : Bool} {u : Pua} (sep : Nat) {s : State}
    (h : crossingAligned s tether u.toNat = true) : exec (.crossingSlip dt tether u sep) s = .next (
      if 2 ≤ sep && sep ≤ 6 then setSeparation u.toNat sep (elapse dt s)
      else if tether then setSeparation u.toNat 4 (elapse dt s)
      else raise u.toNat (slipEvent (elapse dt s) u.toNat) (setSeparation u.toNat sep (elapse dt s))) := by
  have h' : ¬ (!crossingAligned (elapse dt s) tether u.toNat) = true := by simp [show crossingAligned (elapse dt s) tether u.toNat = true from h]
  exact congrArg Host.Outcome.next (if_neg h')
theorem touches_setSeparation (p n : Nat) (s : State) : Touches [.crossings] s (setSeparation p n s) :=
  touches_update [.crossings] (by rfl)

/-- A separation that stays within 2 to 6 or realigns is noted. -/
theorem crossingSlip_notes (dt : Nat) {tether : Bool} {u : Pua} {sep : Nat} {s : State}
    (h : crossingAligned s tether u.toNat = true) (ht : tether = true ∨ (2 ≤ sep ∧ sep ≤ 6)) :
    exec (.crossingSlip dt tether u sep) s =
      .next (setSeparation u.toNat (if 2 ≤ sep ∧ sep ≤ 6 then sep else 4) (elapse dt s)) := by
  rw [crossingSlip_aligned dt sep h]
  by_cases hs : 2 ≤ sep ∧ sep ≤ 6
  · simp [hs]
  · rw [if_neg (by simpa using hs), if_pos (ht.resolve_right hs), if_neg hs]

/-! ### Corrections sent (R72, R73) -/

/-- The fields of the correction flit. -/
theorem correctionFlit_fields (s : State) : (correctionFlit s).toNat / 2 ^ 64 = (pt s - pt s % 1024) % 2 ^ 64 ∧
    (correctionFlit s).toNat / 2 ^ 60 % 16 = 1 ∧ (correctionFlit s).toNat % 2 ^ 48 = s.seqr.next % 2 ^ 48 := by
  have h : ∀ a b c d e : Nat, c = 0 ∨ c = 2 ^ 57 → d = 0 ∨ d = 2 ^ 56 →
      let v := (a % 2 ^ 64 * 2 ^ 64 + 1 * 2 ^ 60 + b % 4 * 2 ^ 58 + c + d + e % 2 ^ 48) % 2 ^ 128
      v / 2 ^ 64 = a % 2 ^ 64 ∧ v / 2 ^ 60 % 16 = 1 ∧ v % 2 ^ 48 = e % 2 ^ 48 := by
    intro a b c d e hc hd
    omega
  simp only [correctionFlit, BitVec.toNat_ofNat]
  exact h _ _ _ _ _ (by split <;> simp) (by split <;> simp)

/-! ### Corrections that arrive (R74, R78) -/

theorem touches_keeperEvent (k code : Nat) (payload : List Byte) (s : State) :
    Touches [.dies, .fields, .clusters] s (keeperEvent k code payload s) :=
  .mono (by decide) <| .ite (fun _ => touches_raiseLocal ..) fun _ => touches_raise ..

/-- A keeper after a correction of error `e` (R74). -/
def correctedKeeper (now : Nat) (e : Int) (coarse : Bool) (x : Keeper) : Keeper :=
  let y := x.sync now
  { y with base := if 0 < e then y.base + e.toNat else y.base, slew := if e < 0 then e.natAbs else 0,
           missed := 0, restarted := false, coarse := coarse }
/-- The error of a keeper against a correction (R74). -/
def correctionError (s : State) (k : Nat) (flit : Flit) : Int :=
  ((flit.toNat / 2 ^ 64 + (keeper s k).delay : Nat) : Int) - keeperRead s k

/-- The answer to a correction that a running keeper takes. -/
theorem correctionArrival_takes (dt : Nat) {k : Nat} {flit : Flit} {s : State} (ht : flit.toNat / 2 ^ 60 % 16 = 1)
    (hk : k ≠ s.anchorDie) (hr : (keeper s k).running = true) (ha : (keeper s k).applied = true)
    (ho : (keeper s k).offsetFault = false) :
    let y := if k < 4 then emit (.dieCorrection k flit) (elapse dt s) else elapse dt s
    let e := correctionError (elapse dt s) k flit
    let z := modKeeper k (correctedKeeper (s.now + dt) e (flit.toNat / 2 ^ 56 % 2 == 1)) y
    exec (.correctionArrival dt k flit) s = .next (if e.natAbs ≤ 8 then z
      else if (keeper s k).restarted then
        keeperEvent k 0x2101 (leBytes 8 (keeperRead (elapse dt s) k) ++ leBytes 4 (e % 2 ^ 32).toNat ++
          leBytes 8 (keeper s k).stoppedFor) z
      else keeperEvent k 0 (leBytes 4 (e % 2 ^ 32).toNat) z) := by
  have hx : keeper (elapse dt s) k = keeper s k := rfl
  have hguard : ¬ (flit.toNat / 2 ^ 60 % 16 ≠ 1 || k = (elapse dt s).anchorDie) = true := by
    rw [ht]
    simp [hk]
  have hready : ¬ (!(keeper s k).running || !(keeper s k).applied || (keeper s k).offsetFault) = true := by simp [hr, ha, ho]
  change execCorrectionArrival dt k flit s = _
  unfold execCorrectionArrival
  dsimp only
  rw [if_neg hguard, hx, if_neg hready]
  by_cases h4 : k < 4
  · simp only [if_pos h4]
    rfl
  · simp only [if_neg h4]
    rfl

/-- A running keeper that is behind reads the time of the correction at once; one ahead keeps its count (R74). -/
theorem read_correctedKeeper {x : Keeper} {now fine : Nat} (right : Nat) (coarse : Bool) (hr : x.running = true)
    (hf : x.read now = fine) :
    (correctedKeeper now ((right : Int) - fine) coarse x).read now = max fine right ∧
      (correctedKeeper now ((right : Int) - fine) coarse x).slew = fine - right := by
  obtain ⟨hb, hrun, hs⟩ : (x.sync now).base = fine ∧ (x.sync now).running = true ∧ (x.sync now).since = now := by
    simp [Keeper.sync, hr, hf]
  simp only [correctedKeeper, Keeper.read, hrun, hs, hb, if_true]
  constructor
  · split <;> simp <;> omega
  · split <;> omega

/-- Every other keeper stays as it was. -/
theorem keeper_of_touches {S : List Part} {s t : State} (h : Touches S s t) (hs : Part.keepers ∉ S) (k : Nat) : keeper t k = keeper s k := by
  rw [keeper, keeper, show t.keepers = s.keepers from h.agrees .keepers hs]

theorem correctionArrival_corrects (dt : Nat) {k : Nat} {flit : Flit} {s : State} (ht : flit.toNat / 2 ^ 60 % 16 = 1)
    (hk : k ≠ s.anchorDie) (hr : (keeper s k).running = true) (ha : (keeper s k).applied = true)
    (ho : (keeper s k).offsetFault = false) :
    let fine := keeperRead (elapse dt s) k
    let right := flit.toNat / 2 ^ 64 + (keeper s k).delay
    ∃ t, exec (.correctionArrival dt k flit) s = .next t ∧ keeperRead t k = max fine right ∧
      (keeper t k).slew = fine - right ∧ (keeper t k).missed = 0 ∧ (keeper t k).restarted = false ∧
      (keeper t k).coarse = (flit.toNat / 2 ^ 56 % 2 == 1) ∧ (∀ x, x ≠ k → keeper t x = keeper s x) ∧
      (k < 4 → Output.dieCorrection k flit ∈ t.output) ∧
      (fine ≤ right + 8 → right ≤ fine + 8 → t = { elapse dt s with keepers := t.keepers, output := t.output }) ∧
      t = { elapse dt s with keepers := t.keepers, dies := t.dies, fields := t.fields, clusters := t.clusters, turn := t.turn, output := t.output } := by
  intro fine right
  have hx := correctionArrival_takes dt ht hk hr ha ho
  dsimp only at hx
  generalize hy : (if k < 4 then emit (.dieCorrection k flit) (elapse dt s) else elapse dt s) = y at hx
  generalize he : correctionError (elapse dt s) k flit = e at hx
  generalize hz : modKeeper k (correctedKeeper (s.now + dt) e (flit.toNat / 2 ^ 56 % 2 == 1)) y = z at hx
  have hsy : Touches [.output] (elapse dt s) y := hy ▸ .ite (fun _ => touches_emit ..) fun _ => .refl
  have hsz : Touches [.keepers, .output] (elapse dt s) z := .mono (by decide) <| hsy.trans (hz ▸ touches_modKeeper ..)
  obtain ⟨t, htz, hsmall, heq⟩ : ∃ t, Touches [.dies, .fields, .clusters] z t ∧ (e.natAbs ≤ 8 → t = z) ∧
      exec (.correctionArrival dt k flit) s = .next t := by
    refine ⟨_, ?_, fun h => if_pos h, hx⟩
    exact .ite_same (fun _ => .mono (by decide) (.refl : Touches [] z z)) fun _ =>
      .ite_same (fun _ => touches_keeperEvent ..) fun _ => touches_keeperEvent ..
  have hkt : ∀ x, keeper t x = keeper z x := keeper_of_touches htz (by decide)
  have hky : ∀ x, keeper y x = keeper (elapse dt s) x := keeper_of_touches hsy (by decide)
  have hkk : keeper t k = correctedKeeper (s.now + dt) e (flit.toNat / 2 ^ 56 % 2 == 1) (keeper s k) := by
    rw [hkt, ← hz, keeper_modKeeper_same, hky]
    rfl
  have hnow : t.now = s.now + dt := Eq.trans (b := z.now) (htz.agrees .now (by decide)) (hsz.agrees .now (by decide))
  have hee : e = (right : Int) - (keeper s k).read (s.now + dt) := he.symm
  obtain ⟨hread, hslew⟩ := read_correctedKeeper right (flit.toNat / 2 ^ 56 % 2 == 1) hr rfl
  have hout : t.output = y.output := Eq.trans (b := z.output) (htz.agrees .output (by decide)) (hz ▸ rfl)
  refine ⟨t, heq, ?_, ?_, ?_, ?_, ?_, fun x hxk => ?_, fun h4 => ?_, fun h1 h2 => ?_, ?_⟩
  · rw [keeperRead, hnow, hkk, hee]
    exact hread
  · rw [hkk, hee]
    exact hslew
  · rw [hkk]
    rfl
  · rw [hkk]
    rfl
  · rw [hkk]
    rfl
  · rw [hkt, ← hz, keeper_modKeeper_ne _ _ hxk, hky]
    rfl
  · rw [hout, ← hy, if_pos h4]
    simp [emit]
  · rw [hsmall (by change (keeper s k).read (s.now + dt) ≤ _ at h1; change _ ≤ (keeper s k).read (s.now + dt) + 8 at h2; omega)]
    exact hsz.eq_blend
  · exact (Touches.mono (S := [.keepers, .dies, .fields, .clusters, .turn, .output]) (by decide) (hsz.trans htz)).eq_blend

/-! ### The Anchor role (R57, R58) -/

/-- What an event at a Gondola's own input leaves unread stays as it was. -/
theorem die_raiseLocal {α : Type} (g : Die → α) (hg : ∀ x l, g { x with local_ := l } = g x) (d : Nat) (e : Event) (s : State) (j : Nat) :
    g (die (raiseLocal d e s) j) = g (die s j) := by
  rw [raiseLocal_eq, die_modDie]
  split
  · exact hg ..
  · rfl

/-- CD1 is the Anchor, without the numbers and corrections of the one before. -/
def takeoverStart (s : State) : State :=
  { s with
    anchorDie := 1, standby := false, takenOver := true,
    seqr := { s.seqr with next := s.seqr.mirrored + 1, mirror := [] },
    keepers := s.keepers.map fun e => (e.1, { e.2 with missed := 0, lossAt := 0 }),
    dies := s.dies.map (resendEvents s.seqr.mirror) }
/-- The event of a takeover in which the last mirrored number is `last`. -/
def takeoverEvent (s : State) (last cause : Nat) : Event :=
  recordEvent s 0x2201 packagePua 0 (leBytes 6 (last % 2 ^ 48) ++ leBytes 1 cause)
theorem anchorTakeover_eq (cause : Nat) (s : State) : anchorTakeover cause s =
    eraEvent (rescheduleCommits (takePosition (returnEverywhere
      ⟨takeoverEvent (eraEvent (takeoverStart s)) s.seqr.mirrored cause, 1, (eraEvent (takeoverStart s)).seqr.next⟩
      (restartSpanning (rescheduleRequests (eraEvent (takeoverStart s))))))) := rfl
theorem touches_takeoverStart (cause : Nat) (s : State) :
    Touches [.shapes, .seqr, .dies, .slices, .commits, .snapshot, .traces] (takeoverStart s) (anchorTakeover cause s) := by
  rw [anchorTakeover_eq]
  exact .mono (by decide) <| .trans (touches_eraEvent ..) <| .trans (touches_rescheduleRequests ..) <|
    .trans (touches_restartSpanning ..) <| .trans (touches_returnEverywhere ..) <| .trans (touches_takePosition ..) <|
    .trans (touches_rescheduleCommits ..) <| touches_eraEvent ..
/-- CD1 has the role, and no standby is left. -/
theorem anchor_takeRole (cause : Nat) (s : State) : (takeRole cause s).anchorDie = 1 ∧ (takeRole cause s).standby = false := by
  have hstart : ∀ x : State, Touches [.ptStarted, .keepers] x (if (keeper x 1).applied then x else startPt 1 x) := fun x =>
    .ite_same (fun _ => .mono (by decide) (.refl : Touches [] x x)) fun _ => touches_startPt ..
  have hrole : (if numbersReturned s then anchorTakeover cause s else anchorAtStart cause s).anchorDie = 1 ∧
      (if numbersReturned s then anchorTakeover cause s else anchorAtStart cause s).standby = false := by
    split
    · exact ⟨(touches_takeoverStart cause s).agrees .anchorDie (by decide), (touches_takeoverStart cause s).agrees .standby (by decide)⟩
    · exact ⟨rfl, rfl⟩
  unfold takeRole
  dsimp only
  generalize (if numbersReturned s then anchorTakeover cause s else anchorAtStart cause s) = x at hrole
  obtain ⟨ha, hs⟩ := hrole
  exact ⟨Eq.trans ((hstart x).agrees .anchorDie (by decide)) ha, Eq.trans ((hstart x).agrees .standby (by decide)) hs⟩

/-! ### Corrections that are missed (R57, R60, R75) -/

/-- The state in which a keeper has counted a missed correction. -/
def missedOnce (dt k : Nat) (s : State) : State :=
  modKeeper k (fun x => { x with
    missed := min 65535 (x.missed + 1), lossAt := if x.missed + 1 = 8 then s.now + dt else x.lossAt }) (elapse dt s)
/-- What the eighth miss of a keeper leads to. -/
def eighthMiss (k : Nat) (s : State) : State :=
  let y := if takeoverDue s && k = 1 then s else keeperEvent k 0 (leBytes 2 8) s
  if takeoverDue s then takeRole 1 y else if rolesLost y && k < 4 then emergency k 4 y else y
theorem correctionMissed_counts (dt : Nat) {k : Nat} {s : State} (hk : k ≠ s.anchorDie) (hr : (keeper s k).running = true) :
    exec (.correctionMissed dt k) s =
      .next (if (keeper s k).missed + 1 ≠ 8 then missedOnce dt k s else eighthMiss k (missedOnce dt k s)) := by
  have h : ¬ (k = (elapse dt s).anchorDie || !(keeper (elapse dt s) k).running) = true := by simp [hk, show keeper (elapse dt s) k = keeper s k from rfl, hr]
  exact congrArg Host.Outcome.next (if_neg h)

/-- Whether the roles are lost does not turn on what waits at a Gondola's own input. -/
theorem rolesLost_raiseLocal (d : Nat) (e : Event) (s : State) : rolesLost (raiseLocal d e s) = rolesLost s := by
  have hs : ∀ j, (die (raiseLocal d e s) j).status = (die s j).status := die_raiseLocal (·.status) (fun _ _ => rfl) d e s
  unfold rolesLost
  simp only [hs]
  rfl

/-- What the eighth miss may change. -/
def missParts : List Part := [.shapes, .stages, .drafts, .ptStarted, .anchorDie, .standby, .takenOver, .keepers, .seqr, .dies, .fields,
  .clusters, .slices, .commits, .ripcord, .snapshot, .traces, .objs]
theorem touches_eighthMiss (k : Nat) (s : State) : Touches missParts s (eighthMiss k s) := by
  have hy : Touches [.dies, .fields, .clusters] s (if takeoverDue s && k = 1 then s else keeperEvent k 0 (leBytes 2 8) s) :=
    .ite_same (fun _ => .mono (by decide) (.refl : Touches [] s s)) fun _ => touches_keeperEvent ..
  unfold eighthMiss
  dsimp only
  generalize (if takeoverDue s && k = 1 then s else _) = y at hy ⊢
  exact .ite_same (fun _ => .mono (by decide) <| hy.trans (touches_takeRole ..)) fun _ =>
    .ite_same (fun _ => .mono (by decide) <| hy.trans (touches_emergency ..)) fun _ => hy.mono (by decide)
/-- Short of a takeover the eighth miss leaves every keeper as it was. -/
theorem keepers_eighthMiss {k : Nat} {s : State} (h : takeoverDue s = false) : (eighthMiss k s).keepers = s.keepers := by
  have ht : Touches [.stages, .drafts, .dies, .fields, .clusters, .ripcord, .traces, .objs] s (eighthMiss k s) := by
    simp only [eighthMiss, h, Bool.false_and, Bool.false_eq_true, if_false]
    exact .ite_same (fun _ => .mono (by decide) <| .trans (touches_keeperEvent ..) (touches_emergency ..)) fun _ =>
      .mono (by decide) (touches_keeperEvent ..)
  exact ht.agrees .keepers (by decide)

theorem correctionMissed_ends (dt k : Nat) (s : State) (hk : k ≠ s.anchorDie) (hr : (keeper s k).running = true) :
    let missed := missedOnce dt k s
    ∃ t, exec (.correctionMissed dt k) s = .next t ∧
      ((keeper s k).missed ≠ 7 → t = missed) ∧
      ((keeper s k).missed = 7 → takeoverDue missed = false → t.keepers = missed.keepers) ∧
      ((keeper s k).missed = 7 → takeoverDue missed = true → t.anchorDie = 1 ∧ t.standby = false) ∧
      ((keeper s k).missed = 7 → takeoverDue missed = false → rolesLost missed = true → k < 4 →
        t.ripcord.state = 3) ∧ Touches missParts (elapse dt s) t := by
  intro missed
  refine ⟨_, correctionMissed_counts dt hk hr, fun h => if_pos (by omega), fun h hd => ?_, fun h hd => ?_, fun h hd hl h4 => ?_, ?_⟩
  · rw [if_neg (by omega)]
    exact keepers_eighthMiss hd
  · rw [if_neg (by omega), eighthMiss, if_pos hd]
    exact anchor_takeRole ..
  · have hl' : (rolesLost (keeperEvent k 0 (leBytes 2 8) missed) && decide (k < 4)) = true := by
      simp [keeperEvent, h4, rolesLost_raiseLocal, hl]
    rw [if_neg (by omega), eighthMiss, if_neg (by simp [missed] at hd; simp [hd])]
    simp only [show takeoverDue (missedOnce dt k s) = false from hd, Bool.false_and, Bool.false_eq_true, if_false]
    rw [if_pos hl']
    exact (ripcord_emergency ..).1
  · have hm : Touches [.keepers] (elapse dt s) missed := touches_modKeeper ..
    exact .ite_same (fun _ => hm.mono (by decide)) fun _ => .mono (by decide) <| hm.trans (touches_eighthMiss ..)

/-! ### The reference lost and restored (R77 to R79) -/

/-- What one step of a fold brings about and every step keeps holds at its end. -/
theorem foldl_reaches {α : Type} {Q P : State → Prop} {f : State → α → State} {l : List α} {a : α} {s : State} (ha : a ∈ l)
    (hs : Q s) (hQ : ∀ s b, Q s → Q (f s b)) (hset : ∀ s, Q s → P (f s a)) (hP : ∀ s b, Q s → P s → P (f s b)) :
    Q (l.foldl f s) ∧ P (l.foldl f s) := by
  obtain ⟨l₁, l₂, rfl⟩ := List.append_of_mem ha
  rw [List.foldl_append, List.foldl_cons]
  have h₁ : Q (l₁.foldl f s) := List.foldlRecOn l₁ f hs fun s h b _ => hQ s b h
  exact List.foldlRecOn (motive := fun s => Q s ∧ P s) l₂ f ⟨hQ _ _ h₁, hset _ h₁⟩
    fun s h b _ => ⟨hQ s b h.1, hP s b h.1 h.2⟩

/-- A keeper stops, and its coarse count goes on at the rate of the die's oscillator. -/
def dropKeeper (rate k : Nat) (s : State) : State := modKeeper k (fun x => { x.sync s.now with rate := rate }) (stopKeeper k s)
@[simp] theorem running_sync (x : Keeper) (now : Nat) : (x.sync now).running = x.running := by
  unfold Keeper.sync
  split <;> rfl
theorem running_stopKeeper (k j : Nat) (s : State) :
    (keeper (stopKeeper k s) j).running = if j = k then false else (keeper s j).running := by
  split
  · next h =>
    subst h
    simp only [stopKeeper, keeper_modKeeper_same]
    split <;> simp_all
  · next h => rw [stopKeeper, keeper_modKeeper_ne s _ h]
theorem running_dropKeeper (rate k j : Nat) (s : State) :
    (keeper (dropKeeper rate k s) j).running = if j = k then false else (keeper s j).running := by
  by_cases h : j = k
  · subst h
    simp [dropKeeper, running_stopKeeper]
  · rw [dropKeeper, keeper_modKeeper_ne _ _ h, running_stopKeeper]
theorem touches_dropKeeper (rate k : Nat) (s : State) : Touches [.keepers] s (dropKeeper rate k s) :=
  .mono (by decide) <| .trans (touches_stopKeeper ..) (touches_modKeeper ..)
theorem dropReference_eq (d : Nat) (s : State) : dropReference d s =
    (dieKeepers d).foldl (fun x k => dropKeeper (980000 + (takeNat s).1 % 40001) k x) (takeNat s).2 := rfl
theorem touches_dropReference (d : Nat) (s : State) : Touches [.keepers, .free] s (dropReference d s) := by
  rw [dropReference_eq]
  exact .mono (by decide) <| .trans (touches_update [.free] rfl : Touches [.free] s (takeNat s).2) <|
    .foldl (fun _ _ => touches_dropKeeper ..) _ _
/-- A keeper that is stopped stays stopped as others stop. -/
theorem stopped_dropReference {k : Nat} (d : Nat) {s : State} (h : (keeper s k).running = false) :
    (keeper (dropReference d s) k).running = false := by
  rw [dropReference_eq]
  refine List.foldlRecOn (motive := fun x => (keeper x k).running = false) _ _ h fun x hx j _ => ?_
  rw [running_dropKeeper]
  split
  · rfl
  · exact hx
/-- Every keeper of the die is stopped. -/
theorem stopped_of_mem_dieKeepers {k d : Nat} (hk : k ∈ dieKeepers d) (s : State) : (keeper (dropReference d s) k).running = false := by
  rw [dropReference_eq]
  refine (foldl_reaches (Q := fun _ => True) (P := fun x => (keeper x k).running = false) hk trivial
    (fun _ _ _ => trivial) (fun x _ => ?_) fun x j _ hx => ?_).2
  · rw [running_dropKeeper, if_pos rfl]
  · rw [running_dropKeeper]
    split
    · rfl
    · exact hx
/-- Each keeper of the variant is one of its dies' keepers. -/
theorem exists_die_of_mem_keeperIdxs {s : State} {k : Nat} (hk : k ∈ keeperIdxs s) : ∃ d ∈ dieIdxs s, k ∈ dieKeepers d := by
  simp only [keeperIdxs, List.mem_append, List.mem_map, dieIdxs, fieldIdxs, List.mem_range] at hk
  rcases hk with hd | ⟨f, hf, rfl⟩
  · exact ⟨k, by simpa [dieIdxs] using hd, by simp [dieKeepers]⟩
  · refine ⟨f / 6, by simp only [dieIdxs, List.mem_range]; omega, ?_⟩
    simp only [dieKeepers, List.mem_cons, List.mem_map, List.mem_range]
    exact .inr ⟨f % 6, Nat.mod_lt _ (by decide), by rw [Nat.div_add_mod' f 6]⟩

/-- The reference is absent. -/
def referenceGone (s : State) : State := { s with reference := false, referenceLostAt := s.now }
/-- Every keeper stops. -/
def stopKeepers (s : State) : State := (dieIdxs s).foldl (fun s d => dropReference d s) s
theorem touches_referenceGone (s : State) : Touches [.reference, .referenceLostAt] s (referenceGone s) :=
  touches_update [.reference, .referenceLostAt] rfl
theorem touches_stopKeepers (s : State) : Touches [.keepers, .free] s (stopKeepers s) := .foldl (fun _ _ => touches_dropReference ..) _ _
theorem stopped_stopKeepers {s : State} {k : Nat} (hk : k ∈ keeperIdxs s) : (keeper (stopKeepers s) k).running = false := by
  obtain ⟨d, hd, hkd⟩ := exists_die_of_mem_keeperIdxs hk
  unfold stopKeepers
  exact (foldl_reaches (Q := fun _ => True) (P := fun x => (keeper x k).running = false) (f := fun s d => dropReference d s) hd
    trivial (fun _ _ _ => trivial) (fun x _ => stopped_of_mem_dieKeepers hkd x) fun x j _ hx => stopped_dropReference j hx).2
theorem referenceLoss_eq (dt : Nat) {s : State} (hr : s.reference = true) :
    exec (.referenceLoss dt) s = .next (emergency s.anchorDie 3 (stopKeepers (referenceGone (elapse dt s)))) := by
  have hguard : ¬ (!(elapse dt s).reference) = true := by simp [hr]
  exact congrArg Host.Outcome.next (if_neg hguard)

theorem referenceLoss_stops (dt : Nat) {s : State} (hr : s.reference = true) :
    ∃ t, exec (.referenceLoss dt) s = .next t ∧ t.reference = false ∧ t.referenceLostAt = s.now + dt ∧
      (∀ k ∈ keeperIdxs s, (keeper t k).running = false) ∧ t.ripcord.state = 3 ∧
      (s.ripcord.state ≠ 3 → t.ripcord.cause = 3) ∧
      Touches [.stages, .drafts, .reference, .referenceLostAt, .keepers, .dies, .fields, .clusters, .ripcord, .traces, .objs, .free]
        (elapse dt s) t := by
  have hy := touches_stopKeepers (referenceGone (elapse dt s))
  have hs : ∀ k ∈ keeperIdxs s, (keeper (stopKeepers (referenceGone (elapse dt s))) k).running = false := fun k hk =>
    stopped_stopKeepers hk
  have hexec := referenceLoss_eq dt hr
  generalize stopKeepers (referenceGone (elapse dt s)) = y at hy hs hexec
  obtain ⟨hstate, hcause⟩ := ripcord_emergency s.anchorDie 3 y
  have ht := touches_emergency s.anchorDie 3 y
  refine ⟨_, hexec, Eq.trans (b := y.reference) (ht.agrees .reference (by decide)) (hy.agrees .reference (by decide)),
    Eq.trans (b := y.referenceLostAt) (ht.agrees .referenceLostAt (by decide)) (hy.agrees .referenceLostAt (by decide)),
    fun k hk => ?_, hstate, fun h => hcause ?_, .mono (by decide) (.trans (touches_referenceGone ..) (hy.trans ht))⟩
  · rw [keeper_of_touches ht (by decide), hs k hk]
  · rw [show y.ripcord = s.ripcord from hy.agrees .ripcord (by decide)]
    exact h

/-- Whether the clock of a keeper may run (R77). -/
def clockRuns (s : State) (k : Nat) : Bool :=
  if k < 4 then (die s k).vfast && !(die s k).fastReset else (field s (k - 4)).power = 1 || (field s (k - 4)).power = 2
/-- A keeper as the reference returns. -/
def returnKeeper (s : State) (k : Nat) : State :=
  if clockRuns s k then startKeeper k s else modKeeper k (fun x => { x.sync s.now with rate := 1000000 }) s
theorem touches_returnKeeper (s : State) (k : Nat) : Touches [.keepers] s (returnKeeper s k) :=
  .ite_same (fun _ => touches_startKeeper ..) fun _ => touches_modKeeper ..
theorem running_startKeeper (k j : Nat) (s : State) :
    (keeper (startKeeper k s) j).running = if j = k then true else (keeper s j).running := by
  by_cases h : j = k
  · subst h
    rw [startKeeper, keeper_modKeeper_same, if_pos rfl]
    split
    · assumption
    · rfl
  · rw [startKeeper, keeper_modKeeper_ne s _ h, if_neg h]
/-- A keeper that runs goes on as others return. -/
theorem running_returnKeeper {j : Nat} (k : Nat) {s : State} (h : (keeper s j).running = true) :
    (keeper (returnKeeper s k) j).running = true := by
  unfold returnKeeper
  split
  · rw [running_startKeeper]
    split
    · rfl
    · exact h
  · by_cases hjk : j = k
    · subst hjk
      simp [h]
    · rw [keeper_modKeeper_ne s _ hjk, h]
/-- Every keeper whose clock may run has started. -/
theorem running_returnKeepers {s : State} {k : Nat} {l : List Nat} (hk : k ∈ l) (h : clockRuns s k = true) :
    (keeper (l.foldl returnKeeper s) k).running = true := by
  refine (foldl_reaches (Q := Touches [.keepers] s) (P := fun x => (keeper x k).running = true) hk (.mono (by decide) (.refl : Touches [] s s))
    (fun x j hx => .mono (by decide) (hx.trans (touches_returnKeeper x j))) (fun x hx => ?_) fun x j _ h => running_returnKeeper j h).2
  have hd : x.dies = s.dies := hx.agrees .dies (by decide)
  have hf : x.fields = s.fields := hx.agrees .fields (by decide)
  have hc : clockRuns x k = true := by
    rw [← h]
    simp only [clockRuns, die, field, hd, hf]
    rfl
  rw [returnKeeper, if_pos hc, running_startKeeper, if_pos rfl]

/-- The reference is back. -/
def referenceBack (s : State) : State := { s with reference := true }
/-- The Anchor goes on from its coarse value. -/
def resumeAnchor (s : State) : State := modKeeper s.anchorDie (fun x => { x with coarse := false, restarted := false }) s
/-- The ns that the Anchor's oscillator has counted since the reference was lost. -/
def countedOutage (s : State) : Nat := 250 * ((s.now - s.referenceLostAt) * (keeper s s.anchorDie).rate / 1000000 / 250)
theorem referenceRestored_eq (dt : Nat) {s : State} (hr : s.reference = false) (ha : s.referenceLostAt + 1000000 ≤ s.now + dt) :
    let y := (keeperIdxs s).foldl returnKeeper (referenceBack (elapse dt s))
    exec (.referenceRestored dt) s = .next (if (resumeAnchor y).ptStarted then
      recordPkg 0x2102 (leBytes 8 (countedOutage (elapse dt s))) (resumeAnchor y) else resumeAnchor y) := by
  have hguard : ¬ ((elapse dt s).reference || (elapse dt s).now < (elapse dt s).referenceLostAt + 1000000) = true := by
    rw [show (elapse dt s).reference = false from hr, Bool.false_or, decide_eq_true_eq]
    exact Nat.not_lt.mpr ha
  exact congrArg Host.Outcome.next (if_neg hguard)

theorem referenceRestored_starts (dt : Nat) {s : State} (hr : s.reference = false) (ha : s.referenceLostAt + 1000000 ≤ s.now + dt) :
    ∃ t, exec (.referenceRestored dt) s = .next t ∧ t.reference = true ∧
      (∀ k ∈ keeperIdxs s, clockRuns s k = true → (keeper t k).running = true) ∧
      (keeper t s.anchorDie).coarse = false ∧ Touches [.reference, .keepers, .dies] (elapse dt s) t := by
  have hexec := referenceRestored_eq dt hr ha
  dsimp only at hexec
  have hy : Touches [.keepers] (referenceBack (elapse dt s)) ((keeperIdxs s).foldl returnKeeper (referenceBack (elapse dt s))) :=
    .foldl (fun _ _ => touches_returnKeeper ..) _ _
  have hrun : ∀ k ∈ keeperIdxs s, clockRuns s k = true →
      (keeper ((keeperIdxs s).foldl returnKeeper (referenceBack (elapse dt s))) k).running = true := fun k hk hc =>
    running_returnKeepers hk hc
  generalize (keeperIdxs s).foldl returnKeeper (referenceBack (elapse dt s)) = y at hexec hy hrun
  have hya : y.anchorDie = s.anchorDie := hy.agrees .anchorDie (by decide)
  have hz : Touches [.keepers] y (resumeAnchor y) := touches_modKeeper ..
  have ht : Touches [.dies] (resumeAnchor y) (if (resumeAnchor y).ptStarted then
      recordPkg 0x2102 (leBytes 8 (countedOutage (elapse dt s))) (resumeAnchor y) else resumeAnchor y) :=
    .ite_same (fun _ => touches_raiseLocal ..) fun _ => .mono (by decide) (.refl : Touches [] (resumeAnchor y) (resumeAnchor y))
  have hb : Touches [.reference] (elapse dt s) (referenceBack (elapse dt s)) := touches_update [.reference] rfl
  refine ⟨_, hexec, Eq.trans (b := (resumeAnchor y).reference) (ht.agrees .reference (by decide)) (hy.agrees .reference (by decide)),
    fun k hk hc => ?_, ?_, .mono (by decide) (hb.trans (hy.trans (hz.trans ht)))⟩
  · rw [keeper_of_touches ht (by decide), resumeAnchor]
    by_cases hka : k = y.anchorDie
    · subst hka
      rw [keeper_modKeeper_same]
      exact hrun _ hk hc
    · rw [keeper_modKeeper_ne y _ hka, hrun k hk hc]
  · rw [keeper_of_touches ht (by decide), resumeAnchor, ← hya, keeper_modKeeper_same]

/-! ### The statement -/

/-- A fabric crossing beyond 2 to 6 charges its unit through the Field Agent. -/
theorem crossingSlip_charges (dt : Nat) {u : Pua} {sep : Nat} {s : State} (h : crossingAligned s false u.toNat = true)
    (hs : sep < 2 ∨ 6 < sep) (hk : puaKind u.toNat ∈ [2, 3]) :
    exec (.crossingSlip dt false u sep) s = .next (enterField (unitField u.toNat) (slipEvent (elapse dt s) u.toNat)
      (setSeparation u.toNat sep (elapse dt s))) := by
  have hin : ¬ (2 ≤ sep && sep ≤ 6) = true := by
    simp only [Bool.and_eq_true, decide_eq_true_eq]
    omega
  have hagent : puaKind u.toNat ∈ [2, 3, 4, 5, 8] := by
    simp only [List.mem_cons, List.not_mem_nil, or_false] at hk ⊢
    omega
  rw [crossingSlip_aligned dt sep h, if_neg hin, raise_of_agent _ _ hagent]
  rfl

/-- Settles O19: clause by clause, from the lemmas on crossings, corrections, the Anchor role and the reference. -/
theorem timeBaseCommands : Obligations.TimeBaseCommands := by
  refine ⟨fun dt tether u sep s ha h => ?_, fun dt u sep s ha hs hk hf => ?_, fun dt tether u sep s ha => ?_, fun dt s hd => ?_,
    fun dt s hd => ?_, fun dt k flit s ht hk hr ha ho => correctionArrival_corrects dt ht hk hr ha ho, fun dt k s hk hr => ?_,
    fun dt s hr => ?_, fun dt s hr ha => ?_⟩
  · refine ⟨_, crossingSlip_notes dt ha h, ?_, fun x hx => ?_, (touches_setSeparation ..).eq_blend⟩
    · rw [separationOf_setSeparation, if_pos rfl]
    · rw [separationOf_setSeparation, if_neg hx]
      rfl
  · have hset := touches_setSeparation u.toNat sep (elapse dt s)
    have hent := touches_enterField (unitField u.toNat) (slipEvent (elapse dt s) u.toNat) (setSeparation u.toNat sep (elapse dt s))
    refine ⟨_, slipEvent (elapse dt s) u.toNat, crossingSlip_charges dt ha hs hk, ?_, ?_, rfl, rfl, rfl,
      (Touches.mono (S := [.dies, .fields, .clusters, .crossings, .turn]) (by decide) (hset.trans hent)).eq_blend⟩
    · rw [separationOf, show (enterField _ _ _).crossings = (setSeparation u.toNat sep (elapse dt s)).crossings from
        hent.agrees .crossings (by decide)]
      exact (separationOf_setSeparation ..).trans (if_pos rfl)
    · exact (field_enterField (slipEvent (elapse dt s) u.toNat) (s := setSeparation u.toNat sep (elapse dt s)) hf).1
  · have hn : (!crossingAligned (elapse dt s) tether u.toNat) = true := by
      rw [show crossingAligned (elapse dt s) tether u.toNat = false from ha, Bool.not_false]
    exact congrArg Host.Outcome.next (if_pos hn)
  · exact congrArg Host.Outcome.next (if_neg (by simp [hd]))
  · obtain ⟨ht, hk, hn⟩ := correctionFlit_fields (elapse dt s)
    exact ⟨_, correctionFlit (elapse dt s), congrArg Host.Outcome.next (if_pos hd), rfl, ht, hk, hn, rfl⟩
  · obtain ⟨t, hexec, hcount, hkeep, htake, hlost, hT⟩ := correctionMissed_ends dt k s hk hr
    exact ⟨t, hexec, hcount, hkeep, htake, hlost, (Touches.mono (S := .turn :: missParts) (by decide) hT).eq_blend⟩
  · obtain ⟨t, hexec, href, hat, hstop, hstate, hcause, hT⟩ := referenceLoss_stops dt hr
    exact ⟨t, hexec, href, hat, hstop, hstate, hcause, (Touches.mono (S := [.turn, .stages, .drafts, .reference,
      .referenceLostAt, .keepers, .dies, .fields, .clusters, .ripcord, .traces, .objs, .free]) (by decide) hT).eq_blend⟩
  · obtain ⟨t, hexec, href, hrun, hcoarse, hT⟩ := referenceRestored_starts dt hr ha
    refine ⟨t, hexec, href, fun d hd hv hfr => hrun d (List.mem_append_left _ hd) ?_,
      fun f hf hp => hrun _ (List.mem_append_right _ (List.mem_map_of_mem hf)) ?_, hcoarse,
      (Touches.mono (S := [.reference, .keepers, .dies, .turn]) (by decide) hT).eq_blend⟩
    · have h4 : d < 4 := by
        rw [dieIdxs, List.mem_range] at hd
        cases hvar : s.variant <;> rw [hvar] at hd <;> simp only [Variant.dies] at hd <;> omega
      rw [clockRuns, if_pos h4, hv, hfr]
      rfl
    · have h4 : ¬ fieldKeeper f < 4 := by
        simp only [fieldKeeper]
        omega
      have hf4 : fieldKeeper f - 4 = f := by simp [fieldKeeper]
      rw [clockRuns, if_neg h4, hf4]
      simpa using hp

end Sys2Proof.Machine
end

section
/-!
SUPPORT. Writes of the screening policy: what an accepted write leads to, and the modes and bound states that follow
(R53, R114, R116, R119 to R123, R134, R191, R467).
-/
namespace Sys2Proof.Machine
open Sys2Proof

/-! ### Accepted writes (R53, R440, R467) -/

/-- The control cores of a path's die wake for a request. -/
def awaken (p : Path) (s : State) : State := modDie (pathDie p) (fun x => { x with coresAwake := true }) s
theorem touches_awaken (p : Path) (s : State) : Touches [.dies] s (awaken p s) := touches_modDie _ _ _ fun _ => by rfl
/-- The objects whose accepted write is nothing but its effect: no answer to a nonce, no forced action, no one-write grant. -/
def plainObjects : List Nat := [0x2400, 0x2401, 0x2404, 0x2407, 0x2503, 0x2702]

theorem accepted_iff (s : State) (p : Path) (index sub : Nat) (data : List Byte) :
    accepted s p index sub data = true ↔ pathServed s p = true ∧ judgeWrite s p index sub data = none ∧
      ∃ r, objRow index sub = some r ∧ (packageWrite r sub (leNat data) = false ∨ sequencerFree s = true) := by
  simp [accepted, Option.any_eq_true, and_assoc]
theorem spendGrant_plain {index : Nat} (hi : index ∈ plainObjects) (p : Path) (sub v : Nat) (s : State) :
    spendGrant p index sub v s = s := by
  simp only [plainObjects, List.mem_cons, List.not_mem_nil, or_false] at hi
  rcases hi with rfl | rfl | rfl | rfl | rfl | rfl <;> rfl

theorem pathWrite_of_served (p : Path) (index sub : Nat) (data : List Byte) {s : State} (h : pathServed s p = true) :
    pathWrite p index sub data s = serveWrite p index sub data s := by
  unfold pathWrite
  rw [if_pos h]
theorem serveWriteWith_row (act : ObjRow → Nat → State → State) {p : Path} {index sub : Nat} {data : List Byte} {s j : State} {r : ObjRow}
    (hj : judgeWrite j p index sub data = none) (hr : objRow index sub = some r) (hn : index ≠ 0x3F03)
    (hf : ¬ (index = 0x2A09 || index = 0x2A0A) = true) :
    serveWriteWith act p index sub data j s = if !packageWrite r sub (leNat data) then
      respond p index sub 0 [] 0 (act r 0 (spendGrant p index sub (leNat data) (awaken p s)))
    else if !sequencerFree (awaken p s) then awaken p s
    else
      respond p index sub 0 [] (numberWrite (awaken p s)).1 (act r (numberWrite (awaken p s)).1
        (spendGrant p index sub (leNat data) (numberWrite (awaken p s)).2)) := by
  unfold serveWriteWith
  dsimp only
  rw [hj, hr]
  dsimp only
  rw [if_neg hn, if_neg hf]
  rfl

section
variable {p : Path} {index sub : Nat} {data : List Byte} {s : State} {r : ObjRow}

/-- An accepted write is served with the effect of its object. -/
theorem pathWrite_accepted (h : accepted s p index sub data = true) (hr : objRow index sub = some r) (hi : index ∈ plainObjects) :
    pathWrite p index sub data s =
      if packageWrite r sub (leNat data) = false then
        respond p index sub 0 [] 0 (writeEffect p r sub (leNat data) data 0 (awaken p s))
      else respond p index sub 0 [] (numberWrite (awaken p s)).1
        (writeEffect p r sub (leNat data) data (numberWrite (awaken p s)).1 (numberWrite (awaken p s)).2) := by
  obtain ⟨hserved, hjudge, r', hr', hfree⟩ := (accepted_iff ..).mp h
  obtain rfl : r' = r := by rw [hr] at hr'; exact (Option.some.inj hr').symm
  have hnonce : index ≠ 0x3F03 ∧ ¬ (index = 0x2A09 || index = 0x2A0A) = true := by
    constructor
    · rintro rfl
      revert hi
      decide
    · simp only [Bool.or_eq_true, decide_eq_true_eq]
      rintro (rfl | rfl) <;> (revert hi; decide)
  rw [pathWrite_of_served _ _ _ _ hserved, serveWrite, serveWriteWith_row _ hjudge hr hnonce.1 hnonce.2, spendGrant_plain hi,
    spendGrant_plain hi]
  cases hp : packageWrite r' sub (leNat data) with
  | false => simp only [Bool.not_false, if_true]
  | true =>
    have hf : sequencerFree s = true := by
      rw [hp] at hfree
      exact hfree.resolve_left Bool.noConfusion
    simp only [Bool.not_true, Bool.false_eq_true, if_false, show sequencerFree (awaken p s) = true from hf, reduceCtorEq]

/-- A numbered write is answered with its position, and the next number is one further. -/
theorem next_numberWrite (s : State) : (numberWrite s).2.seqr.next = (numberWrite s).1 + 1 := rfl
theorem touches_numberWrite (s : State) : Touches [.seqr, .dies] s (numberWrite s).2 :=
  .mono (by decide) <| .trans (touches_eraEvent s) (touches_takePosition _)

/-- A write that the sequencer numbers takes effect and is answered with its position (R53). -/
theorem pathWrite_numbered (h : accepted s p index sub data = true) (hr : objRow index sub = some r) (hi : index ∈ plainObjects)
    (hp : packageWrite r sub (leNat data) = true) : ∃ y, Touches [.seqr, .dies] s y ∧
      pathWrite p index sub data s = respond p index sub 0 [] (y.seqr.next - 1) (writeEffect p r sub (leNat data) data (y.seqr.next - 1) y) ∧
      0 < y.seqr.next := by
  refine ⟨(numberWrite (awaken p s)).2, .mono (by decide) (.trans (touches_awaken p s) (touches_numberWrite _)), ?_,
    Nat.succ_pos _⟩
  rw [pathWrite_accepted h hr hi, if_neg (by simp [hp])]
  rfl
/-- A write that no number orders takes effect and is answered without a position. -/
theorem pathWrite_local (h : accepted s p index sub data = true) (hr : objRow index sub = some r) (hi : index ∈ plainObjects)
    (hp : packageWrite r sub (leNat data) = false) : ∃ y, Touches [.dies] s y ∧ (∀ d, (die y d).local_ = (die s d).local_) ∧
      pathWrite p index sub data s = respond p index sub 0 [] 0 (writeEffect p r sub (leNat data) data 0 y) := by
  refine ⟨awaken p s, touches_awaken p s, fun d => ?_, ?_⟩
  · rw [awaken, die_modDie]
    split <;> rfl
  · rw [pathWrite_accepted h hr hi, if_pos hp]
end

theorem touches_respond (p : Path) (index sub status : Nat) (data : List Byte) (position : Nat) (s : State) :
    Touches [.paths] s (respond p index sub status data position s) := touches_update [.paths] rfl
theorem response_respond (p : Path) (index sub status : Nat) (data : List Byte) (position : Nat) (s : State) :
    (path (respond p index sub status data position s) p).response = some ⟨index, sub, status, data, position⟩ := by
  rw [respond, path_modPath_same]

/-! ### The bound state of a slice (R114) -/

theorem slice_of_touches {S : List Part} {s t : State} (h : Touches S s t) (hs : Part.slices ∉ S) (k : Nat) : slice t k = slice s k := by
  rw [slice, slice, show t.slices = s.slices from h.agrees .slices hs]
theorem slice_refreshBound_ne {j k : Nat} (h : k ≠ j) (s : State) : slice (refreshBound j s) k = slice s k := by
  unfold refreshBound
  dsimp only
  split
  · rfl
  · split
    · rfl
    · exact (slice_of_touches (touches_recordAt ..) (by decide) k).trans (slice_modSlice_ne s _ h)
theorem refreshBound_of_none {k : Nat} {s : State} (h : slice s k = none) : refreshBound k s = s := by simp only [refreshBound, h]
/-- A live slice has the bound state that its conditions ask for; nothing else of it changes. -/
theorem slice_refreshBound {k : Nat} {s : State} {x : Slice} (hx : slice s k = some x) :
    ∃ b since, slice (refreshBound k s) k = some { x with boundState := b, boundSince := since } ∧
      (sliceLive x = true → b = boundStateOf s x) := by
  simp only [refreshBound, hx]
  split
  · next h =>
    refine ⟨x.boundState, x.boundSince, hx, fun hl => ?_⟩
    rw [hl] at h
    simpa [eq_comm] using h
  · refine ⟨boundStateOf s x, pt s, (slice_of_touches (touches_recordAt ..) (by decide) k).trans ?_, fun _ => rfl⟩
    rw [slice_modSlice_same, hx]
    rfl

/-! ### The mode of a slice (R119 to R123) -/

theorem slice_applyMode_ne {j k : Nat} (h : k ≠ j) (s : State) : slice (applyMode j s) k = slice s k := by
  have hmod : ∀ f (t : State), slice (modSlice j f t) k = slice t k := fun f t => slice_modSlice_ne t f h
  have hbound : ∀ t, slice (refreshBound j (syncQualifying t)) k = slice t k := fun t => slice_refreshBound_ne h (syncQualifying t)
  unfold applyMode
  dsimp only
  split
  · rfl
  · exact iteInduction (motive := fun t => slice t k = slice s k) (fun _ => rfl) fun _ =>
      iteInduction (motive := fun t => slice t k = slice s k) (fun _ => (hbound _).trans (hmod ..)) fun _ =>
      iteInduction (motive := fun t => slice t k = slice s k) (fun _ => hmod ..) fun _ =>
      iteInduction (motive := fun t => slice t k = slice s k) (fun _ => hmod ..) fun _ =>
        (hbound _).trans ((hmod ..).trans (hmod ..))
/-- In state `t` slice `k`, which was `x` in state `s`, has kept what its mode follows from, and runs the mode asked of it where it
is live and has issued no tile. -/
def ModeAsked (s : State) (k : Nat) (x : Slice) (t : State) : Prop :=
  ∃ y, slice t k = some y ∧ y.life = x.life ∧ y.issued = x.issued ∧ y.role = x.role ∧ y.objs = x.objs ∧
    (sliceLive x = true → x.issued = false → y.mode = wantedMode s x)
theorem modeAsked_applyMode {k : Nat} {s : State} {x : Slice} (hx : slice s k = some x) : ModeAsked s k x (applyMode k s) := by
  have hmod : ∀ {t : State} {y : Slice} (f : Slice → Slice), slice t k = some y → slice (modSlice k f t) k = some (f y) :=
    fun f hy => by rw [slice_modSlice_same, hy, Option.map_some]
  have hbound : ∀ {t : State} {y : Slice}, slice t k = some y → ∃ z, slice (refreshBound k (syncQualifying t)) k = some z ∧
      z.life = y.life ∧ z.issued = y.issued ∧ z.role = y.role ∧ z.objs = y.objs ∧ z.mode = y.mode := fun {t} _ hy => by
    obtain ⟨b, since, hb, -⟩ := slice_refreshBound (s := syncQualifying t) hy
    exact ⟨_, hb, rfl, rfl, rfl, rfl, rfl⟩
  have hissued : ∀ {m : Prop}, ¬ (!x.issued) = true → x.issued = false → m := fun h h' => absurd h' (by simpa using h)
  simp only [applyMode, hx]
  refine iteInduction (motive := ModeAsked s k x) (fun h => ⟨x, hx, rfl, rfl, rfl, rfl, fun hl => by simp [hl] at h⟩) fun _ =>
    iteInduction (motive := ModeAsked s k x) (fun _ => ?_) fun hi =>
    iteInduction (motive := ModeAsked s k x) (fun _ => ⟨_, hmod _ hx, rfl, rfl, rfl, rfl, fun _ h => hissued hi h⟩) fun _ =>
    iteInduction (motive := ModeAsked s k x) (fun _ => ⟨_, hmod _ hx, rfl, rfl, rfl, rfl, fun _ h => hissued hi h⟩) fun _ => ?_
  · obtain ⟨z, hz, h1, h2, h3, h4, h5⟩ := hbound (hmod (fun y => { y with
      mode := wantedMode s x, codes := wantedCodes s x, switches := [], pending := none }) hx)
    exact ⟨z, hz, h1, h2, h3, h4, fun _ _ => h5⟩
  · obtain ⟨z, hz, h1, h2, h3, h4, -⟩ := hbound (hmod _ (hmod _ hx))
    exact ⟨z, hz, h1, h2, h3, h4, fun _ h => hissued hi h⟩
theorem applyMode_of_none {k : Nat} {s : State} (h : slice s k = none) : applyMode k s = s := by simp only [applyMode, h]

/-! ### Every slice (R116, R120) -/

/-- What a change of one slice settles for that slice, and no other change unsettles, holds of every slice once all are done. -/
theorem foldl_slices {Q : State → Prop} {P : State → Nat → Prop} {f : Nat → State → State} {s : State} (hs : Q s)
    (hQ : ∀ j x, Q x → Q (f j x)) (hset : ∀ j x, Q x → P (f j x) j) (hkeep : ∀ j k x, k ≠ j → slice (f j x) k = slice x k)
    (hP : ∀ x y k, slice y k = slice x k → P x k → Q x → Q y → P y k) (hnone : ∀ x k, slice x k = none → P x k) (k : Nat) :
    P ((s.slices.map (·.1)).foldl (fun s k => f k s) s) k := by
  by_cases hk : k ∈ s.slices.map (·.1)
  · refine (foldl_reaches (Q := Q) (P := fun x => P x k) hk hs (fun x j => hQ j x) (fun x => hset k x) fun x j hx hp => ?_).2
    by_cases hj : k = j
    · exact hj ▸ hset k x hx
    · exact hP x _ k (hkeep j k x hj) hp hx (hQ j x hx)
  · have hn : slice s k = none := by
      cases hx : slice s k with
      | none => rfl
      | some y => exact absurd (List.mem_map.mpr ⟨_, mem_of_tget hx, rfl⟩) hk
    refine hnone _ _ (List.foldlRecOn (motive := fun x => slice x k = none) _ _ hn fun x hx j hj => ?_)
    rw [hkeep j k x fun h => hk (h ▸ hj), hx]

theorem wantedMode_congr {s t : State} {x y : Slice} (ho : t.objs = s.objs) (hu : t.undefinedCases = s.undefinedCases)
    (hr : y.role = x.role) (hs : y.objs = x.objs) : wantedMode t y = wantedMode s x := by
  simp only [wantedMode, roleDefault, undefinedCase, obj, ho, hu, hr, hs]
  rfl
theorem sliceLive_congr {x y : Slice} (h : y.life = x.life) : sliceLive y = sliceLive x := by rw [sliceLive, sliceLive, h]
/-- One slice runs the mode that is asked of it. -/
theorem mode_applyMode {k : Nat} {s : State} {y : Slice} (hy : slice (applyMode k s) k = some y) (hl : sliceLive y = true)
    (hi : y.issued = false) : y.mode = wantedMode s y := by
  cases hx : slice s k with
  | none =>
    rw [applyMode_of_none hx, hx] at hy
    exact nomatch hy
  | some x =>
    obtain ⟨z, hz, hlife, hissued, hrole, hobjs, hmode⟩ := modeAsked_applyMode hx
    obtain rfl : z = y := Option.some.inj (hz.symm.trans hy)
    rw [hmode (sliceLive_congr hlife ▸ hl) (hissued ▸ hi), wantedMode_congr rfl rfl hrole hobjs]
/-- Every live slice that has issued no tile runs the mode that is asked of it. -/
theorem mode_applyModes {k : Nat} {s : State} {y : Slice} (hy : slice (applyModes s) k = some y) (hl : sliceLive y = true)
    (hi : y.issued = false) : y.mode = wantedMode s y := by
  refine foldl_slices (Q := Touches [.dies, .slices, .qualifying] s)
    (P := fun x k => ∀ y, slice x k = some y → sliceLive y = true → y.issued = false → y.mode = wantedMode s y)
    (.mono (by decide) (.refl : Touches [] s s)) (fun j x hx => .mono (by decide) (hx.trans (touches_applyMode j x)))
    (fun j x hx y hy hl hi => ?_) (fun j k x h => slice_applyMode_ne h x) (fun x y k h hp _ _ z hz => hp z (h ▸ hz))
    (fun x k h y hy => nomatch h.symm.trans hy) k y hy hl hi
  rw [mode_applyMode hy hl hi, wantedMode_congr (hx.agrees .objs (by decide)) (hx.agrees .undefinedCases (by decide)) rfl rfl]

theorem boundStateOf_congr {s t : State} (h : t.modelFlag = s.modelFlag) (x : Slice) : boundStateOf t x = boundStateOf s x := by
  simp only [boundStateOf, h]
/-- One live slice has the bound state that its conditions ask for. -/
theorem boundState_refreshBound {k : Nat} {s : State} {y : Slice} (hy : slice (refreshBound k s) k = some y)
    (hl : sliceLive y = true) : y.boundState = boundStateOf s y := by
  cases hx : slice s k with
  | none =>
    rw [refreshBound_of_none hx, hx] at hy
    exact nomatch hy
  | some x =>
    obtain ⟨b, since, hz, hb⟩ := slice_refreshBound hx
    obtain rfl := Option.some.inj (hz.symm.trans hy)
    exact hb hl
theorem touches_refreshBounds (s : State) : Touches [.dies, .slices] s (refreshBounds s) := .foldl (fun _ _ => touches_refreshBound ..) _ _
/-- Every live slice has the bound state that its conditions ask for. -/
theorem boundState_refreshBounds {k : Nat} {s : State} {y : Slice} (hy : slice (refreshBounds s) k = some y)
    (hl : sliceLive y = true) : y.boundState = boundStateOf s y := by
  refine foldl_slices (Q := Touches [.dies, .slices] s)
    (P := fun x k => ∀ y, slice x k = some y → sliceLive y = true → y.boundState = boundStateOf s y)
    (.mono (by decide) (.refl : Touches [] s s)) (fun j x hx => .mono (by decide) (hx.trans (touches_refreshBound j x)))
    (fun j x hx y hy hl => ?_) (fun j k x h => slice_refreshBound_ne h x) (fun x y k h hp _ _ z hz => hp z (h ▸ hz))
    (fun x k h y hy => nomatch h.symm.trans hy) k y hy hl
  rw [boundState_refreshBound hy hl, boundStateOf_congr (hx.agrees .modelFlag (by decide))]

/-! ### The rows of the policy (R467) -/

theorem wr_subZero {index : Nat} {r : ObjRow} (h : subZero index = some r) : r.wr = none := by
  unfold subZero at h
  split at h
  · exact nomatch h
  · obtain rfl := Option.some.inj h
    rfl
/-- What may be written has a row of its own in the table. -/
theorem row_of_judgeWrite {s : State} {p : Path} {index sub : Nat} {data : List Byte} (h : judgeWrite s p index sub data = none)
    (hi : index ≠ 0x3030) : ∃ r ∈ objRows, objRow index sub = some r ∧ r.index = index := by
  have hw : ∃ r, objRow index sub = some r ∧ r.wr ≠ none := by
    unfold judgeWrite at h
    simp only [hi, decide_false, Bool.false_and, Bool.false_eq_true, if_false] at h
    split at h
    · exact nomatch h
    · split at h
      · exact nomatch h
      · next r hr =>
        refine ⟨r, hr, fun hn => ?_⟩
        rw [hn] at h
        exact nomatch h
  obtain ⟨r, hr, hwr⟩ := hw
  have hr' := hr
  unfold objRow at hr'
  split at hr'
  · next x hx =>
    obtain rfl := Option.some.inj hr'
    have hfound := List.find?_some hx
    simp only [Bool.and_eq_true, decide_eq_true_eq] at hfound
    exact ⟨x, List.mem_of_find?_eq_some hx, hr, hfound.1.1⟩
  · split at hr'
    · exact absurd (wr_subZero hr') hwr
    · exact nomatch hr'
theorem kept_policy : ∀ r ∈ objRows, r.index = 0x2400 ∨ r.index = 0x2401 → r.kept = .store := by
  simp only [objRows, List.forall_mem_append]
  decide
theorem kept_perSlice : ∀ r ∈ objRows, r.index = 0x2404 ∨ r.index = 0x2503 ∨ r.index = 0x2702 → r.kept = .owner := by
  simp only [objRows, List.forall_mem_append]
  decide

/-! ### What the writes do -/

section
variable {p : Path} {index sub v : Nat} {data : List Byte} {n : Nat} {s : State} {r : ObjRow}

/-- The state that keeps a written policy; one that leaves only valid codes ends the undefined case (R117). -/
def keptPolicy (p : Path) (index sub v : Nat) (s : State) : State :=
  if decide (3 ≤ (sessionOf s p).code) && policyValid (setObj (key index sub) v s) then leaveCase 117 (setObj (key index sub) v s)
  else setObj (key index sub) v s
theorem writeEffect_policy (hi : r.index = 0x2400 ∨ r.index = 0x2401) (hk : r.kept = .store) :
    writeEffect p r sub v data n s = applyModes (keptPolicy p r.index sub v s) := by
  have hkeep : keepValue p r sub v s = setObj (key r.index sub) v s := by simp only [keepValue, hk]
  rcases hi with h | h <;> simp only [writeEffect, hkeep, h] <;> rfl
theorem writeEffect_override (hi : r.index = 0x2404) (hk : r.kept = .owner) :
    writeEffect p r sub v data n s = applyMode (selectedSlice s p) (setSobj (selectedSlice s p) (key r.index sub) v s) := by
  simp only [writeEffect, keepValue, hk, hi]
theorem writeEffect_clearFlag (hi : r.index = 0x2407) : writeEffect p r sub v data n s = clearModel s := by
  simp only [writeEffect, hi]
theorem writeEffect_seedMode (hi : r.index = 0x2503) (hk : r.kept = .owner) : writeEffect p r sub v data n s =
    if sobj s (selectedSlice s p) (key 0x2503 0) 0 = v then setSobj (selectedSlice s p) (key r.index sub) v s
    else recordAt (seedDie s (selectedSlice s p)) 0x2502 packagePua (selectedSlice s p)
      [byte (sobj s (selectedSlice s p) (key 0x2503 0) 0), byte v] (setSobj (selectedSlice s p) (key r.index sub) v s) := by
  simp only [writeEffect, keepValue, hk, hi]
theorem writeEffect_checking (hi : r.index = 0x2702) (hk : r.kept = .owner) :
    writeEffect p r sub v data n s = refreshBound (selectedSlice s p) (setSobj (selectedSlice s p) (key r.index sub) v s) := by
  simp only [writeEffect, keepValue, hk, hi]
end

/-! ### The writes, answered -/

section
variable {p : Path} {index sub : Nat} {value : List Byte} {s : State} {r : ObjRow}

theorem touches_keptPolicy (p : Path) (index sub v : Nat) (s : State) :
    Touches [.tallies, .undefinedCases, .objs] s (keptPolicy p index sub v s) :=
  .ite_same (fun _ => .mono (by decide) <| .trans (touches_setObj_any ..) (touches_leaveCase ..))
    fun _ => .mono (by decide) (touches_setObj_any ..)
theorem obj_keptPolicy (p : Path) (index sub v d : Nat) (s : State) : obj (keptPolicy p index sub v s) (key index sub) d = v := by
  unfold keptPolicy
  split <;> exact obj_setObj_same ..
theorem touches_applyModes (s : State) : Touches [.dies, .slices, .qualifying] s (applyModes s) := .foldl (fun _ _ => touches_applyMode ..) _ _
theorem selectedSlice_of_touches {S : List Part} {t : State} (h : Touches S s t) (hs : Part.paths ∉ S) (p : Path) :
    selectedSlice t p = selectedSlice s p := by
  simp only [selectedSlice, sel, selector, path, show t.paths = s.paths from h.agrees .paths hs]
theorem sobj_of_slice {k i d : Nat} {x : Slice} (h : slice s k = some x) : sobj s k i d = tgetD x.objs i d := by rw [sobj, h]
theorem slice_setSobj {k i v : Nat} {x : Slice} (h : slice s k = some x) :
    slice (setSobj k i v s) k = some { x with objs := tset x.objs i v } := by
  rw [setSobj, slice_modSlice_same, h]
  rfl
theorem sobj_setSobj {k i v d : Nat} {x : Slice} (h : slice s k = some x) : sobj (setSobj k i v s) k i d = v := by
  rw [sobj_of_slice (slice_setSobj h)]
  simp

/-- A numbered answer carries the position that the write took. -/
theorem answered_numbered {y z : State} (hn : 0 < y.seqr.next) (hz : z.seqr = y.seqr) :
    Answered (respond p index sub 0 [] (y.seqr.next - 1) z) p index sub true := by
  refine ⟨_, response_respond .., rfl, rfl, rfl, ?_⟩
  show z.seqr.next = y.seqr.next - 1 + 1
  rw [hz]
  omega
theorem answered_local (z : State) : Answered (respond p index sub 0 [] 0 z) p index sub false :=
  ⟨_, response_respond .., rfl, rfl, rfl, rfl⟩

/-- MODE_FLOOR_WRITE and ROLE_DEFAULT_MODE_WRITE (R119 to R123). -/
theorem policy_written (h : accepted s p index sub value = true) (hi : index = 0x2400 ∨ index = 0x2401) :
    let t := pathWrite p index sub value s
    Answered t p index sub true ∧ obj t (key index sub) 0 = leNat value ∧
      (∀ k y, slice t k = some y → sliceLive y = true → y.issued = false → y.mode = wantedMode t y) ∧
      Touches [.tallies, .seqr, .dies, .slices, .qualifying, .paths, .undefinedCases, .objs] s t := by
  have hplain : index ∈ plainObjects ∧ index ≠ 0x3030 := by rcases hi with rfl | rfl <;> decide
  obtain ⟨r, hmem, hrow, rfl⟩ := row_of_judgeWrite ((accepted_iff ..).mp h).2.1 hplain.2
  have hkept := kept_policy r hmem hi
  have hpack : packageWrite r sub (leNat value) = true := by
    rcases hi with h' | h' <;> simp only [packageWrite, h', hkept] <;> rfl
  obtain ⟨y, hy, hwrite, hnext⟩ := pathWrite_numbered h hrow hplain.1 hpack
  rw [writeEffect_policy hi hkept] at hwrite
  have hz := touches_keptPolicy p r.index sub (leNat value) y
  have hw := touches_applyModes (keptPolicy p r.index sub (leNat value) y)
  have hobj := obj_keptPolicy p r.index sub (leNat value) 0 y
  have hmode : ∀ k x, slice (applyModes (keptPolicy p r.index sub (leNat value) y)) k = some x → sliceLive x = true → x.issued = false →
      x.mode = wantedMode (keptPolicy p r.index sub (leNat value) y) x := fun k x hx hl hi => mode_applyModes hx hl hi
  generalize keptPolicy p r.index sub (leNat value) y = z at hz hw hobj hmode hwrite
  generalize applyModes z = w at hw hmode hwrite
  have ht := touches_respond p r.index sub 0 [] (y.seqr.next - 1) w
  rw [← hwrite] at ht
  dsimp only
  refine ⟨hwrite ▸ answered_numbered hnext ?_, ?_, fun k x hx hl hi => ?_, .mono (by decide) (hy.trans (hz.trans (hw.trans ht)))⟩
  · exact Eq.trans (b := z.seqr) (hw.agrees .seqr (by decide)) (hz.agrees .seqr (by decide))
  · rw [obj, show (pathWrite p r.index sub value s).objs = z.objs from
      Eq.trans (b := w.objs) (ht.agrees .objs (by decide)) (hw.agrees .objs (by decide))]
    exact hobj
  · rw [slice_of_touches ht (by decide)] at hx
    rw [hmode k x hx hl hi]
    exact (wantedMode_congr (Eq.trans (b := w.objs) (ht.agrees .objs (by decide)) (hw.agrees .objs (by decide)))
      (Eq.trans (b := w.undefinedCases) (ht.agrees .undefinedCases (by decide)) (hw.agrees .undefinedCases (by decide))) rfl rfl).symm

/-- MODE_OVERRIDE_WRITE (R119, R121 to R123). -/
theorem override_written {x : Slice} (h : accepted s p 0x2404 1 value = true) (hx : slice s (selectedSlice s p) = some x) :
    let t := pathWrite p 0x2404 1 value s
    Answered t p 0x2404 1 false ∧ sobj t (selectedSlice s p) (key 0x2404 1) 0xFF = leNat value ∧
      (∀ y, slice t (selectedSlice s p) = some y → sliceLive y = true → y.issued = false → y.mode = wantedMode t y) ∧
      Touches [.dies, .slices, .qualifying, .paths] s t := by
  obtain ⟨r, hmem, hrow, hidx⟩ := row_of_judgeWrite ((accepted_iff ..).mp h).2.1 (by decide)
  have hkept := kept_perSlice r hmem (.inl hidx)
  have hpack : packageWrite r 1 (leNat value) = false := by simp only [packageWrite, hidx, hkept, reduceCtorEq, decide_false]
  obtain ⟨y, hy, -, hwrite⟩ := pathWrite_local h hrow (by decide) hpack
  rw [writeEffect_override hidx hkept, selectedSlice_of_touches hy (by decide), hidx] at hwrite
  generalize selectedSlice s p = k at hx hwrite ⊢
  have hxy : slice y k = some x := (slice_of_touches hy (by decide) k).trans hx
  have hz := touches_setSobj k (key 0x2404 1) (leNat value) y
  obtain ⟨u, hu, -, -, -, hobjs, -⟩ := modeAsked_applyMode (slice_setSobj (i := key 0x2404 1) (v := leNat value) hxy)
  have hw := touches_applyMode k (setSobj k (key 0x2404 1) (leNat value) y)
  have hmode := fun x => mode_applyMode (k := k) (s := setSobj k (key 0x2404 1) (leNat value) y) (y := x)
  generalize setSobj k (key 0x2404 1) (leNat value) y = z at hwrite hz hw hmode hu
  generalize applyMode k z = w at hwrite hw hmode hu
  have ht := touches_respond p 0x2404 1 0 [] 0 w
  rw [← hwrite] at ht
  have hut := (slice_of_touches ht (by decide) k).trans hu
  refine ⟨hwrite ▸ answered_local w, ?_, fun a ha hl hi => ?_, .mono (by decide) (hy.trans (hz.trans (hw.trans ht)))⟩
  · rw [sobj_of_slice hut, hobjs]
    simp
  · rw [slice_of_touches ht (by decide)] at ha
    rw [hmode a ha hl hi]
    exact (wantedMode_congr (Eq.trans (b := w.objs) (ht.agrees .objs (by decide)) (hw.agrees .objs (by decide)))
      (Eq.trans (b := w.undefinedCases) (ht.agrees .undefinedCases (by decide)) (hw.agrees .undefinedCases (by decide))) rfl rfl).symm

/-- The flag is cleared and recorded before the bound states follow. -/
def flagCleared (s : State) : State := recordPkg 0x2403 ([0] ++ leBytes 4 (modelCount s) ++ [1]) { s with modelFlag := false }
theorem touches_flagCleared (s : State) : Touches [.modelFlag, .dies] s (flagCleared s) :=
  .mono (by decide) <| .trans (touches_update [.modelFlag] rfl : Touches [.modelFlag] s { s with modelFlag := false })
    (touches_raiseLocal ..)
theorem clearModel_eq (hf : s.modelFlag = true) : clearModel s = refreshErrors (refreshBounds (flagCleared s)) := by
  rw [clearModel, hf]
  rfl
/-- CLEAR_MODEL_FLAG (R116). -/
theorem flag_cleared (h : accepted s p 0x2407 4 value = true) (hf : s.modelFlag = true) :
    let t := pathWrite p 0x2407 4 value s
    Answered t p 0x2407 4 true ∧ t.modelFlag = false ∧
      (∀ k y, slice t k = some y → sliceLive y = true → y.boundState = boundStateOf t y) ∧
      Touches [.seqr, .dies, .slices, .modelFlag, .paths, .ports, .output] s t := by
  obtain ⟨r, -, hrow, hidx⟩ := row_of_judgeWrite ((accepted_iff ..).mp h).2.1 (by decide)
  have hpack : packageWrite r 4 (leNat value) = true := by simp only [packageWrite, hidx]
  obtain ⟨y, hy, hwrite, hnext⟩ := pathWrite_numbered h hrow (by decide) hpack
  rw [writeEffect_clearFlag hidx, clearModel_eq ((show y.modelFlag = s.modelFlag from hy.agrees .modelFlag (by decide)).trans hf)] at hwrite
  have hz := touches_flagCleared y
  have hflag : (flagCleared y).modelFlag = false := rfl
  have hw := touches_refreshBounds (flagCleared y)
  have hbound := fun k x => boundState_refreshBounds (k := k) (s := flagCleared y) (y := x)
  generalize flagCleared y = z at hwrite hz hflag hw hbound
  generalize refreshBounds z = w at hwrite hw hbound
  have hu := touches_refreshErrors w
  generalize refreshErrors w = u at hwrite hu
  have ht := touches_respond p 0x2407 4 0 [] (y.seqr.next - 1) u
  rw [← hwrite] at ht
  have hft : (pathWrite p 0x2407 4 value s).modelFlag = z.modelFlag := Eq.trans (b := u.modelFlag) (ht.agrees .modelFlag (by decide))
    (Eq.trans (b := w.modelFlag) (hu.agrees .modelFlag (by decide)) (hw.agrees .modelFlag (by decide)))
  refine ⟨hwrite ▸ answered_numbered hnext ?_, hft.trans hflag, fun k x hx hl => ?_,
    .mono (by decide) (hy.trans (hz.trans (hw.trans (hu.trans ht))))⟩
  · exact Eq.trans (b := w.seqr) (hu.agrees .seqr (by decide)) (Eq.trans (b := z.seqr) (hw.agrees .seqr (by decide)) (hz.agrees .seqr (by decide)))
  · rw [slice_of_touches ht (by decide), slice_of_touches hu (by decide)] at hx
    rw [hbound k x hx hl]
    exact (boundStateOf_congr hft x).symm

/-- SEED_MODE_WRITE (R134). -/
theorem seedMode_written {x : Slice} (h : accepted s p 0x2503 0 value = true) (hx : slice s (selectedSlice s p) = some x) :
    let t := pathWrite p 0x2503 0 value s
    Answered t p 0x2503 0 false ∧ sobj t (selectedSlice s p) (key 0x2503 0) 0 = leNat value ∧
      (sobj s (selectedSlice s p) (key 0x2503 0) 0 ≠ leNat value → seedDie s (selectedSlice s p) < s.dies.length →
        ∃ e ∈ (die t (seedDie s (selectedSlice s p))).local_, e.code = 0x2502 ∧ e.slice = selectedSlice s p) ∧
      Touches [.dies, .slices, .paths] s t := by
  obtain ⟨r, hmem, hrow, hidx⟩ := row_of_judgeWrite ((accepted_iff ..).mp h).2.1 (by decide)
  have hkept := kept_perSlice r hmem (.inr (.inl hidx))
  have hpack : packageWrite r 0 (leNat value) = false := by simp only [packageWrite, hidx, hkept, reduceCtorEq, decide_false]
  obtain ⟨y, hy, -, hwrite⟩ := pathWrite_local h hrow (by decide) hpack
  rw [writeEffect_seedMode hidx hkept, selectedSlice_of_touches hy (by decide), hidx] at hwrite
  generalize selectedSlice s p = k at hx hwrite ⊢
  have hxy : slice y k = some x := (slice_of_touches hy (by decide) k).trans hx
  have hdie : seedDie y k = seedDie s k := by
    rw [seedDie, seedDie, ownerDie, ownerDie, hxy, hx, show y.anchorDie = s.anchorDie from hy.agrees .anchorDie (by decide)]
  have hold : sobj y k (key 0x2503 0) 0 = sobj s k (key 0x2503 0) 0 := by rw [sobj_of_slice hxy, sobj_of_slice hx]
  rw [hdie, hold] at hwrite
  have hz := touches_setSobj k (key 0x2503 0) (leNat value) y
  have hset : sobj (setSobj k (key 0x2503 0) (leNat value) y) k (key 0x2503 0) 0 = leNat value := sobj_setSobj hxy
  generalize setSobj k (key 0x2503 0) (leNat value) y = z at hwrite hz hset
  generalize hw : (if sobj s k (key 0x2503 0) 0 = leNat value then z else _) = w at hwrite
  have hzw : Touches [.dies] z w := hw ▸ .ite_same (fun _ => .mono (by decide) (.refl : Touches [] z z)) fun _ => touches_recordAt ..
  have ht := touches_respond p 0x2503 0 0 [] 0 w
  rw [← hwrite] at ht
  refine ⟨hwrite ▸ answered_local w, ?_, fun hne hd => ?_, .mono (by decide) (hy.trans (hz.trans (hzw.trans ht)))⟩
  · rw [← hset, sobj, sobj, slice_of_touches ht (by decide), slice_of_touches hzw (by decide)]
  · have hlen : z.dies.length = s.dies.length := (Touches.dies_length hz (by decide)).trans (hy.dies_length (by decide))
    rw [if_neg hne] at hw
    rw [die, show (pathWrite p 0x2503 0 value s).dies = w.dies from ht.agrees .dies (by decide), ← hw]
    exact ⟨_, mem_local_raiseLocal_self _ (hlen ▸ hd), rfl, rfl⟩

/-- STREAMER_CHECKING_WRITE (R191). -/
theorem checking_written {x : Slice} (h : accepted s p 0x2702 0 value = true) (hx : slice s (selectedSlice s p) = some x) :
    let t := pathWrite p 0x2702 0 value s
    Answered t p 0x2702 0 false ∧ sobj t (selectedSlice s p) (key 0x2702 0) 1 = leNat value ∧
      (∀ y, slice t (selectedSlice s p) = some y → sliceLive y = true → y.boundState = boundStateOf t y) ∧
      Touches [.dies, .slices, .paths] s t := by
  obtain ⟨r, hmem, hrow, hidx⟩ := row_of_judgeWrite ((accepted_iff ..).mp h).2.1 (by decide)
  have hkept := kept_perSlice r hmem (.inr (.inr hidx))
  have hpack : packageWrite r 0 (leNat value) = false := by simp only [packageWrite, hidx, hkept, reduceCtorEq, decide_false]
  obtain ⟨y, hy, -, hwrite⟩ := pathWrite_local h hrow (by decide) hpack
  rw [writeEffect_checking hidx hkept, selectedSlice_of_touches hy (by decide), hidx] at hwrite
  generalize selectedSlice s p = k at hx hwrite ⊢
  have hxy : slice y k = some x := (slice_of_touches hy (by decide) k).trans hx
  have hz := touches_setSobj k (key 0x2702 0) (leNat value) y
  obtain ⟨b, since, hu, -⟩ := slice_refreshBound (slice_setSobj (i := key 0x2702 0) (v := leNat value) hxy)
  have hw := touches_refreshBound k (setSobj k (key 0x2702 0) (leNat value) y)
  have hbound := fun x => boundState_refreshBound (k := k) (s := setSobj k (key 0x2702 0) (leNat value) y) (y := x)
  generalize setSobj k (key 0x2702 0) (leNat value) y = z at hwrite hz hw hbound hu
  generalize refreshBound k z = w at hwrite hw hbound hu
  have ht := touches_respond p 0x2702 0 0 [] 0 w
  rw [← hwrite] at ht
  refine ⟨hwrite ▸ answered_local w, ?_, fun a ha hl => ?_, .mono (by decide) (hy.trans (hz.trans (hw.trans ht)))⟩
  · rw [sobj_of_slice ((slice_of_touches ht (by decide) k).trans hu)]
    simp
  · rw [slice_of_touches ht (by decide)] at ha
    rw [hbound a ha hl]
    exact (boundStateOf_congr (Eq.trans (b := w.modelFlag) (ht.agrees .modelFlag (by decide)) (hw.agrees .modelFlag (by decide))) a).symm
end

/-! ### The statement -/

/-- Settles O32: each write by what it leads to. -/
theorem screeningPolicyIsWritten : Obligations.ScreeningPolicyIsWritten := by
  refine ⟨fun dt p value s h => ?_, fun dt p sub value s h => ?_, fun dt p value x s h hx => ?_, fun dt p value s h hf => ?_,
    fun dt p value x s h hx => ?_, fun dt p value x s h hx => ?_⟩
  · obtain ⟨hans, hobj, hmode, hT⟩ := policy_written h (.inl rfl)
    exact ⟨_, rfl, hans, hobj, hmode, hT.eq_blend⟩
  · obtain ⟨hans, hobj, hmode, hT⟩ := policy_written h (.inr rfl)
    exact ⟨_, rfl, hans, hobj, hmode, hT.eq_blend⟩
  · obtain ⟨hans, hobj, hmode, hT⟩ := override_written (s := elapse dt s) h hx
    exact ⟨_, rfl, hans, hobj, hmode, hT.eq_blend⟩
  · obtain ⟨hans, hflag, hbound, hT⟩ := flag_cleared (s := elapse dt s) h hf
    exact ⟨_, rfl, hans, hflag, hbound,
      (Touches.mono (S := [.seqr, .dies, .slices, .model, .modelIndex, .modelFlag, .paths, .ports, .output]) (by decide) hT).eq_blend⟩
  · obtain ⟨hans, hobj, hevent, hT⟩ := seedMode_written (s := elapse dt s) h hx
    exact ⟨_, rfl, hans, hobj, hevent, hT.eq_blend⟩
  · obtain ⟨hans, hobj, hbound, hT⟩ := checking_written (s := elapse dt s) h hx
    exact ⟨_, rfl, hans, hobj, hbound, hT.eq_blend⟩

end Sys2Proof.Machine
end

section
/-!
SUPPORT. What the trace and a reset leave of clusters, fields and dies (R276, R280, R415 to R427).
-/
namespace Sys2Proof.Machine
open Sys2Proof

/-! ### The trace (R415 to R427) -/

/-- An operation on slots alone. -/
theorem still_of_traces {s t : State} (h : Touches [.traces] s t) : Still s t := h.still (by decide) (by decide) (by decide)
theorem still_countField (f sl id n : Nat) (s : State) : Still s (countField f sl id n s) :=
  (still_modField f s fun _ => by rfl).trans <| (touches_countView ..).still (by decide) (by decide) (by decide)
theorem still_losePacket (k now : Nat) (s : State) : Still s (losePacket k now s) := by
  unfold losePacket
  split
  · exact .refl s
  · exact (still_of_traces (touches_modTrace ..)).trans (still_countField ..)
theorem still_queueTrace (ck n : Nat) (s : State) : Still s (queueTrace ck n s) := still_modCluster ck s fun _ => by rfl
theorem still_putWords (k now : Nat) (ws : List Word64) (s : State) : Still s (putWords k now ws s) := by
  unfold putWords
  split
  · exact .refl s
  · have close : ∀ (c : Prop) [Decidable c] n, Still s
        (if c then closeChunk k (queueTrace n ws.length s) else queueTrace n ws.length s) := fun c _ n =>
      .ite (fun _ => (still_queueTrace ..).trans (still_of_traces (touches_closeChunk ..))) fun _ => still_queueTrace ..
    refine .ite (fun _ => still_losePacket ..) fun _ => ?_
    dsimp only
    split
    · exact close ..
    · refine (close ..).trans (.ite (fun _ => still_losePacket ..) fun _ => ?_)
      generalize hy : countField _ _ _ _ _ = y
      refine Still.trans (t := y) ?_ ?_
      · rw [← hy]
        exact (still_of_traces (touches_modTrace ..)).trans <| (still_of_traces (touches_appendWords ..)).trans (still_countField ..)
      · split
        · exact .ite (fun _ => still_of_traces (touches_closeChunk ..)) fun _ => .refl y
        · exact .refl y
theorem still_putPacket (k type body : Nat) (ext : List Nat) (s : State) : Still s (putPacket k type body ext s) := by
  unfold putPacket
  dsimp only
  split
  · exact .refl s
  · exact .ite
      (fun _ => (Still.ite (fun _ => still_of_traces (touches_closeChunk ..)) fun _ => .refl _).trans (still_putWords ..))
      fun _ => (Still.ite (fun _ => still_putWords ..) fun _ => .refl _).trans (still_putWords ..)
theorem still_flushOutcomes (k : Nat) (s : State) : Still s (flushOutcomes k s) := by
  unfold flushOutcomes
  dsimp only
  split
  · exact .refl s
  · exact .ite (fun _ => .refl s) fun _ => (still_of_traces (touches_modTrace ..)).trans (still_putPacket ..)
theorem still_putSync (k : Nat) (s : State) : Still s (putSync k s) := by
  unfold putSync
  dsimp only
  split
  · exact .refl s
  · exact .ite (fun _ => .refl s) fun _ => still_putWords ..
theorem still_traceClusterEvent (ck event : Nat) (s : State) : Still s (traceClusterEvent ck event s) :=
  .foldl (fun x e => by
    dsimp only
    exact (still_flushOutcomes e.1 x).trans <| (still_putPacket ..).trans (.ite (fun _ => .refl _) fun _ => still_putSync ..)) _ s
theorem still_writeDrop (k : Nat) (s : State) : Still s (writeDrop k s) := by
  unfold writeDrop
  dsimp only
  split
  · exact .refl s
  · split
    · exact .refl s
    · exact .ite (fun _ => .refl s) fun _ => (still_modDie _ s fun _ => by rfl).trans (still_of_traces (touches_modTrace ..))
theorem still_stopSlot (k cause : Nat) (s : State) : Still s (stopSlot k cause s) := by
  unfold stopSlot
  dsimp only
  split
  · exact .refl s
  · refine .ite (fun _ => .refl s) fun _ => ?_
    have hstop : ∀ f : TraceSlot → TraceSlot, Still s (modTrace k f (closeChunk k (flushOutcomes k s))) := fun f =>
      (still_flushOutcomes k s).trans <| (still_of_traces (touches_closeChunk ..)).trans (still_of_traces (touches_modTrace ..))
    split
    · exact (hstop _).trans (.ite (fun _ => still_writeDrop ..) fun _ => .refl _)
    · exact hstop _
theorem still_stopSlots (pick : Nat → TraceSlot → Bool) (cause : Nat) (s : State) : Still s (stopSlots pick cause s) :=
  .foldl (fun _ _ => still_stopSlot ..) _ s



/-! ### A cluster in reset (R267, R280) -/

/-- The cluster waits for its reset: no probe is open, and it holds issue. -/
def InReset (ck : Nat) (s : State) : Prop := (cluster s ck).probed = none ∧ 8 ∈ (cluster s ck).holds
theorem InReset.of_still {ck : Nat} {s t : State} (h : InReset ck s) (hs : Still s t) : InReset ck t := by
  obtain ⟨hp, hh⟩ := h
  exact ⟨(hs.cluster_probed ck).trans hp, hs.cluster_holds ck ▸ hh⟩
theorem inReset_holdCluster {ck : Nat} {s : State} (r : Nat) (h : InReset ck s) : InReset ck (holdCluster r ck s) := by
  obtain ⟨hp, hh⟩ := h
  refine InReset.of_still ?_ (cluster_holdCluster r ck s)
  rw [InReset, cluster_modCluster_same]
  exact ⟨hp, mem_addHold.mpr (.inl hh)⟩
theorem inReset_freeCluster {ck r : Nat} {s : State} (hr : r ≠ 8) (h : InReset ck s) : InReset ck (freeCluster r ck s) := by
  obtain ⟨hp, hh⟩ := h
  refine InReset.of_still ?_ (cluster_freeCluster r ck s)
  rw [InReset, cluster_modCluster_same]
  exact ⟨hp, mem_dropHold.mpr ⟨hh, hr.symm⟩⟩
/-- What a cluster's cores wait for does not end its reset. -/
theorem inReset_syncCoreHolds {ck : Nat} {s : State} (h : InReset ck s) : InReset ck (syncCoreHolds ck s) := by
  have set : ∀ (r : Nat) (b : Bool) (x : State), r ≠ 8 → InReset ck x →
      InReset ck (if b = (cluster x ck).holds.contains r then x else if b then holdCluster r ck x else freeCluster r ck x) :=
    fun r b x hr hx => iteInduction (motive := InReset ck) (fun _ => hx) fun _ =>
      iteInduction (motive := InReset ck) (fun _ => inReset_holdCluster r hx) fun _ => inReset_freeCluster hr hx
  exact set 1 _ _ (by decide) (set 2 _ _ (by decide) (set 3 _ _ (by decide) (set 5 _ _ (by decide) h)))
theorem inReset_resetCluster (ck : Nat) (s : State) : InReset ck (resetCluster ck s) := by
  refine InReset.of_still (inReset_syncCoreHolds ?_) (still_traceClusterEvent ck 0 _)
  refine InReset.of_still ?_ (cluster_holdCluster 8 ck _)
  rw [InReset, cluster_modCluster_same, cluster_modCluster_same]
  exact ⟨rfl, mem_addHold.mpr (.inr rfl)⟩

/-- An operation that changes no core. -/
theorem core_of_touches {S : List Part} {s t : State} (h : Touches S s t) (hs : Part.cores ∉ S) (p : Nat) : core t p = core s p := by
  rw [core, core, show t.cores = s.cores from h.agrees .cores hs]
theorem core_resetRun_staleDescriptors (of : Nat → Bool) (s : State) (p : Nat) :
    (core (staleDescriptors of s) p).resetRun = (core s p).resetRun := by
  simp only [staleDescriptors, core, tgetD, tget_map]
  cases tget s.cores p <;> rfl
/-- The reset of a cluster leaves the resets of the cores. -/
theorem core_resetRun_resetCluster (ck p : Nat) (s : State) : (core (resetCluster ck s) p).resetRun = (core s p).resetRun := by
  have hcores : ((coresOf ck).foldl (fun s p => modCore p (fun c => { clearCore false c with epoch := (c.epoch + 1) % 4 }) s) s
      |> (core · p)).resetRun = (core s p).resetRun := by
    refine List.foldlRecOn (motive := fun x => (core x p).resetRun = (core s p).resetRun) _ _ rfl fun x hx q _ => ?_
    by_cases hq : p = q
    · rw [← hx, hq, core_modCore_same]
      rfl
    · rw [core_modCore_ne x _ hq, hx]
  refine Eq.trans ?_ ((core_resetRun_staleDescriptors (puaClusterKey · == ck) _ p).trans hcores)
  refine congrArg Core.resetRun (core_of_touches (S := [.stops, .recomputes, .tieBreaks, .thirds, .fields, .clusters, .traces, .views])
    ?_ (by decide) p)
  exact .mono (by decide) <| .trans (touches_dropRecoveries ..) <| .trans (touches_modCluster_any ..) <|
    .trans (touches_holdCluster 8 ck _ (by decide)) <| .trans (touches_syncCoreHolds ..) (touches_traceClusterEvent ..)

/-! ### Fields in reset (R280, R284) -/

/-- What of a field's reset comes before it holds issue. -/
def clearedField (f : Nat) (s : State) : State :=
  let s := (tracedClusters s f).foldl (fun s ck => traceClusterEvent ck 0 s) s
  let s := { s with
    cores := s.cores.map fun e => if puaFieldIdx e.1 = f then (e.1, clearCore false e.2) else e,
    clusters := s.clusters.map fun e => if ckField e.1 = f then
      (e.1, { e.2 with commands := [], restart := false, hang := none, sync := [], probed := none,
                       holds := e.2.holds.filter fun h => !([1, 2, 3, 4, 5].contains h) }) else e }
  let s := modField f (fun x => { x with epoch := (x.epoch + 1) % 4 }) s
  dropRecoveries (puaFieldIdx · == f) (staleDescriptors (puaFieldIdx · == f) s)
theorem resetFieldClusters_eq (f : Nat) (s : State) : resetFieldClusters f s = holdField 8 f (clearedField f s) := rfl
theorem field_clearedField (f g : Nat) (s : State) : (field (clearedField f s) g).holds = (field s g).holds ∧
    (clearedField f s).fields.length = s.fields.length := by
  have ht : Still s ((tracedClusters s f).foldl (fun s ck => traceClusterEvent ck 0 s) s) :=
    .foldl (fun _ _ => still_traceClusterEvent ..) _ s
  unfold clearedField
  dsimp only
  generalize (tracedClusters s f).foldl (fun s ck => traceClusterEvent ck 0 s) s = x at ht
  refine ⟨Eq.trans ?_ (ht.field_holds g), Eq.trans ?_ ht.fields_length⟩
  · have hm : (field (modField f (fun y => { y with epoch := (y.epoch + 1) % 4 }) x) g).holds = (field x g).holds := by
      rw [field_modField]
      split <;> rfl
    exact hm
  · exact List.length_modify ..
theorem mem_holds_resetFieldClusters {f g r : Nat} {s : State} (hr : r ∈ (field s g).holds) :
    r ∈ (field (resetFieldClusters f s) g).holds := by
  rw [resetFieldClusters_eq]
  exact mem_holds_holdField ((field_clearedField f g s).1 ▸ hr)
theorem hold_resetFieldClusters {f : Nat} {s : State} (hf : f < s.fields.length) : 8 ∈ (field (resetFieldClusters f s) f).holds := by
  rw [resetFieldClusters_eq]
  exact mem_holds_holdField_same 8 ((field_clearedField f f s).2 ▸ hf)
theorem fields_length_resetFieldClusters (f : Nat) (s : State) : (resetFieldClusters f s).fields.length = s.fields.length := by
  rw [resetFieldClusters_eq, fields_holdField]
  exact (List.length_modify ..).trans (field_clearedField f f s).2
/-- Every field of a die in reset holds issue. -/
theorem hold_resetDieClusters {d i : Nat} {s : State} (hi : i < 6) (hf : d * 6 + i < s.fields.length) :
    8 ∈ (field (resetDieClusters d s) (d * 6 + i)).holds :=
  (foldl_reaches (Q := fun x => d * 6 + i < x.fields.length) (P := fun x => 8 ∈ (field x (d * 6 + i)).holds)
    (f := fun x j => resetFieldClusters (d * 6 + j) x) (List.mem_range.mpr hi) hf
    (fun x j h => (fields_length_resetFieldClusters (d * 6 + j) x).symm ▸ h) (fun _ h => hold_resetFieldClusters h)
    fun _ _ _ h => mem_holds_resetFieldClusters h).2

/-! ### Resets that begin (R280) -/

/-- A reset of a core, a cluster, a Field Agent or a Gondola ends no slice. -/
theorem resetSlices_small {code : Nat} (h : code ≤ 3) (s : State) (p : Nat) : resetSlices s code p = [] := by
  have : code = 0 ∨ code = 1 ∨ code = 2 ∨ code = 3 := by omega
  rcases this with rfl | rfl | rfl | rfl <;> simp [resetSlices]
theorem startReset_cluster (p : Nat) (requested : Bool) (s : State) : startReset 1 p requested s =
    modCluster (puaClusterKey p) (fun c => { c with resetRun := some ⟨1, s.now, requested, false⟩ })
      (resetCluster (puaClusterKey p) s) := by
  simp only [startReset, resetSlices_small (by decide : 1 ≤ 3), List.foldl_nil]
theorem startReset_agent (p : Nat) (requested : Bool) (s : State) : startReset 2 p requested s =
    modField (puaFieldIdx p) (fun x => { x with resetRun := some ⟨2, s.now, requested, false⟩ }) s := by
  simp only [startReset, resetSlices_small (by decide : 2 ≤ 3), List.foldl_nil]
theorem startReset_gondola (p : Nat) (requested : Bool) (s : State) : startReset 3 p requested s =
    modDie (puaDie p) (fun x => { x with recovering := some s.now, resetRun := some ⟨3, s.now, requested, false⟩ }) s := by
  simp only [startReset, resetSlices_small (by decide : 3 ≤ 3), List.foldl_nil]
theorem startReset_field (p : Nat) (requested : Bool) (s : State) : startReset 4 p requested s =
    modField (puaFieldIdx p) (fun x => { x with resetRun := some ⟨4, s.now, requested, false⟩ })
      (resetFieldClusters (puaFieldIdx p) (endResetSlices 4 p s)) := rfl
/-- The state in which a decided reset starts. -/
def beforeReset (code p reason : Nat) (e : Option Event) (s : State) : State := countReset code p (captureDomain code p reason e s)
/-- A domain short of its escalation count is captured and reset. -/
theorem decideReset_resets {code p : Nat} {s : State} (h : resetsWithin s code p < obj s (key 0x2C06 0) 3) (reason : Nat)
    (e : Option Event) : decideReset code p reason e s =
      startReset code p false (beforeReset code p reason e s) := by
  rw [decideReset, if_neg (Nat.not_le.mpr h), beforeReset]

end Sys2Proof.Machine
end

section
/-!
SUPPORT. The commands of probes, heartbeats, watchdog and lockstep where the domain is reset (R61, R62, R272, R280, R284, R285).
-/
namespace Sys2Proof.Machine
open Sys2Proof

/-! ### What a decision may change -/

/-- What the commands of this family may change. -/
def recoveryParts : List Part :=
  [.stages, .drafts, .powers, .shapes, .stops, .tallies, .ptStarted, .anchorDie, .standby, .takenOver, .keepers, .seqr, .dies, .fields,
    .units, .lcnMap, .clusterMap, .lanes, .channels, .zports, .lostSlots, .unreachable, .lcns, .cores, .clusters, .slices, .recomputes,
    .tieBreaks, .thirds, .transfers, .follows, .inFlight, .copies, .commits, .nextCommit, .ripcord, .qualifying, .packageReset, .ports,
    .snapshot, .traces, .views, .kept, .keptB, .turn, .screens, .objs, .output, .free]
theorem touches_decision (code p reason : Nat) (e : Option Event) (s : State) : Touches recoveryParts s (decideReset code p reason e s) :=
  .mono (by decide) (touches_decideReset code p reason e s)

/-! ### The escalation count (R297, R298) -/

/-- The resets within the window follow from the clock, the Gondola's own counts and the window. -/
theorem resetsWithin_congr {s t : State} {code p : Nat} (hnow : t.now = s.now)
    (hr : (die t (puaDie p)).resets = (die s (puaDie p)).resets) (hs : (die t (puaDie p)).service = (die s (puaDie p)).service)
    (ho : obj t (key 0x2C07 0) 3600 = obj s (key 0x2C07 0) 3600) : resetsWithin t code p = resetsWithin s code p := by
  simp only [resetsWithin, serviceNow, hnow, hr, hs, ho]
  rfl
theorem resetsWithin_of_touches {S : List Part} {s t : State} (h : Touches S s t) (hn : Part.now ∉ S) (hd : Part.dies ∉ S)
    (ho : Part.objs ∉ S) (code p : Nat) : resetsWithin t code p = resetsWithin s code p :=
  resetsWithin_congr (h.agrees .now hn) (congrArg Die.resets (h.die_eq hd _)) (congrArg Die.service (h.die_eq hd _))
    (congrArg (fun l => tgetD l (key 0x2C07 0) 3600) (h.agrees .objs ho))

/-! ### Probes and heartbeats (R272) -/

theorem touches_beforeReset (code p reason : Nat) (e : Option Event) (s : State) :
    Touches [.dies, .fields, .clusters, .traces, .views] s (beforeReset code p reason e s) :=
  .mono (by decide) <| .trans (touches_captureDomain ..) (touches_countReset ..)
theorem fields_still_beforeReset (code p reason : Nat) (e : Option Event) (s : State) :
    (beforeReset code p reason e s).fields.map Field.still = s.fields.map Field.still := by
  have hc : (captureDomain code p reason e s).fields.map Field.still = s.fields.map Field.still := by
    unfold captureDomain
    split
    · rfl
    · dsimp only
      generalize hy : stopSlots _ 2 s = y
      exact (congrArg (List.map Field.still) ((touches_startCapture ..).agrees .fields (by decide))).trans
        (hy ▸ still_stopSlots _ 2 s).fields
  exact hc

/-- A cluster that is reset. -/
theorem clusterReset_starts {p : Nat} {s : State} (h : resetsWithin s 1 p < obj s (key 0x2C06 0) 3) (reason : Nat) (e : Option Event) :
    let t := decideReset 1 p reason e s
    (cluster t (puaClusterKey p)).probed = none ∧ 8 ∈ (cluster t (puaClusterKey p)).holds ∧
      (cluster t (puaClusterKey p)).resetRun = some ⟨1, s.now, false, false⟩ ∧
      ∀ q, (core t q).resetRun = (core s q).resetRun := by
  have hnow : (beforeReset 1 p reason e s).now = s.now := (touches_beforeReset 1 p reason e s).agrees .now (by decide)
  have hcore : ∀ q, (core (resetCluster (puaClusterKey p) (beforeReset 1 p reason e s)) q).resetRun = (core s q).resetRun := fun q =>
    (core_resetRun_resetCluster ..).trans (congrArg Core.resetRun (core_of_touches (touches_beforeReset 1 p reason e s) (by decide) q))
  obtain ⟨hp, hh⟩ := inReset_resetCluster (puaClusterKey p) (beforeReset 1 p reason e s)
  dsimp only
  rw [decideReset_resets h, startReset_cluster, hnow]
  generalize resetCluster (puaClusterKey p) (beforeReset 1 p reason e s) = y at hp hh hcore
  rw [cluster_modCluster_same]
  exact ⟨hp, hh, rfl, hcore⟩

theorem bridleProbeTimeout_decides (dt : Nat) {p : Pua} {a : Nat} {s : State} (hp : (cluster s (puaClusterKey p.toNat)).probed = some a)
    (ha : a + 10000 ≤ s.now + dt) (hr : (die s (puaDie p.toNat)).recovering = none)
    (hc : (cluster s (puaClusterKey p.toNat)).resetRun = none) : exec (.bridleProbeTimeout dt p) s =
      .next (decideReset 1 p.toNat 3 none (modCluster (puaClusterKey p.toNat) (fun c => { c with probed := none }) (elapse dt s))) := by
  have hcond : (a + 10000 ≤ (elapse dt s).now && (die (elapse dt s) (puaDie p.toNat)).recovering.isNone &&
      (cluster (elapse dt s) (puaClusterKey p.toNat)).resetRun.isNone) = true := by
    simp only [Bool.and_eq_true, decide_eq_true_eq, Option.isNone_iff_eq_none]
    exact ⟨⟨ha, hr⟩, hc⟩
  change execBridleProbeTimeout dt p s = _
  unfold execBridleProbeTimeout
  dsimp only
  rw [show (cluster (elapse dt s) (puaClusterKey p.toNat)).probed = some a from hp]
  exact congrArg Host.Outcome.next (if_pos hcond)

theorem bridleProbeTimeout_resets (dt : Nat) (p : Pua) (a : Nat) (s : State) (hp : (cluster s (puaClusterKey p.toNat)).probed = some a)
    (ha : a + 10000 ≤ s.now + dt) (hr : (die s (puaDie p.toNat)).recovering = none)
    (hc : (cluster s (puaClusterKey p.toNat)).resetRun = none)
    (hn : resetsWithin (elapse dt s) 1 p.toNat < obj s (key 0x2C06 0) 3) :
    ∃ t, exec (.bridleProbeTimeout dt p) s = .next t ∧ (cluster t (puaClusterKey p.toNat)).probed = none ∧
      (cluster t (puaClusterKey p.toNat)).resetRun = some ⟨1, s.now + dt, false, false⟩ ∧
      8 ∈ (cluster t (puaClusterKey p.toNat)).holds ∧ Touches recoveryParts (elapse dt s) t := by
  have hy : Touches [.stops, .clusters] (elapse dt s) (modCluster (puaClusterKey p.toNat) (fun c => { c with probed := none }) (elapse dt s)) :=
    touches_modCluster_any ..
  have hn' := (resetsWithin_of_touches hy (by decide) (by decide) (by decide) 1 p.toNat).symm ▸ hn
  obtain ⟨hprobed, hhold, hrun, -⟩ := clusterReset_starts hn' 3 none
  exact ⟨_, bridleProbeTimeout_decides dt hp ha hr hc, hprobed, hrun, hhold,
    .mono (List.append_subset.mpr ⟨by decide, List.Subset.refl _⟩) (hy.trans (touches_decision ..))⟩

theorem fieldAgentHeartbeatTimeout_decides (dt : Nat) {p : Pua} {s : State} (hrun : (field s (puaFieldIdx p.toNat)).resetRun = none)
    (hf : (field s (puaFieldIdx p.toNat)).fenced = false) (hr : (die s (puaDie p.toNat)).recovering = none) :
    exec (.fieldAgentHeartbeatTimeout dt p) s = .next (decideReset 2 p.toNat 3 none (elapse dt s)) := by
  have h1 : ¬ ((field (elapse dt s) (puaFieldIdx p.toNat)).resetRun.isSome || (field (elapse dt s) (puaFieldIdx p.toNat)).fenced) = true := by
    rw [show field (elapse dt s) (puaFieldIdx p.toNat) = field s (puaFieldIdx p.toNat) from rfl, hrun, hf]
    decide
  have h2 : ¬ (die (elapse dt s) (puaDie p.toNat)).recovering.isSome = true := by
    rw [show die (elapse dt s) (puaDie p.toNat) = die s (puaDie p.toNat) from rfl, hr]
    decide
  exact congrArg Host.Outcome.next ((if_neg h1).trans (if_neg h2))
theorem agentReset_starts {p : Nat} {s : State} (hf : puaFieldIdx p < s.fields.length)
    (h : resetsWithin s 2 p < obj s (key 0x2C06 0) 3) (reason : Nat) (e : Option Event) :
    (field (decideReset 2 p reason e s) (puaFieldIdx p)).resetRun = some ⟨2, s.now, false, false⟩ := by
  have hb := touches_beforeReset 2 p reason e s
  have hl : puaFieldIdx p < (beforeReset 2 p reason e s).fields.length := (hb.fields_length (by decide)).symm ▸ hf
  rw [decideReset_resets h, startReset_agent]
  rw [field_modField_same _ _ hl, show (beforeReset 2 p reason e s).now = s.now from hb.agrees .now (by decide)]

/-! ### The Gondola's control cores (R61, R62, R272) -/

theorem gondolaFault_decides {d : Nat} {s : State} (hs : (die s d).status = 1) (hr : (die s d).recovering = none) :
    gondolaFault d s = decideReset 3 (diePua d) 3 none s := by
  rw [gondolaFault, hs, hr]
  rfl
theorem puaDie_diePua {d : Nat} (h : d < 4) : puaDie (diePua d) = d :=
  (fields_mkPua h (by decide) (by decide) (by decide) (by decide) (by decide)).2.1
/-- A Gondola that recovers. -/
theorem gondolaFault_recovers {d : Nat} {s : State} (hd4 : d < 4) (hd : d < s.dies.length) (hs : (die s d).status = 1)
    (hr : (die s d).recovering = none) (hn : resetsWithin s 3 (diePua d) < obj s (key 0x2C06 0) 3) :
    let t := gondolaFault d s
    (die t d).recovering = some s.now ∧ (die t d).resetRun = some ⟨3, s.now, false, false⟩ ∧
      t.fields.map Field.still = s.fields.map Field.still ∧
      Touches [.dies, .fields, .clusters, .traces, .views] s t := by
  dsimp only
  rw [gondolaFault_decides hs hr, decideReset_resets hn, startReset_gondola, puaDie_diePua hd4]
  have hb := touches_beforeReset 3 (diePua d) 3 none s
  have hf := fields_still_beforeReset 3 (diePua d) 3 none s
  generalize beforeReset 3 (diePua d) 3 none s = y at hb hf
  have hl : d < y.dies.length := (hb.dies_length (by decide)).symm ▸ hd
  have hnow : y.now = s.now := hb.agrees .now (by decide)
  rw [die_modDie_same y _ hl, modDie_fields, hnow]
  exact ⟨rfl, rfl, hf, .mono (by decide) (hb.trans (touches_modDie _ _ _ fun _ => by rfl))⟩

/-- In the DH-25 fixed logic holds issue in every field while the lockstep cores disagree (R61). -/
def lockstepHold (s : State) : State := if s.variant = .dh25 then (fieldIdxs s).foldl (fun s f => holdField 6 f s) s else s
theorem touches_lockstepHold (s : State) : Touches [.fields, .clusters] s (lockstepHold s) :=
  .ite_same (fun _ => .foldl (fun _ _ => touches_holdField ..) _ _) fun _ => .mono (by decide) (.refl : Touches [] s s)
theorem hold_lockstepHold {s : State} {f : Nat} (hv : s.variant = .dh25) (hf : f ∈ fieldIdxs s) (hl : f < s.fields.length) :
    6 ∈ (field (lockstepHold s) f).holds := by
  rw [lockstepHold, if_pos hv]
  exact (foldl_reaches (Q := fun x => f < x.fields.length) (P := fun x => 6 ∈ (field x f).holds) (f := fun x g => holdField 6 g x) hf hl
    (fun x g h => (Touches.fields_length (touches_holdField 6 g x) (by decide)).symm ▸ h) (fun _ h => mem_holds_holdField_same 6 h)
    fun _ _ _ h => mem_holds_holdField h).2
theorem lockstepDisagreement_recovers (dt d : Nat) (s : State) (hd4 : d < 4) (hd : d < s.dies.length) (hs : (die s d).status = 1)
    (hr : (die s d).recovering = none) (hn : resetsWithin (elapse dt s) 3 (diePua d) < obj s (key 0x2C06 0) 3) :
    ∃ t, exec (.lockstepDisagreement dt d) s = .next t ∧ (die t d).recovering = some (s.now + dt) ∧
      (die t d).resetRun = some ⟨3, s.now + dt, false, false⟩ ∧
      (s.variant = .dh25 → ∀ f ∈ fieldIdxs s, f < s.fields.length → 6 ∈ (field t f).holds) ∧
      Touches recoveryParts (elapse dt s) t := by
  have hy := touches_lockstepHold (elapse dt s)
  have hhold := fun f => hold_lockstepHold (s := elapse dt s) (f := f)
  have hexec : exec (.lockstepDisagreement dt d) s = .next (gondolaFault d (lockstepHold (elapse dt s))) := rfl
  generalize lockstepHold (elapse dt s) = y at hy hhold hexec
  have hdie : die y d = die s d := hy.die_eq (by decide) d
  have hobj : obj y (key 0x2C06 0) 3 = obj s (key 0x2C06 0) 3 := congrArg (fun l => tgetD l (key 0x2C06 0) 3) (hy.agrees .objs (by decide))
  obtain ⟨hrec, hrun, hfields, hT⟩ := gondolaFault_recovers (s := y) hd4
    (by rw [show y.dies = s.dies from hy.agrees .dies (by decide)]; exact hd) (by rw [hdie, hs]) (by rw [hdie, hr])
    (by rw [resetsWithin_of_touches hy (by decide) (by decide) (by decide), hobj]; exact hn)
  have hnow : y.now = s.now + dt := hy.agrees .now (by decide)
  refine ⟨_, hexec, hrec.trans (congrArg some hnow), by rw [hrun, hnow], fun hv f hf hl => ?_, .mono (by decide) (hy.trans hT)⟩
  have hh : (field (gondolaFault d y) f).holds = (field y f).holds := (congrArg Field.holds (getD_congr_map hfields f Field.reset) :)
  exact hh ▸ hhold f hv hf hl

/-! ### Resets out of time (R285) -/

/-- A failed reset is recorded, and its mark ends. -/
def failedReset (code p : Nat) (r : ResetRun) (s : State) : State := endRun code p (resetRecord r p 1 s)
theorem touches_resetRecord (r : ResetRun) (p outcome : Nat) (s : State) :
    Touches [.tallies, .dies, .objs] s (resetRecord r p outcome s) :=
  .mono (by decide) <| .trans (touches_addObj_any s _ 1) (touches_record ..)
theorem obj_resetRecord (r : ResetRun) (p outcome d : Nat) {k : Nat} (hk : k < key 0x2C09 1) (s : State) :
    obj (resetRecord r p outcome s) k d = obj s k d := by
  have hne : k ≠ key 0x2C09 (r.code + 1) := by
    simp only [key] at hk ⊢
    omega
  exact obj_addObj_ne s 1 d hne
theorem resetsWithin_resetRecord (r : ResetRun) (code p q outcome : Nat) (s : State) :
    resetsWithin (resetRecord r p outcome s) code q = resetsWithin s code q :=
  resetsWithin_congr rfl (die_raiseLocal (·.resets) (fun _ _ => rfl) ..) (die_raiseLocal (·.service) (fun _ _ => rfl) ..)
    (obj_resetRecord r p outcome 3600 (by decide) s)
theorem resetTimeout_decides (dt : Nat) {code : Nat} {p : Pua} {r : ResetRun} {s : State} (hc : code = 0 ∨ code = 1)
    (hrun : runningReset s code p.toNat = some r) (ht : r.started + recoveryLimit code ≤ s.now + dt)
    (hr : (die s (puaDie p.toNat)).recovering = none) (hcan : code = 1 → canReturn s code p.toNat = true) :
    exec (.resetTimeout dt p code) s =
      .next (decideReset (nextDomain code) p.toNat 4 none (failedReset code p.toNat r (elapse dt s))) := by
  have h1 : ¬ ((elapse dt s).now < r.started + recoveryLimit code ||
      (code = 1 && !canReturn (elapse dt s) code p.toNat)) = true := by
    have hnot : decide ((elapse dt s).now < r.started + recoveryLimit code) = false := decide_eq_false (Nat.not_lt.mpr ht)
    rw [hnot]
    rcases hc with rfl | rfl
    · simp
    · simp [show canReturn (elapse dt s) 1 p.toNat = true from hcan rfl]
  have h2 : ¬ (code ≠ 3 && code ≠ 7 && (die (elapse dt s) (puaDie p.toNat)).recovering.isSome) = true := by
    rw [show die (elapse dt s) (puaDie p.toNat) = die s (puaDie p.toNat) from rfl, hr]
    simp
  change execResetTimeout dt p code s = _
  unfold execResetTimeout
  dsimp only
  rw [show runningReset (elapse dt s) code p.toNat = some r by rw [← hrun]; rcases hc with rfl | rfl <;> rfl]
  dsimp only
  rw [if_neg h1, if_neg h2]
  rcases hc with rfl | rfl <;> rfl

/-- The failed reset of a core or a cluster, and what the decision on the next domain reads of it. -/
theorem failedReset_core (p : Nat) (r : ResetRun) (s : State) :
    Touches [.tallies, .dies, .cores, .objs] s (failedReset 0 p r s) ∧ (core (failedReset 0 p r s) p).resetRun = none := by
  refine ⟨.mono (by decide) <| .trans (touches_resetRecord ..) (touches_modCore ..), ?_⟩
  change (core (modCore p _ (resetRecord r p 1 s)) p).resetRun = none
  rw [core_modCore_same]
theorem failedReset_cluster (p : Nat) (r : ResetRun) (s : State) :
    Touches [.tallies, .stops, .dies, .clusters, .objs] s (failedReset 1 p r s) :=
  .mono (by decide) <| .trans (touches_resetRecord ..) (touches_modCluster_any ..)
theorem resetsWithin_failedReset {code : Nat} (hc : code = 0 ∨ code = 1) (p c q : Nat) (r : ResetRun) (s : State) :
    resetsWithin (failedReset code p r s) c q = resetsWithin s c q ∧
      obj (failedReset code p r s) (key 0x2C06 0) 3 = obj s (key 0x2C06 0) 3 := by
  have ho := obj_resetRecord r p 1 3 (k := key 0x2C06 0) (by decide) s
  have hw := resetsWithin_resetRecord r c p q 1 s
  rcases hc with rfl | rfl
  · exact ⟨hw, ho⟩
  · exact ⟨hw, ho⟩

/-- A core that does not return: its cluster is reset. -/
theorem resetTimeout_core (dt : Nat) (p : Pua) (r : ResetRun) (s : State) (hrun : (core s p.toNat).resetRun = some r)
    (ht : r.started + recoveryLimit 0 ≤ s.now + dt) (hr : (die s (puaDie p.toNat)).recovering = none)
    (hn : resetsWithin (elapse dt s) 1 p.toNat < obj s (key 0x2C06 0) 3) :
    ∃ t, exec (.resetTimeout dt p 0) s = .next t ∧ (core t p.toNat).resetRun = none ∧
      (cluster t (puaClusterKey p.toNat)).resetRun = some ⟨1, s.now + dt, false, false⟩ ∧ Touches recoveryParts (elapse dt s) t := by
  have hexec := resetTimeout_decides dt (.inl rfl) hrun ht hr (fun h => nomatch h)
  obtain ⟨hy, hcore⟩ := failedReset_core p.toNat r (elapse dt s)
  obtain ⟨hw, ho⟩ := resetsWithin_failedReset (.inl rfl) p.toNat 1 p.toNat r (elapse dt s)
  generalize failedReset 0 p.toNat r (elapse dt s) = y at hexec hy hcore hw ho
  obtain ⟨-, -, hreset, hcores⟩ := clusterReset_starts (s := y) (p := p.toNat) (by rw [hw, ho]; exact hn) 4 none
  have hnow : y.now = s.now + dt := hy.agrees .now (by decide)
  exact ⟨_, hexec, (hcores _).trans hcore, hnow ▸ hreset,
    .mono (List.append_subset.mpr ⟨by decide, List.Subset.refl _⟩) (hy.trans (touches_decision ..))⟩

/-- A field that is reset. -/
theorem fieldReset_starts {p : Nat} {s : State} (hf : puaFieldIdx p < s.fields.length)
    (h : resetsWithin s 4 p < obj s (key 0x2C06 0) 3) (reason : Nat) (e : Option Event) :
    (field (decideReset 4 p reason e s) (puaFieldIdx p)).resetRun = some ⟨4, s.now, false, false⟩ ∧
      8 ∈ (field (decideReset 4 p reason e s) (puaFieldIdx p)).holds := by
  have hb := touches_beforeReset 4 p reason e s
  rw [decideReset_resets h, startReset_field]
  generalize beforeReset 4 p reason e s = y at hb
  have hnow : y.now = s.now := hb.agrees .now (by decide)
  have hz := touches_endResetSlices 4 p y
  generalize endResetSlices 4 p y = z at hz
  have hl : puaFieldIdx p < z.fields.length :=
    (hz.fields_length (by decide)).symm ▸ (hb.fields_length (by decide)).symm ▸ hf
  have hhold := hold_resetFieldClusters hl
  have hl' := (fields_length_resetFieldClusters (puaFieldIdx p) z).symm ▸ hl
  generalize resetFieldClusters (puaFieldIdx p) z = w at hhold hl'
  rw [field_modField_same w _ hl', hnow]
  exact ⟨rfl, hhold⟩
/-- A cluster that does not return: its field is reset. -/
theorem resetTimeout_cluster (dt : Nat) (p : Pua) (r : ResetRun) (s : State) (hrun : (cluster s (puaClusterKey p.toNat)).resetRun = some r)
    (ht : r.started + recoveryLimit 1 ≤ s.now + dt) (hr : (die s (puaDie p.toNat)).recovering = none)
    (hcan : canReturn s 1 p.toNat = true) (hf : puaFieldIdx p.toNat < s.fields.length)
    (hn : resetsWithin (elapse dt s) 4 p.toNat < obj s (key 0x2C06 0) 3) :
    ∃ t, exec (.resetTimeout dt p 1) s = .next t ∧
      (field t (puaFieldIdx p.toNat)).resetRun = some ⟨4, s.now + dt, false, false⟩ ∧
      8 ∈ (field t (puaFieldIdx p.toNat)).holds ∧ Touches recoveryParts (elapse dt s) t := by
  have hexec := resetTimeout_decides dt (.inr rfl) hrun ht hr fun _ => hcan
  have hy := failedReset_cluster p.toNat r (elapse dt s)
  obtain ⟨hw, ho⟩ := resetsWithin_failedReset (.inr rfl) p.toNat 4 p.toNat r (elapse dt s)
  generalize failedReset 1 p.toNat r (elapse dt s) = y at hexec hy hw ho
  have hnow : y.now = s.now + dt := hy.agrees .now (by decide)
  obtain ⟨hreset, hhold⟩ := fieldReset_starts (s := y) (p := p.toNat) (by rw [hy.fields_length (by decide)]; exact hf)
    (by rw [hw, ho]; exact hn) 4 none
  exact ⟨_, hexec, hnow ▸ hreset, hhold,
    .mono (List.append_subset.mpr ⟨by decide, List.Subset.refl _⟩) (hy.trans (touches_decision ..))⟩

/-- Every die that runs stops. -/
def stopDies (s : State) : State := { s with dies := s.dies.map fun x => if x.status = 1 then { x with status := 3 } else x }
/-- A package that does not return: its dies stop. -/
theorem resetTimeout_package (dt : Nat) (p : Pua) (r : ResetRun) (s : State) (hrun : s.packageReset = some r)
    (ht : r.started + recoveryLimit 7 ≤ s.now + dt) :
    ∃ t, exec (.resetTimeout dt p 7) s = .next t ∧ t.packageReset = none ∧ (∀ x ∈ t.dies, x.status ≠ 1) ∧
      Touches recoveryParts (elapse dt s) t := by
  have hexec : exec (.resetTimeout dt p 7) s = .next (stopDies (failedReset 7 p.toNat r (elapse dt s))) := by
    have h1 : ¬ ((elapse dt s).now < r.started + recoveryLimit 7 || ((7 : Nat) = 1 && !canReturn (elapse dt s) 7 p.toNat)) = true := by
      rw [decide_eq_false (Nat.not_lt.mpr ht : ¬ (elapse dt s).now < r.started + recoveryLimit 7)]
      simp
    change execResetTimeout dt p 7 s = _
    unfold execResetTimeout
    dsimp only
    rw [show runningReset (elapse dt s) 7 p.toNat = some r from hrun]
    dsimp only
    rw [if_neg h1]
    rfl
  have hy : Touches [.tallies, .dies, .packageReset, .objs] (elapse dt s) (failedReset 7 p.toNat r (elapse dt s)) :=
    .mono (by decide) <| .trans (touches_resetRecord r p.toNat 1 (elapse dt s)) (touches_update [.packageReset] rfl)
  refine ⟨_, hexec, rfl, fun x hx => ?_, .mono (by decide) (hy.trans (touches_dies _ _ fun x => by
    split <;> rfl : Touches [.dies] _ (stopDies _)))⟩
  obtain ⟨y, -, rfl⟩ := List.mem_map.mp hx
  split
  · exact (by decide : (3 : Nat) ≠ 1)
  · assumption

/-! ### The reset of a die after its transit drain (R284) -/

theorem transitDrainEnd_resets (dt d : Nat) (r : ResetRun) (s : State) (hd : d < s.dies.length) (hrun : (die s d).resetRun = some r)
    (hdrain : r.draining = true) (hl : d * 6 + 6 ≤ s.fields.length) (hc : ∀ c ∈ s.commits, .around (diePua d) ∉ c.bindings) :
    ∃ t, exec (.transitDrainEnd dt d) s = .next t ∧
      (die t d).resetRun = some { r with draining := false, started := s.now + dt } ∧
      (∀ i < 6, 8 ∈ (field t (d * 6 + i)).holds) ∧ Touches (.dies :: clusterResetParts) (elapse dt s) t := by
  have hcond : (r.draining && !(elapse dt s).commits.any (fun c => c.bindings.contains (.around (diePua d)))) = true := by
    rw [hdrain, Bool.true_and, Bool.not_eq_true', List.any_eq_false]
    exact fun c hm => by simpa using hc c hm
  have hexec : exec (.transitDrainEnd dt d) s = .next (modDie d (fun x => { x with
      resetRun := some { r with draining := false, started := s.now + dt } }) (resetDieClusters d (elapse dt s))) := by
    change execTransitDrainEnd dt d s = _
    unfold execTransitDrainEnd
    dsimp only
    rw [show (die (elapse dt s) d).resetRun = some r from hrun]
    exact congrArg Host.Outcome.next (if_pos hcond)
  have hy := touches_resetDieClusters d (elapse dt s)
  have hhold : ∀ i < 6, 8 ∈ (field (resetDieClusters d (elapse dt s)) (d * 6 + i)).holds := fun i hi =>
    hold_resetDieClusters hi (by show d * 6 + i < s.fields.length; omega)
  generalize resetDieClusters d (elapse dt s) = y at hexec hy hhold
  have hld : d < y.dies.length := (hy.dies_length (by decide)).symm ▸ hd
  refine ⟨_, hexec, ?_, hhold, .mono (by decide) (hy.trans (touches_modDie _ _ _ fun _ => by rfl : Touches [.dies] y _))⟩
  rw [die_modDie_same y _ hld]

end Sys2Proof.Machine
end

section
/-!
SUPPORT. A Bridle past its escalation count: it is charged with the decisive cause 0x17 and is Quarantined (R228, R231, R298).
-/
namespace Sys2Proof.Machine
open Sys2Proof

/-! ### What rebinding leaves of states and counts -/

/-- From `s` to `t` no unit takes another state or cause, and the count 0x2C14:01 stays. -/
structure Settled (s t : State) : Prop where
  state : ∀ p, (unitRec t p).state = (unitRec s p).state
  cause : ∀ p, (unitRec t p).cause = (unitRec s p).cause
  count : obj t (key 0x2C14 1) 0 = obj s (key 0x2C14 1) 0

theorem Settled.refl (s : State) : Settled s s := ⟨fun _ => rfl, fun _ => rfl, rfl⟩
theorem Settled.trans {s t u : State} (h : Settled s t) (g : Settled t u) : Settled s u :=
  ⟨fun p => (g.state p).trans (h.state p), fun p => (g.cause p).trans (h.cause p), g.count.trans h.count⟩
theorem Settled.foldl {α : Type} {f : State → α → State} (h : ∀ x a, Settled x (f x a)) (l : List α) (s : State) :
    Settled s (l.foldl f s) := by
  induction l generalizing s with
  | nil => exact .refl s
  | cons a r ih => exact (h s a).trans (ih _)
theorem Settled.ite {s a b : State} {c : Prop} [Decidable c] (h : c → Settled s a) (g : ¬ c → Settled s b) :
    Settled s (if c then a else b) := by
  split
  · exact h ‹_›
  · exact g ‹_›
/-- An operation that changes neither units nor counts. -/
theorem Touches.settled {S : List Part} {s t : State} (h : Touches S s t) (hu : Part.units ∉ S) (ho : Part.objs ∉ S) : Settled s t := by
  have hunit : ∀ p, unitRec t p = unitRec s p := fun p => by
    rw [unitRec, unitRec, show t.units = s.units from h.agrees .units hu]
  exact ⟨fun p => congrArg UnitRec.state (hunit p), fun p => congrArg UnitRec.cause (hunit p),
    congrArg (fun l => tgetD l (key 0x2C14 1) 0) (h.agrees .objs ho)⟩
/-- A change of a unit that leaves its state and cause. -/
theorem settled_modUnit (p : Nat) {f : UnitRec → UnitRec} (s : State) (hs : ∀ r, (f r).state = r.state) (hc : ∀ r, (f r).cause = r.cause) :
    Settled s (modUnit p f s) := by
  refine ⟨fun q => ?_, fun q => ?_, rfl⟩
  · by_cases hq : q = p
    · rw [hq, unitRec_modUnit_same, hs]
    · rw [unitRec_modUnit_ne s f hq]
  · by_cases hq : q = p
    · rw [hq, unitRec_modUnit_same, hc]
    · rw [unitRec_modUnit_ne s f hq]
theorem settled_setOpen (p : Nat) (b : Bool) (s : State) : Settled s (setOpen p b s) := settled_modUnit p s (fun _ => rfl) fun _ => rfl
theorem settled_addObj {k : Nat} (n : Nat) (s : State) (h : key 0x2C14 1 ≠ k) : Settled s (addObj k n s) :=
  ⟨fun _ => rfl, fun _ => rfl, obj_addObj_ne s n 0 h⟩
theorem obj_setObjs {l : List (Nat × Nat)} {k : Nat} (d : Nat) (s : State) (h : ∀ e ∈ l, k ≠ e.1) : obj (setObjs l s) k d = obj s k d := by
  refine List.foldlRecOn (motive := fun x => obj x k d = obj s k d) l _ rfl fun x hx e he => ?_
  rw [obj_setObj_ne x _ d (h e he), hx]
theorem unitRec_setObjs (l : List (Nat × Nat)) (s : State) (p : Nat) : unitRec (setObjs l s) p = unitRec s p := by
  have hu : (setObjs l s).units = s.units :=
    List.foldlRecOn (motive := fun x : State => x.units = s.units) l _ rfl fun _ hx _ _ => hx
  rw [unitRec, hu, unitRec]
theorem settled_setObjs {l : List (Nat × Nat)} (s : State) (h : ∀ e ∈ l, key 0x2C14 1 ≠ e.1) : Settled s (setObjs l s) := by
  exact ⟨fun p => congrArg UnitRec.state (unitRec_setObjs l s p), fun p => congrArg UnitRec.cause (unitRec_setObjs l s p),
    obj_setObjs 0 s h⟩

theorem settled_capacityEvent (via k f cause : Nat) (s : State) : Settled s (capacityEvent via k f cause s) :=
  (settled_addObj 1 s (by decide)).trans ((touches_recordVia ..).settled (by decide) (by decide))
theorem settled_endSlice (via k : Nat) (s : State) : Settled s (endSlice via k s) := (touches_endSlice ..).settled (by decide) (by decide)
theorem settled_requestCommit (bs : List Binding) (qs : List (Nat × Nat)) (us : List Nat) (cause : Nat) (s : State) :
    Settled s (requestCommit bs qs us cause s) := (touches_requestCommit ..).settled (by decide) (by decide)
theorem settled_withholdCore (p : Nat) (s : State) : Settled s (withholdCore p s) := (touches_withholdCore ..).settled (by decide) (by decide)
theorem settled_dropBinding (b : Binding) (s : State) : Settled s (dropBinding b s) := (touches_dropBinding ..).settled (by decide) (by decide)
theorem settled_publishSwap (lcn w sp : Nat) (s : State) : Settled s (publishSwap lcn w sp 1 s) :=
  (settled_addObj 1 s (by decide)).trans <| (settled_setObjs _ (by simp [key])).trans
    ((touches_recordSeq ..).settled (by decide) (by decide))
theorem settled_dropSwap (ck : Nat) (s : State) : Settled s (dropSwap ck s) := by
  refine .foldl (fun x b => ?_) _ _
  split
  · exact (settled_dropBinding ..).trans <| (settled_setOpen ..).trans <| (settled_setOpen ..).trans (settled_publishSwap ..)
  · exact .refl x
theorem settled_rebindCluster (l ck : Nat) (toBallast : Bool) (us : List Nat) (cause : Nat) (s : State) :
    Settled s (rebindCluster l ck toBallast us cause s) := by
  unfold rebindCluster
  dsimp only
  split
  · exact (settled_addObj _ s (by decide)).trans (settled_requestCommit ..)
  · exact (settled_addObj _ s (by decide)).trans <| (settled_requestCommit ..).trans <|
      .ite (fun _ => .refl _) fun _ => settled_capacityEvent ..
theorem settled_rebindCore (p lcn cause : Nat) (s : State) : Settled s (rebindCore p lcn cause s) := by
  have hopen : Settled s (setOpen p true (withholdCore p (dropSwap (puaClusterKey p) s))) :=
    (settled_dropSwap ..).trans <| (settled_withholdCore ..).trans (settled_setOpen ..)
  unfold rebindCore
  dsimp only
  split
  · exact hopen.trans <| .ite (fun _ => settled_requestCommit ..) fun _ =>
      (settled_addObj 1 _ (by decide)).trans (settled_rebindCluster ..)
  · exact hopen.trans (settled_rebindCluster ..)
theorem settled_laneOut (p cause : Nat) (s : State) : Settled s (laneOut p cause s) := by
  unfold laneOut
  dsimp only
  split
  · exact .refl s
  · split
    · exact (settled_setOpen ..).trans (settled_requestCommit ..)
    · exact (settled_setOpen ..).trans <| (settled_requestCommit ..).trans <|
        .foldl (fun _ _ => (settled_capacityEvent ..).trans (settled_endSlice ..)) _ _
theorem settled_rechoose (p : Nat) (s : State) : Settled s (rechoose p s) := by
  unfold rechoose
  dsimp only
  refine .foldl (fun x w => ?_) _ _
  refine (settled_dropBinding w.1 x).trans ?_
  generalize dropBinding w.1 x = y
  split
  · exact settled_rebindCore ..
  · exact (Settled.ite (fun _ => settled_publishSwap ..) fun _ => .refl y).trans <| (settled_setOpen ..).trans (settled_setOpen ..)
  · exact settled_laneOut ..
  · exact settled_rebindCluster ..
  · exact .refl y
theorem settled_clusterOut (ck : Nat) (us : List Nat) (cause : Nat) (s : State) : Settled s (clusterOut ck us cause s) := by
  unfold clusterOut
  split
  · exact (Settled.foldl (fun _ _ => settled_withholdCore ..) _ s).trans <|
      (Settled.foldl (fun _ _ => settled_setOpen ..) _ _).trans (settled_rebindCluster ..)
  · exact .refl s

/-! ### The charge of a Bridle (R228, R231) -/

/-- A unit that moves takes the state and the cause; every other unit and the count 0x2C14:01 stay. -/
theorem unitRec_changeState (p : Nat) (new : UnitState) (cause : Nat) (s : State) :
    (unitRec (changeState p new cause s) p).state = new ∧ (unitRec (changeState p new cause s) p).cause = cause ∧
    (∀ q, q ≠ p → unitRec (changeState p new cause s) q = unitRec s q) ∧
    obj (changeState p new cause s) (key 0x2C14 1) 0 = obj s (key 0x2C14 1) 0 := by
  have hobj := obj_setObjs (k := key 0x2C14 1) (l := [(key 0x290C 1, p), (key 0x290C 2, (unitRec s p).state.code),
    (key 0x290C 3, new.code), (key 0x290C 4, cause)]) 0 s (by simp [key])
  have hset := unitRec_setObjs [(key 0x290C 1, p), (key 0x290C 2, (unitRec s p).state.code), (key 0x290C 3, new.code),
    (key 0x290C 4, cause)] s
  unfold changeState
  dsimp only
  generalize setObjs _ s = x at hset hobj
  have hy := touches_openScreen p new x
  generalize openScreen p new x = y at hy
  have hyu : ∀ q, unitRec y q = unitRec s q := fun q => by
    rw [← hset q, unitRec, unitRec, show y.units = x.units from hy.agrees .units (by decide)]
  generalize hz : modUnit p _ y = z
  have hzu : (unitRec z p).state = new ∧ (unitRec z p).cause = cause ∧ ∀ q, q ≠ p → unitRec z q = unitRec s q := by
    rw [← hz, unitRec_modUnit_same]
    exact ⟨rfl, rfl, fun q hq => (unitRec_modUnit_ne y _ hq).trans (hyu q)⟩
  have hzo : obj z (key 0x2C14 1) 0 = obj s (key 0x2C14 1) 0 := by
    rw [← hobj, ← hz]
    exact congrArg (fun l => tgetD l (key 0x2C14 1) 0) (hy.agrees .objs (by decide))
  exact ⟨hzu.1, hzu.2.1, hzu.2.2, hzo⟩

/-- A unit is still usable, or it has been Quarantined with this cause. -/
def Leaving (b cause : Nat) (s : State) : Prop :=
  usable (stateOf s b) = true ∨ (stateOf s b = .quarantined ∧ (unitRec s b).cause = cause)
theorem leaving_toQuarantined {b cause : Nat} {s : State} (p : Nat) (h : Leaving b cause s) : Leaving b cause (toQuarantined p cause s) := by
  obtain ⟨hstate, hcause, hother, -⟩ := unitRec_changeState p .quarantined cause s
  unfold toQuarantined
  split
  · by_cases hb : b = p
    · subst hb
      exact .inr ⟨hstate, hcause⟩
    · rw [Leaving, stateOf, hother b hb]
      exact h
  · exact h
/-- The unit itself has left once it is moved. -/
theorem quarantined_toQuarantined {b cause : Nat} {s : State} (h : Leaving b cause s) :
    stateOf (toQuarantined b cause s) b = .quarantined ∧ (unitRec (toQuarantined b cause s) b).cause = cause := by
  obtain ⟨hstate, hcause, -⟩ := unitRec_changeState b .quarantined cause s
  unfold toQuarantined
  split
  · exact ⟨hstate, hcause⟩
  · next hn => exact h.resolve_left hn
theorem count_toQuarantined (p cause : Nat) (s : State) :
    obj (toQuarantined p cause s) (key 0x2C14 1) 0 = obj s (key 0x2C14 1) 0 := by
  unfold toQuarantined
  split
  · exact (unitRec_changeState p .quarantined cause s).2.2.2
  · rfl

/-- A Bridle in use leaves with its control core. -/
theorem leaveService_bridle {b cause : Nat} {s : State} (hk : puaKind b = 7) (hb : clusterPua 7 (puaClusterKey b) = b)
    (hu : usable (stateOf s b) = true) :
    stateOf (leaveService .quarantined b cause s) b = .quarantined ∧ (unitRec (leaveService .quarantined b cause s) b).cause = cause ∧
      obj (leaveService .quarantined b cause s) (key 0x2C14 1) 0 = obj s (key 0x2C14 1) 0 := by
  have hguard : ¬ (!usable (unitRec s b).state) = true := by
    rw [show usable (unitRec s b).state = true from hu]
    decide
  have hmoved := quarantined_toQuarantined (leaving_toQuarantined (cause := cause) (clusterPua 6 (puaClusterKey b)) (.inl hu))
  have hcount := (count_toQuarantined b cause (toQuarantined (clusterPua 6 (puaClusterKey b)) cause s)).trans (count_toQuarantined ..)
  unfold leaveService
  dsimp only
  rw [if_neg hguard, hk]
  simp only [if_true, List.foldl_cons, List.foldl_nil, hb]
  generalize toQuarantined b cause (toQuarantined (clusterPua 6 (puaClusterKey b)) cause s) = y at hmoved hcount
  have hrest : Settled y (if (logicalOf s (puaClusterKey b)).isSome then
      clusterOut (puaClusterKey b) [clusterPua 6 (puaClusterKey b), b] cause (rechoose b y) else rechoose b y) :=
    .ite (fun _ => (settled_rechoose b y).trans (settled_clusterOut ..)) fun _ => settled_rechoose b y
  obtain ⟨hstate, hcause⟩ := hmoved
  exact ⟨(hrest.state b).trans hstate, (hrest.cause b).trans hcause, hrest.count.trans hcount⟩

/-- A decisive charge of a Bridle in use whose handling is not open. -/
theorem chargeUnit_bridle {e : Event} {s : State} (hk : puaKind e.pua = 7) (hb : clusterPua 7 (puaClusterKey e.pua) = e.pua)
    (hu : usable (stateOf s e.pua) = true) (ho : (unitRec s e.pua).open_ = false) (hc : e.cause = 0x17) :
    stateOf (chargeUnit e s) e.pua = .quarantined ∧ (unitRec (chargeUnit e s) e.pua).cause = 0x17 ∧
      obj (chargeUnit e s) (key 0x2C14 1) 0 = obj s (key 0x2C14 1) 0 := by
  have hends : faultEnds s e.pua = [e.pua] := by simp [faultEnds, hk]
  have hcount : Settled s (countCause e.cause e.pua s) := by
    rw [hc]
    exact settled_modUnit _ s (fun _ => rfl) fun _ => rfl
  have hdec : (pointsOf e.cause).isNone = true := by rw [hc]; decide
  have hout : chargeUnit e s = leaveService .quarantined e.pua e.cause (countCause e.cause e.pua s) := by
    have hst : stateOf (countCause e.cause e.pua s) e.pua = stateOf s e.pua := hcount.state e.pua
    have hscreen : stateOf s e.pua ≠ .screening := fun h => by
      rw [h] at hu
      exact nomatch hu
    have htake : takeOut e.pua e.cause (countCause e.cause e.pua s) =
        leaveService .quarantined e.pua e.cause (countCause e.cause e.pua s) := by
      simp only [takeOut, hst, if_neg hscreen, hu, if_true]
    rw [← htake]
    unfold chargeUnit
    dsimp only
    split
    · next h => rw [stateOf, h] at hu; exact nomatch hu
    · next h => rw [stateOf, h] at hu; exact nomatch hu
    · next h => rw [stateOf, h] at hu; exact nomatch hu
    · simp only [hends, List.foldl_cons, List.foldl_nil, ho, hdec, Bool.false_eq_true, if_false, if_true]
  have hu' : usable (stateOf (countCause e.cause e.pua s) e.pua) = true := by rw [stateOf, hcount.state]; exact hu
  obtain ⟨h1, h2, h3⟩ := leaveService_bridle (cause := e.cause) hk hb hu'
  rw [hout]
  exact ⟨h1, h2.trans hc, h3.trans hcount.count⟩

/-! ### BRIDLE_PROBE_TIMEOUT past the count (R298) -/

theorem noteOutOfService_counts (code p : Nat) (s : State) :
    obj (noteOutOfService code p s) (key 0x2C14 1) 0 = obj s (key 0x2C14 1) 0 + 1 ∧
      ∀ q, unitRec (noteOutOfService code p s) q = unitRec s q := by
  refine ⟨?_, fun q => ?_⟩
  · have h := obj_setObjs (k := key 0x2C14 1) (l := [(key 0x2C14 2, domainPua code p), (key 0x2C14 3, code)]) 0
      (addObj (key 0x2C14 1) 1 s) (by simp [key])
    exact h.trans (obj_addObj_same s _ 1)
  · rw [unitRec, show (noteOutOfService code p s).units = s.units from (touches_noteOutOfService code p s).agrees .units (by decide),
      unitRec]
theorem bridleProbeTimeout_quarantines (dt : Nat) (p : Pua) (a : Nat) (s : State)
    (hp : (cluster s (puaClusterKey p.toNat)).probed = some a) (ha : a + 10000 ≤ s.now + dt)
    (hr : (die s (puaDie p.toNat)).recovering = none) (hc : (cluster s (puaClusterKey p.toNat)).resetRun = none)
    (ho : (unitRec s (domainPua 1 p.toNat)).open_ = false)
    (hn : obj s (key 0x2C06 0) 3 ≤ resetsWithin (elapse dt s) 1 p.toNat) (hu : usable (stateOf s (domainPua 1 p.toNat)) = true)
    (hk : puaKind (domainPua 1 p.toNat) = 7) (hb : puaClusterKey (domainPua 1 p.toNat) = puaClusterKey p.toNat) :
    ∃ t, exec (.bridleProbeTimeout dt p) s = .next t ∧ stateOf t (domainPua 1 p.toNat) = .quarantined ∧
      (unitRec t (domainPua 1 p.toNat)).cause = 0x17 ∧ obj t (key 0x2C14 1) 0 = obj s (key 0x2C14 1) 0 + 1 ∧
      Touches recoveryParts (elapse dt s) t := by
  have hexec := bridleProbeTimeout_decides dt hp ha hr hc
  have hy : Touches [.stops, .clusters] (elapse dt s) (modCluster (puaClusterKey p.toNat) (fun c => { c with probed := none }) (elapse dt s)) :=
    touches_modCluster_any ..
  generalize modCluster (puaClusterKey p.toNat) _ (elapse dt s) = y at hexec hy
  have hT := hy.trans (touches_decision 1 p.toNat 3 none y)
  have hobj : ∀ k d, obj y k d = obj s k d := fun k d => congrArg (fun l => tgetD l k d) (hy.agrees .objs (by decide))
  have hunit : ∀ q, unitRec y q = unitRec s q := fun q => by
    rw [unitRec, show y.units = s.units from hy.agrees .units (by decide), unitRec]
  have hcond : obj y (key 0x2C06 0) 3 ≤ resetsWithin y 1 p.toNat := by
    rw [hobj, resetsWithin_of_touches hy (by decide) (by decide) (by decide)]
    exact hn
  obtain ⟨hcount, hunits⟩ := noteOutOfService_counts 1 p.toNat y
  have hdecide : decideReset 1 p.toNat 3 none y = chargeUnit
      (stamped (noteOutOfService 1 p.toNat y) (stampKeeper (domainPua 1 p.toNat)) .charge 0x17 0 (domainPua 1 p.toNat) 0
        (puaDie (domainPua 1 p.toNat)) []) (noteOutOfService 1 p.toNat y) := by
    rw [decideReset, if_pos hcond]
    dsimp only
    rfl
  obtain ⟨h1, h2, h3⟩ := chargeUnit_bridle (s := noteOutOfService 1 p.toNat y)
    (e := stamped (noteOutOfService 1 p.toNat y) (stampKeeper (domainPua 1 p.toNat)) .charge 0x17 0 (domainPua 1 p.toNat) 0
      (puaDie (domainPua 1 p.toNat)) []) hk (by
        change clusterPua 7 (puaClusterKey (domainPua 1 p.toNat)) = domainPua 1 p.toNat
        rw [hb]
        rfl) (by rw [stateOf, hunits, hunit]; exact hu) (by rw [hunits, hunit]; exact ho) rfl
  rw [← hdecide] at h1 h2 h3
  exact ⟨_, hexec, h1, h2, h3.trans (hcount.trans (congrArg (· + 1) (hobj ..))),
    .mono (List.append_subset.mpr ⟨by decide, List.Subset.refl _⟩) hT⟩

end Sys2Proof.Machine
end

section
/-!
SUPPORT. Fields that go dark and dies that are fenced: what is fenced or dark stays so, and no event leaves a Gondola's own input
(R29, R298, R321, R351).
-/
namespace Sys2Proof.Machine
open Sys2Proof

/-- From `s` to `t` a fenced field stays fenced, a dark field dark, and no event leaves a Gondola's own input. -/
structure Firm (s t : State) : Prop where
  fenced : ∀ f, (field s f).fenced = true → (field t f).fenced = true
  dark : ∀ f, (field s f).power = 3 → (field t f).power = 3
  events : ∀ d, ∀ e ∈ (die s d).local_, e ∈ (die t d).local_

theorem Firm.refl (s : State) : Firm s s := ⟨fun _ h => h, fun _ h => h, fun _ _ h => h⟩
theorem Firm.trans {s t u : State} (h : Firm s t) (g : Firm t u) : Firm s u :=
  ⟨fun f x => g.fenced f (h.fenced f x), fun f x => g.dark f (h.dark f x), fun d e x => g.events d e (h.events d e x)⟩
theorem Firm.foldl {α : Type} {f : State → α → State} (h : ∀ x a, Firm x (f x a)) (l : List α) (s : State) : Firm s (l.foldl f s) := by
  induction l generalizing s with
  | nil => exact .refl s
  | cons a r ih => exact (h s a).trans (ih _)
theorem Firm.ite {s a b : State} {c : Prop} [Decidable c] (h : c → Firm s a) (g : ¬ c → Firm s b) : Firm s (if c then a else b) := by
  split
  · exact h ‹_›
  · exact g ‹_›
theorem Firm.foldl_fst {α β : Type} {f : State × β → α → State × β} (h : ∀ x a, Firm x.1 (f x a).1) (l : List α)
    (x : State × β) : Firm x.1 (l.foldl f x).1 := by
  induction l generalizing x with
  | nil => exact .refl x.1
  | cons a r ih => exact (h x a).trans (ih _)
/-- An operation that changes neither fields nor dies. -/
theorem Touches.firm {S : List Part} {s t : State} (h : Touches S s t) (hf : Part.fields ∉ S) (hd : Part.dies ∉ S) : Firm s t :=
  ⟨fun f x => h.field_eq hf f ▸ x, fun f x => h.field_eq hf f ▸ x, fun d _ x => h.die_eq hd d ▸ x⟩
theorem local_of_still {s t : State} (h : Still s t) (d : Nat) : (die t d).local_ = (die s d).local_ :=
  (congrArg Die.local_ (h.die d) :)
theorem Still.firm {s t : State} (h : Still s t) : Firm s t := by
  refine ⟨fun f x => ?_, fun f x => ?_, fun d _ x => local_of_still h d ▸ x⟩
  · rw [← x]
    exact (congrArg Field.fenced (h.field f) :)
  · rw [← x]
    exact (congrArg Field.power (h.field f) :)
/-- A change of one field that keeps it fenced and dark. -/
theorem firm_modField_at (i : Nat) {g : Field → Field} (s : State) (hf : (field s i).fenced = true → (g (field s i)).fenced = true)
    (hp : (field s i).power = 3 → (g (field s i)).power = 3) : Firm s (modField i g s) := by
  refine ⟨fun f x => ?_, fun f x => ?_, fun _ _ h => h⟩
  · rw [field_modField]
    split
    · next h => exact h.1 ▸ hf (h.1 ▸ x)
    · exact x
  · rw [field_modField]
    split
    · next h => exact h.1 ▸ hp (h.1 ▸ x)
    · exact x
theorem firm_modField (i : Nat) {g : Field → Field} (s : State) (hf : ∀ x, x.fenced = true → (g x).fenced = true)
    (hp : ∀ x, x.power = 3 → (g x).power = 3) : Firm s (modField i g s) := firm_modField_at i s (hf _) (hp _)
theorem firm_modDie (d : Nat) {g : Die → Die} (s : State) (h : ∀ x, (g x).local_ = x.local_) : Firm s (modDie d g s) := by
  refine ⟨fun _ x => x, fun _ x => x, fun e x hx => ?_⟩
  rw [die_modDie]
  split
  · exact (h _).symm ▸ hx
  · exact hx
theorem firm_raiseLocal (d : Nat) (e : Event) (s : State) : Firm s (raiseLocal d e s) :=
  ⟨fun _ x => x, fun _ x => x, fun _ _ h => mem_local_raiseLocal h⟩
/-- An operation that changes no dies, and fields in neither respect. -/
theorem firm_holdField (r f : Nat) (s : State) : Firm s (holdField r f s) :=
  (firm_modField f s (fun _ h => by exact h) fun _ h => by exact h).trans (still_holdField r f s).firm

/-! ### Groups and rails (R304, R306, R323) -/

theorem firm_writeVoltage (f e : Nat) (s : State) : Firm s (writeVoltage f e s) :=
  .ite (fun _ => .refl s) fun _ => ((touches_emit ..).firm (by decide) (by decide)).trans <|
    ((touches_discardMargin ..).firm (by decide) (by decide)).trans (firm_modField _ _ (fun _ h => by exact h) fun _ h => by exact h)
theorem firm_grantSlice (fs : List Nat) (e : Nat) (required : Bool) (k : Nat) (s : State) : Firm s (grantSlice fs e required k s) := by
  unfold grantSlice
  dsimp only
  split
  · exact .refl s
  · exact ((touches_setSobjs ..).firm (by decide) (by decide)).trans <|
      (Firm.ite (fun _ => firm_raiseLocal ..) fun _ => .refl _).trans <|
      .ite (fun _ => (touches_modSlice_any ..).firm (by decide) (by decide)) fun _ => (touches_modSlice_any ..).firm (by decide) (by decide)

theorem firm_lowerVoltages (fs : List Nat) (s : State) : Firm s (lowerVoltages fs s) := by
  unfold lowerVoltages
  refine .ite (fun _ => .refl s) fun _ => .foldl (fun x f => ?_) fs s
  split
  · exact firm_writeVoltage ..
  · exact .refl x
/-- The step of one field of a group follows the group's step, and its voltage with it (R306, R344). -/
def followStep (e : Nat) (s : State) (g : Nat) : State :=
  let x := field s g
  if x.power ≠ 2 then s
  else if x.raising = some e then modField g (fun x => { x with targetStep := none }) s
  else if x.step < e then writeVoltage g e s
  else
    let s := if x.raising.any fun r => decide (x.step < r) || decide (e = x.step) then writeVoltage g x.step s else s
    modField g (fun y => { y with targetStep := if e < x.step then some e else none }) s
theorem recomputeGroup_eq (required : Bool) (f : Nat) (s : State) : recomputeGroup required f s =
    let fs := stepGroup s f
    let e := groupStep s fs
    lowerVoltages fs (fs.foldl (followStep e) ((groupSlices s fs).foldl (fun s k => grantSlice fs e required k s) s)) := rfl
theorem firm_followStep (e : Nat) (s : State) (g : Nat) : Firm s (followStep e s g) := by
  unfold followStep
  dsimp only
  split
  · exact .refl s
  split
  · exact firm_modField g s (fun _ h => by exact h) fun _ h => by exact h
  split
  · exact firm_writeVoltage ..
  refine Firm.trans ?_ (firm_modField g _ (fun _ h => by exact h) fun _ h => by exact h)
  split
  · exact firm_writeVoltage ..
  · exact .refl s
theorem firm_recomputeGroup (required : Bool) (f : Nat) (s : State) : Firm s (recomputeGroup required f s) := by
  rw [recomputeGroup_eq]
  exact (Firm.foldl (fun _ _ => firm_grantSlice ..) _ s).trans <| (Firm.foldl (firm_followStep _) _ _).trans (firm_lowerVoltages ..)
theorem firm_recomputeGroups (required : Bool) (fs : List Nat) (s : State) : Firm s (recomputeGroups required fs s) := by
  unfold recomputeGroups
  refine .foldl_fst (x := (s, [])) (fun x f => ?_) fs
  split
  · exact .refl x.1
  · dsimp only
    exact firm_recomputeGroup ..
/-- The rail of a field goes off: what comes before its new power. -/
def railHeld (f : Nat) (s : State) : State :=
  let s := if (field s f).power ≠ 1 then s else
    (stepGroup s f).foldl (fun s g => modField g (fun x => { x with rampCap := 15 }) s) s
  emit (.rail f false) (holdField 11 f s)
theorem railOff_eq (f p : Nat) (s : State) : railOff f p s = stopKeeper (fieldKeeper f) (modField f (fun x => { x with
    power := p, raising := none, back := none, targetStep := none, stretch := none, announced := none, idleSince := none,
    lowSince := none }) (railHeld f s)) := rfl
theorem touches_railHeld (f : Nat) (s : State) : Touches [.fields, .clusters, .output] s (railHeld f s) :=
  .mono (by decide) <| .trans (.ite (fun _ => .refl) fun _ => .foldl (fun _ _ => touches_modField _ _ _ fun _ => by rfl) _ _) <|
    .trans (touches_holdField ..) (touches_emit ..)
theorem firm_railHeld (f : Nat) (s : State) : Firm s (railHeld f s) := by
  have hcaps : Firm s (if (field s f).power ≠ 1 then s else
      (stepGroup s f).foldl (fun s g => modField g (fun x => { x with rampCap := 15 }) s) s) :=
    .ite (fun _ => .refl s) fun _ => .foldl (fun x g => firm_modField g x (fun _ h => by exact h) fun _ h => by exact h) _ s
  exact hcaps.trans <| (firm_holdField ..).trans ((touches_emit ..).firm (by decide) (by decide))
/-- A rail that goes off leaves its field dark, or does not go off in a dark field. -/
theorem firm_railOff {f p : Nat} {s : State} (h : p = 3 ∨ (field s f).power ≠ 3) : Firm s (railOff f p s) := by
  have hpower : (field (railHeld f s) f).power = (field s f).power := (touches_railHeld f s).field_power (by decide) f
  rw [railOff_eq]
  refine (firm_railHeld f s).trans <| Firm.trans (firm_modField_at f _ (fun hf => by exact hf) fun hp => ?_)
    ((touches_stopKeeper ..).firm (by decide) (by decide))
  exact h.resolve_right fun hn => hn (hpower ▸ hp)
theorem power_railOff {f p : Nat} {s : State} (hf : f < s.fields.length) : (field (railOff f p s) f).power = p := by
  have hl : f < (railHeld f s).fields.length := ((touches_railHeld f s).fields_length (by decide)).symm ▸ hf
  rw [railOff_eq]
  refine (congrArg Field.power ((touches_stopKeeper ..).field_eq (by decide) f)).trans ?_
  rw [field_modField_same _ _ hl]

/-! ### The end of a shutdown and of a slice (R288, R294) -/

theorem firm_reachTarget (s : State) : Firm s (reachTarget s) := by
  unfold reachTarget
  dsimp only
  refine Firm.trans (t := { s with ripcord := { s.ripcord with reached := true } })
    ((touches_ripcord ..).firm (by decide) (by decide)) <| .ite (fun _ => .refl _) fun _ => .foldl (fun x f => ?_) _ _
  exact .ite (fun _ => .refl x) fun h => firm_railOff (.inr h)
theorem firm_saveTraining (d : Nat) (units : Option (List Nat)) (s : State) : Firm s (saveTraining d units s) := by
  unfold saveTraining
  dsimp only
  generalize hx : modDie d _ s = x
  have hfirst : Firm s x := by
    rw [← hx]
    exact firm_modDie d s fun _ => by rfl
  refine hfirst.trans ?_
  split
  · exact (touches_setObj_any ..).firm (by decide) (by decide)
  · exact ((touches_setObj_any ..).trans (touches_editStores ..)).firm (by decide) (by decide)
theorem firm_selfTestRecord (complete longest : Nat) (s : State) : Firm s (selfTestRecord complete longest s) := by
  unfold selfTestRecord
  dsimp only
  exact .ite (fun _ => .refl s) fun _ =>
    ((touches_update [.kept, .keptB] rfl : Touches [.kept, .keptB] s _).firm (by decide) (by decide)).trans (firm_raiseLocal ..)
theorem firm_endShutdown (s : State) : Firm s (endShutdown s) := by
  unfold endShutdown
  dsimp only
  refine .ite (fun _ => .refl s) fun _ => .ite (fun _ => firm_reachTarget s) fun _ => .ite (fun _ => .refl s) fun _ => ?_
  exact (Firm.foldl (fun _ _ => firm_saveTraining ..) _ s).trans <|
    (Firm.ite (fun _ => .refl _) fun _ => (firm_selfTestRecord ..).trans ((touches_setObj_any ..).firm (by decide) (by decide))).trans
      (firm_reachTarget _)
theorem firm_capacityEvent (via k f cause : Nat) (s : State) : Firm s (capacityEvent via k f cause s) :=
  ((touches_addObj_any s _ 1).firm (by decide) (by decide)).trans (firm_raiseLocal ..)
theorem firm_loseRegion (d r : Nat) (s : State) : Firm s (loseRegion d r s) := by
  unfold loseRegion
  dsimp only
  have hfirst : Firm s (modDie d (fun x => { x with regions := tset x.regions r none }) s) := firm_modDie d s fun _ => by rfl
  generalize modDie d _ s = y at hfirst
  refine hfirst.trans ?_
  split
  · exact firm_modDie d y fun _ => by rfl
  · exact firm_modDie d y fun _ => by rfl
  · exact .refl y
theorem firm_placeRegion (d r : Nat) (s : State) : Firm s (placeRegion d r s) := by
  unfold placeRegion
  split
  · exact .refl s
  · next p _ =>
    dsimp only
    have hfirst : Firm s (modDie d (fun x => { x with regions := tset x.regions r (some p) }) s) := firm_modDie d s fun _ => by rfl
    generalize modDie d _ s = y at hfirst
    refine hfirst.trans <| Firm.trans ?_ (firm_capacityEvent ..)
    split
    · exact ⟨fun _ h => h, fun _ h => h, fun _ _ h => h⟩
    · exact .refl y
theorem firm_refreshRegions (s : State) : Firm s (refreshRegions s) := by
  unfold refreshRegions
  refine .foldl (fun x d => .foldl (fun y e => ?_) _ x) _ s
  split
  · exact .ite (fun _ => (firm_loseRegion ..).trans (firm_placeRegion ..)) fun _ => .refl y
  · exact firm_placeRegion ..
theorem firm_refreshIdle (fs : List Nat) (s : State) : Firm s (refreshIdle fs s) :=
  .foldl (fun x f => firm_modField f x (fun _ h => by exact h) fun _ h => by exact h) fs s
theorem touches_teardownCounts (took : Nat) (timedOut : Bool) (s : State) : Touches [.tallies, .objs] s
    (if timedOut then addObj (key 0x2C12 2) 1 (addObj (key 0x2C12 1) 1 (maxObj (key 0x2C12 3) took s))
      else addObj (key 0x2C12 1) 1 (maxObj (key 0x2C12 3) took s)) :=
  .mono (by decide) <| .trans (touches_maxObj _ _ _ (by decide)) <| .trans (touches_addObj_any ..) <|
    .ite (fun _ => touches_addObj_any ..) fun _ => .refl
theorem firm_endTeardown (k : Nat) (timedOut : Bool) (s : State) : Firm s (endTeardown k timedOut s) := by
  unfold endTeardown
  dsimp only
  split
  · exact .refl s
  split
  · exact .refl s
  refine ((touches_clearClusters k s).firm (by decide) (by decide)).trans ?_
  generalize clearClusters k s = x
  exact Firm.trans (Touches.firm (touches_update [.transfers, .follows, .inFlight] (by rfl)) (by decide) (by decide)) <|
    (firm_raiseLocal ..).trans <| ((touches_modSlice_any ..).firm (by decide) (by decide)).trans <|
    ((touches_teardownCounts _ timedOut _).firm (by decide) (by decide)).trans <|
    ((Touches.foldl (fun _ _ => touches_assignAdoptive ..) _ _).firm (by decide) (by decide)).trans <|
    (firm_recomputeGroups ..).trans <| ((touches_refreshReservoirs ..).firm (by decide) (by decide)).trans <|
    (firm_refreshIdle ..).trans <| ((touches_syncQualifying ..).firm (by decide) (by decide)).trans <|
    (firm_refreshRegions _).trans (firm_endShutdown _)

end Sys2Proof.Machine
end

section
/-!
SUPPORT. What a fenced field and a fenced die are: dark for the rest of the run (R29, R298, R321, R351).
-/
namespace Sys2Proof.Machine
open Sys2Proof

theorem firm_checkQuiesce (k : Nat) (s : State) : Firm s (checkQuiesce k s) := by
  unfold checkQuiesce
  split
  · exact .refl s
  · exact .ite (fun _ => firm_endTeardown ..) fun _ => .refl s
theorem firm_endSlice (via k : Nat) (s : State) : Firm s (endSlice via k s) := by
  unfold endSlice
  split
  · exact .refl s
  · exact .ite (fun _ => .refl s) fun _ => ((touches_stopSlice ..).firm (by decide) (by decide)).trans (firm_raiseLocal ..)
theorem firm_endInvalid (f cause : Nat) (s : State) : Firm s (endInvalid f cause s) :=
  .foldl (fun _ _ => (firm_capacityEvent ..).trans (firm_endSlice ..)) _ s
theorem firm_requestCommit (bs : List Binding) (qs : List (Nat × Nat)) (units : List Nat) (cause : Nat) (s : State) :
    Firm s (requestCommit bs qs units cause s) := by
  unfold requestCommit
  dsimp only
  refine .ite (fun _ => .refl s) fun _ => ?_
  refine Firm.trans (Touches.firm (touches_update [.commits, .nextCommit] (by rfl)) (by decide) (by decide)) <|
    .ite (fun _ => (touches_scheduleCommit ..).firm (by decide) (by decide)) fun _ => firm_raiseLocal ..
theorem firm_checkStack (j : Nat) (s : State) : Firm s (checkStack j s) := by
  unfold checkStack
  dsimp only
  refine .ite (fun _ => .refl s) fun _ => .ite (fun _ => ?_) fun _ => .refl s
  exact Firm.trans (Touches.firm (touches_update [.unreachable] (by rfl)) (by decide) (by decide)) <|
    (Firm.foldl (fun _ _ => firm_capacityEvent ..) _ _).trans (firm_requestCommit ..)
theorem firm_checkStacks (s : State) : Firm s (checkStacks s) := .foldl (fun _ _ => firm_checkStack ..) _ s
theorem firm_emcy (d code detail seq : Nat) (s : State) : Firm s (emcy d code detail seq s) := by
  unfold emcy
  dsimp only
  exact (firm_modDie d s fun _ => by rfl).trans <|
    ((touches_emcyPort ..).trans (touches_emcyPort ..)).firm (by decide) (by decide)
theorem firm_refreshError (d : Nat) (s : State) : Firm s (refreshError d s) := by
  unfold refreshError
  dsimp only
  exact (firm_modDie d s fun _ => by rfl).trans <| .ite (fun _ => firm_emcy ..) fun _ => .refl _
theorem firm_refreshErrors (s : State) : Firm s (refreshErrors s) := .foldl (fun _ _ => firm_refreshError ..) _ s

/-- What happens of a field that goes dark after its rail has gone off: its record, the capacity lost, and what waited for it. -/
def afterDark (f : Nat) (s : State) : State :=
  let s := record 0x3002 (agentPua f) 0 [BitVec.ofNat 8 (f % 6), BitVec.ofNat 8 (field s f).phases.length] s
  let s := (fieldSlices s f).foldl (fun s k => capacityEvent (f / 6) k f 4 s) s
  let s := quietField f (dropFieldCommits f s)
  let s := (s.slices.map (·.1)).foldl (fun s k => checkQuiesce k s) s
  refreshErrors (refreshRegions (checkStacks (endInvalid f 0 s)))
theorem firm_afterDark (f : Nat) (s : State) : Firm s (afterDark f s) := by
  unfold afterDark
  dsimp only
  exact (firm_raiseLocal ..).trans <| (Firm.foldl (fun _ _ => firm_capacityEvent ..) _ _).trans <|
    Firm.trans (((touches_dropFieldCommits ..).trans (touches_quietField ..)).firm (by decide) (by decide)) <|
    (Firm.foldl (fun _ _ => firm_checkQuiesce ..) _ _).trans <| (firm_endInvalid ..).trans <| (firm_checkStacks _).trans <|
    (firm_refreshRegions _).trans (firm_refreshErrors _)
/-- The trace slots of a field stop as it goes dark. -/
def stopFieldSlots (f : Nat) (s : State) : State :=
  (runningSlots s f).foldl (fun s k => match (tget s.traces k).bind (traceCluster s) with
    | some ck => stopSlot k 5 (traceClusterEvent ck 2 s)
    | none => stopSlot k 5 s) s
theorem still_stopFieldSlots (f : Nat) (s : State) : Still s (stopFieldSlots f s) := by
  refine .foldl (fun x k => ?_) _ s
  split
  · exact (still_traceClusterEvent ..).trans (still_stopSlot ..)
  · exact still_stopSlot ..
theorem goDark_eq (f : Nat) (s : State) :
    goDark f s = if (field s f).power = 3 then s else afterDark f (railOff f 3 (stopFieldSlots f s)) := rfl
theorem firm_goDark (f : Nat) (s : State) : Firm s (goDark f s) := by
  rw [goDark_eq]
  exact .ite (fun _ => .refl s) fun _ => (still_stopFieldSlots f s).firm.trans <| (firm_railOff (.inl rfl)).trans (firm_afterDark ..)
theorem power_goDark {f : Nat} {s : State} (hf : f < s.fields.length) : (field (goDark f s) f).power = 3 := by
  rw [goDark_eq]
  split
  · assumption
  · have hl : f < (stopFieldSlots f s).fields.length := by
      have h := congrArg List.length (still_stopFieldSlots f s).fields
      simp only [List.length_map] at h
      exact h ▸ hf
    exact (firm_afterDark ..).dark f (power_railOff hl)

/-! ### Bridles and fences (R236, R298) -/

theorem firm_openScreen (p : Nat) (new : UnitState) (s : State) : Firm s (openScreen p new s) := by
  have hidle : Firm s (restartIdle p s) :=
    .ite (fun _ => .refl s) fun _ => firm_modField _ s (fun _ h => by exact h) fun _ h => by exact h
  unfold openScreen
  dsimp only
  exact Firm.trans (Firm.ite (fun _ => hidle) fun _ => .refl s) <|
    Touches.firm (touches_update [.screens] (by rfl)) (by decide) (by decide)
theorem firm_recordSeq (code p sl : Nat) (payload : List Byte) (keys : List (Nat × Nat)) (s : State) :
    Firm s (recordSeq code p sl payload keys s) := firm_raiseLocal ..
theorem firm_changeState (p : Nat) (new : UnitState) (cause : Nat) (s : State) : Firm s (changeState p new cause s) := by
  unfold changeState
  dsimp only
  refine Firm.trans ?_ (firm_recordSeq ..)
  refine Firm.trans ?_ ((touches_modUnit ..).firm (by decide) (by decide))
  exact ((touches_setObjs _ _ (by simp [tallyKeys, key])).firm (by decide) (by decide)).trans (firm_openScreen ..)
theorem firm_chargeBridle (ck : Nat) (s : State) : Firm s (chargeBridle ck s) := by
  unfold chargeBridle
  dsimp only
  split
  · exact .refl s
  · exact .refl s
  · exact .refl s
  · refine ((touches_countCause ..).firm (by decide) (by decide)).trans (.foldl (fun x u => ?_) _ _)
    exact .ite (fun _ => (firm_changeState ..).trans ((touches_modUnit ..).firm (by decide) (by decide))) fun _ =>
      .ite (fun _ => firm_changeState ..) fun _ => .refl x
theorem firm_quarantineBridles (f : Nat) (s : State) : Firm s (quarantineBridles f s) := .foldl (fun _ _ => firm_chargeBridle ..) _ s
/-- A field that a fence takes, before its Bridles. -/
theorem firm_fence (f : Nat) (s : State) : Firm s (modField f (fun x => { x with fenced := true }) s) :=
  firm_modField f s (fun _ _ => rfl) fun _ h => by exact h
theorem firm_fenceField (f : Nat) (s : State) : Firm s (fenceField f s) :=
  (firm_fence f s).trans <| (firm_goDark ..).trans (firm_quarantineBridles ..)
/-- A fenced field is fenced and dark. -/
theorem field_fenceField {f : Nat} {s : State} (hf : f < s.fields.length) :
    (field (fenceField f s) f).fenced = true ∧ (field (fenceField f s) f).power = 3 := by
  have hfenced : (field (modField f (fun x => { x with fenced := true }) s) f).fenced = true := by
    rw [field_modField_same s _ hf]
  have hl : f < (modField f (fun x => { x with fenced := true }) s).fields.length := by
    rw [fields_length_modField]
    exact hf
  unfold fenceField
  generalize modField f (fun x => { x with fenced := true }) s = y at hfenced hl
  exact ⟨((firm_goDark ..).trans (firm_quarantineBridles f _)).fenced f hfenced, (firm_quarantineBridles f _).dark f (power_goDark hl)⟩
theorem firm_fenceDie (d : Nat) (bridles : Bool) (s : State) : Firm s (fenceDie d bridles s) := by
  unfold fenceDie
  dsimp only
  refine .ite (fun _ => .refl s) fun _ => ?_
  refine Firm.trans (Touches.firm (touches_update [.standby] (by rfl)) (by decide) (by decide)) <|
    (firm_modDie d _ fun _ => by rfl).trans <| Firm.trans (.foldl (fun x i => ?_) _ _) <| (firm_raiseLocal ..).trans (firm_refreshError ..)
  exact .ite (fun _ => firm_fenceField ..) fun _ => (firm_fence ..).trans (firm_goDark ..)
/-- The fence of a die leaves the Anchor role where it is. -/
theorem touches_fenceDie_role (d : Nat) (bridles : Bool) (s : State) : Touches (.standby :: failureParts) s (fenceDie d bridles s) :=
  .mono (by decide) <| .ite (fun _ => .refl) fun _ => .trans (touches_update [.standby] (by rfl)) <| .trans (touches_modDie _
    _ _ fun _ => by rfl) <| .trans (.foldl (fun _ _ => .ite (fun _ => touches_fenceField ..) fun _ => .trans
    (touches_modField _ _ _ fun _ => by rfl) <| touches_goDark ..) _ _) <| .trans (touches_emcyEvent ..) <| touches_refreshError ..

/-- A Field Agent past its escalation count: its field is fenced. -/
theorem agentReset_fences {p : Nat} {s : State} (hf : puaFieldIdx p < s.fields.length)
    (h : obj s (key 0x2C06 0) 3 ≤ resetsWithin s 2 p) (reason : Nat) (e : Option Event) :
    (field (decideReset 2 p reason e s) (puaFieldIdx p)).fenced = true ∧
      (field (decideReset 2 p reason e s) (puaFieldIdx p)).power = 3 := by
  have hl : puaFieldIdx p < (noteOutOfService 2 p s).fields.length := by
    rw [noteOutOfService, raiseLocal_fields]
    exact hf
  rw [decideReset, if_pos h]
  dsimp only
  generalize noteOutOfService 2 p s = y at hl
  exact field_fenceField hl

end Sys2Proof.Machine
end

section
/-!
SUPPORT. LOCKSTEP_FAULT_NOTICE: the standby takes the Anchor role and CD0's Gondola recovers (R57 to R62).
-/
namespace Sys2Proof.Machine
open Sys2Proof

/-! ### The takeover (R58) -/

theorem eraEvent_of_number {s : State} (h : s.seqr.next % 2 ^ 48 ≠ 0) : eraEvent s = s := by
  rw [eraEvent, if_neg]
  simp only [Bool.and_eq_true, decide_eq_true_eq]
  exact fun hx => h hx.1.1
/-- A change of one die that leaves a view of it. -/
theorem map_dies_modDie {α : Type} {g : Die → α} {f : Die → Die} (h : ∀ x, g (f x) = g x) (d : Nat) (s : State) :
    (modDie d f s).dies.map g = s.dies.map g := map_modify_of_eq h _ _
/-- What of a die stays through a takeover. -/
def Die.unsent (x : Die) : Die := { x with returns := [], toAnchor := [] }
theorem dies_unsent_returnEverywhere (n : Numbered) (s : State) :
    (returnEverywhere n s).dies.map Die.unsent = s.dies.map Die.unsent := by
  refine List.foldlRecOn (motive := fun x : State => x.dies.map Die.unsent = s.dies.map Die.unsent) _ _
    (congrArg (List.map Die.unsent) ((touches_mirrorEvent n s).agrees .dies (by decide))) fun x hx d _ => ?_
  split
  · exact hx
  · exact (map_dies_modDie (fun _ => by rfl) d x).trans hx
/-- A numbered event returns to every die that is not fenced. -/
theorem mem_returns_returnEverywhere (n : Numbered) {d : Nat} {s : State} (hd : d ∈ dieIdxs s) (hl : d < s.dies.length)
    (hs : (die s d).status ≠ 2) : n ∈ (die (returnEverywhere n s) d).returns := by
  have hm := (touches_mirrorEvent n s).agrees .dies (by decide)
  refine (foldl_reaches (Q := fun x => d < x.dies.length ∧ (die x d).status ≠ 2) (P := fun x => n ∈ (die x d).returns)
    hd (s := mirrorEvent n s) (by rw [die, show (mirrorEvent n s).dies = s.dies from hm]; exact ⟨hl, hs⟩)
    (fun x e hx => ?_) (fun x hx => ?_) fun x e hx hn => ?_).2
  · split
    · exact hx
    · refine ⟨by rw [modDie_dies, List.length_modify]; exact hx.1, ?_⟩
      rw [die_modDie]
      split
      · exact hx.2
      · exact hx.2
  · rw [if_neg hx.2, die_modDie_same x _ hx.1]
    simp
  · split
    · exact hn
    · rw [die_modDie]
      split
      · exact List.mem_append_left _ hn
      · exact hn
theorem next_returnEverywhere (n : Numbered) (s : State) : (returnEverywhere n s).seqr.next = s.seqr.next := by
  have hm : (mirrorEvent n s).seqr.next = s.seqr.next := by
    unfold mirrorEvent
    split <;> rfl
  refine List.foldlRecOn (motive := fun x : State => x.seqr.next = s.seqr.next) _ _ hm fun x hx d _ => ?_
  split
  · exact hx
  · exact hx

/-- The new Anchor begins its duties afresh, and what the dies hold stays. -/
theorem dies_unsent_takeoverStart (s : State) : (takeoverStart s).dies.map Die.unsent = s.dies.map Die.unsent := by
  exact (List.map_map ..).trans (List.map_congr_left fun _ _ => rfl)
theorem touches_restarted (s : State) : Touches [.shapes, .slices, .snapshot, .traces] s (restartSpanning (rescheduleRequests s)) :=
  .mono (by decide) ((touches_rescheduleRequests s).trans (touches_restartSpanning _))
/-- The takeover event has returned: its position is taken and the commits are scheduled afresh. -/
theorem positionTaken (s : State) : (rescheduleCommits (takePosition s)).seqr.next = s.seqr.next + 1 ∧
    (rescheduleCommits (takePosition s)).dies = s.dies ∧ (rescheduleCommits (takePosition s)).takenOver = s.takenOver := by
  have hnext : (takePosition s).seqr.next = s.seqr.next + 1 := rfl
  have hp := touches_takePosition s
  generalize takePosition s = x at hnext hp
  have hc := touches_rescheduleCommits x
  exact ⟨(congrArg Sequencer.next (hc.agrees .seqr (by decide))).trans hnext,
    Eq.trans (hc.agrees .dies (by decide)) (hp.agrees .dies (by decide)),
    Eq.trans (hc.agrees .takenOver (by decide)) (hp.agrees .takenOver (by decide))⟩
/-- The takeover away from the end of an era. -/
theorem anchorTakeover_numbers (cause : Nat) {s : State} (hv : s.variant = .dh100) (hl : s.dies.length = 4)
    (h : s.seqr.mirrored % 2 ^ 48 + 2 < 2 ^ 48) :
    let t := anchorTakeover cause s
    t.takenOver = true ∧ t.seqr.next = s.seqr.mirrored + 2 ∧ t.dies.map Die.unsent = s.dies.map Die.unsent ∧
      ∀ d < 4, (die s d).status ≠ 2 → ∃ n ∈ (die t d).returns, n.event.code = 0x2201 ∧ n.position = s.seqr.mirrored + 1 := by
  have hnext : (takeoverStart s).seqr.next = s.seqr.mirrored + 1 := rfl
  have hvar : (takeoverStart s).variant = .dh100 := hv
  have htaken : (takeoverStart s).takenOver = true := rfl
  have hdies := dies_unsent_takeoverStart s
  dsimp only
  rw [anchorTakeover_eq, eraEvent_of_number (s := takeoverStart s) (by rw [hnext]; omega)]
  generalize takeoverStart s = a at *
  generalize hn : (⟨takeoverEvent a s.seqr.mirrored cause, 1, a.seqr.next⟩ : Numbered) = n
  have hcode : n.event.code = 0x2201 := hn ▸ rfl
  have hposition : n.position = s.seqr.mirrored + 1 := hn ▸ hnext
  have hw := touches_restarted a
  generalize restartSpanning (rescheduleRequests a) = b at hw
  have hb : b.dies.map Die.unsent = s.dies.map Die.unsent :=
    (congrArg (List.map Die.unsent) (hw.agrees .dies (by decide))).trans hdies
  have hlen : b.dies.length = 4 := by
    have hmap := congrArg List.length hb
    rw [List.length_map, List.length_map] at hmap
    exact hmap.trans hl
  have hreturns : ∀ d < 4, (die s d).status ≠ 2 → n ∈ (die (returnEverywhere n b) d).returns := fun d hd hs =>
    mem_returns_returnEverywhere n
      (by rw [dieIdxs, show b.variant = a.variant from hw.agrees .variant (by decide), hvar]; exact List.mem_range.mpr hd)
      (hlen ▸ hd) (by rw [show (die b d).status = (die s d).status from (congrArg Die.status (getD_congr_map hb d Die.reset) :)]; exact hs)
  obtain ⟨hpnext, hpdies, hptaken⟩ := positionTaken (returnEverywhere n b)
  have hlast : (rescheduleCommits (takePosition (returnEverywhere n b))).seqr.next = s.seqr.mirrored + 2 := by
    rw [hpnext, next_returnEverywhere, show b.seqr = a.seqr from hw.agrees .seqr (by decide), hnext]
  rw [eraEvent_of_number (by rw [hlast]; omega)]
  refine ⟨?_, hlast, ?_, fun d hd hs => ⟨n, ?_, hcode, hposition⟩⟩
  · exact hptaken.trans <| Eq.trans ((touches_returnEverywhere n b).agrees .takenOver (by decide)) <|
      Eq.trans (hw.agrees .takenOver (by decide)) htaken
  · rw [hpdies, dies_unsent_returnEverywhere, hb]
  · rw [die, hpdies]
    exact hreturns d hd hs

/-- CD1 in the role, and PT on its keeper. -/
def afterRole (s : State) : State := if (keeper s 1).applied then s else startPt 1 s
theorem takeRole_eq (cause : Nat) (s : State) :
    takeRole cause s = afterRole (if numbersReturned s then anchorTakeover cause s else anchorAtStart cause s) := rfl
theorem touches_afterRole (s : State) : Touches [.ptStarted, .keepers] s (afterRole s) :=
  .ite_same (fun _ => .mono (by decide) (.refl : Touches [] s s)) fun _ => touches_startPt ..
theorem takeRole_numbers (cause : Nat) {s : State} (hr : numbersReturned s = true) (hv : s.variant = .dh100) (hl : s.dies.length = 4)
    (h : s.seqr.mirrored % 2 ^ 48 + 2 < 2 ^ 48) :
    let t := takeRole cause s
    t.takenOver = true ∧ t.seqr.next = s.seqr.mirrored + 2 ∧ t.dies.map Die.unsent = s.dies.map Die.unsent ∧
      ∀ d < 4, (die s d).status ≠ 2 → ∃ n ∈ (die t d).returns, n.event.code = 0x2201 ∧ n.position = s.seqr.mirrored + 1 := by
  obtain ⟨htaken, hnext, hdies, hreturns⟩ := anchorTakeover_numbers cause hv hl h
  dsimp only
  rw [takeRole_eq, if_pos hr]
  generalize anchorTakeover cause s = x at *
  have hT := touches_afterRole x
  generalize afterRole x = y at hT
  have hyd : y.dies = x.dies := hT.agrees .dies (by decide)
  refine ⟨Eq.trans (hT.agrees .takenOver (by decide)) htaken, ?_, hyd.symm ▸ hdies, fun d hd hs => ?_⟩
  · rw [show y.seqr = x.seqr from hT.agrees .seqr (by decide), hnext]
  · rw [die, hyd]
    exact hreturns d hd hs

/-! ### What a Gondola that recovers keeps (R62, R280) -/

theorem returns_startCapture (d code reason consistency domain sections : Nat) (units : List Nat) (cut : Nat)
    (event : Option Event) (s : State) :
    (startCapture d code reason consistency domain sections units cut event s).dies.map Die.returns = s.dies.map Die.returns := by
  unfold startCapture
  split
  · exact map_dies_modDie (fun _ => by rfl) ..
  · exact map_dies_modDie (fun _ => by rfl) ..
theorem returns_beforeReset (code p reason : Nat) (e : Option Event) (s : State) :
    (beforeReset code p reason e s).dies.map Die.returns = s.dies.map Die.returns := by
  refine (map_dies_modDie (fun _ => by rfl) ..).trans ?_
  unfold captureDomain
  split
  · rfl
  · dsimp only
    generalize hy : stopSlots _ 2 s = y
    refine (returns_startCapture ..).trans ?_
    have h := congrArg (List.map Die.returns) (hy ▸ still_stopSlots _ 2 s).dies
    rw [List.map_map, List.map_map] at h
    exact h
theorem returns_gondolaFault {d : Nat} {s : State} (hs : (die s d).status = 1) (hr : (die s d).recovering = none)
    (hn : resetsWithin s 3 (diePua d) < obj s (key 0x2C06 0) 3) (j : Nat) : (die (gondolaFault d s) j).returns = (die s j).returns := by
  rw [gondolaFault_decides hs hr, decideReset_resets hn, startReset_gondola]
  exact getD_congr_map (f := Die.returns) ((map_dies_modDie (fun _ => by rfl) ..).trans (returns_beforeReset ..)) j Die.reset

theorem lockstepFaultNotice_decides (dt : Nat) {s : State} (hs : s.standby = true) (ha : s.anchorDie = 0) (hv : s.variant = .dh100)
    (h1 : (die s 1).status = 1) : exec (.lockstepFaultNotice dt) s = .next (gondolaFault 0 (takeRole 0 (elapse dt s))) := by
  have hcond : ((elapse dt s).standby && (elapse dt s).anchorDie = 0 && (elapse dt s).variant = .dh100 &&
      (die (elapse dt s) 1).status = 1) = true := by
    simp only [Bool.and_eq_true, decide_eq_true_eq]
    exact ⟨⟨⟨hs, ha⟩, hv⟩, h1⟩
  exact congrArg Host.Outcome.next (if_pos hcond)
theorem touches_gondolaFault (d : Nat) (s : State) : Touches recoveryParts s (gondolaFault d s) :=
  .ite_same (fun _ => .mono (List.nil_subset _) (.refl : Touches [] s s)) fun _ => touches_decision ..
theorem touches_lockstepFault (s : State) : Touches recoveryParts s (gondolaFault 0 (takeRole 0 s)) :=
  .mono (List.append_subset.mpr ⟨by decide, List.Subset.refl _⟩) ((touches_takeRole 0 s).trans (touches_gondolaFault ..))

theorem lockstepFaultNotice_numbers (dt : Nat) (s : State) (hst : s.standby = true) (ha : s.anchorDie = 0) (hv : s.variant = .dh100)
    (hl : s.dies.length = 4) (h0 : (die s 0).status = 1) (h1 : (die s 1).status = 1) (hret : numbersReturned s = true)
    (hmir : s.seqr.mirrored % 2 ^ 48 + 2 < 2 ^ 48) (hrec : (die s 0).recovering = none)
    (hn : resetsWithin (elapse dt s) 3 (diePua 0) < obj s (key 0x2C06 0) 3) :
    ∃ t, exec (.lockstepFaultNotice dt) s = .next t ∧ t.anchorDie = 1 ∧ t.standby = false ∧ t.takenOver = true ∧
      (die t 0).recovering = some (s.now + dt) ∧ t.seqr.next = s.seqr.mirrored + 2 ∧
      (∀ d < 4, (die s d).status ≠ 2 → ∃ n ∈ (die t d).returns, n.event.code = 0x2201 ∧ n.position = s.seqr.mirrored + 1) ∧
      Touches recoveryParts (elapse dt s) t := by
  have hexec := lockstepFaultNotice_decides dt hst ha hv h1
  have hframe := touches_lockstepFault (elapse dt s)
  obtain ⟨hanchor, hstandby⟩ := anchor_takeRole 0 (elapse dt s)
  obtain ⟨htaken, hnext, hdies, hreturns⟩ := takeRole_numbers 0 (s := elapse dt s) hret hv hl hmir
  have hT := touches_takeRole 0 (elapse dt s)
  generalize takeRole 0 (elapse dt s) = x at *
  have hdie : Die.unsent (die x 0) = Die.unsent (die s 0) := getD_congr_map hdies 0 Die.reset
  have hxs : (die x 0).status = 1 := Eq.trans (congrArg Die.status hdie :) h0
  have hxr : (die x 0).recovering = none := Eq.trans (congrArg Die.recovering hdie :) hrec
  have hpua : puaDie (diePua 0) = 0 := puaDie_diePua (by decide)
  have hnow : x.now = s.now + dt := hT.agrees .now (by decide)
  have hobjs : x.objs = s.objs := hT.agrees .objs (by decide)
  have hxn : resetsWithin x 3 (diePua 0) < obj x (key 0x2C06 0) 3 := by
    rw [resetsWithin_congr (s := elapse dt s) hnow (by rw [hpua]; exact (congrArg Die.resets hdie :))
      (by rw [hpua]; exact (congrArg Die.service hdie :)) (by rw [obj, hobjs]; rfl), obj, hobjs]
    exact hn
  have hlen : x.dies.length = 4 := by
    have h := congrArg List.length hdies
    rw [List.length_map, List.length_map] at h
    exact h.trans hl
  obtain ⟨hrecovers, -, -, hG⟩ := gondolaFault_recovers (by decide) (by rw [hlen]; decide) hxs hxr hxn
  have hkept := returns_gondolaFault hxs hxr hxn
  generalize gondolaFault 0 x = y at *
  refine ⟨y, hexec, Eq.trans (hG.agrees .anchorDie (by decide)) hanchor, Eq.trans (hG.agrees .standby (by decide)) hstandby,
    Eq.trans (hG.agrees .takenOver (by decide)) htaken, hrecovers.trans (congrArg some hnow), ?_, fun d hd hs => ?_, hframe⟩
  · exact (congrArg Sequencer.next (hG.agrees .seqr (by decide))).trans hnext
  · rw [hkept]
    exact hreturns d hd hs

/-! ### A takeover before numbers have returned (R354) -/

theorem firm_beforeReset (code p reason : Nat) (e : Option Event) (s : State) : Firm s (beforeReset code p reason e s) := by
  refine Firm.trans ?_ (firm_modDie _ _ fun _ => by rfl)
  refine .ite (fun _ => .refl s) fun _ => ?_
  dsimp only
  generalize hy : stopSlots _ 2 s = y
  refine (hy ▸ still_stopSlots _ 2 s).firm.trans ?_
  exact .ite (fun _ => firm_raiseLocal ..) fun _ => firm_modDie _ _ fun _ => by rfl
/-- CD0's Gondola recovers or leaves, and CD1 keeps the role and its events. -/
theorem gondolaFault_keepsRole {s : State} (hv : s.variant = .dh100) (ha : s.anchorDie = 1) :
    Firm s (gondolaFault 0 s) ∧ (gondolaFault 0 s).anchorDie = 1 := by
  unfold gondolaFault
  split
  · exact ⟨.refl s, ha⟩
  by_cases hn : resetsWithin s 3 (diePua 0) < obj s (key 0x2C06 0) 3
  · rw [decideReset_resets hn, startReset_gondola]
    exact ⟨(firm_beforeReset ..).trans (firm_modDie _ _ fun _ => by rfl),
      Eq.trans ((touches_beforeReset 3 (diePua 0) 3 none s).agrees .anchorDie (by decide)) ha⟩
  · rw [decideReset, if_pos (Nat.not_lt.mp hn)]
    dsimp only
    rw [puaDie_diePua (by decide : 0 < 4)]
    have hfirm : Firm s (noteOutOfService 3 (diePua 0) s) :=
      Firm.trans (Touches.firm (touches_update [.objs] rfl) (by decide) (by decide)) (firm_raiseLocal ..)
    have hT := touches_noteOutOfService 3 (diePua 0) s
    generalize noteOutOfService 3 (diePua 0) s = x at hfirm hT
    have hd : Firm x (modDie 0 (fun y => { y with recovering := some x.now }) x) := firm_modDie _ _ fun _ => by rfl
    have hTd : Touches [.dies] x (modDie 0 (fun y => { y with recovering := some x.now }) x) := touches_modDie _ _ _ fun _ => by rfl
    generalize modDie 0 (fun y => { y with recovering := some x.now }) x = y at hd hTd
    have hyv : y.variant = .dh100 := Eq.trans ((hT.trans hTd).agrees .variant (by decide)) hv
    have hya : y.anchorDie = 1 := Eq.trans ((hT.trans hTd).agrees .anchorDie (by decide)) ha
    rw [gondolaOut, if_neg (by rw [hyv]; decide), if_pos (by rw [hya]; decide)]
    exact ⟨hfirm.trans (hd.trans (firm_fenceDie ..)), Eq.trans ((touches_fenceDie_role 0 true y).agrees .anchorDie (by decide)) hya⟩
theorem takeRole_atStart (cause : Nat) {s : State} (hr : numbersReturned s = false) (hl : s.dies.length = 4) :
    ∃ e ∈ (die (takeRole cause s) 1).local_, e.code = 0x2201 := by
  rw [takeRole_eq, hr, if_neg Bool.false_ne_true, (touches_afterRole _).die_eq (by decide)]
  exact ⟨_, mem_local_raiseLocal_self _ (by show 1 < s.dies.length; omega), rfl⟩
theorem lockstepFaultNotice_waits (dt : Nat) (s : State) (hst : s.standby = true) (ha : s.anchorDie = 0) (hv : s.variant = .dh100)
    (hl : s.dies.length = 4) (h1 : (die s 1).status = 1) (hret : numbersReturned s = false) :
    ∃ t, exec (.lockstepFaultNotice dt) s = .next t ∧ t.anchorDie = 1 ∧ (∃ e ∈ (die t 1).local_, e.code = 0x2201) ∧
      Touches recoveryParts (elapse dt s) t := by
  have hexec := lockstepFaultNotice_decides dt hst ha hv h1
  have hframe := touches_lockstepFault (elapse dt s)
  obtain ⟨hanchor, -⟩ := anchor_takeRole 0 (elapse dt s)
  obtain ⟨e, he, hcode⟩ := takeRole_atStart 0 (s := elapse dt s) hret hl
  have hvar : (takeRole 0 (elapse dt s)).variant = .dh100 := Eq.trans ((touches_takeRole 0 (elapse dt s)).agrees .variant (by decide)) hv
  generalize takeRole 0 (elapse dt s) = x at *
  obtain ⟨hfirm, hrole⟩ := gondolaFault_keepsRole hvar hanchor
  exact ⟨_, hexec, hrole, ⟨e, hfirm.events 1 e he, hcode⟩, hframe⟩

end Sys2Proof.Machine
end

section
/-!
THE STATEMENT of probes, heartbeats, watchdog and lockstep (R58, R61, R62, R272, R280, R284, R285, R298).
-/
namespace Sys2Proof.Machine
open Sys2Proof

theorem bridleProbe_notes (dt : Nat) (p : Pua) (s : State) : ∃ t, exec (.bridleProbe dt p) s = .next t ∧
    (cluster t (puaClusterKey p.toNat)).probed = some (s.now + dt) ∧
    (∀ x, x ≠ puaClusterKey p.toNat → cluster t x = cluster s x) ∧ Touches [.stops, .clusters] (elapse dt s) t := by
  refine ⟨_, rfl, ?_, fun x hx => cluster_modCluster_ne (elapse dt s) _ hx, touches_modCluster_any ..⟩
  rw [cluster_modCluster_same]
  rfl
theorem fieldAgentHeartbeatTimeout_resetsOrFences (dt : Nat) (p : Pua) (s : State) (hf : puaFieldIdx p.toNat < s.fields.length)
    (hrun : (field s (puaFieldIdx p.toNat)).resetRun = none) (hfen : (field s (puaFieldIdx p.toNat)).fenced = false)
    (hr : (die s (puaDie p.toNat)).recovering = none) :
    ∃ t, exec (.fieldAgentHeartbeatTimeout dt p) s = .next t ∧
      (resetsWithin (elapse dt s) 2 p.toNat < obj s (key 0x2C06 0) 3 →
        (field t (puaFieldIdx p.toNat)).resetRun = some ⟨2, s.now + dt, false, false⟩) ∧
      (obj s (key 0x2C06 0) 3 ≤ resetsWithin (elapse dt s) 2 p.toNat →
        (field t (puaFieldIdx p.toNat)).fenced = true ∧ (field t (puaFieldIdx p.toNat)).power = 3) ∧
      Touches recoveryParts (elapse dt s) t :=
  ⟨_, fieldAgentHeartbeatTimeout_decides dt hrun hfen hr, fun h => agentReset_starts (s := elapse dt s) hf h 3 none,
    fun h => agentReset_fences (s := elapse dt s) hf h 3 none, touches_decision ..⟩
theorem gondolaWatchdogTimeout_recovers (dt d : Nat) (s : State) (hd4 : d < 4) (hd : d < s.dies.length) (hs : (die s d).status = 1)
    (hr : (die s d).recovering = none) (hn : resetsWithin (elapse dt s) 3 (diePua d) < obj s (key 0x2C06 0) 3) :
    ∃ t, exec (.gondolaWatchdogTimeout dt d) s = .next t ∧ (die t d).recovering = some (s.now + dt) ∧
      (die t d).resetRun = some ⟨3, s.now + dt, false, false⟩ ∧ Touches recoveryParts (elapse dt s) t := by
  obtain ⟨hrec, hrun, -, hT⟩ := gondolaFault_recovers (s := elapse dt s) hd4 hd hs hr hn
  exact ⟨_, rfl, hrec, hrun, .mono (by decide) hT⟩

/-- Settles O10: each command by what it decides on its domain, the escalation count taken first. -/
theorem resetsAndRecoveriesOfUnits : Obligations.ResetsAndRecoveriesOfUnits := by
  refine ⟨fun dt p s => ?_, fun dt p a s hp ha hr hc hn => ?_, fun dt p a s hp ha hr hc ho hn hu hk hb => ?_,
    fun dt p s hf hrun hfen hr => ?_, fun dt d s hd4 hd hs hr hn => ⟨?_, ?_⟩,
    fun dt s hst ha hv hl h0 h1 hret hmir hrec hn => ?_, fun dt s hst ha hv hl h1 hret => ?_,
    fun dt p r s hrun ht hr hn => ?_, fun dt p r s hrun ht hr hcan hf hn => ?_, fun dt p r s hrun ht => ?_,
    fun dt d r s hd hrun hdrain hl hc => ?_⟩
  · obtain ⟨t, hexec, hprobed, hother, hT⟩ := bridleProbe_notes dt p s
    exact ⟨t, hexec, hprobed, hother, (Touches.mono (S := [.stops, .clusters, .turn]) (by decide) hT).eq_blend⟩
  · obtain ⟨t, hexec, hprobed, hrun, hhold, hT⟩ := bridleProbeTimeout_resets dt p a s hp ha hr hc hn
    exact ⟨t, hexec, hprobed, hrun, hhold, hT.eq_blend⟩
  · obtain ⟨t, hexec, hstate, hcause, hcount, hT⟩ := bridleProbeTimeout_quarantines dt p a s hp ha hr hc ho hn hu hk hb
    exact ⟨t, hexec, hstate, hcause, hcount, hT.eq_blend⟩
  · obtain ⟨t, hexec, hreset, hfence, hT⟩ := fieldAgentHeartbeatTimeout_resetsOrFences dt p s hf hrun hfen hr
    exact ⟨t, hexec, hreset, hfence, hT.eq_blend⟩
  · obtain ⟨t, hexec, hrec, hrun, hT⟩ := gondolaWatchdogTimeout_recovers dt d s hd4 hd hs hr hn
    exact ⟨t, hexec, hrec, hrun, hT.eq_blend⟩
  · obtain ⟨t, hexec, hrec, hrun, hhold, hT⟩ := lockstepDisagreement_recovers dt d s hd4 hd hs hr hn
    exact ⟨t, hexec, hrec, hrun, hhold, hT.eq_blend⟩
  · obtain ⟨t, hexec, hanchor, hstandby, htaken, hrecovers, hnext, hreturns, hT⟩ :=
      lockstepFaultNotice_numbers dt s hst ha hv hl h0 h1 hret hmir hrec hn
    exact ⟨t, hexec, hanchor, hstandby, htaken, hrecovers, hnext, hreturns, hT.eq_blend⟩
  · obtain ⟨t, hexec, hanchor, hevent, hT⟩ := lockstepFaultNotice_waits dt s hst ha hv hl h1 hret
    exact ⟨t, hexec, hanchor, hevent, hT.eq_blend⟩
  · obtain ⟨t, hexec, hcore, hrun, hT⟩ := resetTimeout_core dt p r s hrun ht hr hn
    exact ⟨t, hexec, hcore, hrun, hT.eq_blend⟩
  · obtain ⟨t, hexec, hrun, hhold, hT⟩ := resetTimeout_cluster dt p r s hrun ht hr hcan hf hn
    exact ⟨t, hexec, hrun, hhold, hT.eq_blend⟩
  · obtain ⟨t, hexec, hpackage, hdies, hT⟩ := resetTimeout_package dt p r s hrun ht
    exact ⟨t, hexec, hpackage, hdies, hT.eq_blend⟩
  · obtain ⟨t, hexec, hrun, hhold, hT⟩ := transitDrainEnd_resets dt d r s hd hrun hdrain hl hc
    exact ⟨t, hexec, hrun, hhold, (Touches.mono (S := [.stops, .dies, .fields, .cores, .clusters, .recomputes, .tieBreaks, .thirds,
      .traces, .views, .turn]) (by decide) hT).eq_blend⟩

end Sys2Proof.Machine
end

section
/-!
SUPPORT. What a step of an event leaves of the dies: EMCY frames, records and notifications change a die's error register, its
EMCY history, its own input and its interrupts, and nothing of its queues to and from the Anchor.
-/
namespace Sys2Proof.Machine
open Sys2Proof

/-! ### EMCY frames (R445 to R447) -/

theorem dies_emcy (d code detail seq : Nat) (s : State) : (emcy d code detail seq s).dies = (modDie d (fun x =>
    { x with errors := ((code + detail % 256 * 65536 + d * 2 ^ 24) :: x.errors).take 16 }) s).dies :=
  ((touches_emcyPort d false (emcyBytes s d code detail seq) _).trans (touches_emcyPort d true _ _)).agrees .dies (by decide)
/-- An EMCY frame leaves each view of the dies that does not show their EMCY history. -/
theorem map_dies_emcy {α : Type} {g : Die → α} (h : ∀ x l, g { x with errors := l } = g x) (d code detail seq : Nat) (s : State) :
    (emcy d code detail seq s).dies.map g = s.dies.map g := by
  rw [dies_emcy]
  exact map_dies_modDie (fun x => h x _) d s
/-- As `map_dies_emcy`, where the error register does not show either. -/
theorem map_dies_refreshError {α : Type} {g : Die → α} (hr : ∀ x n, g { x with error := n } = g x)
    (h : ∀ x l, g { x with errors := l } = g x) (d : Nat) (s : State) : (refreshError d s).dies.map g = s.dies.map g := by
  have hreg := map_dies_modDie (fun x => hr x (errorRegister s d)) d s
  unfold refreshError
  dsimp only
  split
  · exact (map_dies_emcy h ..).trans hreg
  · exact hreg
theorem die_emcy_ne {d j : Nat} (code detail seq : Nat) (s : State) (h : j ≠ d) : die (emcy d code detail seq s) j = die s j := by
  rw [die, dies_emcy]
  exact die_modDie_ne s _ h
theorem die_refreshError_ne {d j : Nat} (s : State) (h : j ≠ d) : die (refreshError d s) j = die s j := by
  unfold refreshError
  dsimp only
  split
  · exact (die_emcy_ne _ _ _ _ h).trans (die_modDie_ne s _ h)
  · exact die_modDie_ne s _ h

/-! ### What records and notifications leave -/

/-- A die but for its error register, its EMCY history, its own input and its interrupts. -/
def Die.body (x : Die) : Die := { x with error := 0, errors := [], local_ := [], notifyIrq := [] }

/-- From `s` to `t` every die keeps its body. -/
structure Aside (s t : State) : Prop where
  dies : t.dies.map Die.body = s.dies.map Die.body

section
variable {S : List Part} {s t u : State}

theorem Aside.refl (s : State) : Aside s s := ⟨rfl⟩
theorem Aside.trans (h : Aside s t) (g : Aside t u) : Aside s u := ⟨g.dies.trans h.dies⟩
theorem Aside.ite {a b : State} {c : Prop} [Decidable c] (h : c → Aside s a) (g : ¬ c → Aside s b) : Aside s (if c then a else b) := by
  split
  · exact h ‹_›
  · exact g ‹_›
theorem Aside.foldl {α : Type} {f : State → α → State} (h : ∀ x a, Aside x (f x a)) (l : List α) (s : State) :
    Aside s (l.foldl f s) := by
  induction l generalizing s with
  | nil => exact .refl s
  | cons a r ih => exact (h s a).trans (ih _)
theorem Aside.die (h : Aside s t) (d : Nat) : (die t d).body = (die s d).body := getD_congr_map h.dies d _
theorem Aside.length (h : Aside s t) : t.dies.length = s.dies.length := by simpa using congrArg List.length h.dies
/-- An operation that changes no die. -/
theorem Touches.aside (h : Touches S s t) (hd : Part.dies ∉ S) : Aside s t := ⟨congrArg (List.map Die.body) (h.agrees .dies hd)⟩
end

theorem aside_modDie (d : Nat) {f : Die → Die} (s : State) (h : ∀ x, (f x).body = x.body) : Aside s (modDie d f s) :=
  ⟨map_dies_modDie h d s⟩
theorem aside_raiseLocal (d : Nat) (e : Event) (s : State) : Aside s (raiseLocal d e s) := aside_modDie d s fun _ => rfl
theorem aside_emcy (d code detail seq : Nat) (s : State) : Aside s (emcy d code detail seq s) :=
  ⟨map_dies_emcy (fun _ _ => rfl) ..⟩
theorem aside_refreshError (d : Nat) (s : State) : Aside s (refreshError d s) :=
  ⟨map_dies_refreshError (fun _ _ => rfl) (fun _ _ => rfl) ..⟩
theorem aside_refreshErrors (s : State) : Aside s (refreshErrors s) := .foldl (fun _ _ => aside_refreshError ..) _ s
theorem aside_refreshBound (k : Nat) (s : State) : Aside s (refreshBound k s) := by
  unfold refreshBound
  dsimp only
  split
  · exact .refl s
  · exact .ite (fun _ => .refl s) fun _ => ((touches_modSlice_any ..).aside (by decide)).trans (aside_raiseLocal ..)
theorem aside_capacityEvent (via k f cause : Nat) (s : State) : Aside s (capacityEvent via k f cause s) :=
  ((touches_addObj_any s _ 1).aside (by decide)).trans (aside_raiseLocal ..)
theorem aside_endSlice (via k : Nat) (s : State) : Aside s (endSlice via k s) := by
  unfold endSlice
  split
  · exact .refl s
  · exact .ite (fun _ => .refl s) fun _ => ((touches_stopSlice ..).aside (by decide)).trans (aside_raiseLocal ..)
theorem aside_requestCommit (bs : List Binding) (qs : List (Nat × Nat)) (units : List Nat) (cause : Nat) (s : State) :
    Aside s (requestCommit bs qs units cause s) := by
  unfold requestCommit
  dsimp only
  refine .ite (fun _ => .refl s) fun _ => ?_
  exact Aside.trans (Touches.aside (touches_update [.commits, .nextCommit] (by rfl)) (by decide)) <|
    .ite (fun _ => (touches_scheduleCommit ..).aside (by decide)) fun _ => aside_raiseLocal ..

end Sys2Proof.Machine
end

section
/-!
SUPPORT. The arbiter, the sequencer and the checkpoint (R87, R88, R90, R94, R258, R260).
-/
namespace Sys2Proof.Machine
open Sys2Proof

/-! ### The handling queue (R258, R260) -/

/-- A die but for its handling queue, what that has lost, its error register and its EMCY history. -/
def Die.unhandled (x : Die) : Die :=
  { x with handling := [], peak := 0, lost := 0, lastLoss := 0, losing := none, coresAwake := false, error := 0, errors := [] }

theorem touches_enterHandling (d : Nat) (e : Event) (s : State) : Touches [.dies, .ports, .output] s (enterHandling d e s) :=
  .mono (by decide) <| .ite
    (fun _ => .trans (touches_modDie s d _ fun _ => by rfl) <| .ite
      (fun _ => .trans (touches_modDie _ d _ fun _ => by rfl) <| .trans (touches_emcy ..) (touches_refreshError ..)) fun _ => .refl)
    fun _ => touches_modDie s d _ fun _ => by rfl
/-- A loss in the handling queue: the die counts it, and its first one is announced. -/
theorem enterHandling_full {d : Nat} (e : Event) {s : State} (hd : d < s.dies.length) (h : 4096 ≤ (die s d).handling.length) :
    (die (enterHandling d e s) d).handling = (die s d).handling ∧ (die (enterHandling d e s) d).lost = (die s d).lost + 1 ∧
      (die (enterHandling d e s) d).unhandled = (die s d).unhandled ∧ ∀ j, j ≠ d → die (enterHandling d e s) j = die s j := by
  rw [enterHandling, if_pos h]
  dsimp only
  generalize hx : modDie d _ s = x
  have hself : (die x d).handling = (die s d).handling ∧ (die x d).lost = (die s d).lost + 1 ∧
      (die x d).unhandled = (die s d).unhandled := by
    rw [← hx, die_modDie_same s _ hd]
    exact ⟨rfl, rfl, rfl⟩
  have hother : ∀ j, j ≠ d → die x j = die s j := fun j hj => by rw [← hx, die_modDie_ne s _ hj]
  split
  · generalize hy : emcy d 0xFF50 0 0 _ = y
    have hshown : ∀ {α : Type} {g : Die → α}, (∀ x n, g { x with error := n } = g x) → (∀ x l, g { x with errors := l } = g x) →
        g (die (refreshError d y) d) = g (die x d) := fun hr hl => getD_congr_map
      ((map_dies_refreshError hr hl d y).trans <| hy ▸ (map_dies_emcy hl ..).trans (map_dies_modDie (fun x => hr x 129) ..)) d _
    refine ⟨(hshown (g := Die.handling) (fun _ _ => rfl) fun _ _ => rfl).trans hself.1,
      (hshown (g := Die.lost) (fun _ _ => rfl) fun _ _ => rfl).trans hself.2.1,
      (hshown (g := Die.unhandled) (fun _ _ => rfl) fun _ _ => rfl).trans hself.2.2, fun j hj => ?_⟩
    rw [die_refreshError_ne y hj, ← hy, die_emcy_ne _ _ _ _ hj, die_modDie_ne x _ hj, hother j hj]
  · exact ⟨hself.1, hself.2.1, hself.2.2, hother⟩
/-- An event that finds room joins the end of the handling queue. -/
theorem enterHandling_room {d : Nat} (e : Event) {s : State} (hd : d < s.dies.length) (h : (die s d).handling.length < 4096) :
    (die (enterHandling d e s) d).handling = (die s d).handling ++ [e] ∧ (die (enterHandling d e s) d).lost = (die s d).lost ∧
      (die (enterHandling d e s) d).unhandled = (die s d).unhandled ∧ ∀ j, j ≠ d → die (enterHandling d e s) j = die s j := by
  rw [enterHandling, if_neg (Nat.not_le.mpr h), die_modDie_same s _ hd]
  exact ⟨rfl, rfl, rfl, fun j hj => die_modDie_ne s _ hj⟩
/-- Whether it finds room or not, an event changes nothing of the dies but the handling queue that it enters. -/
theorem die_enterHandling {d : Nat} (e : Event) {s : State} (hd : d < s.dies.length) :
    (die (enterHandling d e s) d).unhandled = (die s d).unhandled ∧ ∀ j, j ≠ d → die (enterHandling d e s) j = die s j := by
  rcases Nat.lt_or_ge (die s d).handling.length 4096 with h | h
  · exact (enterHandling_room e hd h).2.2
  · exact (enterHandling_full e hd h).2.2

/-! ### The inputs of an arbiter (R46, R88) -/

theorem touches_freeField (r f : Nat) (s : State) : Touches [.fields, .clusters] s (freeField r f s) :=
  .mono (by decide) <| .trans (touches_modField s f _ fun _ => by rfl) (touches_syncWindows _)
theorem queue_freeField (r f g : Nat) (s : State) : (field (freeField r f s) g).queue = (field s g).queue := by
  have hf : (freeField r f s).fields = (modField f (fun x => { x with holds := dropHold r x.holds }) s).fields :=
    (touches_syncWindows _).agrees .fields (by decide)
  rw [field, hf]
  refine (congrArg Field.queue (field_modField s f g _)).trans ?_
  split <;> rfl
/-- What Bridles pass on joins the end of their Field Agent's queue. -/
theorem queue_drainBridles (n f : Nat) (s : State) : ∃ l, (field (drainBridles n f s) f).queue = (field s f).queue ++ l := by
  induction n generalizing s with
  | zero => exact ⟨[], (List.append_nil _).symm⟩
  | succ n ih =>
    unfold drainBridles
    split
    · exact ⟨[], (List.append_nil _).symm⟩
    · split
      · exact ⟨[], (List.append_nil _).symm⟩
      · next ck c _ =>
        split
        · exact ⟨[], (List.append_nil _).symm⟩
        · next e r _ =>
          dsimp only
          generalize hx : modField f _ s = x
          generalize hy : (if r.length ≤ 32 then _ else _ : State) = y
          have hfields : y.fields = x.fields := by
            rw [← hy]
            split
            · exact (touches_freeCluster 0 ck _ (by decide)).agrees .fields (by decide)
            · rfl
          have hq : ∃ l, (field x f).queue = (field s f).queue ++ l := by
            rw [← hx, field_modField]
            split
            · exact ⟨[e], rfl⟩
            · exact ⟨[], (List.append_nil _).symm⟩
          obtain ⟨l, hl⟩ := ih y
          obtain ⟨m, hm⟩ := hq
          exact ⟨m ++ l, by rw [hl, field, hfields, ← field, hm, List.append_assoc]⟩

theorem touches_takeInput (d i : Nat) (s : State) : Touches [.dies, .fields, .clusters] s (takeInput d i s) :=
  .mono (by decide) <| .ite
    (fun _ => Touches.ite_same (S := [.fields, .clusters])
      (fun _ => .mono (by decide) <| .trans (touches_modField s _ _ fun _ => by rfl) <| .trans (touches_drainBridles ..) (touches_freeField ..))
      fun _ => .mono (by decide) <| .trans (touches_modField s _ _ fun _ => by rfl) (touches_drainBridles ..))
    fun _ => touches_modDie s d _ fun _ => by rfl
/-- The head of a Field Agent's queue leaves it, and nothing of the dies changes. -/
theorem takeInput_agent {i : Nat} (d : Nat) (s : State) (hi : i < 6) : (takeInput d i s).dies = s.dies ∧
    ∃ l, (field (takeInput d i s) (d * 6 + i)).queue = (field s (d * 6 + i)).queue.drop 1 ++ l := by
  rw [takeInput, if_pos hi]
  dsimp only
  generalize hx : modField (d * 6 + i) _ s = x
  have hxd : x.dies = s.dies := by rw [← hx]; rfl
  have hxq : (field x (d * 6 + i)).queue = (field s (d * 6 + i)).queue.drop 1 := by
    rw [← hx, field_modField]
    split
    · rfl
    · next h =>
      have : (field s (d * 6 + i)).queue = [] := by
        rw [field, List.getD_eq_default _ _ (Nat.not_lt.mp fun hl => h ⟨rfl, hl⟩)]
        rfl
      rw [this, List.drop_nil]
  have hyd : (drainBridles 64 (d * 6 + i) x).dies = x.dies := (touches_drainBridles ..).agrees .dies (by decide)
  obtain ⟨l, hl⟩ := queue_drainBridles 64 (d * 6 + i) x
  rw [hxq] at hl
  split
  · exact ⟨Eq.trans ((touches_freeField ..).agrees .dies (by decide)) (hyd.trans hxd), l, (queue_freeField ..).trans hl⟩
  · exact ⟨hyd.trans hxd, l, hl⟩
/-- What a die holds at its own input once an input has been served. -/
def leftLocal (i : Nat) (l : List Event) : List Event := if i < 6 then l else l.drop 1
theorem die_takeInput {d : Nat} (i : Nat) {s : State} (hd : d < s.dies.length) :
    die (takeInput d i s) d = { die s d with local_ := leftLocal i (die s d).local_ } ∧
      ∀ j, j ≠ d → die (takeInput d i s) j = die s j := by
  by_cases hi : i < 6
  · have hdies := (takeInput_agent d s hi).1
    simp only [die, hdies, leftLocal, if_pos hi, implies_true, and_self]
  · rw [takeInput, if_neg hi, die_modDie_same s _ hd, leftLocal, if_neg hi]
    exact ⟨rfl, fun j hj => die_modDie_ne s _ hj⟩

/-! ### ARBITER_FORWARD (R88, R94, R258) -/

/-- A die whose arbiter has sent `e` from input `i` to the Anchor. -/
def sentDie (i : Nat) (e : Event) (x : Die) : Die := { x with
  arbiterLast := i, toAnchor := x.toAnchor ++ [e], unacked := x.unacked ++ [e], counters := tmod x.counters 0x0306 0 (· + 1) }
/-- An event of input `i` goes to the Anchor and to the handling queue. -/
def forwarded (d i : Nat) (e : Event) (s : State) : State := enterHandling d e (modDie d (sentDie i e) (takeInput d i s))

/-- The first input that holds an event, after the one last served. -/
theorem find_input {s : State} {d n last : Nat} {e : Event} (hn : n < 7) (hi : inputHead s d ((last + 1 + n) % 7) = some e)
    (hm : ∀ m < n, inputHead s d ((last + 1 + m) % 7) = none) :
    ((List.range 7).map fun i => (last + 1 + i) % 7).find? (fun i => (inputHead s d i).isSome) = some ((last + 1 + n) % 7) := by
  rw [List.find?_map, Option.map_eq_some_iff]
  refine ⟨n, List.find?_range_eq_some.mpr ⟨?_, List.mem_range.mpr hn, fun j hj => ?_⟩, rfl⟩
  · simp only [Function.comp, hi, Option.isSome_some]
  · simp only [Function.comp, hm j hj, Option.isSome_none, Bool.not_false]
theorem arbiterForward_forwards (dt : Nat) {d n : Nat} {e : Event} {s : State} (hn : n < 7)
    (hfree : sequencerFree s = true ∨ (die s d).toAnchor = []) (hr : e.registers = none) (he : e.ends = none)
    (hi : inputHead s d (((die s d).arbiterLast + 1 + n) % 7) = some e)
    (hm : ∀ m < n, inputHead s d (((die s d).arbiterLast + 1 + m) % 7) = none) :
    exec (.arbiterForward dt d) s = .next (forwarded d (((die s d).arbiterLast + 1 + n) % 7) e (elapse dt s)) := by
  have hgo : ¬ (!sequencerFree (elapse dt s) && !(die (elapse dt s) d).toAnchor.isEmpty) = true := by
    rw [show sequencerFree (elapse dt s) = sequencerFree s from rfl, show die (elapse dt s) d = die s d from rfl]
    rcases hfree with h | h <;> simp [h]
  have hfind := find_input (s := elapse dt s) hn hi hm
  have hhead : inputHead (elapse dt s) d (((die s d).arbiterLast + 1 + n) % 7) = some e := hi
  show execArbiterForward dt d s = _
  unfold execArbiterForward
  dsimp only
  rw [if_neg hgo, show (die (elapse dt s) d).arbiterLast = (die s d).arbiterLast from rfl, hfind]
  simp only [hhead, hr, he]
  rfl

theorem touches_forwarded (d i : Nat) (e : Event) (s : State) :
    Touches [.dies, .fields, .clusters, .ports, .output] s (forwarded d i e s) :=
  .mono (by decide) <| .trans (touches_takeInput ..) <| .trans (touches_modDie _ d (sentDie i e) fun _ => by rfl) (touches_enterHandling ..)
/-- The fields of a Field Agent after its event has been forwarded. -/
theorem queue_forwarded (d : Nat) {i : Nat} (e : Event) (s : State) (hi : i < 6) :
    ∃ l, (field (forwarded d i e s) (d * 6 + i)).queue = (field s (d * 6 + i)).queue.drop 1 ++ l := by
  obtain ⟨l, hl⟩ := (takeInput_agent d s hi).2
  exact ⟨l, (congrArg Field.queue ((touches_enterHandling ..).field_eq (by decide) _)).trans hl⟩
/-- The die before the event enters its handling queue. -/
theorem die_sent {d : Nat} (i : Nat) (e : Event) {s : State} (hd : d < s.dies.length) :
    d < (modDie d (sentDie i e) (takeInput d i s)).dies.length ∧
    die (modDie d (sentDie i e) (takeInput d i s)) d = sentDie i e { die s d with local_ := leftLocal i (die s d).local_ } ∧
      ∀ j, j ≠ d → die (modDie d (sentDie i e) (takeInput d i s)) j = die s j := by
  obtain ⟨hself, hother⟩ := die_takeInput i hd
  have hl : d < (takeInput d i s).dies.length := by rwa [(touches_takeInput d i s).dies_length (by decide)]
  refine ⟨by rwa [dies_length_modDie], by rw [die_modDie_same _ _ hl, hself], fun j hj => ?_⟩
  rw [die_modDie_ne _ _ hj, hother j hj]
theorem die_forwarded {d : Nat} (i : Nat) (e : Event) {s : State} (hd : d < s.dies.length) :
    (die (forwarded d i e s) d).unhandled = (sentDie i e { die s d with local_ := leftLocal i (die s d).local_ }).unhandled ∧
      ∀ j, j ≠ d → die (forwarded d i e s) j = die s j := by
  obtain ⟨hl, hself, hother⟩ := die_sent i e hd
  obtain ⟨hkept, hrest⟩ := die_enterHandling e hl
  exact ⟨hkept.trans (congrArg _ hself), fun j hj => (hrest j hj).trans (hother j hj)⟩
theorem handling_forwarded {d : Nat} (i : Nat) (e : Event) {s : State} (hd : d < s.dies.length) :
    ((die s d).handling.length < 4096 → (die (forwarded d i e s) d).handling = (die s d).handling ++ [e] ∧
      (die (forwarded d i e s) d).lost = (die s d).lost) ∧
    (4096 ≤ (die s d).handling.length → (die (forwarded d i e s) d).handling = (die s d).handling ∧
      (die (forwarded d i e s) d).lost = (die s d).lost + 1) := by
  obtain ⟨hl, hself, -⟩ := die_sent i e hd
  have hh : (die (modDie d (sentDie i e) (takeInput d i s)) d).handling = (die s d).handling := (congrArg Die.handling hself :)
  have hlost : (die (modDie d (sentDie i e) (takeInput d i s)) d).lost = (die s d).lost := (congrArg Die.lost hself :)
  refine ⟨fun h => ?_, fun h => ?_⟩
  · obtain ⟨h1, h2, -⟩ := enterHandling_room e hl (hh ▸ h)
    exact ⟨h1.trans (hh ▸ rfl), h2.trans hlost⟩
  · obtain ⟨h1, h2, -⟩ := enterHandling_full e hl (hh ▸ h)
    exact ⟨h1.trans hh, h2.trans (hlost ▸ rfl)⟩

end Sys2Proof.Machine
end

section
/-!
SUPPORT. EVENT_SEQUENCE: one cycle of the sequencer (R87, R90, R94).
-/
namespace Sys2Proof.Machine
open Sys2Proof

/-! ### Detections (R115) -/

theorem touches_rollModel (s : State) : Touches [.model, .modelIndex] s (rollModel s) :=
  .mono (by decide) <| .ite (fun _ => .refl) fun _ => touches_update [.model, .modelIndex] (by rfl)
theorem touches_checkModel (s : State) : Touches [.modelFlag, .dies, .slices, .ports, .output] s (checkModel s) :=
  .mono (by decide) <| .ite
    (fun _ => .trans (touches_update [.modelFlag] (by rfl)) <| .trans (touches_recordPkg ..) <| .trans (touches_refreshBounds _)
      (touches_refreshErrors _)) fun _ => .refl
theorem aside_checkModel (s : State) : Aside s (checkModel s) := by
  refine .ite (fun _ => ?_) fun _ => .refl s
  exact Aside.trans (Touches.aside (touches_update [.modelFlag] (by rfl)) (by decide)) <| (aside_raiseLocal ..).trans <|
    (Aside.foldl (fun _ _ => aside_refreshBound ..) _ _).trans (aside_refreshErrors _)
theorem touches_countDetection (hour : Nat) (s : State) :
    Touches [.model, .modelIndex, .modelFlag, .dies, .slices, .ports, .output] s (countDetection hour s) :=
  .mono (by decide) <| .trans (touches_rollModel s) <| .trans (touches_update [.model] (by rfl)) (touches_checkModel _)
theorem aside_countDetection (hour : Nat) (s : State) : Aside s (countDetection hour s) :=
  ((touches_rollModel s).aside (by decide)).trans <| Aside.trans (Touches.aside (touches_update [.model] (by rfl)) (by decide))
    (aside_checkModel _)

/-! ### One number (R87, R90, R385) -/

/-- The events of some dies are numbered, one of each die that has one, in the order of the list. -/
structure NumbersHeads (l : List Nat) (s t : State) : Prop where
  next : t.seqr.next = s.seqr.next + l.countP fun d => !(die s d).toAnchor.isEmpty
  checkpoint : t.seqr.checkpoint = s.seqr.checkpoint
  length : t.dies.length = s.dies.length
  rest : ∀ d ∈ l, (die t d).toAnchor = (die s d).toAnchor.drop 1
  others : ∀ d, d ∉ l → (die t d).toAnchor = (die s d).toAnchor
  number : ∀ d ∈ l, ∀ e ∈ (die s d).toAnchor.head?,
    ⟨e, d, s.seqr.next + (l.takeWhile (fun x => x ≠ d)).countP (fun x => !(die s x).toAnchor.isEmpty)⟩ ∈ (die t d).returns
  returns : ∀ d, ∀ n ∈ (die s d).returns, n ∈ (die t d).returns

theorem NumbersHeads.nil (s : State) : NumbersHeads [] s s :=
  ⟨rfl, rfl, rfl, fun _ h => absurd h List.not_mem_nil, fun _ _ => rfl, fun _ h => absurd h List.not_mem_nil, fun _ _ h => h⟩
theorem NumbersHeads.cons {d : Nat} {l : List Nat} {s t u : State} (h : NumbersHeads [d] s t) (g : NumbersHeads l t u) (hd : d ∉ l) :
    NumbersHeads (d :: l) s u := by
  have hwaits : ∀ r : List Nat, d ∉ r → (r.countP fun x => !(die t x).toAnchor.isEmpty) = r.countP fun x => !(die s x).toAnchor.isEmpty :=
    fun r hr => List.countP_congr fun x hx => by
      rw [h.others x fun hm => hr (List.mem_singleton.mp hm ▸ hx)]
  have hother : ∀ j ∈ l, (die t j).toAnchor = (die s j).toAnchor := fun j hj =>
    h.others j fun hm => hd (List.mem_singleton.mp hm ▸ hj)
  refine ⟨?_, g.checkpoint.trans h.checkpoint, g.length.trans h.length, fun j hj => ?_, fun j hj => ?_, fun j hj e he => ?_,
    fun j n hn => g.returns j n (h.returns j n hn)⟩
  · rw [g.next, h.next, hwaits l hd, Nat.add_assoc, ← List.countP_append, List.singleton_append]
  · rcases List.mem_cons.mp hj with rfl | hl
    · rw [g.others j hd, h.rest j List.mem_cons_self]
    · rw [g.rest j hl, hother j hl]
  · rw [g.others j (List.not_mem_of_not_mem_cons hj), h.others j fun hm => List.ne_of_not_mem_cons hj (List.mem_singleton.mp hm)]
  · rcases List.mem_cons.mp hj with rfl | hl
    · have hnum := g.returns j _ (h.number j List.mem_cons_self e he)
      simpa using hnum
    · have hne : d ≠ j := fun heq => hd (heq ▸ hl)
      have hnum := g.number j hl e (by rw [hother j hl]; exact he)
      rw [hwaits _ fun hm => hd ((List.takeWhile_sublist _).mem hm), h.next, Nat.add_assoc, ← List.countP_append,
        List.singleton_append] at hnum
      rwa [List.takeWhile_cons_of_pos (by simpa using hne)]

/-- The number of an event of die `d` on its way back to the dies that wait for it. -/
def withNumber (d : Nat) (e : Event) (s : State) : State :=
  (returnDies s e d).foldl (fun x t => modDie t (fun y => { y with returns := y.returns ++ [⟨e, d, s.seqr.next⟩] }) x)
    (mirrorEvent ⟨e, d, s.seqr.next⟩ (takePosition s))
theorem seqr_withNumber (d : Nat) (e : Event) (s : State) :
    (withNumber d e s).seqr.next = s.seqr.next + 1 ∧ (withNumber d e s).seqr.checkpoint = s.seqr.checkpoint := by
  have hfold : (withNumber d e s).seqr = (mirrorEvent ⟨e, d, s.seqr.next⟩ (takePosition s)).seqr :=
    (Touches.foldl (S := [.dies]) (fun x a => touches_modDie x a _ fun _ => by rfl) _ _).agrees .seqr (by decide)
  rw [hfold, mirrorEvent]
  split <;> exact ⟨rfl, rfl⟩
/-- A number that returns leaves every die as it is but for its list of returned numbers. -/
theorem toAnchor_withNumber (d : Nat) (e : Event) (s : State) : (withNumber d e s).dies.map Die.toAnchor = s.dies.map Die.toAnchor := by
  have hm : (mirrorEvent ⟨e, d, s.seqr.next⟩ (takePosition s)).dies = s.dies :=
    ((touches_takePosition s).trans (touches_mirrorEvent ..)).agrees .dies (by decide)
  exact List.foldlRecOn (motive := fun x : State => x.dies.map Die.toAnchor = s.dies.map Die.toAnchor) _ _ (congrArg _ hm)
    fun x hx t _ => (map_dies_modDie (fun _ => by rfl) t x).trans hx
/-- No number leaves a die's list as another one joins it. -/
theorem returns_appended {t j : Nat} {n m : Numbered} {s : State} (h : n ∈ (die s j).returns) :
    n ∈ (die (modDie t (fun y => { y with returns := y.returns ++ [m] }) s) j).returns := by
  rw [die_modDie]
  split
  · exact List.mem_append_left _ h
  · exact h
theorem returns_withNumber (d : Nat) (e : Event) (s : State) :
    (∀ j, ∀ n ∈ (die s j).returns, n ∈ (die (withNumber d e s) j).returns) ∧
      (d < s.dies.length → ⟨e, d, s.seqr.next⟩ ∈ (die (withNumber d e s) d).returns) := by
  have hm : (mirrorEvent ⟨e, d, s.seqr.next⟩ (takePosition s)).dies = s.dies :=
    ((touches_takePosition s).trans (touches_mirrorEvent ..)).agrees .dies (by decide)
  refine ⟨fun j n hn => ?_, fun hd => ?_⟩
  · refine List.foldlRecOn (motive := fun x : State => n ∈ (die x j).returns) _ _ ?_ fun x hx t _ => returns_appended hx
    rw [die, hm]
    exact hn
  · refine (foldl_reaches (Q := fun x => d < x.dies.length) (P := fun x => ⟨e, d, s.seqr.next⟩ ∈ (die x d).returns)
      (List.mem_eraseDups.mpr List.mem_cons_self : d ∈ returnDies s e d) (hm ▸ hd) (fun x t hx => ?_) (fun x hx => ?_)
      fun x t _ hn => returns_appended hn).2
    · rwa [dies_length_modDie]
    · rw [die_modDie_same x _ hx]
      exact List.mem_append_right _ (List.mem_singleton.mpr rfl)

/-- What follows a number: the slice's end that it causes, and the commit that it schedules. -/
theorem aside_giveNumber (d : Nat) (e : Event) (s : State) : Aside (withNumber d e s) (giveNumber d e s) ∧
    (giveNumber d e s).seqr = (withNumber d e s).seqr := by
  have hraise : ∀ (b : Prop) [Decidable b] (via k : Nat) (x : State),
      Aside x (if b then raiseEnd via k x else x) ∧ (if b then raiseEnd via k x else x).seqr = x.seqr := fun b _ via k x => by
    split
    · exact ⟨aside_raiseLocal .., rfl⟩
    · exact ⟨.refl x, rfl⟩
  have hcommit : ∀ (id : Nat) (x y : State), Aside x y ∧ y.seqr = x.seqr → Aside x (scheduleCommit id y) ∧ (scheduleCommit id y).seqr = x.seqr :=
    fun id x y h => ⟨h.1.trans ((touches_scheduleCommit id y).aside (by decide)),
      Eq.trans ((touches_scheduleCommit id y).agrees .seqr (by decide)) h.2⟩
  unfold giveNumber
  dsimp only
  rw [← withNumber]
  split
  · split
    · exact hcommit _ _ _ (hraise ..)
    · exact hcommit _ _ _ ⟨.refl _, rfl⟩
  · split
    · exact hraise ..
    · exact ⟨.refl _, rfl⟩
/-- The event at the head of a die's input takes the next number, away from the end of an era. -/
theorem aside_numberFrom {d : Nat} {e : Event} {rest : List Event} {s x : State} (hfree : sequencerFree s = true)
    (h0 : s.seqr.next % 2 ^ 48 ≠ 0) (h1 : (s.seqr.next + 1) % 2 ^ 48 ≠ 0) (hq : (die s d).toAnchor = e :: rest)
    (hx : modDie d (fun x => { x with toAnchor := rest }) s = x) :
    Aside (withNumber d e x) (numberFrom d s) ∧ (numberFrom d s).seqr = (withNumber d e x).seqr := by
  have hxs : x.seqr = s.seqr := hx ▸ rfl
  obtain ⟨hside, hseqr⟩ := aside_giveNumber d e x
  have hnext : (giveNumber d e x).seqr.next = s.seqr.next + 1 := by rw [hseqr, (seqr_withNumber d e x).1, hxs]
  have hissue : issueNumber d e x = giveNumber d e x := by
    rw [issueNumber, eraEvent_of_number (s := x) (by rw [hxs]; exact h0), eraEvent_of_number (by rw [hnext]; exact h1)]
  have hhold : ¬ (!sequencerFree s) = true := by simp [hfree]
  rw [numberFrom, hq]
  dsimp only
  rw [eraEvent_of_number h0, if_neg hhold, hx, hissue]
  split
  · exact ⟨hside.trans (aside_countDetection ..), Eq.trans ((touches_countDetection ..).agrees .seqr (by decide)) hseqr⟩
  · exact ⟨hside, hseqr⟩
/-- The number of the event at the head of a die's input, away from the end of an era. -/
theorem numbersHeads_numberFrom {d : Nat} {s : State} (hd : d < s.dies.length) (hfree : sequencerFree s = true)
    (h0 : s.seqr.next % 2 ^ 48 ≠ 0) (h1 : (s.seqr.next + 1) % 2 ^ 48 ≠ 0) : NumbersHeads [d] s (numberFrom d s) := by
  cases hq : (die s d).toAnchor with
  | nil =>
    have hstay : numberFrom d s = s := by rw [numberFrom, hq]
    rw [hstay]
    refine ⟨?_, rfl, rfl, fun j hj => ?_, fun _ _ => rfl, fun j hj e he => ?_, fun _ _ h => h⟩
    · simp [hq]
    · rw [List.mem_singleton.mp hj, hq, List.drop_nil]
    · rw [List.mem_singleton.mp hj, hq] at he
      exact nomatch he
  | cons e rest =>
    generalize hx : modDie d (fun x => { x with toAnchor := rest }) s = x
    have hxs : x.seqr = s.seqr := hx ▸ rfl
    obtain ⟨hside, hseqr⟩ := aside_numberFrom hfree h0 h1 hq hx
    obtain ⟨hnext, hcheck⟩ := seqr_withNumber d e x
    obtain ⟨hgrow, hself⟩ := returns_withNumber d e x
    have hxl : x.dies.length = s.dies.length := by rw [← hx, dies_length_modDie]
    have hmap := toAnchor_withNumber d e x
    have hanchor : ∀ j, (die (numberFrom d s) j).toAnchor = (die x j).toAnchor := fun j =>
      (congrArg Die.toAnchor (hside.die j) :).trans (getD_congr_map hmap j _)
    have hreturns : ∀ j, (die (numberFrom d s) j).returns = (die (withNumber d e x) j).returns := fun j =>
      (congrArg Die.returns (hside.die j) :)
    have hxr : ∀ j, (die x j).returns = (die s j).returns := fun j =>
      getD_congr_map (hx ▸ map_dies_modDie (g := Die.returns) (fun _ => by rfl) d s) j _
    have hlen : (withNumber d e x).dies.length = x.dies.length := by simpa using congrArg List.length hmap
    refine ⟨?_, ?_, hside.length.trans (hlen.trans hxl), fun j hj => ?_, fun j hj => ?_, fun j hj a ha => ?_, fun j n hn => ?_⟩
    · rw [hseqr, hnext, hxs]
      simp [hq]
    · rw [hseqr, hcheck, hxs]
    · rw [List.mem_singleton.mp hj, hanchor, ← hx, die_modDie_same s _ hd, hq]
      rfl
    · rw [hanchor, ← hx, die_modDie_ne s _ fun h => hj (List.mem_singleton.mpr h)]
    · obtain rfl := List.mem_singleton.mp hj
      rw [hq] at ha
      obtain rfl := Option.some.inj ha
      have hmine := hself (hxl ▸ hd)
      rw [hreturns]
      rw [hxs] at hmine
      simpa using hmine
    · rw [hreturns]
      exact hgrow j n ((hxr j).symm ▸ hn)

/-- One cycle over dies of which none comes twice. -/
theorem numbersHeads_foldl {l : List Nat} {s : State} (hl : ∀ d ∈ l, d < s.dies.length) (hnd : l.Nodup)
    (hfree : s.seqr.next + l.length < s.seqr.checkpoint + 16777216) (h0 : 0 < s.seqr.next % 2 ^ 48)
    (h1 : s.seqr.next % 2 ^ 48 + l.length < 2 ^ 48) : NumbersHeads l s (l.foldl (fun s d => numberFrom d s) s) := by
  induction l generalizing s with
  | nil => exact .nil s
  | cons d r ih =>
    obtain ⟨hd, hr⟩ := List.nodup_cons.mp hnd
    rw [List.length_cons] at hfree h1
    have hhead := numbersHeads_numberFrom (hl d List.mem_cons_self) (s := s) (by simp only [sequencerFree, decide_eq_true_eq]; omega)
      (by omega) (by omega)
    have hstep : (numberFrom d s).seqr.next = s.seqr.next ∨ (numberFrom d s).seqr.next = s.seqr.next + 1 := by
      have := hhead.next
      have hle := List.countP_le_length (p := fun d => !(die s d).toAnchor.isEmpty) (l := [d])
      rw [List.length_singleton] at hle
      omega
    have hcheck := hhead.checkpoint
    exact hhead.cons (ih (fun j hj => by rw [hhead.length]; exact hl j (List.mem_cons_of_mem d hj)) hr (by omega) (by omega) (by omega)) hd

/-- What a cycle of the sequencer may change. -/
def sequenceParts : List Part :=
  [.seqr, .dies, .clusters, .slices, .commits, .model, .modelIndex, .modelFlag, .ports, .output]
theorem touches_numberFrom (d : Nat) (s : State) : Touches sequenceParts s (numberFrom d s) := by
  unfold numberFrom
  split
  · exact .mono (by decide) .refl
  · next e rest _ =>
    refine .mono (L := [.seqr, .dies] ++ sequenceParts) (by decide) <| .trans (touches_eraEvent s) ?_
    generalize eraEvent s = x
    refine .ite_same (fun _ => .mono (by decide) .refl) fun _ => ?_
    have hissue : Touches [.dies, .seqr, .clusters, .commits] x
        (issueNumber d e (modDie d (fun x => { x with toAnchor := rest }) x)) :=
      .mono (by decide) <| .trans (touches_modDie x d _ fun _ => by rfl) (touches_issueNumber ..)
    dsimp only
    split
    · exact .mono (by decide) <| hissue.trans (touches_countDetection ..)
    · exact .mono (by decide) hissue

/-- The order in which a cycle serves `n` dies names each of them once. -/
theorem nodup_cycle (first n : Nat) : ((List.range n).map fun i => (first + i) % n).Nodup := by
  refine List.nodup_range.map_on fun i hi j hj h => ?_
  rw [List.mem_range] at hi hj
  have hmod : i ≡ j [MOD n] := Nat.ModEq.add_left_cancel' first h
  rwa [Nat.ModEq, Nat.mod_eq_of_lt hi, Nat.mod_eq_of_lt hj] at hmod
theorem mem_cycle {first n d : Nat} (hd : d < n) : d ∈ (List.range n).map fun i => (first + i) % n := by
  refine List.mem_map.mpr ⟨(d + (n - first % n)) % n, List.mem_range.mpr (Nat.mod_lt _ (by omega)), ?_⟩
  have hsum : first + (d + (n - first % n)) = d + n * (first / n + 1) := by
    have hlt : first % n < n := Nat.mod_lt _ (by omega)
    have hdiv := Nat.div_add_mod first n
    rw [Nat.mul_add_one]
    omega
  rw [Nat.add_mod_mod, hsum, Nat.add_mul_mod_self_left, Nat.mod_eq_of_lt hd]

/-- A cycle that has an event to number, once numbers return and while the sequencer does not hold. -/
theorem eventSequence_numbers (dt : Nat) {s : State} (hret : numbersReturned s = true)
    (hsome : ∃ d < s.variant.dies, (die s d).toAnchor ≠ []) (hfree : sequencerFree s = true) :
    exec (.eventSequence dt) s = .next
      (let t := ((List.range s.variant.dies).map fun i => (s.seqr.first + i) % s.variant.dies).foldl (fun x d => numberFrom d x) (elapse dt s)
      { t with seqr := { t.seqr with first := (s.seqr.first + 1) % s.variant.dies } }) := by
  obtain ⟨d, hd, hq⟩ := hsome
  have hany : (((List.range s.variant.dies).map fun i => (s.seqr.first + i) % s.variant.dies).any
      fun j => !(die s j).toAnchor.isEmpty) = true :=
    List.any_eq_true.mpr ⟨d, mem_cycle hd, by simpa using hq⟩
  exact congrArg Host.Outcome.next (if_pos (by
    show (numbersReturned s && _ && sequencerFree s) = true
    rw [hret, hfree, Bool.true_and, Bool.and_true]
    exact hany))

/-! ### CHECKPOINT_WRITE_COMPLETE (R94) -/

/-- The checkpoint write of position `k` has ended. -/
def checkpointed (k : Nat) (s : State) : State :=
  editCopies (fun c => { c with checkpoint := k }) { s with seqr := { s.seqr with
    checkpoint := k, writing := none, held := decide (k + 16777216 ≤ s.seqr.next) } }
theorem checkpointWriteComplete_lands (dt : Nat) {k : Nat} {s : State} (hw : s.seqr.writing = some k)
    (hs : ∀ x ∈ s.dies, x.suspended = false) (h0 : 0 < s.seqr.next % 2 ^ 48) :
    exec (.checkpointWriteComplete dt) s = .next (checkpointed k (elapse dt s)) := by
  have hrun : ¬ (elapse dt s).dies.any (·.suspended) = true := by
    simp only [elapse_dies, List.any_eq_true, not_exists, not_and]
    intro x hx
    simp [hs x hx]
  show execCheckpointWriteComplete dt s = _
  unfold execCheckpointWriteComplete
  dsimp only
  rw [elapse_seqr, hw]
  dsimp only
  rw [if_neg hrun]
  exact congrArg Host.Outcome.next (eraEvent_of_number (s := checkpointed k (elapse dt s)) (Nat.pos_iff_ne_zero.mp h0))
theorem touches_checkpointed (k : Nat) (s : State) : Touches [.dies, .seqr] s (checkpointed k s) :=
  .mono (by decide) <| .trans (touches_update [.seqr] (by rfl)) (touches_editCopies ..)
/-- A die that is not fenced, and whose writes are not suspended, keeps the position in its copy. -/
theorem copy_checkpointed (k : Nat) {d : Nat} {s : State} (hd : d < s.dies.length) (hs : (die s d).suspended = false)
    (h2 : (die s d).status ≠ 2) : (die (checkpointed k s) d).copy =
      { (die s d).copy with checkpoint := k, writes := ((die s d).copy.writes + 1) % 2 ^ 64 } := by
  have hedit : ¬ ((die s d).status = 2 || (die s d).suspended) = true := by simp [h2, hs]
  have hget : die s d = s.dies[d] := by rw [die, List.getD_eq_getElem _ _ hd]
  rw [die, checkpointed, editCopies]
  dsimp only
  rw [List.getD_eq_getElem _ _ (by rwa [List.length_map]), List.getElem_map, ← hget, if_neg hedit]

/-! ### The statement -/

/-- Settles O4: an event passes its arbiter in one step, a cycle of the sequencer is a fold over the dies of which each gives
one number, and a checkpoint write ends with its position in every copy that is written. -/
theorem eventsReachHandlingAndNumbers : Obligations.EventsReachHandlingAndNumbers := by
  refine ⟨fun dt d n e s hn hd hfree hr he hi hm => ?_, fun dt d s hheld hq => ?_,
    fun dt s hv hret hsome hfree h0 h1 => ?_, fun dt k s hw hs h0 => ?_⟩
  · generalize hidx : ((die s d).arbiterLast + 1 + n) % 7 = i
    have hexec := arbiterForward_forwards dt hn hfree hr he hi hm
    rw [hidx] at hexec
    obtain ⟨hkept, hother⟩ := die_forwarded i e (s := elapse dt s) hd
    obtain ⟨hroom, hfull⟩ := handling_forwarded i e (s := elapse dt s) hd
    refine ⟨_, hexec, (congrArg Die.arbiterLast hkept :), (congrArg Die.toAnchor hkept :), (congrArg Die.unacked hkept :),
      fun h6 => (congrArg Die.local_ hkept :).trans ?_, fun j hj hji => ?_, hroom, hfull, hother, (touches_forwarded ..).eq_blend⟩
    · show leftLocal i _ = _
      rw [leftLocal, if_neg (by omega)]
      rfl
    · exact hji ▸ queue_forwarded d e (elapse dt s) (hji ▸ hj)
  · have hhold : (!sequencerFree s && !(die s d).toAnchor.isEmpty) = true := by simp [hheld, hq]
    exact congrArg Host.Outcome.next (if_pos hhold)
  · have hdies : s.variant.dies ≤ 4 := by cases s.variant <;> decide
    have hexec := eventSequence_numbers dt hret hsome (s := s) (by simp only [sequencerFree, decide_eq_true_eq]; omega)
    dsimp only at hexec ⊢
    generalize hl : ((List.range s.variant.dies).map fun i => (s.seqr.first + i) % s.variant.dies) = order at hexec
    have hmem : ∀ d < s.variant.dies, d ∈ order := fun d hd => hl ▸ mem_cycle hd
    have hlt : ∀ d ∈ order, d < (elapse dt s).dies.length := fun d hd => by
      obtain ⟨i, hi, rfl⟩ := List.mem_map.mp (hl ▸ hd)
      exact Nat.lt_of_lt_of_le (Nat.mod_lt _ (by have := List.mem_range.mp hi; omega)) hv
    have hlen : order.length = s.variant.dies := by rw [← hl, List.length_map, List.length_range]
    have hnum := numbersHeads_foldl hlt (hl ▸ nodup_cycle ..) (by rw [hlen, elapse_seqr]; omega) (by rw [elapse_seqr]; exact h0)
      (by rw [hlen, elapse_seqr]; omega)
    have hT : Touches sequenceParts (elapse dt s) (order.foldl (fun x d => numberFrom d x) (elapse dt s)) :=
      .foldl (fun x d => touches_numberFrom d x) _ _
    generalize order.foldl (fun x d => numberFrom d x) (elapse dt s) = t at hexec hnum hT
    refine ⟨_, hexec, hnum.next, rfl, fun d hd => hnum.rest d (hmem d hd), fun d hd e he => hnum.number d (hmem d hd) e he, ?_⟩
    have hfirst : Touches [.seqr] t { t with seqr := { t.seqr with first := (s.seqr.first + 1) % s.variant.dies } } :=
      touches_update [.seqr] rfl
    exact (Touches.mono (S := .turn :: sequenceParts) (by decide) (hT.trans hfirst)).eq_blend
  · refine ⟨_, checkpointWriteComplete_lands dt hw hs h0, rfl, fun d hd h2 => copy_checkpointed k hd ?_ h2, (touches_checkpointed ..).eq_blend⟩
    refine hs _ ?_
    show die s d ∈ s.dies
    rw [die, List.getD_eq_getElem _ _ hd]
    exact List.getElem_mem hd

end Sys2Proof.Machine
end

section
/-!
SUPPORT. What a field that goes dark and a slice that ends leave of the change that 0x2111 shows (R95).
-/
namespace Sys2Proof.Machine
open Sys2Proof

/-! ### 0x2111 (R95) -/

/-- The number and the state of the change that 0x2111 shows. -/
def shownKeys : List Nat := [key 0x2111 1, key 0x2111 2]

/-- From `s` to `t` 0x2111 shows the same change in the same state. -/
structure Shown (s t : State) : Prop where
  shown : ∀ k ∈ shownKeys, obj t k 0 = obj s k 0

section
variable {S : List Part} {s t u : State}

theorem Shown.refl (s : State) : Shown s s := ⟨fun _ _ => rfl⟩
theorem Shown.trans (h : Shown s t) (g : Shown t u) : Shown s u := ⟨fun k hk => (g.shown k hk).trans (h.shown k hk)⟩
theorem Shown.ite {a b : State} {c : Prop} [Decidable c] (h : c → Shown s a) (g : ¬ c → Shown s b) : Shown s (if c then a else b) := by
  split
  · exact h ‹_›
  · exact g ‹_›
theorem Shown.foldl {α : Type} {f : State → α → State} (h : ∀ x a, Shown x (f x a)) (l : List α) (s : State) : Shown s (l.foldl f s) := by
  induction l generalizing s with
  | nil => exact .refl s
  | cons a r ih => exact (h s a).trans (ih _)
/-- An operation that changes no package-scoped value. -/
theorem Touches.shown (h : Touches S s t) (ho : Part.objs ∉ S) : Shown s t :=
  ⟨fun k _ => congrArg (fun l => tgetD l k 0) (h.agrees .objs ho)⟩
end

theorem shown_setObj {k : Nat} (v : Nat) (s : State) (h : k ∉ shownKeys) : Shown s (setObj k v s) :=
  ⟨fun _ hj => obj_setObj_ne s v 0 (ne_of_mem_of_not_mem hj h)⟩
theorem shown_addObj {k : Nat} (n : Nat) (s : State) (h : k ∉ shownKeys) : Shown s (addObj k n s) :=
  ⟨fun _ hj => obj_addObj_ne s n 0 (ne_of_mem_of_not_mem hj h)⟩
theorem shown_maxObj {k : Nat} (n : Nat) (s : State) (h : k ∉ shownKeys) : Shown s (maxObj k n s) :=
  ⟨fun _ hj => obj_maxObj_ne s n 0 (ne_of_mem_of_not_mem hj h)⟩

/-! ### The end of a slice and of a shutdown (R288, R294) -/

theorem shown_capacityEvent (via k f cause : Nat) (s : State) : Shown s (capacityEvent via k f cause s) :=
  (shown_addObj 1 s (by decide)).trans ((touches_recordVia ..).shown (by decide))
theorem shown_placeRegion (d r : Nat) (s : State) : Shown s (placeRegion d r s) := by
  unfold placeRegion
  split
  · exact .refl s
  · exact Shown.trans ((touches_modDie_any ..).shown (by decide)) <|
      Shown.trans (.ite (fun _ => Touches.shown (touches_update [.clusters] (by rfl)) (by decide)) fun _ => .refl _) <|
      shown_capacityEvent ..
theorem shown_refreshRegions (s : State) : Shown s (refreshRegions s) := by
  refine .foldl (fun x d => .foldl (fun y e => ?_) _ x) _ s
  split
  · exact .ite (fun _ => ((touches_loseRegion ..).shown (by decide)).trans (shown_placeRegion ..)) fun _ => .refl y
  · exact shown_placeRegion ..
theorem shown_saveTraining (d : Nat) (units : Option (List Nat)) (s : State) : Shown s (saveTraining d units s) := by
  have hk : key 0x3430 (d + 5) ∉ shownKeys := by
    simp only [shownKeys, key, List.mem_cons, List.not_mem_nil, not_or, not_false_eq_true, and_true]
    omega
  exact Shown.trans ((touches_modDie_any ..).shown (by decide)) <| (shown_setObj _ _ hk).trans <|
    .ite (fun _ => .refl _) fun _ => (touches_editStores ..).shown (by decide)
theorem shown_endShutdown (s : State) : Shown s (endShutdown s) := by
  refine .ite (fun _ => .refl s) fun _ => .ite (fun _ => (touches_reachTarget s).shown (by decide)) fun _ => .ite (fun _ => .refl s) fun _ => ?_
  exact (Shown.foldl (fun _ _ => shown_saveTraining ..) _ s).trans <|
    (Shown.ite (fun _ => .refl _) fun _ => ((touches_selfTestRecord ..).shown (by decide)).trans (shown_setObj 2 _ (by decide))).trans
      ((touches_reachTarget _).shown (by decide))
/-- The counts of a teardown that has ended. -/
theorem shown_teardownCounts (took : Nat) (timedOut : Bool) (s : State) : Shown s
    (if timedOut then addObj (key 0x2C12 2) 1 (addObj (key 0x2C12 1) 1 (maxObj (key 0x2C12 3) took s))
      else addObj (key 0x2C12 1) 1 (maxObj (key 0x2C12 3) took s)) := by
  have hcount : Shown s (addObj (key 0x2C12 1) 1 (maxObj (key 0x2C12 3) took s)) :=
    (shown_maxObj took s (by decide)).trans (shown_addObj 1 _ (by decide))
  exact .ite (fun _ => hcount.trans (shown_addObj 1 _ (by decide))) fun _ => hcount
theorem shown_endTeardown (k : Nat) (timedOut : Bool) (s : State) : Shown s (endTeardown k timedOut s) := by
  unfold endTeardown
  dsimp only
  split
  · exact .refl s
  split
  · exact .refl s
  refine ((touches_clearClusters k s).shown (by decide)).trans ?_
  generalize clearClusters k s = x
  exact Shown.trans (Touches.shown (touches_update [.transfers, .follows, .inFlight] (by rfl)) (by decide)) <|
    Shown.trans ((touches_recordAt ..).shown (by decide)) <| Shown.trans ((touches_modSlice_any ..).shown (by decide)) <|
    (shown_teardownCounts _ timedOut _).trans <|
    Shown.trans ((Touches.foldl (fun _ _ => touches_assignAdoptive ..) _ _).shown (by decide)) <|
    Shown.trans ((touches_recomputeGroups ..).shown (by decide)) <| Shown.trans ((touches_refreshReservoirs ..).shown (by decide)) <|
    Shown.trans ((touches_refreshIdle ..).shown (by decide)) <| Shown.trans ((touches_syncQualifying ..).shown (by decide)) <|
    (shown_refreshRegions _).trans (shown_endShutdown _)
theorem shown_checkQuiesce (k : Nat) (s : State) : Shown s (checkQuiesce k s) := by
  unfold checkQuiesce
  split
  · exact .refl s
  · exact .ite (fun _ => shown_endTeardown ..) fun _ => .refl s

/-! ### A field that goes dark (R320, R321) -/

theorem shown_endInvalid (f cause : Nat) (s : State) : Shown s (endInvalid f cause s) :=
  .foldl (fun _ _ => (shown_capacityEvent ..).trans ((touches_endSlice ..).shown (by decide))) _ s
theorem shown_checkStack (j : Nat) (s : State) : Shown s (checkStack j s) := by
  refine .ite (fun _ => .refl s) fun _ => .ite (fun _ => ?_) fun _ => .refl s
  exact Shown.trans (Touches.shown (touches_update [.unreachable] (by rfl)) (by decide)) <|
    (Shown.foldl (fun _ _ => shown_capacityEvent ..) _ _).trans ((touches_requestCommit ..).shown (by decide))
theorem touches_stopFieldSlots (f : Nat) (s : State) : Touches [.dies, .fields, .clusters, .traces, .views] s (stopFieldSlots f s) := by
  refine .foldl (fun x k => ?_) _ s
  split
  · exact .mono (by decide) <| .trans (touches_traceClusterEvent ..) (touches_stopSlot ..)
  · exact .mono (by decide) <| touches_stopSlot ..
theorem shown_afterDark (f : Nat) (s : State) : Shown s (afterDark f s) := by
  unfold afterDark
  dsimp only
  exact Shown.trans ((touches_record ..).shown (by decide)) <| (Shown.foldl (fun _ _ => shown_capacityEvent ..) _ _).trans <|
    Shown.trans (((touches_dropFieldCommits ..).trans (touches_quietField ..)).shown (by decide)) <|
    (Shown.foldl (fun _ _ => shown_checkQuiesce ..) _ _).trans <| (shown_endInvalid ..).trans <|
    (Shown.foldl (fun _ _ => shown_checkStack ..) _ _).trans <| (shown_refreshRegions _).trans ((touches_refreshErrors _).shown (by decide))
theorem shown_goDark (f : Nat) (s : State) : Shown s (goDark f s) := by
  rw [goDark_eq]
  exact .ite (fun _ => .refl s) fun _ => ((touches_stopFieldSlots f s).shown (by decide)).trans <|
    ((touches_railOff ..).shown (by decide)).trans (shown_afterDark ..)
theorem shown_lowerPhaseCap (f e : Nat) (s : State) : Shown s (lowerPhaseCap f e s) :=
  .ite (fun _ => shown_goDark f s) fun _ => ((touches_modField_any ..).trans (touches_refreshErrors _)).shown (by decide)

theorem touches_checkPhaseCurrents (fs : List Nat) (s : State) : Touches darkParts s (checkPhaseCurrents fs s) :=
  .foldl (fun x f => .ite_same (fun _ => .mono (by decide) <| (touches_lowerPhaseCap f _ x).trans (touches_recomputeGroup ..))
    fun _ => .mono (by decide) .refl) fs s
theorem shown_checkPhaseCurrents (fs : List Nat) (s : State) : Shown s (checkPhaseCurrents fs s) :=
  .foldl (fun x f => .ite (fun _ => (shown_lowerPhaseCap f _ x).trans ((touches_recomputeGroup ..).shown (by decide))) fun _ => .refl x) fs s

end Sys2Proof.Machine
end

section
/-!
SUPPORT. How a frequency change runs its course (R80 to R86, R306).
-/
namespace Sys2Proof.Machine
open Sys2Proof

/-! ### Requests and change counts (R80, R82) -/

theorem countP_lt_countP {α : Type} {l : List α} {p q : α → Bool} (hpq : ∀ a ∈ l, p a = true → q a = true) {a : α} (ha : a ∈ l)
    (hq : q a = true) (hp : p a = false) : l.countP p < l.countP q := by
  have hsub : l.countP p = (l.filter q).countP p := by
    rw [List.countP_filter]
    exact List.countP_congr fun b hb => by
      simp only [Bool.and_eq_true]
      exact ⟨fun h => ⟨h, hpq b hb h⟩, And.left⟩
  rw [hsub, List.countP_eq_length_filter (p := q), List.countP_lt_length_iff]
  exact ⟨a, List.mem_filter.mpr ⟨ha, hq⟩, hp⟩
/-- The search for a change count ends at a free one as long as it outlasts the changes ahead. -/
theorem freeChangeCount_free (s : State) (n c : Nat) (hc : c % 102400 = 0) (hn : s.changes.countP (fun x => c ≤ x.count) < n) :
    freeChangeCount s n c % 102400 = 0 ∧ c ≤ freeChangeCount s n c ∧ ∀ x ∈ s.changes, x.count ≠ freeChangeCount s n c := by
  induction n generalizing c with
  | zero => exact absurd hn (Nat.not_lt_zero _)
  | succ n ih =>
    rw [freeChangeCount]
    split
    · next h =>
      obtain ⟨x, hx, hxc⟩ := List.any_eq_true.mp h
      have hless : s.changes.countP (fun x => c + 102400 ≤ x.count) < s.changes.countP (fun x => c ≤ x.count) :=
        countP_lt_countP (fun y _ hy => by simp only [decide_eq_true_eq] at hy ⊢; omega) hx
          (by simp only [decide_eq_true_eq] at hxc ⊢; omega) (by simp only [decide_eq_true_eq, decide_eq_false_iff_not] at hxc ⊢; omega)
      obtain ⟨h1, h2, h3⟩ := ih (c + 102400) (by omega) (by omega)
      exact ⟨h1, by omega, h3⟩
    · next h =>
      refine ⟨hc, Nat.le_refl c, fun x hx hxc => h ?_⟩
      exact List.any_eq_true.mpr ⟨x, hx, by simp [hxc]⟩

theorem touches_announceChange (c : Change) (st : Nat) (s : State) : Touches [.objs, .output] s (announceChange c st s) :=
  .mono (by decide) <| .trans (touches_emit ..) (touches_setObjs _ _ (by simp [tallyKeys, key]))
theorem touches_scheduleChange (sl mask code : Nat) (required : Bool) (s : State) :
    Touches [.seqr, .dies, .changes, .nextChange, .objs, .output] s (scheduleChange sl mask code required s) :=
  .mono (by decide) <| .trans (touches_issuePosition s) <| .trans (touches_update [.changes, .nextChange] (by rfl)) (touches_announceChange ..)
/-- A request that is sequenced schedules one change, at a change count that no other takes. -/
theorem scheduleChange_schedules (sl mask code : Nat) (required : Bool) (s : State) :
    ∃ c, (scheduleChange sl mask code required s).changes = s.changes ++ [c] ∧ c.slice = sl ∧ c.mask = mask ∧ c.code = code ∧
      c.count % 102400 = 0 ∧ changeCountAfter (pt s) ≤ c.count ∧ (∀ x ∈ s.changes, x.count ≠ c.count) ∧
      (scheduleChange sl mask code required s).nextChange = s.nextChange + 1 := by
  obtain ⟨h1, h2, h3⟩ := freeChangeCount_free s (s.changes.length + 1) (changeCountAfter (pt s)) (Nat.mul_mod_left ..)
    (Nat.lt_succ_of_le List.countP_le_length)
  exact ⟨_, (touches_announceChange ..).agrees .changes (by decide), rfl, rfl, rfl, h1, h2, h3,
    (touches_announceChange ..).agrees .nextChange (by decide)⟩

theorem frequencyChangeRequest_fields (dt : Nat) {mask code : Nat} {s : State} (hcode : code ≤ 28) (hmask : mask % 2 ^ 24 ≠ 0)
    (hfree : sequencerFree s = true) :
    exec (.frequencyChangeRequest dt 0 mask code) s = .next (scheduleChange 0 (mask % 2 ^ 24) code false (elapse dt s)) := by
  have hgo : ¬ (28 < code || mask % 2 ^ 24 = 0 || !sequencerFree (elapse dt s)) = true := by
    rw [show sequencerFree (elapse dt s) = true from hfree]
    simp only [Bool.not_true, Bool.or_false, Bool.or_eq_true, decide_eq_true_eq, not_or]
    exact ⟨Nat.not_lt.mpr hcode, hmask⟩
  exact congrArg Host.Outcome.next ((if_pos rfl).trans (if_neg hgo))
theorem frequencyChangeRequest_slice (dt mask : Nat) {k code : Nat} {s : State} (hk : k ≠ 0) (hreq : requestAllowed s k code = true) :
    ∃ required, exec (.frequencyChangeRequest dt k mask code) s =
      .next (scheduleChange k (fieldMask (sliceRegions s k)) code required (elapse dt s)) :=
  ⟨_, congrArg Host.Outcome.next ((if_neg hk).trans (if_pos hreq))⟩

/-! ### Acknowledgements and postponements (R83, R85, R86) -/

theorem touches_modChange (id : Nat) (f : Change → Change) (s : State) : Touches [.changes] s (modChange id f s) :=
  touches_update [.changes] rfl
theorem mem_modChange {id : Nat} {f : Change → Change} {c : Change} {s : State} (h : c ∈ s.changes) (hid : c.id = id) :
    f c ∈ (modChange id f s).changes := List.mem_map.mpr ⟨c, h, if_pos hid⟩
/-- The change that an id finds. -/
theorem of_find_change {id : Nat} {l : List Change} {c : Change} (h : l.find? (fun x => x.id = id) = some c) : c ∈ l ∧ c.id = id :=
  ⟨List.mem_of_find?_eq_some h, by simpa using List.find?_some h⟩
/-- Changing the change that an id finds, under the same id. -/
theorem find_modChange {id : Nat} {f : Change → Change} {c : Change} {s : State} (hf : ∀ x, (f x).id = x.id)
    (h : s.changes.find? (fun x => x.id = id) = some c) : (modChange id f s).changes.find? (fun x => x.id = id) = some (f c) := by
  have hp : ((fun x : Change => decide (x.id = id)) ∘ fun c => if c.id = id then f c else c) = fun x => decide (x.id = id) := by
    funext x
    simp only [Function.comp]
    split <;> simp [*]
  rw [modChange, List.find?_map, hp, h, Option.map_some, if_pos (of_find_change h).2]

/-- What a move of the change `id` to the count `next` makes of a change. -/
def movedChange (id next : Nat) (x : Change) : Change :=
  if x.id = id then { x with count := next, postponed := x.postponed + 1, acked := [], held := [],
                             sampled := none, switched := false, verdicts := [] }
  else if next ≤ x.count then { x with count := x.count + 102400, acked := [] } else x
/-- The announcements that follow a move: the held change, then the others that moved. -/
def announceMoved (id next : Nat) (s : State) : State :=
  s.changes.foldl (fun x c => if c.id = id then x else if next < c.count then announceChange c 0 x else x)
    (match s.changes.find? (fun c => c.id = id) with
      | some c => announceChange c 2 s
      | none => s)
theorem touches_announceMoved (id next : Nat) (s : State) : Touches [.objs, .output] s (announceMoved id next s) := by
  have hrest : ∀ x, Touches [.objs, .output] x (s.changes.foldl
      (fun x c => if c.id = id then x else if next < c.count then announceChange c 0 x else x) x) := fun x =>
    .foldl (fun _ _ => .ite_same (fun _ => .mono (by decide) .refl) fun _ => .ite_same (fun _ => touches_announceChange ..)
      fun _ => .mono (by decide) .refl) _ x
  unfold announceMoved
  split
  · exact .mono (by decide) <| (touches_announceChange ..).trans (hrest _)
  · exact hrest s
theorem moveChange_eq {id : Nat} {c : Change} {s : State} (h : s.changes.find? (fun x => x.id = id) = some c) :
    moveChange id s = announceMoved id (c.count + 102400) { s with changes := s.changes.map (movedChange id (c.count + 102400)) } := by
  unfold moveChange
  rw [h]
  rfl
theorem moveChange_moves {id : Nat} {c : Change} {s : State} (h : s.changes.find? (fun x => x.id = id) = some c) :
    (moveChange id s).changes = s.changes.map (movedChange id (c.count + 102400)) ∧
      Touches [.changes, .objs, .output] s (moveChange id s) := by
  rw [moveChange_eq h]
  exact ⟨(touches_announceMoved ..).agrees .changes (by decide),
    .mono (by decide) <| (touches_update [.changes] rfl : Touches [.changes] s _).trans (touches_announceMoved ..)⟩

theorem touches_showChange (id : Nat) (c st count postponed : Nat) (s : State) : Touches [.objs] s (showChange id
    [(key 0x2111 1, c), (key 0x2111 2, st), (key 0x2111 3, count), (key 0x2111 4, postponed)] s) :=
  .mono (by decide) <| .ite (fun _ => touches_setObjs _ _ (by simp [tallyKeys, key])) fun _ => .refl
/-- A change held for the first or second time moves. -/
theorem postponeChange_moves {id : Nat} {c : Change} {s : State} (fields : List Nat)
    (h : s.changes.find? (fun x => x.id = id) = some c) (hp : c.postponed < 2) :
    (postponeChange id fields s).changes = s.changes.map (movedChange id (c.count + 102400)) ∧
      Touches [.changes, .objs, .output, .dies] s (postponeChange id fields s) := by
  obtain ⟨hm, hT⟩ := moveChange_moves h
  have hrec : ∀ payload x, Touches [.dies] x (recordPkg 0x2111 payload x) := fun _ _ => touches_recordPkg ..
  unfold postponeChange
  rw [h]
  dsimp only
  rw [if_neg (Nat.not_le.mpr hp)]
  exact ⟨Eq.trans ((hrec ..).agrees .changes (by decide)) hm, .mono (by decide) <| hT.trans (hrec ..)⟩
/-- A change held for the third time is abandoned. -/
theorem postponeChange_abandons {id : Nat} {c : Change} {s : State} (fields : List Nat)
    (h : s.changes.find? (fun x => x.id = id) = some c) (hp : 2 ≤ c.postponed) :
    (postponeChange id fields s).changes = s.changes.filter (fun x => x.id ≠ id) ∧
      Touches [.changes, .objs, .dies, .slices] s (postponeChange id fields s) := by
  unfold postponeChange
  rw [h]
  dsimp only
  rw [if_pos hp]
  generalize hx : ({ s with changes := s.changes.filter fun x => x.id ≠ id } : State) = x
  have hfirst : Touches [.changes] s x := hx ▸ touches_update [.changes] rfl
  have hrest : ∀ (b : Prop) [Decidable b] (y z : State), Touches [.objs, .dies] x y → Touches [.slices] y z →
      Touches [.objs, .dies, .slices] x (if b then z else y) := fun b _ y z hy hz =>
    .ite_same (fun _ => hy.trans hz) fun _ => .mono (by decide) hy
  have hT := hrest (c.required = true) _ _ (.mono (by decide) <|
    (touches_showChange c.id c.id 3 c.count 3 x).trans (touches_recordPkg 0x2112 (leBytes 2 c.id ++ leBytes 3 c.mask) _))
    (touches_modSlice _ c.slice (fun x => { x with want := some (freqOfCode c.code, true) }) fun _ => by rfl)
  exact ⟨Eq.trans (hT.agrees .changes (by decide)) (hx ▸ rfl), .mono (by decide) (hfirst.trans hT)⟩
theorem touches_postponeChange {id : Nat} {c : Change} {s : State} (fields : List Nat)
    (h : s.changes.find? (fun x => x.id = id) = some c) :
    Touches [.changes, .objs, .output, .dies, .slices] s (postponeChange id fields s) := by
  rcases Nat.lt_or_ge c.postponed 2 with hp | hp
  · exact .mono (by decide) (postponeChange_moves fields h hp).2
  · exact .mono (by decide) (postponeChange_abandons fields h hp).2
/-- What a held change becomes. -/
theorem postponeChange_held {id : Nat} {c : Change} {s : State} (fields : List Nat)
    (h : s.changes.find? (fun x => x.id = id) = some c) (hp : c.postponed < 2) :
    ∃ x ∈ (postponeChange id fields s).changes, x.id = id ∧ x.count = c.count + 102400 ∧ x.postponed = c.postponed + 1 ∧
      x.acked = [] ∧ x.verdicts = [] := by
  obtain ⟨hc, hid⟩ := of_find_change h
  refine ⟨movedChange id (c.count + 102400) c, ?_, ?_⟩
  · rw [(postponeChange_moves fields h hp).1]
    exact List.mem_map_of_mem hc
  · rw [movedChange, if_pos hid]
    exact ⟨hid, rfl, rfl, rfl, rfl⟩
/-- Another change stays, at its count or at a later one. -/
theorem postponeChange_other {id : Nat} {c x : Change} {s : State} (fields : List Nat)
    (h : s.changes.find? (fun x => x.id = id) = some c) (hx : x ∈ s.changes) (hid : x.id ≠ id) :
    ∃ y ∈ (postponeChange id fields s).changes, y.id = x.id ∧ x.count ≤ y.count := by
  rcases Nat.lt_or_ge c.postponed 2 with hp | hp
  · refine ⟨movedChange id (c.count + 102400) x, ?_, ?_⟩
    · rw [(postponeChange_moves fields h hp).1]
      exact List.mem_map_of_mem hx
    · rw [movedChange, if_neg hid]
      split
      · exact ⟨rfl, Nat.le_add_right ..⟩
      · exact ⟨rfl, Nat.le_refl _⟩
  · refine ⟨x, ?_, rfl, Nat.le_refl _⟩
    rw [(postponeChange_abandons fields h hp).1]
    exact List.mem_filter.mpr ⟨hx, by simpa using hid⟩

theorem changeAckDeadline_postpones (dt : Nat) {id : Nat} {c : Change} {s : State}
    (h : s.changes.find? (fun x => x.id = id) = some c) (hc : c.count ≤ pt (elapse dt s) + 20480)
    (hm : ∃ f ∈ maskFields c.mask, f ∉ c.acked) : ∃ fields,
    exec (.changeAckDeadline dt id) s = .next (postponeChange id fields (elapse dt s)) := by
  obtain ⟨f, hf, hn⟩ := hm
  have hdue : ¬ (pt (elapse dt s) + 20480 < c.count || ((maskFields c.mask).filter fun f => !c.acked.contains f).isEmpty) = true := by
    have hmiss : ((maskFields c.mask).filter fun f => !c.acked.contains f) ≠ [] :=
      List.ne_nil_of_mem (List.mem_filter.mpr ⟨hf, by simpa using hn⟩)
    simp only [Bool.or_eq_true, decide_eq_true_eq, List.isEmpty_iff, not_or]
    exact ⟨by omega, hmiss⟩
  refine ⟨(maskFields c.mask).filter fun f => !c.acked.contains f, ?_⟩
  show execChangeAckDeadline dt id s = _
  unfold execChangeAckDeadline
  dsimp only
  rw [elapse_changes, h]
  exact congrArg Host.Outcome.next (if_neg hdue)

/-! ### CHANGE_HOLD_SAMPLE (R84) -/

/-- Whether a field stretched within 2,000 ns before the count, so that it holds the line. -/
def holdsLine (count : Nat) (x : Field) : Bool :=
  (match x.stretch with
    | some t => decide (t ≤ count)
    | none => false) ||
  (decide (0 < x.stretchEnd) && decide (x.stretchStart ≤ count) && decide (count ≤ x.stretchEnd + 2000))
theorem holdsLine_of_stretch {count a : Nat} {x : Field} (h : a ∈ x.stretch) (ha : a ≤ count) : holdsLine count x = true := by
  rw [holdsLine, Option.mem_def.mp h]
  simp [ha]
theorem holdsLine_of_end {count : Nat} {x : Field} (h0 : 0 < x.stretchEnd) (h1 : x.stretchStart ≤ count)
    (h2 : count ≤ x.stretchEnd + 2000) : holdsLine count x = true := by
  simp [holdsLine, h0, h1, h2]
/-- The fields that the line shows as a change samples it. -/
def heldFields (c : Change) (s : State) : List Nat :=
  (s.changeHold ++ (maskFields c.mask).filter fun f => holdsLine c.count (field s f)).eraseDups
/-- The line sampled for a change. -/
def sampledLine (id : Nat) (c : Change) (s : State) : State :=
  modChange id (fun x => { x with sampled := some !(heldFields c s).isEmpty, held := heldFields c s })
    { discardMargins (fun p => c.mask.testBit (puaFieldIdx p) &&
      (c.slice = 0 || sliceOfCluster s (puaClusterKey p) = c.slice)) s with changeHold := [] }
theorem changeHoldSample_samples (dt : Nat) {id : Nat} {c : Change} {s : State}
    (h : s.changes.find? (fun x => x.id = id) = some c) (hc : c.count + 24 ≤ pt (elapse dt s)) (hn : c.sampled = none)
    (hm : ∀ f ∈ maskFields c.mask, f ∈ c.acked) :
    exec (.changeHoldSample dt id) s = .next (sampledLine id c (elapse dt s)) := by
  have hdue : ¬ (pt (elapse dt s) < c.count + 24 || c.sampled.isSome || (maskFields c.mask).any (fun f => !c.acked.contains f)) = true := by
    simp only [hn, Option.isSome_none, Bool.or_false, Bool.or_eq_true, decide_eq_true_eq, List.any_eq_true, not_or, not_exists,
      not_and, Bool.not_eq_true, Bool.not_eq_false', List.contains_iff_mem]
    exact ⟨by omega, hm⟩
  show execChangeHoldSample dt id s = _
  unfold execChangeHoldSample
  dsimp only
  rw [elapse_changes, h]
  exact congrArg Host.Outcome.next (if_neg hdue)
theorem touches_sampledLine (id : Nat) (c : Change) (s : State) : Touches [.cores, .changeHold, .changes] s (sampledLine id c s) :=
  .mono (by decide) <| .trans (touches_discardMargins ..) <| .trans (touches_update [.changeHold] (by rfl)) (touches_modChange ..)

/-! ### CHANGE_COUNT_SWITCH (R81, R84) -/

theorem touches_setFieldFreq (mhz f : Nat) (s : State) : Touches [.freqs, .fields] s (setFieldFreq mhz f s) :=
  .mono (by decide) <| .trans (touches_update [.freqs] (by rfl)) (touches_modField _ f _ fun _ => by rfl)
theorem touches_refreshSlow (s : State) : Touches [.units, .cores, .clusters] s (refreshSlow s) :=
  .foldl (fun _ _ => .ite_same (fun _ => .mono (by decide) .refl) fun _ => touches_leaveReplayRole ..) _ s
theorem touches_wakeAgents (fs : List Nat) (s : State) : Touches [.fields] s (wakeAgents fs s) :=
  .foldl (fun x f => touches_modField x f _ fun _ => by rfl) fs s

/-- The clusters of a slice follow from the slices, the map of the clusters and the power of the fields. -/
theorem Touches.sliceClusters_eq {S : List Part} {s t : State} (h : Touches S s t) (hv : .variant ∉ S) (hs : .slices ∉ S)
    (hm : .clusterMap ∉ S) (hp : .powers ∉ S) (k : Nat) : sliceClusters t k = sliceClusters s k := by
  have hserve : clusterOf t = clusterOf s := funext fun l => by
    rw [clusterOf, clusterOf, h.field_power hp, show t.clusterMap = s.clusterMap from h.agrees .clusterMap hm]
  rw [sliceClusters, sliceClusters, sliceLogicals, sliceLogicals, slice, slice, hserve,
    show t.slices = s.slices from h.agrees .slices hs, show t.variant = s.variant from h.agrees .variant hv]
theorem tget_foldl_tset {α : Type} {v : α} {k : Nat} {l : List Nat} (h : k ∈ l) (t : Tab α) :
    tget (l.foldl (fun t k => tset t k v) t) k = some v := by
  obtain ⟨l₁, l₂, rfl⟩ := List.append_of_mem h
  rw [List.foldl_append, List.foldl_cons]
  refine List.foldlRecOn (motive := fun t : Tab α => tget t k = some v) l₂ _ (tget_tset_same ..) fun t ht j _ => ?_
  rw [tget_tset]
  split
  · rfl
  · exact ht
/-- The clusters that a list names run at the frequency set. -/
theorem clusterFreq_setFreqs {cks : List Nat} {ck : Nat} (mhz : Nat) (s : State) (h : ck ∈ cks) :
    clusterFreq (setFreqs cks mhz s) ck = mhz := by
  rw [clusterFreq, setFreqs, tgetD, tget_foldl_tset h, Option.getD_some]
/-- A cluster's frequency follows from its own, and from those of the fields. -/
theorem Touches.clusterFreq_eq {S : List Part} {s t : State} (h : Touches S s t) (hf : .freqs ∉ S) (hp : .fields ∉ S) (ck : Nat) :
    clusterFreq t ck = clusterFreq s ck := by
  rw [clusterFreq, clusterFreq, h.field_eq hp, show t.freqs = s.freqs from h.agrees .freqs hf]

/-- A field whose clusters all run at the field's frequency, `mhz`. -/
def Uniform (mhz f : Nat) (s : State) : Prop := (field s f).freq = mhz ∧ ∀ e ∈ s.freqs, ckField e.1 ≠ f
theorem uniform_setFieldFreq_same {mhz f : Nat} {s : State} (hf : f < s.fields.length) : Uniform mhz f (setFieldFreq mhz f s) := by
  refine ⟨?_, fun e he => by simpa using (List.mem_filter.mp he).2⟩
  rw [setFieldFreq, field_modField_same]
  exact hf
theorem uniform_setFieldFreq {mhz f : Nat} {s : State} (g : Nat) (h : Uniform mhz f s) : Uniform mhz f (setFieldFreq mhz g s) := by
  refine ⟨?_, fun e he => h.2 e (List.mem_filter.mp he).1⟩
  rw [setFieldFreq, field_modField]
  split
  · rfl
  · exact h.1
/-- Every field of a change that names fields becomes uniform. -/
theorem uniform_setFieldFreqs {mhz f : Nat} {fs : List Nat} {s : State} (h : f ∈ fs) (hf : f < s.fields.length) :
    Uniform mhz f (fs.foldl (fun s f => setFieldFreq mhz f s) s) :=
  (foldl_reaches (Q := fun x => f < x.fields.length) h hf
    (fun x g hx => by rwa [(touches_setFieldFreq mhz g x).fields_length (by decide)])
    (fun _ hx => uniform_setFieldFreq_same hx) fun _ g _ hx => uniform_setFieldFreq g hx).2
theorem Uniform.clusterFreq {mhz f : Nat} {s : State} (h : Uniform mhz f s) {ck : Nat} (hck : ckField ck = f) :
    clusterFreq s ck = mhz := by
  have hown : tget s.freqs ck = none := by
    cases ht : tget s.freqs ck with
    | none => rfl
    | some v => exact absurd hck (h.2 _ (mem_of_tget ht))
  rw [Machine.clusterFreq, tgetD, hown, Option.getD_none, hck, h.1]

/-- The frequencies after a change has switched: those of its slice, or of the fields that it names. -/
def switchedFreqs (c : Change) (s : State) : State :=
  if c.slice = 0 then
    (groupSlices s (maskFields c.mask)).foldl (fun s k => refreshFreq k s)
      ((maskFields c.mask).foldl (fun s f => setFieldFreq (freqOfCode c.code) f s) s)
  else modSlice c.slice (fun x => { x with
    freq := freqOfCode c.code, mixed := false, want := if x.want.map (·.1) = some (freqOfCode c.code) then none else x.want })
      (setFreqs (sliceClusters s c.slice) (freqOfCode c.code) s)
/-- A change that switches. -/
def switchedChange (id : Nat) (c : Change) (s : State) : State :=
  modChange id (fun x => { x with switched := true }) (refreshSlow (switchedFreqs c (wakeAgents (maskFields c.mask) s)))
theorem changeCountSwitch_switches (dt : Nat) {id : Nat} {c : Change} {s : State}
    (h : s.changes.find? (fun x => x.id = id) = some c) (hc : c.count + 32 ≤ pt (elapse dt s)) (hn : c.sampled = some false)
    (hsw : c.switched = false) : exec (.changeCountSwitch dt id) s = .next (switchedChange id c (elapse dt s)) := by
  have hdue : ¬ (pt (elapse dt s) < c.count + 32 || c.sampled ≠ some false || c.switched) = true := by
    simp [hn, hsw, hc]
  show execChangeCountSwitch dt id s = _
  unfold execChangeCountSwitch
  dsimp only
  rw [elapse_changes, h]
  exact congrArg Host.Outcome.next (if_neg hdue)
theorem touches_switchedFreqs (c : Change) (s : State) : Touches [.freqs, .fields, .slices] s (switchedFreqs c s) :=
  .ite_same
    (fun _ => .mono (by decide) <| .trans (.foldl (fun _ _ => touches_setFieldFreq ..) _ s) (.foldl (fun _ _ => touches_refreshFreq ..) _ _))
    fun _ => .mono (by decide) <| .trans (touches_setFreqs ..) (touches_modSlice _ c.slice _ fun _ => by rfl)
theorem touches_switchedChange (id : Nat) (c : Change) (s : State) :
    Touches [.fields, .freqs, .slices, .units, .cores, .clusters, .changes] s (switchedChange id c s) :=
  .mono (by decide) <| .trans (touches_wakeAgents ..) <| .trans (touches_switchedFreqs ..) <| .trans (touches_refreshSlow _)
    (touches_modChange ..)
theorem mem_switchedChange {id : Nat} {c : Change} {s : State} (h : s.changes.find? (fun x => x.id = id) = some c) :
    { c with switched := true } ∈ (switchedChange id c s).changes := by
  obtain ⟨hc, hid⟩ := of_find_change h
  have hT := (touches_wakeAgents (maskFields c.mask) s).trans <| (touches_switchedFreqs c _).trans (touches_refreshSlow _)
  refine mem_modChange (f := fun x => { x with switched := true }) ?_ hid
  rw [show _ = s.changes from hT.agrees .changes (by decide)]
  exact hc
/-- A change of a slice gives the slice and its clusters the frequency. -/
theorem switchedChange_slice {id : Nat} {c : Change} {s : State} {x : Slice} (hk : c.slice ≠ 0) (hx : slice s c.slice = some x) :
    (∃ y, slice (switchedChange id c s) c.slice = some y ∧ y.freq = freqOfCode c.code) ∧
      ∀ ck ∈ sliceClusters s c.slice, clusterFreq (switchedChange id c s) ck = freqOfCode c.code := by
  have hw := touches_wakeAgents (maskFields c.mask) s
  have hlast : Touches [.units, .cores, .clusters, .changes] (switchedFreqs c (wakeAgents (maskFields c.mask) s)) (switchedChange id c s) :=
    .mono (by decide) <| (touches_refreshSlow _).trans (touches_modChange ..)
  have hcks := hw.sliceClusters_eq (by decide) (by decide) (by decide) (by decide) c.slice
  have hslice : slice (wakeAgents (maskFields c.mask) s) c.slice = some x := by
    rw [slice, show (wakeAgents (maskFields c.mask) s).slices = s.slices from hw.agrees .slices (by decide)]
    exact hx
  generalize wakeAgents (maskFields c.mask) s = y at hlast hcks hslice
  have hset : Touches [.slices] (setFreqs (sliceClusters y c.slice) (freqOfCode c.code) y) (switchedFreqs c y) := by
    rw [switchedFreqs, if_neg hk]
    exact touches_modSlice _ c.slice _ fun _ => by rfl
  refine ⟨?_, fun ck hck => ?_⟩
  · have hmoved : slice (switchedChange id c s) c.slice = slice (switchedFreqs c y) c.slice := by
      rw [slice, slice, show (switchedChange id c s).slices = (switchedFreqs c y).slices from hlast.agrees .slices (by decide)]
    have hself : slice (setFreqs (sliceClusters y c.slice) (freqOfCode c.code) y) c.slice = some x := hslice
    rw [hmoved, switchedFreqs, if_neg hk, slice_modSlice_same, hself]
    exact ⟨_, rfl, rfl⟩
  · rw [hlast.clusterFreq_eq (by decide) (by decide), hset.clusterFreq_eq (by decide) (by decide)]
    exact clusterFreq_setFreqs _ _ (hcks ▸ hck)
/-- A change of whole fields gives them and all their clusters the frequency. -/
theorem switchedChange_fields {id f : Nat} {c : Change} {s : State} (hk : c.slice = 0) (hf : f ∈ maskFields c.mask)
    (hl : f < s.fields.length) : (field (switchedChange id c s) f).freq = freqOfCode c.code ∧
      ∀ ck, ckField ck = f → clusterFreq (switchedChange id c s) ck = freqOfCode c.code := by
  have hw := touches_wakeAgents (maskFields c.mask) s
  have hlast : Touches [.units, .cores, .clusters, .changes] (switchedFreqs c (wakeAgents (maskFields c.mask) s)) (switchedChange id c s) :=
    .mono (by decide) <| (touches_refreshSlow _).trans (touches_modChange ..)
  have hlen : f < (wakeAgents (maskFields c.mask) s).fields.length := by rwa [hw.fields_length (by decide)]
  generalize wakeAgents (maskFields c.mask) s = y at hlast hlen
  have huni := uniform_setFieldFreqs (mhz := freqOfCode c.code) hf hlen
  have hset : Touches [.slices] ((maskFields c.mask).foldl (fun s f => setFieldFreq (freqOfCode c.code) f s) y) (switchedFreqs c y) := by
    rw [switchedFreqs, if_pos hk]
    exact .foldl (fun _ _ => touches_refreshFreq ..) _ _
  refine ⟨?_, fun ck hck => ?_⟩
  · rw [hlast.field_eq (by decide), hset.field_eq (by decide), huni.1]
  · rw [hlast.clusterFreq_eq (by decide) (by decide), hset.clusterFreq_eq (by decide) (by decide), huni.clusterFreq hck]

/-! ### CHANGE_VERDICT (R84 to R86, R306) -/

/-- The verdict of field `f` noted. -/
def noteVerdict (f : Nat) (c : Change) : Change := { c with verdicts := c.verdicts ++ [f] }
/-- Whether a change still waits for verdicts beside that of field `f`. -/
def verdictsMissing (f : Nat) (c : Change) : Bool := (maskFields c.mask).any fun g => g ≠ f && !c.verdicts.contains g
theorem verdictsMissing_iff {f : Nat} {c : Change} : verdictsMissing f c = true ↔ ∃ g ∈ maskFields c.mask, g ≠ f ∧ g ∉ c.verdicts := by
  simp [verdictsMissing]
theorem verdictsMissing_of_all {f : Nat} {c : Change} (h : ∀ g ∈ maskFields c.mask, g = f ∨ g ∈ c.verdicts) : ¬ verdictsMissing f c = true := by
  rw [verdictsMissing_iff]
  rintro ⟨g, hg, hne, hn⟩
  exact (h g hg).elim hne hn
theorem changeVerdict_judges (dt : Nat) {id f : Nat} {c : Change} {s : State} (h : s.changes.find? (fun x => x.id = id) = some c)
    (hready : c.sampled = some true ∨ c.switched = true) (hf : c.mask.testBit f = true) (hn : f ∉ c.verdicts) :
    exec (.changeVerdict dt id f) s = .next (let y := modChange id (noteVerdict f) (elapse dt s)
      if verdictsMissing f c then y else if c.switched then finishChange c y else postponeChange id c.held y) := by
  have hgo : ¬ (!(decide (c.sampled = some true) || c.switched) || !c.mask.testBit f || c.verdicts.contains f) = true := by
    simpa [hf, hn, or_iff_not_imp_left] using hready
  show execChangeVerdict dt id f s = _
  unfold execChangeVerdict
  dsimp only
  rw [elapse_changes, h]
  exact congrArg Host.Outcome.next (if_neg hgo)

/-- What a change that ends may change. -/
def verdictParts : List Part := .changes :: .lcnMap :: .clusterMap :: .lanes :: .channels :: .zports :: .lostSlots :: .turn :: darkParts
/-- A change taken off the list, and shown as done. -/
def doneChange (c : Change) (s : State) : State :=
  showChange c.id [(key 0x2111 1, c.id), (key 0x2111 2, 1), (key 0x2111 3, c.count), (key 0x2111 4, c.postponed)]
    { s with changes := s.changes.filter fun x => x.id ≠ c.id }
theorem touches_doneChange (c : Change) (s : State) : Touches [.changes, .objs] s (doneChange c s) :=
  .mono (by decide) <| .trans (touches_update [.changes] (by rfl)) (touches_showChange ..)
theorem changes_doneChange (c : Change) (s : State) : (doneChange c s).changes = s.changes.filter fun x => x.id ≠ c.id :=
  (touches_showChange ..).agrees .changes (by decide)
theorem obj_doneChange {c : Change} {s : State} (h : obj s (key 0x2111 1) c.id = c.id) :
    obj (doneChange c s) (key 0x2111 1) 0 = c.id ∧ obj (doneChange c s) (key 0x2111 2) 0 = 1 := by
  have hshow : obj ({ s with changes := s.changes.filter fun x => x.id ≠ c.id } : State) (key 0x2111 1) c.id = c.id := h
  rw [doneChange, showChange, if_pos hshow]
  simp only [setObjs, List.foldl_cons, List.foldl_nil]
  refine ⟨?_, ?_⟩
  · rw [obj_setObj_ne _ _ _ (by decide), obj_setObj_ne _ _ _ (by decide), obj_setObj_ne _ _ _ (by decide), obj_setObj_same]
  · rw [obj_setObj_ne _ _ _ (by decide), obj_setObj_ne _ _ _ (by decide), obj_setObj_same]
/-- What a change that is done leaves to its fields: current limits and voltages. -/
theorem finishChange_after (c : Change) (s : State) :
    Touches darkParts (doneChange c s) (finishChange c s) ∧ Shown (doneChange c s) (finishChange c s) := by
  have hcheck : Touches darkParts (doneChange c s)
        (if c.lowering then checkPhaseCurrents (maskFields c.mask) (doneChange c s) else doneChange c s) ∧
      Shown (doneChange c s) (if c.lowering then checkPhaseCurrents (maskFields c.mask) (doneChange c s) else doneChange c s) :=
    ⟨.ite_same (fun _ => touches_checkPhaseCurrents ..) fun _ => .mono (by decide) .refl,
      .ite (fun _ => shown_checkPhaseCurrents ..) fun _ => .refl _⟩
  unfold finishChange
  dsimp only
  rw [← doneChange]
  generalize (if c.lowering then checkPhaseCurrents (maskFields c.mask) (doneChange c s) else doneChange c s) = y at hcheck
  split
  · exact hcheck
  · next f _ _ =>
    have hlow := touches_lowerVoltages (stepGroup y f) y
    exact ⟨.mono (by decide) (hcheck.1.trans hlow), hcheck.2.trans (hlow.shown (by decide))⟩
theorem touches_finishChange (c : Change) (s : State) : Touches verdictParts s (finishChange c s) :=
  .mono (by decide) ((touches_doneChange c s).trans (finishChange_after c s).1)

/-! ### The statement -/

/-- Settles O20: a request, acknowledgements, the sample, the switch and the verdicts, each by what it makes of the list of
changes and of the frequencies. -/
theorem frequencyChangesRunTheirCourse : Obligations.FrequencyChangesRunTheirCourse := by
  refine ⟨fun dt mask code s hcode hmask hfree => ?_, fun dt k mask code s hk hreq => ?_, fun dt id f s => ?_,
    fun dt id c s h hc hm => ?_, fun dt id c s h hc hn hm => ?_, fun dt id c s h hc hn hsw => ?_,
    fun dt id f c s h hready hf hn => ?_⟩
  · obtain ⟨c, hlist, hslice, hm, hcd, hmul, hafter, hfresh, hnext⟩ :=
      scheduleChange_schedules 0 (mask % 2 ^ 24) code false (elapse dt s)
    exact ⟨_, c, frequencyChangeRequest_fields dt hcode hmask hfree, hlist, hslice, hm, hcd, hmul, hafter, hfresh, hnext,
      (Touches.mono (S := [.turn, .seqr, .dies, .changes, .nextChange, .objs, .output]) (by decide) (touches_scheduleChange ..)).eq_blend⟩
  · obtain ⟨required, hexec⟩ := frequencyChangeRequest_slice dt mask hk hreq
    obtain ⟨c, hlist, hslice, hm, hcd, hmul, hafter, hfresh, -⟩ :=
      scheduleChange_schedules k (fieldMask (sliceRegions s k)) code required (elapse dt s)
    exact ⟨_, c, hexec, hlist, hslice, hm, hcd, hmul, hafter, hfresh,
      (Touches.mono (S := [.turn, .seqr, .dies, .changes, .nextChange, .objs, .output]) (by decide) (touches_scheduleChange ..)).eq_blend⟩
  · refine ⟨_, rfl, fun c hc hid hbit => ?_, fun c hc hid => ?_, List.length_map .., ?_⟩
    · exact List.mem_map.mpr ⟨c, hc, (if_pos hid).trans (if_pos hbit)⟩
    · refine List.mem_map.mpr ⟨c, hc, ?_⟩
      split
      · next he => exact if_neg (by rw [hid.resolve_left fun hne => hne he]; decide)
      · rfl
    · exact (Touches.mono (S := [.changes, .turn]) (by decide) (touches_modChange ..)).eq_blend
  · obtain ⟨fields, hexec⟩ := changeAckDeadline_postpones dt h hc hm
    have h' : (elapse dt s).changes.find? (fun x => x.id = id) = some c := h
    refine ⟨_, hexec, fun hp => ?_, fun hp x hx => ?_, fun x hx hid => postponeChange_other fields h' hx hid, ?_⟩
    · obtain ⟨x, hx, hid, hcount, hpost, hacked, -⟩ := postponeChange_held fields h' hp
      exact ⟨x, hx, hid, hcount, hpost, hacked⟩
    · rw [(postponeChange_abandons fields h' hp).1] at hx
      simpa using (List.mem_filter.mp hx).2
    · exact (Touches.mono (S := [.changes, .objs, .output, .dies, .slices, .turn]) (by decide) (touches_postponeChange fields h')).eq_blend
  · obtain ⟨hmem, hid⟩ := of_find_change h
    have hheld : ∀ f ∈ maskFields c.mask, holdsLine c.count (field s f) = true → f ∈ heldFields c (elapse dt s) := fun f hf hl =>
      List.mem_eraseDups.mpr (List.mem_append_right _ (List.mem_filter.mpr ⟨hf, hl⟩))
    refine ⟨_, _, changeHoldSample_samples dt h hc hn hm, mem_modChange hmem hid, hid, rfl, rfl,
      fun f hf => List.mem_eraseDups.mpr (List.mem_append_left _ hf),
      fun f hf a ha hle => hheld f hf (holdsLine_of_stretch ha hle), fun f hf h0 h1 h2 => hheld f hf (holdsLine_of_end h0 h1 h2), ?_⟩
    exact (Touches.mono (S := [.cores, .changeHold, .changes, .turn]) (by decide) (touches_sampledLine ..)).eq_blend
  · have h' : (elapse dt s).changes.find? (fun x => x.id = id) = some c := h
    refine ⟨_, changeCountSwitch_switches dt h hc hn hsw, mem_switchedChange h',
      fun x hk hx => switchedChange_slice (s := elapse dt s) hk hx, fun hk f hf hl => switchedChange_fields (s := elapse dt s) hk hf hl, ?_⟩
    exact (Touches.mono (S := [.fields, .freqs, .slices, .units, .cores, .clusters, .changes, .turn]) (by decide)
      (touches_switchedChange ..)).eq_blend
  · have hexec := changeVerdict_judges dt h hready hf hn
    obtain ⟨hmem, hid⟩ := of_find_change h
    have hfind := find_modChange (s := elapse dt s) (f := noteVerdict f) (fun _ => rfl) h
    have hnoted := mem_modChange (s := elapse dt s) (f := noteVerdict f) hmem hid
    have hy := touches_modChange id (noteVerdict f) (elapse dt s)
    dsimp only at hexec
    generalize modChange id (noteVerdict f) (elapse dt s) = y at hexec hfind hnoted hy
    refine ⟨_, hexec, fun hmiss => ?_, fun hall hsw => ?_, fun hall hsw hp => ?_, ?_⟩
    · rw [if_pos (verdictsMissing_iff.mpr hmiss)]
      exact ⟨hnoted, hy.eq_blend⟩
    · obtain ⟨hT, hS⟩ := finishChange_after c y
      rw [if_neg (verdictsMissing_of_all hall), if_pos hsw]
      refine ⟨fun x hx => ?_, fun hshow => ?_⟩
      · rw [show (finishChange c y).changes = _ from hT.agrees .changes (by decide), changes_doneChange] at hx
        rw [← hid]
        simpa using (List.mem_filter.mp hx).2
      · have hobj : obj y (key 0x2111 1) c.id = c.id := by
          rw [obj, show y.objs = s.objs from hy.agrees .objs (by decide), hid]
          exact hshow
        obtain ⟨h1, h2⟩ := obj_doneChange hobj
        exact ⟨(hS.shown _ (by decide)).trans (h1.trans hid), (hS.shown _ (by decide)).trans h2⟩
    · rw [if_neg (verdictsMissing_of_all hall), if_neg (by rw [hsw]; decide)]
      obtain ⟨x, hx, hxid, hcount, hpost, -, hverdicts⟩ := postponeChange_held c.held hfind hp
      exact ⟨x, hx, hxid, hcount, hpost, hverdicts⟩
    · have hT : Touches verdictParts y (if verdictsMissing f c then y else if c.switched then finishChange c y else postponeChange id c.held y) :=
        .ite_same (fun _ => .mono (by decide) .refl) fun _ => .ite_same (fun _ => touches_finishChange ..) fun _ =>
          .mono (by decide) (touches_postponeChange c.held hfind)
      exact (Touches.mono (S := verdictParts) (by decide) (hy.trans hT)).eq_blend

end Sys2Proof.Machine
end

section
/-!
SUPPORT. EVENT_HANDLING: the head entry leaves the handling queue, and a decisive charge takes a core out of service
(R228, R231, R236, R258).
-/
namespace Sys2Proof.Machine
open Sys2Proof

/-! ### The head entry leaves (R258) -/

/-- A view of the dies that does not show what `Aside` sets aside. -/
theorem Aside.view {α : Type} {g : Die → α} {s t : State} (h : Aside s t) (hg : ∀ x, g x.body = g x) :
    t.dies.map g = s.dies.map g := by
  have hmap := congrArg (List.map g) h.dies
  simp only [List.map_map] at hmap
  rwa [show g ∘ Die.body = g from funext hg] at hmap

theorem touches_endOverflow (d : Nat) (s : State) : Touches [.dies, .ports, .output] s (endOverflow d s) := by
  unfold endOverflow
  dsimp only
  split
  · exact .mono (by decide) .refl
  · exact .mono (by decide) <| .ite (fun _ => .refl) fun _ => .trans (touches_modDie _ _ _ fun _ => by rfl) <|
      .trans (touches_record ..) (touches_refreshError ..)
/-- The end of a run of losses leaves what the handling queues hold. -/
theorem map_handling_endOverflow (d : Nat) (s : State) : (endOverflow d s).dies.map Die.handling = s.dies.map Die.handling := by
  unfold endOverflow
  dsimp only
  split
  · rfl
  · split
    · rfl
    · exact (((aside_raiseLocal ..).trans (aside_refreshError ..)).view fun _ => rfl).trans
        (map_dies_modDie (g := Die.handling) (fun _ => by rfl) ..)
theorem touches_popHandling (d : Nat) (s : State) : Touches [.dies, .ports, .output] s (popHandling d s) :=
  .mono (by decide) <| .trans (touches_modDie _ _ _ fun _ => by rfl) (touches_endOverflow ..)
theorem handling_popHandling {d : Nat} {s : State} (hd : d < s.dies.length) :
    (die (popHandling d s) d).handling = (die s d).handling.drop 1 ∧
      ∀ j, j ≠ d → (die (popHandling d s) j).handling = (die s j).handling := by
  have hview : ∀ x j, (die (endOverflow d x) j).handling = (die x j).handling := fun x j =>
    getD_congr_map (map_handling_endOverflow d x) j _
  refine ⟨(hview ..).trans ?_, fun j hj => (hview ..).trans ?_⟩
  · rw [die_modDie_same s _ hd]
  · rw [die_modDie_ne s _ hj]
theorem unitRec_popHandling (d : Nat) (s : State) (p : Nat) : unitRec (popHandling d s) p = unitRec s p := by
  rw [unitRec, show (popHandling d s).units = s.units from (touches_popHandling d s).agrees .units (by decide), unitRec]

section
variable {dt d : Nat} {e : Event} {rest : List Event} {s : State}

/-- An entry that only records ends in the queue. -/
theorem eventHandling_record (hr : (die s d).recovering = none) (hh : (die s d).handling = e :: rest) (hk : e.kind = .record) :
    exec (.eventHandling dt d) s = .next (popHandling d (elapse dt s)) := by
  have hr' : (die (elapse dt s) d).recovering = none := hr
  have hh' : (die (elapse dt s) d).handling = e :: rest := hh
  show execEventHandling dt d s = _
  simp only [execEventHandling, done, hr', hh', hk, Option.isSome_none, Bool.false_eq_true, if_false]
/-- A charge whose unit is this die's, or one that no die charges in its place. -/
theorem eventHandling_charge (hr : (die s d).recovering = none) (hh : (die s d).handling = e :: rest) (hk : e.kind = .charge)
    (hm : puaDie e.pua = d ∨ (die s (puaDie e.pua)).status ≠ 1) :
    exec (.eventHandling dt d) s = .next (chargeUnit e (popHandling d (elapse dt s))) := by
  have hr' : (die (elapse dt s) d).recovering = none := hr
  have hh' : (die (elapse dt s) d).handling = e :: rest := hh
  have hm' : (decide (puaDie e.pua = d) || decide ((die (elapse dt s) (puaDie e.pua)).status ≠ 1)) = true :=
    (Bool.or_eq_true ..).mpr (hm.imp decide_eq_true decide_eq_true)
  show execEventHandling dt d s = _
  simp only [execEventHandling, done, hr', hh', hk, Option.isSome_none, Bool.false_eq_true, if_false, hm', if_true]
/-- A charge of a unit of another die that runs. -/
theorem eventHandling_passes (hr : (die s d).recovering = none) (hh : (die s d).handling = e :: rest) (hk : e.kind = .charge)
    (hd : puaDie e.pua ≠ d) (h1 : (die s (puaDie e.pua)).status = 1) :
    exec (.eventHandling dt d) s = .next (enterHandling (puaDie e.pua) e (popHandling d (elapse dt s))) := by
  have hr' : (die (elapse dt s) d).recovering = none := hr
  have hh' : (die (elapse dt s) d).handling = e :: rest := hh
  have h1' : (die (elapse dt s) (puaDie e.pua)).status = 1 := h1
  show execEventHandling dt d s = _
  simp only [execEventHandling, done, hr', hh', hk, Option.isSome_none, Bool.false_eq_true, if_false, hd, h1', ne_eq,
    not_true_eq_false, decide_false, Bool.or_self]
end

/-- A charge of a unit that has left, or that is not there. -/
theorem chargeUnit_gone {e : Event} {s : State} (h : stateOf s e.pua ∈ [UnitState.quarantined, .retired, .absent]) :
    chargeUnit e s = s := by
  have hs : stateOf s e.pua = .quarantined ∨ stateOf s e.pua = .retired ∨ stateOf s e.pua = .absent := by
    simpa only [List.mem_cons, List.not_mem_nil, or_false] using h
  unfold chargeUnit
  rcases hs with h | h | h <;> simp only [show (unitRec s e.pua).state = _ from h]

/-! ### What the exchange of a unit leaves of the units (R231, R243) -/

/-- What a charge says of a unit: its state and cause, and how often it was quarantined and charged decisively. -/
def UnitRec.standing (r : UnitRec) : UnitState × Nat × Nat × Nat := (r.state, r.cause, r.lifetime, r.decisive)

/-- From `s` to `t` the dies keep their bodies, and only spares take another state. -/
structure Apart (s t : State) : Prop where
  aside : Aside s t
  unit : ∀ p, isSpare (stateOf s p) = false → (unitRec t p).standing = (unitRec s p).standing

section
variable {S : List Part} {s t u : State}

theorem Apart.refl (s : State) : Apart s s := ⟨.refl s, fun _ _ => rfl⟩
theorem Apart.trans (h : Apart s t) (g : Apart t u) : Apart s u :=
  ⟨h.aside.trans g.aside, fun p hp => (g.unit p ((congrArg (fun x => isSpare x.1) (h.unit p hp)).trans hp)).trans (h.unit p hp)⟩
theorem Apart.ite {a b : State} {c : Prop} [Decidable c] (h : c → Apart s a) (g : ¬ c → Apart s b) : Apart s (if c then a else b) := by
  split
  · exact h ‹_›
  · exact g ‹_›
theorem Apart.foldl {α : Type} {f : State → α → State} (h : ∀ x a, Apart x (f x a)) (l : List α) (s : State) :
    Apart s (l.foldl f s) := by
  induction l generalizing s with
  | nil => exact .refl s
  | cons a r ih => exact (h s a).trans (ih _)
/-- An operation that changes no unit. -/
theorem Aside.apart (h : Aside s t) (ht : Touches S s t) (hu : Part.units ∉ S) : Apart s t :=
  ⟨h, fun p _ => by rw [unitRec, show t.units = s.units from ht.agrees .units hu, unitRec]⟩
/-- An operation that changes neither dies nor units. -/
theorem Touches.apart (h : Touches S s t) (hd : Part.dies ∉ S) (hu : Part.units ∉ S) : Apart s t := (h.aside hd).apart h hu
end

/-- A change of a unit that keeps its standing. -/
theorem apart_modUnit (p : Nat) {f : UnitRec → UnitRec} (s : State) (h : ∀ r, (f r).standing = r.standing) :
    Apart s (modUnit p f s) := by
  refine ⟨(touches_modUnit ..).aside (by decide), fun q _ => ?_⟩
  by_cases hq : q = p
  · rw [hq, unitRec_modUnit_same, h]
  · rw [unitRec_modUnit_ne s f hq]
theorem apart_setOpen (p : Nat) (b : Bool) (s : State) : Apart s (setOpen p b s) := apart_modUnit p s fun _ => rfl
theorem apart_addObj (k n : Nat) (s : State) : Apart s (addObj k n s) := (touches_addObj_any ..).apart (by decide) (by decide)
/-- A spare takes the state that its queue asks for; no other unit changes. -/
theorem apart_spareMove (p : Nat) (s : State) : Apart s (spareMove p s) := by
  refine ⟨(touches_spareMove ..).aside (by decide), fun q hq => ?_⟩
  unfold spareMove
  dsimp only
  generalize (if (core s p).queue.isEmpty then UnitState.spareReady else .spareBusy) = want
  split
  · next h =>
    have hne : q ≠ p := fun he => by
      rw [← he, hq] at h
      exact nomatch h
    rw [unitRec_modUnit_ne s _ hne]
  · rfl
theorem apart_moveReplays (p : Nat) (s : State) : Apart s (moveReplays p s) := by
  refine Apart.trans ((touches_modCore ..).apart (by decide) (by decide)) <| .foldl (fun x r => ?_) _ _
  dsimp only
  split
  · exact Apart.trans ((touches_modCore ..).apart (by decide) (by decide)) (apart_spareMove ..)
  · exact (touches_modCluster_any ..).apart (by decide) (by decide)
theorem apart_leaveReplayRole (p : Nat) (s : State) : Apart s (leaveReplayRole p s) :=
  Apart.trans ((touches_assignAdoptive ..).apart (by decide) (by decide)) <|
    Apart.trans ((touches_refreshAdoptive _).apart (by decide) (by decide)) (apart_moveReplays ..)
theorem apart_publishSwap (lcn w sp : Nat) (s : State) : Apart s (publishSwap lcn w sp 1 s) := by
  have hobjs : Touches [.objs] (addObj (key 0x2806 14) 1 s) (setObjs [(key 0x2808 1, lcn), (key 0x2808 2, w), (key 0x2808 3, sp),
      (key 0x2808 4, 1)] (addObj (key 0x2806 14) 1 s)) := touches_setObjs _ _ (by simp [tallyKeys, key])
  exact (((apart_addObj ..).aside.trans (hobjs.aside (by decide))).trans (aside_raiseLocal ..)).apart
    (touches_publishSwap _ _ _ _ _ (by decide)) (by decide)
theorem apart_dropBinding (b : Binding) (s : State) : Apart s (dropBinding b s) := (touches_dropBinding ..).apart (by decide) (by decide)
theorem apart_dropSwap (ck : Nat) (s : State) : Apart s (dropSwap ck s) := by
  refine .foldl (fun x b => ?_) _ _
  split
  · exact (apart_dropBinding ..).trans <| (apart_setOpen ..).trans <| (apart_setOpen ..).trans (apart_publishSwap ..)
  · exact .refl x
theorem apart_requestCommit (bs : List Binding) (qs : List (Nat × Nat)) (us : List Nat) (cause : Nat) (s : State) :
    Apart s (requestCommit bs qs us cause s) := (aside_requestCommit ..).apart (touches_requestCommit ..) (by decide)
theorem apart_capacityEvent (via k f cause : Nat) (s : State) : Apart s (capacityEvent via k f cause s) :=
  (aside_capacityEvent ..).apart (touches_capacityEvent ..) (by decide)
theorem apart_rebindCluster (l ck : Nat) (toBallast : Bool) (us : List Nat) (cause : Nat) (s : State) :
    Apart s (rebindCluster l ck toBallast us cause s) := by
  unfold rebindCluster
  dsimp only
  split
  · exact (apart_addObj ..).trans (apart_requestCommit ..)
  · exact (apart_addObj ..).trans <| (apart_requestCommit ..).trans <| .ite (fun _ => .refl _) fun _ => apart_capacityEvent ..
theorem apart_rebindCore (p lcn cause : Nat) (s : State) : Apart s (rebindCore p lcn cause s) := by
  have hopen : Apart s (setOpen p true (withholdCore p (dropSwap (puaClusterKey p) s))) :=
    (apart_dropSwap ..).trans <| ((touches_withholdCore ..).apart (by decide) (by decide)).trans (apart_setOpen ..)
  unfold rebindCore
  dsimp only
  split
  · exact hopen.trans <| .ite (fun _ => apart_requestCommit ..) fun _ => (apart_addObj ..).trans (apart_rebindCluster ..)
  · exact hopen.trans (apart_rebindCluster ..)
theorem apart_laneOut (p cause : Nat) (s : State) : Apart s (laneOut p cause s) := by
  unfold laneOut
  dsimp only
  split
  · exact .refl s
  · split
    · exact (apart_setOpen ..).trans (apart_requestCommit ..)
    · exact (apart_setOpen ..).trans <| (apart_requestCommit ..).trans <| .foldl (fun _ _ => (apart_capacityEvent ..).trans ((aside_endSlice ..).apart (touches_endSlice ..) (by decide))) _ _
theorem apart_rechoose (p : Nat) (s : State) : Apart s (rechoose p s) := by
  unfold rechoose
  dsimp only
  refine .foldl (fun x w => (apart_dropBinding w.1 x).trans ?_) _ _
  generalize dropBinding w.1 x = y
  split
  · exact apart_rebindCore ..
  · exact (Apart.ite (fun _ => apart_publishSwap ..) fun _ => .refl y).trans <| (apart_setOpen ..).trans (apart_setOpen ..)
  · exact apart_laneOut ..
  · exact apart_rebindCluster ..
  · exact .refl y

/-! ### A decisive charge of a core (R228, R231, R236) -/

theorem aside_changeState (p : Nat) (new : UnitState) (cause : Nat) (s : State) : Aside s (changeState p new cause s) := by
  have hset : Touches [.objs] s (setObjs [(key 0x290C 1, p), (key 0x290C 2, (unitRec s p).state.code), (key 0x290C 3, new.code),
    (key 0x290C 4, cause)] s) := touches_setObjs _ _ (by simp [tallyKeys, key])
  exact (hset.aside (by decide)).trans <| ((touches_openScreen ..).aside (by decide)).trans <|
    ((touches_modUnit ..).aside (by decide)).trans (aside_raiseLocal ..)
/-- A unit that is quarantined has been quarantined once more. -/
theorem standing_changeState (p cause : Nat) (s : State) : (unitRec (changeState p .quarantined cause s) p).standing =
    (.quarantined, cause, satAdd 8 (unitRec s p).lifetime 1, (unitRec s p).decisive) := by
  have hset := unitRec_setObjs [(key 0x290C 1, p), (key 0x290C 2, (unitRec s p).state.code), (key 0x290C 3,
    UnitState.quarantined.code), (key 0x290C 4, cause)] s p
  unfold changeState
  dsimp only
  generalize setObjs _ s = x at hset
  have hopen : unitRec (openScreen p .quarantined x) p = unitRec s p := by
    rw [← hset, unitRec, show (openScreen p .quarantined x).units = x.units from (touches_openScreen ..).agrees .units (by decide),
      unitRec]
  generalize openScreen p .quarantined x = y at hopen
  generalize hz : modUnit p _ y = z
  have hzu : (unitRec z p).standing = (.quarantined, cause, satAdd 8 (unitRec s p).lifetime 1, (unitRec s p).decisive) := by
    rw [← hz, unitRec_modUnit_same, UnitRec.standing, hopen]
    rfl
  exact hzu

/-- A core leaves service: its LCN is rebound, or its work as a spare moves on. -/
theorem leaveService_core {p : Nat} (cause : Nat) {s : State} (hk : puaKind p = 0) (hu : usable (stateOf s p) = true) :
    Apart (changeState p .quarantined cause s) (leaveService .quarantined p cause s) := by
  have hguard : ¬ (!usable (unitRec s p).state) = true := by
    rw [show usable (unitRec s p).state = true from hu]
    decide
  unfold leaveService
  dsimp only
  simp only [if_neg hguard, hk]
  split
  · exact apart_rebindCore ..
  · exact (apart_leaveReplayRole ..).trans (apart_rechoose ..)

/-- A decisive charge of a core in use whose handling is not open. -/
theorem chargeUnit_core {e : Event} {s : State} (hc : 0x10 ≤ e.cause) (hk : puaKind e.pua = 0)
    (hu : usable (stateOf s e.pua) = true) (ho : (unitRec s e.pua).open_ = false) :
    Aside s (chargeUnit e s) ∧ (unitRec (chargeUnit e s) e.pua).standing =
      (.quarantined, e.cause, satAdd 8 (unitRec s e.pua).lifetime 1, satAdd 16 (unitRec s e.pua).decisive 1) := by
  have hpts : pointsOf e.cause = none := if_pos hc
  have hends : faultEnds s e.pua = [e.pua] := by simp [faultEnds, hk]
  have hcount : countCause e.cause e.pua s =
      modUnit e.pua (fun r => { r with decisive := satAdd 16 r.decisive 1, dirty := true }) s := by
    rw [countCause, hpts]
  have hout : chargeUnit e s = takeOut e.pua e.cause (countCause e.cause e.pua s) := by
    have hs : (unitRec s e.pua).state = stateOf s e.pua := rfl
    unfold chargeUnit
    dsimp only
    split
    · next h => rw [← hs, h] at hu; exact nomatch hu
    · next h => rw [← hs, h] at hu; exact nomatch hu
    · next h => rw [← hs, h] at hu; exact nomatch hu
    · simp only [hends, List.foldl_cons, List.foldl_nil, ho, hpts, Option.isNone_none, Bool.false_eq_true, if_false, if_true]
  rw [hout, hcount]
  generalize hy : modUnit e.pua _ s = y
  have hunit : unitRec y e.pua = { unitRec s e.pua with decisive := satAdd 16 (unitRec s e.pua).decisive 1, dirty := true } := by
    rw [← hy, unitRec_modUnit_same]
  have hu' : usable (stateOf y e.pua) = true := by
    rw [stateOf, hunit]
    exact hu
  have hscreen : stateOf y e.pua ≠ .screening := fun h => by
    rw [h] at hu'
    exact nomatch hu'
  have htake : takeOut e.pua e.cause y = leaveService .quarantined e.pua e.cause y := by
    simp only [takeOut, if_neg hscreen, hu', if_true]
  have hstand := standing_changeState e.pua e.cause y
  have hleave := leaveService_core e.cause hk hu'
  rw [htake]
  have hstate : isSpare (stateOf (changeState e.pua .quarantined e.cause y) e.pua) = false :=
    congrArg (fun x => isSpare x.1) hstand
  refine ⟨?_, (hleave.unit _ hstate).trans <| hstand.trans ?_⟩
  · exact Aside.trans (hy ▸ (touches_modUnit ..).aside (by decide)) <| (aside_changeState ..).trans hleave.aside
  · rw [hunit]

end Sys2Proof.Machine
end

section
/-!
SUPPORT. SEQUENCE_RETURN: what a returned number closes at the die that forwarded its event, and the record that takes it
(R87, R92, R385).
-/
namespace Sys2Proof.Machine
open Sys2Proof

/-! ### What the number closes at its die (R87, R92) -/

/-- The objects that an event shows its number in. -/
def showNumber (seq : Nat) (keys : List (Nat × Nat)) (s : State) : State :=
  keys.foldl (fun s k => if k.1 = 0 then setObj k.2 seq s else setSobj k.1 k.2 seq s) s
/-- The units that an event speaks of keep its number. -/
def answerUnits (n : Numbered) (s : State) : State :=
  let s := (chargedUnits n.event).foldl (fun s u => modUnit u (fun r => { r with lastSeq := some (n.position % 2 ^ 48) }) s) s
  if n.event.code = 0x2901 then
    modUnit n.event.pua (fun r => { r with seq := n.position % 2 ^ 48, era := n.position / 2 ^ 48, dirty := true }) s else s
/-- The EMCY that announces an event goes out with its number. -/
def answerEmcy (n : Numbered) (s : State) : State :=
  match n.event.emcy with
  | some x =>
    if x.2.2 = 255 then (dieIdxs s).foldl (fun s d =>
      if (die s d).status = 1 then emcy d x.1 x.2.1 (n.position % 2 ^ 48 % 2 ^ 32) s else s) s
    else emcy x.2.2 x.1 x.2.1 (n.position % 2 ^ 48 % 2 ^ 32) s
  | none => s
/-- The notification of an event joins its mailboxes, and the end of a slice unbinds them. -/
def answerPaths (n : Numbered) (s : State) : State :=
  let s := if n.event.noteCode = 0 then s
    else notify ⟨n.event.noteCode, n.event.slice, n.position, n.event.pt, n.event.note⟩ s
  if n.event.code = 0x2C05 then unbindSlice n.event.slice s else s
/-- All that a returned number does at its die before the event is acknowledged. -/
def answered (n : Numbered) (s : State) : State :=
  answerPaths n (setCapturePosition n.event n.position (answerEmcy n (answerUnits n
    (showNumber (n.position % 2 ^ 48) n.event.seqKeys s))))
theorem applyReturn_eq (d : Nat) (n : Numbered) (s : State) :
    applyReturn d n s = modDie d (fun x => { x with unacked := x.unacked.erase n.event }) (answered n s) := rfl

theorem touches_showNumber (seq : Nat) (keys : List (Nat × Nat)) (s : State) :
    Touches [.tallies, .objs, .slices] s (showNumber seq keys s) :=
  .foldl (fun _ _ => .mono (by decide) <| .ite (fun _ => touches_setObj_any ..) fun _ => touches_setSobj ..) _ _
theorem obj_showNumber (seq : Nat) {keys : List (Nat × Nat)} {k : Nat} (hk : (0, k) ∈ keys) (s : State) :
    obj (showNumber seq keys s) k 0 = seq := by
  refine (foldl_reaches (Q := fun _ => True) (P := fun x => obj x k 0 = seq) hk trivial (fun _ _ h => h) (fun x _ => ?_)
    fun x b _ hx => ?_).2
  · exact (congrArg (fun y => obj y k 0) (if_pos rfl)).trans (obj_setObj_same ..)
  · split
    · by_cases hb : k = b.2
      · rw [hb]
        exact obj_setObj_same ..
      · exact (obj_setObj_ne x seq 0 hb).trans hx
    · exact hx
theorem touches_answerUnits (n : Numbered) (s : State) : Touches [.units] s (answerUnits n s) :=
  .mono (by decide) <| .trans (.foldl (fun _ _ => touches_modUnit ..) _ _) <| .ite (fun _ => touches_modUnit ..) fun _ => .refl
theorem touches_answerEmcy (n : Numbered) (s : State) : Touches [.dies, .ports, .output] s (answerEmcy n s) := by
  unfold answerEmcy
  split
  · exact .ite_same (fun _ => .foldl (fun _ _ => .mono (by decide) <| .ite (fun _ => touches_emcy ..) fun _ => .refl) _ _)
      fun _ => touches_emcy ..
  · exact .mono (by decide) .refl
theorem aside_answerEmcy (n : Numbered) (s : State) : Aside s (answerEmcy n s) := by
  unfold answerEmcy
  split
  · exact .ite (fun _ => .foldl (fun _ _ => .ite (fun _ => aside_emcy ..) fun _ => .refl _) _ _) fun _ => aside_emcy ..
  · exact .refl s
theorem touches_notify (x : Notification) (s : State) : Touches [.dies, .mailboxes] s (notify x s) :=
  .foldl (fun _ _ => .mono (by decide) <| .trans (touches_update [.mailboxes] (by rfl)) (touches_modDie _ _ _ fun _ => by rfl)) _ _
theorem aside_notify (x : Notification) (s : State) : Aside s (notify x s) :=
  .foldl (fun _ _ => Aside.trans (Touches.aside (touches_update [.mailboxes] (by rfl)) (by decide)) (aside_modDie _ _ fun _ => by rfl)) _ _
theorem touches_unbindSlice (k : Nat) (s : State) : Touches [.mailboxes, .paths] s (unbindSlice k s) :=
  touches_update [.mailboxes, .paths] (by rfl)
theorem touches_answerPaths (n : Numbered) (s : State) : Touches [.dies, .mailboxes, .paths] s (answerPaths n s) :=
  .mono (by decide) <| .trans (.ite (fun _ => .refl) fun _ => touches_notify ..) <|
    .ite (fun _ => touches_unbindSlice ..) fun _ => .refl
theorem aside_answerPaths (n : Numbered) (s : State) : Aside s (answerPaths n s) :=
  Aside.trans (.ite (fun _ => .refl s) fun _ => aside_notify ..) <|
    .ite (fun _ => (touches_unbindSlice ..).aside (by decide)) fun _ => .refl _
theorem touches_setCapturePosition (e : Event) (position : Nat) (s : State) :
    Touches [.stages, .drafts, .dies] s (setCapturePosition e position s) := touches_update [.dies] (by rfl)

/-- A die but for what the number of an event is noted in. -/
def Die.unnoted (x : Die) : Die := { x.body with captures := [], capturing := [] }
theorem map_unnoted_setCapturePosition (e : Event) (position : Nat) (s : State) :
    (setCapturePosition e position s).dies.map Die.unnoted = s.dies.map Die.unnoted := List.map_map.trans rfl
/-- The dies keep their queues and their Reels. -/
theorem map_unnoted_answered (n : Numbered) (s : State) : (answered n s).dies.map Die.unnoted = s.dies.map Die.unnoted := by
  have hbefore : Aside s (answerEmcy n (answerUnits n (showNumber (n.position % 2 ^ 48) n.event.seqKeys s))) :=
    ((touches_showNumber ..).aside (by decide)).trans <| ((touches_answerUnits ..).aside (by decide)).trans (aside_answerEmcy ..)
  exact ((aside_answerPaths ..).view fun _ => rfl).trans <| (map_unnoted_setCapturePosition ..).trans (hbefore.view fun _ => rfl)
theorem obj_answered (n : Numbered) {k : Nat} (hk : (0, k) ∈ n.event.seqKeys) (s : State) :
    obj (answered n s) k 0 = n.position % 2 ^ 48 := by
  have hlater : Touches [.units, .dies, .ports, .output, .stages, .drafts, .mailboxes, .paths]
      (showNumber (n.position % 2 ^ 48) n.event.seqKeys s) (answered n s) :=
    .mono (by decide) <| .trans (touches_answerUnits ..) <| .trans (touches_answerEmcy ..) <|
      .trans (touches_setCapturePosition ..) (touches_answerPaths ..)
  rw [obj, show (answered n s).objs = _ from hlater.agrees .objs (by decide)]
  exact obj_showNumber _ hk s

/-- What a returned number may change. -/
def returnParts : List Part :=
  [.stages, .drafts, .tallies, .seqr, .dies, .units, .slices, .paths, .ports, .mailboxes, .objs, .output]
theorem touches_applyReturn (d : Nat) (n : Numbered) (s : State) : Touches returnParts s (applyReturn d n s) :=
  .mono (by decide) <| .trans (.trans (touches_showNumber ..) <| .trans (touches_answerUnits ..) <| .trans (touches_answerEmcy ..) <|
    .trans (touches_setCapturePosition ..) (touches_answerPaths ..)) (touches_modDie_any _ d _)

/-! ### The record joins the Reel (R385) -/

/-- The records that wait to be written and the one that is being written. -/
def Reel.pending (r : Reel) : List ReelEntry := r.current.toList ++ r.queue
theorem mem_startCode {x : ReelEntry} {r : Reel} (code : Nat) (h : x ∈ r.queue) :
    x ∈ (startCode code r).pending := by
  unfold startCode Reel.pending
  dsimp only
  split
  · exact List.mem_append_right _ h
  · next y _ _ =>
    by_cases hy : x = y
    · simp [hy]
    · exact List.mem_append_right _ ((List.mem_erase_of_ne hy).mpr h)
  · exact List.mem_append_right _ h
/-- A waiting record still waits, or its write has begun. -/
theorem mem_startRecord {x : ReelEntry} {r : Reel} (suspended : Bool) (h : x ∈ r.queue) : x ∈ (startRecord suspended r).pending := by
  have hwaits : x ∈ r.pending := List.mem_append_right _ h
  unfold startRecord
  dsimp only
  generalize (_ || _ : Bool) = blocked
  split
  · exact hwaits
  · split
    · exact mem_startCode _ h
    · split
      · exact mem_startCode _ h
      · split
        · exact List.mem_append_right _ h
        · next y rest _ hq =>
          rw [hq] at h
          exact h
        · exact hwaits
/-- A Reel that takes records takes this one. -/
theorem mem_placeRecord (now : Nat) (x : ReelEntry) {r : Reel} (hu : reelUsable r = true) (hn : r.next < fullIndex)
    (hq : r.queue.length < 1024) : x ∈ (placeRecord now false x r).pending := by
  have hfull : ¬ (decide (fullIndex ≤ r.next) && !(decide (r.next = fullIndex) && decide (x.event.code = 0x3807))) = true := by
    simp [hn]
  rw [placeRecord, hu, if_neg (by decide), if_neg hfull, if_neg (by decide), if_neg (Nat.not_le.mpr hq)]
  exact mem_startRecord false (List.mem_append_right _ (List.mem_singleton_self x))

/-- What a die has of numbers to take, of events to close and of records to write. -/
def Die.queues (x : Die) : List Numbered × List Event × List ReelEntry := (x.returns, x.unacked, x.reel.pending)
theorem map_queues_endLosses (d : Nat) (s : State) : (endLosses d s).dies.map Die.queues = s.dies.map Die.queues := by
  have hreel := map_dies_modDie (g := Die.queues) (f := fun x => { x with reel := { x.reel with losing := none, losingFull := false } })
    (fun _ => rfl) d s
  unfold endLosses
  dsimp only
  split
  · rfl
  · split
    · rfl
    · split
      · exact hreel
      · exact ((aside_raiseLocal ..).view fun _ => rfl).trans hreel
theorem touches_endLosses (d : Nat) (s : State) : Touches [.dies] s (endLosses d s) := by
  unfold endLosses
  dsimp only
  split
  · exact .mono (by decide) .refl
  · exact .mono (by decide) <| .ite (fun _ => .refl) fun _ => .trans (touches_modReel ..) <|
      .ite (fun _ => .refl) fun _ => touches_record ..
theorem touches_reelPlace (d : Nat) (n : Numbered) (s : State) : Touches [.dies, .ports, .output] s (reelPlace d n s) :=
  .mono (by decide) <| .trans (touches_modReel ..) <| .trans (touches_refreshError ..) (touches_endLosses ..)
/-- The record that a number is written with. -/
def Numbered.entry (n : Numbered) (s : State) : ReelEntry := ⟨n.event, n.position, obj s (key 0x2101 0) 0, false⟩
theorem queues_reelPlace {d : Nat} (n : Numbered) {s : State} (hd : d < s.dies.length) :
    (die (reelPlace d n s) d).queues = ((die s d).returns, (die s d).unacked,
      (placeRecord (keeperRead s d) (die s d).suspended (n.entry s) (die s d).reel).pending) := by
  have hlater : ∀ x, (die (endLosses d (refreshError d x)) d).queues = (die x d).queues := fun x => getD_congr_map
    ((map_queues_endLosses ..).trans ((aside_refreshError d x).view (g := Die.queues) fun _ => rfl)) d _
  refine (hlater _).trans ?_
  rw [modReel, die_modDie_same s _ hd]
  rfl

/-! ### SEQUENCE_RETURN (R87, R385) -/

/-- Whether the record of an event belongs to die `d`. -/
def recordsAt (s : State) (d : Nat) (e : Event) : Bool :=
  match e.scope with
  | 0 => e.die = d
  | 1 => s.anchorDie = d
  | _ => true
theorem recordsAt_of {s : State} {d : Nat} {e : Event} (h : e.scope = 0 ∧ e.die = d ∨ e.scope = 1 ∧ s.anchorDie = d ∨ 2 ≤ e.scope) :
    recordsAt s d e = true := by
  unfold recordsAt
  split
  · next h0 => exact decide_eq_true (by omega)
  · next h1 => exact decide_eq_true (by omega)
  · rfl

/-- The number leaves the returns of the die, and the die that forwarded the event closes what waits for it. -/
def takenReturn (d : Nat) (n : Numbered) (rest : List Numbered) (s : State) : State :=
  let s := settleMirror n (modDie d (fun x => { x with returns := rest }) s)
  if n.source = d then applyReturn d n s else s
/-- The record is placed where it belongs to the die. -/
def placedRecord (d : Nat) (n : Numbered) (s : State) : State :=
  if n.event.code ≠ 0 && recordsAt s d n.event then reelPlace d n s else s

theorem touches_settleMirror (n : Numbered) (s : State) : Touches [.seqr] s (settleMirror n s) :=
  .mono (by decide) <| .ite (fun _ => .refl) fun _ => touches_update [.seqr] rfl
theorem touches_takenReturn (d : Nat) (n : Numbered) (rest : List Numbered) (s : State) : Touches returnParts s (takenReturn d n rest s) :=
  .mono (by decide) <| .trans (touches_modDie_any _ d _) <| .trans (touches_settleMirror ..) <|
    .ite (fun _ => touches_applyReturn ..) fun _ => .refl
theorem touches_placedRecord (d : Nat) (n : Numbered) (s : State) : Touches [.dies, .ports, .output] s (placedRecord d n s) :=
  .ite_same (fun _ => touches_reelPlace ..) fun _ => .mono (by decide) .refl

/-- The number is taken, and at its die the event is closed. -/
theorem die_takenReturn {d : Nat} (n : Numbered) (rest : List Numbered) {s : State} (hd : d < s.dies.length) :
    (die (takenReturn d n rest s) d).unnoted = { (die s d).unnoted with
      returns := rest
      unacked := if n.source = d then (die s d).unacked.erase n.event else (die s d).unacked } ∧
      d < (takenReturn d n rest s).dies.length := by
  unfold takenReturn
  dsimp only
  generalize hx : modDie d _ s = x
  have hxd : die x d = { die s d with returns := rest } := by rw [← hx, die_modDie_same s _ hd]
  have hxl : d < x.dies.length := by rw [← hx, dies_length_modDie]; exact hd
  have hy : (settleMirror n x).dies = x.dies := (touches_settleMirror n x).agrees .dies (by decide)
  generalize settleMirror n x = y at hy
  rw [die, ← hy, ← die] at hxd
  rw [← hy] at hxl
  split
  · have hview := map_unnoted_answered n y
    have hlen : (answered n y).dies.length = y.dies.length := by simpa using congrArg List.length hview
    have hdie : (die (answered n y) d).unnoted = (die y d).unnoted := getD_congr_map hview d _
    have hunacked : (die (answered n y) d).unacked = (die y d).unacked := (congrArg Die.unacked hdie :)
    rw [applyReturn_eq, dies_length_modDie, die_modDie_same _ _ (hlen ▸ hxl)]
    refine ⟨?_, hlen ▸ hxl⟩
    show { (die (answered n y) d).unnoted with unacked := (die (answered n y) d).unacked.erase n.event } = _
    rw [hdie, hunacked, hxd]
    rfl
  · rw [hxd]
    exact ⟨rfl, hxl⟩
theorem obj_takenReturn {d : Nat} {n : Numbered} (hs : n.source = d) {k : Nat} (hk : (0, k) ∈ n.event.seqKeys)
    (rest : List Numbered) (s : State) : obj (takenReturn d n rest s) k 0 = n.position % 2 ^ 48 := by
  rw [takenReturn, if_pos hs, applyReturn_eq]
  exact obj_answered n hk _

theorem sequenceReturn_takes {d : Nat} {n : Numbered} {rest : List Numbered} {s : State} (dt : Nat) (h : (die s d).returns = n :: rest) :
    exec (.sequenceReturn dt d) s = .next (placedRecord d n (takenReturn d n rest (elapse dt s))) := by
  have h' : (die (elapse dt s) d).returns = n :: rest := h
  show execSequenceReturn dt d s = _
  simp only [execSequenceReturn, done, h']
  rfl

/-! ### The statement -/

/-- Settles O5: a number that comes back leaves the queues of its die as they are but for the wait that it closes, the record of
its event waits in the Reel, and a decisive charge quarantines a core before its place is taken. -/
theorem returnedNumberAndHandling : Obligations.ReturnedNumberAndHandling := by
  refine ⟨fun dt d n rest s hd h => ?_, fun dt d e rest s hd hr hh hk => ?_, fun dt d e rest s hd hr hh hk hm hgone => ?_,
    fun dt d e rest s hd hr hh hk hne h1 hp hroom => ?_, fun dt d e rest s hd hr hh hk hm hc hcore hu ho => ?_⟩
  · have hexec := sequenceReturn_takes dt h
    obtain ⟨hdie, hl⟩ := die_takenReturn n rest (s := elapse dt s) hd
    have hobj := fun hs : n.source = d => fun k hk => obj_takenReturn (k := k) hs hk rest (elapse dt s)
    have htaken := touches_takenReturn d n rest (elapse dt s)
    generalize takenReturn d n rest (elapse dt s) = u at hexec hdie hl hobj htaken
    have hplaced := touches_placedRecord d n u
    have hobjs : ∀ k, obj (placedRecord d n u) k 0 = obj u k 0 := fun k =>
      congrArg (fun l => tgetD l k 0) (hplaced.agrees .objs (by decide))
    have hkept : (die (placedRecord d n u) d).returns = (die u d).returns ∧ (die (placedRecord d n u) d).unacked = (die u d).unacked := by
      unfold placedRecord
      split
      · have hq := queues_reelPlace n hl
        exact ⟨congrArg Prod.fst hq, congrArg (fun x => x.2.1) hq⟩
      · exact ⟨rfl, rfl⟩
    refine ⟨_, hexec, hkept.1.trans (congrArg Die.returns hdie :), fun hs => ⟨hkept.2.trans ?_, fun k hk => ?_⟩,
      fun hcode hscope hsus husable hnext hlen => ?_, ?_⟩
    · exact (congrArg Die.unacked hdie :).trans (if_pos hs)
    · rw [hobjs]
      exact hobj hs k hk
    · have hreel : (die u d).reel = (die s d).reel := (congrArg Die.reel hdie :)
      have hmine : recordsAt u d n.event = true := recordsAt_of <| by
        rw [show u.anchorDie = s.anchorDie from htaken.agrees .anchorDie (by decide)]
        exact hscope
      have hrecord : placedRecord d n u = reelPlace d n u := if_pos (by simp [hcode, hmine])
      have hq : (die (reelPlace d n u) d).reel.pending =
          (placeRecord (keeperRead u d) (die u d).suspended (n.entry u) (die u d).reel).pending :=
        congrArg (fun x => x.2.2) (queues_reelPlace n hl)
      rw [show (die u d).suspended = false from (congrArg Die.suspended hdie :).trans hsus, hreel] at hq
      refine ⟨n.entry u, ?_, rfl, rfl, (hobjs _).symm⟩
      have hmem : n.entry u ∈ (die (reelPlace d n u) d).reel.pending := by
        rw [hq]
        exact mem_placeRecord _ _ husable hnext hlen
      rw [hrecord]
      exact hmem
    · exact (Touches.mono (S := .turn :: returnParts) (by decide) (htaken.trans hplaced)).eq_blend
  · refine ⟨_, eventHandling_record hr hh hk, ?_, (touches_popHandling ..).eq_blend⟩
    exact (handling_popHandling (s := elapse dt s) hd).1.trans (congrArg (List.drop 1) hh)
  · have hpop := (handling_popHandling (s := elapse dt s) hd).1.trans (congrArg (List.drop 1) hh)
    have hsame : chargeUnit e (popHandling d (elapse dt s)) = popHandling d (elapse dt s) := chargeUnit_gone <| by
      rw [stateOf, unitRec_popHandling]
      exact hgone
    exact ⟨_, eventHandling_charge hr hh hk hm, by rw [hsame]; exact hpop, by rw [hsame]; exact (touches_popHandling ..).eq_blend⟩
  · obtain ⟨hpop, hother⟩ := handling_popHandling (s := elapse dt s) hd
    have hpops := touches_popHandling d (elapse dt s)
    have hunit := unitRec_popHandling d (elapse dt s)
    have hexec := eventHandling_passes (dt := dt) hr hh hk hne h1
    have hq : (die (popHandling d (elapse dt s)) (puaDie e.pua)).handling = (die s (puaDie e.pua)).handling := hother _ hne
    have hl : puaDie e.pua < (popHandling d (elapse dt s)).dies.length := hpops.dies_length (by decide) ▸ hp
    generalize popHandling d (elapse dt s) = y at hexec hpop hpops hunit hq hl
    have henter := touches_enterHandling (puaDie e.pua) e y
    obtain ⟨hjoins, -, -, hrest⟩ := enterHandling_room e hl (hq ▸ hroom)
    refine ⟨_, hexec, ?_, hjoins.trans (congrArg (· ++ [e]) hq), fun p => ?_,
      (Touches.mono (S := [.dies, .ports, .output]) (by decide) (hpops.trans henter)).eq_blend⟩
    · rw [hrest d hne.symm]
      exact hpop.trans (congrArg (List.drop 1) hh)
    · rw [unitRec, show (enterHandling (puaDie e.pua) e y).units = y.units from henter.agrees .units (by decide)]
      exact hunit p
  · have hpop := (handling_popHandling (s := elapse dt s) hd).1.trans (congrArg (List.drop 1) hh)
    have hunit : unitRec (popHandling d (elapse dt s)) e.pua = unitRec s e.pua := unitRec_popHandling ..
    have hexec := eventHandling_charge (dt := dt) hr hh hk hm
    generalize popHandling d (elapse dt s) = y at hexec hpop hunit
    obtain ⟨haside, hstand⟩ := chargeUnit_core (s := y) hc hcore (by rw [stateOf, hunit]; exact hu) (by rw [hunit]; exact ho)
    rw [hunit] at hstand
    exact ⟨_, hexec, (congrArg Die.handling (haside.die d) :).trans hpop, congrArg (fun x => x.1) hstand,
      congrArg (fun x => x.2.1) hstand, congrArg (fun x => x.2.2.1) hstand, congrArg (fun x => x.2.2.2) hstand⟩

end Sys2Proof.Machine
end

section
/-!
SUPPORT. Modes of a slice, the model's buckets and the quiet time after ineligible tiles (R114, R115, R119, R122, R144).
-/
namespace Sys2Proof.Machine
open Sys2Proof

/-! ### The mode asked of a slice (R119) -/

theorem code_ofCode {c : Nat} (h : c ≤ 3) : (Mode.ofCode c).code = c := by
  interval_cases c <;> rfl
theorem ofCode_code (m : Mode) : Mode.ofCode m.code = m := by
  cases m <;> rfl

/-- Where the stored policy is defined and holds mode codes, the mode asked has the higher of the two codes. -/
theorem code_wantedMode {s : State} {x : Slice} (hu : undefinedCase s 117 = false) (hf : obj s (key 0x2400 0) 0 ≤ 3)
    (ho : tgetD x.objs (key 0x2404 1) 0xFF ≤ 3 ∨ tgetD x.objs (key 0x2404 1) 0xFF = 0xFF ∧ roleDefault s x.role ≤ 3) :
    (wantedMode s x).code = max (obj s (key 0x2400 0) 0)
      (if tgetD x.objs (key 0x2404 1) 0xFF = 0xFF then roleDefault s x.role else tgetD x.objs (key 0x2404 1) 0xFF) := by
  have hown : (if tgetD x.objs (key 0x2404 1) 0xFF = 0xFF then roleDefault s x.role else tgetD x.objs (key 0x2404 1) 0xFF) ≤ 3 := by
    split <;> omega
  simp only [wantedMode, hu, Bool.false_eq_true, if_false]
  exact code_ofCode (Nat.max_le.mpr ⟨hf, hown⟩)

/-- Settles O47: the codes are those of the cases, and a write of the floor is that of the policy. -/
theorem modeInForceOfASlice : Obligations.ModeInForceOfASlice := by
  refine ⟨⟨rfl, rfl, rfl, rfl, ofCode_code⟩, fun s x => code_wantedMode, fun x h => ?_, fun dt p value s h => ?_⟩
  · rw [modeInForce, h]
    rfl
  · obtain ⟨-, -, hmode, -⟩ := policy_written h (.inl rfl)
    exact ⟨_, rfl, hmode⟩

/-! ### Progress counts cut at a switch (R144) -/

theorem progress_cut (r : LcnRec) : r.cut.progress % 32 = 0 := by
  unfold LcnRec.cut
  dsimp only
  split
  · omega
  · exact Nat.mul_mod_left ..
theorem progress_cutBehind (running : Bool) (r : LcnRec) : (r.cutBehind running).progress % 32 = 0 := progress_cut _

/-- Whether an LCN runs a tile of the sample stream. -/
def runsLcn (s : State) (lcn : Nat) : Bool := match coreOf s lcn with
  | some p => runsStream s p
  | none => false
theorem lcnRec_cutProgress {s : State} {ck l : Nat} (hl : logicalOf s ck = some l) (n : Nat) :
    (n / 16 = l → (lcnRec (cutProgress ck s) n).progress % 32 = 0) ∧ (n / 16 ≠ l → lcnRec (cutProgress ck s) n = lcnRec s n) := by
  have hcut : (cutProgress ck s).lcns = s.lcns.map fun e => (e.1, if e.1 / 16 = l then e.2.cutBehind (runsLcn s e.1) else e.2) := by
    simp only [cutProgress, hl]
    refine List.map_congr_left fun e _ => ?_
    split <;> rfl
  simp only [lcnRec, tgetD, hcut, tget_map fun e : Nat × LcnRec => if e.1 / 16 = l then e.2.cutBehind (runsLcn s e.1) else e.2]
  cases tget s.lcns n with
  | none => exact ⟨fun _ => rfl, fun _ => rfl⟩
  | some r => exact ⟨fun h => by simp only [Option.map_some, Option.getD_some, if_pos h, progress_cutBehind], fun h => by simp [h]⟩

/-! ### MODE_SWITCH (R122) -/

/-- The change without the cluster that has switched. -/
def ModeChange.taken (ck : Nat) (c : ModeChange) : ModeChange := { c with waiting := c.waiting.filter (· ≠ ck) }
/-- The slice once a cluster has taken the changes that are due for it. -/
def Slice.taking (due : ModeChange → Bool) (ck : Nat) (x : Slice) : Slice :=
  { x with switches := x.switches.map fun c => if due c then c.taken ck else c }
/-- The slice in the mode, and with the changes, that are left. -/
def Slice.settled (r : Mode × List ModeChange) (x : Slice) : Slice := { x with mode := r.1, switches := r.2 }

/-- The change of mode is over once no cluster of the slice waits for it, and stands till then. -/
theorem switchesLeft_single {now : Nat} {cks : List Nat} {m : Mode} {c : ModeChange} (h : c.after ≤ now) :
    switchesLeft now cks m [c] = if ∃ ck ∈ c.waiting, ck ∈ cks then (m, [c]) else (c.mode, []) := by
  by_cases hw : ∃ ck ∈ c.waiting, ck ∈ cks
  · have : c.waiting.any (fun ck => cks.contains ck) = true := by simpa using hw
    rw [if_pos hw]
    simp only [switchesLeft, this, Bool.not_true, Bool.and_false, Bool.false_eq_true, if_false]
  · have : c.waiting.any (fun ck => cks.contains ck) = false := by simpa using hw
    rw [if_neg hw]
    simp only [switchesLeft, this, Bool.not_false, Bool.and_true, h, decide_true, if_true]

theorem modeSwitch_takes (dt : Nat) {s : State} {k ck : Nat} {x : Slice} {c : ModeChange} (hx : slice s k = some x)
    (hs : x.switches = [c]) (hck : ck ∈ c.waiting) (hc : c.after ≤ bridleTime (elapse dt s) ck)
    (hb : (∀ p ∈ coresOf ck, (core s p).tile = none) ∨ c.after ≤ (cluster s ck).boundary) : ∃ due, due c = true ∧
    exec (.modeSwitch dt k ck) s = .next (endSwitch k (cutProgress ck (modSlice k (Slice.taking due ck) (elapse dt s)))) := by
  have hdue : (((coresOf ck).all fun p => (core (elapse dt s) p).tile.isNone) || c.after ≤ (cluster (elapse dt s) ck).boundary) = true := by
    rw [Bool.or_eq_true]
    exact hb.imp (fun h => List.all_eq_true.mpr fun p hp => Option.isNone_iff_eq_none.mpr (h p hp)) fun h => decide_eq_true h
  refine ⟨fun c => c.after ≤ bridleTime (elapse dt s) ck && (((coresOf ck).all fun p => (core (elapse dt s) p).tile.isNone) ||
    c.after ≤ (cluster (elapse dt s) ck).boundary), by simp only [hc, decide_true, hdue, Bool.and_self], ?_⟩
  show execModeSwitch dt k ck s = _
  simp only [execModeSwitch, done, show slice (elapse dt s) k = some x from hx, hs, List.any_cons, List.any_nil, hc, decide_true, hdue,
    Bool.and_true, List.contains_iff_mem.mpr hck, Bool.or_false, if_true]
  rfl

theorem touches_endSwitch (k : Nat) (s : State) : Touches [.slices, .qualifying, .dies] s (endSwitch k s) := by
  unfold endSwitch
  split
  · exact .mono (by decide) .refl
  · exact .mono (by decide) <| .trans (touches_modSlice _ _ _ fun _ => by rfl) <| .trans (touches_syncQualifying _) (touches_refreshBound ..)
theorem slice_endSwitch {s : State} {k : Nat} {x : Slice} (hx : slice s k = some x) : ∃ b since, slice (endSwitch k s) k =
    some { x.settled (switchesLeft (pt s) (sliceClusters s k) x.mode x.switches) with boundState := b, boundSince := since } := by
  have hmod : slice (modSlice k (Slice.settled (switchesLeft (pt s) (sliceClusters s k) x.mode x.switches)) s) k =
      some (x.settled (switchesLeft (pt s) (sliceClusters s k) x.mode x.switches)) := by
    rw [slice_modSlice_same, hx]
    rfl
  obtain ⟨b, since, hy, -⟩ := slice_refreshBound (s := syncQualifying (modSlice k _ s)) hmod
  simp only [endSwitch, hx]
  exact ⟨b, since, hy⟩

/-- The clusters that serve a slice follow from its box. -/
theorem sliceClusters_modSlice (k : Nat) {f : Slice → Slice} (s : State) (ho : ∀ x, (f x).origin = x.origin)
    (he : ∀ x, (f x).extent = x.extent) : sliceClusters (modSlice k f s) k = sliceClusters s k := by
  have hserve : clusterOf (modSlice k f s) = clusterOf s := rfl
  simp only [sliceClusters, sliceLogicals, slice_modSlice_same, hserve]
  cases slice s k with
  | none => rfl
  | some x => simp only [Option.map_some, boxLogicals, ho, he, modSlice_variant]

/-- What a taken switch makes of a slice with one change on its way. -/
theorem clusterMode_taken {x y : Slice} {c : ModeChange} {ck : Nat} {cks : List Nat} {now : Nat} (h : c.after ≤ now)
    (hm : y.mode = (switchesLeft now cks x.mode [c.taken ck]).1) (hs : y.switches = (switchesLeft now cks x.mode [c.taken ck]).2) :
    clusterMode y ck = c.mode ∧ (∀ c', c' ≠ ck → c' ∈ c.waiting → c' ∈ cks → clusterMode y c' = x.mode) ∧
      ((∀ c' ∈ c.waiting, c' = ck) → y.mode = c.mode ∧ y.switches = []) := by
  rw [switchesLeft_single (c := c.taken ck) h] at hm hs
  have hmem : ∀ {c'}, c' ∈ (c.taken ck).waiting ↔ c' ∈ c.waiting ∧ c' ≠ ck := by simp [ModeChange.taken]
  have hno : ¬ ck ∈ (c.taken ck).waiting := fun h => (hmem.mp h).2 rfl
  split at hm
  · next hw =>
    rw [if_pos hw] at hs
    refine ⟨?_, fun c' hne hc' _ => ?_, fun hall => ?_⟩
    · simp [clusterMode, hs, hno]
      rfl
    · simp [clusterMode, hs, hmem.mpr ⟨hc', hne⟩, hm]
    · obtain ⟨c', hc', -⟩ := hw
      exact absurd (hall c' (hmem.mp hc').1) (hmem.mp hc').2
  · next hw =>
    rw [if_neg hw] at hs
    refine ⟨by simp [clusterMode, hs, hm]; rfl, fun c' hne hc' hin => absurd ⟨c', hmem.mpr ⟨hc', hne⟩, hin⟩ hw, fun _ => ⟨hm, hs⟩⟩

/-- Package Time follows from the keepers and the block's own clock. -/
theorem Touches.pt_eq {S : List Part} {s t : State} (h : Touches S s t) (hk : .keepers ∉ S) (ha : .anchorDie ∉ S) (hn : .now ∉ S) :
    pt t = pt s := by
  rw [pt, pt, keeperRead, keeperRead, keeper_of_touches h hk, show t.anchorDie = s.anchorDie from h.agrees .anchorDie ha,
    show t.now = s.now from h.agrees .now hn]

/-! ### MODEL_BUCKET_ROLL (R115) -/

theorem rollModel_spec {s : State} (hl : s.model.length = 24) :
    (rollModel s).modelIndex = max s.modelIndex (s.qualifying.read s.now / 3600000000000) ∧
    (rollModel s).model = (List.replicate (s.qualifying.read s.now / 3600000000000 - s.modelIndex) 0 ++ s.model).take 24 ∧
    Touches [.modelIndex, .model] s (rollModel s) := by
  unfold rollModel
  generalize s.qualifying.read s.now / 3600000000000 = h
  dsimp only
  split
  · next hle =>
    refine ⟨(Nat.max_eq_left hle).symm, ?_, .mono (by decide) .refl⟩
    rw [Nat.sub_eq_zero_of_le hle, List.replicate_zero, List.nil_append, ← hl, List.take_length]
  · next hlt =>
    refine ⟨(Nat.max_eq_right (Nat.le_of_not_le hlt)).symm, ?_, touches_update [.modelIndex, .model] rfl⟩
    show List.take 24 (List.replicate (min 24 (h - s.modelIndex)) 0 ++ s.model) = _
    rcases Nat.le_total 24 (h - s.modelIndex) with h24 | h24
    · rw [Nat.min_eq_left h24, List.take_append_of_le_length (by simp), List.take_append_of_le_length (by simpa using h24),
        List.take_replicate, List.take_replicate, Nat.min_self, Nat.min_eq_left h24]
    · rw [Nat.min_eq_right h24]

/-- The buckets of the present hour stand. -/
theorem rollModel_rolled (s : State) : rollModel (rollModel s) = rollModel s := by
  by_cases h : s.qualifying.read s.now / 3600000000000 ≤ s.modelIndex
  · have : rollModel s = s := if_pos h
    rw [this, this]
  · have h1 : rollModel s = { s with modelIndex := _, model := _ } := if_neg h
    rw [h1]
    exact if_pos (Nat.le_refl _)

theorem touches_modelFlag (s : State) (b : Bool) : Touches [.modelFlag] s { s with modelFlag := b } := touches_update [.modelFlag] rfl
/-- The check sets the flag where the count exceeds the threshold, and changes nothing else unless it sets it. -/
theorem checkModel_spec (s : State) :
    (checkModel s).modelFlag = (s.modelFlag || decide (modelThreshold s.variant < modelCount s)) ∧
      ((checkModel s).modelFlag = s.modelFlag → checkModel s = s) ∧
      Touches [.modelFlag, .slices, .dies, .ports, .output] s (checkModel s) := by
  unfold checkModel
  split
  · next h =>
    obtain ⟨hover, hclear⟩ : modelThreshold s.variant < modelCount s ∧ s.modelFlag = false := by simpa using h
    have hset := touches_modelFlag s true
    have hrest := (touches_recordPkg 0x2403 ([1] ++ leBytes 4 (modelCount { s with modelFlag := true }) ++ [0])
      { s with modelFlag := true }).trans ((touches_refreshBounds _).trans (touches_refreshErrors _))
    have hflag : (checkModel s).modelFlag = true := by
      rw [checkModel, if_pos h]
      exact hrest.agrees .modelFlag (by decide)
    rw [checkModel, if_pos h] at hflag
    refine ⟨hflag.trans (by simp [hover]), fun he => ?_, .mono (by decide) (hset.trans hrest)⟩
    exact nomatch (hflag.symm.trans he).trans hclear
  · next h =>
    refine ⟨?_, fun _ => rfl, .mono (by decide) .refl⟩
    cases hf : s.modelFlag <;> simp_all

/-! ### INELIGIBLE_QUIET_TIMEOUT (R114) -/

/-- The slice once its ineligible tiles no longer void the bound. -/
def Slice.quiet (x : Slice) : Slice := { x with ineligibleAt := none }

theorem ineligibleQuietTimeout_ends (dt : Nat) {s : State} {k a : Nat} {x : Slice} (hx : slice s k = some x)
    (ha : x.ineligibleAt = some a) (hat : a + 1000000000 ≤ pt (elapse dt s)) :
    exec (.ineligibleQuietTimeout dt k) s = .next (refreshBound k (modSlice k Slice.quiet (elapse dt s))) := by
  show execIneligibleQuietTimeout dt k s = _
  simp only [execIneligibleQuietTimeout, done, show slice (elapse dt s) k = some x from hx, ha, if_pos hat]
  rfl
theorem boundStateOf_quiet (s : State) (x : Slice) (h : x.ineligibleAt = none) : boundStateOf s x ≠ 4 := by
  simp only [boundStateOf, h, Option.isSome_none, Bool.false_eq_true, if_false]
  split_ifs <;> decide

/-! ### The statement -/

/-- Settles O1: the switch is one step of the changes on their way, the roll one of the buckets, the timeout one of the bound
state's conditions. -/
theorem modeCommandsTakeEffect : Obligations.ModeCommandsTakeEffect := by
  refine ⟨fun dt k ck l m c w s x hx hs hlife hck hpt hc hb hl => ?_, fun dt s hlen => ?_, fun dt k s x a hx ha hlife hat => ?_⟩
  · obtain ⟨due, hdue, hexec⟩ := modeSwitch_takes dt hx hs hck hc hb
    have hmod : slice (modSlice k (Slice.taking due ck) (elapse dt s)) k = some (x.taking due ck) :=
      (slice_modSlice_same ..).trans (congrArg _ hx)
    have hleft : (x.taking due ck).switches = [ModeChange.taken ck ⟨m, c, w⟩] := by
      simp only [Slice.taking, hs, List.map_cons, List.map_nil, hdue, if_true]
    have hcks : sliceClusters (modSlice k (Slice.taking due ck) (elapse dt s)) k = sliceClusters s k :=
      sliceClusters_modSlice k (elapse dt s) (fun _ => rfl) fun _ => rfl
    have hu := touches_modSlice (elapse dt s) k (Slice.taking due ck) fun _ => rfl
    have hcut := lcnRec_cutProgress (s := modSlice k (Slice.taking due ck) (elapse dt s)) (ck := ck) hl
    have hold : ∀ n, lcnRec (modSlice k (Slice.taking due ck) (elapse dt s)) n = lcnRec s n := fun _ => rfl
    generalize modSlice k _ (elapse dt s) = u at hexec hmod hcks hu hcut hold
    have hv := touches_cutProgress ck u
    have hxv := (slice_of_touches hv (by decide) k).trans hmod
    have hcv := (hv.sliceClusters_eq (by decide) (by decide) (by decide) (by decide) k).trans hcks
    have hpv : pt (cutProgress ck u) = pt (elapse dt s) := (hu.trans hv).pt_eq (by decide) (by decide) (by decide)
    generalize cutProgress ck u = v at hexec hv hxv hcv hpv hcut
    obtain ⟨b, since, hy⟩ := slice_endSwitch hxv
    have ht := touches_endSwitch k v
    rw [hpv, hcv, hleft] at hy
    generalize endSwitch k v = t at hexec ht hy
    have hlcn : ∀ n, lcnRec t n = lcnRec v n := fun n => by
      rw [lcnRec, lcnRec, show t.lcns = v.lcns from ht.agrees .lcns (by decide)]
    obtain ⟨hnew, hothers, hdone⟩ := clusterMode_taken (x := x) (y := { (x.taking due ck).settled (switchesLeft (pt (elapse dt s))
      (sliceClusters s k) x.mode [ModeChange.taken ck ⟨m, c, w⟩]) with boundState := b, boundSince := since }) (c := ⟨m, c, w⟩) hpt rfl rfl
    exact ⟨t, _, hexec, hy, hnew, hothers, hdone, fun n hn => (hlcn n).symm ▸ (hcut n).1 hn,
      fun n hn => (hlcn n).trans (((hcut n).2 hn).trans (hold n)),
      (Touches.mono (S := [.slices, .lcns, .qualifying, .dies]) (by decide) (hu.trans (hv.trans ht))).eq_blend⟩
  · obtain ⟨hindex, hmodel, hroll⟩ := rollModel_spec (s := elapse dt s) hlen
    obtain ⟨hflag, hsame, hcheck⟩ := checkModel_spec (rollModel (elapse dt s))
    rw [modelCount, rollModel_rolled] at hflag
    dsimp only
    refine ⟨checkModel (rollModel (elapse dt s)), rfl, ?_⟩
    generalize rollModel (elapse dt s) = r at hindex hmodel hroll hflag hsame hcheck
    generalize checkModel r = t at hflag hsame hcheck
    have hmt : t.model = r.model := hcheck.agrees .model (by decide)
    have hfr : r.modelFlag = s.modelFlag := hroll.agrees .modelFlag (by decide)
    refine ⟨(show t.modelIndex = r.modelIndex from hcheck.agrees .modelIndex (by decide)).trans hindex, hmt.trans hmodel, ?_,
      fun h => ?_, (Touches.mono (S := [.model, .modelIndex, .modelFlag, .slices, .dies, .ports, .output]) (by decide)
        (hroll.trans hcheck)).eq_blend⟩
    · rw [hflag, hmt, hfr, show r.variant = s.variant from hroll.agrees .variant (by decide)]
    · rw [hsame (h.trans hfr.symm)]
      exact hroll.eq_blend
  · have hexec := ineligibleQuietTimeout_ends dt hx ha hat
    have hmod : slice (modSlice k Slice.quiet (elapse dt s)) k = some x.quiet := (slice_modSlice_same ..).trans (congrArg _ hx)
    have hu := touches_modSlice (elapse dt s) k Slice.quiet fun _ => rfl
    generalize modSlice k Slice.quiet (elapse dt s) = u at hexec hmod hu
    have ht := touches_refreshBound k u
    obtain ⟨b, since, hy, hb⟩ := slice_refreshBound hmod
    obtain rfl := hb (by simpa [sliceLive, Slice.quiet] using hlife)
    generalize refreshBound k u = t at hexec hy ht
    have hbound := boundStateOf_congr (ht.agrees .modelFlag (by decide)) (x.quiet)
    exact ⟨t, _, hexec, hy, rfl, hbound.symm, boundStateOf_quiet u _ rfl,
      (Touches.mono (S := [.slices, .dies]) (by decide) (hu.trans ht)).eq_blend⟩

end Sys2Proof.Machine
end

section
/-!
SUPPORT. What the operations on tiles leave: `Calm S g h τ s t` says that from `s` to `t` only the parts in `S` have changed, that
no core changes in what `g` shows, no LCN in what `h` shows and no slice in what `τ` shows, and that no report is lost on its way
to a Gondola.
-/
namespace Sys2Proof.Machine
open Sys2Proof

/-! ### Reports on their way (R46, R228) -/

/-- An event about a unit of a cluster waits at its Bridle or its Field Agent. -/
def Waiting (s : State) (p : Nat) (e : Event) : Prop :=
  e ∈ (cluster s (puaClusterKey p)).queue ∨ e ∈ (field s (puaFieldIdx p)).queue
/-- No event about a core is lost. -/
structure Reports (s t : State) : Prop where
  room : t.fields.length = s.fields.length
  waits : ∀ p e, aCore s p = true → Waiting s p e → Waiting t p e

section
variable {S L : List Part} {s t u : State}

theorem aCore_iff {p : Nat} : aCore s p = true ↔ puaKind p = 0 ∧ puaField p < 6 ∧ puaFieldIdx p < s.fields.length ∧ puaCluster p < 832 := by
  simp [aCore, and_assoc]
theorem aCore_congr {p : Nat} (h : t.fields.length = s.fields.length) : aCore t p = aCore s p := by
  simp only [aCore, h]
theorem Reports.refl (s : State) : Reports s s := ⟨rfl, fun _ _ _ h => h⟩
theorem Reports.trans (h : Reports s t) (g : Reports t u) : Reports s u :=
  ⟨g.room.trans h.room, fun p e hp hw => g.waits p e ((aCore_congr h.room).trans hp) (h.waits p e hp hw)⟩
theorem Reports.ite {a b : State} {c : Prop} [Decidable c] (h : c → Reports s a) (g : ¬ c → Reports s b) :
    Reports s (if c then a else b) := by
  split
  · exact h ‹_›
  · exact g ‹_›
/-- Queues that only grow lose no event. -/
theorem reports_of_queues (hl : t.fields.length = s.fields.length) (hc : ∀ ck, (cluster s ck).queue ⊆ (cluster t ck).queue)
    (hf : ∀ f, (field s f).queue ⊆ (field t f).queue) : Reports s t :=
  ⟨hl, fun _ _ _ h => h.imp (fun h => hc _ h) fun h => hf _ h⟩
theorem Still.reports (h : Still s t) : Reports s t :=
  reports_of_queues h.fields_length (fun ck => (h.cluster_queue ck).symm ▸ List.Subset.refl _)
    fun f => by
      rw [show (Machine.field t f).queue = (Machine.field s f).queue from (congrArg Field.queue (h.field f) :)]
      exact List.Subset.refl _
theorem reports_modCluster (ck : Nat) {f : Cluster → Cluster} (s : State) (h : ∀ c, c.queue ⊆ (f c).queue) :
    Reports s (modCluster ck f s) := by
  refine reports_of_queues rfl (fun j => ?_) fun _ => List.Subset.refl _
  by_cases hj : j = ck
  · rw [hj, cluster_modCluster_same]
    exact h _
  · rw [cluster_modCluster_ne s f hj]
    exact List.Subset.refl _
theorem reports_modField (i : Nat) {f : Field → Field} (s : State) (h : ∀ x, x.queue ⊆ (f x).queue) : Reports s (modField i f s) := by
  refine reports_of_queues (fields_length_modField ..) (fun _ => List.Subset.refl _) fun j => ?_
  rw [field_modField]
  split
  · exact h _
  · exact List.Subset.refl _
theorem reports_holdCluster (r ck : Nat) (s : State) : Reports s (holdCluster r ck s) :=
  (reports_modCluster ck s fun _ => by exact List.Subset.refl _).trans (cluster_holdCluster r ck s).reports
theorem reports_freeCluster (r ck : Nat) (s : State) : Reports s (freeCluster r ck s) :=
  (reports_modCluster ck s fun _ => by exact List.Subset.refl _).trans (cluster_freeCluster r ck s).reports
theorem reports_holdField (r f : Nat) (s : State) : Reports s (holdField r f s) :=
  (reports_modField f s fun _ => by exact List.Subset.refl _).trans (still_holdField r f s).reports

theorem ckField_of_find {l : Tab Cluster} {f ck : Nat} {d : Cluster}
    (hf : l.find? (fun e => ckField e.1 = f && !e.2.queue.isEmpty) = some (ck, d)) : ckField ck = f := by
  have := List.find?_some hf
  simp only [Bool.and_eq_true, decide_eq_true_eq] at this
  exact this.1
/-- The first Bridle of a field with an event, where it is that of a cluster with an event, is that cluster's. -/
theorem find_bridle_eq {l : Tab Cluster} {f ck : Nat} {c d : Cluster} (h : tget l ck = some c) (hq : c.queue ≠ [])
    (hf : l.find? (fun e => ckField e.1 = f && !e.2.queue.isEmpty) = some (ck, d)) : d = c := by
  induction l with
  | nil => exact nomatch h
  | cons a r ih =>
    obtain ⟨k, v⟩ := a
    have hfield : ckField ck = f := ckField_of_find hf
    simp only [tget] at h
    rw [List.find?_cons] at hf
    split at h
    · next hk =>
      obtain rfl := Option.some.inj h
      have hP : (ckField k = f && !v.queue.isEmpty) = true := by simp [hk, hfield, hq]
      rw [hP] at hf
      exact (congrArg Prod.snd (Option.some.inj hf)).symm
    · next hk =>
      split at hf
      · exact absurd (congrArg Prod.fst (Option.some.inj hf)) hk
      · exact ih h hf

/-- What leaves a Bridle's queue enters that of its Field Agent. -/
theorem reports_drainBridles (n f : Nat) (s : State) : Reports s (drainBridles n f s) := by
  induction n generalizing s with
  | zero => exact .refl s
  | succ n ih =>
    refine .ite (fun _ => .refl s) fun _ => ?_
    split
    · exact .refl s
    · next ck c hfind =>
      split
      · exact .refl s
      · next e r hc =>
        have hck : ckField ck = f := ckField_of_find hfind
        refine Reports.trans (t := modCluster ck (fun c => { c with queue := r }) (modField f (fun x => { x with
          queue := x.queue ++ [e], awake := true }) s)) ⟨fields_length_modField .., fun p a hp hw => ?_⟩
          (.trans (.ite (fun _ => reports_freeCluster ..) fun _ => .refl _) (ih _))
        obtain ⟨-, -, hlen, hcl⟩ := aCore_iff.mp hp
        have hfield : ∀ {a}, a ∈ (field s (puaFieldIdx p)).queue → Waiting (modCluster ck (fun c => { c with queue := r }) (modField f
            (fun x => { x with queue := x.queue ++ [e], awake := true }) s)) p a := fun {a} ha => .inr <| by
          show a ∈ (field (modField f (fun x => { x with queue := x.queue ++ [e], awake := true }) s) (puaFieldIdx p)).queue
          rw [field_modField]
          split
          · exact List.mem_append_left _ ha
          · exact ha
        rcases hw with hw | hw
        · by_cases hk : puaClusterKey p = ck
          · have hget : tget s.clusters ck = some (cluster s ck) := by
              rw [hk, cluster, tgetD] at hw
              rw [cluster, tgetD]
              cases hx : tget s.clusters ck with
              | none => rw [hx] at hw; exact nomatch hw
              | some x => rfl
            have hqueue := find_bridle_eq hget (fun h => by rw [hk, h] at hw; exact nomatch hw) hfind
            rw [hk, ← hqueue, hc] at hw
            rcases List.mem_cons.mp hw with rfl | hw
            · have hpf : puaFieldIdx p = f := by rw [← ckField_puaClusterKey hcl, hk, hck]
              refine .inr ?_
              show a ∈ (field (modField f (fun x => { x with queue := x.queue ++ [a], awake := true }) s) (puaFieldIdx p)).queue
              rw [hpf, field_modField_same s _ (hpf ▸ hlen)]
              simp
            · refine .inl ?_
              rw [hk, cluster_modCluster_same]
              exact hw
          · refine .inl ?_
            rw [cluster_modCluster_ne _ _ hk]
            exact hw
        · exact hfield hw

theorem reports_enterField (f : Nat) (e : Event) (s : State) : Reports s (enterField f e s) :=
  .trans (reports_modField f s fun _ => List.subset_append_left _ _) (.ite (fun _ => reports_holdField ..) fun _ => .refl _)
/-- What a Bridle does with its queue once an event has entered it. -/
def sendOn (p : Nat) (s : State) : State :=
  let s := drainBridles 1 (puaFieldIdx p) s
  let s := if 64 ≤ (cluster s (puaClusterKey p)).queue.length then holdCluster 0 (puaClusterKey p) s else s
  if 1024 ≤ (field s (puaFieldIdx p)).queue.length then holdField 0 (puaFieldIdx p) s else s
theorem raiseBridle_eq (p : Nat) (e : Event) (s : State) : raiseBridle p e s =
    sendOn p (modCluster (puaClusterKey p) (fun c => { c with queue := c.queue ++ [e] }) s) := rfl
theorem reports_sendOn (p : Nat) (s : State) : Reports s (sendOn p s) :=
  .trans (reports_drainBridles ..) <| .trans (.ite (fun _ => reports_holdCluster ..) fun _ => .refl _) <|
    .ite (fun _ => reports_holdField ..) fun _ => .refl _
theorem reports_raiseLocal (d : Nat) (e : Event) (s : State) : Reports s (raiseLocal d e s) := ⟨rfl, fun _ _ _ h => h⟩
theorem reports_raise (p : Nat) (e : Event) (s : State) : Reports s (raise p e s) := by
  by_cases hb : puaKind p ∈ [0, 1, 6, 7]
  · rw [raise_of_bridle e s hb, raiseBridle_eq]
    exact .trans (reports_modCluster _ s fun _ => List.subset_append_left _ _) (reports_sendOn ..)
  by_cases ha : puaKind p ∈ [2, 3, 4, 5, 8]
  · exact raise_of_agent e s ha ▸ reports_enterField ..
  have : raise p e s = raiseLocal (if p = packagePua then s.anchorDie else puaDie p) e s := by
    unfold raise
    split <;> simp_all
  exact this ▸ reports_raiseLocal ..
/-- What a core's Bridle reports waits there or at its Field Agent. -/
theorem waiting_raise {p : Nat} (e : Event) (h : aCore s p = true) : Waiting (raise p e s) p e := by
  rw [raise_of_bridle e s (by rw [(aCore_iff.mp h).1]; decide), raiseBridle_eq]
  refine (reports_sendOn ..).waits p e h (.inl ?_)
  rw [cluster_modCluster_same]
  simp

/-- A charge that waits goes on waiting while the keepers and the clock stand. -/
theorem Charged.of_reports {p cause code : Nat} (h : Charged s p cause code) (hr : Reports s t) (hp : aCore s p = true)
    (hT : Touches S s t) (hk : .keepers ∉ S) (hn : .now ∉ S) : Charged t p cause code := by
  obtain ⟨e, h1, h2, h3, h4, h5, hw⟩ := h
  refine ⟨e, h1, h2, h3, h4, h5.trans ?_, hr.waits p e hp hw⟩
  rw [keeperRead, keeperRead, keeper_of_touches hT hk, show t.now = s.now from hT.agrees .now hn]
theorem charged_raise {p cause code : Nat} {e : Event} (hp : aCore s p = true) (h1 : e.kind = .charge) (h2 : e.cause = cause)
    (h3 : e.code = code) (h4 : e.pua = p) (h5 : e.pt = keeperRead s (stampKeeper p)) : Charged (raise p e s) p cause code := by
  refine ⟨e, h1, h2, h3, h4, h5.trans ?_, waiting_raise e hp⟩
  have hT := touches_raise p e s
  rw [keeperRead, keeperRead, keeper_of_touches hT (by decide), show (raise p e s).now = s.now from hT.agrees .now (by decide)]
end

/-! ### Calm -/

/-- The counts of a slice that the statements on tiles and replays read, and when an ineligible tile last ended in it. -/
def verdictKeys : List Nat := [key 0x2409 1, key 0x2506 2, key 0x2506 3, key 0x2506 5, key 0x2607 1, key 0x2607 2, key 0x2607 3,
  key 0x2607 4, key 0x2607 7, key 0x2607 8, key 0x2607 9, key 0x2608 1, key 0x2608 2, key 0x2609 1, key 0x2609 2, key 0x2609 3,
  key 0x2609 4]
def Slice.tally (x : Slice) : List Nat × Option Nat := (verdictKeys.map fun i => tgetD x.objs i 0, x.ineligibleAt)

/-- From `s` to `t` at most the parts in `S` have changed, no core in what `g` shows, no LCN in what `h` shows, no slice in what
`τ` shows, and no report is lost. -/
structure Calm {α β γ : Type} (S : List Part) (g : Core → α) (h : LcnRec → β) (τ : Slice → γ) (s t : State) : Prop
    extends Touches S s t, Reports s t where
  cores : ∀ p, g (core t p) = g (core s p)
  lcns : ∀ l, h (lcnRec t l) = h (lcnRec s l)
  slices : ∀ k, (slice t k).map τ = (slice s k).map τ

section
variable {α β γ α' β' γ' : Type} {S L : List Part} {g : Core → α} {h : LcnRec → β} {τ : Slice → γ} {s t u : State}

theorem Calm.refl : Calm [] g h τ s s := ⟨.refl, .refl s, fun _ => rfl, fun _ => rfl, fun _ => rfl⟩
theorem Calm.mono (hS : L ⊆ S) (c : Calm L g h τ s t) : Calm S g h τ s t :=
  ⟨c.toTouches.mono hS, c.toReports, c.cores, c.lcns, c.slices⟩
theorem Calm.trans (c : Calm L g h τ s t) (d : Calm S g h τ t u) : Calm (L ++ S) g h τ s u :=
  ⟨c.toTouches.trans d.toTouches, c.toReports.trans d.toReports, fun p => (d.cores p).trans (c.cores p),
    fun l => (d.lcns l).trans (c.lcns l), fun k => (d.slices k).trans (c.slices k)⟩
theorem Calm.ite {a b : State} {q : Prop} [Decidable q] (c : q → Calm L g h τ s a) (d : ¬ q → Calm S g h τ s b) :
    Calm (L ++ S) g h τ s (if q then a else b) := by
  split
  · exact .mono (List.subset_append_left _ _) (c ‹_›)
  · exact .mono (List.subset_append_right _ _) (d ‹_›)
theorem Calm.foldl {ι : Type} {f : State → ι → State} (c : ∀ x a, Calm S g h τ x (f x a)) (l : List ι) (s : State) :
    Calm S g h τ s (l.foldl f s) := by
  induction l generalizing s with
  | nil => exact .mono (List.nil_subset S) .refl
  | cons a r ih => exact .mono (List.append_subset.mpr ⟨List.Subset.refl S, List.Subset.refl S⟩) ((c s a).trans (ih _))
/-- What shows less changes no more. -/
theorem Calm.weaken {g' : Core → α'} {h' : LcnRec → β'} {τ' : Slice → γ'} (c : Calm S g h τ s t) (φ : α → α') (ψ : β → β') (ρ : γ → γ')
    (hg : ∀ c, g' c = φ (g c) := by exact fun _ => rfl) (hh : ∀ r, h' r = ψ (h r) := by exact fun _ => rfl)
    (hτ : ∀ x, τ' x = ρ (τ x) := by exact fun _ => rfl) : Calm S g' h' τ' s t := by
  refine ⟨c.toTouches, c.toReports, fun p => ?_, fun l => ?_, fun k => ?_⟩
  · rw [hg, hg, c.cores]
  · rw [hh, hh, c.lcns]
  · have := congrArg (Option.map ρ) (c.slices k)
    simp only [Option.map_map] at this
    rwa [show τ' = ρ ∘ τ from funext hτ]
theorem Calm.slice_some (c : Calm S g h τ s t) {k : Nat} {x : Slice} (hx : slice s k = some x) :
    ∃ y, slice t k = some y ∧ τ y = τ x := by
  simpa [hx] using c.slices k
/-- Queues, cores, LCNs and slices are a matter of their own fields of the state. -/
theorem Touches.calm (c : Touches S s t) (hS : ∀ p ∈ [Part.cores, .lcns, .slices, .clusters, .fields], p ∉ S) : Calm S g h τ s t := by
  have hf : t.fields = s.fields := c.agrees .fields (hS _ (by decide))
  refine ⟨c, ⟨congrArg List.length hf, fun p e _ hw => ?_⟩, fun p => ?_, fun l => ?_, fun k => ?_⟩
  · rwa [Waiting, c.cluster_eq (hS _ (by decide)), c.field_eq (hS _ (by decide))]
  · rw [core_of_touches c (hS _ (by decide))]
  · rw [lcnRec, lcnRec, show t.lcns = s.lcns from c.agrees .lcns (hS _ (by decide))]
  · rw [slice_of_touches c (hS _ (by decide))]
/-- An operation on queues and holds. -/
theorem Touches.calm_queues (c : Touches S s t) (r : Reports s t) (hS : ∀ p ∈ [Part.cores, .lcns, .slices], p ∉ S) : Calm S g h τ s t := by
  refine ⟨c, r, fun p => ?_, fun l => ?_, fun k => ?_⟩
  · rw [core_of_touches c (hS _ (by decide))]
  · rw [lcnRec, lcnRec, show t.lcns = s.lcns from c.agrees .lcns (hS _ (by decide))]
  · rw [slice_of_touches c (hS _ (by decide))]

theorem calm_modCluster (ck : Nat) (f : Cluster → Cluster) (s : State) (hh : ∀ c, 10 ∈ (f c).holds ↔ 10 ∈ c.holds)
    (hq : ∀ c, (f c).queue = c.queue) : Calm [.clusters] g h τ s (modCluster ck f s) :=
  (touches_modCluster s ck f hh).calm_queues (reports_modCluster ck s fun c => (hq c).symm ▸ List.Subset.refl _) (by decide)
theorem calm_modCore {p : Nat} {f : Core → Core} (hg : g (f (core s p)) = g (core s p)) : Calm [.cores] g h τ s (modCore p f s) := by
  refine ⟨touches_modCore s p f, ⟨rfl, fun _ _ _ hw => hw⟩, fun q => ?_, fun _ => rfl, fun _ => rfl⟩
  by_cases hq : q = p
  · rw [hq, core_modCore_same, hg]
  · rw [core_modCore_ne s f hq]
theorem calm_modLcn {l : Nat} {f : LcnRec → LcnRec} (hh : h (f (lcnRec s l)) = h (lcnRec s l)) : Calm [.lcns] g h τ s (modLcn l f s) := by
  refine ⟨touches_modLcn s l f, ⟨rfl, fun _ _ _ hw => hw⟩, fun _ => rfl, fun n => ?_, fun _ => rfl⟩
  by_cases hn : n = l
  · rw [hn, lcnRec_modLcn_same, hh]
  · rw [lcnRec_modLcn_ne s f hn]
theorem calm_modSlice_any {k : Nat} {f : Slice → Slice} (hτ : ∀ x, τ (f x) = τ x) : Calm [.shapes, .slices] g h τ s (modSlice k f s) := by
  refine ⟨touches_modSlice_any s k f, ⟨rfl, fun _ _ _ hw => hw⟩, fun _ => rfl, fun _ => rfl, fun j => ?_⟩
  by_cases hj : j = k
  · rw [hj, slice_modSlice_same, Option.map_map]
    exact congrArg (Option.map · _) (funext hτ)
  · rw [slice_modSlice_ne s f hj]
theorem calm_modSlice {k : Nat} {f : Slice → Slice} (hs : ∀ x, (f x).shape = x.shape) (hτ : ∀ x, τ (f x) = τ x) :
    Calm [.slices] g h τ s (modSlice k f s) :=
  { calm_modSlice_any hτ with toTouches := touches_modSlice s k f hs }

/-- A count that no statement reads. -/
theorem tally_tset {i : Nat} (v : Nat) (x : Slice) (hi : i ∉ verdictKeys) : Slice.tally { x with objs := tset x.objs i v } = x.tally := by
  simp only [Slice.tally, Prod.mk.injEq, and_true]
  exact List.map_congr_left fun j hj => tgetD_tset_ne _ _ _ (ne_of_mem_of_not_mem hj hi)
theorem calm_addSobj (k : Nat) {i : Nat} (n : Nat) (hi : i ∉ verdictKeys) : Calm [.slices] g h Slice.tally s (addSobj k i n s) :=
  calm_modSlice (fun _ => rfl) fun x => tally_tset _ x hi
theorem calm_setSobj (k : Nat) {i : Nat} (v : Nat) (hi : i ∉ verdictKeys) : Calm [.slices] g h Slice.tally s (setSobj k i v s) :=
  calm_modSlice (fun _ => rfl) fun x => tally_tset v x hi
theorem calm_setSobjs (k : Nat) (l : List (Nat × Nat)) (s : State) (hl : ∀ e ∈ l, e.1 ∉ verdictKeys) :
    Calm [.slices] g h Slice.tally s (setSobjs k l s) := by
  unfold setSobjs
  induction l generalizing s with
  | nil => exact .mono (by decide) .refl
  | cons a r ih =>
    exact .mono (by decide) <| .trans (calm_setSobj k a.2 (hl a List.mem_cons_self)) (ih _ fun e he => hl e (List.mem_cons_of_mem a he))
theorem calm_raise (p : Nat) (e : Event) (s : State) : Calm [.dies, .fields, .clusters] g h τ s (raise p e s) :=
  (touches_raise p e s).calm_queues (reports_raise p e s) (by decide)
theorem calm_holdCluster (r ck : Nat) (s : State) (hr : r ≠ 10) : Calm [.clusters] g h τ s (holdCluster r ck s) :=
  (touches_holdCluster r ck s hr).calm_queues (reports_holdCluster ..) (by decide)
theorem calm_freeCluster (r ck : Nat) (s : State) (hr : r ≠ 10) : Calm [.clusters] g h τ s (freeCluster r ck s) :=
  (touches_freeCluster r ck s hr).calm_queues (reports_freeCluster ..) (by decide)

/-- A count that the statements read stands where the slices' tallies do. -/
theorem Calm.sobj_eq (c : Calm S g h Slice.tally s t) (k : Nat) {i : Nat} (hi : i ∈ verdictKeys) : sobj t k i 0 = sobj s k i 0 := by
  have := c.slices k
  unfold sobj
  cases hs : slice s k with
  | none =>
    rw [hs, Option.map_none, Option.map_eq_none_iff] at this
    rw [this]
  | some x =>
    obtain ⟨y, hy, hxy⟩ := c.slice_some hs
    rw [hy]
    have htally : (verdictKeys.map fun i => tgetD y.objs i 0) = verdictKeys.map fun i => tgetD x.objs i 0 := congrArg Prod.fst hxy
    exact List.map_inj_left.mp htally i hi
theorem slice_addSobj {k : Nat} {x : Slice} (i n : Nat) (hx : slice s k = some x) :
    slice (addSobj k i n s) k = some { x with objs := tmod x.objs i 0 (· + n) } := by
  rw [addSobj, slice_modSlice_same, hx]
  rfl
theorem sobj_addSobj {k : Nat} {x : Slice} (i n j : Nat) (hx : slice s k = some x) :
    sobj (addSobj k i n s) k j 0 = sobj s k j 0 + if j = i then n else 0 := by
  rw [sobj_of_slice (slice_addSobj i n hx), sobj_of_slice hx]
  split
  · next hj => rw [hj, tgetD_tmod_same]
  · next hj => rw [tgetD_tmod_ne _ _ _ _ hj, Nat.add_zero]
end

end Sys2Proof.Machine
end

section
/-!
SUPPORT. The issue and the start of tiles: what each operation leaves, and what it makes of its core (R101, R147, R186, R201).
-/
namespace Sys2Proof.Machine
open Sys2Proof

/-! ### Views of cores and LCNs -/

/-- A core but for its replays, stalls and counters. -/
def Core.firm (c : Core) : Core := { c with queue := [], stalls := [], counters := [] }
/-- What a core works on, and what its local SRAM holds. -/
def Core.work (c : Core) : Option (Nat × Tile) × Option (Nat × Tile) × (Nat × Mode) × Tab SramBlock × Bool :=
  (c.tile, c.heldTile, c.taken, c.sram, c.withheld)
/-- What a core works on. -/
def Core.bare (c : Core) : Option (Nat × Tile) × Option (Nat × Tile) × (Nat × Mode) × Bool := (c.tile, c.heldTile, c.taken, c.withheld)
/-- What the start of a waiting tile leaves: blocks, pins, and a withheld core without a new tile. -/
def Core.held (c : Core) : Tab SramBlock × List Nat × Bool × Option (Nat × Tile) :=
  (c.sram, c.pins, c.withheld, if c.withheld then c.tile else none)
/-- The same but for blocks and pins. -/
def Core.idle (c : Core) : Bool × Option (Nat × Tile) := (c.withheld, if c.withheld then c.tile else none)
/-- What a Bridle keeps for an LCN but for the first tile of its stream. -/
def LcnRec.stream (r : LcnRec) : LcnRec := { r with first := none }

/-- What the start of a tile may change. -/
def startParts : List Part := [.shapes, .stops, .dies, .fields, .lcns, .cores, .clusters, .slices, .objs]

section
variable {α β γ : Type} {S : List Part} {g : Core → α} {h : LcnRec → β} {τ : Slice → γ} {s t : State}

theorem Calm.work (c : Calm S Core.firm h τ s t) : Calm S Core.work h τ s t := c.weaken Core.work id id
theorem Calm.held (c : Calm S Core.firm h τ s t) : Calm S Core.held h τ s t := c.weaken Core.held id id
theorem Calm.idle_of_held (c : Calm S Core.held h τ s t) : Calm S Core.idle h τ s t := c.weaken (fun x => (x.2.2.1, x.2.2.2)) id id

/-! ### Holds, timers and reports -/

theorem calm_syncWindow (ck : Nat) (s : State) : Calm [.clusters] g h τ s (syncWindow ck s) :=
  calm_modCluster _ _ _ (fun _ => by rfl) fun _ => by rfl
/-- The hold of a cluster for one reason, brought up to date. -/
def setHold (ck r : Nat) (b : Bool) (s : State) : State :=
  if b = (cluster s ck).holds.contains r then s else if b then holdCluster r ck s else freeCluster r ck s
theorem calm_setHold (ck r : Nat) (b : Bool) (s : State) (hr : r ≠ 10) : Calm [.clusters] g h τ s (setHold ck r b s) :=
  .mono (by decide) <| .ite (fun _ => .refl) fun _ => .ite (fun _ => calm_holdCluster _ _ _ hr) fun _ => calm_freeCluster _ _ _ hr
theorem calm_syncCoreHolds (ck : Nat) (s : State) : Calm [.clusters] g h τ s (syncCoreHolds ck s) := by
  rw [show syncCoreHolds ck s = setHold ck 1 (((coresOf ck).map (core s)).any fun c => c.stalls.contains 1)
    (setHold ck 2 (((coresOf ck).map (core s)).any fun c => c.stalls.contains 2)
      (setHold ck 3 (((coresOf ck).map (core s)).any fun c => c.test.isSome && c.heldTile.isSome)
        (setHold ck 5 (((coresOf ck).map (core s)).any (·.withheld)) s))) from rfl]
  exact .mono (by decide) <| .trans (calm_setHold _ 5 _ _ (by decide)) <| .trans (calm_setHold _ 3 _ _ (by decide)) <|
    .trans (calm_setHold _ 2 _ _ (by decide)) (calm_setHold _ 1 _ _ (by decide))
theorem calm_modHeld {p : Nat} {f : Core → Core} (hg : g (f (core s p)) = g (core s p)) :
    Calm [.cores, .clusters] g h τ s (modHeld p f s) :=
  .mono (by decide) <| .trans (calm_modCore hg) (calm_syncCoreHolds ..)
theorem touches_modHeld (p : Nat) (f : Core → Core) (s : State) : Touches [.cores, .clusters] s (modHeld p f s) :=
  .mono (by decide) <| .trans (touches_modCore ..) (touches_syncCoreHolds ..)
theorem core_modHeld_same (p : Nat) (f : Core → Core) (s : State) : core (modHeld p f s) p = f (core s p) := by
  rw [modHeld, core_of_touches (touches_syncCoreHolds ..) (by decide), core_modCore_same]
theorem core_modHeld_ne {p q : Nat} (f : Core → Core) (s : State) (hq : q ≠ p) : core (modHeld p f s) q = core s q := by
  rw [modHeld, core_of_touches (touches_syncCoreHolds ..) (by decide), core_modCore_ne _ _ hq]
theorem calm_progressEvent (ck : Nat) (s : State) : Calm [.clusters] g h τ s (progressEvent ck s) :=
  .mono (by decide) <| .trans (calm_modCluster ck _ s (fun _ => by rfl) fun _ => by rfl) (calm_syncWindow ..)
theorem calm_commandTile (ck id p : Nat) (s : State) : Calm [.clusters] g h τ s (commandTile ck id p s) :=
  .mono (by decide) <| .trans (calm_modCluster ck _ s (fun _ => by rfl) fun _ => by rfl) (calm_syncWindow ..)
theorem calm_poisonRecord (unit cause sl : Nat) (w : Word64) (source : Nat) (s : State) :
    Calm [.dies, .fields, .clusters] g h τ s (poisonRecord unit cause sl w source s) := calm_raise ..

/-! ### The end of a slice at poison (R186) -/

theorem calm_stopSlice (k : Nat) (s : State) : Calm [.shapes, .stops, .clusters, .slices] g h Slice.tally s (stopSlice k s) :=
  .mono (by decide) <| .trans (calm_modSlice_any (k := k) fun _ => by rfl) <|
    .foldl (S := [.clusters, .stops]) (fun x ck => (touches_holdCluster_any 10 ck x).calm_queues (reports_holdCluster ..) (by decide)) _ _
theorem calm_consumePoison (k lcn p : Nat) (b : InBlock) (s : State) : Calm [.shapes, .stops, .dies, .fields, .cores, .clusters, .slices]
    Core.firm h Slice.tally s (consumePoison k lcn p b s) := by
  have hstall : Calm [.slices, .cores, .clusters] Core.firm h Slice.tally s
      (modHeld p (fun c => { c with stalls := addHold 12 c.stalls }) (addSobj k (key 0x2706 7) 1 s)) :=
    .mono (by decide) <| .trans (calm_addSobj k 1 (by decide)) (calm_modHeld (by rfl))
  unfold consumePoison
  dsimp only
  split
  · exact .mono (by decide) hstall
  · exact .mono (by decide) <| .trans hstall <| .ite (fun _ => .refl) fun _ => .trans (calm_setSobjs _ _ _ (by simp +decide)) <|
      .trans (.ite (fun _ => .refl) fun _ => calm_poisonRecord ..) <| .trans (calm_raise ..) <|
      .trans (calm_modSlice (fun _ => by rfl) fun _ => by rfl) (calm_stopSlice ..)

/-! ### The start of a tile (R143, R253) -/

theorem calm_maxObj {k n : Nat} (s : State) (hk : k ∉ tallyKeys) : Calm [.objs] g h τ s (maxObj k n s) :=
  (touches_maxObj s k n hk).calm (by decide)
theorem calm_addObj {k n : Nat} (s : State) (hk : k ∉ tallyKeys) : Calm [.objs] g h τ s (addObj k n s) :=
  (touches_addObj s k n hk).calm (by decide)
theorem calm_endStall (p : Nat) (s : State) (hg : ∀ c, g { c with withheldAt := none } = g c) : Calm [.cores, .objs] g h τ s (endStall p s) := by
  unfold endStall
  dsimp only
  split
  · exact .mono (by decide) .refl
  · exact .mono (by decide) <| .trans (calm_maxObj _ (by decide)) <| .trans (calm_modCore (hg _)) <|
      .ite (fun _ => calm_addObj _ (by decide)) fun _ => .refl
theorem core_endStall (p q : Nat) (s : State) :
    (core (endStall p s) q).tile = (core s q).tile ∧ (q ≠ p → core (endStall p s) q = core s q) := by
  refine ⟨(calm_endStall (g := Core.tile) (h := id) (τ := id) p s fun _ => rfl).cores q, fun hq => ?_⟩
  unfold endStall
  dsimp only
  split
  · rfl
  · next t _ =>
    refine Eq.trans ?_ (core_modCore_ne (maxObj (key 0x2909 2) (s.now - t) s) (fun c => { c with withheldAt := none }) hq)
    split <;> rfl
theorem calm_startTile {p : Nat} (lcn : Nat) (t : Tile) (hw : (core s p).withheld = false) :
    Calm [.lcns, .cores, .objs] Core.held LcnRec.stream τ s (startTile lcn p t s) :=
  .mono (by decide) <| .trans (calm_modCore (by simp [Core.held, hw])) <| .trans (calm_endStall _ _ fun _ => by rfl) <|
    calm_modLcn (by split <;> rfl)
/-- The tile runs on its core from its keeper's time on. -/
theorem core_startTile (lcn p : Nat) (t : Tile) (s : State) :
    (core (startTile lcn p t s) p).tile = some (keeperRead s (fieldKeeper (puaFieldIdx p)), t) ∧
      ∀ q, q ≠ p → core (startTile lcn p t s) q = core s q := by
  refine ⟨?_, fun q hq => ?_⟩
  · exact (core_endStall p p (modCore p _ s)).1.trans (by rw [core_modCore_same])
  · exact ((core_endStall p q (modCore p _ s)).2 hq).trans (core_modCore_ne _ _ hq)

/-- A core that holds no tile starts none. -/
theorem startHeld_of_none {p : Nat} (hn : (core s p).heldTile = none) : startHeld p s = s := by
  simp only [startHeld, hn]
theorem calm_startHeld (p : Nat) (s : State) : Calm startParts Core.held LcnRec.stream Slice.tally s (startHeld p s) := by
  unfold startHeld
  dsimp only
  split
  · next t lcn _ _ =>
    refine .mono (L := [] ++ startParts) (by decide) <| .ite (fun _ => .refl) fun hgo => ?_
    have hdrop : Calm [.cores, .clusters] Core.held LcnRec.stream Slice.tally s (modHeld p (fun c => { c with heldTile := none }) s) :=
      calm_modHeld (by rfl)
    split
    · exact .mono (by decide) <| .trans hdrop (calm_consumePoison ..).held
    · refine .mono (by decide) <| .trans hdrop (calm_startTile lcn t.2 ?_)
      rw [core_modHeld_same]
      simp only [Bool.or_eq_true, not_or, Bool.not_eq_true] at hgo
      exact hgo.1.1.1.2
  · exact .mono (by decide) .refl

/-! ### Blocks of local SRAM (R101, R168, R183) -/

theorem calm_setSram (p n : Nat) (b : SramBlock) (s : State) (hg : ∀ c l, g { c with sram := l } = g c) :
    Calm [.cores] g h τ s (setSram p n b s) :=
  .mono (by decide) <| .ite (fun _ => calm_modCore (hg ..)) fun _ => .refl
theorem sram_setSram (p n : Nat) (b : SramBlock) (s : State) (m : Nat) :
    tget (core (setSram p n b s) p).sram m = if n < 12 ∧ m = n then some b else tget (core s p).sram m := by
  unfold setSram
  split
  · next hn =>
    rw [core_modCore_same]
    simp only [tget_tset, hn, true_and]
  · next hn => rw [if_neg fun h => hn h.1]
/-- Once the local output blocks of a tile have been set one after the other, each holds what was set for it. -/
theorem foldl_outputs {P : SramBlock → Prop} {p : Nat} {f : State → OutBlock × Nat → State} {l : List (OutBlock × Nat)}
    (hset : ∀ s e n, e.1.localBlock = some n → n < 12 → ∃ b, tget (core (f s e) p).sram n = some b ∧ P b)
    (hkeep : ∀ s e n, e.1.localBlock ≠ some n → tget (core (f s e) p).sram n = tget (core s p).sram n)
    {e : OutBlock × Nat} (he : e ∈ l) {n : Nat} (hn : e.1.localBlock = some n) (h12 : n < 12) (s : State) :
    ∃ b, tget (core (l.foldl f s) p).sram n = some b ∧ P b := by
  refine (foldl_reaches (Q := fun _ => True) (P := fun s => ∃ b, tget (core s p).sram n = some b ∧ P b) he trivial
    (fun _ _ _ => trivial) (fun s _ => hset s e n hn h12) fun s a _ h => ?_).2
  by_cases ha : a.1.localBlock = some n
  · exact hset s a n ha h12
  · rw [hkeep s a n ha]
    exact h
theorem calm_storeOutputs (p : Nat) (t : Tile) (words : List Word64) (released : Bool) (s : State)
    (hg : ∀ c l, g { c with sram := l } = g c) : Calm [.cores] g h τ s (storeOutputs p t words released s) := by
  refine .foldl (fun x e => ?_) _ _
  split
  · exact calm_setSram _ _ _ _ hg
  · exact .mono (by decide) .refl
theorem outputsHeld_storeOutputs (p : Nat) (t : Tile) (words : List Word64) (released : Bool) (s : State) :
    OutputsHeld (storeOutputs p t words released s) p t released := by
  intro o ho n hn h12
  obtain ⟨i, hi, rfl⟩ := List.mem_iff_getElem.mp ho
  have he : (t.outputs[i], i) ∈ t.outputs.zipIdx := List.mk_mem_zipIdx_iff_getElem?.mpr (List.getElem?_eq_getElem hi)
  refine foldl_outputs (P := fun b => b.released = released) (fun s e n hn h12 => ?_) (fun s e n hn => ?_) he hn h12 s
  · rw [hn]
    exact ⟨_, (sram_setSram ..).trans (if_pos ⟨h12, rfl⟩), rfl⟩
  · split
    · next m hm => exact (sram_setSram ..).trans (if_neg fun ⟨_, heq⟩ => hn (hm.trans (congrArg some heq.symm)))
    · rfl
/-- Blocks stand where the local SRAM does. -/
theorem OutputsHeld.of_calm {p : Nat} {x : Tile} {b : Bool} (hs : OutputsHeld s p x b) (c : (core t p).sram = (core s p).sram) :
    OutputsHeld t p x b := fun o ho n hn h12 => by
  rw [c]
  exact hs o ho n hn h12
end

end Sys2Proof.Machine
end

section
/-!
SUPPORT. TILE_ISSUE (R157, R186, R201, R254).
-/
namespace Sys2Proof.Machine
open Sys2Proof

/-- What the issue of a tile may change. -/
def issueParts : List Part := [.shapes, .stops, .dies, .fields, .lcns, .cores, .clusters, .slices, .turn, .objs]
/-- The slice once a tile has been issued in it. -/
def Slice.issue (x : Slice) : Slice := { x with issued := true }

section
variable {s t : State}

/-! ### What takes a tile -/

theorem touches_commandTile (ck id p : Nat) (s : State) : Touches [.clusters] s (commandTile ck id p s) :=
  (calm_commandTile (g := Core.firm) (h := LcnRec.stream) (τ := Slice.tally) ck id p s).toTouches
theorem touches_consumePoison (k lcn p : Nat) (b : InBlock) (s : State) : Touches [.shapes, .stops, .dies, .fields, .cores, .clusters, .slices] s
    (consumePoison k lcn p b s) := (calm_consumePoison (h := LcnRec.stream) k lcn p b s).toTouches
theorem takeTile_of_test {k lcn p : Nat} {x : Tile} {r : TestRun} (h : (core s p).test = some r) : takeTile k lcn p x s =
    modHeld p (fun c => { c with heldTile := some (0, x) }) (if r.forced then s else addSobj k (key 0x2806 10) 1 s) := by
  simp only [takeTile, h]
theorem takeTile_of_free {k lcn p : Nat} {x : Tile} (h : (core s p).test = none) (hw : writesPinned (core s p) x = false) :
    takeTile k lcn p x s = startTile lcn p x s := by
  simp only [takeTile, h, hw, Bool.false_eq_true, if_false]

/-! ### What an issue comes to -/

theorem tile_of_not_busy {c : Core} (h : coreBusy c = false) : c.tile = none := by
  simp only [coreBusy, Bool.or_eq_false_iff, Option.isSome_eq_false_iff, Option.isNone_iff_eq_none] at h
  obtain ⟨⟨⟨⟨h, -⟩, -⟩, -⟩, -⟩ := h
  exact h
theorem isFollower_of_not_full {lcn : Nat} (h : lcnMode s lcn ≠ .full) : isFollower s lcn = false := by
  simp [isFollower, h]
theorem isFollower_of_even {lcn : Nat} (h : lcn % 2 = 0) : isFollower s lcn = false := by
  simp [isFollower, h]
/-- The core beside that of a leader in Full (R157). -/
def fullPartner (s : State) (lcn : Nat) : List Nat := if lcnMode s lcn == .full then (coreOf s (lcn + 1)).toList else []
theorem fullPartner_nil {lcn : Nat} (h : lcnMode s lcn ≠ .full) : fullPartner s lcn = [] := if_neg (by simpa using h)
theorem fullPartner_full {lcn q : Nat} (h : lcnMode s lcn = .full) (hq : coreOf s (lcn + 1) = some q) : fullPartner s lcn = [q] := by
  simp [fullPartner, h, hq]
/-- An issue that neither the RM nor the cores hold: the tile is taken where its input blocks are usable, and refused where one is not. -/
theorem tileIssue_free (dt : Nat) {lcn p : Nat} {tile : Tile} {x : Slice} (hp : coreOf s lcn = some p)
    (hx : slice s (sliceOfLcn s lcn) = some x) (hlife : x.life = .running) (hb : issueBlocked s (puaClusterKey p) = false)
    (hf : isFollower s lcn = false) (hk : tile.kind ≠ .move) (hbusy : ∀ q ∈ p :: fullPartner s lcn, coreBusy (core s q) = false)
    (hin : inputPending (core s p) tile = false) : exec (.tileIssue dt lcn tile) s = .next (match unusableInput (core s p) tile with
      | some b => (fullPartner s lcn).foldl (fun s q => modHeld q (fun c => { c with stalls := addHold 12 c.stalls }) s)
        (consumePoison (sliceOfLcn s lcn) lcn p b (elapse dt s))
      | none => (fullPartner s lcn).foldl (fun s' q => takeTile (sliceOfLcn s lcn) (lcn + 1) q tile s') (commandTile (puaClusterKey p)
        tile.command (puaCore p) (takeTile (sliceOfLcn s lcn) lcn p tile (modSlice (sliceOfLcn s lcn) Slice.issue (elapse dt s))))) := by
  have hnone : ((p :: fullPartner s lcn).any fun q => coreBusy (core s q)) = false := List.any_eq_false.mpr fun q hq => by
    rw [hbusy q hq]
    exact Bool.false_ne_true
  have hfalse : (((p :: fullPartner s lcn).any fun q => coreBusy (core s q)) || inputPending (core s p) tile) = false := by
    rw [hnone, hin]
    rfl
  show execTileIssue dt lcn tile s = _
  simp only [execTileIssue, done, show coreOf (elapse dt s) lcn = some p from hp, show slice (elapse dt s) (sliceOfLcn (elapse dt s) lcn) =
    some x from hx, hlife, beq_self_eq_true, Bool.not_true, show issueBlocked (elapse dt s) (puaClusterKey p) = false from hb,
    show isFollower (elapse dt s) lcn = false from hf, Bool.or_self, Bool.false_eq_true, if_false, hk]
  exact congrArg Host.Outcome.next (if_neg (by rw [Bool.not_eq_true]; exact hfalse))

/-! ### The first consumption of a slice (R186) -/

theorem slice_setSobjs {k : Nat} {x : Slice} (l : List (Nat × Nat)) (hx : slice s k = some x) :
    slice (setSobjs k l s) k = some { x with objs := l.foldl (fun o e => tset o e.1 e.2) x.objs } := by
  unfold setSobjs
  induction l generalizing s x with
  | nil => exact hx
  | cons e r ih => exact ih (slice_setSobj hx)
theorem tgetD_setAll {i d : Nat} (l : List (Nat × Nat)) (o : Tab Nat) (hi : ∀ e ∈ l, e.1 ≠ i) :
    tgetD (l.foldl (fun o e => tset o e.1 e.2) o) i d = tgetD o i d := by
  induction l generalizing o with
  | nil => rfl
  | cons e r ih =>
    exact (ih _ fun e he => hi e (List.mem_cons_of_mem _ he)).trans (tgetD_tset_ne _ _ _ (hi e List.mem_cons_self).symm)
/-- The Core Port refuses the block; the slice counts it, ends and is abandoned. -/
theorem consumePoison_first {k : Nat} {x : Slice} (lcn p : Nat) (b : InBlock) (hx : slice s k = some x) (hl : x.life = .running)
    (hc : x.consumed = false) : ∃ y, slice (consumePoison k lcn p b s) k = some y ∧ y.consumed = true ∧ y.abandon = true ∧
      tgetD y.objs (key 0x2706 7) 0 = tgetD x.objs (key 0x2706 7) 0 + 1 ∧ y.life = .ending ∧
      core (consumePoison k lcn p b s) p = { core s p with stalls := addHold 12 (core s p).stalls } := by
  have hcore : core (modHeld p (fun c => { c with stalls := addHold 12 c.stalls }) (addSobj k (key 0x2706 7) 1 s)) p =
      { core s p with stalls := addHold 12 (core s p).stalls } := core_modHeld_same ..
  have hslice : slice (modHeld p (fun c => { c with stalls := addHold 12 c.stalls }) (addSobj k (key 0x2706 7) 1 s)) k =
      some { x with objs := tmod x.objs (key 0x2706 7) 0 (· + 1) } :=
    (slice_of_touches (touches_modHeld ..) (by decide) k).trans (slice_addSobj _ _ hx)
  unfold consumePoison
  dsimp only
  generalize modHeld p _ _ = u at hcore hslice ⊢
  simp only [hslice]
  rw [if_neg (by simp [sliceLive, hl, hc])]
  have hset := touches_setSobjs k [(key 0x2709 1, lcn), (key 0x2709 2, b.source % 2 ^ 32), (key 0x2709 3, b.word.toNat)] u
  have hobjs := slice_setSobjs [(key 0x2709 1, lcn), (key 0x2709 2, b.source % 2 ^ 32), (key 0x2709 3, b.word.toNat)] hslice
  generalize setSobjs k _ u = v at hset hobjs ⊢
  have hpoison : Touches [.dies, .fields, .clusters] v (if wordPoison b.word then v else poisonRecord p 7 k b.word (b.source % 2 ^ 32) v) :=
    .mono (by decide) <| .ite (fun _ => .refl) fun _ => touches_raise ..
  generalize (if wordPoison b.word then v else poisonRecord p 7 k b.word (b.source % 2 ^ 32) v) = w at hpoison ⊢
  have hraise := hpoison.trans (touches_raise p { recordEvent w 0x2703 p k (leBytes 4 lcn ++ leBytes 8 b.word.toNat ++ leBytes 4 b.source)
    with seqKeys := [(k, key 0x2709 4)], ends := some k } w)
  generalize raise p _ w = z at hraise ⊢
  have hz := slice_modSlice_same z k fun x => { x with consumed := true, abandon := true }
  rw [(slice_of_touches hraise (by decide) k).trans hobjs, Option.map_some] at hz
  refine ⟨_, slice_stopSlice hz, rfl, rfl, ?_, rfl, ?_⟩
  · refine (tgetD_setAll _ _ (by simp +decide)).trans ?_
    exact tgetD_tmod_same ..
  · rw [core_of_touches (touches_stopSlice ..) (by decide), ← hcore]
    exact core_of_touches (hset.trans hraise) (by decide) p
end

/-! ### The statement -/

section
variable {dt lcn p : Nat} {tile : Tile} {x : Slice} {s : State}

theorem slice_issue (dt : Nat) {k : Nat} (hx : slice s k = some x) : slice (modSlice k Slice.issue (elapse dt s)) k = some x.issue :=
  (slice_modSlice_same ..).trans (congrArg _ hx)
theorem touches_issue (dt k : Nat) (s : State) : Touches [.shapes, .slices] (elapse dt s) (modSlice k Slice.issue (elapse dt s)) :=
  touches_modSlice_any ..

/-- On an LCN that no core serves the job runtime is told of the one refusal (R254, R454). -/
theorem tileIssue_unbound (dt lcn : Nat) (tile : Tile) (hp : coreOf s lcn = none) (hx : slice s (sliceOfLcn s lcn) = some x)
    (hl : x.life = .running) : exec (.tileIssue dt lcn tile) s = .next (refuseUnbound (sliceOfLcn s lcn) lcn (elapse dt s)) := by
  show execTileIssue dt lcn tile s = _
  simp only [execTileIssue, done, show coreOf (elapse dt s) lcn = none from hp, show slice (elapse dt s) (sliceOfLcn (elapse dt s) lcn) =
    some x from hx, hl, beq_self_eq_true, if_true]
  rfl
theorem raised_raiseLocal {d : Nat} (e : Event) (hd : d < s.dies.length) : Raised s (raiseLocal d e s) d e := by
  refine ⟨mem_local_raiseLocal_self e hd, fun _ h => mem_local_raiseLocal h, ?_⟩
  rw [raiseLocal_eq, die_modDie_same s _ hd]
  have := List.length_eq_length_filter_add (l := (die s d).local_) (comesAfter e)
  simp only [List.length_append, List.length_cons, List.length_nil]
  omega
/-- A tile that only moves data is issued at once (R105, R186). -/
theorem tileIssue_move (dt : Nat) (hp : coreOf s lcn = some p) (hx : slice s (sliceOfLcn s lcn) = some x) (hl : x.life = .running)
    (hb : issueBlocked s (puaClusterKey p) = false) (hf : isFollower s lcn = false) (hk : tile.kind = .move) :
    exec (.tileIssue dt lcn tile) s = .next (progressEvent (puaClusterKey p) (commandTile (puaClusterKey p) tile.command (puaCore p)
      (modSlice (sliceOfLcn s lcn) Slice.issue (elapse dt s)))) := by
  show execTileIssue dt lcn tile s = _
  simp only [execTileIssue, done, show coreOf (elapse dt s) lcn = some p from hp, show slice (elapse dt s) (sliceOfLcn (elapse dt s) lcn) =
    some x from hx, hl, beq_self_eq_true, Bool.not_true, show issueBlocked (elapse dt s) (puaClusterKey p) = false from hb,
    show isFollower (elapse dt s) lcn = false from hf, Bool.or_self, Bool.false_eq_true, if_false, hk, if_true]
  rfl
/-- After the consumption that ends a slice, further ones are counted (R188). -/
theorem tileIssue_counts (dt : Nat) (hp : coreOf s lcn = some p) (hx : slice s (sliceOfLcn s lcn) = some x) (hl : x.life = .ending)
    (hc : x.consumed = true) (ht : x.teardown = none) (hk : tile.kind ≠ .move) (hu : unusableInput (core s p) tile ≠ none) :
    exec (.tileIssue dt lcn tile) s = .next (addSobj (sliceOfLcn s lcn) (key 0x2706 7) 1 (elapse dt s)) := by
  have hsome : (unusableInput (core (elapse dt s) p) tile).isSome = true := Option.isSome_iff_ne_none.mpr hu
  have hne : (tile.kind != .move) = true := bne_iff_ne.mpr hk
  have hnot : (SliceLife.ending == SliceLife.running) = false := by decide
  show execTileIssue dt lcn tile s = _
  simp only [execTileIssue, done, show coreOf (elapse dt s) lcn = some p from hp, show slice (elapse dt s) (sliceOfLcn (elapse dt s) lcn) =
    some x from hx, hl, hnot, Bool.not_false, Bool.true_or, if_true, Option.any_some, hc, ht, Option.all_none, hne, hsome,
    decide_true, Bool.and_self]
  rfl
/-- A tile that a core takes behind none runs there, and the other cores stand. -/
theorem core_takeTile {k q : Nat} (lcn : Nat) (ht : (core s q).test = none) (hw : writesPinned (core s q) tile = false) :
    (core (takeTile k lcn q tile s) q).tile = some (keeperRead s (fieldKeeper (puaFieldIdx q)), tile) ∧
      (∀ j, j ≠ q → core (takeTile k lcn q tile s) j = core s j) ∧ Touches [.lcns, .cores, .objs] s (takeTile k lcn q tile s) := by
  rw [takeTile_of_free ht hw]
  obtain ⟨h1, h2⟩ := core_startTile lcn q tile s
  exact ⟨h1, h2, touches_startTile ..⟩
end

/-- Settles O24: by what stands in the way of the issue, the clauses in the order of the statement. -/
theorem tilesAreIssued : Obligations.TilesAreIssued := by
  refine ⟨fun dt lcn tile p x s hp hx hl hb hm hk hbusy hin ht hw hu => ?_,
    fun dt lcn tile p q x s hp hq hne he hx hl hb hm hk hfree hin hu => ?_, fun dt lcn tile p x s hp hx hl hb hf hk => ?_,
    fun dt lcn tile p x r s hp hx hl hb hm hk hbusy hin ht hu => ?_, fun dt lcn tile x s hp hx hl hd => ?_,
    fun dt lcn tile p x s hp hx hl hb hm hk hbusy hin hu hc => ?_, fun dt lcn tile p x s hp hx hl hc htd hk hu => ?_⟩
  · have hexec := tileIssue_free dt hp hx hl hb (isFollower_of_not_full hm) hk (by simpa [fullPartner_nil hm] using hbusy) hin
    simp only [hu, fullPartner_nil hm, List.foldl_nil] at hexec
    have hissue := slice_issue dt hx
    have hT := touches_issue dt (sliceOfLcn s lcn) s
    obtain ⟨hcore, hothers, hV⟩ := core_takeTile (k := sliceOfLcn s lcn) (s := modSlice (sliceOfLcn s lcn) Slice.issue (elapse dt s)) lcn ht hw
    generalize takeTile _ _ _ _ _ = v at hexec hcore hothers hV
    have hcmd := touches_commandTile (puaClusterKey p) tile.command (puaCore p) v
    refine ⟨_, x.issue, hexec, ?_, (slice_of_touches (hV.trans hcmd) (by decide) _).trans hissue, rfl, fun j hj => ?_,
      (Touches.mono (S := issueParts) (by decide) (hT.trans (hV.trans hcmd))).eq_blend⟩
    · rw [core_of_touches hcmd (by decide), hcore]
      rfl
    · rw [core_of_touches hcmd (by decide), hothers j hj]
      rfl
  · have hpair := fullPartner_full hm hq
    have hexec := tileIssue_free dt hp hx hl hb (isFollower_of_even he) hk (by simpa [hpair] using fun c hc => (hfree c hc).1) hin
    obtain ⟨-, htp, hwp⟩ := hfree p (by simp)
    obtain ⟨-, htq, hwq⟩ := hfree q (by simp)
    simp only [hu, hpair, List.foldl_cons, List.foldl_nil] at hexec
    have hT := touches_issue dt (sliceOfLcn s lcn) s
    obtain ⟨hcore, hothers, hV⟩ := core_takeTile (k := sliceOfLcn s lcn) (s := modSlice (sliceOfLcn s lcn) Slice.issue (elapse dt s)) lcn htp hwp
    generalize takeTile _ _ p _ _ = v at hexec hcore hothers hV
    have hcmd := touches_commandTile (puaClusterKey p) tile.command (puaCore p) v
    generalize commandTile _ _ _ v = w at hexec hcmd
    have hwq' : core w q = core s q := (core_of_touches hcmd (by decide) q).trans (hothers q hne.symm)
    obtain ⟨hcore2, hothers2, hZ⟩ := core_takeTile (k := sliceOfLcn s lcn) (s := w) (q := q) (tile := tile) (lcn + 1)
      (by rw [hwq']; exact htq) (by rw [hwq']; exact hwq)
    have hU := hT.trans (hV.trans (hcmd.trans hZ))
    refine ⟨_, hexec, fun c hc => ?_, (Touches.mono (S := issueParts) (by decide) hU).eq_blend⟩
    obtain rfl | rfl : c = p ∨ c = q := by simpa using hc
    · rw [hothers2 _ hne, core_of_touches hcmd (by decide), hcore]
      rfl
    · rw [hcore2, keeperRead, keeperRead, keeper_of_touches (hT.trans (hV.trans hcmd)) (by decide),
        show w.now = (elapse dt s).now from (hT.trans (hV.trans hcmd)).agrees .now (by decide)]
  · have hT := (touches_issue dt (sliceOfLcn s lcn) s).trans (.trans (touches_commandTile (puaClusterKey p) tile.command (puaCore p) _)
      (calm_progressEvent (g := Core.firm) (h := LcnRec.stream) (τ := Slice.tally) (puaClusterKey p) _).toTouches)
    refine ⟨_, x.issue, tileIssue_move dt hp hx hl hb hf hk, ?_, rfl, (Touches.mono (S := [.shapes, .clusters, .slices]) (by decide) hT).eq_blend⟩
    exact (slice_of_touches (.trans (touches_commandTile ..) (calm_progressEvent (g := Core.firm) (h := LcnRec.stream)
      (τ := Slice.tally) ..).toTouches) (by decide) _).trans (slice_issue dt hx)
  · have hexec := tileIssue_free dt hp hx hl hb (isFollower_of_not_full hm) hk (by simpa [fullPartner_nil hm] using hbusy) hin
    have ht' : (core (modSlice (sliceOfLcn s lcn) Slice.issue (elapse dt s)) p).test = some r := ht
    simp only [hu, fullPartner_nil hm, List.foldl_nil, takeTile_of_test ht'] at hexec
    have hT : Touches [.shapes, .slices] (elapse dt s) (if r.forced then modSlice (sliceOfLcn s lcn) Slice.issue (elapse dt s)
        else addSobj (sliceOfLcn s lcn) (key 0x2806 10) 1 (modSlice (sliceOfLcn s lcn) Slice.issue (elapse dt s))) :=
      .mono (by decide) <| .trans (touches_issue ..) (.ite (fun _ => .refl) fun _ => (calm_addSobj (g := Core.firm) (h := LcnRec.stream)
        (sliceOfLcn s lcn) 1 (by decide)).toTouches)
    generalize (if r.forced then modSlice (sliceOfLcn s lcn) Slice.issue (elapse dt s)
        else addSobj (sliceOfLcn s lcn) (key 0x2806 10) 1 (modSlice (sliceOfLcn s lcn) Slice.issue (elapse dt s))) = u at hexec hT
    have hcore := core_modHeld_same p (fun c => { c with heldTile := some (0, tile) }) u
    have hV := touches_modHeld p (fun c => { c with heldTile := some (0, tile) }) u
    generalize modHeld p _ u = v at hexec hcore hV
    have hcmd := touches_commandTile (puaClusterKey p) tile.command (puaCore p) v
    have hend := (core_of_touches hcmd (by decide) p).trans hcore
    rw [core_of_touches hT (by decide)] at hend
    exact ⟨_, hexec, by rw [hend], by rw [hend]; exact tile_of_not_busy (c := core s p) hbusy, by rw [hend]; exact ht,
      (Touches.mono (S := issueParts) (by decide) (hT.trans (hV.trans hcmd))).eq_blend⟩
  · refine ⟨_, _, tileIssue_unbound dt lcn tile hp hx hl, raised_raiseLocal _ hd, rfl, rfl, rfl, ?_⟩
    exact (Touches.mono (S := [.dies]) (by decide) (touches_noteEvent ..)).eq_blend
  · have hexec := tileIssue_free dt hp hx hl hb (isFollower_of_not_full hm) hk (by simpa [fullPartner_nil hm] using hbusy) hin
    obtain ⟨b, hb⟩ := Option.ne_none_iff_exists'.mp hu
    simp only [hb, fullPartner_nil hm, List.foldl_nil] at hexec
    obtain ⟨y, hy, h1, h2, h3, h4, h5⟩ := consumePoison_first (s := elapse dt s) lcn p b hx hl hc
    refine ⟨_, y, hexec, hy, h1, h2, ?_, h4, ?_, ?_, (Touches.mono (S := issueParts) (by decide) (touches_consumePoison ..)).eq_blend⟩
    · rw [sobj_of_slice hy, h3, sobj_of_slice hx]
    · rw [h5]
      simp [mem_addHold]
    · rw [h5]
      exact tile_of_not_busy (c := core s p) hbusy
  · refine ⟨_, tileIssue_counts dt hp hx hl hc htd hk hu, ?_, ?_⟩
    · rw [sobj_addSobj (s := elapse dt s) _ _ _ hx, if_pos rfl]
      rfl
    · exact (Touches.mono (S := [.slices]) (by decide) (calm_addSobj (g := Core.firm) (h := LcnRec.stream) (s := elapse dt s)
        (sliceOfLcn s lcn) 1 (by decide)).toTouches).eq_blend

end Sys2Proof.Machine
end

section
/-!
SUPPORT. Tiles that end: counts, the sample stream and its replays, verdicts, recomputations, pins (R101, R127 to R152).
-/
namespace Sys2Proof.Machine
open Sys2Proof

/-- The counts of an LCN that tiles advance. -/
def LcnRec.counts (r : LcnRec) : Nat × Nat × Option (Nat × Nat) := (r.progress, r.contraction, r.lastReleased)

section
variable {α β γ : Type} {S : List Part} {g : Core → α} {h : LcnRec → β} {τ : Slice → γ} {s t : State}

/-! ### Replays on their way (R139, R149 to R152) -/

theorem calm_spareMove (p : Nat) (s : State) : Calm [.units] g h τ s (spareMove p s) := (touches_spareMove p s).calm (by decide)
theorem calm_countReplay (d : Descriptor) (p : Nat) (s : State) : Calm [.slices] g h Slice.tally s (countReplay d p s) :=
  .mono (by decide) <| .ite (fun _ => calm_addSobj _ 1 (by decide)) fun _ => .ite (fun _ => calm_addSobj _ 1 (by decide)) fun _ => .refl
theorem calm_enqueueReplay (d : Descriptor) (p : Nat) (front : Bool) (s : State) :
    Calm [.cores, .slices, .units] Core.firm h Slice.tally s (enqueueReplay d p front s) :=
  .mono (by decide) <| .trans (calm_modCore (by rfl)) <| .trans (calm_countReplay ..) (calm_spareMove ..)
/-- What sending replays may change. -/
def sendParts : List Part := [.cores, .clusters, .slices, .units]
theorem calm_orderImmediate (ck : Nat) (d : Descriptor) (s : State) : Calm sendParts Core.firm h Slice.tally s (orderImmediate ck d s) := by
  unfold orderImmediate
  split
  · exact .mono (by decide) (calm_enqueueReplay ..)
  · exact .mono (by decide) (calm_modCluster _ _ _ (fun _ => by rfl) fun _ => by rfl)
theorem calm_dispatchReplay (d : Descriptor) (s : State) : Calm sendParts Core.firm h Slice.tally s (dispatchReplay d s) := by
  unfold dispatchReplay
  dsimp only
  split
  · exact .mono (by decide) (calm_enqueueReplay ..)
  · exact .mono (by decide) <| .trans (calm_modCluster _ _ _ (fun _ => by rfl) fun _ => by rfl) <|
      .ite (fun _ => calm_modHeld (by rfl)) fun _ => .refl
theorem calm_sendWaiting (n ck : Nat) (s : State) : Calm sendParts Core.firm h Slice.tally s (sendWaiting n ck s) := by
  induction n generalizing s with
  | zero => exact .mono (by decide) .refl
  | succ n ih =>
    unfold sendWaiting
    split
    · exact .mono (by decide) .refl
    · dsimp only
      split
      · exact .mono (by decide) .refl
      · exact .mono (by decide) <| .trans (calm_modCluster _ _ _ (fun _ => by rfl) fun _ => by rfl) <|
          .trans (calm_enqueueReplay ..) (ih _)
theorem calm_freeQueueStalls (ck : Nat) (s : State) : Calm startParts Core.held LcnRec.stream Slice.tally s (freeQueueStalls ck s) :=
  .mono (by decide) <| .ite (fun _ => .refl) fun _ => .foldl (S := startParts) (fun _ _ => .mono (by decide) <|
    .ite (fun _ => .trans (calm_modHeld (by rfl)) (calm_startHeld ..)) fun _ => .refl) _ _
theorem calm_refillQueues (s : State) : Calm (.units :: startParts) Core.held LcnRec.stream Slice.tally s (refillQueues s) :=
  .foldl (fun _ _ => .mono (by decide) <| .trans (calm_sendWaiting ..).held (calm_freeQueueStalls ..)) _ _

/-! ### Counts and the sample stream (R143 to R152, R266) -/

theorem calm_countView (sl unit id n : Nat) (s : State) : Calm [.views] g h τ s (countView sl unit id n s) :=
  (touches_countView ..).calm (by decide)
theorem calm_countCore (p id n : Nat) (s : State) : Calm [.cores, .views] Core.firm h τ s (countCore p id n s) := by
  refine .mono (L := [.cores] ++ [.views]) (by decide) (.trans (t := modCore p (fun c => { c with counters := tmod c.counters id 0 (· + n) }) s)
    (calm_modCore (by rfl)) ?_)
  unfold countCore
  dsimp only
  split
  · exact calm_countView ..
  · exact .mono (by decide) .refl
theorem calm_countTile (p : Nat) (contraction : Bool) (macs : Nat) (s : State) :
    Calm [.cores, .views, .clusters] Core.firm h τ s (countTile p contraction macs s) :=
  .mono (by decide) <| .trans (calm_countCore ..) <| .trans (.ite (fun _ => calm_countCore ..) fun _ => .refl) (calm_progressEvent ..)
theorem calm_pinInputs (p : Nat) (x : Tile) (s : State) : Calm [.cores] Core.work h τ s (pinInputs p x s) := calm_modCore (by rfl)
/-- The progress count of an LCN at the end of a tile of its stream, unless it has been cut meanwhile (R143, R144). -/
def advance (lcn p : Nat) (released : Bool) (s : State) : State :=
  if decide ((lcnRec s lcn).progress ≠ (core s p).taken.1) then s else modLcn lcn (fun r => { r with
    progress := ((core s p).taken.1 + 1) % 2 ^ 64, lastEnd := keeperRead s (fieldKeeper (puaFieldIdx p)),
    lastReleased := if released then some ((core s p).taken.1, keeperRead s (fieldKeeper (puaFieldIdx p))) else r.lastReleased }) s
theorem calm_advance (lcn p : Nat) (released : Bool) (s : State) : Calm [.lcns] g LcnRec.contraction τ s (advance lcn p released s) :=
  .mono (by decide) <| .ite (fun _ => .refl) fun _ => calm_modLcn (by rfl)
theorem lcnRec_advance {lcn p : Nat} {released : Bool} (he : (lcnRec s lcn).progress = (core s p).taken.1) :
    (lcnRec (advance lcn p released s) lcn).progress = ((lcnRec s lcn).progress + 1) % 2 ^ 64 ∧
      (released = true → (lcnRec (advance lcn p released s) lcn).lastReleased =
        some ((lcnRec s lcn).progress, keeperRead s (fieldKeeper (puaFieldIdx p)))) := by
  rw [advance, if_neg (by simp [he]), lcnRec_modLcn_same, he]
  exact ⟨rfl, fun h => if_pos h⟩
/-- What the end of a tile of the sample stream may change. -/
def streamParts : List Part := [.lcns, .cores, .clusters, .slices, .units]
/-- Past the count, the end of a tile of the stream is a matter of groups, samples and their replays. -/
theorem calm_endSample_advance (lcn p : Nat) (x : Tile) (start : Nat) (r : RunResult) (released : Bool) (s : State) :
    Calm streamParts Core.work LcnRec.counts Slice.tally (advance lcn p released s) (endSample lcn p x start r released s) := by
  unfold endSample
  dsimp only
  rw [← advance]
  generalize advance lcn p released s = u
  refine .mono (L := [] ++ streamParts) (by decide) <| .ite (fun _ => .refl) fun _ => ?_
  generalize hv : modLcn lcn _ u = v
  have hgroup : Calm [.lcns] Core.work LcnRec.counts Slice.tally u v := by
    refine hv ▸ calm_modLcn ?_
    split <;> rfl
  refine .mono (L := [.lcns] ++ streamParts) (by decide) (hgroup.trans ?_)
  refine .mono (L := [] ++ streamParts) (by decide) <| .ite (fun _ => .refl) fun _ => ?_
  refine .mono (L := [.lcns] ++ streamParts) (by decide) <| .ite (fun _ => calm_modLcn (by rfl)) fun _ => ?_
  refine .mono (by decide) <| .trans (calm_modLcn (by rfl)) <| .trans (calm_pinInputs ..) <|
    .trans (.ite (fun _ => .trans (calm_addSobj _ 1 (by decide)) (calm_modHeld (by rfl))) fun _ => .refl) <|
    .ite (fun _ => (calm_orderImmediate ..).work) fun _ => (calm_dispatchReplay ..).work
theorem calm_endSample (lcn p : Nat) (x : Tile) (start : Nat) (r : RunResult) (released : Bool) (s : State) :
    Calm streamParts Core.work LcnRec.contraction Slice.tally s (endSample lcn p x start r released s) :=
  .mono (by decide) <| .trans (calm_advance lcn p released s) ((calm_endSample_advance ..).weaken id (fun x => x.2.1) id)

/-! ### Pins (R140, R147) -/

/-- Inbound writes land in local SRAM. -/
theorem calm_landWrites (p : Nat) (l : List (Transfer × Word64)) (s : State) (hg : ∀ c l, g { c with sram := l } = g c) :
    Calm [.cores] g h τ s (l.foldl (fun s a => setSram p a.1.block ⟨a.2, true, none, some a.1⟩ s) s) :=
  .foldl (fun _ _ => calm_setSram _ _ _ _ hg) _ _
theorem calm_releasePins (p : Nat) (ns : List Nat) (s : State) :
    Calm startParts Core.idle LcnRec.stream Slice.tally s (releasePins p ns s) := by
  unfold releasePins
  dsimp only
  exact .mono (by decide) <| .trans (calm_modCore (by rfl)) <| .trans (calm_landWrites _ _ _ fun _ _ => by rfl) <|
    .trans (calm_modHeld (by rfl)) (calm_startHeld ..).idle_of_held
theorem calm_unpinInputs (p : Nat) (x : Tile) (s : State) :
    Calm startParts Core.idle LcnRec.stream Slice.tally s (unpinInputs p x s) := calm_releasePins ..
/-- A core but for the blocks of its local SRAM. -/
def Core.dry (c : Core) : Core := { c with sram := [] }
/-- The pins that are left, with the inbound writes that go on waiting for them. -/
def Core.keepPins (pins : List Nat) (c : Core) : Core :=
  { c with pins := pins, arrivals := c.arrivals.filter fun a => pins.contains a.1.block }
/-- With fewer than 8 pins, and no tile that waits for one, the issue goes on (R147). -/
def Core.unstall (pins : List Nat) (c : Core) : Core :=
  { c with stalls := if pins.length < 8 && !c.heldTile.any (fun t => writesPinned c t.2) then dropHold 1 c.stalls else c.stalls }
/-- The pins are gone, and with fewer than 8 left and no tile that waits for one nothing holds the core for them. -/
theorem core_releasePins (p : Nat) (ns : List Nat) (s : State) :
    (core (releasePins p ns s) p).pins = (core s p).pins.filter (fun n => !ns.contains n) ∧
      ((core s p).heldTile = none → ((core s p).pins.filter fun n => !ns.contains n).length < 8 →
        1 ∉ (core (releasePins p ns s) p).stalls) := by
  generalize hpins : (core s p).pins.filter (fun n => !ns.contains n) = pins
  obtain ⟨v, hv, hdry⟩ : ∃ v, releasePins p ns s = startHeld p (modHeld p (Core.unstall pins) v) ∧
      (core v p).dry = ((core s p).keepPins pins).dry := by
    subst hpins
    refine ⟨_, rfl, ((calm_landWrites (g := Core.dry) (h := LcnRec.counts) (τ := Slice.tally) p _ _ fun _ _ => rfl).cores p).trans ?_⟩
    rw [core_modCore_same]
    rfl
  have hheld : (core v p).heldTile = (core s p).heldTile := (congrArg Core.heldTile hdry :)
  have hcore := core_modHeld_same p (Core.unstall pins) v
  rw [hv]
  generalize modHeld p (Core.unstall pins) v = w at hcore
  refine ⟨?_, fun hn hlt => ?_⟩
  · calc (core (startHeld p w) p).pins = (core w p).pins := congrArg (fun x => x.2.1) ((calm_startHeld p w).cores p)
      _ = (core v p).pins := by rw [hcore]; rfl
      _ = pins := (congrArg Core.pins hdry :)
  · rw [startHeld_of_none (by rw [hcore]; exact hheld.trans hn), hcore]
    simp [Core.unstall, hheld, hn, hlt, mem_dropHold]

/-! ### Output blocks (R101, R140, R156, R183) -/

theorem calm_releaseOutputs (p : Nat) (x : Tile) (words : List Word64) (s : State) :
    Calm startParts Core.idle LcnRec.stream Slice.tally s (releaseOutputs p x words s) :=
  .mono (by decide) <| .trans (calm_storeOutputs _ _ _ _ _ fun _ _ => by rfl) (calm_startHeld ..).idle_of_held
theorem outputsHeld_releaseOutputs (p : Nat) (x : Tile) (words : List Word64) (s : State) : OutputsHeld (releaseOutputs p x words s) p x true :=
  (outputsHeld_storeOutputs p x words true s).of_calm (congrArg Prod.fst ((calm_startHeld p _).cores p))
/-- With no tile waiting on the core its blocks are all that changes. -/
theorem releaseOutputs_of_none {p : Nat} (x : Tile) (words : List Word64) (hn : (core s p).heldTile = none) :
    releaseOutputs p x words s = storeOutputs p x words true s := by
  refine startHeld_of_none ?_
  rw [(calm_storeOutputs (g := Core.heldTile) (h := LcnRec.counts) (τ := Slice.tally) p x words true s fun _ _ => by rfl).cores, hn]
theorem calm_poisonOutputs (k p cause : Nat) (x : Tile) (pick : Nat → Bool) (s : State) :
    Calm [.cores, .dies, .fields, .clusters] Core.bare h τ s (poisonOutputs k p cause x pick s) := by
  refine .foldl (fun u e => ?_) _ _
  refine .mono (L := [] ++ [.cores, .dies, .fields, .clusters]) (by decide) <| .ite (fun _ => .refl) fun _ => ?_
  dsimp only
  split
  · exact .trans (L := [.cores]) (calm_setSram _ _ _ _ fun _ _ => by rfl) (calm_poisonRecord ..)
  · exact .mono (by decide) (calm_poisonRecord ..)
theorem core_poisonRecord (unit cause sl : Nat) (w : Word64) (source : Nat) (s : State) (q : Nat) :
    core (poisonRecord unit cause sl w source s) q = core s q := core_of_touches (touches_raise ..) (by decide) q
theorem wordPoison_poisonWord (gen fmt k d : Nat) : wordPoison (poisonWord gen fmt k d) = true := by
  simp [wordPoison, poisonWord, streamerWord]
  omega
theorem outputsPoisoned_poisonOutputs (k p cause : Nat) (x : Tile) (s : State) :
    OutputsPoisoned (poisonOutputs k p cause x (fun _ => true) s) p x := by
  intro o ho n hn h12
  obtain ⟨i, hi, rfl⟩ := List.mem_iff_getElem.mp ho
  have he : (x.outputs[i], i) ∈ x.outputs.zipIdx := List.mk_mem_zipIdx_iff_getElem?.mpr (List.getElem?_eq_getElem hi)
  refine foldl_outputs (P := fun b => wordPoison b.word = true) (fun s e n hn h12 => ?_) (fun s e n hn => ?_) he hn h12 s
  · simp only [Bool.not_true, Bool.false_eq_true, if_false, hn, core_poisonRecord]
    exact ⟨_, (sram_setSram ..).trans (if_pos ⟨h12, rfl⟩), wordPoison_poisonWord ..⟩
  · simp only [Bool.not_true, Bool.false_eq_true, if_false, core_poisonRecord]
    split
    · next m hm => exact (sram_setSram ..).trans (if_neg fun ⟨_, heq⟩ => hn (hm.trans (congrArg some heq.symm)))
    · rfl

/-! ### Verdicts (R127 to R141) -/

/-- The Bridle's verdict takes two free bits, and rests on nothing else of the state. -/
theorem judge_spec (lcn count base : Nat) (seed : Word64) (m : Mode) (taps : Taps) : ∃ f : Bool → Bool → Verdict, ∀ s,
    judge lcn count base seed m taps s = (f (Config.freeBit s.free) (Config.freeBit (s.free + 1)), { s with free := s.free + 1 + 1 }) := by
  unfold judge
  dsimp only [takeBit]
  cases projectAll seed lcn count base (signPairs m) taps with
  | none =>
    exact ⟨fun _ _ => if converterAgrees taps then .unchecked else .fail 0 ⟨0, 0, 0, none⟩ true, fun s => by dsimp only; split <;> rfl⟩
  | some vs =>
    refine ⟨fun b0 b1 => (firstFailure 0 vs [b0, b1]).elim (if converterAgrees taps then .pass else
      .fail 0 (vs.headD ⟨0, 0, 0, none⟩) true) fun f => .fail f.1 f.2 false, fun s => ?_⟩
    dsimp only
    cases firstFailure 0 vs [Config.freeBit s.free, Config.freeBit (s.free + 1)] with
    | none =>
      dsimp only [Option.elim]
      split <;> rfl
    | some f => rfl
theorem touches_verdictOn (lcn count first : Nat) (seed : Word64) (m : Mode) (taps : Taps) (s : State) :
    Touches [.free] s (verdictOn lcn count first seed m taps s).2 := by
  obtain ⟨f, hf⟩ := judge_spec lcn count first seed m taps
  unfold verdictOn
  split
  · exact hf s ▸ touches_update [.free] rfl
  · split <;> exact .mono (by decide) .refl
/-- A verdict follows from the execution and the free bits. -/
theorem verdictOn_congr (hf : t.free = s.free) (lcn count first : Nat) (seed : Word64) (m : Mode) (taps : Taps) :
    (verdictOn lcn count first seed m taps t).1 = (verdictOn lcn count first seed m taps s).1 := by
  obtain ⟨f, hj⟩ := judge_spec lcn count first seed m taps
  unfold verdictOn
  rw [hj, hj, hf]
  split
  · rfl
  · split <;> rfl
theorem calm_reportFailure (k lcn p count attempt epoch cause : Nat) (taps : Taps) (pair : Nat) (v : PairVerdict) (detected : Option Nat)
    (s : State) : Calm [.free, .slices, .dies, .fields, .clusters] g h Slice.tally s
      (reportFailure k lcn p count attempt epoch cause taps pair v detected s) := by
  unfold reportFailure
  dsimp only [takeNat]
  exact .mono (by decide) <| .trans ((touches_update [.free] rfl).calm (by decide)) <|
    .trans (calm_setSobjs _ _ _ (by simp +decide)) (calm_raise ..)
theorem charged_reportFailure {p : Nat} (k lcn count attempt epoch cause : Nat) (taps : Taps) (pair : Nat) (v : PairVerdict)
    (detected : Option Nat) (s : State) (hp : aCore s p = true) :
    Charged (reportFailure k lcn p count attempt epoch cause taps pair v detected s) p cause 0x2501 := by
  unfold reportFailure
  dsimp only [takeNat]
  refine charged_raise ?_ rfl rfl rfl rfl rfl
  exact (aCore_congr ((touches_setSobjs ..).fields_length (by decide))).trans hp

/-! ### Recomputation (R140) -/

theorem touches_setRecompute (n : Nat) (x : Recompute) (s : State) : Touches [.recomputes] s (setRecompute n x s) :=
  touches_update [.recomputes] rfl
theorem calm_endRecompute (n : Nat) (x : Recompute) (s : State) :
    Calm (.recomputes :: startParts) Core.idle LcnRec.stream Slice.tally s (endRecompute n x s) :=
  .mono (by decide) <| .trans (L := [.recomputes]) ((touches_update [.recomputes] rfl).calm (by decide)) (calm_unpinInputs ..)
/-- The entry of a recompute that has ended is gone. -/
theorem recomputes_endRecompute (n : Nat) (x : Recompute) (s : State) : (endRecompute n x s).recomputes = tdel s.recomputes n :=
  (calm_unpinInputs ..).agrees .recomputes (by decide)
theorem not_mem_tdel {α : Type} {l : Tab α} {n : Nat} : ∀ e ∈ tdel l n, e.1 ≠ n := fun e he => by
  simpa using (List.mem_filter.mp he).2
theorem calm_noteReleased (lcn : Nat) (stream : Option (Nat × Nat)) (s : State) (hh : ∀ r v, h { r with lastReleased := v } = h r) :
    Calm [.lcns] g h τ s (noteReleased lcn stream s) := by
  unfold noteReleased
  split
  · exact .mono (by decide) .refl
  · refine calm_modLcn ?_
    split
    · exact hh ..
    · rfl
end
end Sys2Proof.Machine
end

section
/-!
SUPPORT. The commands on which tiles end (R101, R105, R114, R127 to R143).
-/
namespace Sys2Proof.Machine
open Sys2Proof

/-- What a core holds besides the tile that it runs. -/
def Core.stint (c : Core) : Option (Nat × Tile) × (Nat × Mode) × Tab SramBlock := (c.heldTile, c.taken, c.sram)

section
variable {α β γ : Type} {S L : List Part} {g : Core → α} {h : LcnRec → β} {τ : Slice → γ} {s t u : State}

/-! ### What governs an LCN stands -/

theorem coreOf_of_touches (c : Touches S s t) (hS : ∀ p ∈ [Part.powers, .lcnMap], p ∉ S) (lcn : Nat) : coreOf t lcn = coreOf s lcn := by
  simp only [coreOf, c.field_power (hS _ (by decide)), show t.lcnMap = s.lcnMap from c.agrees .lcnMap (hS _ (by decide))]
theorem keeperRead_of_touches (c : Touches S s t) (hS : ∀ p ∈ [Part.keepers, .now], p ∉ S) (k : Nat) : keeperRead t k = keeperRead s k := by
  rw [keeperRead, keeperRead, keeper_of_touches c (hS _ (by decide)), show t.now = s.now from c.agrees .now (hS _ (by decide))]
theorem sliceAt_of_touches (c : Touches S s t) (hS : .shapes ∉ S) (x : Nat × Nat × Nat) : sliceAt t x = sliceAt s x := by
  have hfind : ∀ u : State, sliceAt u x = (((u.slices.map fun e => (e.1, e.2.shape)).find? fun e =>
      e.2.1 != .ended && inBox e.2.2.2.1 e.2.2.2.2.1 x).map Prod.fst).getD 0 := fun u => by
    rw [List.find?_map, Option.map_map, sliceAt]
    show _ = Option.getD (Option.map _ (u.slices.find? fun e => e.2.life != .ended && inBox e.2.origin e.2.extent x)) 0
    split
    · next e he => rw [he]; rfl
    · next he => rw [he]; rfl
  rw [hfind, hfind, show t.slices.map (fun e => (e.1, e.2.shape)) = s.slices.map fun e => (e.1, e.2.shape) from c.agrees .shapes hS]
theorem sliceOfLcn_of_touches (c : Touches S s t) (hS : .shapes ∉ S) (lcn : Nat) : sliceOfLcn t lcn = sliceOfLcn s lcn :=
  sliceAt_of_touches c hS _
theorem Calm.aCore_eq (c : Calm S g h τ s t) (p : Nat) : aCore t p = aCore s p := aCore_congr c.room
theorem touches_addSobj (k i n : Nat) (s : State) : Touches [.slices] s (addSobj k i n s) := touches_modSlice _ _ _ fun _ => by rfl
/-- One more of a count that the statements read. -/
theorem Calm.sobj_succ {α' β' : Type} {g' : Core → α'} {h' : LcnRec → β'} {k i : Nat} {x : Slice} (c : Calm L g h Slice.tally s t)
    (d : Calm S g' h' Slice.tally (addSobj k i 1 t) u) (hx : slice s k = some x) (hi : i ∈ verdictKeys) :
    sobj u k i 0 = sobj s k i 0 + 1 := by
  obtain ⟨y, hy, -⟩ := c.slice_some hx
  rw [d.sobj_eq k hi, sobj_addSobj i 1 i hy, if_pos rfl, c.sobj_eq k hi]

/-! ### A tile leaves its core (R101, R266) -/

theorem calm_leaveTile (p : Nat) (s : State) (hg : ∀ c, g { c with tile := none, finishing := none } = g c) :
    Calm [.cores, .clusters] g h τ s (leaveTile p s) :=
  .mono (by decide) <| .trans (calm_modCore (hg _)) (calm_modCluster _ _ _ (fun _ => by rfl) fun _ => by rfl)
theorem core_leaveTile (p q : Nat) (s : State) :
    (core (leaveTile p s) p).tile = none ∧ (q ≠ p → core (leaveTile p s) q = core s q) := by
  have hT := touches_modCluster (modCore p (fun c => { c with tile := none, finishing := none }) s) (puaClusterKey p)
    (fun c => { c with boundary := bridleTime (modCore p (fun c => { c with tile := none, finishing := none }) s) (puaClusterKey p) })
    fun _ => by rfl
  refine ⟨?_, fun hq => ?_⟩
  · exact (congrArg Core.tile (core_of_touches hT (by decide) p)).trans (by rw [core_modCore_same])
  · exact (core_of_touches hT (by decide) q).trans (core_modCore_ne _ _ hq)
/-- What the end of a tile may change before its results count. -/
def leaveParts : List Part := [.cores, .clusters, .views]
/-- A tile has left its core and has been counted. -/
theorem ended_spec (p : Nat) (contraction : Bool) (macs : Nat) (s : State) :
    Calm leaveParts Core.stint h τ s (countTile p contraction macs (leaveTile p s)) ∧
      (core (countTile p contraction macs (leaveTile p s)) p).tile = none := by
  have hcount := calm_countTile (h := h) (τ := τ) p contraction macs (leaveTile p s)
  refine ⟨.mono (by decide) <| .trans (calm_leaveTile p s fun _ => by rfl) (hcount.weaken Core.stint id id), ?_⟩
  exact (congrArg Core.tile (hcount.cores p) :).trans (core_leaveTile p p s).1

/-! ### Ineligible tiles (R105, R114) -/

theorem touches_countIneligible (k : Nat) (m : Mode) (s : State) : Touches [.slices, .dies] s (countIneligible k m s) :=
  .mono (by decide) <| .trans (touches_modSlice _ _ _ fun _ => by rfl) <| .ite (fun _ => .refl) fun _ =>
    .trans (touches_modSlice _ _ _ fun _ => by rfl) (touches_refreshBound ..)
theorem countIneligible_spec {k : Nat} {x : Slice} (m : Mode) (hx : slice s k = some x) : ∃ y, slice (countIneligible k m s) k = some y ∧
    tgetD y.objs (key 0x2409 1) 0 = tgetD x.objs (key 0x2409 1) 0 + 1 ∧
    y.ineligibleAt = if signPairs m = 0 then x.ineligibleAt else some (pt s) := by
  have hadd := slice_addSobj (key 0x2409 1) 1 hx
  unfold countIneligible
  split
  · exact ⟨_, hadd, tgetD_tmod_same .., rfl⟩
  · have hmod := slice_modSlice_same (addSobj k (key 0x2409 1) 1 s) k fun x => { x with ineligibleAt := some (pt (addSobj k (key 0x2409 1) 1 s)) }
    rw [hadd, Option.map_some] at hmod
    obtain ⟨b, since, hy, -⟩ := slice_refreshBound hmod
    exact ⟨_, hy, tgetD_tmod_same .., rfl⟩
end

/-! ### SAMPLE_STREAM_TILE_END, INELIGIBLE_COMPUTE_TILE_END (R105, R114, R143) -/

section
variable {dt lcn p start : Nat} {tile : Tile} {s : State}

theorem sampleStreamTileEnd_ends (dt : Nat) (r : RunResult) (hp : tileCore s lcn = some p) (ht : (core s p).tile = some (start, tile))
    (hk : tile.kind = .eligible) (hm : lcnMode s lcn ≠ .full) : ∃ words r', exec (.sampleStreamTileEnd dt lcn r) s =
      .next (endSample lcn p tile start r' true (releaseOutputs ((coreOf s lcn).getD p) tile words
        (countTile p false 0 (leaveTile p (elapse dt s))))) := by
  refine ⟨(formedResult s (sliceOfLcn s lcn) tile r).words, formedResult s (sliceOfLcn s lcn) tile r, ?_⟩
  show execSampleStreamTileEnd dt lcn r s = _
  simp only [execSampleStreamTileEnd, done, show tileCore (elapse dt s) lcn = some p from hp,
    show (core (elapse dt s) p).tile = some (start, tile) from ht, hk, ne_eq, not_true_eq_false, decide_false, Bool.false_or,
    show lcnMode (elapse dt s) lcn ≠ .full from hm, Bool.false_eq_true, if_false]
  rfl
theorem ineligibleComputeTileEnd_ends (dt : Nat) (hp : tileCore s lcn = some p) (ht : (core s p).tile = some (start, tile))
    (hk : tile.kind = .ineligible) (hm : lcnMode s lcn ≠ .full) : ∃ words n, exec (.ineligibleComputeTileEnd dt lcn) s =
      .next (countIneligible (sliceOfLcn s lcn) (lcnMode s lcn) (releaseOutputs ((coreOf s lcn).getD p) tile words
        (countTile p false 0 (leaveTile p { elapse dt s with free := n })))) := by
  refine ⟨tile.outputs.zipIdx.map fun e => resultWord s (sliceOfLcn s lcn) e.1.format (Config.freeWord (s.free + e.2)),
    s.free + tile.outputs.length, ?_⟩
  show execIneligibleComputeTileEnd dt lcn s = _
  simp only [execIneligibleComputeTileEnd, done, show tileCore (elapse dt s) lcn = some p from hp,
    show (core (elapse dt s) p).tile = some (start, tile) from ht, hk, ne_eq, not_true_eq_false, decide_false, Bool.false_or,
    show lcnMode (elapse dt s) lcn ≠ .full from hm, Bool.false_eq_true, if_false]
  rfl

/-- SAMPLE_STREAM_TILE_END of an eligible tile: its blocks are released and the progress count advances. -/
theorem sampleStreamTileEnd_spec (dt : Nat) (r : RunResult) (hp : tileCore s lcn = some p) (ht : (core s p).tile = some (start, tile))
    (hk : tile.kind = .eligible) (hm : lcnMode s lcn ≠ .full) (hn : (core s ((coreOf s lcn).getD p)).heldTile = none)
    (he : (lcnRec s lcn).progress = (core s p).taken.1) : ∃ t, exec (.sampleStreamTileEnd dt lcn r) s = .next t ∧
      (core t p).tile = none ∧ (lcnRec t lcn).progress = ((lcnRec s lcn).progress + 1) % 2 ^ 64 ∧
      (lcnRec t lcn).lastReleased = some ((lcnRec s lcn).progress, keeperRead (elapse dt s) (fieldKeeper (puaFieldIdx p))) ∧
      OutputsHeld t ((coreOf s lcn).getD p) tile true ∧ Touches (.views :: .objs :: streamParts) (elapse dt s) t := by
  obtain ⟨words, r', hexec⟩ := sampleStreamTileEnd_ends dt r hp ht hk hm
  obtain ⟨hu, hup⟩ := ended_spec (h := LcnRec.counts) (τ := Slice.tally) p false 0 (elapse dt s)
  generalize countTile p false 0 (leaveTile p (elapse dt s)) = u at hexec hu hup
  have hun : (core u ((coreOf s lcn).getD p)).heldTile = none := (congrArg Prod.fst (hu.cores _) :).trans hn
  rw [releaseOutputs_of_none tile words hun] at hexec
  have hv := calm_storeOutputs (g := fun c => (c.tile, c.heldTile, c.taken)) (h := LcnRec.counts) (τ := Slice.tally)
    ((coreOf s lcn).getD p) tile words true u fun _ _ => rfl
  have hblocks := outputsHeld_storeOutputs ((coreOf s lcn).getD p) tile words true u
  generalize storeOutputs _ tile words true u = v at hexec hv hblocks
  have htaken : (core v p).taken = (core s p).taken :=
    (congrArg (fun x => x.2.2) (hv.cores p)).trans (congrArg (fun x => x.2.1) (hu.cores p) :)
  have hprog : (lcnRec v lcn).progress = (lcnRec s lcn).progress := (congrArg Prod.fst ((hv.lcns lcn).trans (hu.lcns lcn)) :)
  obtain ⟨hnext, hlast⟩ := lcnRec_advance (released := true) (hprog.trans (he.trans (congrArg Prod.fst htaken.symm)))
  have hw := calm_endSample_advance lcn p tile start r' true v
  have ha := calm_advance (g := Core.firm) (τ := Slice.tally) lcn p true v
  refine ⟨_, hexec, ?_, ?_, ?_, ?_, .mono (by decide) (hu.toTouches.trans (hv.toTouches.trans (ha.toTouches.trans hw.toTouches)))⟩
  · calc (core (endSample lcn p tile start r' true v) p).tile = (core (advance lcn p true v) p).tile := congrArg Prod.fst (hw.cores p)
      _ = (core v p).tile := (congrArg Core.tile (ha.cores p) :)
      _ = (core u p).tile := congrArg Prod.fst (hv.cores p)
      _ = none := hup
  · exact (congrArg Prod.fst (hw.lcns lcn) :).trans (hnext.trans (by rw [hprog]))
  · refine (congrArg (fun x => x.2.2) (hw.lcns lcn) :).trans ((hlast rfl).trans ?_)
    rw [hprog, keeperRead_of_touches (hu.toTouches.trans hv.toTouches) (by decide)]
  · refine hblocks.of_calm ((congrArg (fun x => x.2.2.2.1) (hw.cores _) :).trans (congrArg Core.sram (ha.cores _) :))

/-- INELIGIBLE_COMPUTE_TILE_END: the blocks are released, and the slice counts the tile. -/
theorem ineligibleComputeTileEnd_spec (dt : Nat) {x : Slice} (hp : tileCore s lcn = some p) (ht : (core s p).tile = some (start, tile))
    (hk : tile.kind = .ineligible) (hm : lcnMode s lcn ≠ .full) (hx : slice s (sliceOfLcn s lcn) = some x) :
    ∃ t y, exec (.ineligibleComputeTileEnd dt lcn) s = .next t ∧ slice t (sliceOfLcn s lcn) = some y ∧
      sobj t (sliceOfLcn s lcn) (key 0x2409 1) 0 = sobj s (sliceOfLcn s lcn) (key 0x2409 1) 0 + 1 ∧
      y.ineligibleAt = (if signPairs (lcnMode s lcn) = 0 then x.ineligibleAt else some (pt (elapse dt s))) ∧
      OutputsHeld t ((coreOf s lcn).getD p) tile true ∧ Touches (.free :: .views :: startParts) (elapse dt s) t := by
  obtain ⟨words, n, hexec⟩ := ineligibleComputeTileEnd_ends dt hp ht hk hm
  have hfree : Calm [.free] Core.stint LcnRec.stream Slice.tally (elapse dt s) { elapse dt s with free := n } :=
    (touches_update [.free] rfl).calm (by decide)
  obtain ⟨hu, -⟩ := ended_spec (h := LcnRec.stream) (τ := Slice.tally) p false 0 { elapse dt s with free := n }
  have hstart := hfree.trans hu
  generalize countTile p false 0 (leaveTile p { elapse dt s with free := n }) = u at hexec hu hstart
  have hv := calm_releaseOutputs ((coreOf s lcn).getD p) tile words u
  have hblocks := outputsHeld_releaseOutputs ((coreOf s lcn).getD p) tile words u
  generalize releaseOutputs _ tile words u = v at hexec hv hblocks
  have hslices : (slice v (sliceOfLcn s lcn)).map Slice.tally = some x.tally :=
    (hv.slices _).trans ((hstart.slices _).trans (congrArg (Option.map Slice.tally) hx))
  obtain ⟨y, hy, htally⟩ := Option.map_eq_some_iff.mp hslices
  obtain ⟨z, hz, hcount, hsince⟩ := countIneligible_spec (lcnMode s lcn) hy
  have hc := touches_countIneligible (sliceOfLcn s lcn) (lcnMode s lcn) v
  have hT := hstart.toTouches.trans hv.toTouches
  have hfix : y.ineligibleAt = x.ineligibleAt := congrArg Prod.snd htally
  refine ⟨_, z, hexec, hz, ?_, ?_, hblocks.of_calm (congrArg Core.sram (core_of_touches hc (by decide) _)),
    .mono (by decide) (hT.trans hc)⟩
  · rw [sobj_of_slice hz, hcount, ← sobj_of_slice hy, hv.sobj_eq _ (by decide), hstart.sobj_eq _ (by decide)]
    rfl
  · rw [hsince, hfix, hT.pt_eq (by decide) (by decide) (by decide)]
end

/-! ### RECOMPUTE_ATTEMPT_END (R139, R140) -/

section
variable {s : State} {n lcn : Nat} {x : Recompute}

/-- What the verdict on an attempt brings about. -/
def attemptOutcome (k n lcn : Nat) (x : Recompute) (taps : Taps) (r : RunResult) : Verdict → State → State
  | .pass, s => noteReleased lcn x.stream (releaseOutputs ((coreOf s lcn).getD x.original) x.tile r.words (endRecompute n x s))
  | .unchecked, s => orderUnchecked lcn x.original x.core x.epoch x.attempt x.tile x.stream r s
  | .fail pair v _, s => nextAttempt n lcn x (reportFailure k lcn x.core x.contraction x.attempt x.epoch 2 taps pair v none s)
theorem recomputeAttemptEnd_judged (dt : Nat) (fetched : List Word64) (taps : Taps) (r : RunResult)
    (ho : oldestEntry s.recomputes lcn = some (n, x)) (hz : frozen s = false) (hd : ∀ e ∈ s.clusters, ∀ d ∈ e.2.descriptors, d.lcn ≠ lcn)
    (hq : ∀ e ∈ s.cores, ∀ d ∈ e.2.queue, d.lcn ≠ lcn) (hf : fetched = inputWords x.tile) (hk : isContraction x.tile.kind = true)
    (ht : tapsValid taps = true) : exec (.recomputeAttemptEnd dt lcn fetched taps r) s =
      .next (attemptOutcome (sliceOfLcn s lcn) n lcn x taps (formedResult s (sliceOfLcn s lcn) x.tile r)
        (verdictOn lcn x.contraction (16 * x.attempt) (seedFor s (sliceOfLcn s lcn) x.epoch) (lcnMode s lcn) taps (elapse dt s)).1
        (verdictOn lcn x.contraction (16 * x.attempt) (seedFor s (sliceOfLcn s lcn) x.epoch) (lcnMode s lcn) taps (elapse dt s)).2) := by
  have hwaits : (s.clusters.any (fun e => e.2.descriptors.any fun d => d.lcn = lcn && 0 < d.attempt) ||
      s.cores.any fun e => e.2.queue.any fun d => d.lcn = lcn && 0 < d.attempt) = false := by
    simp only [Bool.or_eq_false_iff, List.any_eq_false, Bool.and_eq_true, decide_eq_true_eq, Bool.not_eq_true]
    exact ⟨fun e he d hin h => hd e he d hin h.1, fun e he d hin h => hq e he d hin h.1⟩
  show execRecomputeAttemptEnd dt lcn fetched taps r s = _
  simp only [execRecomputeAttemptEnd, done, show frozen (elapse dt s) = false from hz, Bool.false_eq_true, if_false,
    show oldestEntry (elapse dt s).recomputes lcn = some (n, x) from ho, elapse_clusters, elapse_cores, hwaits, hf, ne_eq,
    not_true_eq_false, hk, ht, Bool.not_true]
  generalize hv : verdictOn lcn x.contraction (16 * x.attempt) (seedFor s (sliceOfLcn s lcn) x.epoch) (lcnMode s lcn) taps (elapse dt s) = w
  rw [show verdictOn lcn x.contraction (16 * x.attempt) (seedFor (elapse dt s) (sliceOfLcn (elapse dt s) lcn) x.epoch)
    (lcnMode (elapse dt s) lcn) taps (elapse dt s) = w from hv]
  obtain ⟨v, u⟩ := w
  cases v <;> rfl

/-! What a failed attempt leads to (R140). -/

theorem nextAttempt_first (lcn n : Nat) (ha : x.attempt = 1) : Touches [.recomputes, .slices] s (nextAttempt n lcn x s) ∧
    tget (nextAttempt n lcn x s).recomputes n = some { x with attempt := 2, core := x.original } := by
  have : nextAttempt n lcn x s = addSobj (sliceOfLcn s lcn) (key 0x2506 4) 1 (setRecompute n { x with attempt := 2, core := x.original } s) := by
    simp only [nextAttempt, ha]
  exact this ▸ ⟨(touches_setRecompute ..).trans (touches_modSlice _ _ _ fun _ => rfl), tget_tset_same ..⟩
theorem nextAttempt_second (lcn n : Nat) (ha : x.attempt = 2) : Touches [.recomputes, .slices] s (nextAttempt n lcn x s) ∧
    ∃ c, tget (nextAttempt n lcn x s).recomputes n = some { x with attempt := 3, core := c } := by
  have : ∃ c, nextAttempt n lcn x s = addSobj (sliceOfLcn s lcn) (key 0x2506 4) 1 (setRecompute n { x with attempt := 3, core := c } s) := by
    simp only [nextAttempt, ha]
    exact ⟨_, rfl⟩
  obtain ⟨c, hc⟩ := this
  exact hc ▸ ⟨(touches_setRecompute ..).trans (touches_modSlice _ _ _ fun _ => rfl), c, tget_tset_same ..⟩
theorem nextAttempt_last (lcn n : Nat) (h1 : x.attempt ≠ 1) (h2 : x.attempt ≠ 2) : nextAttempt n lcn x s =
    poisonOutputs (sliceOfLcn s lcn) x.original 2 x.tile (fun _ => true)
      (addSobj (sliceOfLcn s lcn) (key 0x2506 5) 1 (endRecompute n x s)) := by
  unfold nextAttempt
  split
  · exact absurd ‹_› h1
  · exact absurd ‹_› h2
  · rfl
theorem nextAttempt_third {y : Slice} (lcn n : Nat) (ha : x.attempt = 3) (hy : slice s (sliceOfLcn s lcn) = some y) :
    (∀ e ∈ (nextAttempt n lcn x s).recomputes, e.1 ≠ n) ∧ OutputsPoisoned (nextAttempt n lcn x s) x.original x.tile ∧
      sobj (nextAttempt n lcn x s) (sliceOfLcn s lcn) (key 0x2506 5) 0 = sobj s (sliceOfLcn s lcn) (key 0x2506 5) 0 + 1 := by
  have hend := calm_endRecompute n x s
  rw [nextAttempt_last lcn n (by omega) (by omega)]
  have hp := calm_poisonOutputs (h := LcnRec.stream) (τ := Slice.tally) (sliceOfLcn s lcn) x.original 2 x.tile (fun _ => true)
    (addSobj (sliceOfLcn s lcn) (key 0x2506 5) 1 (endRecompute n x s))
  have hsame : (poisonOutputs (sliceOfLcn s lcn) x.original 2 x.tile (fun _ => true) (addSobj (sliceOfLcn s lcn) (key 0x2506 5) 1
      (endRecompute n x s))).recomputes = (endRecompute n x s).recomputes :=
    ((touches_addSobj ..).trans hp.toTouches).agrees .recomputes (by decide)
  exact ⟨by rw [hsame, recomputes_endRecompute]; exact not_mem_tdel, outputsPoisoned_poisonOutputs _ _ _ _ _, hend.sobj_succ hp hy (by decide)⟩
theorem touches_nextAttempt (n lcn : Nat) (x : Recompute) (s : State) : Touches (.recomputes :: startParts) s (nextAttempt n lcn x s) := by
  by_cases h1 : x.attempt = 1
  · exact .mono (by decide) (nextAttempt_first lcn n h1).1
  by_cases h2 : x.attempt = 2
  · exact .mono (by decide) (nextAttempt_second lcn n h2).1
  · rw [nextAttempt_last lcn n h1 h2]
    exact .mono (by decide) <| (calm_endRecompute n x s).toTouches.trans <|
      .trans (touches_modSlice _ _ _ fun _ => by rfl) (calm_poisonOutputs (h := LcnRec.stream) (τ := Slice.tally) ..).toTouches

theorem calm_orderUnchecked (lcn original p epoch attempt : Nat) (tile : Tile) (stream : Option (Nat × Nat)) (r : RunResult) (s : State) :
    Calm sendParts Core.work LcnRec.counts Slice.tally (addSobj (sliceOfLcn s lcn) (key 0x2506 3) 1 s)
      (orderUnchecked lcn original p epoch attempt tile stream r s) :=
  .mono (by decide) <| .trans (calm_pinInputs ..) (calm_orderImmediate ..).work

/-- What a recomputation may change. -/
def attemptParts : List Part := .free :: .units :: .recomputes :: startParts
theorem touches_attemptOutcome (k n lcn : Nat) (x : Recompute) (taps : Taps) (r : RunResult) (v : Verdict) (s : State) :
    Touches attemptParts s (attemptOutcome k n lcn x taps r v s) := by
  cases v with
  | pass =>
    exact .mono (by decide) <| (calm_endRecompute n x s).toTouches.trans <| (calm_releaseOutputs ..).toTouches.trans
      (calm_noteReleased (g := Core.firm) (h := LcnRec.contraction) (τ := Slice.tally) _ _ _ fun _ _ => by rfl).toTouches
  | unchecked => exact .mono (by decide) <| .trans (touches_modSlice _ _ _ fun _ => by rfl) (calm_orderUnchecked ..).toTouches
  | fail pair v conv =>
    exact .mono (by decide) <| (calm_reportFailure (g := Core.firm) (h := LcnRec.contraction) ..).toTouches.trans
      (touches_nextAttempt ..)
theorem attemptOutcome_pass (k n lcn : Nat) (x : Recompute) (taps : Taps) (r : RunResult) (s : State) :
    (∀ e ∈ (attemptOutcome k n lcn x taps r .pass s).recomputes, e.1 ≠ n) ∧
      OutputsHeld (attemptOutcome k n lcn x taps r .pass s) ((coreOf s lcn).getD x.original) x.tile true := by
  have hrel := calm_releaseOutputs ((coreOf s lcn).getD x.original) x.tile r.words (endRecompute n x s)
  have hnote := calm_noteReleased (g := Core.firm) (h := LcnRec.contraction) (τ := Slice.tally) lcn x.stream
    (releaseOutputs ((coreOf s lcn).getD x.original) x.tile r.words (endRecompute n x s)) fun _ _ => rfl
  refine ⟨fun e he => ?_, (outputsHeld_releaseOutputs _ _ _ _).of_calm (congrArg Core.sram (hnote.cores _) :)⟩
  rw [show (attemptOutcome k n lcn x taps r .pass s).recomputes = (endRecompute n x s).recomputes from
    (hrel.toTouches.trans hnote.toTouches).agrees .recomputes (by decide), recomputes_endRecompute] at he
  exact not_mem_tdel e he
theorem attemptOutcome_fail {k : Nat} {y : Slice} (n : Nat) (taps : Taps) (r : RunResult) (pair : Nat) (v : PairVerdict) (conv : Bool)
    (hk : sliceOfLcn s lcn = k) (hy : slice s k = some y) :
    (x.attempt = 1 → tget (attemptOutcome k n lcn x taps r (.fail pair v conv) s).recomputes n =
      some { x with attempt := 2, core := x.original }) ∧
    (x.attempt = 2 → ∃ c, tget (attemptOutcome k n lcn x taps r (.fail pair v conv) s).recomputes n =
      some { x with attempt := 3, core := c }) ∧
    (x.attempt = 3 → (∀ e ∈ (attemptOutcome k n lcn x taps r (.fail pair v conv) s).recomputes, e.1 ≠ n) ∧
      OutputsPoisoned (attemptOutcome k n lcn x taps r (.fail pair v conv) s) x.original x.tile ∧
      sobj (attemptOutcome k n lcn x taps r (.fail pair v conv) s) k (key 0x2506 5) 0 = sobj s k (key 0x2506 5) 0 + 1) := by
  have hrep := calm_reportFailure (g := Core.firm) (h := LcnRec.contraction) k lcn x.core x.contraction x.attempt x.epoch 2 taps pair v
    none s
  have hsl := (sliceOfLcn_of_touches hrep.toTouches (by decide) lcn).trans hk
  obtain ⟨z, hz, -⟩ := hrep.slice_some hy
  rw [show attemptOutcome k n lcn x taps r (.fail pair v conv) s = nextAttempt n lcn x (reportFailure k lcn x.core x.contraction x.attempt
    x.epoch 2 taps pair v none s) from rfl]
  generalize reportFailure k lcn x.core x.contraction x.attempt x.epoch 2 taps pair v none s = u at hrep hsl hz
  refine ⟨fun h => (nextAttempt_first lcn n h).2, fun h => (nextAttempt_second lcn n h).2, fun h => ?_⟩
  obtain ⟨h1, h2, h3⟩ := nextAttempt_third lcn n h (hsl.symm ▸ hz)
  exact ⟨h1, h2, by rw [hsl, hrep.sobj_eq k (by decide)] at h3; exact h3⟩
end
end Sys2Proof.Machine
end

section
/-!
SUPPORT. CONTRACTION_TILE_END (R101, R127 to R141).
-/
namespace Sys2Proof.Machine
open Sys2Proof

/-- What governs the end of a contraction tile: its LCN and slice, the core that runs it and the one whose blocks it writes, its
start, its contraction count and epoch, its mode, and its place in the sample stream. -/
structure Ending where
  lcn : Nat
  slice : Nat
  core : Nat
  home : Nat
  start : Nat
  count : Nat
  epoch : Nat
  tile : Tile
  taps : Taps
  result : RunResult
  mode : Mode
  extra : Bool
  stream : Option (Nat × Nat)

/-- The end of the tile `tile`, begun at `start` on the core `p` of an LCN. -/
def endingOf (lcn p start : Nat) (tile : Tile) (taps : Taps) (r : RunResult) (s : State) : Ending :=
  ⟨lcn, sliceOfLcn s lcn, p, (coreOf s lcn).getD p, start, (lcnRec s lcn).contraction, epochAt s (sliceOfLcn s lcn) start, tile, taps,
    formedResult s (sliceOfLcn s lcn) tile r, (core s p).taken.2, (lcnRec s lcn).extraContraction && tile.kind == .contraction,
    streamEnd p tile s⟩
/-- The tile has left its core and is counted. -/
def Ending.counted (x : Ending) (s : State) : State :=
  countTile x.core true (x.taps.m * x.taps.n * x.taps.k)
    (leaveTile x.core (modLcn x.lcn (fun r => { r with contraction := (x.count + 1) % 2 ^ 64 }) s))
/-- The sample stream goes on where the tile belongs to it. -/
def Ending.sample (x : Ending) (released : Bool) (s : State) : State :=
  if x.stream.isSome then endSample x.lcn x.core x.tile x.start x.result released s else s
/-- The projection's count of checked tiles. -/
def Ending.checked (x : Ending) (s : State) : State := if signPairs x.mode = 0 then s else addSobj x.slice (key 0x2506 1) 1 s
/-- The extra sample of a contraction tile that has passed. -/
def Ending.extraSample (x : Ending) (s : State) : State :=
  let d : Descriptor := {
    lcn := x.lcn, progress := (Machine.core s x.core).taken.1, group := none, original := x.core, tile := x.tile, epoch := x.epoch,
    result := x.result, endPt := keeperRead s (fieldKeeper (puaFieldIdx x.core)), unchecked := false, attempt := 0, stale := false }
  if x.extra then orderImmediate (puaClusterKey x.core) d (pinInputs x.core x.tile
    (modLcn x.lcn (fun r => { r with extraContraction := false }) s)) else s
/-- The blocks of a failed tile are held back and its recomputation starts. -/
def Ending.recompute (x : Ending) (s : State) : State :=
  startRecompute x.lcn x.core x.count x.epoch x.tile x.stream false
    (if converterAgrees x.taps then storeOutputs x.home x.tile x.result.words false s
      else addSobj x.slice (key 0x2506 6) 1 (storeOutputs x.home x.tile x.result.words false s))
/-- What the verdict brings about. -/
def Ending.outcome (x : Ending) : Verdict → State → State
  | .pass, s => x.sample true (x.extraSample (releaseOutputs x.home x.tile x.result.words (x.checked s)))
  | .unchecked, s => x.sample false (orderUnchecked x.lcn x.core x.core x.epoch 0 x.tile x.stream x.result
      (storeOutputs x.home x.tile x.result.words false s))
  | .fail pair v conv, s =>
    let s := x.recompute (addSobj x.slice (key 0x2506 2) 1 (x.checked s))
    x.sample false (reportFailure x.slice x.lcn x.core x.count 0 x.epoch (if conv then 3 else 1) x.taps pair v (detectionHour s) s)
/-- The verdict on the tile. -/
def Ending.verdict (x : Ending) (seed : Word64) (s : State) : Verdict × State :=
  verdictOn x.lcn x.count 0 seed x.mode x.taps s

section
variable {dt lcn p start : Nat} {tile : Tile} {taps : Taps} {s t : State}

theorem calm_counted (x : Ending) (s : State) : Calm (.lcns :: leaveParts) Core.stint (fun _ => ()) Slice.tally s (x.counted s) :=
  .mono (by decide) <| .trans (L := [.lcns]) (calm_modLcn (by rfl)) (ended_spec ..).1
theorem counted_spec (x : Ending) (s : State) : (core (x.counted s) x.core).tile = none ∧
    (lcnRec (x.counted s) x.lcn).contraction = (x.count + 1) % 2 ^ 64 := by
  obtain ⟨hcalm, htile⟩ := ended_spec (h := LcnRec.contraction) (τ := Slice.tally) x.core true (x.taps.m * x.taps.n * x.taps.k)
    (modLcn x.lcn (fun r => { r with contraction := (x.count + 1) % 2 ^ 64 }) s)
  exact ⟨htile, (hcalm.lcns x.lcn).trans (by rw [lcnRec_modLcn_same])⟩
theorem seedFor_of_touches {S : List Part} (c : Touches S s t) (hS : .slices ∉ S) (k epoch : Nat) : seedFor t k epoch = seedFor s k epoch := by
  simp only [seedFor, seedOf, epochOf, sobj, slice_of_touches c hS]
  rfl
theorem contractionTileEnd_judged (dt : Nat) (r : RunResult) (hp : tileCore s lcn = some p) (ht : (core s p).tile = some (start, tile))
    (hk : isContraction tile.kind = true) (hm : (core s p).taken.2 ≠ .full) (hv : tapsValid taps = true) {x : Ending}
    (hx : endingOf lcn p start tile taps r (elapse dt s) = x) {seed : Word64} (hseed : seedFor s x.slice x.epoch = seed) :
    exec (.contractionTileEnd dt lcn taps r) s =
      .next (x.outcome (x.verdict seed (x.counted (elapse dt s))).1 (x.verdict seed (x.counted (elapse dt s))).2) := by
  subst hx
  have hc := (calm_counted (endingOf lcn p start tile taps r (elapse dt s)) (elapse dt s)).toTouches
  show execContractionTileEnd dt lcn taps r s = _
  simp only [execContractionTileEnd, done, show tileCore (elapse dt s) lcn = some p from hp,
    show (core (elapse dt s) p).tile = some (start, tile) from ht, hk, show ¬ (core (elapse dt s) p).taken.2 = .full from hm, hv,
    Bool.not_true, decide_false, Bool.or_self, Bool.false_eq_true, if_false]
  generalize hu : countTile p true _ _ = u
  rw [show (endingOf lcn p start tile taps r (elapse dt s)).counted (elapse dt s) = u from hu] at hc ⊢
  rw [seedFor_of_touches hc (by decide), coreOf_of_touches hc (by decide), show seedFor (elapse dt s) (sliceOfLcn (elapse dt s) lcn)
    (epochAt (elapse dt s) (sliceOfLcn (elapse dt s) lcn) start) = seed from hseed]
  generalize hw : verdictOn lcn _ 0 _ _ taps u = w
  rw [show (endingOf lcn p start tile taps r (elapse dt s)).verdict seed u = w from hw]
  obtain ⟨v, z⟩ := w
  cases v with
  | pass => rfl
  | unchecked => rfl
  | fail pair v conv =>
    simp only [Ending.outcome, Ending.recompute, Ending.checked, Ending.sample, endingOf]
    rfl

/-! What a verdict leaves, and what it makes of the blocks (R101, R139, R140). -/

theorem calm_checked (x : Ending) (s : State) : Calm [.slices] Core.firm LcnRec.contraction Slice.tally s (x.checked s) :=
  .mono (by decide) <| .ite (fun _ => .refl) fun _ => calm_addSobj _ 1 (by decide)
theorem calm_sample (x : Ending) (released : Bool) (s : State) :
    Calm streamParts Core.work LcnRec.contraction Slice.tally s (x.sample released s) :=
  .mono (by decide) <| .ite (fun _ => calm_endSample ..) fun _ => .refl
theorem calm_extraSample (x : Ending) (s : State) : Calm streamParts Core.work LcnRec.contraction Slice.tally s (x.extraSample s) :=
  .mono (by decide) <| .ite (fun _ => .trans (calm_modLcn (by rfl)) (.trans (calm_pinInputs ..) (calm_orderImmediate ..).work)) fun _ => .refl
theorem calm_startRecompute (lcn original count epoch : Nat) (x : Tile) (stream : Option (Nat × Nat)) (outbound : Bool) (s : State) :
    Calm [.recomputes, .cores, .slices] Core.work LcnRec.contraction Slice.tally s
      (startRecompute lcn original count epoch x stream outbound s) :=
  .mono (by decide) <| .trans (calm_pinInputs ..) <| .trans (L := [.recomputes]) ((touches_setRecompute ..).calm (by decide))
    (calm_addSobj _ 1 (by decide))
/-- A recomputation that starts is in the table of its Bridle. -/
theorem recomputes_startRecompute (lcn original count epoch : Nat) (x : Tile) (stream : Option (Nat × Nat)) (outbound : Bool) (s : State) :
    ∃ e ∈ (startRecompute lcn original count epoch x stream outbound s).recomputes, e.2.tile = x ∧ e.2.original = original ∧
      e.2.attempt = 1 ∧ e.2.contraction = count :=
  ⟨_, mem_of_tget (tget_tset_same ..), rfl, rfl, rfl, rfl⟩
/-- What the end of a contraction tile may change. -/
def contractionParts : List Part := [.free, .dies, .fields, .units, .lcns, .cores, .clusters, .slices, .recomputes, .views, .turn, .objs]
theorem outcome_pass {x : Ending} (hn : (core s x.home).heldTile = none) :
    Calm contractionParts Core.tile LcnRec.contraction Slice.tally s (x.outcome .pass s) ∧ OutputsHeld (x.outcome .pass s) x.home x.tile true := by
  have hchecked := calm_checked x s
  have hn' : (core (x.checked s) x.home).heldTile = none := (congrArg Core.heldTile (hchecked.cores _) :).trans hn
  rw [Ending.outcome, releaseOutputs_of_none x.tile x.result.words hn']
  have hstore := calm_storeOutputs (g := Core.tile) (h := LcnRec.contraction) (τ := Slice.tally) x.home x.tile x.result.words true
    (x.checked s) fun _ _ => rfl
  have hblocks := outputsHeld_storeOutputs x.home x.tile x.result.words true (x.checked s)
  generalize storeOutputs x.home x.tile x.result.words true (x.checked s) = u at hstore hblocks ⊢
  have hrest := (calm_extraSample x u).trans (calm_sample x true _)
  exact ⟨.mono (by decide) <| (hchecked.weaken Core.tile id id).trans <| hstore.trans (hrest.weaken Prod.fst id id),
    hblocks.of_calm (congrArg (fun c => c.2.2.2.1) (hrest.cores _) :)⟩
theorem outcome_unchecked {x : Ending} {y : Slice} (hk : sliceOfLcn s x.lcn = x.slice) (hy : slice s x.slice = some y) :
    Calm contractionParts Core.tile LcnRec.contraction (fun _ => ()) s (x.outcome .unchecked s) ∧
      OutputsHeld (x.outcome .unchecked s) x.home x.tile false ∧
      sobj (x.outcome .unchecked s) x.slice (key 0x2506 3) 0 = sobj s x.slice (key 0x2506 3) 0 + 1 := by
  rw [Ending.outcome]
  have hstore := calm_storeOutputs (g := Core.tile) (h := LcnRec.contraction) (τ := Slice.tally) x.home x.tile x.result.words false
    s fun _ _ => rfl
  have hblocks := outputsHeld_storeOutputs x.home x.tile x.result.words false s
  generalize storeOutputs x.home x.tile x.result.words false s = u at hstore hblocks ⊢
  have hku := (sliceOfLcn_of_touches hstore.toTouches (by decide) x.lcn).trans hk
  have horder := calm_orderUnchecked x.lcn x.core x.core x.epoch 0 x.tile x.stream x.result u
  rw [hku] at horder
  have hrest := (horder.weaken (h' := LcnRec.contraction) id (fun c => c.2.1) id).trans (calm_sample x false _)
  have hadd : Calm [.slices] Core.tile LcnRec.contraction (fun _ => ()) u (addSobj x.slice (key 0x2506 3) 1 u) :=
    calm_modSlice (fun _ => rfl) fun _ => rfl
  exact ⟨.mono (by decide) <| (hstore.weaken id id fun _ => ()).trans <| hadd.trans (hrest.weaken Prod.fst id fun _ => ()),
    hblocks.of_calm (congrArg (fun c => c.2.2.2.1) (hrest.cores _) :), hstore.sobj_succ hrest hy (by decide)⟩
theorem recompute_spec (x : Ending) (s : State) : Calm [.cores, .slices, .recomputes] Core.tile LcnRec.contraction Slice.tally s (x.recompute s) ∧
    OutputsHeld (x.recompute s) x.home x.tile false ∧ ∃ e ∈ (x.recompute s).recomputes, e.2.tile = x.tile ∧ e.2.original = x.core ∧
      e.2.attempt = 1 ∧ e.2.contraction = x.count := by
  have hstore := calm_storeOutputs (g := Core.tile) (h := LcnRec.contraction) (τ := Slice.tally) x.home x.tile x.result.words false
    s fun _ _ => rfl
  have hblocks := outputsHeld_storeOutputs x.home x.tile x.result.words false s
  rw [Ending.recompute]
  generalize storeOutputs x.home x.tile x.result.words false s = u at hstore hblocks ⊢
  have hconv : Calm [.slices] Core.work LcnRec.contraction Slice.tally u (if converterAgrees x.taps then u else addSobj x.slice (key 0x2506 6) 1 u) :=
    .mono (by decide) <| .ite (fun _ => .refl) fun _ => calm_addSobj _ 1 (by decide)
  have hrest := hconv.trans (calm_startRecompute x.lcn x.core x.count x.epoch x.tile x.stream false _)
  exact ⟨.mono (by decide) (hstore.trans (hrest.weaken Prod.fst id id)), hblocks.of_calm (congrArg (fun c => c.2.2.2.1) (hrest.cores _) :),
    recomputes_startRecompute ..⟩
theorem outcome_fail {x : Ending} {y : Slice} (pair : Nat) (v : PairVerdict) (conv : Bool) (hy : slice s x.slice = some y)
    (hp : aCore s x.core = true) :
    Calm contractionParts Core.tile LcnRec.contraction (fun _ => ()) s (x.outcome (.fail pair v conv) s) ∧
      OutputsHeld (x.outcome (.fail pair v conv) s) x.home x.tile false ∧
      Charged (x.outcome (.fail pair v conv) s) x.core (if conv then 3 else 1) 0x2501 ∧
      sobj (x.outcome (.fail pair v conv) s) x.slice (key 0x2506 2) 0 = sobj s x.slice (key 0x2506 2) 0 + 1 ∧
      ∃ e ∈ (x.outcome (.fail pair v conv) s).recomputes, e.2.tile = x.tile ∧ e.2.original = x.core ∧ e.2.attempt = 1 ∧
        e.2.contraction = x.count := by
  have hchecked := calm_checked x s
  have hadd : Calm [.slices] Core.tile LcnRec.contraction (fun _ => ()) (x.checked s) (addSobj x.slice (key 0x2506 2) 1 (x.checked s)) :=
    calm_modSlice (fun _ => rfl) fun _ => rfl
  rw [Ending.outcome]
  obtain ⟨hrec, hblocks, hentry⟩ := recompute_spec x (addSobj x.slice (key 0x2506 2) 1 (x.checked s))
  generalize x.recompute _ = w at hrec hblocks hentry ⊢
  have hrep := calm_reportFailure (g := Core.work) (h := LcnRec.contraction) x.slice x.lcn x.core x.count 0 x.epoch (if conv then 3 else 1)
    x.taps pair v (detectionHour w) w
  have hbefore := (hchecked.weaken (τ' := fun _ => ()) Core.tile id fun _ => ()).trans (hadd.trans (hrec.weaken id id fun _ => ()))
  have hcharge := charged_reportFailure x.slice x.lcn x.count 0 x.epoch (if conv then 3 else 1) x.taps pair v (detectionHour w) w
    ((hbefore.aCore_eq x.core).trans hp)
  have hcore := ((hbefore.trans (hrep.weaken Prod.fst id fun _ => ())).aCore_eq x.core).trans hp
  generalize reportFailure _ _ _ _ _ _ _ _ _ _ _ w = z at hrep hcharge hcore ⊢
  have hsample := calm_sample x false z
  have hrest := hrep.trans hsample
  obtain ⟨e, he, hspec⟩ := hentry
  refine ⟨.mono (by decide) (hbefore.trans (hrest.weaken Prod.fst id fun _ => ())),
    hblocks.of_calm (congrArg (fun c => c.2.2.2.1) (hrest.cores _) :),
    hcharge.of_reports hsample.toReports hcore hsample.toTouches (by decide) (by decide),
    hchecked.sobj_succ (hrec.trans (hrest.weaken Prod.fst id id)) hy (by decide), e, ?_, hspec⟩
  rwa [show (x.sample false z).recomputes = w.recomputes from hrest.agrees .recomputes (by decide)]
theorem outcome_spec {x : Ending} {y : Slice} (v : Verdict) (hn : (core s x.home).heldTile = none) (hk : sliceOfLcn s x.lcn = x.slice)
    (hy : slice s x.slice = some y) (hp : aCore s x.core = true) :
    Calm contractionParts Core.tile LcnRec.contraction (fun _ => ()) s (x.outcome v s) ∧
      (v = .pass → OutputsHeld (x.outcome v s) x.home x.tile true) ∧
      (v = .unchecked → OutputsHeld (x.outcome v s) x.home x.tile false ∧
        sobj (x.outcome v s) x.slice (key 0x2506 3) 0 = sobj s x.slice (key 0x2506 3) 0 + 1) ∧
      ∀ pair w conv, v = .fail pair w conv → OutputsHeld (x.outcome v s) x.home x.tile false ∧
        Charged (x.outcome v s) x.core (if conv then 3 else 1) 0x2501 ∧
        sobj (x.outcome v s) x.slice (key 0x2506 2) 0 = sobj s x.slice (key 0x2506 2) 0 + 1 ∧
        ∃ e ∈ (x.outcome v s).recomputes, e.2.tile = x.tile ∧ e.2.original = x.core ∧ e.2.attempt = 1 ∧ e.2.contraction = x.count := by
  cases v with
  | pass =>
    obtain ⟨hc, hb⟩ := outcome_pass hn
    exact ⟨hc.weaken id id fun _ => (), fun _ => hb, nofun, nofun⟩
  | unchecked =>
    obtain ⟨hc, hb⟩ := outcome_unchecked hk hy
    exact ⟨hc, nofun, fun _ => hb, nofun⟩
  | fail pair w conv =>
    obtain ⟨hc, hb⟩ := outcome_fail pair w conv hy hp
    refine ⟨hc, nofun, nofun, fun _ _ _ h => ?_⟩
    obtain ⟨rfl, rfl, rfl⟩ := Verdict.fail.inj h
    exact hb
/-- Up to the verdict the tile leaves its core, is counted, and nothing else goes. -/
theorem judged_spec (x : Ending) (seed : Word64) (s : State) :
    (x.verdict seed (x.counted s)).1 = (x.verdict seed s).1 ∧
      Calm (.free :: .lcns :: leaveParts) Core.stint (fun _ => ()) Slice.tally s (x.verdict seed (x.counted s)).2 ∧
      (core (x.verdict seed (x.counted s)).2 x.core).tile = none ∧
      (lcnRec (x.verdict seed (x.counted s)).2 x.lcn).contraction = (x.count + 1) % 2 ^ 64 := by
  have hcounted := calm_counted x s
  obtain ⟨htile, hcount⟩ := counted_spec x s
  have hfree : Touches [.free] (x.counted s) (x.verdict seed (x.counted s)).2 := touches_verdictOn ..
  have hquiet : Calm [.free] Core.tile LcnRec.contraction Slice.tally (x.counted s) (x.verdict seed (x.counted s)).2 :=
    hfree.calm (by decide)
  exact ⟨verdictOn_congr (hcounted.agrees .free (by decide)) .., .mono (by decide) (hcounted.trans (hfree.calm (by decide))),
    (hquiet.cores _).trans htile, (hquiet.lcns _).trans hcount⟩
end

/-! ### The statement -/

/-- Settles O25: each command is its exec function on one verdict or tile end, and what follows leaves what the statement reads. -/
theorem tileVerdicts : Obligations.TileVerdicts := by
  refine ⟨fun dt lcn taps r p start tile x s hp ht hk hm hv hx hc hn => ?_,
    fun dt lcn fetched taps r n x y s ho hz hd hq hy hf hk hv => ?_, fun dt lcn r p start tile s hp ht hk hm hn he => ?_,
    fun dt lcn p start tile x s hp ht hk hm hx => ?_, fun dt u block s hb => ?_⟩
  · intro k verdict
    generalize hending : endingOf lcn p start tile taps r (elapse dt s) = e
    have hexec := contractionTileEnd_judged dt r hp ht hk hm hv hending rfl
    obtain ⟨hsame, hw, htile, hcount⟩ := judged_spec e (seedFor s e.slice e.epoch) (elapse dt s)
    have hverdict : (e.verdict (seedFor s e.slice e.epoch) (elapse dt s)).1 = verdict := by
      subst hending
      exact verdictOn_congr (t := elapse dt s) (s := s) rfl ..
    rw [hsame, hverdict] at hexec
    generalize (e.verdict (seedFor s e.slice e.epoch) (e.counted (elapse dt s))).2 = w at hexec hw htile hcount
    have hslice : slice s e.slice = some x := by
      subst hending
      exact hx
    obtain ⟨y, hy, -⟩ := hw.slice_some (show slice (elapse dt s) e.slice = some x from hslice)
    have hheld : (core w e.home).heldTile = none := by
      refine (congrArg Prod.fst (hw.cores e.home) :).trans ?_
      subst hending
      exact hn
    have hplace : aCore w e.core = true := by
      refine (hw.aCore_eq e.core).trans ?_
      subst hending
      exact hc
    have hsl : sliceOfLcn w e.lcn = e.slice := by
      refine (sliceOfLcn_of_touches hw.toTouches (by decide) e.lcn).trans ?_
      subst hending
      rfl
    obtain ⟨hcalm, hpass, hunchecked, hfail⟩ := outcome_spec verdict hheld hsl hy hplace
    have hcounts : ∀ i ∈ verdictKeys, sobj w e.slice i 0 = sobj s e.slice i 0 := fun i hi => hw.sobj_eq e.slice hi
    generalize e.outcome verdict w = t at hexec hcalm hpass hunchecked hfail
    have hT := hw.toTouches.trans hcalm.toTouches
    have hframe := (Touches.mono (S := contractionParts) (by decide) hT).eq_blend
    have hdone : (core t e.core).tile = none := (hcalm.cores e.core).trans htile
    have hnext : (lcnRec t e.lcn).contraction = (e.count + 1) % 2 ^ 64 := (hcalm.lcns e.lcn).trans hcount
    rw [hcounts _ (by decide)] at hunchecked
    simp only [hcounts (key 0x2506 2) (by decide)] at hfail
    subst hending
    exact ⟨t, hexec, hdone, hnext, hpass, hunchecked, hfail, hframe⟩
  · intro k verdict
    have hexec := recomputeAttemptEnd_judged dt fetched taps r ho hz hd hq hf hk hv
    have hfree := touches_verdictOn lcn x.contraction (16 * x.attempt) (seedFor s k x.epoch) (lcnMode s lcn) taps (elapse dt s)
    rw [verdictOn_congr (t := elapse dt s) (s := s) rfl] at hexec
    generalize (verdictOn lcn x.contraction (16 * x.attempt) (seedFor s k x.epoch) (lcnMode s lcn) taps (elapse dt s)).2 = u at hexec hfree
    have hT := (hfree.trans (touches_attemptOutcome k n lcn x taps (formedResult s k x.tile r) verdict u))
    refine ⟨attemptOutcome k n lcn x taps (formedResult s k x.tile r) verdict u, hexec, fun h => ?_, fun pair v conv h => ?_, (Touches.mono (S := .turn :: attemptParts)
      (by decide) hT).eq_blend⟩
    · rw [h]
      obtain ⟨hgone, hblocks⟩ := attemptOutcome_pass k n lcn x taps (formedResult s k x.tile r) u
      rw [coreOf_of_touches hfree (by decide)] at hblocks
      exact ⟨hgone, hblocks⟩
    · rw [h]
      have hk : sliceOfLcn u lcn = k := sliceOfLcn_of_touches hfree (by decide) lcn
      have huy : slice u k = some y := (slice_of_touches hfree (by decide) k).trans hy
      have hsame : sobj u k (key 0x2506 5) 0 = sobj s k (key 0x2506 5) 0 := by rw [sobj_of_slice huy, sobj_of_slice hy]
      rw [← hsame]
      exact attemptOutcome_fail n taps (formedResult s k x.tile r) pair v conv hk huy
  · obtain ⟨t, hexec, h1, h2, h3, h4, hT⟩ := sampleStreamTileEnd_spec dt r hp ht hk hm hn he
    exact ⟨t, hexec, h1, h2, h3, h4, (Touches.mono (S := [.dies, .fields, .units, .lcns, .cores, .clusters, .slices, .views, .turn, .objs])
      (by decide) hT).eq_blend⟩
  · obtain ⟨t, y, hexec, h1, h2, h3, h4, hT⟩ := ineligibleComputeTileEnd_spec dt hp ht hk hm hx
    exact ⟨t, y, hexec, h1, h2, h3, h4, (Touches.mono (S := [.shapes, .stops, .dies, .fields, .lcns, .cores, .clusters, .slices, .views, .turn,
      .objs, .free]) (by decide) hT).eq_blend⟩
  · have hexec : exec (.pinnedBlockFetch dt u block) s = .next (releasePins u.toNat [block] (elapse dt s)) := by
      show execPinnedBlockFetch dt u block s = _
      simp only [execPinnedBlockFetch, done, show (core (elapse dt s) u.toNat).pins.contains block = true from List.contains_iff_mem.mpr hb, if_true]
    have hpins : (fun n => !([block] : List Nat).contains n) = fun n => decide (n ≠ block) := by
      funext n
      simp
    obtain ⟨h1, h2⟩ := core_releasePins u.toNat [block] (elapse dt s)
    rw [hpins] at h1 h2
    exact ⟨_, hexec, h1, h2, (Touches.mono (S := issueParts) (by decide) (calm_releasePins ..).toTouches).eq_blend⟩

end Sys2Proof.Machine
end

section
/-!
SUPPORT. Withheld cores, the reports of mismatches, and the blocks of arbitrations (R102, R155, R156, R159).
-/
namespace Sys2Proof.Machine
open Sys2Proof

section
variable {α β γ : Type} {S L : List Part} {g : Core → α} {h : LcnRec → β} {τ : Slice → γ} {s t u : State}

/-! ### What the operations rest on -/

theorem resultsMatch_of_touches (c : Touches S s t) (hS : .objs ∉ S) (x : Tile) (a b : RunResult) :
    resultsMatch t x a b = resultsMatch s x a b := by
  simp only [resultsMatch, obj, show t.objs = s.objs from c.agrees .objs hS]
theorem stateOf_of_touches (c : Touches S s t) (hS : .units ∉ S) (p : Nat) : stateOf t p = stateOf s p := by
  simp only [stateOf, unitRec, show t.units = s.units from c.agrees .units hS]
theorem sobj_addSobj_ne (k k' n : Nat) {i j : Nat} (s : State) (hj : j ≠ i) : sobj (addSobj k i n s) k' j 0 = sobj s k' j 0 := by
  by_cases hk : k' = k
  · subst hk
    cases hx : slice s k' with
    | none => simp only [sobj, addSobj, slice_modSlice_same, hx, Option.map_none]
    | some x => rw [sobj_addSobj i n j hx, if_neg hj, Nat.add_zero]
  · simp only [sobj, addSobj, slice_modSlice_ne s _ hk]

/-! ### Withheld cores (R155) -/

/-- A core that is withheld at a mismatch. -/
def Core.interrupt (now : Nat) (c : Core) : Core := if c.withheld then c else
  { c with withheld := true, withheldAt := some now, interrupted := c.tile.or c.heldTile, tile := none, heldTile := none }
theorem withheld_interrupt (now : Nat) (c : Core) : (c.interrupt now).withheld = true := by
  unfold Core.interrupt
  split
  · assumption
  · rfl
theorem tile_interrupt (now : Nat) {c : Core} (hc : c.withheld = false) : (c.interrupt now).tile = none := by
  simp [Core.interrupt, hc]
theorem interruptCore_eq (p : Nat) (s : State) : interruptCore p s = modHeld p (Core.interrupt s.now) s := rfl
theorem core_interruptCore (p : Nat) (s : State) : core (interruptCore p s) p = (core s p).interrupt s.now := by
  rw [interruptCore_eq, core_modHeld_same]
theorem withheld_interruptCore (p : Nat) (s : State) : (core (interruptCore p s) p).withheld = true ∧
    ∀ q, (core s q).withheld = true → (core (interruptCore p s) q).withheld = true := by
  refine ⟨by rw [core_interruptCore, withheld_interrupt], fun q hq => ?_⟩
  by_cases hqp : q = p
  · rw [hqp, core_interruptCore, withheld_interrupt]
  · rwa [interruptCore_eq, core_modHeld_ne _ _ hqp]
theorem calm_interruptCore (p : Nat) (s : State) : Calm [.cores, .clusters] Core.sram h τ s (interruptCore p s) := by
  rw [interruptCore_eq]
  refine calm_modHeld ?_
  unfold Core.interrupt
  split <;> rfl
theorem calm_resumeCore (p : Nat) (s : State) :
    Calm [.lcns, .cores, .clusters, .objs] (fun _ => ()) LcnRec.stream τ s (resumeCore p s) := by
  unfold resumeCore
  dsimp only
  have hfree : (core (modHeld p (fun c => { c with withheld := false, withheldAt := none, interrupted := none }) s) p).withheld = false := by
    rw [core_modHeld_same]
  split
  · exact .mono (by decide) <| .trans (calm_modHeld (by rfl)) ((calm_startTile _ _ hfree).weaken (fun _ => ()) id id)
  · exact .mono (by decide) (calm_modHeld (by rfl))
/-- A core that resumes is no longer withheld. -/
theorem withheld_resumeCore (p : Nat) (s : State) : (core (resumeCore p s) p).withheld = false := by
  have hfree : (core (modHeld p (fun c => { c with withheld := false, withheldAt := none, interrupted := none }) s) p).withheld = false := by
    rw [core_modHeld_same]
  unfold resumeCore
  dsimp only
  split
  · exact (congrArg (fun x => x.2.2.1) ((calm_startTile (τ := Slice.tally) _ _ hfree).cores p)).trans hfree
  · exact hfree

/-! ### Reports (R102, R228) -/

theorem calm_reportCause (p cause code k : Nat) (payload : List Byte) (keys : List (Nat × Nat)) (s : State) :
    Calm [.dies, .fields, .clusters] g h τ s (reportCause p cause code k payload keys s) := calm_raise ..
theorem charged_reportCause {p : Nat} (cause code k : Nat) (payload : List Byte) (keys : List (Nat × Nat)) (hp : aCore s p = true) :
    Charged (reportCause p cause code k payload keys s) p cause code := charged_raise hp rfl rfl rfl rfl rfl
/-- A charge outlasts what keeps the reports. -/
theorem Charged.of_calm {p cause code : Nat} (hc : Charged s p cause code) (c : Calm S g h τ s t) (hp : aCore s p = true)
    (hS : ∀ q ∈ [Part.keepers, .now], q ∉ S) : Charged t p cause code :=
  hc.of_reports c.toReports hp c.toTouches (hS _ (by decide)) (hS _ (by decide))
theorem calm_raiseSuspect (k lcn p : Nat) (released : Option (Nat × Nat)) (s : State) :
    Calm [.slices, .dies] g h Slice.tally s (raiseSuspect k lcn p released s) := by
  unfold raiseSuspect
  split
  · exact .mono (by decide) .refl
  · exact .mono (by decide) <| .trans (calm_setSobjs _ _ _ (by simp +decide)) <| .trans (calm_setSobj _ _ (by decide))
      ((touches_raiseLocal ..).calm (by decide))

/-! ### Blocks of arbitrations (R156) -/

theorem calm_writeSelected (p : Nat) (d : Descriptor) (words current : List Word64) (s : State) (hg : ∀ c l, g { c with sram := l } = g c) :
    Calm [.cores] g h τ s (writeSelected p d words current s) := by
  refine .foldl (fun u e => ?_) _ _
  split
  · exact .mono (by decide) <| .ite (fun _ => calm_setSram _ _ _ _ hg) fun _ => .refl
  · exact .mono (by decide) .refl
end

/-! ### WITHHOLD_REPEAT (R261) -/

section
variable {s : State} {p : Nat}
theorem withholdRepeat_reports (dt : Nat) {u : Pua} {a : Nat} (ha : (core s u.toNat).withheldAt = some a)
    (hw : (core s u.toNat).withheld = true) (ht : a + 10000000 ≤ s.now + dt) (htb : ∀ e ∈ s.tieBreaks, e.2.desc.original ≠ u.toNat)
    (hth : ∀ e ∈ s.thirds, e.2.desc.original ≠ u.toNat ∧ e.2.replayCore ≠ u.toNat) (he : eventWaits s u.toNat = false)
    (ho : (unitRec s u.toNat).open_ = false) (hs : inService (stateOf s u.toNat) = true)
    (hm : ∀ l, lcnOfCore s u.toNat = some l → lcnMode s l ≠ .full) :
    exec (.withholdRepeat dt u) s = .next (reportCause u.toNat 0x10 0 (sliceOfUnit s u.toNat) [] [] (elapse dt s)) := by
  have hdeciding : (s.tieBreaks.any (fun e => e.2.desc.original = u.toNat) ||
      s.thirds.any fun e => e.2.desc.original = u.toNat || e.2.replayCore = u.toNat) = false := by
    simp only [Bool.or_eq_false_iff, List.any_eq_false, decide_eq_true_eq, Bool.or_eq_true, not_or]
    exact ⟨htb, hth⟩
  show execWithholdRepeat dt u s = _
  simp only [execWithholdRepeat, done, show (core (elapse dt s) u.toNat).withheldAt = some a from ha,
    show (core (elapse dt s) u.toNat).withheld = true from hw, show ¬ (elapse dt s).now < a + 10000000 from Nat.not_lt.mpr ht,
    elapse_tieBreaks, elapse_thirds, hdeciding, show eventWaits (elapse dt s) u.toNat = false from he,
    show (unitRec (elapse dt s) u.toNat).open_ = false from ho, show inService (stateOf (elapse dt s) u.toNat) = true from hs,
    Bool.not_true, decide_false, Bool.or_self, Bool.false_eq_true, if_false]
  cases hl : lcnOfCore s u.toNat with
  | none =>
    rw [show lcnOfCore (elapse dt s) u.toNat = none from hl]
    rfl
  | some l =>
    rw [show lcnOfCore (elapse dt s) u.toNat = some l from hl]
    have hfull : (lcnMode (elapse dt s) l == .full) = false := beq_eq_false_iff_ne.mpr (hm l hl)
    simp only [hfull, Bool.false_eq_true, if_false]
    rfl
end

/-! ### REPLAY_GROUP_END (R114, R148) -/

section
variable {s : State} {lcn group : Nat}

/-- An LCN once a group of its stream is closed. -/
def LcnRec.closeGroup (group : Nat) (ok : Bool) (r : LcnRec) : LcnRec :=
  { r with groupEnds := tdel r.groupEnds group, verdicts := r.verdicts.filter (· ≠ group), short := !ok }
/-- The slice's LCNs that lack a verdict. -/
def Slice.noteShort (lcn : Nat) (ok : Bool) (x : Slice) : Slice :=
  { x with short := if ok then x.short.filter (· ≠ lcn) else addHold lcn x.short }
theorem replayGroupEnd_closes (dt : Nat) {a : Nat} {ok : Bool} (ha : tget (lcnRec s lcn).groupEnds group = some a)
    (hat : a ≤ pt (elapse dt s)) (hok : (lcnRec s lcn).verdicts.contains group = ok) :
    exec (.replayGroupEnd dt lcn group) s = .next (refreshBound (sliceOfLcn s lcn) (modSlice (sliceOfLcn s lcn) (Slice.noteShort lcn ok)
      (if ok then modLcn lcn (LcnRec.closeGroup group ok) (elapse dt s)
        else addSobj (sliceOfLcn s lcn) (key 0x2607 9) 1 (modLcn lcn (LcnRec.closeGroup group ok) (elapse dt s))))) := by
  show execReplayGroupEnd dt lcn group s = _
  subst hok
  simp only [execReplayGroupEnd, done, show tget (lcnRec (elapse dt s) lcn).groupEnds group = some a from ha, Nat.not_lt.mpr hat, if_false]
  rfl
theorem replayGroupEnd_spec (dt : Nat) {a : Nat} {x : Slice} (ha : tget (lcnRec s lcn).groupEnds group = some a)
    (hat : a ≤ pt (elapse dt s)) (hx : slice s (sliceOfLcn s lcn) = some x) : ∃ t y, exec (.replayGroupEnd dt lcn group) s = .next t ∧
      slice t (sliceOfLcn s lcn) = some y ∧ lcnRec t lcn = (lcnRec s lcn).closeGroup group ((lcnRec s lcn).verdicts.contains group) ∧
      y.short = (x.noteShort lcn ((lcnRec s lcn).verdicts.contains group)).short ∧
      sobj t (sliceOfLcn s lcn) (key 0x2607 9) 0 = sobj s (sliceOfLcn s lcn) (key 0x2607 9) 0 +
        (if (lcnRec s lcn).verdicts.contains group then 0 else 1) ∧
      (sliceLive x = true → y.boundState = boundStateOf t y) ∧ Touches [.dies, .lcns, .slices] (elapse dt s) t := by
  generalize hok : (lcnRec s lcn).verdicts.contains group = ok
  have hexec := replayGroupEnd_closes dt ha hat hok
  have hu : ∃ z, slice (if ok then modLcn lcn (LcnRec.closeGroup group ok) (elapse dt s)
      else addSobj (sliceOfLcn s lcn) (key 0x2607 9) 1 (modLcn lcn (LcnRec.closeGroup group ok) (elapse dt s))) (sliceOfLcn s lcn) = some z ∧
      z.short = x.short ∧ sliceLive z = sliceLive x ∧
      tgetD z.objs (key 0x2607 9) 0 = tgetD x.objs (key 0x2607 9) 0 + if ok then 0 else 1 := by
    cases ok with
    | true => exact ⟨x, hx, rfl, rfl, rfl⟩
    | false => exact ⟨_, slice_addSobj _ _ (s := modLcn lcn (LcnRec.closeGroup group false) (elapse dt s)) hx, rfl, rfl, tgetD_tmod_same ..⟩
  have hT : Touches [.lcns, .slices] (elapse dt s) (if ok then modLcn lcn (LcnRec.closeGroup group ok) (elapse dt s)
      else addSobj (sliceOfLcn s lcn) (key 0x2607 9) 1 (modLcn lcn (LcnRec.closeGroup group ok) (elapse dt s))) :=
    .mono (by decide) <| .ite (fun _ => touches_modLcn ..) fun _ => .trans (touches_modLcn ..) (touches_modSlice _ _ _ fun _ => by rfl)
  have hl : lcnRec (if ok then modLcn lcn (LcnRec.closeGroup group ok) (elapse dt s)
      else addSobj (sliceOfLcn s lcn) (key 0x2607 9) 1 (modLcn lcn (LcnRec.closeGroup group ok) (elapse dt s))) lcn =
      (lcnRec s lcn).closeGroup group ok := by
    split <;> exact lcnRec_modLcn_same ..
  generalize (if ok then modLcn lcn (LcnRec.closeGroup group ok) (elapse dt s) else _) = u at hexec hu hT hl
  obtain ⟨z, hz, hshort, hlive, hcount⟩ := hu
  have hmod := slice_modSlice_same u (sliceOfLcn s lcn) (Slice.noteShort lcn ok)
  rw [hz, Option.map_some] at hmod
  obtain ⟨b, since, hy, hb⟩ := slice_refreshBound hmod
  have hV := (touches_modSlice u (sliceOfLcn s lcn) (Slice.noteShort lcn ok) fun _ => rfl).trans (touches_refreshBound (sliceOfLcn s lcn) _)
  have hbound := boundStateOf_congr (hV.agrees .modelFlag (by decide)) (z.noteShort lcn ok)
  have hbound' := boundStateOf_congr ((touches_modSlice u (sliceOfLcn s lcn) (Slice.noteShort lcn ok) fun _ => rfl).agrees .modelFlag (by decide))
    (z.noteShort lcn ok)
  refine ⟨_, _, hexec, hy, ?_, ?_, ?_, fun h => ?_, .mono (by decide) (hT.trans hV)⟩
  · rw [lcnRec, show (refreshBound _ _).lcns = u.lcns from hV.agrees .lcns (by decide)]
    exact hl
  · simp only [Slice.noteShort, hshort]
  · rw [sobj_of_slice hy, sobj_of_slice hx]
    exact hcount
  · exact (hb (hlive.trans h)).trans (hbound'.trans hbound.symm)
end
end Sys2Proof.Machine
end

section
/-!
SUPPORT. The ends of tie-breaks and of third executions (R155, R156, R159).
-/
namespace Sys2Proof.Machine
open Sys2Proof

section
variable {s : State} {k lcn n home : Nat} {x : Arbitration}

/-- Each of a list of distinct counts holds what was set for it. -/
theorem tgetD_setAll_mem {l : List (Nat × Nat)} {e : Nat × Nat} (d : Nat) (o : Tab Nat) (hn : (l.map Prod.fst).Nodup) (he : e ∈ l) :
    tgetD (l.foldl (fun o e => tset o e.1 e.2) o) e.1 d = e.2 := by
  induction l generalizing o with
  | nil => exact nomatch he
  | cons a r ih =>
    obtain ⟨ha, hr⟩ := List.nodup_cons.mp hn
    rcases List.mem_cons.mp he with rfl | he
    · refine (tgetD_setAll r _ fun b hb heq => ha (List.mem_map.mpr ⟨b, hb, heq⟩)).trans ?_
      simp
    · exact ih _ hr he
theorem sobj_setSobjs_mem {y : Slice} {l : List (Nat × Nat)} {e : Nat × Nat} (hy : slice s k = some y) (hn : (l.map Prod.fst).Nodup)
    (he : e ∈ l) : sobj (setSobjs k l s) k e.1 0 = e.2 := by
  rw [sobj_of_slice (slice_setSobjs l hy), tgetD_setAll_mem 0 y.objs hn he]
theorem sobj_setSobjs_ne {y : Slice} {l : List (Nat × Nat)} {i : Nat} (hy : slice s k = some y) (hi : ∀ e ∈ l, e.1 ≠ i) :
    sobj (setSobjs k l s) k i 0 = sobj s k i 0 := by
  rw [sobj_of_slice (slice_setSobjs l hy), tgetD_setAll _ _ hi, sobj_of_slice hy]

/-! ### TIE_BREAK_COMPLETE (R102, R155, R156) -/

/-- The outcome of a tie-break: 0 names the original core, 1 the replay core, 2 neither. -/
def tieBreakOut (s : State) (x : Arbitration) (r : RunResult) : Nat :=
  if resultsMatch s x.desc.tile x.replay r then 0 else if resultsMatch s x.desc.tile x.desc.result r then 1 else 2
/-- What the slice shows of its last tie-break. -/
def tieNote (lcn out : Nat) (x : Arbitration) : List (Nat × Nat) :=
  [(key 0x2609 1, lcn), (key 0x2609 2, x.replayCore), (key 0x2609 3, x.desc.progress), (key 0x2609 4, out)]
/-- The tie-break has left its Bridle's table. -/
def closeTieBreak (k lcn n out : Nat) (x : Arbitration) (s : State) : State :=
  setSobjs k (tieNote lcn out x) { s with tieBreaks := tdel s.tieBreaks n }
/-- The payload of a tie-break's record. -/
def tiePayload (out : Nat) (x : Arbitration) (current : List Word64) : List Byte :=
  leBytes 6 x.desc.progress ++ leBytes 4 x.replayCore ++ leBytes 1 out ++ leBytes 2 (if out = 1 then 0 else skippedMask x.desc current)
/-- The tie-break names the original core. -/
def tieOriginal (k lcn home : Nat) (x : Arbitration) (r : RunResult) (current : List Word64) (s : State) : State :=
  raiseSuspect k lcn x.desc.original x.released (reportCause x.desc.original 0x10 0x2601 k (tiePayload 0 x current) [(k, key 0x2609 5)]
    (writeSelected home x.desc r.words current s))
/-- The output of an unchecked original whose tie-break matches it is released. -/
def releaseUnchecked (home : Nat) (x : Arbitration) (r : RunResult) (s : State) : State :=
  if x.desc.unchecked then unpinInputs x.desc.original x.desc.tile (releaseOutputs home x.desc.tile r.words s) else s
/-- The tie-break names the replay core. -/
def tieReplay (k lcn home : Nat) (x : Arbitration) (r : RunResult) (current : List Word64) (s : State) : State :=
  let s := addSobj k (key 0x2607 7) 1 s
  let s := releaseUnchecked home x r (reportCause x.replayCore 0x04 0 k [] [] (raise x.desc.original
    { recordEvent s 0x2601 x.desc.original k (tiePayload 1 x current) with seqKeys := [(k, key 0x2609 5)] } s))
  if coreOf s lcn = some x.desc.original && stateOf s x.desc.original != .quarantined then resumeCore x.desc.original s else s
/-- The tie-break names neither core. -/
def tieNeither (k lcn home out : Nat) (x : Arbitration) (current : List Word64) (s : State) : State :=
  let s := reportCause x.desc.original 0x10 0x2601 k (tiePayload out x current) [(k, key 0x2609 5)]
    (poisonOutputs k home 2 x.desc.tile (unchanged x.desc current) (addSobj k (key 0x2607 8) 1 s))
  raiseSuspect k lcn x.desc.original x.released (raise x.replayCore (recordEvent s 0 x.replayCore k []) s)
/-- What a tie-break brings about. -/
def tieBreakOutcome (k lcn home : Nat) (x : Arbitration) (r : RunResult) (current : List Word64) : Nat → State → State
  | 0, s => tieOriginal k lcn home x r current s
  | 1, s => tieReplay k lcn home x r current s
  | out, s => tieNeither k lcn home out x current s
theorem tieBreakComplete_settles {dt : Nat} {r0 r : RunResult} {u : State} (current : List Word64) {out : Nat} (hu : elapse dt s = u)
    (ho : oldestEntry u.tieBreaks lcn = some (n, x)) (hz : frozen u = false) (hk : sliceOfLcn u lcn = k)
    (hr : formedResult u k x.desc.tile r0 = r) (hout : tieBreakOut u x r = out) :
    exec (.tieBreakComplete dt lcn r0 current) s = .next (tieBreakOutcome k lcn ((coreOf u lcn).getD x.desc.original) x r current out
      (closeTieBreak k lcn n out x u)) := by
  rw [tieBreakOut] at hout
  show execTieBreakComplete dt lcn r0 current s = _
  simp only [execTieBreakComplete, done, hu, hz, Bool.false_eq_true, if_false, ho, hk, hr, hout]
  match out with
  | 0 => simp only [tieBreakOutcome, tieOriginal, closeTieBreak, tieNote, tiePayload]
  | 1 => simp only [tieBreakOutcome, tieReplay, releaseUnchecked, closeTieBreak, tieNote, tiePayload]
  | _ + 2 => simp only [tieBreakOutcome, tieNeither, closeTieBreak, tieNote, tiePayload]

/-- What a tie-break may change. -/
def tieParts : List Part := .tieBreaks :: startParts
theorem touches_closeTieBreak (k lcn n out : Nat) (x : Arbitration) (s : State) :
    Touches [.tieBreaks, .slices] s (closeTieBreak k lcn n out x s) :=
  .trans (L := [.tieBreaks]) (touches_update [.tieBreaks] rfl) (touches_setSobjs ..)
/-- Past its counts a tie-break shows in the slice, and is gone from the table. -/
theorem closeTieBreak_spec {y : Slice} (lcn n out : Nat) (x : Arbitration) (hy : slice s k = some y) :
    (∃ z, slice (closeTieBreak k lcn n out x s) k = some z) ∧ (∀ e ∈ (closeTieBreak k lcn n out x s).tieBreaks, e.1 ≠ n) ∧
      (∀ e ∈ tieNote lcn out x, sobj (closeTieBreak k lcn n out x s) k e.1 0 = e.2) ∧
      ∀ i ∈ [key 0x2607 7, key 0x2607 8], sobj (closeTieBreak k lcn n out x s) k i 0 = sobj s k i 0 := by
  have hy' : slice { s with tieBreaks := tdel s.tieBreaks n } k = some y := hy
  refine ⟨⟨_, slice_setSobjs _ hy'⟩, fun e he => ?_, fun e he => sobj_setSobjs_mem hy' (show [key 0x2609 1, key 0x2609 2, key 0x2609 3,
    key 0x2609 4].Nodup by decide) he, fun i hi => sobj_setSobjs_ne hy' ?_⟩
  · rw [show (closeTieBreak k lcn n out x s).tieBreaks = tdel s.tieBreaks n from (touches_setSobjs ..).agrees .tieBreaks (by decide)] at he
    exact not_mem_tdel e he
  · have hkeys : ∀ j ∈ [key 0x2609 1, key 0x2609 2, key 0x2609 3, key 0x2609 4], ∀ i ∈ [key 0x2607 7, key 0x2607 8], j ≠ i := by decide
    exact fun e he => hkeys e.1 (List.mem_map_of_mem (f := Prod.fst) he) i hi
theorem tieOriginal_spec (k lcn home : Nat) (r : RunResult) (current : List Word64) (hp : aCore s x.desc.original = true) :
    Calm [.dies, .fields, .cores, .clusters, .slices] (fun _ => ()) LcnRec.stream Slice.tally s (tieOriginal k lcn home x r current s) ∧
      Charged (tieOriginal k lcn home x r current s) x.desc.original 0x10 0x2601 := by
  have hwrite := calm_writeSelected (g := fun _ => ()) (h := LcnRec.stream) (τ := Slice.tally) home x.desc r.words current s fun _ _ => rfl
  unfold tieOriginal
  generalize writeSelected home x.desc r.words current s = u at hwrite ⊢
  have hpu := (hwrite.aCore_eq _).trans hp
  have hrep := calm_reportCause (g := fun _ => ()) (h := LcnRec.stream) (τ := Slice.tally) x.desc.original 0x10 0x2601 k
    (tiePayload 0 x current) [(k, key 0x2609 5)] u
  have hcharge := charged_reportCause 0x10 0x2601 k (tiePayload 0 x current) [(k, key 0x2609 5)] hpu
  generalize reportCause _ _ _ _ _ _ u = v at hrep hcharge ⊢
  have hsus := calm_raiseSuspect (g := fun _ => ()) (h := LcnRec.stream) k lcn x.desc.original x.released v
  exact ⟨.mono (by decide) (hwrite.trans (hrep.trans hsus)), hcharge.of_calm hsus ((hrep.aCore_eq _).trans hpu) (by decide)⟩
theorem calm_releaseUnchecked (home : Nat) (x : Arbitration) (r : RunResult) (s : State) :
    Calm startParts (fun _ => ()) LcnRec.stream Slice.tally s (releaseUnchecked home x r s) :=
  .mono (by decide) <| .ite (fun _ => ((calm_releaseOutputs ..).trans (calm_unpinInputs ..)).weaken (fun _ => ()) id id) fun _ => .refl
theorem tieReplay_spec (k lcn home : Nat) (r : RunResult) (current : List Word64) (hp : aCore s x.replayCore = true) :
    Calm startParts (fun _ => ()) LcnRec.stream Slice.tally (addSobj k (key 0x2607 7) 1 s) (tieReplay k lcn home x r current s) ∧
      Charged (tieReplay k lcn home x r current s) x.replayCore 0x04 0 ∧
      (coreOf s lcn = some x.desc.original → stateOf s x.desc.original ≠ .quarantined →
        (core (tieReplay k lcn home x r current s) x.desc.original).withheld = false) := by
  have hadd : Touches [.slices] s (addSobj k (key 0x2607 7) 1 s) := touches_modSlice _ _ _ fun _ => rfl
  have hpa : aCore (addSobj k (key 0x2607 7) 1 s) x.replayCore = true := hp
  unfold tieReplay
  dsimp only
  generalize addSobj k (key 0x2607 7) 1 s = a at hadd hpa ⊢
  have hraise := calm_raise (g := fun _ => ()) (h := LcnRec.stream) (τ := Slice.tally) x.desc.original
    { recordEvent a 0x2601 x.desc.original k (tiePayload 1 x current) with seqKeys := [(k, key 0x2609 5)] } a
  generalize raise x.desc.original _ a = u at hraise ⊢
  have hrep := calm_reportCause (g := fun _ => ()) (h := LcnRec.stream) (τ := Slice.tally) x.replayCore 0x04 0 k [] [] u
  have hpu := (hraise.aCore_eq _).trans hpa
  have hcharge := charged_reportCause 0x04 0 k [] [] hpu
  generalize reportCause _ _ _ _ _ _ u = v at hrep hcharge ⊢
  have hrel := calm_releaseUnchecked home x r v
  generalize releaseUnchecked home x r v = w at hrel ⊢
  have hw := hraise.trans (hrep.trans hrel)
  have hlast : Calm [.lcns, .cores, .clusters, .objs] (fun _ => ()) LcnRec.stream Slice.tally w
      (if coreOf w lcn = some x.desc.original && stateOf w x.desc.original != .quarantined then resumeCore x.desc.original w else w) :=
    .mono (by decide) <| .ite (fun _ => calm_resumeCore ..) fun _ => .refl
  refine ⟨.mono (by decide) (hw.trans hlast), hcharge.of_calm (hrel.trans hlast) ((hrep.aCore_eq _).trans hpu) (by decide), fun hc hq => ?_⟩
  have hT := hadd.trans hw.toTouches
  rw [coreOf_of_touches hT (by decide), stateOf_of_touches hT (by decide), if_pos (by simp [hc, hq])]
  exact withheld_resumeCore ..
theorem tieNeither_spec (k lcn home out : Nat) (current : List Word64) (hp : aCore s x.desc.original = true) :
    Calm [.dies, .fields, .cores, .clusters, .slices] (fun _ => ()) LcnRec.stream Slice.tally (addSobj k (key 0x2607 8) 1 s)
        (tieNeither k lcn home out x current s) ∧
      Charged (tieNeither k lcn home out x current s) x.desc.original 0x10 0x2601 := by
  have hpa : aCore (addSobj k (key 0x2607 8) 1 s) x.desc.original = true := hp
  unfold tieNeither
  dsimp only
  generalize addSobj k (key 0x2607 8) 1 s = a at hpa ⊢
  have hpoison := (calm_poisonOutputs (h := LcnRec.stream) (τ := Slice.tally) k home 2 x.desc.tile (unchanged x.desc current) a).weaken
    (fun _ => ()) id id
  generalize poisonOutputs k home 2 x.desc.tile (unchanged x.desc current) a = u at hpoison ⊢
  have hpu := (hpoison.aCore_eq _).trans hpa
  have hrep := calm_reportCause (g := fun _ => ()) (h := LcnRec.stream) (τ := Slice.tally) x.desc.original 0x10 0x2601 k
    (tiePayload out x current) [(k, key 0x2609 5)] u
  have hcharge := charged_reportCause 0x10 0x2601 k (tiePayload out x current) [(k, key 0x2609 5)] hpu
  generalize reportCause _ _ _ _ _ _ u = v at hrep hcharge ⊢
  have hraise := calm_raise (g := fun _ => ()) (h := LcnRec.stream) (τ := Slice.tally) x.replayCore (recordEvent v 0 x.replayCore k []) v
  have hend := hraise.trans (calm_raiseSuspect k lcn x.desc.original x.released _)
  exact ⟨.mono (by decide) (hpoison.trans (hrep.trans hend)), hcharge.of_calm hend ((hrep.aCore_eq _).trans hpu) (by decide)⟩
end
end Sys2Proof.Machine
end

section
/-!
SUPPORT. Full pairs and their third executions (R157 to R159).
-/
namespace Sys2Proof.Machine
open Sys2Proof

/-! ### THIRD_EXECUTION_COMPLETE (R156, R159) -/

section
variable {s : State} {k lcn n : Nat} {x : Arbitration}

/-- The outcome of a third execution: 0 agrees with the leader, 1 with the follower, 2 with neither. -/
def thirdOut (s : State) (x : Arbitration) (r : RunResult) : Nat :=
  if resultsMatch s x.desc.tile x.desc.result r then 0 else if resultsMatch s x.desc.tile x.replay r then 1 else 2
/-- The cores lent to a third execution go on. -/
def returnLent (l : List Nat) (s : State) : State :=
  l.foldl (fun s q => startHeld q (modHeld q (fun c => { c with stalls := dropHold 3 c.stalls }) s)) s
/-- The third execution has left its Bridle's table. -/
def closeThird (n : Nat) (x : Arbitration) (s : State) : State := returnLent x.borrowed { s with thirds := tdel s.thirds n }
/-- The payload of a third execution's record. -/
def thirdPayload (out : Nat) (x : Arbitration) : List Byte := leBytes 6 x.desc.progress ++ leBytes 4 x.replayCore ++ leBytes 1 out
/-- The leader is in the majority. -/
def thirdLeader (k : Nat) (x : Arbitration) (s : State) : State :=
  let s := releaseOutputs x.desc.original x.desc.tile x.desc.result.words s
  resumeCore x.desc.original (reportCause x.replayCore 0x11 0 k [] [] (raise x.desc.original
    (recordEvent s 0x2602 x.desc.original k (thirdPayload 0 x)) s))
/-- The follower is in the majority. -/
def thirdFollower (k : Nat) (x : Arbitration) (r : RunResult) (current : List Word64) (s : State) : State :=
  resumeCore x.replayCore (reportCause x.desc.original 0x11 0x2602 k (thirdPayload 1 x) []
    (writeSelected x.desc.original x.desc r.words current s))
/-- All three executions differ. -/
def thirdNeither (k out : Nat) (x : Arbitration) (current : List Word64) (s : State) : State :=
  reportCause x.replayCore 0x11 0 k [] [] (reportCause x.desc.original 0x11 0x2602 k (thirdPayload out x) []
    (poisonOutputs k x.desc.original 2 x.desc.tile (unchanged x.desc current) (addSobj k (key 0x2608 2) 1 s)))
/-- What a third execution brings about. -/
def thirdOutcome (k : Nat) (x : Arbitration) (r : RunResult) (current : List Word64) : Nat → State → State
  | 0, s => thirdLeader k x s
  | 1, s => thirdFollower k x r current s
  | out, s => thirdNeither k out x current s
theorem thirdExecutionComplete_settles {dt : Nat} {r0 r : RunResult} {u : State} (current : List Word64) {out : Nat} (hu : elapse dt s = u)
    (ho : oldestEntry u.thirds lcn = some (n, x)) (hz : frozen u = false) (hk : sliceOfLcn u lcn = k)
    (hr : formedResult u k x.desc.tile r0 = r) (hout : thirdOut u x r = out) :
    exec (.thirdExecutionComplete dt lcn r0 current) s = .next (thirdOutcome k x r current out (closeThird n x u)) := by
  rw [thirdOut] at hout
  show execThirdExecutionComplete dt lcn r0 current s = _
  simp only [execThirdExecutionComplete, done, hu, hz, Bool.false_eq_true, if_false, ho, hk, hr, hout]
  match out with
  | 0 => simp only [thirdOutcome, thirdLeader, closeThird, returnLent, thirdPayload]
  | 1 => simp only [thirdOutcome, thirdFollower, closeThird, returnLent, thirdPayload]
  | _ + 2 => simp only [thirdOutcome, thirdNeither, closeThird, returnLent, thirdPayload]

theorem calm_returnLent (l : List Nat) (s : State) : Calm startParts Core.held LcnRec.stream Slice.tally s (returnLent l s) :=
  .foldl (fun _ _ => .mono (by decide) <| .trans (calm_modHeld (by rfl)) (calm_startHeld ..)) _ _
theorem calm_closeThird (n : Nat) (x : Arbitration) (s : State) :
    Calm (.thirds :: startParts) (fun _ => ()) LcnRec.stream Slice.tally s (closeThird n x s) :=
  .mono (by decide) <| .trans (L := [.thirds]) ((touches_update [.thirds] rfl).calm (by decide))
    ((calm_returnLent ..).weaken (fun _ => ()) id id)
theorem thirds_closeThird (n : Nat) (x : Arbitration) (s : State) : (closeThird n x s).thirds = tdel s.thirds n :=
  (calm_returnLent ..).agrees .thirds (by decide)
theorem thirdLeader_spec (k : Nat) (hp : aCore s x.replayCore = true) :
    Touches startParts s (thirdLeader k x s) ∧ Charged (thirdLeader k x s) x.replayCore 0x11 0 ∧
      (core (thirdLeader k x s) x.desc.original).withheld = false := by
  have hrel := (calm_releaseOutputs x.desc.original x.desc.tile x.desc.result.words s).weaken (fun _ => ()) id id
  unfold thirdLeader
  dsimp only
  generalize releaseOutputs x.desc.original x.desc.tile x.desc.result.words s = u at hrel ⊢
  have hraise := calm_raise (g := fun _ => ()) (h := LcnRec.stream) (τ := Slice.tally) x.desc.original
    (recordEvent u 0x2602 x.desc.original k (thirdPayload 0 x)) u
  generalize raise x.desc.original _ u = v at hraise ⊢
  have hpv := ((hrel.trans hraise).aCore_eq _).trans hp
  have hrep := calm_reportCause (g := fun _ => ()) (h := LcnRec.stream) (τ := Slice.tally) x.replayCore 0x11 0 k [] [] v
  have hcharge := charged_reportCause 0x11 0 k [] [] hpv
  generalize reportCause _ _ _ _ _ _ v = w at hrep hcharge ⊢
  have hres := calm_resumeCore (τ := Slice.tally) x.desc.original w
  exact ⟨.mono (by decide) (hrel.trans (hraise.trans (hrep.trans hres))).toTouches,
    hcharge.of_calm hres ((hrep.aCore_eq _).trans hpv) (by decide), withheld_resumeCore ..⟩
theorem thirdFollower_spec (k : Nat) (r : RunResult) (current : List Word64) (hp : aCore s x.desc.original = true) :
    Touches startParts s (thirdFollower k x r current s) ∧ Charged (thirdFollower k x r current s) x.desc.original 0x11 0x2602 ∧
      (core (thirdFollower k x r current s) x.replayCore).withheld = false := by
  have hwrite := calm_writeSelected (g := fun _ => ()) (h := LcnRec.stream) (τ := Slice.tally) x.desc.original x.desc r.words current s
    fun _ _ => rfl
  unfold thirdFollower
  generalize writeSelected x.desc.original x.desc r.words current s = u at hwrite ⊢
  have hpu := (hwrite.aCore_eq _).trans hp
  have hrep := calm_reportCause (g := fun _ => ()) (h := LcnRec.stream) (τ := Slice.tally) x.desc.original 0x11 0x2602 k (thirdPayload 1 x) [] u
  have hcharge := charged_reportCause 0x11 0x2602 k (thirdPayload 1 x) [] hpu
  generalize reportCause _ _ _ _ _ _ u = w at hrep hcharge ⊢
  have hres := calm_resumeCore (τ := Slice.tally) x.replayCore w
  exact ⟨.mono (by decide) (hwrite.trans (hrep.trans hres)).toTouches,
    hcharge.of_calm hres ((hrep.aCore_eq _).trans hpu) (by decide), withheld_resumeCore ..⟩
theorem thirdNeither_spec (k out : Nat) (current : List Word64) (ha : aCore s x.desc.original = true) (hb : aCore s x.replayCore = true) :
    Calm [.dies, .fields, .cores, .clusters] (fun _ => ()) LcnRec.stream Slice.tally (addSobj k (key 0x2608 2) 1 s)
        (thirdNeither k out x current s) ∧
      Charged (thirdNeither k out x current s) x.desc.original 0x11 0x2602 ∧ Charged (thirdNeither k out x current s) x.replayCore 0x11 0 := by
  have ha' : aCore (addSobj k (key 0x2608 2) 1 s) x.desc.original = true := ha
  have hb' : aCore (addSobj k (key 0x2608 2) 1 s) x.replayCore = true := hb
  unfold thirdNeither
  generalize addSobj k (key 0x2608 2) 1 s = a at ha' hb' ⊢
  have hpoison := (calm_poisonOutputs (h := LcnRec.stream) (τ := Slice.tally) k x.desc.original 2 x.desc.tile (unchanged x.desc current) a).weaken
    (fun _ => ()) id id
  generalize poisonOutputs k x.desc.original 2 x.desc.tile (unchanged x.desc current) a = u at hpoison ⊢
  have hau := (hpoison.aCore_eq _).trans ha'
  have hrep := calm_reportCause (g := fun _ => ()) (h := LcnRec.stream) (τ := Slice.tally) x.desc.original 0x11 0x2602 k (thirdPayload out x) [] u
  have hcharge := charged_reportCause 0x11 0x2602 k (thirdPayload out x) [] hau
  generalize reportCause _ _ _ _ _ _ u = v at hrep hcharge ⊢
  have hlast := calm_reportCause (g := fun _ => ()) (h := LcnRec.stream) (τ := Slice.tally) x.replayCore 0x11 0 k [] [] v
  exact ⟨.mono (by decide) (hpoison.trans (hrep.trans hlast)), hcharge.of_calm hlast ((hrep.aCore_eq _).trans hau) (by decide),
    charged_reportCause 0x11 0 k [] [] (((hpoison.trans hrep).aCore_eq _).trans hb')⟩
end

/-! ### FULL_PAIR_TILE_END (R105, R157 to R159) -/

section
variable {s : State} {lcn a b start : Nat} {tile : Tile}

/-- What the end of a tile of a pair may change. -/
def pairParts : List Part := [.free, .lcns, .cores, .clusters, .views]
/-- The count of an LCN of a pair once it has ended a tile in Full. -/
def LcnRec.endPair (kind : TileKind) (r : LcnRec) : Nat :=
  if inStream .full kind then (r.progress + 1) % 2 ^ 64 else r.progress
theorem endPairTile_spec (l p : Nat) (x : Tile) (s : State) : Touches pairParts s (endPairTile l p x s) ∧
    (lcnRec (endPairTile l p x s) l).progress = (lcnRec s l).endPair x.kind ∧
    ∀ j, j ≠ l → lcnRec (endPairTile l p x s) j = lcnRec s j := by
  unfold endPairTile
  dsimp only [takeNat]
  have hfree : Touches [.free] s { s with free := s.free + 1 } := touches_update [.free] rfl
  have hlcn : ∀ j, lcnRec { s with free := s.free + 1 } j = lcnRec s j := fun _ => rfl
  generalize { s with free := s.free + 1 } = u at hfree hlcn
  obtain ⟨hcalm, -⟩ := ended_spec (h := id) (τ := Slice.tally) p (isContraction x.kind) (Config.freeNat s.free % 2 ^ 26) u
  generalize countTile p (isContraction x.kind) (Config.freeNat s.free % 2 ^ 26) (leaveTile p u) = v at hcalm ⊢
  have hv : ∀ j, lcnRec v j = lcnRec s j := fun j => (hcalm.lcns j).trans (hlcn j)
  refine ⟨.mono (by decide) (hfree.trans (hcalm.toTouches.trans (touches_modLcn ..))), ?_, fun j hj => ?_⟩
  · rw [lcnRec_modLcn_same, hv]
    rfl
  · rw [lcnRec_modLcn_ne _ _ hj, hv]
/-- Both cores of the pair have ended the tile. -/
def pairEnded (k lcn a b : Nat) (x : Tile) (s : State) : State :=
  if x.kind = .ineligible then countIneligible k .full (endPairTile (lcn + 1) b x (endPairTile lcn a x s))
  else endPairTile (lcn + 1) b x (endPairTile lcn a x s)
/-- What the leader's Core Port has seen of a tile whose executions differ. -/
def pairDescriptor (k lcn a start : Nat) (x : Tile) (r : RunResult) (s : State) : Descriptor where
  lcn := lcn
  progress := (lcnRec s lcn).progress
  group := none
  original := a
  tile := x
  epoch := epochAt s k start
  result := r
  endPt := pt s
  unchecked := false
  attempt := 0
  stale := false
/-- The third execution of a pair starts on the spare, the adoptive core or the leader of another pair, which is held. -/
def startThird (lcn b : Nat) (d : Descriptor) (follower : RunResult) (s : State) : State :=
  let ck := puaClusterKey d.original
  let other := (otherLeaders s lcn).head?
  let free := (freeSpare s ck).or (cluster s ck).adoptive
  let borrowed := if free.isSome then none else other
  let third := (free.or (other.map (·.1))).getD d.original
  let lent := (borrowed.map fun c => [c.1, c.2]).getD []
  let s := lent.foldl (fun s q => modHeld q (fun c => { c with stalls := addHold 3 c.stalls }) s) s
  let x : Arbitration := { desc := d, replay := follower, replayCore := b, core := third, released := none, borrowed := lent }
  { s with thirds := tset s.thirds (nextEntry s.thirds lcn) x }
/-- A mismatch withholds both cores of the pair. -/
def withholdPair (k a b : Nat) (x : Tile) (leader : RunResult) (s : State) : State :=
  let s := addSobj k (key 0x2608 1) 1 s
  let s := raise a { recordEvent s 0 a k [] with detected := detectionHour s } s
  interruptCore b (interruptCore a (storeOutputs a x leader.words false s))
theorem fullPairTileEnd_ends {dt : Nat} {l0 f0 leader follower : RunResult} {other : Nat × Tile} {u : State} {k : Nat}
    (hu : elapse dt s = u) (hp : pairCores u lcn = some (a, b)) (ha : (core u a).tile = some (start, tile))
    (hb : (core u b).tile = some other) (hm : tile.kind ≠ .move) (hk : sliceOfLcn u lcn = k) (hl : formedResult u k tile l0 = leader)
    (hf : formedResult u k tile f0 = follower) : exec (.fullPairTileEnd dt lcn l0 f0) s = .next
      (if resultsMatch (pairEnded k lcn a b tile u) tile leader follower then
        startHeld b (releaseOutputs a tile leader.words (pairEnded k lcn a b tile u))
      else startThird lcn b (pairDescriptor k lcn a start tile leader u) follower
        (withholdPair k a b tile leader (pairEnded k lcn a b tile u))) := by
  show execFullPairTileEnd dt lcn l0 f0 s = _
  simp only [execFullPairTileEnd, done, hu, hp, ha, hb, hm, if_false, hk, hl, hf, pairEnded, startThird, withholdPair, pairDescriptor]
  rfl

theorem pairEnded_spec (k lcn a b : Nat) (x : Tile) (s : State) {y : Slice} (hy : slice s k = some y) :
    Touches (.dies :: .slices :: pairParts) s (pairEnded k lcn a b x s) ∧
      (∀ l ∈ [lcn, lcn + 1], (lcnRec (pairEnded k lcn a b x s) l).progress = (lcnRec s l).endPair x.kind) ∧
      (∃ z, slice (pairEnded k lcn a b x s) k = some z) ∧
      sobj (pairEnded k lcn a b x s) k (key 0x2608 1) 0 = sobj s k (key 0x2608 1) 0 := by
  obtain ⟨hT, hsame, hkeep⟩ := endPairTile_spec lcn a x s
  unfold pairEnded
  generalize endPairTile lcn a x s = u at hT hsame hkeep ⊢
  obtain ⟨hT', hsame', hkeep'⟩ := endPairTile_spec (lcn + 1) b x u
  generalize endPairTile (lcn + 1) b x u = v at hT' hsame' hkeep' ⊢
  have hv := hT.trans hT'
  have hslice := slice_of_touches hv (by decide) k
  have hprog : ∀ l ∈ [lcn, lcn + 1], (lcnRec v l).progress = (lcnRec s l).endPair x.kind := fun l hl => by
    obtain rfl | rfl : l = lcn ∨ l = lcn + 1 := by simpa using hl
    · rw [hkeep' l (by omega), hsame]
    · rw [hsame', hkeep _ (by omega)]
  split
  · have hc := touches_countIneligible k .full v
    have hfull : countIneligible k .full v = addSobj k (key 0x2409 1) 1 v := by simp only [countIneligible, signPairs, if_true]
    refine ⟨.mono (by decide) (hv.trans hc), fun l hl => ?_, hfull ▸ ⟨_, slice_addSobj _ _ (hslice.trans hy)⟩, ?_⟩
    · rw [lcnRec, show (countIneligible k .full v).lcns = v.lcns from hc.agrees .lcns (by decide)]
      exact hprog l hl
    · rw [hfull, sobj_addSobj_ne _ _ _ _ (by decide), sobj_of_slice (hslice.trans hy), sobj_of_slice hy]
  · exact ⟨.mono (by decide) hv, hprog, ⟨y, hslice.trans hy⟩, by rw [sobj_of_slice (hslice.trans hy), sobj_of_slice hy]⟩
theorem startThird_spec (lcn b : Nat) (d : Descriptor) (follower : RunResult) (s : State) :
    Calm [.thirds, .cores, .clusters] Core.withheld LcnRec.stream Slice.tally s (startThird lcn b d follower s) ∧
      ∃ e ∈ (startThird lcn b d follower s).thirds, e.2.desc = d ∧ e.2.replayCore = b := by
  refine ⟨?_, _, mem_of_tget (tget_tset_same ..), rfl, rfl⟩
  exact .mono (by decide) <| .trans (L := [.cores, .clusters]) (.foldl (fun _ _ => calm_modHeld (by rfl)) _ _)
    ((touches_update [.thirds] rfl).calm (by decide))
theorem withholdPair_spec (k a b : Nat) (x : Tile) (leader : RunResult) (s : State) :
    Calm [.dies, .fields, .cores, .clusters] (fun _ => ()) LcnRec.stream Slice.tally (addSobj k (key 0x2608 1) 1 s)
        (withholdPair k a b x leader s) ∧
      (core (withholdPair k a b x leader s) a).withheld = true ∧ (core (withholdPair k a b x leader s) b).withheld = true := by
  unfold withholdPair
  dsimp only
  generalize addSobj k (key 0x2608 1) 1 s = u
  have hraise := calm_raise (g := fun _ => ()) (h := LcnRec.stream) (τ := Slice.tally) a
    { recordEvent u 0 a k [] with detected := detectionHour u } u
  generalize raise a _ u = v at hraise ⊢
  have hstore := calm_storeOutputs (g := fun _ => ()) (h := LcnRec.stream) (τ := Slice.tally) a x leader.words false v fun _ _ => rfl
  generalize storeOutputs a x leader.words false v = w at hstore ⊢
  have hint := ((calm_interruptCore (h := LcnRec.stream) (τ := Slice.tally) a w).trans (calm_interruptCore b _)).weaken (fun _ => ()) id id
  obtain ⟨hb, hkeep⟩ := withheld_interruptCore b (interruptCore a w)
  exact ⟨.mono (by decide) (hraise.trans (hstore.trans hint)), hkeep a (withheld_interruptCore a w).1, hb⟩
end
end Sys2Proof.Machine
end

section
/-!
SUPPORT. The ends of replays (R139, R148, R155, R156).
-/
namespace Sys2Proof.Machine
open Sys2Proof

/-- The count of a slice's verdicts by replays. -/
def Slice.verdictCount (x : Slice) : Nat := tgetD x.objs (key 0x2607 1) 0
/-- Whether a replay is stale (R153, R182). -/
def isStale (d : Descriptor) (fetched : List Word64) : Bool :=
  d.stale || decide (fetched ≠ inputWords d.tile) || fetched.any wordPoison
/-- A replay leaves its core's queue. -/
def takeReplay (rc : Nat) (d : Descriptor) (s : State) : State :=
  spareMove rc (modCore rc (fun c => { c with queue := c.queue.erase d }) s)
/-- The LCN once a replay has given the verdict on its group. -/
def LcnRec.noteVerdict (d : Descriptor) (r : LcnRec) : LcnRec :=
  match d.group with
  | some g => { r with verdicts := addHold g r.verdicts }
  | none => r
/-- What a stale replay leads to: an unchecked execution is replayed again, a sample is made up for. -/
def redoReplay (lcn : Nat) (d : Descriptor) (s : State) : State :=
  if d.unchecked && !d.stale then orderImmediate (puaClusterKey d.original) d s
  else if d.group.isNone then s
  else modLcn lcn (fun r => { r with makeUp := true }) s
/-- What a replay that is not stale leads to. -/
def judgeReplay (d : Descriptor) (rc : Nat) (r : RunResult) (s : State) : State :=
  if resultsMatch s d.tile d.result r then replayMatches d s else replayDiffers d rc r s

section
variable {α β γ : Type} {S L : List Part} {g : Core → α} {h : LcnRec → β} {τ : Slice → γ} {s t u : State}

/-! ### Which replay ends (R148) -/

/-- Where each step keeps its value or takes the element, the last value is the first one or an element. -/
theorem foldl_keep_or_take {ι : Type} {f : Option ι → ι → Option ι} (hf : ∀ b x, f b x = b ∨ f b x = some x) (l : List ι) (b : Option ι)
    {y : ι} (hy : l.foldl f b = some y) : b = some y ∨ y ∈ l := by
  induction l generalizing b with
  | nil => exact .inl hy
  | cons a r ih =>
    rcases ih _ hy with hb | hr
    · rcases hf b a with he | he
      · exact .inl (he ▸ hb)
      · exact .inr (Option.some.inj (he.symm.trans hb) ▸ List.mem_cons_self)
    · exact .inr (List.mem_cons_of_mem a hr)
theorem endingReplay_lcn {lcn rc : Nat} {d : Descriptor} (he : endingReplay s lcn = some (rc, d)) : d.lcn = lcn := by
  unfold endingReplay at he
  have hmem := (foldl_keep_or_take (fun b x => ?_) _ none he).resolve_left nofun
  · split at hmem
    · exact nomatch hmem
    · simp only [List.mem_flatMap, List.mem_map, List.mem_filter, decide_eq_true_eq] at hmem
      obtain ⟨e, -, d', ⟨-, hd⟩, heq⟩ := hmem
      exact (Prod.mk.inj heq).2 ▸ hd
  · split
    · exact .inr rfl
    · split
      · exact .inr rfl
      · exact .inl rfl

/-! ### What the parts of a replay's end leave -/

theorem Calm.verdictCount_eq (c : Calm S g h Slice.verdictCount s t) (k : Nat) :
    sobj t k (key 0x2607 1) 0 = sobj s k (key 0x2607 1) 0 := by
  have := c.slices k
  unfold sobj
  cases hs : slice s k with
  | none =>
    rw [hs, Option.map_none, Option.map_eq_none_iff] at this
    rw [this]
  | some x =>
    obtain ⟨y, hy, hxy⟩ := c.slice_some hs
    rw [hy]
    exact hxy
theorem Calm.verdictCount (c : Calm S g h Slice.tally s t) : Calm S (fun _ => ()) h Slice.verdictCount s t :=
  c.weaken (fun _ => ()) id fun x => x.1.getD 4 0
theorem calm_addSobj_verdictCount (k n : Nat) {i : Nat} (hi : key 0x2607 1 ≠ i) : Calm [.slices] g h Slice.verdictCount s (addSobj k i n s) :=
  calm_modSlice (fun _ => by rfl) fun _ => by simp only [Slice.verdictCount, tgetD_tmod_ne _ _ _ _ hi]
theorem calm_takeReplay (rc : Nat) (d : Descriptor) (s : State) : Calm [.cores, .units] Core.firm h τ s (takeReplay rc d s) :=
  .mono (by decide) <| .trans (calm_modCore (by rfl)) (calm_spareMove ..)
theorem verdicts_noteVerdict (d : Descriptor) (r : LcnRec) : ∀ g, d.group = some g → g ∈ (r.noteVerdict d).verdicts := by
  intro g hg
  simp [LcnRec.noteVerdict, hg, mem_addHold]
theorem lastMatch_noteVerdict (d : Descriptor) (r : LcnRec) : (r.noteVerdict d).lastMatch = r.lastMatch := by
  unfold LcnRec.noteVerdict
  split <;> rfl
theorem calm_redoReplay (lcn : Nat) (d : Descriptor) (s : State) :
    Calm (.lcns :: sendParts) Core.firm LcnRec.verdicts Slice.tally s (redoReplay lcn d s) :=
  .mono (by decide) <| .ite (fun _ => calm_orderImmediate ..) fun _ => .ite (fun _ => .refl) fun _ => calm_modLcn (by rfl)
theorem makeUp_redoReplay (lcn : Nat) {d : Descriptor} (s : State) (hu : d.unchecked = false) (hg : d.group ≠ none) :
    (lcnRec (redoReplay lcn d s) lcn).makeUp = true := by
  rw [redoReplay, if_neg (by simp [hu]), if_neg (by simpa using hg), lcnRec_modLcn_same]

/-! ### A replay that matches (R139, R156) -/

theorem calm_noteMatch (d : Descriptor) (s : State) : Calm [.lcns] g LcnRec.verdicts τ s (noteMatch d s) := by
  refine .mono (by decide) <| .ite (fun _ => .refl) fun _ => calm_modLcn ?_
  split <;> rfl
theorem lastMatch_noteMatch {d : Descriptor} (hc : coreOf s d.lcn = some d.original) (hg : d.group ≠ none)
    (hl : (lcnRec s d.lcn).lastMatch = none) : (lcnRec (noteMatch d s) d.lcn).lastMatch = some (d.progress, d.endPt) := by
  have hsome : d.group.isSome = true := Option.isSome_iff_ne_none.mpr hg
  rw [noteMatch, if_neg (by simp [hc, hsome]), lcnRec_modLcn_same, hl]
  rfl
/-- What the end of a replay may change. -/
def replayParts : List Part := .units :: .recomputes :: .tieBreaks :: startParts
theorem calm_replayMatches (d : Descriptor) (s : State) : Calm replayParts (fun _ => ()) LcnRec.verdicts Slice.tally
    (addSobj (sliceOfLcn s d.lcn) (key 0x2607 2) 1 s) (replayMatches d s) := by
  unfold replayMatches
  dsimp only
  generalize addSobj (sliceOfLcn s d.lcn) (key 0x2607 2) 1 s = u
  refine .mono (L := [.lcns] ++ replayParts) (by decide) <| .ite (fun _ => calm_noteMatch ..) fun _ => ?_
  refine .mono (L := replayParts ++ replayParts) (by decide) <| .ite (fun _ => ?_) fun _ => ?_
  · exact .mono (by decide) <| .trans (((calm_releaseOutputs ..).trans (calm_unpinInputs ..)).weaken (fun _ => ()) LcnRec.verdicts id) <|
      .trans (calm_noteMatch ..) (calm_noteReleased _ _ _ fun _ _ => by rfl)
  · split
    · exact .mono (by decide) <| .trans (((calm_endRecompute ..).trans (calm_releaseOutputs ..)).weaken (fun _ => ()) LcnRec.verdicts id) <|
        calm_noteReleased _ _ _ fun _ _ => by rfl
    · exact .mono (by decide) .refl

/-! ### A replay that differs (R139, R155) -/

theorem nextAttempt_cases (n lcn : Nat) (x : Recompute) (s : State) :
    (∃ y, nextAttempt n lcn x s = addSobj (sliceOfLcn s lcn) (key 0x2506 4) 1 (setRecompute n y s)) ∨
      nextAttempt n lcn x s = poisonOutputs (sliceOfLcn s lcn) x.original 2 x.tile (fun _ => true)
        (addSobj (sliceOfLcn s lcn) (key 0x2506 5) 1 (endRecompute n x s)) := by
  unfold nextAttempt
  split
  · exact .inl ⟨_, rfl⟩
  · exact .inl ⟨_, rfl⟩
  · exact .inr rfl
theorem calm_nextAttempt (n lcn : Nat) (x : Recompute) (s : State) :
    Calm (.recomputes :: startParts) (fun _ => ()) LcnRec.verdicts Slice.verdictCount s (nextAttempt n lcn x s) := by
  rcases nextAttempt_cases n lcn x s with ⟨y, hy⟩ | hy
  · exact hy ▸ .mono (by decide) (.trans (L := [.recomputes]) ((touches_setRecompute ..).calm (by decide))
      (calm_addSobj_verdictCount _ _ (by decide)))
  · rw [hy]
    exact .mono (by decide) <| .trans ((calm_endRecompute n x s).verdictCount.weaken id LcnRec.verdicts id) <|
      .trans (calm_addSobj_verdictCount _ _ (by decide)) ((calm_poisonOutputs ..).weaken (fun _ => ()) id id)
theorem startTieBreak_spec {d : Descriptor} (rc : Nat) (r : RunResult) (s : State) :
    Calm [.dies, .fields, .cores, .clusters, .tieBreaks] (fun _ => ()) LcnRec.verdicts Slice.tally s (startTieBreak d rc r s) ∧
      (∃ e ∈ (startTieBreak d rc r s).tieBreaks, e.2.desc = d ∧ e.2.replay = r ∧ e.2.replayCore = rc) ∧
      (coreOf s d.lcn = some d.original → core (startTieBreak d rc r s) d.original = (core s d.original).interrupt s.now) := by
  have hraise := calm_raise (g := fun c => c) (h := LcnRec.verdicts) (τ := Slice.tally) d.original
    { recordEvent s 0 d.original (sliceOfLcn s d.lcn) [] with detected := detectionHour s } s
  refine ⟨?_, ⟨_, mem_of_tget (tget_tset_same ..), rfl, rfl, rfl⟩, fun hc => ?_⟩
  · unfold startTieBreak
    dsimp only
    generalize raise d.original _ s = u at hraise ⊢
    have hint : Calm [.cores, .clusters] (fun _ => ()) LcnRec.verdicts Slice.tally u
        (if coreOf u d.lcn = some d.original then interruptCore d.original u else u) :=
      .mono (by decide) <| .ite (fun _ => (calm_interruptCore ..).weaken (fun _ => ()) id id) fun _ => .refl
    exact .mono (by decide) <| (hraise.weaken (fun _ => ()) id id).trans (hint.trans (L := [.cores, .clusters]) (S := [.tieBreaks])
      ((touches_update [.tieBreaks] rfl).calm (by decide)))
  · unfold startTieBreak
    dsimp only
    generalize raise d.original _ s = u at hraise ⊢
    have hcu := (coreOf_of_touches hraise.toTouches (by decide) d.lcn).trans hc
    rw [if_pos hcu]
    refine (core_interruptCore d.original u).trans ?_
    rw [hraise.cores, show u.now = s.now from hraise.agrees .now (by decide)]
theorem calm_replayDiffers (d : Descriptor) (rc : Nat) (r : RunResult) (s : State) :
    Calm replayParts (fun _ => ()) LcnRec.verdicts Slice.verdictCount s (replayDiffers d rc r s) := by
  unfold replayDiffers
  dsimp only
  refine .mono (L := replayParts ++ replayParts) (by decide) <| .ite (fun _ => ?_) fun _ => ?_
  · split
    · exact .mono (by decide) (.trans (calm_raise ..) (calm_nextAttempt ..))
    · exact .mono (by decide) .refl
  · exact .mono (by decide) <| (calm_addSobj_verdictCount _ _ (by decide)).trans (startTieBreak_spec rc r _).1.verdictCount
theorem replayDiffers_of_checked {d : Descriptor} (rc : Nat) (r : RunResult) (s : State) (hu : d.unchecked = false) :
    replayDiffers d rc r s = startTieBreak d rc r (addSobj (sliceOfLcn s d.lcn) (key 0x2607 3) 1 s) := by
  simp only [replayDiffers, hu, Bool.false_and, Bool.false_eq_true, if_false]
theorem calm_judgeReplay (d : Descriptor) (rc : Nat) (r : RunResult) (s : State) :
    Calm replayParts (fun _ => ()) LcnRec.verdicts Slice.verdictCount s (judgeReplay d rc r s) :=
  .mono (by decide) <| .ite (fun _ => (calm_addSobj_verdictCount (sliceOfLcn s d.lcn) 1 (i := key 0x2607 2) (by decide)).trans
    (calm_replayMatches d s).verdictCount) fun _ => calm_replayDiffers ..
end

/-! ### REPLAY_COMPLETE (R148, R153 to R155, R182) -/

section
variable {dt lcn rc k : Nat} {fetched : List Word64} {d : Descriptor} {r0 r : RunResult} {s u : State} {x : Slice}

theorem replayComplete_stale (hu : elapse dt s = u) (he : endingReplay u lcn = some (rc, d)) (ht : (core u rc).test = none)
    (hk : sliceOfLcn u lcn = k) (hs : isStale d fetched = true) : exec (.replayComplete dt lcn fetched r0) s =
      .next (refillQueues (redoReplay lcn d (addSobj k (key 0x2607 4) 1 (takeReplay rc d u)))) := by
  rw [isStale] at hs
  show execReplayComplete dt lcn fetched r0 s = _
  simp only [execReplayComplete, done, hu, he, ht, Option.isSome_none, Bool.false_eq_true, if_false, hk, hs, if_true]
  rfl
theorem replayComplete_judged (hu : elapse dt s = u) (he : endingReplay u lcn = some (rc, d)) (ht : (core u rc).test = none)
    (hk : sliceOfLcn u lcn = k) (hr : formedResult u k d.tile r0 = r) (hs : isStale d fetched = false) :
    exec (.replayComplete dt lcn fetched r0) s = .next (refillQueues (judgeReplay d rc r
      (modLcn lcn (LcnRec.noteVerdict d) (addSobj k (key 0x2607 1) 1 (takeReplay rc d u))))) := by
  rw [isStale] at hs
  show execReplayComplete dt lcn fetched r0 s = _
  simp only [execReplayComplete, done, hu, he, ht, Option.isSome_none, Bool.false_eq_true, if_false, hk, hr, hs]
  rfl
theorem isStale_eq_false (h1 : d.stale = false) (h2 : fetched = inputWords d.tile) (h3 : ∀ w ∈ fetched, wordPoison w = false) :
    isStale d fetched = false := by
  simp only [isStale, h1, h2, ne_eq, not_true_eq_false, decide_false, Bool.or_self, Bool.false_or, List.any_eq_false, Bool.not_eq_true]
  exact h2 ▸ h3
theorem isStale_of_ne (h : fetched ≠ inputWords d.tile) : isStale d fetched = true := by
  simp [isStale, h]
/-- What the whole command may change. -/
def replayEndParts : List Part := [.shapes, .stops, .dies, .fields, .units, .lcns, .cores, .clusters, .slices, .recomputes, .tieBreaks,
  .turn, .objs]
/-- The verdict of a replay that is not stale is counted before it is judged. -/
theorem replayComplete_counted (hu : elapse dt s = u) (he : endingReplay u lcn = some (rc, d)) (ht : (core u rc).test = none)
    (hk : sliceOfLcn u lcn = k) (hr : formedResult u k d.tile r0 = r) (hs : isStale d fetched = false) (hx : slice u k = some x) :
    ∃ v, exec (.replayComplete dt lcn fetched r0) s = .next (refillQueues (judgeReplay d rc r v)) ∧
      Touches [.cores, .units, .slices, .lcns] u v ∧ (∃ y, slice v k = some y) ∧
      sobj v k (key 0x2607 1) 0 = sobj u k (key 0x2607 1) 0 + 1 ∧
      (∀ i ∈ [key 0x2607 2, key 0x2607 3], sobj v k i 0 = sobj u k i 0) ∧ (∀ g, d.group = some g → g ∈ (lcnRec v lcn).verdicts) ∧
      (lcnRec v lcn).lastMatch = (lcnRec u lcn).lastMatch ∧ ∀ p, (core v p).withheld = (core u p).withheld := by
  have hexec := replayComplete_judged (fetched := fetched) hu he ht hk hr hs
  have htake := calm_takeReplay (h := LcnRec.lastMatch) (τ := Slice.tally) rc d u
  generalize takeReplay rc d u = w at hexec htake
  have hnote : Calm [.lcns] Core.firm LcnRec.lastMatch Slice.tally (addSobj k (key 0x2607 1) 1 w)
    (modLcn lcn (LcnRec.noteVerdict d) (addSobj k (key 0x2607 1) 1 w)) := calm_modLcn (lastMatch_noteVerdict ..)
  obtain ⟨y, hy, -⟩ := htake.slice_some hx
  have hkeys : ∀ i ∈ [key 0x2607 2, key 0x2607 3], i ∈ verdictKeys ∧ i ≠ key 0x2607 1 := by decide
  refine ⟨_, hexec, .mono (by decide) (htake.toTouches.trans ((touches_addSobj ..).trans hnote.toTouches)), ⟨_, slice_addSobj _ _ hy⟩,
    htake.sobj_succ hnote hx (by decide), fun i hi => ?_, fun g hg => ?_, (hnote.lcns lcn).trans (htake.lcns lcn), fun p => ?_⟩
  · rw [hnote.sobj_eq k (hkeys i hi).1, sobj_addSobj_ne _ _ _ _ (hkeys i hi).2, htake.sobj_eq k (hkeys i hi).1]
  · rw [lcnRec_modLcn_same]
    exact verdicts_noteVerdict d _ g hg
  · exact (congrArg Core.withheld (htake.cores p) :)
/-- Past the judgement the waiting replays go on: what the verdict has made of counts, LCN and withheld cores stands. -/
theorem refilled_spec {z : State} (hz : Calm (.units :: startParts) Core.held LcnRec.stream Slice.tally z t) (l p : Nat) :
    (lcnRec t l).verdicts = (lcnRec z l).verdicts ∧ (lcnRec t l).lastMatch = (lcnRec z l).lastMatch ∧
      (lcnRec t l).makeUp = (lcnRec z l).makeUp ∧ (core t p).withheld = (core z p).withheld ∧
      ((core z p).withheld = true → (core t p).tile = (core z p).tile) ∧ t.tieBreaks = z.tieBreaks := by
  have hl := hz.lcns l
  have hc := hz.cores p
  have hw : (core t p).withheld = (core z p).withheld := congrArg (fun x => x.2.2.1) hc
  refine ⟨(congrArg LcnRec.verdicts hl :), (congrArg LcnRec.lastMatch hl :), (congrArg LcnRec.makeUp hl :), hw, fun h => ?_,
    hz.agrees .tieBreaks (by decide)⟩
  have htile : (if (core t p).withheld then (core t p).tile else none) = if (core z p).withheld then (core z p).tile else none :=
    congrArg (fun x => x.2.2.2) hc
  rwa [if_pos (hw.trans h), if_pos h] at htile
theorem replayComplete_same (hu : elapse dt s = u) (he : endingReplay u lcn = some (rc, d)) (ht : (core u rc).test = none)
    (hk : sliceOfLcn u lcn = k) (hr : formedResult u k d.tile r0 = r) (hs : isStale d fetched = false) (hx : slice u k = some x) :
    ∃ t, exec (.replayComplete dt lcn fetched r0) s = .next t ∧ sobj t k (key 0x2607 1) 0 = sobj u k (key 0x2607 1) 0 + 1 ∧
      (∀ g, d.group = some g → g ∈ (lcnRec t lcn).verdicts) ∧
      (resultsMatch u d.tile d.result r = true → sobj t k (key 0x2607 2) 0 = sobj u k (key 0x2607 2) 0 + 1 ∧
        (d.unchecked = false → d.group ≠ none → coreOf u lcn = some d.original → (lcnRec u lcn).lastMatch = none →
          (lcnRec t lcn).lastMatch = some (d.progress, d.endPt))) ∧
      (resultsMatch u d.tile d.result r = false → d.unchecked = false → sobj t k (key 0x2607 3) 0 = sobj u k (key 0x2607 3) 0 + 1 ∧
        (∃ e ∈ t.tieBreaks, e.2.desc = d ∧ e.2.replay = r ∧ e.2.replayCore = rc) ∧
        (coreOf u lcn = some d.original → (core t d.original).withheld = true ∧
          ((core u d.original).withheld = false → (core t d.original).tile = none))) ∧
      Touches replayEndParts u t := by
  obtain ⟨v, hexec, hT, ⟨y, hy⟩, hone, hother, hverdicts, hlast, hwithheld⟩ :=
    replayComplete_counted (fetched := fetched) hu he ht hk hr hs hx
  obtain rfl := endingReplay_lcn he
  have hkv : sliceOfLcn v d.lcn = k := (sliceOfLcn_of_touches hT (by decide) _).trans hk
  have hcv : coreOf v d.lcn = coreOf u d.lcn := coreOf_of_touches hT (by decide) _
  have hmatch : resultsMatch v d.tile d.result r = resultsMatch u d.tile d.result r := resultsMatch_of_touches hT (by decide) ..
  have hjudge := calm_judgeReplay d rc r v
  generalize hz : judgeReplay d rc r v = z at hexec hjudge
  have hrefill := calm_refillQueues z
  generalize refillQueues z = t at hexec hrefill
  obtain ⟨h1, h2, -, h4, h5, h6⟩ := refilled_spec hrefill d.lcn d.original
  refine ⟨t, hexec, ?_, fun g hg => ?_, fun hm => ?_, fun hm hun => ?_,
    .mono (by decide) (hT.trans (hjudge.toTouches.trans hrefill.toTouches))⟩
  · rw [hrefill.sobj_eq k (by decide), hjudge.verdictCount_eq, hone]
  · rw [h1, hjudge.lcns]
    exact hverdicts g hg
  · obtain rfl : replayMatches d v = z := (if_pos (hmatch.trans hm)).symm.trans hz
    have hmatches := calm_replayMatches d v
    rw [hkv] at hmatches
    refine ⟨?_, fun hun hgr hc hnone => ?_⟩
    · rw [hrefill.sobj_eq k (by decide), hmatches.sobj_eq k (by decide), sobj_addSobj _ _ _ hy, if_pos rfl, hother _ (by decide)]
    · have hcase : replayMatches d v = noteMatch d (addSobj k (key 0x2607 2) 1 v) := by
        simp only [replayMatches, hkv, hun, Bool.not_false, if_true]
      rw [h2, hcase]
      exact lastMatch_noteMatch (hcv.trans hc) hgr (hlast.trans hnone)
  · obtain rfl : startTieBreak d rc r (addSobj k (key 0x2607 3) 1 v) = z := by
      rw [← hz, judgeReplay, if_neg (by rw [hmatch, hm]; exact Bool.false_ne_true), replayDiffers_of_checked rc r v hun, hkv]
    obtain ⟨hcalm, hentry, hcore⟩ := startTieBreak_spec (d := d) rc r (addSobj k (key 0x2607 3) 1 v)
    refine ⟨?_, h6 ▸ hentry, fun hc => ?_⟩
    · rw [hrefill.sobj_eq k (by decide), hcalm.sobj_eq k (by decide), sobj_addSobj _ _ _ hy, if_pos rfl, hother _ (by decide)]
    · have hstop := hcore (hcv.trans hc)
      have hheld : (core (startTieBreak d rc r (addSobj k (key 0x2607 3) 1 v)) d.original).withheld = true := by
        rw [hstop, withheld_interrupt]
      refine ⟨h4.trans hheld, fun hfree => ?_⟩
      rw [h5 hheld, hstop]
      exact tile_interrupt _ ((hwithheld _).trans hfree)
theorem replayComplete_changed (hu : elapse dt s = u) (he : endingReplay u lcn = some (rc, d)) (ht : (core u rc).test = none)
    (hk : sliceOfLcn u lcn = k) (hs : isStale d fetched = true) (hx : slice u k = some x) :
    ∃ t, exec (.replayComplete dt lcn fetched r0) s = .next t ∧ sobj t k (key 0x2607 4) 0 = sobj u k (key 0x2607 4) 0 + 1 ∧
      sobj t k (key 0x2607 1) 0 = sobj u k (key 0x2607 1) 0 ∧
      (d.unchecked = false → d.group ≠ none → (lcnRec t lcn).makeUp = true) ∧ Touches replayEndParts u t := by
  have hexec := replayComplete_stale (r0 := r0) hu he ht hk hs
  have htake := calm_takeReplay (h := LcnRec.verdicts) (τ := Slice.tally) rc d u
  generalize takeReplay rc d u = w at hexec htake
  have hredo := calm_redoReplay lcn d (addSobj k (key 0x2607 4) 1 w)
  have hmake := makeUp_redoReplay lcn (d := d) (addSobj k (key 0x2607 4) 1 w)
  generalize redoReplay lcn d (addSobj k (key 0x2607 4) 1 w) = z at hexec hredo hmake
  have hrefill := calm_refillQueues z
  generalize refillQueues z = t at hexec hrefill
  obtain ⟨-, -, h3, -⟩ := refilled_spec hrefill lcn 0
  refine ⟨t, hexec, ?_, ?_, fun hun hg => h3.trans (hmake hun hg),
    .mono (by decide) (htake.toTouches.trans ((touches_addSobj ..).trans (hredo.toTouches.trans hrefill.toTouches)))⟩
  · rw [hrefill.sobj_eq k (by decide)]
    exact htake.sobj_succ hredo hx (by decide)
  · rw [hrefill.sobj_eq k (by decide), hredo.sobj_eq k (by decide), sobj_addSobj_ne _ _ _ _ (by decide), htake.sobj_eq k (by decide)]
end
end Sys2Proof.Machine
end

section
/-!
SUPPORT. The ends of arbitrations as whole commands, and the statement on replays and arbitrations.
-/
namespace Sys2Proof.Machine
open Sys2Proof

section
variable {dt lcn n : Nat} {r0 : RunResult} {current : List Word64} {x : Arbitration} {y : Slice} {s : State}

theorem tieBreakComplete_spec (k : Nat) (r : RunResult) (ho : oldestEntry s.tieBreaks lcn = some (n, x)) (hz : frozen s = false)
    (hk : sliceOfLcn s lcn = k) (hr : formedResult s k x.desc.tile r0 = r) (hy : slice s k = some y)
    (ha : aCore s x.desc.original = true) (hb : aCore s x.replayCore = true) :
    ∃ t, exec (.tieBreakComplete dt lcn r0 current) s = .next t ∧ (∀ e ∈ t.tieBreaks, e.1 ≠ n) ∧
      (∀ e ∈ tieNote lcn (tieBreakOut s x r) x, sobj t k e.1 0 = e.2) ∧
      (tieBreakOut s x r = 0 → Charged t x.desc.original 0x10 0x2601) ∧
      (tieBreakOut s x r = 1 → sobj t k (key 0x2607 7) 0 = sobj s k (key 0x2607 7) 0 + 1 ∧ Charged t x.replayCore 0x04 0 ∧
        (coreOf s lcn = some x.desc.original → stateOf s x.desc.original ≠ .quarantined → (core t x.desc.original).withheld = false)) ∧
      (tieBreakOut s x r = 2 → sobj t k (key 0x2607 8) 0 = sobj s k (key 0x2607 8) 0 + 1 ∧ Charged t x.desc.original 0x10 0x2601) ∧
      Touches tieParts (elapse dt s) t := by
  generalize hout : tieBreakOut s x r = out
  have hexec := tieBreakComplete_settles (r0 := r0) (r := r) current (rfl : elapse dt s = _) ho hz hk hr hout
  have hT := touches_closeTieBreak k lcn n out x (elapse dt s)
  obtain ⟨⟨z, hzs⟩, hgone, hshown, hcounts⟩ := closeTieBreak_spec (s := elapse dt s) lcn n out x hy
  generalize closeTieBreak k lcn n out x (elapse dt s) = v at hexec hT hzs hgone hshown hcounts
  have hav : aCore v x.desc.original = true := (aCore_congr (hT.fields_length (by decide))).trans ha
  have hbv : aCore v x.replayCore = true := (aCore_congr (hT.fields_length (by decide))).trans hb
  have hkeys : ∀ e ∈ tieNote lcn out x, e.1 ∈ verdictKeys ∧ e.1 ≠ key 0x2607 7 ∧ e.1 ≠ key 0x2607 8 := fun e he => by
    have : ∀ i ∈ [key 0x2609 1, key 0x2609 2, key 0x2609 3, key 0x2609 4], i ∈ verdictKeys ∧ i ≠ key 0x2607 7 ∧ i ≠ key 0x2607 8 := by decide
    exact this e.1 (List.mem_map_of_mem (f := Prod.fst) he)
  generalize (coreOf (elapse dt s) lcn).getD x.desc.original = home at hexec
  refine ⟨_, hexec, ?_⟩
  match out, hout with
  | 0, hout =>
    obtain ⟨hc, hcharge⟩ := tieOriginal_spec (s := v) (x := x) k lcn home r current hav
    rw [show tieBreakOutcome k lcn home x r current 0 v = tieOriginal k lcn home x r current v from rfl]
    refine ⟨?_, fun e he => ?_, fun _ => hcharge, nofun, nofun, .mono (by decide) (hT.trans hc.toTouches)⟩
    · rwa [show (tieOriginal k lcn home x r current v).tieBreaks = v.tieBreaks from hc.agrees .tieBreaks (by decide)]
    · rw [hc.sobj_eq k (hkeys e he).1, hshown e he]
  | 1, hout =>
    obtain ⟨hc, hcharge, hfree⟩ := tieReplay_spec (s := v) (x := x) k lcn home r current hbv
    rw [show tieBreakOutcome k lcn home x r current 1 v = tieReplay k lcn home x r current v from rfl]
    refine ⟨?_, fun e he => ?_, nofun, fun _ => ⟨?_, hcharge, fun h1 h2 => hfree ?_ ?_⟩, nofun,
      .mono (by decide) (hT.trans ((touches_addSobj ..).trans hc.toTouches))⟩
    · rwa [show (tieReplay k lcn home x r current v).tieBreaks = v.tieBreaks from hc.agrees .tieBreaks (by decide)]
    · rw [hc.sobj_eq k (hkeys e he).1, sobj_addSobj_ne _ _ _ _ (hkeys e he).2.1, hshown e he]
    · rw [hc.sobj_eq k (by decide), sobj_addSobj _ _ _ hzs, if_pos rfl, hcounts _ (by decide)]
      rfl
    · rw [coreOf_of_touches hT (by decide)]
      exact h1
    · rw [stateOf_of_touches hT (by decide)]
      exact h2
  | out + 2, hout =>
    obtain ⟨hc, hcharge⟩ := tieNeither_spec (s := v) (x := x) k lcn home (out + 2) current hav
    rw [show tieBreakOutcome k lcn home x r current (out + 2) v = tieNeither k lcn home (out + 2) x current v from rfl]
    refine ⟨?_, fun e he => ?_, nofun, nofun, fun _ => ⟨?_, hcharge⟩, .mono (by decide) (hT.trans ((touches_addSobj ..).trans hc.toTouches))⟩
    · rwa [show (tieNeither k lcn home (out + 2) x current v).tieBreaks = v.tieBreaks from hc.agrees .tieBreaks (by decide)]
    · rw [hc.sobj_eq k (hkeys e he).1, sobj_addSobj_ne _ _ _ _ (hkeys e he).2.2, hshown e he]
    · rw [hc.sobj_eq k (by decide), sobj_addSobj _ _ _ hzs, if_pos rfl, hcounts _ (by decide)]
      rfl
theorem thirdExecutionComplete_spec (k : Nat) (r : RunResult) (ho : oldestEntry s.thirds lcn = some (n, x)) (hz : frozen s = false)
    (hk : sliceOfLcn s lcn = k) (hr : formedResult s k x.desc.tile r0 = r) (hy : slice s k = some y)
    (ha : aCore s x.desc.original = true) (hb : aCore s x.replayCore = true) :
    ∃ t, exec (.thirdExecutionComplete dt lcn r0 current) s = .next t ∧ (∀ e ∈ t.thirds, e.1 ≠ n) ∧
      (thirdOut s x r = 0 → Charged t x.replayCore 0x11 0 ∧ (core t x.desc.original).withheld = false) ∧
      (thirdOut s x r = 1 → Charged t x.desc.original 0x11 0x2602 ∧ (core t x.replayCore).withheld = false) ∧
      (thirdOut s x r = 2 → Charged t x.desc.original 0x11 0x2602 ∧ Charged t x.replayCore 0x11 0 ∧
        sobj t k (key 0x2608 2) 0 = sobj s k (key 0x2608 2) 0 + 1) ∧
      Touches (.thirds :: startParts) (elapse dt s) t := by
  generalize hout : thirdOut s x r = out
  have hexec := thirdExecutionComplete_settles (r0 := r0) (r := r) current (rfl : elapse dt s = _) ho hz hk hr hout
  have hclose := calm_closeThird n x (elapse dt s)
  have hgone := thirds_closeThird n x (elapse dt s)
  generalize closeThird n x (elapse dt s) = v at hexec hclose hgone
  have hav : aCore v x.desc.original = true := (hclose.aCore_eq _).trans ha
  have hbv : aCore v x.replayCore = true := (hclose.aCore_eq _).trans hb
  have hnone : ∀ t : State, t.thirds = v.thirds → ∀ e ∈ t.thirds, e.1 ≠ n := fun t ht => by
    rw [ht, hgone]
    exact not_mem_tdel
  refine ⟨_, hexec, ?_⟩
  match out, hout with
  | 0, hout =>
    obtain ⟨hT, hcharge, hfree⟩ := thirdLeader_spec (s := v) (x := x) k hbv
    exact ⟨hnone _ (hT.agrees .thirds (by decide)), fun _ => ⟨hcharge, hfree⟩, nofun, nofun, .mono (by decide) (hclose.toTouches.trans hT)⟩
  | 1, hout =>
    obtain ⟨hT, hcharge, hfree⟩ := thirdFollower_spec (s := v) (x := x) k r current hav
    exact ⟨hnone _ (hT.agrees .thirds (by decide)), nofun, fun _ => ⟨hcharge, hfree⟩, nofun, .mono (by decide) (hclose.toTouches.trans hT)⟩
  | out + 2, hout =>
    obtain ⟨hc, hca, hcb⟩ := thirdNeither_spec (s := v) (x := x) k (out + 2) current hav hbv
    have hT := (touches_addSobj k (key 0x2608 2) 1 v).trans hc.toTouches
    exact ⟨hnone _ (hT.agrees .thirds (by decide)), nofun, nofun, fun _ => ⟨hca, hcb, hclose.sobj_succ hc hy (by decide)⟩,
      .mono (by decide) (hclose.toTouches.trans hT)⟩
theorem tieBreakOut_spec (s : State) (x : Arbitration) (r : RunResult) :
    (resultsMatch s x.desc.tile x.replay r = true → tieBreakOut s x r = 0) ∧
    (resultsMatch s x.desc.tile x.replay r = false → resultsMatch s x.desc.tile x.desc.result r = true → tieBreakOut s x r = 1) ∧
    (resultsMatch s x.desc.tile x.replay r = false → resultsMatch s x.desc.tile x.desc.result r = false → tieBreakOut s x r = 2) := by
  refine ⟨fun h => ?_, fun h1 h2 => ?_, fun h1 h2 => ?_⟩ <;> simp [tieBreakOut, *]
theorem thirdOut_spec (s : State) (x : Arbitration) (r : RunResult) :
    (resultsMatch s x.desc.tile x.desc.result r = true → thirdOut s x r = 0) ∧
    (resultsMatch s x.desc.tile x.desc.result r = false → resultsMatch s x.desc.tile x.replay r = true → thirdOut s x r = 1) ∧
    (resultsMatch s x.desc.tile x.desc.result r = false → resultsMatch s x.desc.tile x.replay r = false → thirdOut s x r = 2) := by
  refine ⟨fun h => ?_, fun h1 h2 => ?_, fun h1 h2 => ?_⟩ <;> simp [thirdOut, *]
end

section
variable {dt lcn a b start k : Nat} {l0 f0 leader follower : RunResult} {tile : Tile} {other : Nat × Tile} {y : Slice} {s : State}

/-- What a whole pair's end may change. -/
def pairEndParts : List Part := .views :: .free :: .thirds :: startParts
theorem endPair_of_ne_move (r : LcnRec) {kind : TileKind} (hm : kind ≠ .move) :
    r.endPair kind = if kind = .ineligible then r.progress else (r.progress + 1) % 2 ^ 64 := by
  cases kind with
  | move => exact absurd rfl hm
  | ineligible => rfl
  | contraction => rfl
  | fused => rfl
  | eligible => rfl
theorem fullPairTileEnd_spec (hp : pairCores s lcn = some (a, b)) (ha : (core s a).tile = some (start, tile))
    (hb : (core s b).tile = some other) (hm : tile.kind ≠ .move) (hk : sliceOfLcn s lcn = k) (hl : formedResult s k tile l0 = leader)
    (hf : formedResult s k tile f0 = follower) (hy : slice s k = some y) :
    ∃ t, exec (.fullPairTileEnd dt lcn l0 f0) s = .next t ∧
      (∀ l ∈ [lcn, lcn + 1], (lcnRec t l).progress = if tile.kind = .ineligible then (lcnRec s l).progress
        else ((lcnRec s l).progress + 1) % 2 ^ 64) ∧
      (resultsMatch s tile leader follower = true → OutputsHeld t a tile true) ∧
      (resultsMatch s tile leader follower = false → sobj t k (key 0x2608 1) 0 = sobj s k (key 0x2608 1) 0 + 1 ∧
        (core t a).withheld = true ∧ (core t b).withheld = true ∧
        ∃ e ∈ t.thirds, e.2.desc.original = a ∧ e.2.replayCore = b ∧ e.2.desc.tile = tile) ∧
      Touches pairEndParts (elapse dt s) t := by
  have hexec := fullPairTileEnd_ends (s := s) (rfl : elapse dt s = _) hp ha hb hm hk hl hf
  obtain ⟨hT, hprog, ⟨z, hzs⟩, hcount⟩ := pairEnded_spec k lcn a b tile (elapse dt s) hy
  generalize pairEnded k lcn a b tile (elapse dt s) = v at hexec hT hprog hzs hcount
  have hadv : ∀ t : State, (∀ l, LcnRec.stream (lcnRec t l) = LcnRec.stream (lcnRec v l)) → ∀ l ∈ [lcn, lcn + 1], (lcnRec t l).progress =
      if tile.kind = .ineligible then (lcnRec s l).progress else ((lcnRec s l).progress + 1) % 2 ^ 64 := fun t ht l hin =>
    (congrArg LcnRec.progress (ht l) :).trans ((hprog l hin).trans (endPair_of_ne_move _ hm))
  have hmatch : resultsMatch v tile leader follower = resultsMatch s tile leader follower := resultsMatch_of_touches hT (by decide) ..
  cases hsame : resultsMatch s tile leader follower with
  | true =>
    rw [if_pos (hmatch.trans hsame)] at hexec
    have hrel := calm_releaseOutputs a tile leader.words v
    have hblocks := outputsHeld_releaseOutputs a tile leader.words v
    generalize releaseOutputs a tile leader.words v = w at hexec hrel hblocks
    have hstart := calm_startHeld b w
    refine ⟨_, hexec, hadv _ fun l => (hstart.lcns l).trans (hrel.lcns l), fun _ => ?_, nofun,
      .mono (by decide) (hT.trans (hrel.toTouches.trans hstart.toTouches))⟩
    exact hblocks.of_calm (congrArg Prod.fst (hstart.cores a))
  | false =>
    rw [if_neg (by rw [hmatch, hsame]; exact Bool.false_ne_true)] at hexec
    obtain ⟨hwith, hwa, hwb⟩ := withholdPair_spec k a b tile leader v
    generalize withholdPair k a b tile leader v = w at hexec hwith hwa hwb
    obtain ⟨hthird, e, he, hdesc, hcore⟩ := startThird_spec lcn b (pairDescriptor k lcn a start tile leader (elapse dt s)) follower w
    refine ⟨_, hexec, hadv _ fun l => (hthird.lcns l).trans (hwith.lcns l), nofun, fun _ => ⟨?_, (hthird.cores a).trans hwa,
      (hthird.cores b).trans hwb, e, he, congrArg Descriptor.original hdesc, hcore, congrArg Descriptor.tile hdesc⟩,
      .mono (by decide) (hT.trans ((touches_addSobj ..).trans (hwith.toTouches.trans hthird.toTouches)))⟩
    rw [hthird.sobj_eq k (by decide), hwith.sobj_eq k (by decide), sobj_addSobj _ _ _ hzs, if_pos rfl, hcount]
    rfl
end

/-! ### The statement -/

/-- Settles O26: each clause is its command on the verdict at hand, and what follows the verdict leaves what the clause reads. -/
theorem replaysAndArbitrations : Obligations.ReplaysAndArbitrations := by
  refine ⟨fun dt lcn fetched r0 rc d x s he hx ht => ?_, fun dt lcn r0 current n x y s ho hy hz hp => ?_, fun dt lcn group a x s ha hat hx => ?_,
    fun dt lcn l0 f0 a b start tile other x s hp ha hb hm hx => ?_, fun dt lcn r0 current n x y s ho hy hz hp => ?_,
    fun dt u a s ha hw hat htb hth hev hop hs hc hm => ?_⟩
  · intro k r same
    have hframe : ∀ {t : State}, Touches replayEndParts (elapse dt s) t → t = blend replayEndParts (elapse dt s) t := fun h => h.eq_blend
    cases hs : isStale d fetched with
    | true =>
      obtain ⟨t, hexec, h4, h1, hmake, hT⟩ := replayComplete_changed (dt := dt) (r0 := r0) rfl he ht rfl hs hx
      refine ⟨t, hexec, fun hsame => ?_, fun _ => ⟨h4, h1, hmake⟩, hframe hT⟩
      obtain ⟨hd, hf, hw⟩ := hsame
      exact nomatch (isStale_eq_false hd hf hw).symm.trans hs
    | false =>
      obtain ⟨t, hexec, h1, hv, hmatch, hdiff, hT⟩ := replayComplete_same (dt := dt) (r0 := r0) rfl he ht rfl rfl hs hx
      refine ⟨t, hexec, fun _ => ⟨h1, hv, hmatch, hdiff⟩, fun hf => ?_, hframe hT⟩
      exact nomatch (isStale_of_ne hf).symm.trans hs
  · intro k r
    obtain ⟨t, hexec, hgone, hshown, h0, h1, h2, hT⟩ := tieBreakComplete_spec (dt := dt) (current := current) k r ho hz rfl rfl hy
      (hp _ (by simp)) (hp _ (by simp))
    obtain ⟨ho0, ho1, ho2⟩ := tieBreakOut_spec s x r
    have hout := hshown (key 0x2609 4, tieBreakOut s x r) (by simp [tieNote])
    refine ⟨t, hexec, hgone, hshown (key 0x2609 1, _) (by simp [tieNote]), hshown (key 0x2609 2, _) (by simp [tieNote]),
      hshown (key 0x2609 3, _) (by simp [tieNote]), fun hm => ⟨hout.trans (ho0 hm), h0 (ho0 hm)⟩,
      fun hm hm' => ⟨hout.trans (ho1 hm hm'), h1 (ho1 hm hm')⟩, fun hm hm' => ⟨hout.trans (ho2 hm hm'), h2 (ho2 hm hm')⟩,
      (Touches.mono (S := .turn :: tieParts) (by decide) hT).eq_blend⟩
  · intro k
    obtain ⟨t, y, hexec, hy, hrec, hshort, hcount, hbound, hT⟩ := replayGroupEnd_spec dt ha hat hx
    refine ⟨t, y, hexec, hy, ?_, ?_, fun hin => ⟨?_, ?_⟩, fun hin => ⟨?_, ?_, ?_⟩, hbound,
      (Touches.mono (S := [.dies, .lcns, .slices, .turn]) (by decide) hT).eq_blend⟩
    · rw [hrec]
      exact (tget_tdel ..).trans (if_pos rfl)
    · rw [hrec]
      simp [LcnRec.closeGroup]
    · rw [hrec]
      simp [LcnRec.closeGroup, hin]
    · rw [hshort]
      simp [Slice.noteShort, hin]
    · rw [hrec]
      simp [LcnRec.closeGroup, hin]
    · rw [hshort]
      simp [Slice.noteShort, hin, mem_addHold]
    · rw [hcount, if_neg (by simpa using hin)]
  · intro k leader follower
    obtain ⟨t, hexec, hprog, hsame, hdiff, hT⟩ := fullPairTileEnd_spec (dt := dt) (l0 := l0) (f0 := f0) hp ha hb hm rfl rfl rfl hx
    exact ⟨t, hexec, hprog, hsame, hdiff, (Touches.mono (S := .turn :: pairEndParts) (by decide) hT).eq_blend⟩
  · intro k r
    obtain ⟨t, hexec, hgone, h0, h1, h2, hT⟩ := thirdExecutionComplete_spec (dt := dt) (current := current) k r ho hz rfl rfl hy
      (hp _ (by simp)) (hp _ (by simp))
    obtain ⟨ho0, ho1, ho2⟩ := thirdOut_spec s x r
    exact ⟨t, hexec, hgone, fun hm => h0 (ho0 hm), fun hm hm' => h1 (ho1 hm hm'), fun hm hm' => h2 (ho2 hm hm'),
      (Touches.mono (S := .turn :: .thirds :: startParts) (by decide) hT).eq_blend⟩
  · refine ⟨_, withholdRepeat_reports dt ha hw hat htb hth hev hop hs hm, charged_reportCause 0x10 0 (sliceOfUnit s u.toNat) [] [] hc, ?_⟩
    exact (Touches.mono (S := [.dies, .fields, .clusters, .turn]) (by decide) (touches_raise ..)).eq_blend

end Sys2Proof.Machine
end
